-- ==== Sys2Proof/Word.lean ====
section
/-! DEFINITION. The plain data types of the model: words, bytes, lines, sparse tables, the cell (R161), and the
small enumerations that the commands and the state share. Types only; every operation on them stands in
`Machine/`. -/

namespace Sys2Proof

/-- A register or Plate word: 32 bits (R6, R53). -/
abbrev Word := BitVec 32

/-- A byte. -/
abbrev Byte := BitVec 8

/-- A 64-byte memory line, cell payload or operation descriptor; byte `k` is bits `[8k+7:8k]` (R4). -/
abbrev Line := BitVec 512

/-- A 15-bit endpoint ID (R17). -/
abbrev Endpoint := BitVec 15

/-- A 16-bit partition key. -/
abbrev Pkey := BitVec 16

/-- A sparse table: key and value pairs with strictly rising keys, listing no entry that holds the default. -/
abbrev Tab (α : Type) := List (Nat × α)

/-- A link number, 0 to 31. -/
abbrev LinkIx := Fin 32

/-- A lane number, 0 to 287: lane `9n + k` is lane `k` of link `n` (R532). -/
abbrev LaneIx := Fin 288

/-- A host window, 0 to 15. -/
abbrev Win := Fin 16

/-- The source of a register access: window 0 to 15, or 16 for a remote access (R524). -/
abbrev Source := Fin 17

/-- A memory channel port, 0 to 87: 0 to 63 near, 64 to 87 far. -/
abbrev Port := Fin 88

/-- A collective context slot, 0 to 63. -/
abbrev CtxIx := Fin 64

/-- A cell: the header of Table 06-1 and its 64-byte payload (R161). -/
structure Cell where
  dest      : Endpoint
  epoch     : Bool
  src       : Endpoint
  cm        : Bool
  pkey      : Pkey
  cls       : BitVec 3
  typ       : BitVec 6
  last      : Bool
  mcast     : Bool
  tree      : BitVec 2
  deflected : Bool
  echo      : Bool
  alt       : Bool
  tag       : BitVec 16
  index     : BitVec 12
  hop       : BitVec 4
  time      : BitVec 32
  ack       : BitVec 16
  nak       : BitVec 16
  seq       : BitVec 16
  hchk      : BitVec 16
  payload   : Line
deriving DecidableEq, Repr

/-- Who asserted a node reset (Table 17-1): the pin, a host window's write of KPR_RESET.NODE, a remote write, or
the retention check of R510. -/
inductive ResetBy where
  | pin (low : Bool)
  | window (w : Win)
  | remote
deriving DecidableEq, Repr

/-- A domain that gates while the node runs (Table 02-6). -/
inductive Domain where
  | lane (l : LaneIx)
  | link (n : LinkIx)
  | eru
deriving DecidableEq, Repr

/-- A multi-bit power-controller input, as two consecutive Keeper-cycle samples (R541). -/
inductive Sideband where
  | holdup (a b : BitVec 16) (vld : Bool)
  | retained (a b : BitVec 2)
  | throttle (a b : BitVec 3)
deriving DecidableEq, Repr

/-- The two ways a descriptor is submitted (Table 07-1): from a host window's ring, from a seat's DESC cell. -/
inductive Submitter where
  | window (w : Win)
  | seat (s : Fin 16)
deriving DecidableEq, Repr

/-- An operation handed to the issue steps: who submitted it, whether a cue fired it, the TAG of a seat's answer (its DESC
cell's, or 0xC000 + cue ID), the TIME of the DESC cell (for a fired cue, of the one that armed it; 0 from a window), and its
64-byte descriptor (Table 07-1). -/
structure Issue where
  who  : Submitter
  cue  : Bool
  tag  : BitVec 16
  time : BitVec 32
  desc : Line
deriving DecidableEq, Repr

/-- What a drain deadline names: a disabled partition, host window or completion queue (R229), or a group (R319). -/
inductive Drain where
  | partition (k : Pkey)
  | group (g : Fin 4096)
  | window (w : Win)
  | queue (q : Fin 256)
deriving DecidableEq, Repr

/-- A host access to the mapping range: a read of 4, 8 or 64 bytes, or a write of that many bytes (R527). -/
inductive MapAccess where
  | read4 | read8 | read64
  | write4 (d : BitVec 32)
  | write8 (d : BitVec 64)
  | write64 (d : Line)
deriving DecidableEq, Repr

/-- What one lane brings of a received slot (R124, R125): the message bit of its first codeword at which its part begins, that
codeword as the levels at the pins (symbol `u` in bits `[2u+1:2u]`), and the next one where the part may cross into it and the stream
goes on. -/
structure SlotPart where
  lane   : Fin 9
  offset : Fin 2570
  first  : BitVec 2720
  second : Option (BitVec 2720)
deriving DecidableEq, Repr

/-- A burst's marker as a receiver finds it (R110, R121): the lane, and the UI of its count at which codeword 0 begins. -/
structure Burst where
  lane : LaneIx
  ui   : Nat
deriving DecidableEq, Repr

end Sys2Proof
end

