-- ==== Sys2Proof/Syntax.lean ====
section
/-! DEFINITION. The commands a Zildin node takes: one constructor per row of spec/opcode_table.json, with the
operands its rule names. A cell-receipt row carries the cell; a register row carries the source of the access. -/

namespace Sys2Proof

/-- The commands of the opcode table. -/
inductive Instr where
  /-- KEEPER_POWER_ON_RESET (R502). -/
  | keeperPowerOnReset (straps : BitVec 10)
  /-- NODE_RESET (R504). -/
  | nodeReset (src : ResetBy)
  /-- HOST_WINDOW_RESET (R498). -/
  | hostWindowReset (w : Win)
  /-- FIRMWARE_BOOT (R505). -/
  | firmwareBoot (image : List Byte)
  /-- RUN (R511). -/
  | run (w : Option Win)
  /-- WAKE_TABLES_READY (R511). -/
  | wakeTablesReady
  /-- SLEEP (R509). -/
  | sleep (w : Win)
  /-- SLEEP_ENTRY_DONE (R509). -/
  | sleepEntryDone
  /-- FAULT_SOURCE_ASSERT (R469). -/
  | faultSourceAssert (src : Fin 2048) (t c : Bool) (unit : BitVec 16) (detail : Word)
  /-- RAIL_BREAK (R470). -/
  | railBreak (src : Fin 2048)
  /-- RAIL_TEST (R471). -/
  | railTest (src : Fin 2048) (first second : BitVec 2)
  /-- FAULT_ACTIVE_CLEAR (R475). -/
  | faultActiveClear (a : Source) (word : Fin 4) (value : Word)
  /-- POWER_FAIL_WARNING (R541). -/
  | powerFailWarning
  /-- REF_CLOCK_LOST (R546). -/
  | refClockLost
  /-- TEMP_SAMPLE (R515). -/
  | tempSample (temps : Vector (BitVec 12) 8)
  /-- THROTTLE_STEP (R516). -/
  | throttleStep
  /-- SIDEBAND_INPUT (R541). -/
  | sidebandInput (i : Sideband)
  /-- DOMAIN_GATE (R40). -/
  | domainGate (d : Domain) (stopped : Bool)
  /-- DOMAIN_WAKE (R43). -/
  | domainWake (d : Domain)
  /-- SYNC_WAKE (R41). -/
  | syncWake (n : LinkIx)
  /-- OPEN (R60). -/
  | openEng (w : Win)
  /-- PLT_ENG_LEN_WRITE (R63). -/
  | pltEngLenWrite (w : Win) (value : Word)
  /-- ENGRAVE_WORD (R61). -/
  | engraveWord (w : Win) (value : Word)
  /-- CLOSE (R62). -/
  | closeEng (w : Win)
  /-- VERIFICATION_DONE (R64). -/
  | verificationDone
  /-- CANCEL (R66). -/
  | cancel (w : Win)
  /-- SEAL (R68). -/
  | sealPlate (w : Win)
  /-- ARM (R73). -/
  | arm (a : Source)
  /-- DISARM (R75). -/
  | disarm (a : Source)
  /-- FLIP (R74). -/
  | flip
  /-- RETIRE_RELEASE (R75). -/
  | retireRelease
  /-- PROOF_SWEEP (R80). -/
  | proofSweep (i : Issue)
  /-- SWEEP_RX (R81). -/
  | sweepRx (c : Cell)
  /-- SWEEP_RESEND (R81). -/
  | sweepResend (k : CtxIx)
  /-- TRAINING_FRAME_RX (R92). -/
  | trainingFrameRx (l : LaneIx) (frame : BitVec 2048) (ppm : BitVec 16)
  /-- LANE_LOCKED (R95). -/
  | laneLocked (l : LaneIx) (met : Bool)
  /-- TRAIN_TIMEOUT (R98). -/
  | trainTimeout (l : LaneIx)
  /-- LOS (R114). -/
  | los (l : LaneIx)
  /-- LOL (R114). -/
  | lol (l : LaneIx)
  /-- FEC_LIMIT (R114). -/
  | fecLimit (l : LaneIx) (word : BitVec 2720) (more : List (BitVec 2720))
  /-- STANDBY_CHECK (R113). -/
  | standbyCheck (l : LaneIx)
  /-- WAKE_FAILURE (R112). -/
  | wakeFailure (l : LaneIx)
  /-- FORCE_FAIL (R114). -/
  | forceFail (a : Source) (l : LaneIx)
  /-- CLEAR_FAIL (R116). -/
  | clearFail (a : Source) (l : LaneIx)
  /-- LANE_RETRAIN (R142). -/
  | laneRetrain (a : Source) (l : LaneIx)
  /-- TX_IDLE_ENTER (R108). -/
  | txIdleEnter (l : LaneIx)
  /-- SIGNAL_DETECT (R111). -/
  | signalDetect (l : LaneIx)
  /-- ENGINE_BRINGUP (R105). -/
  | engineBringup (e : Fin 64) (revision : Byte) (moduleState : BitVec 3) (activated : Bool)
  /-- ENGINE_POLL (R106). -/
  | enginePoll (e : Fin 64) (flags : Option (BitVec 160))
  /-- ENGINE_INTERRUPT (R533). -/
  | engineInterrupt (e : Fin 64) (flags : Option (BitVec 160))
  /-- CMIS_READ_GO (R107). -/
  | cmisReadGo (a : Source) (value : Word)
  /-- CMIS_READ_DONE (R107). -/
  | cmisReadDone (b : Option Byte)
  /-- SCAN_START (R117). -/
  | scanStart (a : Source) (l : LaneIx) (value : Word)
  /-- SCAN_STOP (R117). -/
  | scanStop (a : Source) (l : LaneIx)
  /-- SCAN_DONE (R117). -/
  | scanDone (l : LaneIx) (errors : Word)
  /-- LINK_TX_SLOT (R131). -/
  | linkTxSlot (n : LinkIx)
  /-- SEQUENCED_CELL_RX (R133). -/
  | sequencedCellRx (n : LinkIx) (form : BitVec 2) (parts : List SlotPart)
  /-- NULL_CELL_RX (R140). -/
  | nullCellRx (n : LinkIx) (c : Cell)
  /-- ACK_CELL_RX (R140). -/
  | ackCellRx (n : LinkIx) (c : Cell)
  /-- CREDIT_CELL_RX (R129). -/
  | creditCellRx (n : LinkIx) (c : Cell)
  /-- IDENT_RX (R148). -/
  | identRx (n : LinkIx) (c : Cell)
  /-- RETRAIN_CELL_RX (R142). -/
  | retrainCellRx (n : LinkIx) (c : Cell)
  /-- DOWN_CELL_RX (R156). -/
  | downCellRx (n : LinkIx) (c : Cell)
  /-- PROTEST_RX (R154). -/
  | protestRx (n : LinkIx) (c : Cell)
  /-- REPLAY_TIMEOUT (R137). -/
  | replayTimeout (n : LinkIx)
  /-- ACK_DELAY (R138). -/
  | ackDelay (n : LinkIx)
  /-- TRAIN_COMPLETE (R142). -/
  | trainComplete (n : LinkIx)
  /-- IDENT_LIMIT (R142). -/
  | identLimit (n : LinkIx)
  /-- RETRAIN_LIMIT (R142). -/
  | retrainLimit (n : LinkIx)
  /-- REALIGN_DONE (R153). -/
  | realignDone (n : LinkIx) (words : List (Fin 9 × BitVec 2720))
  /-- REALIGN_TIMEOUT (R153). -/
  | realignTimeout (n : LinkIx)
  /-- LINK_RETRAIN (R142). -/
  | linkRetrain (a : Source) (n : LinkIx)
  /-- RESTART (R142). -/
  | restart (a : Source) (n : LinkIx)
  /-- FORCE_DOWN (R156). -/
  | forceDown (a : Source) (n : LinkIx)
  /-- CLEAR_RESTRICT (R155). -/
  | clearRestrict (a : Source) (n : LinkIx)
  /-- LINK_DISABLE (R158). -/
  | linkDisable (a : Source) (n : LinkIx) (value : Word)
  /-- LINK_ENABLE (R158). -/
  | linkEnable (a : Source) (n : LinkIx) (value : Word)
  /-- LINK_DRAIN_DEADLINE (R158). -/
  | linkDrainDeadline (n : LinkIx)
  /-- CELL_OUTPUT_CHOICE (R175). -/
  | cellOutputChoice
  /-- DEFERRED_EJECTION (R169). -/
  | deferredEjection (n : LinkIx)
  /-- ECHO_RX (R189). -/
  | echoRx (c : Cell)
  /-- ECHO_WAIT (R188). -/
  | echoWait (node : Fin 1024)
  /-- INC_PERIOD (R189). -/
  | incPeriod (node : Fin 1024)
  /-- SEAT_FENCE_WRITE (R185). -/
  | seatFenceWrite (a : Source) (value : Word)
  /-- DOORBELL (R196). -/
  | doorbell (w : Win) (value : Word)
  /-- DESC_RX (R197). -/
  | descRx (c : Cell)
  /-- ISSUE_RESUME (R201). -/
  | issueResume (who : Submitter)
  /-- LOAD (R213). -/
  | load (i : Issue)
  /-- STORE (R212). -/
  | store (i : Issue)
  /-- STORE_ORD (R218). -/
  | storeOrd (i : Issue)
  /-- COPY (R215). -/
  | copy (i : Issue)
  /-- FILL (R209). -/
  | fill (i : Issue)
  /-- ATOM_IADD (R248). -/
  | atomIadd (i : Issue)
  /-- ATOM_CAS (R248). -/
  | atomCas (i : Issue)
  /-- ATOM_SWAP (R248). -/
  | atomSwap (i : Issue)
  /-- ATOM_FADD_F (R248). -/
  | atomFaddF (i : Issue)
  /-- ATOM_FADD_X_ADD (R357). -/
  | atomFaddXAdd (i : Issue)
  /-- ATOM_FADD_X_READ (R357). -/
  | atomFaddXRead (i : Issue)
  /-- ATOM_FADD_X_CLEAR (R357). -/
  | atomFaddXClear (i : Issue)
  /-- OUTCOME (R227). -/
  | outcome (i : Issue)
  /-- ABORT (R228). -/
  | abort (i : Issue)
  /-- ABORT_CONTEXT (R318). -/
  | abortContext (i : Issue)
  /-- CUE_ADD (R272). -/
  | cueAdd (i : Issue)
  /-- CUE_ARM_CUES (R263). -/
  | cueArmCues (i : Issue)
  /-- CUE_ARM_ARRIVAL (R275). -/
  | cueArmArrival (i : Issue)
  /-- CUE_ARM_DISARM (R275). -/
  | cueArmDisarm (i : Issue)
  /-- RED_IN_OPEN (R290). -/
  | redInOpen (i : Issue)
  /-- RED_IN_MEMBER (R291). -/
  | redInMember (i : Issue)
  /-- RED_OUT (R301). -/
  | redOut (i : Issue)
  /-- ALLGATHER_OPEN (R311). -/
  | allgatherOpen (i : Issue)
  /-- ALLGATHER_MEMBER (R309). -/
  | allgatherMember (i : Issue)
  /-- BCAST_OPEN (R311). -/
  | bcastOpen (i : Issue)
  /-- BCAST_MEMBER (R309). -/
  | bcastMember (i : Issue)
  /-- ALLTOALL_OPEN (R313). -/
  | alltoallOpen (i : Issue)
  /-- ALLTOALL_MEMBER (R313). -/
  | alltoallMember (i : Issue)
  /-- BARRIER_OPEN (R306). -/
  | barrierOpen (i : Issue)
  /-- BARRIER_MEMBER (R306). -/
  | barrierMember (i : Issue)
  /-- NORM_OPEN (R308). -/
  | normOpen (i : Issue)
  /-- NORM_MEMBER (R308). -/
  | normMember (i : Issue)
  /-- UPDATE (R366). -/
  | update (i : Issue)
  /-- DIGEST_REGION (R446). -/
  | digestRegion (i : Issue)
  /-- DIGEST_VERIFY (R447). -/
  | digestVerify (i : Issue)
  /-- SEAL_RECORD (R448). -/
  | sealRecord (i : Issue)
  /-- INTERMISSION (R407). -/
  | intermission (i : Issue)
  /-- RESUME (R414). -/
  | resume (i : Issue)
  /-- COMMIT (R494). -/
  | commit (i : Issue)
  /-- COMMIT_SLOT_WRITE (R494). -/
  | commitSlotWrite
  /-- HOLDUP_RECHECK (R493). -/
  | holdupRecheck
  /-- LOAD_REQ_RX (R213). -/
  | loadReqRx (c : Cell)
  /-- STORE_DATA_RX (R212). -/
  | storeDataRx (c : Cell)
  /-- BULK_DATA_RX (R212). -/
  | bulkDataRx (c : Cell)
  /-- ATOMIC_REQ_RX (R225). -/
  | atomicReqRx (c : Cell)
  /-- COPY_FWD_RX (R215). -/
  | copyFwdRx (c : Cell)
  /-- FILL_REQ_RX (R209). -/
  | fillReqRx (c : Cell)
  /-- OUTCOME_REQ_RX (R227). -/
  | outcomeReqRx (c : Cell)
  /-- ABORT_REQ_RX (R228). -/
  | abortReqRx (c : Cell)
  /-- COLLECTIVE_ABORT_REQ_RX (R318). -/
  | collectiveAbortReqRx (c : Cell)
  /-- LOAD_DATA_RX (R213). -/
  | loadDataRx (c : Cell)
  /-- COMPLETION_CHUNK_RX (R212). -/
  | completionChunkRx (c : Cell)
  /-- ATOMIC_RSP_RX (R220). -/
  | atomicRspRx (c : Cell)
  /-- OUTCOME_RSP_RX (R227). -/
  | outcomeRspRx (c : Cell)
  /-- NOTICE_RX (R554). -/
  | noticeRx (c : Cell)
  /-- OPERATION_TIMEOUT (R224). -/
  | operationTimeout (tag : Fin 16384)
  /-- BUSY_BACKOFF (R214). -/
  | busyBackoff (tag : Fin 16384)
  /-- TAG_REUSE_HOLD (R207). -/
  | tagReuseHold (tag : Fin 16384)
  /-- ORDERING_CONTEXT_RELEASE (R219). -/
  | orderingContextRelease (k : Fin 4096)
  /-- CQ_HEAD_WRITE (R221). -/
  | cqHeadWrite (a : Source) (q : Fin 256) (value : Word)
  /-- CQ_ENABLE (R221). -/
  | cqEnable (a : Source) (q : Fin 256) (value : Word)
  /-- CQ_DISABLE (R229). -/
  | cqDisable (a : Source) (q : Fin 256) (value : Word)
  /-- DRAIN_DEADLINE (R229). -/
  | drainDeadline (d : Drain)
  /-- CHANNEL_RESPONSE (R536). -/
  | channelResponse (p : Port) (id : Byte) (wr : Bool) (stat : BitVec 2) (data : Line) (code : BitVec 16) (poison : Bool)
  /-- CHANNEL_READY_FALL (R252). -/
  | channelReadyFall (p : Port)
  /-- CHANNEL_READY_RISE (R252). -/
  | channelReadyRise (p : Port)
  /-- CHAN_HOLD (R253). -/
  | chanHold (p : Port)
  /-- RSP_TIMEOUT (R253). -/
  | rspTimeout (p : Port)
  /-- ZEROING_DONE (R240). -/
  | zeroingDone (region : BitVec 16)
  /-- SCRUB_DONE (R239). -/
  | scrubDone
  /-- CTR_KEY_WRITE (R258). -/
  | ctrKeyWrite (a : Source) (b : Fin 1024) (value : Word)
  /-- CUE_FIRE (R264). -/
  | cueFire (cue : Fin 16384)
  /-- PAUSE (R271). -/
  | pause (a : Source) (value : Word)
  /-- CUE_ADD_RX (R273). -/
  | cueAddRx (c : Cell)
  /-- GATHER_DATA_RX (R311). -/
  | gatherDataRx (c : Cell)
  /-- PIECE_ENTRY (R277). -/
  | pieceEntry (t : Fin 4352)
  /-- ARR_HEAD_WRITE (R280). -/
  | arrHeadWrite (a : Source) (ch : Fin 64) (value : Word)
  /-- CONTEXT_ADMIT (R290). -/
  | contextAdmit
  /-- MEMBER_WAIT_TIMEOUT (R291). -/
  | memberWaitTimeout
  /-- GRANT_RX (R293). -/
  | grantRx (c : Cell)
  /-- DONE_RX (R340). -/
  | doneRx (c : Cell)
  /-- REGRANT (R294). -/
  | regrant (k : CtxIx)
  /-- CONTRIB_RX (R296). -/
  | contribRx (c : Cell)
  /-- PARTIAL_CF_RX (R296). -/
  | partialCfRx (c : Cell)
  /-- A2A_COUNTS_RX (R314). -/
  | a2aCountsRx (c : Cell)
  /-- A2A_DATA_RX (R314). -/
  | a2aDataRx (c : Cell)
  /-- CONTEXT_TIMEOUT (R303). -/
  | contextTimeout (k : CtxIx)
  /-- REPLAY_PASS (R354). -/
  | replayPass (k : CtxIx)
  /-- BARRIER_RELEASE (R466). -/
  | barrierRelease (k : CtxIx)
  /-- ERU_CELL_KEY_WRITE (R355). -/
  | eruCellKeyWrite (a : Source) (b : Fin 1024) (value : Word)
  /-- UPDATE_SEGMENT (R372). -/
  | updateSegment (u : Fin 64)
  /-- UPDATE_CONTEXT_TIMEOUT (R374). -/
  | updateContextTimeout (u : Fin 64)
  /-- UPDATE_GATE_TIMEOUT (R378). -/
  | updateGateTimeout (u : Fin 64)
  /-- FREEZE (R409). -/
  | freeze
  /-- HUSH_QUIET (R410). -/
  | hushQuiet
  /-- HUSH_LIMIT (R410). -/
  | hushLimit
  /-- IMAGE_WRITTEN (R413). -/
  | imageWritten
  /-- RESUME_TIME (R415). -/
  | resumeTime
  /-- SCRIPT_ENABLE (R417). -/
  | scriptEnable (a : Source) (value : Word)
  /-- HOST_DATA_CLOSE (R417). -/
  | hostDataClose
  /-- DOORBELL_RELEASE (R52). -/
  | doorbellRelease
  /-- SEAT_INPUT_RELEASE (R419). -/
  | seatInputRelease
  /-- ATTEST_REQ (R427). -/
  | attestReq (w : Win)
  /-- SHARE (R429). -/
  | share (w : Win)
  /-- CERT_REQ (R426). -/
  | certReq (w : Win)
  /-- RECORD_GET (R448). -/
  | recordGet (w : Win)
  /-- ENROL (R430). -/
  | enrol (w : Win)
  /-- REVOKE (R430). -/
  | revoke (w : Win)
  /-- FUSE_WRITE_DONE (R430). -/
  | fuseWriteDone
  /-- SESSION_EXPIRE (R427). -/
  | sessionExpire (x : Fin 16)
  /-- RNG_HEALTH_FAIL (R425). -/
  | rngHealthFail
  /-- SYNC_TX (R455). -/
  | syncTx (n : LinkIx)
  /-- SYNC_RX (R457). -/
  | syncRx (n : LinkIx) (c : Cell)
  /-- CANDIDATE_EXPIRE (R458). -/
  | candidateExpire (n : LinkIx)
  /-- CLOCK_FREE_TIMEOUT (R459). -/
  | clockFreeTimeout
  /-- HOLDOVER_BOUND (R461). -/
  | holdoverBound
  /-- NODE_SILENCE (R483). -/
  | nodeSilence (node : Fin 1024)
  /-- PROBE (R483). -/
  | probe (node : Fin 1024)
  /-- LOST_RX (R484). -/
  | lostRx (n : LinkIx) (c : Cell)
  /-- BEACON (R488). -/
  | beacon
  /-- BEACON_RX (R488). -/
  | beaconRx (n : LinkIx) (c : Cell)
  /-- CURTAIN_LOWERED (R489). -/
  | curtainLowered (slot : Fin 4096)
  /-- FAULT_REC_RX (R478). -/
  | faultRecRx (c : Cell)
  /-- GO_READ (R499). -/
  | goRead (w : Win)
  /-- GO_WRITE (R499). -/
  | goWrite (w : Win)
  /-- GO_PING (R499). -/
  | goPing (w : Win)
  /-- FM_READ_RX (R499). -/
  | fmReadRx (c : Cell)
  /-- FM_WRITE_RX (R499). -/
  | fmWriteRx (c : Cell)
  /-- FM_PING_RX (R499). -/
  | fmPingRx (c : Cell)
  /-- FM_RSP_RX (R499). -/
  | fmRspRx (c : Cell)
  /-- BAD_SIZE_ACCESS (R6). -/
  | badSizeAccess (w : Win) (wr : Bool) (off : BitVec 26)
  /-- HOST_MAP_ACCESS (R497). -/
  | hostMapAccess (w : Win) (off : BitVec 26) (acc : MapAccess)
  /-- REGISTER_WRITE (R9). -/
  | registerWrite (w : Win) (off : BitVec 26) (value : Word)
  /-- CHANNEL_REQUEST_ACCEPT (R535). -/
  | channelRequestAccept (p : Port)
  /-- REGISTER_READ (R9). -/
  | registerRead (w : Win) (off : BitVec 26)
  /-- FM_REQUEST_TIMEOUT (R499). -/
  | fmRequestTimeout (w : Win)
  /-- BURST_RX (R110). -/
  | burstRx (b : Burst)
  /-- RX_IDLE_ENTER (R108). -/
  | rxIdleEnter (l : LaneIx)
  /-- EXECUTED_TAG_RECORD_EXPIRE (R226). -/
  | executedTagRecordExpire
  /-- OUTCOME_CLOSURE_EXPIRE (R227). -/
  | outcomeClosureExpire
deriving DecidableEq, Repr

end Sys2Proof
end

