-- ==== Sys2Proof/Decode.lean ====
section
/-! DEFINITION. The commands that a word spells by the opcode table's bits. No row of spec/opcode_table.json gives
bits: its rows are commands of a block, not encoded words, so no word spells a command. -/

namespace Sys2Proof

/-- The command spelled by a word of `nbits` bits of the opcode table: none, since no row gives bits. -/
def decodeTableWord (_nbits _w : Nat) : Option Instr := none

end Sys2Proof
end

