-- ==== Sys2Proof/Config.lean ====
section
/-! DEFINITION. What the spec leaves open: opaque constants without a body, so that no proof can rest on a value of one.
Each is named in an assumption-log entry. -/

namespace Sys2Proof.Config

/-- A value the spec leaves open; the argument is the model's own counter of such values. -/
opaque freeNat : Nat → Nat

/-- The part's fused unique device secret (R423). -/
opaque uds : BitVec 384

/-- The SHA-384 of the stepping's boot ROM (R423). -/
opaque bootRom : BitVec 384

/-- Cuond's firmware key, held in the boot ROM (R505). -/
opaque firmwareKey : BitVec 768

/-- The DER bytes of the Alias certificate of a part (R424), by its Alias public key and measurements. -/
opaque aliasCert : BitVec 768 → BitVec 384 → List Byte

/-- The output of the node's random generator (R425), by draw number. -/
opaque drbg : Nat → BitVec 384

/-- The place, among the segments that the contexts hold, of the segment record of a number (R338, Table 11-9): the spec does not say
which record a segment takes. -/
opaque segPlace : Nat → Nat

end Sys2Proof.Config
end

