-- ==== Sys2Proof/Machine/RegMap.lean ====
section
/-! DEFINITION. The aperture's offsets by name (Tables 18-7 to 18-19) and the reset value of every word register
(R531). -/

namespace Sys2Proof.Machine

namespace R
/-! ### KPR (Table 18-7) -/
def kprId := 0x0
def kprArithRevs := 0x4
def kprPos := 0x40
def kprDomain := 0x60
def kprLinkAwake := 0x64
def kprIdle := 0x68
def intmStatus := 0x100
def intmFreeze := 0x104
def intmNeed := 0x10C
def intmStopped := 0x114
def intmResets := 0x118
def intmDigest := 0x140
def faultCfg := 0x200
def faultStatus := 0x204
def faultLost := 0x208
def faultSeq := 0x20C
def faultLogSel := 0x210
def faultLog := 0x214
def faultActive := 0x240
def railBreaks := 0x250
def railLast := 0x254
def holdup := 0x260
def holdupCfg := 0x264
def holdupNeed := 0x268
def lostDiscard := 0x26C
def kprLost := 0x300
def curtainSel := 0x380
def curtainInfo := 0x384
def curtainsLowered := 0x388
def curtainTime := 0x38C
def powerCtl := 0x400
def powerStatus := 0x404
def powerCfg := 0x408
def kprReset := 0x40C
def kprBoot := 0x410
def thermalCfg := 0x414
def thermalStatus := 0x418
def throttleTime := 0x41C
def kprTemp := 0x420
def railState := 0x500
def srcAssert := 0x600
/-! ### PLT (Table 18-9) -/
def pltStatus := 0x100000
def pltEngCtl := 0x100004
def pltEngLen := 0x100008
def pltEngCount := 0x10000C
def pltError := 0x100010
def pltStateActive := 0x100014
def pltStateStandby := 0x100018
def pltStepTime := 0x100020
def pltStepCtl := 0x100028
def pltRwpIgnored := 0x100030
def pltEpochDiscard := 0x100034
def pltMismatch := 0x100038
def pltProof := 0x100040
def pltArithSig := 0x100070
def pltArithRev := 0x1000A0
def pltEngData := 0x101000
/-! ### CLK (Table 18-10) -/
def clkNow := 0x200000
def clkCfg := 0x200008
def clkStatus := 0x20000C
def clkOffset := 0x200010
def clkFreq := 0x200014
def clkBound := 0x200018
def clkLosses := 0x20001C
def clkLastLoss := 0x200020
def clkLastRegain := 0x200028
def clkSamplesBad := 0x200030
def clkAlignLate := 0x200034
def clkAsym := 0x200100
def clkDelay := 0x200200
def clkStep := 0x200400
def scriptCfg := 0x201000
def scriptBase := 0x201008
def scriptHead := 0x201010
def scriptTail := 0x201018
def scriptSeq := 0x201020
def scriptFill := 0x201024
def scriptHeld := 0x201028
def scriptSeatHolds := 0x20102C
/-! ### LANE (Table 18-11) -/
def lane (l : Nat) := 0x400000 + l * 0x400
def laneCfg := 0x480000
def cmisCtl := 0x480004
def cmisRd := 0x480008
def cmisRdata := 0x48000C
def laneFailed := 0x480040
def laneEngine := 0x480100
def engineState := 0x480200
/-! ### LINK (Table 18-12) -/
def link (n : Nat) := 0x800000 + n * 0x4000
def linkCfg := 0x880000
def linkCfg2 := 0x880004
def linkDownMask := 0x880010
def linkRestrictMask := 0x880014
/-! ### CSW (Table 18-13) -/
def cswCfg := 0x1000000
def seatFence := 0x1000004
def portUp := 0x1000008
def rateSel := 0x100000C
def rate := 0x1000010
def deflected := 0x1000020
def senior := 0x1000024
def noRoute := 0x1000028
def badType := 0x100002C
def marked := 0x1000030
def echoTx := 0x1000034
def echoRx := 0x1000038
def echoIgnored := 0x100003C
def mcastFenced := 0x1000040
def mcastNoTree := 0x1000044
def rerouteOk := 0x1000048
def rerouteLost := 0x100004C
def noticesTx := 0x1000050
def hdrInternal := 0x1000054
def aged := 0x1000058
def usherDeny := 0x1000100
def portCells := 0x1000200
/-! ### XFR (Table 18-14) -/
def xfrCfg := 0x1400000
def tagsUsed := 0x1400004
def ctxUsed := 0x1400008
def execUsed := 0x140000C
def rspUsed := 0x1400010
def xfrCount (k : Nat) := 0x1400020 + 4 * k
def cqBase (q : Nat) := 0x1402000 + 32 * q
def cqCfg (q : Nat) := 0x1402008 + 32 * q
def cqHead (q : Nat) := 0x140200C + 32 * q
def cqTail (q : Nat) := 0x1402010 + 32 * q
/-! ### PRM (Table 18-15) -/
def prmCfg := 0x1800000
def cuesArmed := 0x1800004
def ctrSel := 0x1800008
def ctrValue := 0x180000C
def cueSel := 0x1800010
def cueInfo := 0x1800014
def cueThresh := 0x1800018
def prmCount (k : Nat) := 0x1800020 + 4 * k
def ctrKey (b : Nat) := 0x1801000 + 4 * b
def arr (a : Nat) := 0x1802000 + 32 * a
def colCfg := 0x1803000
def colCtxUsed := 0x1803004
def ctxSel := 0x1803008
def ctxInfo := 0x180300C
def colCount (k : Nat) := 0x1803020 + 4 * k
def missSel := 0x1803080
def missStatus := 0x1803084
def missData := 0x1804000
/-! ### ERU (Table 18-16) -/
def eruCfg := 0x1C00000
def eruStatus := 0x1C00004
def narrowFree := 0x1C00008
def wideFree := 0x1C0000C
def promoted := 0x1C00010
def deferQueue := 0x1C00014
def reasmUsed := 0x1C00018
def eruCount (k : Nat) := 0x1C00020 + 4 * k
def eruAddends := 0x1C00040
def eruLaneCycles := 0x1C00048
def eruCellCfg := 0x1C00050
def segSel := 0x1C00060
def segRec := 0x1C00064
def cellKey (b : Nat) := 0x1C01000 + 4 * b
/-! ### UPD (Table 18-17) -/
def updCfg := 0x2000000
def updStatus := 0x2000004
def updSel := 0x2000008
def updInfo := 0x200000C
def updElements := 0x2000020
def updCount (k : Nat) := 0x2000028 + 4 * k
def updPrograms := 0x2000040
def updProgId := 0x2000100
/-! ### MEM (Table 18-18) -/
def memCfg := 0x2400000
def nearFree := 0x2400004
def farFree := 0x2400008
def scrubPending := 0x240000C
def regionSel := 0x2400010
def regionInfo := 0x2400014
def memCount (k : Nat) := 0x2400030 + 4 * k
def lastUe := 0x2400050
def chanFailed := 0x2400060
def chanState := 0x2400100
/-! ### SEC (Table 18-19) -/
def secCfg := 0x2800000
def secStatus := 0x2800004
def slotsUsed := 0x2800008
def slotSel := 0x280000C
def slotInfo := 0x2800010
def slotCheck := 0x2800014
def secCount (k : Nat) := 0x2800030 + 4 * k
def signer (k : Nat) := 0x2800100 + 0x80 * k
def devidPub := 0x2800300
def aliasPub := 0x2800380
def fwMeas := 0x2800400
/-! ### Host windows (Table 18-8) -/
def win (w : Nat) := 0x3000000 + w * 0x100000
def sqTail := 0x4000
def sqHead := 0x4004
def mbxIn := 0x8000
def mbxOut := 0x9000
def mbxCtl := 0xA000
def mbxStatus := 0xA004
def hwEvent := 0xC000
def hwEventEn := 0xC004
def hwCtl := 0xC008
def mapRegion := 0xC010
def mapOffset := 0xC014
def mapCtl := 0xC01C
def fmTarget := 0xC020
def fmOffset := 0xC024
def fmData := 0xC028
def fmCtl := 0xC02C
def hwViol := 0xC030
def hwViolLog := 0xC034
def hwViolAddr := 0xC038
def hwSelf := 0xC03C
def mapRange := 0x80000
end R

/-- The reset value of the word register at an offset (Tables 18-7 to 18-19); 0 where the tables give 0. -/
def regReset (off : Nat) : Word :=
  if off = R.kprId then 0x111
  else if off = R.kprArithRevs then 1
  else if off = R.kprIdle then 0xA0205
  else if off = R.faultCfg then 1
  else if off = R.holdupCfg then 0xC80078
  else if off = R.thermalCfg then 0x369
  else if off = R.clkCfg then 0x190080
  else if off = R.clkBound then 0xFFFF
  else if off = R.laneCfg then 0x501014
  else if off = R.cmisCtl then 0x3E8
  else if off = R.linkCfg then 0x80A080A
  else if off = R.linkCfg2 then 0x6432
  else if off = R.cswCfg then 0x14140A6C
  else if off = R.rate then 256
  else if off = R.xfrCfg then 0x830A
  else if off = R.colCfg then 0x4019
  else if off = R.eruCfg then 1
  else if off = R.narrowFree then 0x600000
  else if off = R.wideFree then 0x1FC00
  else if off = R.updCfg then 4
  else if off = R.memCfg then 0xA010032
  else if off = R.secCfg then 0x3E8000A
  else if 0x1801000 ≤ off ∧ off < 0x1802000 then 0xFFFF
  else if 0x1C01000 ≤ off ∧ off < 0x1C02000 then 0xFFFF
  else if 0x800000 ≤ off ∧ off < 0x880000 ∧ (off - 0x800000) % 0x4000 = 0xC then 0xFFFFFFFF
  else 0

end Sys2Proof.Machine
end

