-- ==== Sys2Proof/Machine/State.lean ====
section
/-! DEFINITION. The state of one Zildin node as plain data: one sub-structure per subsystem (R32), the word
registers of the aperture, pool memory, and the queue of waiting commands. What each field holds, the rule that
names it and its reset value are listed in INVENTORY.md under "State". -/

namespace Sys2Proof.Machine

/-! ## Keeper -/

/-- The power states of Table 17-3. -/
inductive PowerState where
  | boot | keeper | waking | run | sleeping | failStop
deriving DecidableEq, Repr

/-- The stages of KPR_BOOT (Table 17-8). -/
inductive BootStage where
  | rom | load | verify | running | failed
deriving DecidableEq, Repr

/-- A gating domain's progress (R43): running, in gate entry with its clocks still running, or gated. -/
inductive DomainState where
  | running | entering | gated
deriving DecidableEq, Repr

/-- A fault record of the ring and whether software has read it through KPR_FAULT_LOG (R474). -/
structure LogEntry where
  record : BitVec 256
  seen   : Bool
deriving DecidableEq, Repr

/-- A node under suspicion: the REQ_ID of its PING and the time suspicion began (R483). -/
structure Suspect where
  reqId : Word
  since : Nat
deriving DecidableEq, Repr

/-- A window's outstanding remote request (R499). -/
structure FmPending where
  op    : BitVec 16
  reqId : Word
  since : Nat
deriving DecidableEq, Repr

/-- A rate-limited record: its code, unit and detail, when it was last raised, and the events not yet reported. -/
structure Raised where
  code    : Nat
  unit    : Nat
  detail  : Nat
  last    : Nat
  pending : Nat
deriving DecidableEq, Repr

/-- The Keeper (KPR). `enginePolled` says when an engine's flags were last read (R106), the `BusyAt` fields when the ERU and the clocks of
the Update and security engines last had work (R40). `lastSync` says when a node's last SYNC came (R483). `heldGo` names the windows whose mailbox GO waits for the wake (R509, R511). `equalRun` counts
a source's equal readings in a row (R470) and `tested` its last test's millisecond (R471); `activeAt`, `eventAt` and `fmDataAt` say at which
count of the clock a KPR_FAULT_ACTIVE bit, an event bit or KPR_FM_DATA was last set by the machine, so that a write in the same cycle loses
(R9); `tempAt` and `recheckAt` are the 10 µs periods of the last sensor reading and hold-up check, `throttleAt` when the level last moved
(R493, R515, R516); `resetLow` is `zl_rst_n` held low, `resetDue` a node reset that another node has written (R504), `runAt` the count at
the last RUN accepted (R512), `wroteAt` the count and the source of a register's last write (R520), and `violAt` the count of a window's last
violation with the least kind of its cycle (R525). -/
structure Kpr where
  straps      : BitVec 10
  power       : PowerState
  boot        : BootStage
  bootCause   : BitVec 4
  lastReset   : BitVec 3
  refuse      : BitVec 4
  runHeld     : Bool
  retained    : BitVec 2
  memIdle     : Bool
  level       : BitVec 3
  levelAsked  : BitVec 3
  noSection   : Bool
  ring        : Tab LogEntry
  ringNext    : Nat
  raised      : Tab Raised
  suspects    : Tab Suspect
  lostSeq     : Tab Word
  beaconSeq   : Tab Word
  myLostSeq   : Word
  myBeaconSeq : Word
  lastBeacon  : Tab Nat
  lastSync    : Tab Nat
  anchorFrom  : Tab Nat
  domains     : Tab DomainState
  fmPending   : Tab FmPending
  heldGo      : List Nat
  nextReqId   : Word
  engineMiss  : Tab Nat
  enginePolled : Tab Nat
  eruBusyAt   : Nat
  updBusyAt   : Nat
  secBusyAt   : Nat
  equalRun    : Tab Nat
  tested      : Tab Nat
  activeAt    : Tab Nat
  eventAt     : Tab Nat
  fmDataAt    : Tab Nat
  tempAt      : Nat
  throttleAt  : Nat
  recheckAt   : Nat
  resetLow    : Bool
  resetDue    : Bool
  runAt       : Option Nat
  wroteAt     : Tab (Nat × Nat)
  violAt      : Tab (Nat × Nat)
deriving DecidableEq, Repr

/-! ## Fuses -/

/-- One Plate signer fuse slot (R430); `cut` says that a power loss cut its write (R504). -/
structure Signer where
  cut      : Bool
  enrolled : Bool
  revoked  : Bool
  key      : BitVec 768
deriving DecidableEq, Repr

/-! ## Plate controller -/

/-- The engraving states of Table 03-11. -/
inductive Eng where
  | idle | loading | verifying | ready | failed
deriving DecidableEq, Repr

/-- A Plate section held by this node: its type, its body and its digest (R55). -/
structure PSection where
  ty     : Nat
  words  : List Word
  digest : BitVec 384
deriving DecidableEq, Repr

/-- Where a region lies (R236): a near run and a far run, in 2 MiB extents. -/
structure Place where
  nearBase : Nat
  nearLen  : Nat
  farBase  : Nat
  farLen   : Nat
deriving DecidableEq, Repr

/-- A configuration version: its State, its Proof, its arithmetic signature, its sections, and where the Plate
controller placed its regions. -/
structure PlateV where
  state    : Word
  full     : Bool
  proof    : BitVec 384
  arithSig : BitVec 384
  sections : List PSection
  places   : Tab Place
deriving DecidableEq, Repr

/-- The Plate controller (PLT). `words` holds the words received so far, newest first; `cancelledAt` and `flippedAt` are the clock's
counts at the CANCEL that stopped a verification, at the last flip and at the seal, for what lands in the same cycle (R65, R75, R521). -/
structure Plt where
  words      : List Word
  count      : Nat
  eng        : Eng
  owner      : BitVec 4
  owned      : Bool
  armed      : Bool
  flipTime   : Nat
  active     : Option PlateV
  standby    : Option PlateV
  retiring   : Option PlateV
  retireAt   : Nat
  cancelledAt : Option Nat
  flippedAt  : Option Nat
  sealedAt   : Option Nat
  mismatchRun : Tab Nat
deriving DecidableEq, Repr

/-! ## Stage clock -/

/-- The clock states of Table 15-2. -/
inductive ClkState where
  | free | acquire | locked | holdover | root
deriving DecidableEq, Repr

/-- What the last SYNC of a link said (R458), and when it arrived. -/
structure Candidate where
  heard    : Nat
  locked   : Bool
  depth    : Nat
  root     : Nat
  rootPrio : Nat
  peer     : Nat
deriving DecidableEq, Repr

/-- The stage clock (CLK). `count` is in units of 2^-32 ns (R451); `syncAt` is the 100 µs period in which a
link last sent its SYNC (R455), `freeSince` the time since which none carried LOCKED = 1 (R459), and `stepped` the clock's count when a
step counter last advanced with the advances of that cycle (R464). -/
structure Clk where
  count      : Nat
  incr       : Nat
  halfRate   : Bool
  state      : ClkState
  parent     : BitVec 5
  parentOk   : Bool
  depth      : BitVec 4
  root       : BitVec 10
  rootPrio   : BitVec 8
  syncOk     : Bool
  goodRun    : Nat
  freeSince  : Nat
  holdSince  : Nat
  holdBound  : Nat
  cands      : Tab Candidate
  sentLast   : Tab Nat
  sentPrev   : Tab Nat
  heardTx    : Tab Nat
  heardRx    : Tab Nat
  syncNo     : Tab Nat
  syncAt     : Tab Nat
  arrived    : Tab Nat
  demoted    : Bool
  stepped    : Tab (Nat × Nat)
deriving DecidableEq, Repr

/-! ## Lanes -/

/-- The lane states of Table 04-5. -/
inductive LaneState where
  | off | training | locked | active | standby | gated | failed
deriving DecidableEq, Repr

/-- One lane (R100, R118). `frames` counts the training frames since the pattern window began and `patErrs` the symbol errors of each
of the last of them; `checker` and `prbs` are the registers of the receiver's and of the transmitter's PRBS13Q; `loop` is the loop
criterion of Table 04-3, `ppm` the loop's frequency estimate and `frozen` its freeze (R91); `failedAt` is the clock's count when a cause
last arose and `nextCause` the cause that arose on a FAILED lane (R114, R116); `uncorr` holds the times of the last uncorrectable codewords. -/
structure Lane where
  state      : LaneState
  signal     : Bool
  loop       : Bool
  ppm        : BitVec 16
  frozen     : Bool
  prbs       : BitVec 13
  txFrame    : Option (BitVec 2048)
  frameRun   : Nat
  frames     : Nat
  patErrs    : Tab Nat
  checker    : Option (BitVec 13)
  trainAt    : Nat
  signalAt   : Option Nat
  lockedAt   : Option Nat
  wokeAt     : Option Nat
  idleAt     : Nat
  burstAt    : Option Nat
  failedAt   : Option Nat
  nextCause  : BitVec 4
  uncorr     : List Nat
  app        : BitVec 4
  scanAt     : Nat
  rxLock     : Bool
  remoteLock : Bool
  txIdle     : Bool
  rxIdle     : Bool
  cause      : BitVec 4
  lockRun    : Nat
  orderRun   : Nat
  noneRun    : Nat
  lastNotice : BitVec 3
  badHeader  : Bool
  callDone   : Bool
  wasGated   : Bool
  wasStandby : Bool
  sentNotice : BitVec 3
  sentCount  : Nat
  eq0        : Word
  eq1        : Word
deriving DecidableEq, Repr

/-! ## Link engine -/

/-- The link states of Table 05-6. -/
inductive LinkState where
  | disabled | train | ident | up | realign | retrain | down
deriving DecidableEq, Repr

/-- A cell of the replay buffer (R136): its number, how often it was resent, when it was last sent. -/
structure Replay where
  cell   : Cell
  seq    : BitVec 16
  resent : Nat
  lastTx : Nat
  due    : Bool
deriving DecidableEq, Repr

/-- A received cell held beyond a gap (Table 05-3); `none` stands for a violating cell that counts as received. -/
structure Held where
  seq  : BitVec 16
  cell : Option Cell
deriving DecidableEq, Repr

/-- One link engine (R142, R160). `known` says that an identity exchange has completed (R140); `lastSend` is the time of the last cell
that was not a filler, `changedAt` that of the oldest unreported change (R138); `downAt` and `violAt` are the clock's counts at the last
link-down criterion and at the last violation that restricts the link (R155, R156); `floods` waits for room in the class 5 queue;
`form` is the slot form sent (1 x4, 2 x8, 3 x1), `txPos` and `txMsg` the message bits of the codewords in progress, by position, and
`txLine` the levels of each lane's last codeword (R119, R125); `passed` holds the cells of an ended session that the switch has yet to take
(R151). -/
structure Link where
  state       : LinkState
  known       : Bool
  enteredAt   : Nat
  lastSend    : Nat
  changedAt   : Option Nat
  downAt      : Option Nat
  violAt      : Option Nat
  floods      : List Cell
  form        : BitVec 2
  txPos       : Nat
  txMsg       : Tab Nat
  txLine      : Tab (BitVec 2720)
  passed      : List Cell
  width       : BitVec 2
  leader      : Bool
  restrict    : BitVec 5
  downCause   : BitVec 3
  lastRetrain : BitVec 3
  session     : BitVec 16
  nonce       : Word
  peerSession : BitVec 16
  peerIdent   : Option Line
  identSent   : Nat
  peerFinal   : Bool
  fromRetrain : Bool
  txq         : List Cell
  pool        : List Cell
  held        : List Held
  replay      : List Replay
  expect      : BitVec 16
  top         : BitVec 16
  nextSeq     : BitVec 16
  lastAck     : BitVec 16
  sent        : Tab Nat
  freed       : Tab Nat
  peerFreed   : Tab Nat
  reported    : List Nat
  sinceCredit : Nat
  turn        : Nat
  ctl         : List Cell
  violations  : Tab Nat
  errors      : Tab Nat
  lastProtest : Option Nat
  attempts    : List Nat
  drainAt     : Option Nat
  realignAt   : Nat
  txSlot      : Option Cell
deriving DecidableEq, Repr

/-! ## Cell switch -/

/-- A multicast cell at an input with the replicas not yet placed (R191). -/
structure Fanout where
  input : Nat
  cell  : Cell
  left  : List Cell
deriving DecidableEq, Repr

/-- The rate limiter's bucket for one node (R189): credit in cells × 2^16, and when it was last filled. -/
structure Bucket where
  credit : Nat
  filled : Nat
deriving DecidableEq, Repr

/-- An ejected cell waiting for its subsystem: its input (a link, or 32 for this node), and whether it is a synthetic
completion for a request cell of this node that was never sent (R223). -/
structure Ejected where
  input     : Nat
  cell      : Cell
  neverSent : Bool
deriving DecidableEq, Repr

/-- The cell switch (CSW). `withheld` names the links whose C2 cells wait for the ERU's backlog (R49). -/
structure Csw where
  inject   : List Cell
  ejected  : List Ejected
  fanouts  : List Fanout
  rates    : Tab Nat
  lastDec  : Tab Nat
  lastEcho : Tab Nat
  buckets  : Tab Bucket
  echoes   : Tab Nat
  seniors  : List Cell
  reroutes : List (Nat × Cell)
  withheld : List Nat
deriving DecidableEq, Repr

/-! ## Memory port -/

/-- A line request's kind: a read, a write, the locked read and the merged write of a read-modify-write (R247), a heal
write (R249), the write that poisons a line (R250). -/
inductive LineKind where
  | read | write | lockedRead | mergedWrite | heal | poison
deriving DecidableEq, Repr

/-- A line request: the line's key, its kind, whether it is the second read of R246, the work under way that waits for it and the
bytes of the line that this work covers, and the line as a write stores it; `host` is the host window and the size in bytes of a mapped
read that this request serves (R497). -/
structure LineReq where
  line   : Nat
  kind   : LineKind
  second : Bool
  job    : Option Nat
  size   : Nat
  data   : Line
  host   : Option (Nat × Nat)
deriving DecidableEq, Repr

/-- An accepted request that the controller has not answered (R535): its identifier, the channel line address that it was sent with
(R241), and the memory code that a write carried (R245). -/
structure Accepted where
  id    : Nat
  req   : LineReq
  since : Nat
  addr  : Nat
  code  : Nat
deriving DecidableEq, Repr

/-- A channel port (R243, R247, R252): its queue of at most 256 lines, and behind it the lines of work already taken that wait for a
place; `fellAt` is the clock's count when its ready indication last fell (R537). -/
structure Chan where
  ready     : Bool
  failed    : Bool
  holdSince : Nat
  nextId    : Nat
  queue     : List LineReq
  waiting   : List LineReq
  accepted  : List Accepted
  locks     : List Nat
  fellAt    : Option Nat
deriving DecidableEq, Repr

/-- Extents awaiting scrub (R239). -/
structure Extents where
  far  : Bool
  base : Nat
  len  : Nat
deriving DecidableEq, Repr

/-- The memory port (MEM). A line's key is its tier line address, plus 2^37 in the far tier. -/
structure Mem where
  chans      : Tab Chan
  poisoned   : List Nat
  zeroing    : List Nat
  keyWait    : List Nat
  unverified : List Nat
  scrub      : List Extents
deriving DecidableEq, Repr

/-! ## Security engine -/

/-- Key-slot states (Table 14-7); `opened` is OPEN. -/
inductive SlotState where
  | empty | awaiting | opened | review | exhausted
deriving DecidableEq, Repr

/-- A member's share held in a slot, and the PART_DIGESTs it confirms (R429). -/
structure Share where
  secret    : BitVec 384
  dist      : BitVec 384
  confirmed : List (BitVec 384)
deriving DecidableEq, Repr

/-- A key slot. -/
structure Slot where
  pkey     : Nat
  state    : SlotState
  shares   : Tab Share
  openId   : Word
  everOpen : Bool
  counters : Tab Nat
  renewed  : List Nat
  recSeq   : Nat
  recPrev  : BitVec 384
  restored : BitVec 384
  lowered  : Bool
  was      : Nat × SlotState
deriving DecidableEq, Repr

/-- An attestation session (R427). -/
structure Session where
  number : Nat
  key    : Nat
  since  : Nat
deriving DecidableEq, Repr

/-- A fuse write in progress (R430): the window that asked, the slot, the key, and whether it revokes. -/
structure FuseWrite where
  window : Nat
  slot   : Nat
  key    : BitVec 768
  revoke : Bool
deriving DecidableEq, Repr

/-- The security engine and the key store (SEC). `records` holds the last 64 result records, newest first; `zeroSeq` and `zeroPrev` are
the next SEQ and the previous record's digest of key 0x0000, which takes no slot. -/
structure Sec where
  slots    : Tab Slot
  sessions : List Session
  rngOk    : Bool
  ready    : Bool
  aliasKey : Nat
  fuse     : Option FuseWrite
  draws    : Nat
  records  : List (BitVec 8192)
  zeroSeq  : Nat
  zeroPrev : BitVec 384
deriving DecidableEq, Repr

/-! ## Transfer engine -/

/-- A status and a reason. -/
structure Answer where
  status : Nat
  reason : Nat
deriving DecidableEq, Repr

/-- What an operation's outcome is: Table 07-9's STATUS, REASON, BYTES, OUTCOME, MISSING and VALUE. -/
structure Comp where
  status  : Nat
  reason  : Nat
  bytes   : Nat
  outcome : Nat
  missing : Nat
  value   : Nat
deriving DecidableEq, Repr

/-- How an operation moves: by LOAD_REQ windows, STORE_DATA chunks, FILL_REQ windows, one atomic, a COPY_FWD, an
OUTCOME_REQ, or a remote CUE_ADD. -/
inductive OpKind where
  | load | store | fill | atom | forward | query | cueAdd
deriving DecidableEq, Repr

/-- An outstanding request message, by its chunk: the request it was covered by, when last issued, what has been tried,
and a LOAD chunk's data by cell. -/
structure Msg where
  len        : Nat
  req        : Nat
  lastIssue  : Nat
  again      : Bool
  busyTries  : Nat
  checkTries : Nat
  backoff    : Option Nat
  lost       : Bool
  neverSent  : Bool
  fseq       : Nat
  first      : Bool
  check      : Nat
  time       : Nat
  got        : Tab Line
  answer     : Option Line
  pend       : Bool
  alone      : Bool
deriving DecidableEq, Repr

/-- The requester of a forwarded COPY (R215), its turn in an ordering context, and whether it asked to abort. -/
structure Relay where
  src   : Nat
  tag   : Nat
  orig  : Nat
  ctx   : Option Nat
  abort : Bool
deriving DecidableEq, Repr

/-- What the reads of a source chunk gave. -/
inductive Fetch where
  | bytes (b : List Byte)
  | refused (a : Answer)
deriving DecidableEq, Repr

/-- An operation that holds a tag. `fetched` holds the chunks of its local source that were read and not yet sent; `reissued` says that
its one reissue is spent (R223); `fixed` is an outcome that waits for the earlier ones of its flow, with its time (R36, R218). -/
structure Op where
  issue    : Issue
  kind     : OpKind
  relay    : Option Relay
  gen      : Nat
  orig     : Nat
  order    : Nat
  target   : Nat
  src      : Nat
  dst      : Nat
  length   : Nat
  next     : Nat
  msgs     : Tab Msg
  relayed  : Tab Line
  bytes    : Nat
  xor      : Nat
  fail     : Option Answer
  handle   : Nat
  sent     : Bool
  lastSent : Nat
  flow     : Option Nat
  abortAt  : Option Nat
  fixed    : Option (Comp × Nat)
  dirty    : Bool
  trailers : Tab (BitVec 256)
  fetched  : Tab Fetch
  reissued : Bool
deriving DecidableEq, Repr

/-- An ordered flow at its requester (R217). -/
structure Flow where
  next  : Nat
  out   : Nat
  cells : Nat
deriving DecidableEq, Repr

/-- An ordering context at its target (R219): the FIRST message that began it (its TAG, ORIG_TIME and CHUNK), the next FSEQ, and the
request heads and data cells waiting for their turn. -/
structure RFlow where
  node  : Nat
  flow  : Nat
  first : Nat × Nat × Nat
  next  : Nat
  held  : List Cell
  data  : List Cell
  last  : Nat
deriving DecidableEq, Repr

/-- A chunk arriving at this target: its head, its data cells by number, whether it is only to be discarded, its turn in an ordering
context, and its number among the work under way. -/
structure Inbound where
  head   : Cell
  cells  : Tab Line
  refuse : Bool
  ctx    : Option Nat
  number : Nat
deriving DecidableEq, Repr

/-- What waits for line requests: chunk `j` of a LOAD of `total` chunks that this node serves, the source of chunk `k` of an operation of
this node under its TAG, an arriving chunk, a FILL window, or an atomic with its old value. -/
inductive JobUse where
  | load (head : Cell) (j total : Nat) (ctx : Option Nat)
  | source (tag k : Nat)
  | chunk
  | fill (head : Cell) (ctx : Option Nat)
  | atomic (head : Cell) (ctx : Option Nat) (old : Nat)
deriving DecidableEq, Repr

/-- Work under way at the memory port: whether all its line requests are made, how many are unanswered, the reason why a line failed it,
the bytes left unwritten, whether a write was lost with its channel (R253), and the lines read. -/
structure Job where
  use     : JobUse
  closed  : Bool
  left    : Nat
  bad     : Option Nat
  short   : Nat
  unknown : Bool
  got     : Tab Line
deriving DecidableEq, Repr

/-- An executed-tag record (R226). -/
structure Exec where
  src     : Nat
  tag     : Nat
  orig    : Nat
  chunk   : Nat
  status  : Nat
  reason  : Nat
  atomic  : Bool
  value   : Nat
  unknown : Bool
  since   : Nat
deriving DecidableEq, Repr

/-- An operation closed at this target (R227). -/
structure Closure where
  src   : Nat
  tag   : Nat
  orig  : Nat
  since : Nat
deriving DecidableEq, Repr

/-- What a requester keeps of an INDETERMINATE operation, and a COPY's source of a forwarded one (R227): the chunks, the last
injection time, the chunks and bytes applied, and the requester's SRC, TAG and ORIG_TIME where it was forwarded. -/
structure Kept where
  handle : Nat
  chunks : Nat
  last   : Nat
  until_ : Nat
  done   : Nat
  bytes  : Nat
  from0  : Option (Nat × Nat × Nat)
deriving DecidableEq, Repr

/-- A completion queue (R221): places reserved, records written and consumed, records waiting for a place. -/
structure Cq where
  reserved : Nat
  written  : Nat
  consumed : Nat
  waiting  : List (BitVec 256)
deriving DecidableEq, Repr

/-- A descriptor that waits for issue, its step-1 stamp once it has passed steps 1 to 7, and what its RANK and its destination rank
translated to then (R204). -/
structure Queued where
  issue : Issue
  stamp : Option Nat
  ep    : Nat
  dest  : Nat
deriving DecidableEq, Repr

/-- The transfer engine (XFR). Queues are keyed by submitter, 0 to 15 a window and 16 to 31 a seat, plus 32 for a cue
queue. -/
structure Xfr where
  queues   : Tab (List Queued)
  ops      : Tab Op
  gens     : Tab Nat
  heldTags : Tab Nat
  order    : Nat
  flows    : Tab Flow
  rflows   : Tab RFlow
  landing  : List Cell
  dropped  : List (Nat × Nat × Nat)
  inbound  : List Inbound
  jobs     : Tab Job
  execs    : Tab Exec
  execNo   : Nat
  closures : List Closure
  kept     : List Kept
  cqs      : Tab Cq
  drains   : List (Drain × Nat × Nat)
  stopped  : List Nat
deriving DecidableEq, Repr

/-! ## Prompter -/

/-- An ARMED cue (R262): its submitter, the TIME of the arming DESC, its descriptor, when it was armed, and the Prompter's cycle in
which it became eligible (R264). -/
structure Cue where
  who   : Submitter
  time  : BitVec 32
  desc  : Line
  since : Nat
  ready : Option Nat
deriving DecidableEq, Repr

/-- The updates of one counter in the Prompter's present cycle (R261): its value before them, the SET, the sum of the ADDs, and the
sources that sent them. -/
structure CtrNews where
  base    : Word
  set     : Option Nat
  adds    : Nat
  sources : List Nat
deriving DecidableEq, Repr

/-- An arrival channel (R275): the number of the submitter that armed it, what it is bound to, and the entries of its ring written and
consumed. -/
structure Arr where
  owner   : Nat
  pkey    : Nat
  group   : Nat
  ep      : Nat
  pool    : Bool
  log2    : Nat
  base    : Nat
  count   : Bool
  counter : Nat
  seq     : Nat
  written : Nat
  consumed : Nat
deriving DecidableEq, Repr

/-- A piece tracker (R276): the channel, the piece's name (SRC, TREE, TAG), root, chunk, length and offset, the keys of the lines that it writes here, and whether its
cells are all delivered and checked. -/
structure Tracker where
  chan  : Nat
  src   : Nat
  tree  : Nat
  tag   : Nat
  root  : Nat
  chunk : Nat
  len   : Nat
  off   : Nat
  lines : List Nat
  ready : Bool
deriving DecidableEq, Repr

/-- A piece as it lands for one receiving endpoint (R310): its name (SRC, TREE, TAG), key, head and cells. -/
structure Piece where
  ep    : Nat
  src   : Nat
  tree  : Nat
  tag   : Nat
  pkey  : Nat
  head  : Option Cell
  cells : Tab Line
deriving DecidableEq, Repr

/-- The Prompter's counters, cues and arrivals (PRM). `retries` holds, by submitter, the time of the next offer of the fired descriptor
at the head of its cue queue and the offers that were refused (R266). The Prompter's cycle (R261; log entry 78) has a number, the
updates taken in it (from completions, from descriptors and cells, and by counter), the blocks whose key was written and the cues fired in
it (R258, R269); `pausedAt` is the cycle of the last PAUSE (R271). -/
structure Prm where
  counters  : Tab Word
  saturated : List Nat
  cues      : Tab Cue
  retries   : Tab (Nat × Nat)
  arrs      : Tab Arr
  trackers  : Tab Tracker
  waited    : List (Nat × Nat × Nat × Nat)
  pieces    : List Piece
  cycle     : Nat
  doneIns   : Nat
  cellIns   : Nat
  news      : Tab CtrNews
  keyed     : List Nat
  fired     : List Nat
  pausedAt  : Nat
deriving DecidableEq, Repr

/-! ## Script journal -/

/-- A run of writes through a host-window mapping (Table 13-12, HOST_DATA): the window, the region, the offset of its first
byte, its bytes, and when it was last written. -/
structure HostRun where
  win    : Nat
  region : Nat
  off    : Nat
  bytes  : Tab Byte
  last   : Nat
deriving DecidableEq, Repr

/-- A journalled register write that is held back (R419). -/
structure HeldWrite where
  src   : Nat
  off   : Nat
  value : Word
deriving DecidableEq, Repr

/-- The Script journal (R417 to R419): entries not yet in the ring, when it was last disabled, the holds, the doorbells and
register writes held, and the open run of host data. -/
structure Script where
  buffer    : List (List Byte)
  lastOff   : Nat
  holdBells : Bool
  holdInput : Bool
  bells     : List (Nat × Word)
  writes    : List HeldWrite
  run       : Option HostRun
deriving DecidableEq, Repr

/-! ## ERU -/

/-- Slot states (Table 11-4). -/
inductive SlotKind where
  | empty | narrow | promoted | special
deriving DecidableEq, Repr

/-- An accumulator slot (R329, R330): its state, window base, value V, flags and COUNT. -/
structure ASlot where
  st    : SlotKind
  w     : Nat
  value : Int
  flags : Nat
  count : Nat
deriving DecidableEq, Repr

/-- An EMPTY slot. -/
def ASlot.reset : ASlot where
  st := .empty
  w := 0
  value := 0
  flags := 0
  count := 0

/-- The ERU's exact cells, the ones an uncorrectable error poisoned (R355, R359), the cell blocks whose key was written in this cycle
(R355), and the wide slots in use when the cycle began, with the promotions since (R352). -/
structure Eru where
  cells    : Tab ASlot
  badCells : List Nat
  keyed    : List Nat
  held     : Nat
  promos   : Nat
deriving DecidableEq, Repr

/-! ## Collectives -/

/-- Context states (Table 10-4). -/
inductive CtxState where
  | free | queued | active | draining | closing | aborting
deriving DecidableEq, Repr

/-- A segment of a reduction's current pass (Table 11-9): GOT and EXPECT bits, the replay generation, SSTATE (0 OPEN, 1
COMPLETE, 2 DEFERRED, 3 REPLAYING), COUNT, its slots by lane, its resets, when it was last reset, whether a reset is put
off (R297), and whether its squares are in the norm accumulator (R350). -/
structure Seg where
  got     : Nat
  expect  : Nat
  gen     : Bool
  sstate  : Nat
  count   : Nat
  slots   : Tab ASlot
  resets  : Nat
  resetAt : Option Nat
  due     : Bool
  squared : Bool
deriving DecidableEq, Repr

/-- A granted incoming message: its sender (an endpoint), stage and number, the receiving member of an ALLTOALL, its generation,
the cells taken, its head, its first and last grant, the offset its items go to, the elements of its stream applied (R337), and whether
it was counted. -/
structure CRecv where
  sender  : Nat
  stage   : Nat
  number  : Nat
  member  : Nat
  gen     : Bool
  cells   : Tab Line
  head    : Option Cell
  first   : Nat
  last    : Nat
  off     : Nat
  applied : Nat
  counted : Bool
deriving DecidableEq, Repr

/-- An outgoing message: the endpoint it goes to, stage and number, the source member of an ALLTOALL, the granting context's
handle, the generation asked for, whether it was sent, resent after a loss, and counted there. -/
structure CSend where
  dest   : Nat
  stage  : Nat
  number : Nat
  member : Nat
  handle : Option Nat
  gen    : Bool
  sent   : Bool
  again  : Bool
  done   : Bool
deriving DecidableEq, Repr

/-- A MEMBER descriptor that joined a context: its member index and endpoint, its step-1 stamp, the messages or pieces of it
that counted, the member indices it lacks, its bytes and checks, its failure, and whether its record is written. -/
structure CMember where
  issue  : Issue
  index  : Nat
  ep     : Nat
  stamp  : Nat
  counts : List Nat
  lost   : List Nat
  bytes  : Nat
  xor    : Nat
  fail   : Option Answer
  closed : Bool
deriving DecidableEq, Repr

/-- A member's segment counted at its node's tray stage (R305): its bytes and the XOR of its checks. -/
structure TrayCount where
  ep    : Nat
  seg   : Nat
  bytes : Nat
  xor   : Nat
deriving DecidableEq, Repr

/-- A value of a NORM or a BARRIER: the sum (or the count), the largest stamp, the non-finite flag, and how many
contributions it covers. -/
structure Value where
  sum    : Nat
  tmax   : Nat
  bad    : Bool
  covers : Nat
deriving DecidableEq, Repr

/-- A received value, by stage and sender. -/
structure GotValue where
  stage  : Nat
  sender : Nat
  value  : Value
deriving DecidableEq, Repr

/-- A root's progress in a tree (R311): its member index and endpoint, the nodes that granted it, the chunks sent and placed,
their number, and the endpoints that refused a replica. -/
structure RootRun where
  index   : Nat
  ep      : Nat
  tree    : Nat
  granted : List Nat
  next    : Nat
  placed  : Nat
  total   : Nat
  refused : List Nat
deriving DecidableEq, Repr

/-- A source's run to a receiving member of an ALLTOALL (R313): items announced, the run's offset, items received and lost, and
the messages placed. -/
structure A2aRun where
  source : Nat
  member : Nat
  count  : Option Nat
  off    : Nat
  got    : Nat
  lost   : Nat
  placed : List Nat
deriving DecidableEq, Repr

/-- The fold of a Proof sweep: the count, the least and the greatest contributed value (R80). -/
structure Sweep where
  count : Nat
  least : Nat
  most  : Nat
deriving DecidableEq, Repr

/-- A received sweep message. -/
structure GotSweep where
  stage  : Nat
  sender : Nat
  cells  : Tab Line
  value  : Option Sweep
deriving DecidableEq, Repr

/-- A sweep message sent, and whether its DONE arrived (R81). -/
structure SentSweep where
  stage : Nat
  dest  : Nat
  last  : Nat
  done  : Bool
deriving DecidableEq, Repr

/-- A collective context (R289): `joined` are later OPENs of its instance, `missing` lists the senders declared missing, `miss` the endpoints whose contributions its result
lacks (R303). -/
structure Ctx where
  gen       : Nat
  state     : CtxState
  issue     : Issue
  joined    : List Issue
  version   : Word
  epoch     : Bool
  rehearsal : Bool
  stamp     : Nat
  admitted  : Nat
  passAt    : Nat
  passFrom  : Nat
  passLen   : Nat
  reserved  : Nat
  passes    : Nat
  segs      : Tab Seg
  recv      : List CRecv
  send      : List CSend
  missing   : List Nat
  miss      : List Nat
  members   : List CMember
  tray      : List TrayCount
  norm      : Nat
  normBad   : Bool
  values    : List GotValue
  own       : Option Value
  result    : Option Value
  release   : Option Nat
  roots     : List RootRun
  runs      : List A2aRun
  swept     : List GotSweep
  sweeps    : List SentSweep
  replaying : Option Nat
  consumer  : Option Issue
  byUpdate  : Bool
  offered   : List Nat
  outs      : Tab (List Byte)
  outFail   : Option Answer
  fail      : Option Answer
deriving DecidableEq, Repr

/-- An OPEN waiting for admission (R290), or a MEMBER descriptor or a consumer waiting for its context (R291, R300): its
step-1 stamp, and the start of its timer (R411 restarts it at the resume time). -/
structure Waiting where
  issue : Issue
  stamp : Nat
  since : Nat
deriving DecidableEq, Repr

/-- A missing-member bitmap (R321): its serial, M and its bits. -/
structure MissMap where
  serial : Nat
  m      : Nat
  bits   : Nat
deriving DecidableEq, Repr

/-- Collectives: the contexts, their generations, the admission queue, waiting members and consumers, the deferral queue
(context slot and segment), the missing-member store, and the group last admitted under Rehearsal. -/
structure Col where
  ctxs    : Tab Ctx
  gens    : Tab Nat
  queue   : List Waiting
  waiting : List Waiting
  outs    : List Waiting
  defers  : List (Nat × Nat)
  maps    : Tab MissMap
  nextMap : Nat
  serial  : Nat
  turn    : Nat
deriving DecidableEq, Repr

/-! ## Update engine -/

/-- An UPDATE in the engine's queue (R367): its descriptor, step-1 stamp and block, the epoch of its pinned version, its
context slot once joined, its segments and the elements written, the segments spilled and not yet applied, CLIP and n once its gate
is open, its tensor accumulators, and its failure. -/
structure Update where
  issue    : Issue
  stamp    : Nat
  block    : BitVec 2048
  epoch    : Bool
  ctx      : Option Nat
  since    : Nat
  segments : Nat
  first    : Nat
  elems    : Nat
  applied  : Nat
  written  : Nat
  spilled  : List Nat
  spills   : Nat
  ended    : Bool
  gate     : Option (BitVec 32 × BitVec 32)
  accs     : Tab (Nat × Bool)
  norms    : Tab (BitVec 32)
  miss     : Nat
  poison   : Bool
  fail     : Option Answer
deriving DecidableEq, Repr

/-- The Update engine (UPD): its queue, in issue order. -/
structure Upd where
  queue : List Update
deriving DecidableEq, Repr

/-! ## Intermission -/

/-- Intermission states (Table 13-5). -/
inductive IntmState where
  | running | armed | hush | save | frozen | restore
deriving DecidableEq, Repr

/-- What an image holds (Table 13-7), kept by the image's digest; `keys` and `cellKeys` are the keys of its counter and cell
blocks. -/
structure Snapshot where
  digest   : BitVec 384
  freeze   : Nat
  counters : Tab Word
  cues     : Tab Cue
  arrs     : Tab Arr
  heads    : Tab Nat
  cells    : Tab ASlot
  queues   : Tab (List Queued)
  keys     : Tab Nat
  cellKeys : Tab Nat
  col      : Col
  upd      : Upd
deriving DecidableEq, Repr

/-- Intermission (R405 to R415): its state, T, the hush limit, the INTERMISSION and RESUME under way with their step-1 stamps,
whether the state is on chip, the resume time, the next journal SEQ and the active State at T, the State that the Intermission pins (R83), the images that this node wrote, the image under way, and losses seen while
frozen. -/
structure Intm where
  state    : IntmState
  freeze   : Nat
  limit    : Nat
  issue    : Option Issue
  onChip   : Bool
  imageOk  : Bool
  resume   : Option Issue
  resumeAt : Nat
  area     : Nat
  images   : List Snapshot
  seqAt    : Word
  stateAt  : Word
  pinned   : Word
  lost     : List Nat
deriving DecidableEq, Repr

/-! ## Hold-up and COMMIT -/

/-- A COMMIT whose data is copied and whose slot is not yet written (R494): the highest valid SEQ it found, and the SHA-384 of
the plaintext; when it was taken, and whether its slot has been issued. -/
structure Commit where
  issue  : Issue
  seq    : Nat
  digest : BitVec 384
  since  : Nat
  slot   : Bool
deriving DecidableEq, Repr

/-- A DIGEST VERIFY under way (R445, R447): the region that its claim names, when it began, and whether a raw write has reached the region
since. -/
structure Verify where
  issue  : Issue
  region : Nat
  since  : Nat
  dirty  : Bool
deriving DecidableEq, Repr

/-! ## Stops -/

/-- Why the machine stops. -/
inductive Fault where
  /-- Raised by `exec` on a command whose operand is not one its row names: an operation row whose descriptor
  carries another opcode, or a receipt row whose cell is of another type. Safe: no such command exists. -/
  | illFormed
deriving DecidableEq, Repr

/-- Why a command has no meaning. -/
inductive Refusal where
  /-- Raised by `exec` for a command whose meaning is not written yet. Safe: nothing is claimed of it. -/
  | notModelled (mnemonic : String)
deriving DecidableEq, Repr

/-! ## The node -/

/-- The state of one Zildin node and the queue of commands waiting for it. `hostRead` holds, by host window, the data of the window's last
read (R520, R527), 0 where it has read nothing. -/
structure State where
  pending : List Instr
  regs    : Tab Word
  sels    : Tab Word
  latches : Tab Word
  fuses   : Tab Signer
  kpr     : Kpr
  plt     : Plt
  clk     : Clk
  lanes   : Tab Lane
  links   : Tab Link
  csw     : Csw
  mem     : Mem
  sec     : Sec
  xfr     : Xfr
  prm     : Prm
  script  : Script
  eru     : Eru
  col     : Col
  upd     : Upd
  intm    : Intm
  commits : List Commit
  verifies : List Verify
  hostRead : Tab Line
  memory  : List Host.Cell
  free    : Nat
deriving DecidableEq, Repr

/-- The Keeper right after the power-on reset is released (Table 17-2, R502). -/
def Kpr.reset : Kpr where
  straps := 0
  power := .boot
  boot := .rom
  bootCause := 0
  lastReset := 0
  refuse := 0
  runHeld := false
  retained := 0
  memIdle := true
  level := 0
  levelAsked := 0
  noSection := false
  ring := []
  ringNext := 0
  raised := []
  suspects := []
  lostSeq := []
  beaconSeq := []
  myLostSeq := 0
  myBeaconSeq := 0
  lastBeacon := []
  lastSync := []
  anchorFrom := []
  domains := []
  fmPending := []
  heldGo := []
  nextReqId := 0
  engineMiss := []
  enginePolled := []
  eruBusyAt := 0
  updBusyAt := 0
  secBusyAt := 0
  equalRun := []
  tested := []
  activeAt := []
  eventAt := []
  fmDataAt := []
  tempAt := 0
  throttleAt := 0
  recheckAt := 0
  resetLow := false
  resetDue := false
  runAt := none
  wroteAt := []
  violAt := []

/-- The Plate controller with no Plate (R85). -/
def Plt.reset : Plt where
  words := []
  count := 0
  eng := .idle
  owner := 0
  owned := false
  armed := false
  flipTime := 0
  active := none
  standby := none
  retiring := none
  retireAt := 0
  cancelledAt := none
  flippedAt := none
  sealedAt := none
  mismatchRun := []

/-- The increment of one reference-clock cycle at nominal rate: 6.4 ns in units of 2^-32 ns (R451). -/
def clkIncrement : Nat := 27487790694

/-- The stage clock when the power-on reset is released (R451, R459). -/
def Clk.reset : Clk where
  count := 0
  incr := clkIncrement
  halfRate := false
  state := .free
  parent := 0
  parentOk := false
  depth := 0
  root := 0
  rootPrio := 0
  syncOk := false
  goodRun := 0
  freeSince := 0
  holdSince := 0
  holdBound := 0
  cands := []
  sentLast := []
  sentPrev := []
  heardTx := []
  heardRx := []
  syncNo := []
  syncAt := []
  arrived := []
  demoted := false
  stepped := []

/-- A lane at reset: OFF (Table 04-5). -/
def Lane.reset : Lane where
  state := .off
  signal := false
  loop := false
  ppm := 0
  frozen := false
  prbs := 0
  txFrame := none
  frameRun := 0
  frames := 0
  patErrs := []
  checker := none
  trainAt := 0
  signalAt := none
  lockedAt := none
  wokeAt := none
  idleAt := 0
  burstAt := none
  failedAt := none
  nextCause := 0
  uncorr := []
  app := 0
  scanAt := 0
  rxLock := false
  remoteLock := false
  txIdle := false
  rxIdle := false
  cause := 0
  lockRun := 0
  orderRun := 0
  noneRun := 0
  lastNotice := 0
  badHeader := false
  callDone := false
  wasGated := false
  wasStandby := false
  sentNotice := 0
  sentCount := 0
  eq0 := 0
  eq1 := 0

/-- A link engine at reset (Table 05-14). -/
def Link.reset : Link where
  state := .disabled
  known := false
  enteredAt := 0
  lastSend := 0
  changedAt := none
  downAt := none
  violAt := none
  floods := []
  form := 0
  txPos := 0
  txMsg := []
  txLine := []
  passed := []
  width := 0
  leader := false
  restrict := 0
  downCause := 0
  lastRetrain := 0
  session := 0
  nonce := 0
  peerSession := 0
  peerIdent := none
  identSent := 0
  peerFinal := false
  fromRetrain := false
  txq := []
  pool := []
  held := []
  replay := []
  expect := 0
  top := 0
  nextSeq := 0
  lastAck := 0xFFFF
  sent := []
  freed := []
  peerFreed := []
  reported := []
  sinceCredit := 0
  turn := 0
  ctl := []
  violations := []
  errors := []
  lastProtest := none
  attempts := []
  drainAt := none
  realignAt := 0
  txSlot := none

/-- The cell switch at reset (R195). -/
def Csw.reset : Csw where
  inject := []
  ejected := []
  fanouts := []
  rates := []
  lastDec := []
  lastEcho := []
  buckets := []
  echoes := []
  seniors := []
  reroutes := []
  withheld := []

/-- A channel port at reset: not ready, nothing queued. -/
def Chan.reset : Chan where
  ready := false
  failed := false
  holdSince := 0
  nextId := 0
  queue := []
  waiting := []
  accepted := []
  locks := []
  fellAt := none

/-- The memory port at reset. -/
def Mem.reset : Mem where
  chans := []
  poisoned := []
  zeroing := []
  keyWait := []
  unverified := []
  scrub := []

/-- An empty key slot. -/
def Slot.reset : Slot where
  pkey := 0
  state := .empty
  shares := []
  openId := 0
  everOpen := false
  counters := []
  renewed := []
  recSeq := 0
  recPrev := 0
  restored := 0
  lowered := false
  was := (0, .empty)

/-- The security engine at reset. -/
def Sec.reset : Sec where
  slots := []
  sessions := []
  rngOk := false
  ready := false
  aliasKey := 0
  fuse := none
  draws := 0
  records := []
  zeroSeq := 0
  zeroPrev := 0

/-- The transfer engine at reset. -/
def Xfr.reset : Xfr where
  queues := []
  ops := []
  gens := []
  heldTags := []
  order := 0
  flows := []
  rflows := []
  landing := []
  dropped := []
  inbound := []
  jobs := []
  execs := []
  execNo := 0
  closures := []
  kept := []
  cqs := []
  drains := []
  stopped := []

/-- The Prompter at reset: every counter 0 (R257). -/
def Prm.reset : Prm where
  counters := []
  saturated := []
  cues := []
  retries := []
  arrs := []
  trackers := []
  waited := []
  pieces := []
  cycle := 0
  doneIns := 0
  cellIns := 0
  news := []
  keyed := []
  fired := []
  pausedAt := 0

/-- The journal at reset. -/
def Script.reset : Script where
  buffer := []
  lastOff := 0
  holdBells := false
  holdInput := false
  bells := []
  writes := []
  run := none

/-- The ERU at reset: every exact cell EMPTY. -/
def Eru.reset : Eru where
  cells := []
  badCells := []
  keyed := []
  held := 0
  promos := 0

/-- No context. -/
def Col.reset : Col where
  ctxs := []
  gens := []
  queue := []
  waiting := []
  outs := []
  defers := []
  maps := []
  nextMap := 0
  serial := 0
  turn := 0

/-- The Update engine at reset: nothing queued. -/
def Upd.reset : Upd where
  queue := []

/-- Intermission at reset: RUNNING. -/
def Intm.reset : Intm where
  state := .running
  freeze := 0
  limit := 0
  issue := none
  onChip := false
  imageOk := false
  resume := none
  resumeAt := 0
  area := 0
  images := []
  seqAt := 0
  stateAt := 0
  pinned := 0
  lost := []

/-- The node right after the Keeper power-on reset is released, with the straps low and no fuse programmed. -/
def State.reset : State where
  pending := []
  regs := []
  sels := []
  latches := []
  fuses := []
  kpr := Kpr.reset
  plt := Plt.reset
  clk := Clk.reset
  lanes := []
  links := []
  csw := Csw.reset
  mem := Mem.reset
  sec := Sec.reset
  xfr := Xfr.reset
  prm := Prm.reset
  script := Script.reset
  eru := Eru.reset
  col := Col.reset
  upd := Upd.reset
  intm := Intm.reset
  commits := []
  verifies := []
  hostRead := []
  memory := []
  free := 0

end Sys2Proof.Machine
end

