-- ==== Sys2Proof/Machine/Ops.lean ====
section
/-! DEFINITION. The shared operations: sparse tables, bit fields, CRCs (R553), cells, word registers, the active
Plate's sections, the fault collector (R469 to R482), fail-stop and the node reset. -/

namespace Sys2Proof.Machine

/-! ## Sparse tables -/

/-- The entry of a key, if the table lists one. -/
def tabFind {α : Type} : Tab α → Nat → Option α
  | [], _ => none
  | (j, v) :: t, k => if j = k then some v else tabFind t k

/-- The value at a key; an unlisted key holds `d`. -/
def tabGet {α : Type} (d : α) (t : Tab α) (k : Nat) : α := (tabFind t k).getD d

/-- Insert or replace a key, keeping the keys rising. -/
def tabInsert {α : Type} : Tab α → Nat → α → Tab α
  | [], k, v => [(k, v)]
  | (j, u) :: t, k, v =>
    if k < j then (k, v) :: (j, u) :: t
    else if k = j then (k, v) :: t
    else (j, u) :: tabInsert t k v

/-- Remove a key. -/
def tabErase {α : Type} : Tab α → Nat → Tab α
  | [], _ => []
  | (j, u) :: t, k => if j = k then tabErase t k else (j, u) :: tabErase t k

/-- Set a key to a value, listing it only where it differs from the default `d`. -/
def tabSet {α : Type} [DecidableEq α] (d : α) (t : Tab α) (k : Nat) (v : α) : Tab α :=
  if v = d then tabErase t k else tabInsert t k v

/-- Insert a number into a rising list without repeats. -/
def insertNat : List Nat → Nat → List Nat
  | [], n => [n]
  | x :: t, n => if n < x then n :: x :: t else if n = x then x :: t else x :: insertNat t n

/-! ## Bit fields -/

/-- The field of `len` bits at bit `lo`, as a number (R5). -/
def bits {n : Nat} (x : BitVec n) (lo len : Nat) : Nat := x.toNat / 2 ^ lo % 2 ^ len

/-- One bit of a word. -/
def bit {n : Nat} (x : BitVec n) (k : Nat) : Bool := bits x k 1 == 1

/-- The little-endian field of `m` bytes at byte `k` (R4). -/
def bytesAt {n : Nat} (x : BitVec n) (k m : Nat) : Nat := bits x (8 * k) (8 * m)

/-- Replace the field of `len` bits at bit `lo`. -/
def setBits {n : Nat} (x : BitVec n) (lo len v : Nat) : BitVec n :=
  BitVec.ofNat n (x.toNat - bits x lo len * 2 ^ lo + v % 2 ^ len * 2 ^ lo)

/-- 1 for true, 0 for false. -/
def b2n (b : Bool) : Nat := if b then 1 else 0

/-- A bit string from its fields, each a bit offset, a width and a value. -/
def pack (n : Nat) (fields : List (Nat × Nat × Nat)) : BitVec n :=
  BitVec.ofNat n (fields.foldl (fun acc f => acc + f.2.2 % 2 ^ f.2.1 * 2 ^ f.1) 0)

/-- A bit string from its byte fields, each a byte offset, a byte count and a little-endian value. -/
def packBytes (n : Nat) (fields : List (Nat × Nat × Nat)) : BitVec n :=
  pack n (fields.map fun f => (8 * f.1, 8 * f.2.1, f.2.2))

/-- The first `m` bytes of a bit string, byte 0 first. -/
def toBytes {n : Nat} (x : BitVec n) (m : Nat) : List Byte :=
  (List.range m).map fun k => BitVec.ofNat 8 (bytesAt x k 1)

/-- The little-endian number of a byte list. -/
def ofBytes : List Byte → Nat
  | [] => 0
  | b :: t => b.toNat + 256 * ofBytes t

/-- A number as `m` little-endian bytes. -/
def natBytes (v m : Nat) : List Byte :=
  (List.range m).map fun k => BitVec.ofNat 8 (v / 256 ^ k)

/-- A number as `m` big-endian bytes. -/
def natBytesBE (v m : Nat) : List Byte := (natBytes v m).reverse

/-- Read a field of `len` bits at `lo` as a signed number (R5). -/
def signedBits {n : Nat} (x : BitVec n) (lo len : Nat) : Int :=
  let u : Nat := bits x lo len
  let m : Nat := 2 ^ len
  if 2 * u < m then (u : Int) else (u : Int) - (m : Int)

/-- A 32-bit difference read as signed, as R177 and R453 compare stamps. -/
def signed32 (x : Nat) : Int :=
  let u : Nat := x % 4294967296
  if u < 2147483648 then (u : Int) else (u : Int) - 4294967296

/-! ## CRCs (R553) -/

/-- Shift the CRC register by one message bit. -/
def crcBit (poly r b : Nat) : Nat :=
  let f := (r ^^^ b) % 2
  if f = 1 then (r / 2) ^^^ poly else r / 2

/-- Shift the CRC register by one byte, bit 0 first. -/
def crcByte (poly r : Nat) (b : Byte) : Nat :=
  (List.range 8).foldl (fun acc i => crcBit poly acc (b.toNat / 2 ^ i)) r

/-- The CRC of R553: reflected constant, initial value, final XOR and message. -/
def crc (poly init xorout : Nat) (msg : List Byte) : Nat :=
  msg.foldl (crcByte poly) init ^^^ xorout

/-- CRC-8 of share `p` (R123). -/
def crc8 (p : Nat) (msg : List Byte) : Nat := crc 0xE0 (0x80 + p) 0 msg

/-- CRC-16 of the training header and of the memory code (R94, R245). -/
def crc16Train (msg : List Byte) : Nat := crc 0x8408 0xFFFF 0 msg

/-- CRC-16 of the cell header (R162). -/
def crc16Header (msg : List Byte) : Nat := crc 0xA001 0xFFFF 0 msg

/-- CRC-64 (ECMA-182). -/
def crc64 (msg : List Byte) : Nat :=
  crc 0xC96C5795D7870F42 0xFFFFFFFFFFFFFFFF 0xFFFFFFFFFFFFFFFF msg

/-! ## Cells -/

/-- The cell is of a type (Table 06-3). -/
def cellIs (c : Cell) (t : Nat) : Bool := c.typ.toNat == t

/-- The class of an end-to-end cell type (Table 06-3); `none` for a reserved type. -/
def classOfType (t : Nat) : Option Nat :=
  if 0x01 ≤ t ∧ t ≤ 0x08 then some 0
  else if 0x10 ≤ t ∧ t ≤ 0x15 then some 1
  else if 0x18 ≤ t ∧ t ≤ 0x1C then some 2
  else if t = 0x20 then some 3
  else if t = 0x28 ∨ t = 0x29 then some 4
  else if 0x30 ≤ t ∧ t ≤ 0x34 then some 5
  else none

/-- The 24 header bytes (Table 06-1). -/
def headerBits (c : Cell) : BitVec 192 :=
  pack 192
    [(0, 15, c.dest.toNat), (15, 1, b2n c.epoch), (16, 15, c.src.toNat), (31, 1, b2n c.cm),
     (32, 16, c.pkey.toNat), (48, 3, c.cls.toNat), (51, 6, c.typ.toNat), (57, 1, b2n c.last),
     (58, 1, b2n c.mcast), (59, 2, c.tree.toNat), (61, 1, b2n c.deflected), (62, 1, b2n c.echo),
     (63, 1, b2n c.alt), (64, 16, c.tag.toNat), (80, 12, c.index.toNat), (92, 4, c.hop.toNat),
     (96, 32, c.time.toNat), (128, 16, c.ack.toNat), (144, 16, c.nak.toNat), (160, 16, c.seq.toNat),
     (176, 16, c.hchk.toNat)]

/-- The check of header over bytes 0 to 15 (R162). -/
def headerCheck (c : Cell) : BitVec 16 :=
  BitVec.ofNat 16 (crc16Header (toBytes (headerBits c) 16))

/-- The cell with its header check computed. -/
def withCheck (c : Cell) : Cell := { c with hchk := headerCheck c }

/-- The cell read from 24 header bytes and a payload. -/
def cellOf (h : BitVec 192) (p : Line) : Cell where
  dest := BitVec.ofNat 15 (bits h 0 15)
  epoch := bit h 15
  src := BitVec.ofNat 15 (bits h 16 15)
  cm := bit h 31
  pkey := BitVec.ofNat 16 (bits h 32 16)
  cls := BitVec.ofNat 3 (bits h 48 3)
  typ := BitVec.ofNat 6 (bits h 51 6)
  last := bit h 57
  mcast := bit h 58
  tree := BitVec.ofNat 2 (bits h 59 2)
  deflected := bit h 61
  echo := bit h 62
  alt := bit h 63
  tag := BitVec.ofNat 16 (bits h 64 16)
  index := BitVec.ofNat 12 (bits h 80 12)
  hop := BitVec.ofNat 4 (bits h 92 4)
  time := BitVec.ofNat 32 (bits h 96 32)
  ack := BitVec.ofNat 16 (bits h 128 16)
  nak := BitVec.ofNat 16 (bits h 144 16)
  seq := BitVec.ofNat 16 (bits h 160 16)
  hchk := BitVec.ofNat 16 (bits h 176 16)
  payload := p

/-! ## Time -/

/-- The stage clock: the integer part of the count in ns (R451). -/
def State.now (s : State) : Nat := s.clk.count / 2 ^ 32 % 2 ^ 64

/-- The count in units of 1/16 ns, as synchronisation stamps keep it (R451). -/
def State.now16 (s : State) : Nat := s.clk.count / 2 ^ 28 % 2 ^ 64

/-- The node takes on new work: contexts grant, roots send and cues fire. From T of an ARMED Intermission on it does not (R409). -/
def State.mayGrant (s : State) : Bool := decide (s.intm.state = .running ∨ s.intm.state = .armed ∧ s.now < s.intm.freeze)

/-- A full stage-clock value from the low 32 bits of a recent one (R453). -/
def State.extend (s : State) (time : Nat) : Nat :=
  ((s.now : Int) - signed32 (s.now % 2 ^ 32 + 2 ^ 32 - time % 2 ^ 32)).toNat

/-! ## Word registers -/

/-- The word register at an offset. -/
def State.reg (s : State) (off : Nat) : Word := tabGet (regReset off) s.regs off

/-- Set the word register at an offset. -/
def State.setReg (s : State) (off : Nat) (v : Word) : State :=
  { s with regs := tabSet (regReset off) s.regs off v }

/-- A field of a word register. -/
def State.fld (s : State) (off lo len : Nat) : Nat := bits (s.reg off) lo len

/-- Set a field of a word register. -/
def State.setFld (s : State) (off lo len v : Nat) : State :=
  s.setReg off (setBits (s.reg off) lo len v)

/-- Add to an RC counter, which saturates at all ones (R10). -/
def State.bumpBy (s : State) (off n : Nat) : State :=
  s.setReg off (BitVec.ofNat 32 (min ((s.reg off).toNat + n) 0xFFFFFFFF))

/-- Count one event in an RC counter. -/
def State.bump (s : State) (off : Nat) : State := s.bumpBy off 1

/-- Bit `k` of a bit array of words starting at `base`. -/
def State.arrayBit (s : State) (base k : Nat) : Bool := bit (s.reg (base + 4 * (k / 32))) (k % 32)

/-- Set bit `k` of a bit array of words starting at `base`. -/
def State.setArrayBit (s : State) (base k : Nat) (b : Bool) : State :=
  s.setFld (base + 4 * (k / 32)) (k % 32) 1 (b2n b)

/-- The 64-bit quantity at an offset (R7). -/
def State.reg64 (s : State) (off : Nat) : Nat := (s.reg off).toNat + 2 ^ 32 * (s.reg (off + 4)).toNat

/-- Set the 64-bit quantity at an offset. -/
def State.setReg64 (s : State) (off v : Nat) : State :=
  (s.setReg off (BitVec.ofNat 32 v)).setReg (off + 4) (BitVec.ofNat 32 (v / 2 ^ 32))

/-- A host window's register. -/
def State.winReg (s : State) (w : Nat) (off : Nat) : Word := s.reg (R.win w + off)

/-- Set a host window's register. -/
def State.setWinReg (s : State) (w : Nat) (off : Nat) (v : Word) : State := s.setReg (R.win w + off) v

/-- An access source's copy of a selector (R524). -/
def State.sel (s : State) (a off : Nat) : Word := tabGet 0 s.sels (a * 2 ^ 26 + off)

/-- Set an access source's copy of a selector. -/
def State.setSel (s : State) (a off : Nat) (v : Word) : State :=
  { s with sels := tabSet 0 s.sels (a * 2 ^ 26 + off) v }

/-! ## Free values -/

/-- A fresh value the spec leaves open, below `2^w`. -/
def State.freshVal (s : State) (w : Nat) : Nat := Config.freeNat s.free % 2 ^ w

/-- Count the free value just taken. -/
def State.tookFree (s : State) : State := { s with free := s.free + 1 }

/-! ## Position and the active version -/

/-- The node ID, rack × 8 + slot, from the latched straps (R15). -/
def State.nodeId (s : State) : Nat := bits s.kpr.straps 0 7 * 8 + bits s.kpr.straps 7 3

/-- The endpoint of a seat of this node (R17). -/
def State.seatEp (s : State) (k : Nat) : Nat := 0x4000 + s.nodeId * 16 + k

/-- The node that an endpoint belongs to (R17). -/
def epNode (ep : Nat) : Nat := if ep < 0x400 then ep else (ep - 0x4000) / 16

/-- An endpoint in the reserved range (R18). -/
def epReserved (ep : Nat) : Bool := decide (0x400 ≤ ep ∧ ep < 0x4000)

/-- The body of a section type in a version; empty where absent. -/
def PlateV.body (v : PlateV) (ty : Nat) : List Word :=
  match v.sections.find? (fun x => x.ty == ty) with
  | some x => x.words
  | none => []

/-- A word of a section body. -/
def PlateV.word (v : PlateV) (ty k : Nat) : Word := (v.body ty).getD k 0

/-- The node holds a sealed Plate. -/
def State.isSealed (s : State) : Bool := s.plt.active.isSome

/-- A word of a section of the active version; 0 where there is none. -/
def State.plateWord (s : State) (ty k : Nat) : Word :=
  match s.plt.active with
  | some v => v.word ty k
  | none => 0

/-- The epoch of a version: its State mod 2. -/
def PlateV.epoch (v : PlateV) : Bool := bit v.state 0

/-- The epoch that injected cells carry: that of the active version. -/
def State.epoch (s : State) : Bool :=
  match s.plt.active with
  | some v => v.epoch
  | none => false

/-- The version that a cell's epoch selects, among the active, the armed and the retiring one (R79). -/
def State.versionOf (s : State) (epoch : Bool) : Option PlateV :=
  let pick (o : Option PlateV) : Option PlateV := o.filter fun v => v.epoch == epoch
  (pick s.plt.active).or ((pick s.plt.retiring).or (if s.plt.armed then pick s.plt.standby else none))

/-- A timer of the active version's TIMERS section (Table 03-10), or its default before the first seal. -/
def State.timer (s : State) (k : Nat) : Nat :=
  if s.isSealed then (s.plateWord 7 k).toNat
  else [2000, 2000, 1000, 5000, 1000, 10000, 100].getD k 0

/-- The operation timeout in ns. -/
def State.opTimeout (s : State) : Nat := s.timer 0 * 1000

/-! ## Host windows and their rights (R496, R521) -/

/-- The version whose HOSTS table decides the rights: the active one as this cycle began (R521); none before the first seal. -/
def State.rightsBy (s : State) : Option PlateV :=
  if s.plt.flippedAt = some s.clk.count then s.plt.retiring
  else if s.plt.sealedAt = some s.clk.count then none
  else s.plt.active

/-- The HOSTS entries that decide the rights, where there is a table that is not empty. -/
def State.hosts (s : State) : Option PlateV := s.rightsBy.filter fun v => !(v.body 0x106).isEmpty

/-- A window that counts as a fabric-manager window for register access. -/
def State.winFm (s : State) (w : Nat) : Bool :=
  match s.hosts with
  | some v => bit (v.word 0x106 (2 * w)) 1
  | none => s.rightsBy.isNone || w == 0

/-- A window with PRESENT = 1. -/
def State.winPresent (s : State) (w : Nat) : Bool :=
  match s.hosts with
  | some v => bit (v.word 0x106 (2 * w)) 0
  | none => true

/-- A window's opcode rights. -/
def State.winRights (s : State) (w : Nat) : Nat :=
  match s.hosts with
  | some v => if bit (v.word 0x106 (2 * w)) 1 then 0x3F else bits (v.word 0x106 (2 * w + 1)) 0 6
  | none => 0x3F

/-- The source may write the fabric manager's registers: a fabric-manager window, or an accepted remote access. -/
def State.srcFm (s : State) (a : Nat) : Bool := a == 16 || s.winFm a

/-- A node named by FM_NODES, or any node before the first seal and with an empty table (R496, R499). -/
def State.fmNode (s : State) (node : Nat) : Bool :=
  match s.hosts with
  | some v => bit (v.word 0x106 (32 + node / 32)) (node % 32)
  | none => true

/-- The fabric-manager windows. -/
def State.fmWindows (s : State) : List Nat := (List.range 16).filter s.winFm

/-- A violation of lower kind is already logged for the window in this cycle. -/
def State.loggedLower (s : State) (a kind : Nat) : Bool :=
  match tabFind s.kpr.violAt a with
  | some (c, k) => c == s.clk.count && decide (k < kind)
  | none => false

/-- Record a violation against a window (R525): kind, write or read, offset; of several in one cycle the log holds the lowest kind. A remote
access records none. -/
def State.violation (s : State) (a kind : Nat) (wr : Bool) (off : Nat) : State :=
  if a = 16 then s
  else
    let s1 := s.bump (R.win a + R.hwViol)
    if s.loggedLower a kind then s1
    else
      let s2 := (s1.setWinReg a R.hwViolLog (pack 32 [(0, 4, kind), (4, 1, b2n wr)])).setWinReg a R.hwViolAddr (pack 32 [(0, 26, off)])
      { s2 with kpr := { s2.kpr with violAt := tabInsert s2.kpr.violAt a (s.clk.count, kind) } }

/-- Apply a write of a register's fields: in one cycle the writes of several sources act in ascending order, so that one behind a write of a
higher source leaves nothing (R520). Which writes count: log entry 123 (DEDUCED). -/
def State.lastWins (s : State) (a off : Nat) (f : State → State) : State :=
  let behind : Bool := match tabFind s.kpr.wroteAt off with
    | some (c, x) => c == s.clk.count && decide (a < x)
    | none => false
  if behind then s else f { s with kpr := { s.kpr with wroteAt := tabInsert s.kpr.wroteAt off (s.clk.count, a) } }

/-- Run a write of a fabric-manager register, or record kind RIGHTS against the window (R522). -/
def State.fmWrite (s : State) (a off : Nat) (f : State → State) : State :=
  if s.srcFm a then f s else s.violation a 4 true off

/-! ## Creating cells -/

/-- A cell this node creates (R36, R161): type, destination, key, tag and payload. -/
def State.mkCell (s : State) (typ dest pkey tag : Nat) (payload : Line) : Cell :=
  withCheck
    { dest := BitVec.ofNat 15 dest, epoch := s.epoch, src := BitVec.ofNat 15 s.nodeId, cm := false
      pkey := BitVec.ofNat 16 pkey, cls := BitVec.ofNat 3 ((classOfType typ).getD 5), typ := BitVec.ofNat 6 typ
      last := true, mcast := false, tree := 0, deflected := false, echo := false, alt := false
      tag := BitVec.ofNat 16 tag, index := 0, hop := 0, time := BitVec.ofNat 32 s.now
      ack := 0, nak := 0, seq := 0, hchk := 0, payload := payload }

/-- Put a cell into the switch's injection buffer. -/
def State.injectCell (s : State) (c : Cell) : State :=
  { s with csw := { s.csw with inject := s.csw.inject ++ [c] } }

/-- CONTRIB and PARTIAL_CF cells, which the ERU takes. -/
def forEru (c : Cell) : Bool := cellIs c 0x18 || cellIs c 0x19

/-- The ERU's backlog from a link (R49). What the adder backlog counts the spec does not say: here the CONTRIB and PARTIAL_CF cells
ejected from the link that the ERU has yet to take (DESIGN CHOICE, log entry 74). -/
def Csw.backlog (x : Csw) (n : Nat) : Nat := (x.ejected.filter fun e => e.input == n && forEru e.cell).length

/-- The links that the ERU withholds C2 credit from, once a cell from link `n` joined or left its backlog: from above 64 until below 32
(R49). -/
def Csw.relatch (x : Csw) (n : Nat) : Csw :=
  if 64 < x.backlog n ∧ n < 32 then { x with withheld := insertNat x.withheld n }
  else if x.backlog n < 32 then { x with withheld := x.withheld.filter fun m => m != n }
  else x

/-- Put a cell among the ejected cells. -/
def State.eject (s : State) (input : Nat) (c : Cell) (neverSent : Bool) : State :=
  { s with csw := ({ s.csw with ejected := s.csw.ejected ++ [{ input := input, cell := c, neverSent := neverSent }] } : Csw).relatch input }

/-- Remove the first entry for which `p` holds. -/
def dropFirst {α : Type} (p : α → Bool) : List α → List α
  | [] => []
  | x :: t => if p x then t else x :: dropFirst p t

/-- The ejected entry of a cell, if it waits. -/
def State.ejectedEntry (s : State) (c : Cell) : Option Ejected := s.csw.ejected.find? fun e => decide (e.cell = c)

/-- Take one copy of a cell out of the ejected cells, if it waits there. -/
def State.takeEjected (s : State) (c : Cell) : State :=
  match s.ejectedEntry c with
  | none => s
  | some e => { s with csw := ({ s.csw with ejected := dropFirst (fun x => decide (x.cell = c)) s.csw.ejected } : Csw).relatch e.input }


/-! ## Lanes and links by number -/

def State.lane (s : State) (l : Nat) : Lane := tabGet Lane.reset s.lanes l
def State.setLane (s : State) (l : Nat) (x : Lane) : State := { s with lanes := tabSet Lane.reset s.lanes l x }
def State.link (s : State) (n : Nat) : Link := tabGet Link.reset s.links n
def State.setLink (s : State) (n : Nat) (x : Link) : State := { s with links := tabSet Link.reset s.links n x }
def State.modLink (s : State) (n : Nat) (f : Link → Link) : State := s.setLink n (f (s.link n))
def State.modLane (s : State) (l : Nat) (f : Lane → Lane) : State := s.setLane l (f (s.lane l))

/-- The LINK_ROLE word of a link: the Plate's from the seal, 0 before it (R11, R20). -/
def State.roleWord (s : State) (n : Nat) : Word := s.plateWord 0x101 (2 + n)

/-- A link's role: 0 UNUSED, 1 SEAT, 2 MESH, 3 PLANE, 4 EXPRESS. -/
def State.role (s : State) (n : Nat) : Nat := bits (s.roleWord n) 0 3

/-- A link's logical port. -/
def State.portOf (s : State) (n : Nat) : Nat := bits (s.roleWord n) 3 5

/-- The endpoint expected at a link's far end. -/
def State.rolePeer (s : State) (n : Nat) : Nat := bits (s.roleWord n) 8 15

/-- A link-local cell of this end (R140): the peer's endpoint, or 0 until the identity exchange completes; class 5, key 0.
DEST: log entry 40 (DEDUCED). -/
def State.linkCell (s : State) (n typ : Nat) (payload : Line) : Cell :=
  let peer := if (s.link n).known then s.fld (R.link n + 0x14) 0 15 else 0
  withCheck { s.mkCell typ peer 0 0 payload with cls := 5, last := false }

/-- The DOWN cells that a link sends on going down (Table 05-6). -/
def State.downCells (s : State) (n cause : Nat) : List Cell :=
  List.replicate 8 (s.linkCell n 0x3D (packBytes 512 [(0, 1, cause)]))

/-! ## Fault classes and the reaction policy (R472, R476, R477) -/

/-- A fault code that Table 16-3 lists. -/
def codeListed (c : Nat) : Bool :=
  [1, 2, 8, 9, 10, 11, 16, 17, 18, 24, 32, 33, 34, 35, 36, 37, 40, 41, 44, 45, 46, 48, 49, 50, 51, 56, 57, 58,
    60, 61, 62, 64, 65, 66, 67, 68, 72, 73, 74, 80, 81, 82, 83, 84, 112, 113, 114, 115, 116, 117, 118].contains c

/-- The default class of a code: 0 CE, 1 UC, 2 FT (Table 16-3). -/
def defaultClass (c : Nat) : Nat :=
  if 112 ≤ c then 2
  else if [1, 2, 10, 11, 17, 24, 34, 35, 36, 46, 50, 51, 57, 61, 66, 67, 68, 72, 80, 81, 82].contains c then 1
  else 0

/-- The FAULT_POLICY entry of a code in the active version. -/
def State.policyEntry (s : State) (c : Nat) : Option Word :=
  match s.plt.active with
  | some v => ((v.body 0x107).drop 8).find? fun x => bits x 0 8 == c
  | none => none

/-- A code's class after policy. -/
def State.classOf (s : State) (c : Nat) : Nat :=
  match s.policyEntry c with
  | some x => bits x 8 2
  | none => defaultClass c

/-- Whether a code's records go to the report nodes. -/
def State.reported (s : State) (c : Nat) : Bool :=
  match s.policyEntry c with
  | some x => bit x 10
  | none => false

/-- Whether a code's records set FAULT in the fabric-manager windows. -/
def State.irq (s : State) (c : Nat) : Bool :=
  match s.policyEntry c with
  | some x => bit x 11
  | none => decide (1 ≤ defaultClass c)

/-- The active version has a FAULT_POLICY section. -/
def State.hasPolicy (s : State) : Bool :=
  match s.plt.active with
  | some v => ! (v.body 0x107).isEmpty
  | none => false

/-- The least class that drives `zl_fault_n` (R477). -/
def State.pinClass (s : State) : Nat :=
  if s.hasPolicy then bits (s.plateWord 0x107 0) 0 2 else s.fld R.faultCfg 0 2

/-- The valid report nodes. -/
def State.reportNodes (s : State) : List Nat :=
  if s.hasPolicy then
    let a := s.plateWord 0x107 1
    (if bit a 10 then [bits a 0 10] else []) ++ (if bit a 26 then [bits a 16 10] else [])
  else []

/-- NODE_SILENCE in ns. -/
def State.nodeSilence (s : State) : Nat :=
  (if s.hasPolicy then (s.plateWord 0x107 2).toNat else 300) * 1000

/-- PROBE in ns. -/
def State.probeTime (s : State) : Nat :=
  (if s.hasPolicy then (s.plateWord 0x107 3).toNat else 100) * 1000

/-- Set bits of a window's event register (Table 16-13): 0 FAULT, 1 FATAL, 2 LOST, 3 CURTAIN. -/
def State.event (s : State) (w k : Nat) : State :=
  let t := s.setFld (R.win w + R.hwEvent) k 1 1
  { t with kpr := { t.kpr with eventAt := tabInsert t.kpr.eventAt (4 * w + k) s.clk.count } }

/-- Set an event bit in every window of a list. -/
def State.events (s : State) (ws : List Nat) (k : Nat) : State := ws.foldl (fun t w => t.event w k) s

/-! ## The fault log (R473, R474) -/

/-- Write a record into the ring, counting a record overwritten unread in KPR_FAULT_LOST. -/
def State.logRecord (s : State) (r : BitVec 256) : State :=
  let k := s.kpr.ringNext % 512
  let s1 := match tabFind s.kpr.ring k with
    | some e => if e.seen then s else s.bump R.faultLost
    | none => s
  { s1 with kpr := { s1.kpr with ring := tabInsert s1.kpr.ring k { record := r, seen := false }
                                 ringNext := s1.kpr.ringNext + 1 } }

/-- A local fault record (Table 16-2). -/
def State.faultRecord (s : State) (code unit count detail : Nat) : BitVec 256 :=
  packBytes 256
    [(0, 2, code), (2, 1, s.classOf code), (3, 1, 0), (4, 2, s.nodeId), (6, 2, unit), (8, 8, s.now),
     (16, 4, count), (20, 4, detail), (24, 4, (s.reg R.faultSeq).toNat)]

/-- The FAULT_REC payload of kind RECORD (Table 16-10). -/
def recordPayload (r : BitVec 256) (origin : Nat) : Line :=
  packBytes 512 [(0, 32, r.toNat), (32, 1, 1), (34, 2, origin)]

/-- A scan runs on the lane. -/
def State.scanning (s : State) (l : Nat) : Bool := s.fld (R.lane l + 0x14) 0 3 == 1

/-- End a lane's running scan with a status (R117). How many disagreements it had counted by then the spec does not say: a free value. -/
def State.endScan (s : State) (l status : Nat) : State :=
  if s.scanning l then
    ((s.setReg (R.lane l + 0x14) (BitVec.ofNat 32 status)).setReg (R.lane l + 0x18) (BitVec.ofNat 32 (s.freshVal 32))).tookFree
  else s

/-- Move a lane to a state; a scan ends LANE_CHANGED when the lane leaves ACTIVE, STANDBY and GATED (R117). -/
def State.laneTo (s : State) (l : Nat) (st : LaneState) : State :=
  let s1 := s.modLane l fun y => { y with state := st }
  let s2 := s1.setArrayBit R.laneFailed l (st == .failed)
  if st == .active || st == .standby || st == .gated then s2 else s2.endScan l 4

/-- A lane falls quiet with an IDLE notice and is OFF, unless it is FAILED (Table 05-6). -/
def State.laneOff (s : State) (l : Nat) : State :=
  if (s.lane l).state = .failed then s
  else (s.laneTo l .off).modLane l fun y =>
    { y with rxLock := false, remoteLock := false, txIdle := false, rxIdle := false, sentNotice := 1, sentCount := 1 }

/-- Take every link down without a record of its own, sending 8 DOWN cells where it was UP (R159, R504, R509):
`before` is sent first. -/
def State.allLinksDown (s : State) (cause : Nat) (before : List Cell) : State :=
  (List.range 32).foldl (fun t n =>
    let x := t.link n
    if x.state = .disabled then t
    else
      let cells := if x.state = .up then before ++ t.downCells n (if cause = 6 then 6 else 5) else []
      let t1 := t.setLink n { x with state := .down, width := 0, downCause := BitVec.ofNat 3 cause, downAt := some t.clk.count
                                     txq := [], pool := [], held := [], replay := [], floods := [], passed := [], ctl := cells }
      (List.range 9).foldl (fun u k => u.laneOff (9 * n + k)) t1) s

/-- Fail-stop (R479): no further work, key store erased, FATAL to every window, a record for each report node,
every link DOWN with cause FATAL, every fast domain stopped. -/
def State.failStop (s : State) (r : BitVec 256) : State :=
  let s1 := s.events (List.range 16) 1
  let cells := s1.reportNodes.map fun d => s1.mkCell 0x33 d 0 0 (recordPayload r s1.nodeId)
  let s2 := s1.allLinksDown 6 cells
  { s2 with kpr := { s2.kpr with power := .failStop, runHeld := false, domains := [], level := 0, memIdle := true }
            sec := { s2.sec with slots := [], sessions := [] } }

/-- The dual-rail source that carries a code for a unit (Table 18-6); the collector raises codes 1 and 80 to 84
itself. -/
def sourceOf (code unit : Nat) : Option Nat :=
  if 8 ≤ code ∧ code ≤ 11 ∧ unit < 32 then some (8 * unit + (code - 8))
  else if code = 2 ∧ unit < 32 then some (8 * unit + 4)
  else if 32 ≤ code ∧ code ≤ 37 ∧ unit < 88 then some (256 + 8 * unit + (code - 32))
  else if code = 114 ∧ unit < 32 then some (1088 + unit)
  else if code = 1 ∨ (80 ≤ code ∧ code ≤ 84) then none
  else some (960 + code)

/-- Record a fault locally (R472 to R479): log it, set its KPR_FAULT_ACTIVE bit, signal and report it as the
policy says, and fail-stop where its class is FT. -/
def State.recordFault (s : State) (code unit count detail : Nat) : State :=
  let r := s.faultRecord code unit count detail
  let s1 := s.logRecord r
  let s1a : State := { s1 with kpr := { s1.kpr with activeAt := tabInsert s1.kpr.activeAt code s1.clk.count } }
  let s2 := (s1a.setReg R.faultSeq (s1a.reg R.faultSeq + 1)).setArrayBit R.faultActive code true
  let s3 := if s2.irq code then s2.events s2.fmWindows 0 else s2
  if s3.classOf code = 2 then
    if s3.kpr.power = .failStop then s3 else s3.failStop r
  else if s3.reported code then
    s3.reportNodes.foldl (fun t d => t.injectCell (t.mkCell 0x33 d 0 0 (recordPayload r t.nodeId))) s3
  else s3

/-- Raise a fault: recorded, but for a source whose pair is broken, whose record waits on the pair (R470, R530). -/
def State.raiseFault (s : State) (code unit count detail : Nat) : State :=
  match sourceOf code unit with
  | some k => if s.arrayBit R.railState k then s else s.recordFault code unit count detail
  | none => s.recordFault code unit count detail

/-- Raise a record at most once per 1 ms per key (R186): the first event raises it at once, and the events of the millisecond that follows
are raised together, with their count, when it ends (DEDUCED, log entry 75). -/
def State.raiseKeyed (s : State) (key code unit detail : Nat) : State :=
  let put (last pending : Nat) : State :=
    let r : Raised := { code := code, unit := unit, detail := detail, last := last, pending := pending }
    { s with kpr := { s.kpr with raised := tabInsert s.kpr.raised key r } }
  match tabFind s.kpr.raised key with
  | some r => if s.now < r.last + 1000000 ∨ 0 < r.pending then put r.last (r.pending + 1) else (put s.now 0).raiseFault code unit 1 detail
  | none => (put s.now 0).raiseFault code unit 1 detail

/-- Raise the records whose millisecond has ended. -/
def State.flushRaised (s : State) : State :=
  (s.kpr.raised.filter fun e => decide (0 < e.2.pending ∧ e.2.last + 1000000 ≤ s.now)).foldl (fun t e =>
    let r := e.2
    ({ t with kpr := { t.kpr with raised := tabInsert t.kpr.raised e.1 { r with last := t.now, pending := 0 } } } : State).raiseFault
      r.code r.unit r.pending r.detail) s

/-- Raise a record at most once per 1 ms per unit (R186). -/
def State.raiseLimited (s : State) (code unit detail : Nat) : State := s.raiseKeyed (code * 65536 + unit) code unit detail

/-- `zl_fault_n` is low: an uncleared code whose class is at or above PIN_CLASS (R482). -/
def State.faultPin (s : State) : Bool :=
  (List.range 128).any fun c => s.arrayBit R.faultActive c && decide (s.pinClass ≤ s.classOf c)

/-- `zl_fatal_n` is low: an uncleared FT code (R482). -/
def State.fatalPin (s : State) : Bool :=
  (List.range 128).any fun c => s.arrayBit R.faultActive c && decide (s.classOf c = 2)

/-- `zl_hw_event[w]`: any event bit set with its enable; low in BOOT (Table 19-4, R540). -/
def State.eventLine (s : State) (w : Nat) : Bool :=
  decide (s.kpr.power ≠ .boot) && ((s.winReg w R.hwEvent &&& s.winReg w R.hwEventEn) != 0)

/-- The memory domain runs: from the start of a wake to the end of a sleep's entry (Table 02-6, R511). -/
def State.memRuns (s : State) : Bool := decide (s.kpr.power = .waking ∨ s.kpr.power = .run ∨ s.kpr.power = .sleeping)

/-- `zl_pc_mem_idle`: the memory domain is stopped, and every accepted line has been answered (R543). -/
def State.memIdlePin (s : State) : Bool := s.kpr.memIdle && s.mem.chans.all fun e => e.2.accepted.isEmpty

/-- `zl_fw_busy`: the boot ROM has not ended (Table 19-6). -/
def State.fwBusy (s : State) : Bool := decide (s.kpr.boot ≠ .running ∧ s.kpr.boot ≠ .failed)

/-- The node's fast domains run, so that it takes and does work. -/
def State.running (s : State) : Bool := decide (s.kpr.power = .run)

end Sys2Proof.Machine
end

