-- ==== Sys2Proof/Machine/Exact.lean ====
section
/-! DEFINITION. Exact arithmetic (chapter 11): addends (R324 to R326), slots (R329 to R334), the carry format (R341 to R343),
rounding (R344 to R347), Philox (R348), and the norm result (R350, R351). -/

namespace Sys2Proof.Machine

/-! ## Formats (Tables 11-1 and 11-12) -/

/-- A floating-point format: its width, exponent and mantissa bits, the code of its largest finite magnitude, the code that a
larger magnitude takes, and the code of NaN. -/
structure Fmt where
  width : Nat
  eb    : Nat
  mb    : Nat
  maxE  : Nat
  infE  : Nat
  nanE  : Nat
deriving DecidableEq, Repr

def fp32 : Fmt := { width := 32, eb := 8, mb := 23, maxE := 0x7F7FFFFF, infE := 0x7F800000, nanE := 0x7FC00000 }
def bf16 : Fmt := { width := 16, eb := 8, mb := 7, maxE := 0x7F7F, infE := 0x7F80, nanE := 0x7FC0 }
def fp16 : Fmt := { width := 16, eb := 5, mb := 10, maxE := 0x7BFF, infE := 0x7C00, nanE := 0x7E00 }
def e4m3 : Fmt := { width := 8, eb := 4, mb := 3, maxE := 0x7E, infE := 0x7E, nanE := 0x7F }
def e5m2 : Fmt := { width := 8, eb := 5, mb := 2, maxE := 0x7B, infE := 0x7C, nanE := 0x7E }
/-- The MX elements of Table 11-12 saturate. -/
def e5m2x : Fmt := { e5m2 with infE := 0x7B }
def e2m3 : Fmt := { width := 6, eb := 2, mb := 3, maxE := 0x1F, infE := 0x1F, nanE := 0 }
def e3m2 : Fmt := { width := 6, eb := 3, mb := 2, maxE := 0x1F, infE := 0x1F, nanE := 0 }
def e2m1 : Fmt := { width := 4, eb := 2, mb := 1, maxE := 7, infE := 7, nanE := 0 }

/-- The floating-point format of a code, as an element. -/
def fmtOf (code : Nat) : Option Fmt :=
  match code with
  | 0x01 => some fp32
  | 0x02 => some bf16
  | 0x03 => some fp16
  | 0x04 => some e4m3
  | 0x05 => some e5m2
  | 0x08 => some e4m3
  | 0x09 => some e5m2x
  | 0x0A => some e2m3
  | 0x0B => some e3m2
  | 0x0C => some e2m1
  | _ => none

/-- An MX format (R326). -/
def isMx (code : Nat) : Bool := decide (0x08 ≤ code ∧ code ≤ 0x0D)

/-- The element bits of a format (Table 11-2); 0 for CF and undefined codes. -/
def elemBits (code : Nat) : Nat :=
  match code with
  | 0x01 => 32
  | 0x11 => 32
  | 0x02 => 16
  | 0x03 => 16
  | 0x04 => 8
  | 0x05 => 8
  | 0x10 => 8
  | 0x08 => 8
  | 0x09 => 8
  | 0x0D => 8
  | 0x0A => 6
  | 0x0B => 6
  | 0x0C => 4
  | _ => 0

/-- A format that a contribution or an output may have (Table 11-1). -/
def formatDefined (code : Nat) : Bool := decide (0 < elemBits code) || code == 0x1F

/-- The bytes of a segment image of `n` elements (Table 11-2), for formats other than CF. -/
def imageBytes (code n : Nat) : Nat :=
  if isMx code then (32 + (32 * ((n + 31) / 32) * elemBits code + 7) / 8 + 63) / 64 * 64 else n * elemBits code / 8

/-! ## Addends (R325, R326) -/

/-- What an element adds: a finite nonzero V, +0, −0, or the flags of Table 11-6 that it sets. -/
inductive Addend where
  | finite (v : Int)
  | zero
  | negZero
  | special (flags : Nat)
deriving DecidableEq, Repr

/-- The bias of a format. -/
def Fmt.bias (f : Fmt) : Nat := 2 ^ (f.eb - 1) - 1

/-- The sign, exponent field and fraction of an element. -/
def Fmt.sign (f : Fmt) (x : Nat) : Bool := x / 2 ^ (f.width - 1) % 2 == 1
def Fmt.expo (f : Fmt) (x : Nat) : Nat := x / 2 ^ f.mb % 2 ^ f.eb
def Fmt.frac (f : Fmt) (x : Nat) : Nat := x % 2 ^ f.mb

/-- The magnitude of a finite code in units of 2^(1 − bias − mb). -/
def Fmt.units (f : Fmt) (x : Nat) : Nat :=
  if f.expo x = 0 then f.frac x else (2 ^ f.mb + f.frac x) * 2 ^ (f.expo x - 1)

/-- The position in V of the unit of a format: 160 + 1 − bias − mb. -/
def Fmt.unitPos (f : Fmt) : Nat := 161 - f.bias - f.mb

/-- A signed magnitude as an addend. -/
def addendOf (neg : Bool) (m : Nat) : Addend :=
  if m = 0 then (if neg then .negZero else .zero) else .finite (if neg then -(m : Int) else (m : Int))

/-- The non-finite class of a code of a format: 1 NAN, 2 PINF, 4 NINF; 0 for a finite code (Table 11-1). -/
def nonFinite (code x : Nat) : Nat :=
  match fmtOf code with
  | none => 0
  | some f =>
    if code = 0x04 ∨ code = 0x08 then (if x % 128 = 127 then 1 else 0)
    else if code = 0x0A ∨ code = 0x0B ∨ code = 0x0C then 0
    else if f.expo x = 2 ^ f.eb - 1 then (if f.frac x = 0 then (if f.sign x then 4 else 2) else 1)
    else 0

/-- A two's-complement number of `n` bits. -/
def signedNat (x n : Nat) : Int := if x % 2 ^ n < 2 ^ (n - 1) then (x % 2 ^ n : Nat) else ((x % 2 ^ n : Nat) : Int) - 2 ^ n

/-- An element as an addend; `scale` is the E8M0 byte of an MX block. -/
def addend (code x scale : Nat) : Addend :=
  if isMx code && scale == 0xFF then .special 1
  else if nonFinite code x ≠ 0 then .special (nonFinite code x)
  else
    let sh := if isMx code then scale else 127
    match fmtOf code with
    | some f => addendOf (f.sign x) (f.units x * 2 ^ (f.unitPos + sh - 127))
    | none =>
      let i : Int := if code = 0x11 then signedNat x 32 else signedNat x 8
      let pos := if code = 0x0D then 154 + sh - 127 else 160
      if i = 0 then .zero else .finite (i * 2 ^ pos)

/-- Element `i` of a segment image, with its scale byte (R328). -/
def imageAddend (code : Nat) (img : List Byte) (i : Nat) : Addend :=
  let b := elemBits code
  if isMx code then
    let bytes := (img.drop (32 + i * b / 8)).take 2
    addend code (ofBytes bytes / 2 ^ (i * b % 8) % 2 ^ b) ((img.getD (i / 32) 0).toNat)
  else addend code (ofBytes ((img.drop (i * b / 8)).take (b / 8))) 0

/-! ## Slots (R329 to R334) -/

/-- A slot's flags hold NAN, PINF or NINF. -/
def nonFiniteFlags (flags : Nat) : Bool := flags % 8 != 0

/-- The window base for a first addend (R333). -/
def chooseW (v : Int) : Nat :=
  let h : Int := (v.natAbs.log2 : Int) - 159
  (min 27 (max 0 ((h + 81) / 8))).toNat

/-- A value fits the window of base `w` (R333, R334). -/
def fitsWindow (v : Int) (w : Nat) : Bool :=
  decide (-(2 ^ (103 + 8 * w)) ≤ v ∧ v < 2 ^ (103 + 8 * w))

/-- The addend's lowest 1 bit lies at or above position 8W. -/
def alignedTo (v : Int) (w : Nat) : Bool := v % 2 ^ (8 * w) == 0

/-- A finite nonzero addend into a slot that holds no window value. -/
def ASlot.first (x : ASlot) (v : Int) : ASlot :=
  let w := chooseW v
  if alignedTo v w && fitsWindow v w then { x with st := .narrow, w := w, value := v, flags := 0 }
  else { x with st := .promoted, w := 0, value := v, flags := 0 }

/-- The state and value after an addend (Table 11-7); COUNT is raised by the caller. -/
def ASlot.take (x : ASlot) (a : Addend) : ASlot :=
  match x.st, a with
  | .empty, .finite v => x.first v
  | .empty, .zero => { x with st := .narrow, w := 0, value := 0 }
  | .empty, .negZero => { x with st := .special, flags := 8 }
  | .empty, .special f => { x with st := .special, flags := f }
  | .narrow, .finite v =>
    if x.value = 0 then x.first v
    else if alignedTo v x.w && fitsWindow (x.value + v) x.w then { x with value := x.value + v }
    else { x with st := .promoted, w := 0, value := x.value + v }
  | .narrow, .special f => { x with st := .special, w := 0, value := 0, flags := f }
  | .narrow, _ => x
  | .promoted, .finite v => { x with value := x.value + v }
  | .promoted, .special f => { x with flags := x.flags ||| f }
  | .promoted, _ => x
  | .special, .finite v => if x.flags = 8 then x.first v else x
  | .special, .zero => if x.flags = 8 then { x with st := .narrow, w := 0, value := 0, flags := 0 } else x
  | .special, .negZero => x
  | .special, .special f => { x with flags := (x.flags % 8) ||| f }

/-- A slot after an addend that counts `n`. -/
def ASlot.add (x : ASlot) (a : Addend) (n : Nat) : ASlot := { x.take a with count := x.count + n }

/-- A slot's value and flags as an addend, for a CF stream. -/
def ASlot.asAddend (x : ASlot) : Addend :=
  if nonFiniteFlags x.flags then .special (x.flags % 8)
  else if x.st = .special then .negZero
  else if x.value = 0 then .zero
  else .finite x.value

/-- The lane cycles of an addend (Table 11-8), without a promotion's. -/
def laneCycles (code len : Nat) (promoted : Bool) : Nat :=
  let n := if code = 0x1F then max 1 ((len + 7) / 8) else if code = 1 ∨ code = 0x11 then 2 else 1
  if promoted then 4 * n else n

/-! ## The carry format (R341 to R343) -/

/-- The domain of a CF stream: false the sum domain, true the norm domain. -/
def cfLongest (norm : Bool) : Nat := if norm then 128 else 40

/-- The length of a field of a code. -/
def cfLen (norm : Bool) (code : Nat) : Nat :=
  if code ≤ 12 then code else if code = 13 then 20 else if code = 14 then cfLongest norm else 1

/-- A number fits `n` signed bytes. -/
def fitsBytes (v : Int) (n : Nat) : Bool := decide (-(2 ^ (8 * n - 1)) ≤ v ∧ v < 2 ^ (8 * n - 1))

/-- The least code that holds a field. -/
def cfCode (f : Int) : Nat :=
  match (List.range 13).find? fun k => k != 0 && fitsBytes f k with
  | some k => k
  | none => if fitsBytes f 20 then 13 else 14

/-- The position of the lowest 1 bit of a nonzero number, looked for among `fuel` positions. -/
def lowestBit : Nat → Nat → Nat
  | 0, _ => 0
  | f + 1, x => if x % 2 = 1 then 0 else 1 + lowestBit f (x / 2)

/-- The BASE of a block (R342). -/
def cfBase (es : List Addend) : Nat :=
  let ps := es.filterMap fun e => match e with
    | .finite v => some (lowestBit 1024 v.natAbs)
    | _ => none
  match ps with
  | [] => 0
  | p :: t => t.foldl min p / 8

/-- A signed number's little-endian bytes. -/
def intBytes (v : Int) (n : Nat) : List Byte := natBytes (v % 2 ^ (8 * n)).toNat n

/-- The code and the field bytes of an element. -/
def cfField (norm : Bool) (base : Nat) (e : Addend) : Nat × List Byte :=
  match e with
  | .finite v =>
    let f := v / 2 ^ (8 * base)
    (cfCode f, intBytes f (cfLen norm (cfCode f)))
  | .zero => (0, [])
  | .negZero => (15, [8#8])
  | .special fl => (15, [BitVec.ofNat 8 fl])

/-- One block of at most 16 elements. -/
def cfBlock (norm : Bool) (es : List Addend) : List Byte :=
  let base := cfBase es
  let fs := es.map (cfField norm base)
  let codes := (fs.zipIdx).foldl (fun a e => a + e.1.1 * 16 ^ e.2) 0
  natBytes base 1 ++ [0#8] ++ natBytes codes 8 ++ fs.flatMap fun f => f.2

/-- A CF stream; `fuel` bounds the blocks. -/
def cfStream (norm : Bool) : Nat → List Addend → List Byte
  | 0, _ => []
  | f + 1, es => if es.isEmpty then [] else cfBlock norm (es.take 16) ++ cfStream norm f (es.drop 16)

/-- Encode a list of elements. -/
def cfEncode (norm : Bool) (es : List Addend) : List Byte := cfStream norm (es.length / 16 + 1) es

/-- Read an element's field. -/
def cfAddend (base code : Nat) (b : List Byte) : Addend :=
  if code = 0 then .zero
  else if code = 15 then
    let fl := ofBytes b % 16
    if fl % 8 = 0 then (if fl = 8 then .negZero else .zero) else .special (fl % 8)
  else
    let v := signedNat (ofBytes b) (8 * b.length)
    if v = 0 then .zero else .finite (v * 2 ^ (8 * base))

/-- Read the fields of a block from its codes: the elements and the bytes left, or nothing where the stream ends early. -/
def cfFields (norm : Bool) (base codes : Nat) : Nat → Nat → List Byte → Option (List Addend × List Byte)
  | _, 0, b => some ([], b)
  | i, n + 1, b =>
    let code := codes / 16 ^ i % 16
    let len := cfLen norm code
    if b.length < len then none
    else (cfFields norm base codes (i + 1) n (b.drop len)).map fun r => (cfAddend base code (b.take len) :: r.1, r.2)

/-- Decode `n` elements from a stream: the elements and the bytes left; nothing on a malformed stream (R342). -/
def cfDecode (norm : Bool) : Nat → Nat → List Byte → Option (List Addend × List Byte)
  | 0, _, b => some ([], b)
  | f + 1, n, b =>
    if n = 0 then some ([], b)
    else if b.length < 10 then none
    else
      let base := (b.getD 0 0).toNat
      let codes := ofBytes ((b.drop 2).take 8)
      let m := min n 16
      if (if norm then 127 else 39) < base ∨ b.getD 1 0 ≠ 0 ∨ codes / 16 ^ m ≠ 0 then none
      else
        match cfFields norm base codes 0 m (b.drop 10) with
        | none => none
        | some (es, rest) => (cfDecode norm f (n - m) rest).map fun r => (es ++ r.1, r.2)

/-- The fields of a block of which only the first bytes are here: the elements that are whole, each with its field's length. -/
def cfPartFields (norm : Bool) (base codes : Nat) : Nat → Nat → List Byte → List (Addend × Nat)
  | _, 0, _ => []
  | i, n + 1, b =>
    let code := codes / 16 ^ i % 16
    let len := cfLen norm code
    if b.length < len then [] else (cfAddend base code (b.take len), len) :: cfPartFields norm base codes (i + 1) n (b.drop len)

/-- The elements of a CF stream of `n` that its first bytes give, each with its field's length (R337). -/
def cfPart (norm : Bool) : Nat → Nat → List Byte → List (Addend × Nat)
  | 0, _, _ => []
  | f + 1, n, b =>
    if n = 0 ∨ b.length < 10 then []
    else
      let base := (b.getD 0 0).toNat
      let codes := ofBytes ((b.drop 2).take 8)
      let m := min n 16
      if (if norm then 127 else 39) < base ∨ b.getD 1 0 ≠ 0 ∨ codes / 16 ^ m ≠ 0 then []
      else
        let es := cfPartFields norm base codes 0 m (b.drop 10)
        if es.length < m then es else es ++ cfPart norm f (n - m) (b.drop (10 + (es.map fun e => e.2).sum))

/-- Decode a stream of `n` elements whose remaining bytes must be 0. -/
def cfDecodeAll (norm : Bool) (n : Nat) (b : List Byte) : Option (List Addend) :=
  match cfDecode norm (n / 16 + 1) n b with
  | some (es, rest) => if rest.all fun x => x == 0 then some es else none
  | none => none

/-- The CF image in memory of a segment (Table 11-10), padded to `size` bytes. -/
def cfImage (norm : Bool) (es : List Addend) (contribs size : Nat) : List Byte :=
  let st := if es.isEmpty then [] else cfEncode norm es
  let b := natBytes st.length 4 ++ natBytes es.length 4 ++ natBytes contribs 2 ++ natBytes 0 6 ++ st
  b ++ List.replicate (size - b.length) 0#8

/-- Read a CF image of `n` elements: its CONTRIBS and elements. -/
def cfReadImage (norm : Bool) (n : Nat) (img : List Byte) : Option (Nat × List Addend) :=
  let len := ofBytes (img.take 4)
  let contribs := ofBytes ((img.drop 8).take 2)
  if ofBytes ((img.drop 4).take 4) ≠ n ∨ contribs = 0 ∨ ofBytes ((img.drop 10).take 6) ≠ 0 then none
  else
    match cfDecode norm (n / 16 + 1) n ((img.drop 16).take len) with
    | some (es, []) => if (img.drop (16 + len)).all fun x => x == 0 then some (contribs, es) else none
    | _ => none

/-! ## Rounding (R346, R347) -/

/-- Rounding modes (Table 03-9): RNE, RTZ, SR. -/
inductive Rounding where
  | rne | rtz | sr
deriving DecidableEq, Repr

/-- Round a magnitude at bit `q`: the multiple of 2^q. -/
def roundAt (m q : Nat) (mode : Rounding) (r : Nat) : Nat :=
  let t := m / 2 ^ q
  let rem := m % 2 ^ q
  match mode with
  | .rne => if 2 ^ q < 2 * rem ∨ (2 ^ q = 2 * rem ∧ 0 < q ∧ t % 2 = 1) then t + 1 else t
  | .rtz => t
  | .sr => if r < rem * 2 ^ 32 / 2 ^ q then t + 1 else t

/-- The code of a magnitude `m` whose bit k weighs 2^(k − base), rounded to a format (R346), without its sign; `inf` is the
code of a magnitude above the largest. `y` is an MX element's block exponent. -/
def roundCode (f : Fmt) (m base : Nat) (y : Int) (mode : Rounding) (r : Nat) : Nat :=
  if m = 0 then 0
  else
    let emin : Int := 1 - (f.bias : Int) + y
    let e : Int := max ((m.log2 : Int) - base) emin
    let q : Int := e - f.mb + base
    let m1 := if q < 0 then m * 2 ^ (-q).toNat else m
    let t := roundAt m1 q.toNat mode r
    let code := ((e - emin).toNat) * 2 ^ f.mb + t
    if f.maxE < code then (if mode = .rtz then f.maxE else f.infE) else code

/-- A signed code. -/
def Fmt.signed (f : Fmt) (neg : Bool) (code : Nat) : Nat := code + (if neg then 2 ^ (f.width - 1) else 0)

/-- Round an addend to an integer format of `n` bits (R347). -/
def roundInt (n : Nat) (a : Addend) (mode : Rounding) (r : Nat) : Nat :=
  let top : Int := 2 ^ (n - 1) - 1
  let v : Int := match a with
    | .finite v =>
      let t : Int := roundAt v.natAbs 160 mode r
      if v < 0 then -t else t
    | .special f => if f % 2 = 1 ∨ f % 8 = 6 then 0 else if f = 2 then top else -top - 1
    | _ => 0
  ((max (-top - 1) (min top v)) % 2 ^ n).toNat

/-- Round an addend to a format other than an MX one or CF (R345 to R347). -/
def roundOut (code : Nat) (a : Addend) (mode : Rounding) (r : Nat) : Nat :=
  match fmtOf code with
  | none => roundInt (elemBits code) a mode r
  | some f =>
    match a with
    | .finite v => f.signed (decide (v < 0)) (roundCode f v.natAbs 160 0 mode r)
    | .zero => 0
    | .negZero => f.signed true 0
    | .special fl => if fl % 2 = 1 ∨ fl % 8 = 6 then f.nanE else f.signed (fl % 8 == 4) f.infE

/-- EMAX of an MX format (Table 11-12). -/
def mxEmax (code : Nat) : Int :=
  match code with
  | 0x08 => 8
  | 0x09 => 15
  | 0x0A => 2
  | 0x0B => 4
  | 0x0C => 2
  | _ => 0

/-- The block exponent Y (R347). -/
def mxY (code : Nat) (es : List Addend) : Int :=
  let a := es.foldl (fun m e => match e with
    | .finite v => max m v.natAbs
    | _ => m) 0
  if a = 0 then -127 else max (-127) (min 127 ((a.log2 : Int) - 160 - mxEmax code))

/-- One MX element under block exponent `y`. -/
def mxElement (code : Nat) (y : Int) (a : Addend) (mode : Rounding) (r : Nat) : Nat :=
  match a with
  | .finite v =>
    match fmtOf code with
    | some f => f.signed (decide (v < 0)) (roundCode f v.natAbs 160 y mode r)
    | none =>
      let t : Int := min 127 (roundAt v.natAbs (154 + y).toNat mode r)
      ((if v < 0 then -t else t) % 256).toNat
  | .negZero => match fmtOf code with
    | some f => f.signed true 0
    | none => 0
  | _ => 0

/-- One MX block of at most 32 elements: its scale byte and its elements; `rs` gives each element's random word. -/
def mxBlock (code : Nat) (es : List Addend) (mode : Rounding) (rs : Nat → Nat) : Nat × List Nat :=
  let bad := es.any fun e => match e with
    | .special _ => true
    | _ => false
  if bad then (0xFF, es.map fun _ => 0)
  else
    let y := mxY code es
    ((y + 127).toNat, (es.zipIdx).map fun e => mxElement code y e.1 mode (rs e.2))

/-- Little-endian bit stream of `b`-bit elements. -/
def packElements (b : Nat) (xs : List Nat) : Nat := (xs.zipIdx).foldl (fun a e => a + e.1 * 2 ^ (b * e.2)) 0

/-- Blocks of 32. -/
def blocks32 {α : Type} : Nat → List α → List (List α)
  | 0, _ => []
  | f + 1, l => if l.isEmpty then [] else l.take 32 :: blocks32 f (l.drop 32)

/-- The image of a segment's elements in a format other than CF; `rs i` is element `i`'s random word. -/
def roundImage (code : Nat) (es : List Addend) (mode : Rounding) (rs : Nat → Nat) : List Byte :=
  let b := elemBits code
  if isMx code then
    let bs := ((blocks32 (es.length / 32 + 1) es).zipIdx).map fun e => mxBlock code e.1 mode fun i => rs (32 * e.2 + i)
    let scales := bs.map fun x => BitVec.ofNat 8 x.1
    let body := natBytes (packElements b (bs.flatMap fun x => x.2)) ((32 * bs.length * b + 7) / 8)
    let all := scales ++ List.replicate (32 - scales.length) 0#8 ++ body
    all ++ List.replicate (imageBytes code es.length - all.length) 0#8
  else natBytes (packElements b ((es.zipIdx).map fun e => roundOut code e.1 mode (rs e.2))) (es.length * b / 8)

/-! ## Philox4x32-10 (R348) -/

/-- One round. -/
def philoxRound (c : Nat × Nat × Nat × Nat) (k : Nat × Nat) : Nat × Nat × Nat × Nat :=
  let p0 := 0xD2511F53 * c.1
  let p1 := 0xCD9E8D57 * c.2.2.1
  ((p1 / 2 ^ 32) ^^^ c.2.1 ^^^ k.1, p1 % 2 ^ 32, (p0 / 2 ^ 32) ^^^ c.2.2.2 ^^^ k.2, p0 % 2 ^ 32)

/-- `n` rounds. -/
def philoxRounds : Nat → Nat × Nat × Nat × Nat → Nat × Nat → Nat × Nat × Nat × Nat
  | 0, c, _ => c
  | n + 1, c, k =>
    philoxRounds n (philoxRound c k) ((k.1 + 0x9E3779B9) % 2 ^ 32, (k.2 + 0xBB67AE85) % 2 ^ 32)

/-- Output word 0 for a seed, a global element index, a step and a stream (Table 11-13). -/
def philox (seed index step stream : Nat) : Nat :=
  (philoxRounds 10 (index % 2 ^ 32, index / 2 ^ 32 % 2 ^ 32, step % 2 ^ 32, stream)
    (seed % 2 ^ 32, seed / 2 ^ 32 % 2 ^ 32)).1

/-! ## NORM (R350, R351) -/

/-- The square root of a number below 2^(2n), rounded down. -/
def isqrt (x : Nat) : Nat → Nat → Nat
  | 0, acc => acc
  | n + 1, acc => isqrt x n (if (acc + 2 ^ n) * (acc + 2 ^ n) ≤ x then acc + 2 ^ n else acc)

/-- The square of a finite value in the norm domain, truncated at 2^-300. -/
def normSquare (v : Int) : Nat := v.natAbs * v.natAbs / 2 ^ 20

/-- The FP32 code of the square root of `s` × 2^-300. -/
def normRoot (s : Nat) : Nat :=
  let x := s * 2 ^ 200
  let r := isqrt x 613 0
  roundCode fp32 (2 * r + b2n (r * r != x)) 251 0 .rne 0

/-- The 64-byte result of Table 11-14. -/
def normResult (s : Nat) (bad : Bool) : List Byte :=
  let root := if bad then 0x7FC00000 else normRoot s
  let sq := if bad then 0x7FC00000 else roundCode fp32 s 300 0 .rne 0
  natBytes root 4 ++ natBytes sq 4 ++ natBytes (b2n bad) 1 ++ natBytes 0 55

/-! ## Floating-point addition at the memory port (ATOM_FADD_F) -/

/-- The sum of two codes of FP32, BF16 or FP16 under RNE: exact, then rounded once. -/
def addFloat (code a b : Nat) : Nat :=
  let both (x y : Addend) : Addend := match x, y with
    | .special f, .special g => .special (f ||| g)
    | .special f, _ => .special f
    | _, .special g => .special g
    | .finite v, .finite w => if v + w = 0 then .zero else .finite (v + w)
    | .finite v, _ => .finite v
    | _, .finite w => .finite w
    | .negZero, .negZero => .negZero
    | _, _ => .zero
  roundOut code (both (addend code a 0) (addend code b 0)) .rne 0

end Sys2Proof.Machine
end

