-- ==== Sys2Proof/Machine/Float.lean ====
section
/-! DEFINITION. The binary32 arithmetic of the Update engine's micro-operations (R370, Table 12-5): every operation rounds once to
nearest even, and every NaN result is 0x7FC0_0000. -/

namespace Sys2Proof.Machine

/-- The NaN that is written, and 1.0. -/
def nan32 : Nat := 0x7FC00000
def one32 : Nat := 0x3F800000

def isNan32 (x : Nat) : Bool := fp32.expo x == 255 && fp32.frac x != 0
def isInf32 (x : Nat) : Bool := fp32.expo x == 255 && fp32.frac x == 0
def isZero32 (x : Nat) : Bool := x % 2 ^ 31 == 0
def neg32 (x : Nat) : Bool := fp32.sign x

/-- A code with a sign. -/
def withSign (neg : Bool) (mag : Nat) : Nat := fp32.signed neg mag

/-- A NaN becomes the NaN that is written. -/
def canon32 (x : Nat) : Nat := if isNan32 x then nan32 else x

/-- A finite code's value in units of 2^-149. -/
def units32 (x : Nat) : Int := if neg32 x then -(fp32.units x : Int) else (fp32.units x : Int)

/-- Round a value whose bit k weighs 2^(k − base); `zero` is the sign of an exact zero. -/
def round32 (v : Int) (base : Nat) (zero : Bool) : Nat :=
  if v = 0 then withSign zero 0 else withSign (decide (v < 0)) (roundCode fp32 v.natAbs base 0 .rne 0)

/-- ±(a × b) + c, rounded once. -/
def fma32 (negate : Bool) (a b c : Nat) : Nat :=
  let sp := (neg32 a != neg32 b) != negate
  if isNan32 a || isNan32 b || isNan32 c then nan32
  else if isInf32 a || isInf32 b then
    if isZero32 a || isZero32 b then nan32
    else if isInf32 c && neg32 c != sp then nan32
    else withSign sp 0x7F800000
  else if isInf32 c then c
  else
    let p : Int := if negate then -(units32 a * units32 b) else units32 a * units32 b
    round32 (p + units32 c * 2 ^ 149) 298 (sp && neg32 c && decide (p = 0))

def add32 (a b : Nat) : Nat := fma32 false a one32 b
def negate32 (a : Nat) : Nat := if isNan32 a then nan32 else withSign (!neg32 a) (a % 2 ^ 31)
def sub32 (a b : Nat) : Nat := add32 a (negate32 b)
def mul32 (a b : Nat) : Nat := fma32 false a b 0x80000000
def abs32 (a : Nat) : Nat := if isNan32 a then nan32 else a % 2 ^ 31

/-- a / b. -/
def div32 (a b : Nat) : Nat :=
  let sg := neg32 a != neg32 b
  if isNan32 a || isNan32 b then nan32
  else if isInf32 a then (if isInf32 b then nan32 else withSign sg 0x7F800000)
  else if isInf32 b then withSign sg 0
  else if isZero32 b then (if isZero32 a then nan32 else withSign sg 0x7F800000)
  else
    let n := fp32.units a * 2 ^ 700
    let d := fp32.units b
    let q := 2 * (n / d) + b2n (n % d != 0)
    if q = 0 then withSign sg 0 else withSign sg (roundCode fp32 q 701 0 .rne 0)

/-- √a. -/
def sqrt32 (a : Nat) : Nat :=
  if isNan32 a then nan32
  else if isZero32 a then a
  else if neg32 a then nan32
  else if isInf32 a then a
  else
    let x := 2 * fp32.units a * 2 ^ 400
    let r := isqrt x 345 0
    roundCode fp32 (2 * r + b2n (r * r != x)) 276 0 .rne 0

/-- The order of MIN, MAX and CMPLT on codes that are not NaN: −0 below +0. -/
def less32 (a b : Nat) : Bool :=
  let key (x : Nat) : Int := if neg32 x then -((x % 2 ^ 31 : Nat) : Int) - 1 else ((x % 2 ^ 31 : Nat) : Int)
  decide (key a < key b)

def min32 (a b : Nat) : Nat := if isNan32 a || isNan32 b then nan32 else if less32 b a then b else a
def max32 (a b : Nat) : Nat := if isNan32 a || isNan32 b then nan32 else if less32 a b then b else a
def cmplt32 (a b : Nat) : Nat := if isNan32 a || isNan32 b then 0 else if less32 a b then one32 else 0
/-- A when C is neither a zero nor NaN, otherwise B. -/
def sel32 (a b c : Nat) : Nat := canon32 (if isZero32 c || isNan32 c then b else a)

/-- 2^e for −126 ≤ e ≤ 127. -/
def pow32 (e : Int) : Nat := (e + 127).toNat * 2 ^ 23

/-- POWI (R371). -/
def powi32 (a n : Nat) : Nat :=
  (List.range 32).foldl (fun y i =>
    let y1 := mul32 y y
    if n.testBit (31 - i) then mul32 y1 a else y1) one32

/-- A whole number below 2^24 as FP32. -/
def natTo32 (n : Nat) : Nat := round32 (n : Int) 0 false

/-- RND (R371). -/
def rnd32 (seed index step j : Nat) : Nat := round32 ((philox seed index step (0x110 + j) / 256 : Nat) : Int) 24 false

end Sys2Proof.Machine
end

