-- ==== Sys2Proof/Machine/Journal.lean ====
section
/-! DEFINITION. The Script journal (R52, R417 to R419): entries, pacing, and journalled register writes. -/

namespace Sys2Proof.Machine

/-- Replace the journal's state. -/
def State.setScript (s : State) (x : Script) : State := { s with script := x }

/-- The journal is enabled; chunk and host-data entries are. -/
def State.scriptOn (s : State) : Bool := bit (s.reg R.scriptCfg) 0
def State.scriptData (s : State) : Bool := bit (s.reg R.scriptCfg) 1
def State.scriptHost (s : State) : Bool := bit (s.reg R.scriptCfg) 2

/-- The ring's bytes. -/
def State.scriptSize (s : State) : Nat := 2 ^ s.fld R.scriptCfg 8 6

/-- The bytes of the on-chip buffer in use. -/
def Script.fill (x : Script) : Nat := (x.buffer.map fun e => e.length).sum

/-- The buffer's size: 2 MiB (R52). -/
def scriptBuffer : Nat := 2097152

/-- An entry (Table 13-11): its head and its body, padded to whole units. -/
def State.scriptEntry (s : State) (kind source : Nat) (body : List Byte) : List Byte :=
  natBytes s.now 8 ++ toBytes (s.reg R.scriptSeq) 4 ++ natBytes kind 1 ++ natBytes source 1 ++
    natBytes ((body.length + 15) / 16) 1 ++ natBytes 0 1 ++ body ++ List.replicate ((16 - body.length % 16) % 16) 0#8

/-- Append one entry to the buffer. -/
def State.appendEntry (s : State) (kind source : Nat) (body : List Byte) : State :=
  (s.setScript { s.script with buffer := s.script.buffer ++ [s.scriptEntry kind source body] }).setReg R.scriptSeq
    (s.reg R.scriptSeq + 1)

/-- Begin the holds whose levels the buffer has reached (R52, R419). -/
def State.paceScript (s : State) : State :=
  let x := s.script
  let f := x.fill
  let bells := x.holdBells || decide (scriptBuffer * 3 ≤ 4 * f)
  let input := x.holdInput || decide (scriptBuffer < f + 4096)
  let s1 := s.setScript { x with holdBells := bells, holdInput := input }
  let s2 := if input && !x.holdInput then s1.bump R.scriptSeatHolds else s1
  if bells || input then s2.raiseLimited 62 0xFFFF 0 else s2

/-- Journal an input: preceded by a PAD where the entry would cross the ring's end. -/
def State.journal (s : State) (kind source : Nat) (body : List Byte) : State :=
  if s.scriptOn then
    let len := 16 + (body.length + 15) / 16 * 16
    let left := s.scriptSize - (s.reg64 R.scriptTail + s.script.fill) % s.scriptSize
    let s1 := if left < len then s.appendEntry 0 32 (List.replicate (left - 16) 0#8) else s
    (s1.appendEntry kind source body).paceScript
  else s

/-- A register write's entry. -/
def State.journalReg (s : State) (a off : Nat) (value : Word) : State :=
  s.journal 3 (if a < 16 then a else 32) (natBytes off 4 ++ toBytes value 4)

/-- Run a journalled register write, or hold it back while the journal has no room (R419). -/
def State.unlessHeld (s : State) (a off : Nat) (value : Word) (f : State → State) : State :=
  if s.script.holdInput ∧ a < 16 then
    s.setScript { s.script with writes := s.script.writes ++ [{ src := a, off := off, value := value }] }
  else f s

/-- A journalled write of a fabric-manager's register (R419, R522): held back while the journal has no room, otherwise
journalled where it takes effect. -/
def State.fmReg (s : State) (a off : Nat) (value : Word) (f : State → State) : State :=
  s.fmWrite a off fun t => t.unlessHeld a off value fun u => f (u.journalReg a off value)

/-- A journalled write of a fabric-manager's register that sets its fields (R419, R520, R522). -/
def State.fmRw (s : State) (a off : Nat) (value : Word) (f : State → State) : State :=
  s.fmWrite a off fun r => r.lastWins a off fun t => t.unlessHeld a off value fun u => f (u.journalReg a off value)

/-- A chunk from a seat is verified (CHUNK_IN). -/
def State.journalChunk (s : State) (seat tag typ chunk check inst group : Nat) : State :=
  if s.scriptData then
    s.journal 5 (16 + seat) (natBytes tag 2 ++ natBytes typ 1 ++ natBytes 0 1 ++ natBytes chunk 4 ++ natBytes check 8 ++
      natBytes inst 4 ++ natBytes group 2 ++ natBytes 0 10)
  else s

/-- A status that R397 does not cover. -/
def uncovered (status reason : Nat) : Bool :=
  [1, 2, 3, 4, 5, 7, 8, 12, 14].contains status || (status == 10 && reason == 46)

/-- An EVENT entry; `missing` is a missing endpoint. -/
def State.journalEvent (s : State) (swTag op status reason who group inst : Nat) (missing : Option Nat) : State :=
  s.journal 7 (if who < 32 then who else 32)
    (natBytes swTag 2 ++ natBytes op 1 ++ natBytes status 1 ++ natBytes reason 1 ++ natBytes who 1 ++ natBytes group 2 ++
      natBytes inst 4 ++ natBytes (match missing with
        | some e => e + 0x8000
        | none => 0) 2 ++ natBytes 0 2)

/-- A PLATE entry: 1 SEAL, 2 FLIP, 3 RELEASE. -/
def State.journalPlate (s : State) (event : Nat) (v : PlateV) : State :=
  s.journal 4 32 (natBytes event 4 ++ toBytes v.state 4 ++ toBytes v.proof 16 ++ toBytes v.arithSig 16 ++ natBytes 0 8)

end Sys2Proof.Machine
end

