-- ==== Sys2Proof/Machine/Clock.lean ====
section
/-! DEFINITION. The stage clock (R451 to R468): the counter, the SYNC exchange, root and parent, steering, the error
bound, the neighbour's State and Proof match (R78), and the clock's commands. -/

namespace Sys2Proof.Machine

/-! ## The counter -/

/-- The throttle level applied (R516): the greater of Zildin's own and the one asked on the sideband. -/
def State.throttleLevel (s : State) : Nat := max s.kpr.level.toNat s.kpr.levelAsked.toNat

/-- One reference-clock cycle (R451): the count advances by its increment, or by half of it (R460); a microsecond
that passes with the throttle applied counts (R516). -/
def State.tick (s : State) : State :=
  let t := { s with clk := { s.clk with count := s.clk.count + (if s.clk.halfRate then s.clk.incr / 2 else s.clk.incr) } }
  if s.throttleLevel ≠ 0 ∧ s.now / 1000 ≠ t.now / 1000 then t.bump R.throttleTime else t

/-- The clock state's code (Table 15-2). -/
def ClkState.code : ClkState → Nat
  | .free => 0 | .acquire => 1 | .locked => 2 | .holdover => 3 | .root => 4

/-- ROOT_PRIO of CLK_CFG. -/
def State.myPrio (s : State) : Nat := s.fld R.clkCfg 0 8

/-- NO_ROOT of CLK_CFG. -/
def State.noRoot (s : State) : Bool := bit (s.reg R.clkCfg) 8

/-- The error bound B in units of 0.5 ns, saturating (R461). -/
def State.clkBound (s : State) : Nat :=
  match s.clk.state with
  | .root => 0
  | .locked => s.clk.depth.toNat * 5
  | .holdover => min 0xFFFF (s.clk.holdBound + (s.now - s.clk.holdSince) / 1000000)
  | _ => 0xFFFF

/-- Whether the bound lies within LOSS_LIMIT; FREE and ACQUIRE lie above every limit (R461). -/
def State.boundOk (s : State) : Bool :=
  match s.clk.state with
  | .free | .acquire => false
  | _ => decide (s.clkBound ≤ s.fld R.clkCfg 16 8)

/-- Bring SYNC_OK up to date; its fall raises CLK_SYNC_LOST and its changes are stamped (R463). -/
def State.refreshSync (s : State) : State :=
  let ok := s.boundOk
  let s1 := { s with clk := { s.clk with syncOk := ok } }
  if s.clk.syncOk && !ok then (s1.setReg64 R.clkLastLoss s.now).raiseFault 72 0xFFFF 1 0
  else if !s.clk.syncOk && ok then s1.setReg64 R.clkLastRegain s.now
  else s1

/-! ## Root and parent (R458, R459) -/

/-- A pair of priority and node ID ranks better than another. -/
def outranks (p1 n1 p2 n2 : Nat) : Bool := decide (p1 < p2 ∨ (p1 = p2 ∧ n1 < n2))

/-- Link `n` is a candidate. -/
def State.isCandidate (s : State) (n : Nat) : Bool :=
  match tabFind s.clk.cands n with
  | some c =>
    decide ((s.link n).state = .up) && s.role n != 1 && bits (s.link n).restrict 0 3 == 0 &&
      decide (s.now < c.heard + 300000) && c.locked && decide (c.depth ≤ 13)
  | none => false

/-- The candidates' links, in link order. -/
def State.candidates (s : State) : List (Nat × Candidate) :=
  s.clk.cands.filter fun x => s.isCandidate x.1

/-- The order of R458 over (ROOT_PRIO, ROOT, DEPTH, peer, link). -/
def candBefore (a b : Nat × Candidate) : Bool :=
  let ka := [a.2.rootPrio, a.2.root, a.2.depth, a.2.peer, a.1]
  let kb := [b.2.rootPrio, b.2.root, b.2.depth, b.2.peer, b.1]
  decide (ka < kb)

/-- The least candidate, if its root outranks this node. -/
def State.bestParent (s : State) : Option (Nat × Candidate) :=
  let best := s.candidates.foldl (fun o c =>
    match o with
    | none => some c
    | some b => if candBefore c b then some c else some b) none
  best.filter fun c => outranks c.2.rootPrio c.2.root s.myPrio s.nodeId

/-- Become ROOT with DEPTH 0. -/
def State.becomeRoot (s : State) : State :=
  { s with clk := { s.clk with state := .root, parentOk := false, depth := 0, demoted := false, halfRate := false
                               root := BitVec.ofNat 10 s.nodeId, rootPrio := BitVec.ofNat 8 s.myPrio } }

/-- Enter HOLDOVER, keeping the bound held on entry (R461). -/
def State.enterHoldover (s : State) : State :=
  { s with clk := { s.clk with holdBound := s.clkBound, holdSince := s.now, state := .holdover, parentOk := false
                               halfRate := false, demoted := false } }

/-- Choose the parent again (R458) and move through Table 15-2; a change of root raises CLK_ROOT_CHANGE.
What the table leaves open: log entry 120 (DEDUCED). -/
def State.chooseParent (s : State) : State :=
  let t := match s.bestParent with
    | some (n, c) =>
      let st := match s.clk.state with
        | .locked => ClkState.locked
        | _ => ClkState.acquire
      { s with clk := { s.clk with
          state := st, parent := BitVec.ofNat 5 n, parentOk := true, depth := BitVec.ofNat 4 (c.depth + 1)
          root := BitVec.ofNat 10 c.root, rootPrio := BitVec.ofNat 8 c.rootPrio
          demoted := s.clk.demoted || s.clk.state == ClkState.root
          goodRun := if s.clk.state = st ∧ s.clk.parentOk ∧ s.clk.parent.toNat = n then s.clk.goodRun else 0 } }
    | none =>
      let lost := { s with clk := { s.clk with parentOk := false } }
      match s.clk.state with
      | .locked =>
        if s.candidates.isEmpty || s.noRoot then s.enterHoldover else s.becomeRoot
      | .acquire => if s.clk.demoted then s.enterHoldover else lost
      | .root => s
      | _ => lost
  let changed := t.clk.root ≠ s.clk.root ∧ s.clk.state ≠ .free
  (if changed then t.raiseFault 73 0xFFFF 1 0 else t).refreshSync

/-! ## Following a parent (R460) -/

/-- A LOCKED node returns to ACQUIRE on a step or half-rate period, which counts in CLK_LOSSES. -/
def State.lockLoss (s : State) : State :=
  if s.clk.state = .locked then
    ({ s with clk := { s.clk with state := .acquire, goodRun := 0 } }).bump R.clkLosses
  else s

/-- The rate correction that the loop sets, in 0.001 ppm and within ±200 ppm: the loop's gains are open, so the value
within the bound is a free value. Log entry 15 (DESIGN CHOICE). -/
def State.loopRate (s : State) : Int := (s.freshVal 32 % 400001 : Nat) - (200000 : Int)

/-- Apply a sample of the parent, `θ` in 1/16 ns. -/
def State.steer (s : State) (θ : Int) : State :=
  let s0 := s.setReg R.clkOffset (BitVec.ofInt 32 θ)
  if θ > 16000 then
    ({ s0 with clk := { s0.clk with count := s0.clk.count + θ.toNat * 2 ^ 28, halfRate := false, goodRun := 0 } }).lockLoss
  else if θ < -16000 then
    let t := if s0.clk.halfRate then s0 else s0.lockLoss
    { t with clk := { t.clk with halfRate := true, goodRun := 0 } }
  else
    let f := s0.loopRate
    let incr := ((clkIncrement : Int) + (clkIncrement : Int) * f / 1000000000).toNat
    let near := decide (-160 ≤ θ ∧ θ ≤ 160)
    let run := if near then s0.clk.goodRun + 1 else 0
    let st := if s0.clk.state = .acquire ∧ 8 ≤ run then ClkState.locked else s0.clk.state
    ({ s0 with clk := { s0.clk with incr := incr, halfRate := false, goodRun := run, state := st } }).tookFree.setReg
      R.clkFreq (BitVec.ofInt 32 f)

/-! ## The neighbour's State and Proof (R77, R78) -/

/-- The first 16 bytes of a Proof; byte 0 is its lowest byte. -/
def proofTag (p : BitVec 384) : Nat := bytesAt p 0 16

/-- The armed or retiring version (R77). -/
def State.otherVersion (s : State) : Option PlateV :=
  if s.plt.armed then s.plt.standby else s.plt.retiring

/-- The link carries a restriction or loses it. Bits: 0 MISCABLED, 1 VERSION, 2 VIOLATIONS, 3 STATE_MISMATCH,
4 UNSEALED. Setting one of the first three raises LINK_RESTRICTED (Table 05-12). -/
def State.restrictLink (s : State) (n k : Nat) (on : Bool) : State :=
  let x := s.link n
  let had := bit x.restrict k
  let s1 := s.setLink n { x with restrict := setBits x.restrict k 1 (b2n on) }
  if on && !had && decide (k ≤ 2) then s1.raiseFault 10 n 1 0 else s1

/-- One State and Proof exchange on a link at a sealed node (R78): agreement clears the link's PLT_MISMATCH bit and its
restriction, the first mismatch sets the bit and raises STATE_MISMATCH, the second in a row restricts the link. -/
def State.matchState (s : State) (n st tag : Nat) : State :=
  if ! s.isSealed then s
  else
    let agrees (o : Option PlateV) : Bool :=
      match o with
      | some v => v.state.toNat == st && proofTag v.proof == tag
      | none => false
    if agrees s.plt.active || agrees s.otherVersion || agrees s.plt.retiring then
      let s1 := { s with plt := { s.plt with mismatchRun := tabSet 0 s.plt.mismatchRun n 0 } }
      (s1.setArrayBit R.pltMismatch n false).restrictLink n 3 false
    else
      let run := tabGet 0 s.plt.mismatchRun n + 1
      let s1 := { s with plt := { s.plt with mismatchRun := tabSet 0 s.plt.mismatchRun n run } }
      let s2 := if s.arrayBit R.pltMismatch n then s1
        else (s1.setArrayBit R.pltMismatch n true).raiseFault 2 n 1 0
      if 2 ≤ run then s2.restrictLink n 3 true else s2

/-! ## Suspicion (R483) -/

/-- A node is in the lost set. -/
def State.isLost (s : State) (node : Nat) : Bool := s.arrayBit R.kprLost node

/-- An FM_REQ cell (Table 16-10). -/
def State.fmReq (s : State) (op node off value reqId : Nat) (alt : Bool) : Cell :=
  withCheck { s.mkCell 0x31 node 0 0 (packBytes 512 [(0, 2, op), (4, 4, off), (8, 4, value), (12, 4, reqId)]) with
    alt := alt }

/-- Suspect a node: send it a PING with ALT_ROUTE set. -/
def State.suspect (s : State) (node : Nat) : State :=
  if s.isLost node || (tabFind s.kpr.suspects node).isSome then s
  else
    let r := s.kpr.nextReqId
    let s1 := { s with kpr := { s.kpr with
      suspects := tabInsert s.kpr.suspects node { reqId := r, since := s.now }, nextReqId := r + 1 } }
    s1.injectCell (s1.fmReq 3 node 0 0 r.toNat true)

/-- Clear a suspicion. -/
def State.clearSuspect (s : State) (node : Nat) : State :=
  { s with kpr := { s.kpr with suspects := tabErase s.kpr.suspects node } }

/-- A link leaves UP: its candidate goes, and where it was the last UP link to a node, that node is suspected
(R458, R483). -/
def State.leaveUp (s : State) (n : Nat) : State :=
  let peer := s.rolePeer n
  let others := (List.range 32).any fun m =>
    m != n && decide ((s.link m).state = .up) && s.role m != 1 && s.role m != 0 && s.rolePeer m == peer
  let s1 := if 2 ≤ s.role n ∧ ¬ others then s.suspect peer else s
  if (tabFind s1.clk.cands n).isSome then s1.chooseParent else s1

/-! ## The SYNC exchange (R454 to R457) -/

/-- The SYNC payload (Table 15-1); the link engine writes TX_TIME at each transmission. -/
def State.syncPayload (s : State) (n : Nat) : Line :=
  let other := s.otherVersion
  let known := s.clk.parentOk || s.clk.state == ClkState.root
  packBytes 512
    [(0, 1, b2n other.isSome + 2 * b2n s.isSealed + 4 * b2n (s.clk.state == ClkState.locked || s.clk.state == ClkState.root)),
     (1, 1, if known then s.clk.depth.toNat else 15),
     (2, 2, s.clk.root.toNat),
     (4, 4, (s.plt.active.map fun v => v.state.toNat).getD 0),
     (8, 16, (s.plt.active.map fun v => proofTag v.proof).getD 0),
     (24, 4, (other.map fun v => v.state.toNat).getD 0),
     (28, 16, (other.map fun v => proofTag v.proof).getD 0),
     (52, 4, tabGet 0 s.clk.heardTx n),
     (56, 4, tabGet 0 s.clk.heardRx n),
     (60, 2, tabGet 0 s.clk.syncNo n),
     (62, 1, n),
     (63, 1, s.clk.rootPrio.toNat)]

/-- The cells of a class in a link's transmit queue. -/
def Link.queued (x : Link) (c : Nat) : Nat := (x.txq.filter fun y => y.cls.toNat == c).length

/-- The 100 µs period of a link's SYNCs in which the clock stands: each begins where the count is congruent to n × 3,125 ns; 0 before the
first (R455). -/
def State.syncPeriod (s : State) (n : Nat) : Nat := (s.now + 100000 - n * 3125) / 100000

/-- SYNC_TX (R454, R455): link `n` sends its SYNC, once in each period, placed straight into its C5 transmit queue. -/
def execSyncTx (n : LinkIx) (s : State) : Host.Outcome State Fault Refusal :=
  if ! s.running then .next s else
  let x := s.link n
  if x.state = .up ∧ x.queued 5 < 8 ∧ tabGet 0 s.clk.syncAt n < s.syncPeriod n then
    let c := withCheck { s.mkCell 0x30 (s.fld (R.link n + 0x14) 0 15) 0 0 (s.syncPayload n) with cls := 5 }
    let s1 := s.setLink n { x with txq := x.txq ++ [c] }
    .next { s1 with clk := { s1.clk with
      syncAt := tabSet 0 s1.clk.syncAt n (s.syncPeriod n)
      syncNo := tabSet 0 s1.clk.syncNo n ((tabGet 0 s1.clk.syncNo n + 1) % 65536) } }
  else .next s

/-- The sample of a received SYNC (R457), as (delay, offset) in 1/16 ns: `none` where it gives none. -/
def State.syncSample (s : State) (n : Nat) (p : Line) : Option (Int × Int) :=
  let t1 := bytesAt p 52 4
  let t2 := bytesAt p 56 4
  let t3 := bytesAt p 44 4
  let t4 := tabGet s.now16 s.clk.arrived n % 2 ^ 32
  let sent (t : Tab Nat) : Bool :=
    match tabFind t n with
    | some v => v % 2 ^ 32 == t1
    | none => false
  let diff (a b : Nat) : Nat := (a + 2 ^ 32 - b) % 2 ^ 32
  let d : Int := ((diff t4 t1 : Int) - (diff t3 t2 : Int)).tdiv 2
  let asym : Int := (signedBits (s.reg (R.clkAsym + 4 * n)) 0 16 * 16).tdiv 1000
  let θ : Int := (signed32 (diff t2 t1) + signed32 (diff t3 t4)).tdiv 2 - asym
  if (sent s.clk.sentLast || sent s.clk.sentPrev) && decide (0 ≤ d ∧ d ≤ 1600000) then some (d, θ) else none

/-- What a SYNC tells of its sender as a candidate (R458). -/
def candidateOf (now : Nat) (c : Cell) : Candidate where
  heard := now
  locked := bit c.payload 2
  depth := bits c.payload 8 4
  root := bits c.payload 16 10
  rootPrio := bytesAt c.payload 63 1
  peer := c.src.toNat

/-- A SYNC's effect on the clock: candidate, sample, parent, steering and the State match. -/
def State.applySync (s : State) (n : Nat) (c : Cell) : State :=
  let p := c.payload
  let sample := s.syncSample n p
  let stamp := tabGet s.now16 s.clk.arrived n
  let s1 := { s with
    clk := { s.clk with
      cands := tabInsert s.clk.cands n (candidateOf s.now c)
      heardTx := tabSet 0 s.clk.heardTx n (bytesAt p 44 4)
      heardRx := tabSet 0 s.clk.heardRx n (stamp % 2 ^ 32)
      arrived := tabErase s.clk.arrived n
      freeSince := if bit p 2 then s.now else s.clk.freeSince }
    kpr := { s.kpr with lastSync := tabInsert s.kpr.lastSync c.src.toNat s.now } }
  let s2 := if (s1.link n).state = .up then s1.clearSuspect c.src.toNat else s1
  let s3 := match sample with
    | some (d, _) => s2.setReg (R.clkDelay + 4 * n) (BitVec.ofNat 32 (min d.toNat 0xFFFF))
    | none => s2.bump R.clkSamplesBad
  let s4 := s3.chooseParent
  let s5 := match sample with
    | some (_, θ) => if s4.clk.parentOk && s4.clk.parent.toNat == n then s4.steer θ else s4
    | none => s4
  let s6 := if s5.role n = 1 then s5 else s5.matchState n (bytesAt p 4 4) (bytesAt p 8 16)
  -- An exchange after both ends are sealed ends UNSEALED (Table 05-8; DEDUCED of a SYNC, see the log).
  let s7 := if s6.role n ≠ 1 ∧ s6.isSealed ∧ bit p 1 then s6.restrictLink n 4 false else s6
  s7.refreshSync

/-- SYNC_RX (R456 to R460, R78). -/
def execSyncRx (n : LinkIx) (c : Cell) (s : State) : Host.Outcome State Fault Refusal :=
  if ! s.running then .next s else
  if cellIs c 0x30 then .next ((s.takeEjected c).applySync n c) else .fault .illFormed

/-- CANDIDATE_EXPIRE (R458): a candidate whose last SYNC is 300 µs old drops out. -/
def execCandidateExpire (n : LinkIx) (s : State) : Host.Outcome State Fault Refusal :=
  match tabFind s.clk.cands n with
  | some c =>
    if c.heard + 300000 ≤ s.now then
      .next ({ s with clk := { s.clk with cands := tabErase s.clk.cands n } }).chooseParent
    else .next s
  | none => .next s

/-- CLOCK_FREE_TIMEOUT (R459): 1 ms in FREE with no SYNC carrying LOCKED = 1 makes the node ROOT. -/
def execClockFreeTimeout (s : State) : Host.Outcome State Fault Refusal :=
  if s.clk.state = .free ∧ ¬ s.noRoot ∧ s.clk.freeSince + 1000000 ≤ s.now then
    .next s.becomeRoot.refreshSync
  else .next s

/-- HOLDOVER_BOUND (R461, R463): the bound is taken anew; once it passes LOSS_LIMIT, SYNC_OK falls. -/
def execHoldoverBound (s : State) : Host.Outcome State Fault Refusal := .next s.refreshSync

end Sys2Proof.Machine
end

