-- ==== Sys2Proof/Machine/Pcs.lean ====
section
/-! DEFINITION. What a lane carries, symbol by symbol: Gray-coded PAM4 levels and polarity (R88), training frames with their marker,
header and PRBS13Q symbols (R92 to R94), the Reed-Solomon code of the mapped lanes (R119, R120), and the shares of a slot in the
codewords of the lanes (R124, R125). A stretch of symbols is a bit string, symbol `u` in bits `[2u+1:2u]`. -/

namespace Sys2Proof.Machine

/-! ## PAM4 levels (R88) -/

/-- The Gray-coded level of a bit pair `b1 b0`. -/
def grayLevel (pair : Nat) : Nat :=
  match pair with
  | 0 => 0 | 1 => 1 | 3 => 2 | _ => 3

/-- The bit pair that a level stands for. -/
def grayPair (level : Nat) : Nat :=
  match level with
  | 0 => 0 | 1 => 1 | 2 => 3 | _ => 2

/-- A lane's polarity: an inverted lane carries 3 − v in place of v. -/
def polarity (invert : Bool) (v : Nat) : Nat := if invert then 3 - v else v

/-- A number from its symbols of two bits, symbol 0 lowest. -/
def ofSymbols : List Nat → Nat
  | [] => 0
  | v :: t => v % 4 + 4 * ofSymbols t

/-- The first `m` symbols of a bit string. -/
def symbols {n : Nat} (x : BitVec n) (m : Nat) : List Nat := (List.range m).map fun u => bits x (2 * u) 2

/-- The levels at the pins of a transmitter that sends a bit string. -/
def toPins {n : Nat} (invert : Bool) (x : BitVec n) : BitVec n :=
  BitVec.ofNat n (ofSymbols ((symbols x (n / 2)).map fun v => polarity invert (grayLevel v)))

/-- The bit string that a receiver reads from the levels at its pins. -/
def fromPins {n : Nat} (invert : Bool) (x : BitVec n) : BitVec n :=
  BitVec.ofNat n (ofSymbols ((symbols x (n / 2)).map fun v => grayPair (polarity invert v)))

/-! ## Training frames (Tables 04-1, 04-2) -/

/-- The levels of a marker: 3, 3, 0, 0, repeated. -/
def markerLevel (u : Nat) : Nat := if u % 4 < 2 then 3 else 0

/-- The symbols of a marker that match, of the 64 read from a frame. -/
def markerHits (frame : BitVec 2048) : Nat :=
  ((List.range 64).filter fun u => bits frame (2 * u) 2 == grayPair (markerLevel u)).length

/-- The header of a frame: the bits of its symbols 64 to 95. -/
def frameHeader (frame : BitVec 2048) : BitVec 64 := BitVec.ofNat 64 (bits frame 128 64)

/-- A header is good: its CRC matches and REV is 1 (R94). -/
def headerGood (h : BitVec 64) : Bool :=
  bits h 48 16 == crc16Train (toBytes h 6) && bits h 16 8 == 1

/-- The header that a lane sends. -/
def sendHeader (lane : Nat) (rxLock : Bool) (notice count : Nat) : BitVec 64 :=
  let h : BitVec 64 := pack 64 [(0, 4, lane), (4, 1, b2n rxLock), (5, 3, notice), (8, 8, count), (16, 8, 1)]
  setBits h 48 16 (crc16Train (toBytes h 6))

/-- The next bit of PRBS13: 1 + x + x^2 + x^12 + x^13 over the 13 bits before it, the newest in bit 0 of the register.
The polynomial is IEEE 802.3's (PRESUMED, log entry 95). -/
def prbsBit (r : Nat) : Nat := (r + r / 2 + r / 2 ^ 11 + r / 2 ^ 12) % 2

/-- The register after one more bit. -/
def prbsNext (r b : Nat) : Nat := (2 * r + b) % 8192

/-- The next symbol of PRBS13Q, as the bit pair that it stands for, and the register after it: the first bit of a pair is `b1`. -/
def prbsSymbol (r : Nat) : Nat × Nat :=
  let b1 := prbsBit r
  let r1 := prbsNext r b1
  let b0 := prbsBit r1
  (2 * b1 + b0, prbsNext r1 b0)

/-- `m` symbols of PRBS13Q and the register after them. -/
def prbsRun : Nat → Nat → List Nat × Nat
  | 0, r => ([], r)
  | m + 1, r =>
    let x := prbsSymbol r
    let y := prbsRun m x.2
    (x.1 :: y.1, y.2)

/-- The register of a generator seeded at the start of training (R93). -/
def prbsSeed (k : Nat) : BitVec 13 := BitVec.ofNat 13 ((k + 1) * 0x155)

/-- A training frame as the bits of its symbols, and the register of the generator after it. -/
def trainingFrame (header : BitVec 64) (seed : BitVec 13) : BitVec 2048 × BitVec 13 :=
  let run := prbsRun 928 seed.toNat
  let marker := (List.range 64).map fun u => grayPair (markerLevel u)
  (BitVec.ofNat 2048 (ofSymbols (marker ++ symbols header 32 ++ run.1)), BitVec.ofNat 13 run.2)

/-- The symbols that differ between a checker's sequence and what came. -/
def patternErrors : List Nat → List Nat → Nat
  | a :: s, b :: t => (if a = b then 0 else 1) + patternErrors s t
  | _, _ => 0

/-- The register that the last symbols received leave: a checker takes its place in the sequence from them (R93). -/
def prbsFrom (got : List Nat) : Nat := got.foldl (fun r v => prbsNext (prbsNext r (v / 2)) (v % 2)) 0

/-- A checker over the 928 PRBS13Q symbols of a frame: the errors, and its register after the frame. One that is not yet
synchronised takes its register from the first 7 symbols; one that finds more than 256 errors takes it anew from the last. -/
def checkPattern (frame : BitVec 2048) (checker : Option (BitVec 13)) : Nat × BitVec 13 :=
  let got := (symbols frame 1024).drop 96
  let found := match checker with
    | some r =>
      let run := prbsRun 928 r.toNat
      (patternErrors run.1 got, run.2)
    | none =>
      let run := prbsRun 921 (prbsFrom (got.take 7))
      (patternErrors run.1 (got.drop 7), run.2)
  (found.1, BitVec.ofNat 13 (if 256 < found.1 then prbsFrom got else found.2))

/-! ## The field GF(2^10) (R119) -/

/-- Multiply by α modulo x^10 + x^3 + 1. -/
def symDouble (a : Nat) : Nat := if 512 ≤ a then (2 * a) ^^^ 0x409 else 2 * a

/-- A product of two polynomials over GF(2) of degree at most 9, in carry-less form. -/
def symProduct (a b : Nat) : Nat :=
  (b % 2 * a) ^^^ (b / 2 % 2 * (2 * a)) ^^^ (b / 4 % 2 * (4 * a)) ^^^ (b / 8 % 2 * (8 * a)) ^^^ (b / 16 % 2 * (16 * a)) ^^^
    (b / 32 % 2 * (32 * a)) ^^^ (b / 64 % 2 * (64 * a)) ^^^ (b / 128 % 2 * (128 * a)) ^^^ (b / 256 % 2 * (256 * a)) ^^^
    (b / 512 % 2 * (512 * a))

/-- Replace x^10 and above by x^3 + 1 times what is left of them. -/
def symFold (p : Nat) : Nat := p % 1024 ^^^ p / 1024 ^^^ 8 * (p / 1024)

/-- A product in the field. -/
def symMul (a b : Nat) : Nat := symFold (symFold (symProduct a b))

/-- The power `α^k`. -/
def symAlpha : Nat → Nat
  | 0 => 1
  | k + 1 => symDouble (symAlpha k)

/-- A square taken `k` times, and the product of all of them: `a^(2^(k+1) - 2)`. -/
def symInvFrom : Nat → Nat → Nat
  | 0, _ => 1
  | k + 1, a => symMul (symMul a a) (symInvFrom k (symMul a a))

/-- The inverse of an element that is not 0: its power 1,022. -/
def symInv (a : Nat) : Nat := symInvFrom 9 a

/-- The value of a polynomial at a point, its highest coefficient first. -/
def symEval (p : List Nat) (x : Nat) : Nat := p.foldl (fun acc c => symMul acc x ^^^ c) 0

/-- The sum of two polynomials, each with its constant first. -/
def symAdd : List Nat → List Nat → List Nat
  | a :: s, b :: t => (a ^^^ b) :: symAdd s t
  | [], t => t
  | s, [] => s

/-- A polynomial times an element. -/
def symScale (k : Nat) (p : List Nat) : List Nat := p.map (symMul k)

/-- A product of two polynomials, each with its constant first. -/
def symPolyMul : List Nat → List Nat → List Nat
  | [], _ => []
  | a :: s, q => symAdd (symScale a q) (0 :: symPolyMul s q)

/-! ## RS(272,257) (R119, R120) -/

/-- The generator polynomial, the product of `x - α^i` for `i` = 0 to 14, its constant first. -/
def rsGenerator : List Nat := (List.range 15).foldl (fun g i => symPolyMul g [symAlpha i, 1]) [1]

/-- One step of the division by the generator: the remainder, highest coefficient first, takes the next message symbol. -/
def rsStep (low : List Nat) (rem : List Nat) (m : Nat) : List Nat :=
  match rem with
  | [] => []
  | h :: t => symAdd (t ++ [0]) (symScale (h ^^^ m) low)

/-- The 15 check symbols of a message of 257 symbols, symbol 0 first. -/
def rsCheck (msg : List Nat) : List Nat :=
  msg.foldl (rsStep (rsGenerator.take 15).reverse) (List.replicate 15 0)

/-- The first `m` ten-bit symbols of a bit string. -/
def rsSymbols {n : Nat} (x : BitVec n) (m : Nat) : List Nat := (List.range m).map fun i => bits x (10 * i) 10

/-- A number from ten-bit symbols, symbol 0 lowest. -/
def ofRsSymbols : List Nat → Nat
  | [] => 0
  | v :: t => v % 1024 + 1024 * ofRsSymbols t

/-- The codeword of a message (systematic; message symbol 0 is sent first). Symbol 0 is the highest coefficient (DEDUCED, log entry 97). -/
def rsEncode (msg : BitVec 2570) : BitVec 2720 :=
  let m := rsSymbols msg 257
  BitVec.ofNat 2720 (ofRsSymbols (m ++ rsCheck m))

/-- The syndromes of a received word: its values at `α^0` to `α^14`. -/
def rsSyndromes (word : List Nat) : List Nat := (List.range 15).map fun j => symEval word (symAlpha j)

/-- The state of the Berlekamp-Massey search: the locator and the one before its last change (constants first), its length, the shift
since, and the discrepancy then. -/
structure Search where
  loc  : List Nat
  prev : List Nat
  len  : Nat
  gap  : Nat
  disc : Nat

/-- One step of the search, at syndrome `r`. -/
def Search.step (synd : List Nat) (x : Search) (r : Nat) : Search :=
  let d := (List.range (x.len + 1)).foldl (fun acc i =>
    if i ≤ r then acc ^^^ symMul (x.loc.getD i 0) (synd.getD (r - i) 0) else acc) 0
  if d = 0 then { x with gap := x.gap + 1 }
  else
    let corr := symScale (symMul d (symInv x.disc)) (List.replicate x.gap 0 ++ x.prev)
    let loc := symAdd x.loc corr
    if 2 * x.len ≤ r then { loc := loc, prev := x.loc, len := r + 1 - x.len, gap := 1, disc := d }
    else { x with loc := loc, gap := x.gap + 1 }

/-- The error locator of a list of syndromes and its degree. -/
def rsLocator (synd : List Nat) : List Nat × Nat :=
  let x := (List.range 15).foldl (Search.step synd) { loc := [1], prev := [1], len := 0, gap := 1, disc := 1 }
  (x.loc, x.len)

/-- The powers of x at which the locator shows an error: `k` for a root at `α^-k`. -/
def rsRoots (loc : List Nat) : List Nat :=
  (List.range 272).filter fun k => symEval loc.reverse (symAlpha ((1023 - k) % 1023)) == 0

/-- The error at a power of x (Forney; the generator's first root is `α^0`). -/
def rsError (synd loc : List Nat) (k : Nat) : Nat :=
  let inv := symAlpha ((1023 - k) % 1023)
  let omega := (symPolyMul synd loc).take 15
  let top := symEval omega.reverse inv
  let odd := (List.range loc.length).foldl (fun acc i =>
    if i % 2 = 1 then acc ^^^ symMul (loc.getD i 0) ((List.range (i - 1)).foldl (fun p _ => symMul p inv) 1) else acc) 0
  symMul (symAlpha k) (symMul top (symInv odd))

/-- A received word corrected, with the number of symbols corrected; nothing where it has more than 7 errors (R120). -/
def rsDecode (word : BitVec 2720) : Option (BitVec 2720 × Nat) :=
  let w := rsSymbols word 272
  let synd := rsSyndromes w
  if synd.all fun v => v == 0 then some (word, 0)
  else
    let l := rsLocator synd
    let roots := rsRoots l.1
    if 7 < l.2 ∨ roots.length ≠ l.2 then none
    else
      let fixed := roots.foldl (fun x k => x.modify (271 - k) fun v => v ^^^ rsError synd l.1 k) w
      if (rsSyndromes fixed).all fun v => v == 0 then some (BitVec.ofNat 2720 (ofRsSymbols fixed), l.2) else none

/-! ## Slots on the lanes (R124, R125) -/

/-- The bits of a slot that each lane carries: 96 at x8, 192 at x4, 768 at x1. -/
def slotSpan (form : Nat) : Nat :=
  match form with
  | 2 => 96 | 1 => 192 | _ => 768

/-- The part of a slot that position `p` carries: share `p` at x8, shares `p` and `p + 4` at x4, the whole cell at x1. -/
def slotPart (form : Nat) (slot : BitVec 768) (p : Nat) : Nat :=
  match form with
  | 2 => bits slot (96 * p) 96
  | 1 => bits slot (96 * p) 96 + 2 ^ 96 * bits slot (96 * (p + 4)) 96
  | _ => slot.toNat

/-- The slot that the parts of its positions make. -/
def slotFrom (form : Nat) (parts : List Nat) : BitVec 768 :=
  match form with
  | 2 => pack 768 ((List.range 8).map fun p => (96 * p, 96, parts.getD p 0))
  | 1 => pack 768 ((List.range 4).flatMap fun p =>
      [(96 * p, 96, parts.getD p 0 % 2 ^ 96), (96 * (p + 4), 96, parts.getD p 0 / 2 ^ 96)])
  | _ => BitVec.ofNat 768 (parts.getD 0 0)

/-- What a lane contributes to a received slot: the bits of its span, whether each codeword it lies in could be decoded, and the
codewords whose last message bit lies in it, each with its corrected symbols, or nothing where it is uncorrectable. -/
structure PartRead where
  value : Nat
  good  : Bool
  ended : List (Option Nat)

/-- Read a lane's span of a slot: `off` message bits into a first codeword, and on into a second where it crosses. Nothing where the
codeword's end cuts it and no codeword follows (R125). -/
def readPart (invert : Bool) (span off : Nat) (first : BitVec 2720) (second : Option (BitVec 2720)) : Option PartRead :=
  let a := rsDecode (fromPins invert first)
  let aMsg := (a.map fun x => x.1.toNat).getD 0
  if off + span ≤ 2570 then
    some { value := aMsg / 2 ^ off % 2 ^ span, good := a.isSome
           ended := if off + span = 2570 then [a.map fun x => x.2] else [] }
  else
    second.map fun w =>
      let b := rsDecode (fromPins invert w)
      let bMsg := (b.map fun x => x.1.toNat).getD 0
      let here := 2570 - off
      { value := aMsg / 2 ^ off % 2 ^ here + 2 ^ here * (bMsg % 2 ^ (span - here)), good := a.isSome && b.isSome
        ended := [a.map fun x => x.2] }

end Sys2Proof.Machine
end

