-- ==== Sys2Proof/Machine/LinkOps.lean ====
section
/-! DEFINITION. Shared operations of lanes and links: shares and parity (R122 to R124), routing entries (R170), credit
(R129, R130), violations (R154, R155), training, retrain, realignment, link down (R157) and lane failure (R114). -/

namespace Sys2Proof.Machine

/-! ## Shares (R122, R123) -/

/-- The 88 content bytes of a cell: header, then payload. -/
def contentBytes (c : Cell) : List Byte := toBytes (headerBits c) 24 ++ toBytes c.payload 64

/-- The eight shares of a cell, each 11 content bytes and its parity byte, share 0 first. -/
def slotOf (c : Cell) : BitVec 768 :=
  let all := contentBytes c
  let share (p : Nat) : List Byte :=
    let body := (all.drop (11 * p)).take 11
    body ++ [BitVec.ofNat 8 (crc8 p body)]
  BitVec.ofNat 768 (ofBytes ((List.range 8).flatMap share))

/-- Share `p` of a received slot passes its parity (R123). -/
def shareOk (slot : BitVec 768) (p : Nat) : Bool :=
  let bs := (toBytes slot 96).drop (12 * p)
  crc8 p (bs.take 11) == ((bs.drop 11).headD 0).toNat

/-- The cell that a slot's content bytes spell. -/
def slotCell (slot : BitVec 768) : Cell :=
  let all := toBytes slot 96
  let content := (List.range 8).flatMap fun p => (all.drop (12 * p)).take 11
  cellOf (BitVec.ofNat 192 (ofBytes (content.take 24))) (BitVec.ofNat 512 (ofBytes (content.drop 24)))

/-- A slot is errored (R126): a share fails, a bit lies in an uncorrectable codeword, or the header check fails. -/
def slotErrored (slot : BitVec 768) (decoded : Bool) : Bool :=
  let c := slotCell slot
  !decoded || !(List.range 8).all (shareOk slot) || c.hchk != headerCheck c

/-! ## Routing entries (Table 06-4) -/

/-- A routing entry. -/
structure Route where
  preferred  : Nat
  dist       : Nat
  valid      : Bool
  productive : Word
  neutral    : Word
deriving DecidableEq, Repr

/-- The entry of node `d` in a version. -/
def routeEntry (v : PlateV) (d : Nat) : Route :=
  let w := v.word 0x102 (3 * d)
  { preferred := bits w 0 5, dist := bits w 5 3, valid := bit w 8
    productive := v.word 0x102 (3 * d + 1), neutral := v.word 0x102 (3 * d + 2) }

/-- The links of a logical port. -/
def State.portLinks (s : State) (p : Nat) : List Nat :=
  (List.range 32).filter fun n => s.role n != 0 && s.portOf n == p

/-- A port whose links are SEAT links. -/
def State.seatPort (s : State) (p : Nat) : Bool := (s.portLinks p).any fun n => s.role n == 1

/-- A link is in service for a cell: UP, and where it is restricted, for the C5 cells of its own peer alone (R149, R174). -/
def State.linkServes (s : State) (n : Nat) (c : Cell) : Bool :=
  let x := s.link n
  decide (x.state = .up) && (x.restrict == 0 || (c.cls == 5 && c.dest.toNat == s.fld (R.link n + 0x14) 0 15))

/-- A port is in service for a cell (R174). -/
def State.portServes (s : State) (p : Nat) (c : Cell) : Bool := (s.portLinks p).any fun n => s.linkServes n c

/-! ## Credit (R129, R130) -/

/-- The reserved cells of a class (Table 05-2). -/
def reservedCells (c : Nat) : Nat := if c < 4 then 128 else 256

/-- Cells of class `c` in use at the receiver as the sender estimates it (R129). -/
def Link.inUse (x : Link) (c : Nat) : Nat :=
  (tabGet 0 x.sent c + 65536 - tabGet 0 x.peerFreed c) % 65536

/-- The shared use of the peer's pool as the sender estimates it. -/
def Link.sharedUse (x : Link) : Nat :=
  ((List.range 6).map fun c => x.inUse c - reservedCells c).sum

/-- R129's permission to send a new class `c` cell. -/
def Link.maySend (x : Link) (c : Nat) : Bool :=
  decide (x.inUse c < reservedCells c ∨ x.sharedUse < 1024)

/-- A gating domain's state. -/
def State.domain (s : State) (k : Nat) : DomainState := tabGet .running s.kpr.domains k

/-- The table key of a domain: lanes 0 to 287, links 288 to 319, the ERU 320. -/
def domainKey : Domain → Nat
  | .lane l => l
  | .link n => 288 + n
  | .eru => 320

/-- A link offers the switch credit for class `c` (R130, R42). -/
def State.offersCredit (s : State) (n c : Nat) : Bool :=
  let x := s.link n
  decide (x.state = .up) && x.drainAt.isNone && s.domain (288 + n) != .gated && x.maySend c &&
    decide (x.queued c < 8) && decide (x.replay.length < 4096)

/-- Set a domain's state. -/
def State.setDomain (s : State) (k : Nat) (d : DomainState) : State :=
  { s with kpr := { s.kpr with domains := tabSet .running s.kpr.domains k d } }

/-- Wake one lane's domain (R43): a gated lane returns to ACTIVE or STANDBY, and waits for the peer's signal (Table 04-9). -/
def State.wakeLane (s : State) (l : Nat) : State :=
  let s1 := s.setDomain l .running
  let y := s1.lane l
  if y.state = .gated then
    (s1.laneTo l (if y.wasStandby then .standby else .active)).modLane l fun z =>
      { z with wasGated := true, wokeAt := if z.signal then none else some s.now }
  else s1

/-- Wake a link's domain and its lanes, counting a wake of a gated link in LINK_WAKES (R43, R45). -/
def State.wakeLink (s : State) (n : Nat) : State :=
  let gated := s.domain (288 + n) == .gated
  let s1 := s.setDomain (288 + n) .running
  let s2 := if gated then s1.setFld R.kprDomain 16 8 (min 255 (s1.fld R.kprDomain 16 8 + 1)) else s1
  (List.range 9).foldl (fun t k => t.wakeLane (9 * n + k)) s2

/-- Cells of a class that the receive pool holds. -/
def Link.poolOf (x : Link) (c : Nat) : Nat :=
  (x.pool.filter fun y => y.cls.toNat == c).length +
    (x.held.filter fun h => match h.cell with
      | some y => y.cls.toNat == c
      | none => false).length

/-- The pool has a reserved or a shared place for a class `c` cell (R129). -/
def Link.hasRoom (x : Link) (c : Nat) : Bool :=
  let shared := ((List.range 6).map fun k => x.poolOf k - reservedCells k).sum
  decide (x.poolOf c < reservedCells c ∨ shared < 1024)

/-- One cell of class `c` leaves the pool (R129). -/
def Link.freeCell (x : Link) (c : Nat) : Link :=
  { x with freed := tabSet 0 x.freed c ((tabGet 0 x.freed c + 1) % 65536) }

/-! ## Notices (R182, R157) -/

/-- The NOTICE payload for a discarded cell (Table 06-6). -/
def noticePayload (c : Cell) (status reason member : Nat) : Line :=
  packBytes 512
    [(0, 1, status), (1, 1, reason), (2, 2, member), (4, 2, c.tag.toNat),
     (6, 2, c.index.toNat + 4096 * b2n c.last + 8192 * b2n c.mcast + 16384 * c.tree.toNat),
     (8, 2, c.dest.toNat), (10, 2, c.pkey.toNat), (12, 4, c.time.toNat), (16, 1, c.typ.toNat)]

/-- A NOTICE to a node about a discarded cell. -/
def State.noticeTo (s : State) (node : Nat) (c : Cell) (status reason member : Nat) : Cell :=
  s.mkCell 0x14 node 0 c.tag.toNat (noticePayload c status reason member)

/-- The switch discards a cell and answers with a NOTICE where R182 sends one. -/
def State.sendNotice (s : State) (c : Cell) (status reason member : Nat) : State :=
  let cls := c.cls.toNat
  if (cls = 0 ∨ cls = 2 ∨ cls = 3) ∧ (c.index = 0 ∨ c.last = true) then
    (s.injectCell (s.noticeTo (epNode c.src.toNat) c status reason member)).bump R.noticesTx
  else s

/-- The waiting requester of a cell: the destination of a C1 cell, the source of any other (R157). -/
def requesterOf (c : Cell) : Nat := epNode (if c.cls = 1 then c.dest.toNat else c.src.toNat)

/-- A cell that a link gives up (R157, R158), counted: its requester on this node learns directly, knowing whether its own
request was never sent; another gets one NOTICE for each distinct node and TAG, counted in CSW_NOTICES_TX (R223); a C5 cell gets none. `told` lists the
pairs already told. -/
def State.giveUpCell (s : State) (status reason n : Nat) (c : Cell) (unsent : Bool) (told : List (Nat × Nat)) :
    State × List (Nat × Nat) :=
  let s1 := s.bump (R.link n + 0x44)
  let dest := requesterOf c
  let pair := (dest, c.tag.toNat)
  if c.cls = 5 then (s1, told)
  else if dest = s1.nodeId then
    (s1.eject 32 (s1.noticeTo dest c status reason c.dest.toNat) (unsent && epNode c.src.toNat == s1.nodeId), told)
  else if told.contains pair then (s1, told)
  else ((s1.injectCell (s1.noticeTo dest c status reason c.dest.toNat)).bump R.noticesTx, told ++ [pair])

/-! ## Violations (R154, R155) -/

/-- The sum of the sub-window counts of the current window and the 15 before it. -/
def windowSum (t : Tab Nat) (k : Nat) : Nat :=
  ((t.filter fun e => decide (k < e.1 + 16)).map fun e => e.2).sum

/-- Count an event in its sub-window, forgetting those that have passed. -/
def windowAdd (t : Tab Nat) (k : Nat) : Tab Nat :=
  tabInsert (t.filter fun e => decide (k < e.1 + 16)) k (tabGet 0 t k + 1)

/-- A partner protocol violation: counted, logged, answered by at most one PROTEST per microsecond, and restricting
the link at sixteen in the window. -/
def State.linkViolation (s : State) (n code : Nat) (c : Cell) (seq : Nat) : State :=
  let s1 := (s.bump (R.link n + 0x30)).setReg (R.link n + 0x34) (pack 32 [(0, 4, code), (16, 16, seq)])
  let x := s1.link n
  let k := s1.now / 62500
  let v := windowAdd x.violations k
  let quiet : Bool := match x.lastProtest with
    | some t => decide (t + 1000 ≤ s1.now)
    | none => true
  let protest := ! cellIs c 0x3E && quiet
  let body := packBytes 512 [(0, 1, code), (2, 2, seq), (4, 24, (headerBits c).toNat), (28, 8, s1.now)]
  let x1 := { x with violations := v }
  let x2 := if protest then { x1 with ctl := x1.ctl ++ [s1.linkCell n 0x3E body], lastProtest := some s1.now } else x1
  let beyond := decide (16 ≤ windowSum v k)
  let s2 := s1.setLink n (if beyond then { x2 with violAt := some s1.clk.count } else x2)
  if beyond then s2.restrictLink n 2 true else s2

/-! ## Lanes -/

/-- The lane states' codes (Table 04-5). -/
def LaneState.code : LaneState → Nat
  | .off => 0 | .training => 1 | .locked => 2 | .active => 3 | .standby => 4 | .gated => 5 | .failed => 6

/-- Lane `k` of link `n` is not FAILED. -/
def State.laneWorks (s : State) (n k : Nat) : Bool := decide ((s.lane (9 * n + k)).state ≠ .failed)

/-- The lanes of a link that are not FAILED, in order. -/
def State.workingLanes (s : State) (n : Nat) : List Nat := (List.range 9).filter (s.laneWorks n)

/-- The physical lane at a position of a link's map; 15 when unused. -/
def State.mapAt (s : State) (n p : Nat) : Nat := s.fld (R.link n + 0xC) (4 * p) 4

/-- The mapped lanes of a link, by position. -/
def State.mapped (s : State) (n : Nat) : List Nat :=
  ((List.range 8).map (s.mapAt n)).filter fun k => k != 15

/-- A map word from the lanes of positions 0 upward. -/
def mapWord (ks : List Nat) : Word :=
  pack 32 ((List.range 8).map fun p => (4 * p, 4, ks.getD p 15))

/-- A lane fails (R114, R115): it sends FAIL frames, goes quiet, and counts in LANE_FAILS. -/
def State.markFailed (s : State) (l cause : Nat) : State :=
  let s1 := (s.laneTo l .failed).bump (R.lane l + 0x24)
  s1.modLane l fun y => { y with cause := BitVec.ofNat 4 cause, rxLock := false, remoteLock := false
                                 sentNotice := 4, sentCount := 4, txIdle := false, rxIdle := false
                                 failedAt := some s.clk.count, nextCause := 0 }

/-! ## The map of an exchange (R146, R147) -/

/-- This end leads the exchange (R146). -/
def State.leads (s : State) (n : Nat) (p : Line) : Bool :=
  let mine := [s.nodeId, n, (s.link n).nonce.toNat]
  let theirs := [bytesAt p 0 2 % 2 ^ 15, bits p 16 5, bytesAt p 56 4]
  decide (mine < theirs)

/-- The map that the leader builds (R147). -/
def State.leaderMap (s : State) (n : Nat) (p : Line) : Option (BitVec 2 × List Nat) :=
  let both := (s.workingLanes n).filter fun k => bit p (48 + k)
  let capped := bit (s.reg (R.link n + 8)) 1
  if both.length < 4 then none
  else if 8 ≤ both.length ∧ ¬ capped then some (2, both.take 8)
  else some (1, both.take 4)

/-- The map of the exchange: the leader's own, or the one the leader sent. -/
def State.agreedMap (s : State) (n : Nat) (p : Line) : Option (BitVec 2 × List Nat) :=
  if s.leads n p then s.leaderMap n p
  else
    let ks := ((List.range 8).map fun i => bits p (416 + 4 * i) 4).filter fun k => k != 15
    some (if ks.length = 8 then 2 else 1, ks)

/-! ## The stream sent (R119, R124, R125) -/

/-- The lanes that carry slots of a form, by position: every working lane at x1, else those of the exchange's map before UP and of the
active map after it. -/
def State.formLanes (s : State) (n form : Nat) : List Nat :=
  let x := s.link n
  if form = 3 then s.workingLanes n
  else if x.state = .ident then
    match x.peerIdent with
    | some p => ((s.agreedMap n p).map fun m => m.2).getD []
    | none => []
  else s.mapped n

/-- The message bits of the codewords in progress with one slot more, by position. -/
def Link.addSlot (x : Link) (slot : BitVec 768) (positions : Nat) : Tab Nat :=
  (List.range positions).map fun p => (p, tabGet 0 x.txMsg p + slotPart x.form.toNat slot p * 2 ^ x.txPos)

/-- The codewords that are full go out, each on its lane with the lane's polarity. -/
def State.sendWords (s : State) (lanes : List Nat) (n : Nat) (msgs : Tab Nat) : Tab (BitVec 2720) :=
  msgs.foldl (fun t e =>
    let k := lanes.getD e.1 0
    tabInsert t k (toPins (bit (s.lane (9 * n + k)).eq0 1) (rsEncode (BitVec.ofNat 2570 e.2)))) (s.link n).txLine

/-- One slot goes out on the lanes that carry the link's slots (R124): full codewords are coded and sent, the rest waits. -/
def State.pushSlot (s : State) (n : Nat) (slot : BitVec 768) : State :=
  let x := s.link n
  let lanes := s.formLanes n x.form.toNat
  let msgs := x.addSlot slot lanes.length
  let pos := x.txPos + slotSpan x.form.toNat
  if pos < 2570 then s.setLink n { x with txMsg := msgs, txPos := pos }
  else s.setLink n { x with txLine := s.sendWords lanes n msgs, txMsg := msgs.map fun e => (e.1, e.2 / 2 ^ 2570), txPos := pos - 2570 }

/-- A cell goes out in one slot, as its header was formed. -/
def State.sendSlot (s : State) (n : Nat) (c : Cell) : State :=
  (s.pushSlot n (slotOf c)).modLink n fun x => { x with txSlot := some c }

/-- Number `q` lies before `top` counted from `base`, all mod 2^16. -/
def seqBefore (base q top : BitVec 16) : Bool := decide ((q - base).toNat < (top - base).toNat)

/-- Number `q` is a gap: known to be sent, and neither accepted nor held. -/
def Link.isGap (x : Link) (q : BitVec 16) : Bool :=
  seqBefore x.expect q x.top && ! x.held.any fun h => h.seq == q

/-- The NAK map (R134). -/
def Link.nakMap (x : Link) : BitVec 16 :=
  pack 16 ((List.range 16).map fun i => (i, 1, b2n (x.isGap (x.expect + BitVec.ofNat 16 i))))

/-- Write ACK, NAK map and SEQ into a cell to be sent (R127, R134). -/
def Link.stamp (x : Link) (c : Cell) (seq : BitVec 16) : Cell :=
  { c with ack := x.expect - 1, nak := x.nakMap, seq := seq }

/-- Stop the stream at a codeword boundary (R125): NULL cells fill the codewords in progress, and what the last of them has beyond the
boundary is cut. -/
def State.stopStream (s : State) (n : Nat) : State :=
  let x := s.link n
  if x.txPos = 0 then s
  else
    let c := x.stamp (s.linkCell n 0x38 0) x.nextSeq
    let k := (2570 - x.txPos + slotSpan x.form.toNat - 1) / slotSpan x.form.toNat
    ((List.range k).foldl (fun t _ => t.sendSlot n c) s).modLink n fun y =>
      { y with txPos := 0, txMsg := [], sinceCredit := y.sinceCredit + k }

/-! ## The stream received -/

/-- What the lanes bring of a slot: whether the end of a codeword cuts it (R125), its bits, whether every codeword that they lie in
could be decoded, and the codewords that end in it, by lane. -/
structure SlotRead where
  cut     : Bool
  slot    : BitVec 768
  decoded : Bool
  ended   : List (Nat × Option Nat)

/-- The polarity of a lane's receiver (R88). -/
def State.rxInvert (s : State) (l : Nat) : Bool := bit (s.lane l).eq0 2

/-- A slot is good as it stands on one lane at x1, or whole from its positions. -/
def slotGood (slot : BitVec 768) : Bool := ! slotErrored slot true

/-- Read a slot of a form from what the lanes of a link bring (R119, R124, R126). At x1 every lane brings the whole cell: the first good
copy is read. -/
def State.readSlot (s : State) (n form : Nat) (parts : List SlotPart) : SlotRead :=
  let reads := parts.map fun p =>
    (p.lane.val, readPart (s.rxInvert (9 * n + p.lane)) (slotSpan form) p.offset p.first p.second)
  let ended := reads.flatMap fun r => ((r.2.map fun y => y.ended).getD []).map fun e => (r.1, e)
  let cut := reads.any fun r => r.2.isNone
  if form = 3 then
    let copies := reads.filterMap fun r => (r.2.filter fun y => y.good).map fun y => slotFrom 3 [y.value]
    match (copies.find? slotGood).or copies.head? with
    | some x => { cut := cut, slot := x, decoded := true, ended := ended }
    | none => { cut := cut, slot := 0, decoded := false, ended := ended }
  else
    let got := (s.formLanes n form).map fun k => ((reads.find? fun r => r.1 == k).bind fun r => r.2)
    { cut := cut, slot := slotFrom form (got.map fun y => (y.map fun z => z.value).getD 0)
      decoded := ! got.isEmpty && got.all fun y => (y.map fun z => z.good).getD false, ended := ended }

/-! ## Acknowledgement -/

/-- Release every replay entry up to and including an acknowledged number (R135). -/
def Link.applyAck (x : Link) (ack : BitVec 16) : Link :=
  { x with replay := x.replay.filter fun r => decide ((ack - x.lastAck).toNat < (r.seq - x.lastAck).toNat)
           lastAck := ack }

/-- An ACK among the unacknowledged numbers is applied; a stale one, or one ahead, is not (R135). -/
def Link.takeAck (x : Link) (ack : BitVec 16) : Link :=
  let ahead := (ack - x.lastAck).toNat
  if ahead = 0 ∨ (x.nextSeq - 1 - x.lastAck).toNat < ahead then x else x.applyAck ack

/-- The good slot of a link that a waiting command brings. -/
def State.slotWaiting (s : State) (n : Nat) : Instr → Option Cell
  | .nullCellRx m c => if m.val = n then some c else none
  | .ackCellRx m c => if m.val = n then some c else none
  | .creditCellRx m c => if m.val = n then some c else none
  | .retrainCellRx m c => if m.val = n then some c else none
  | .downCellRx m c => if m.val = n then some c else none
  | .protestRx m c => if m.val = n then some c else none
  | .sequencedCellRx m form parts =>
    if m.val = n then
      let r := s.readSlot n form.toNat parts
      if ! r.cut && ! slotErrored r.slot r.decoded then some (slotCell r.slot) else none
    else none
  | _ => none

/-- Apply the ACKs that arrive in this cycle, ahead of a link-down declaration (R139): the clock advances only on an empty queue, so
the waiting commands are of the same cycle. DEDUCED, log entry 104. -/
def State.acksFirst (s : State) (n : Nat) : State :=
  s.modLink n fun x => (s.pending.filterMap (s.slotWaiting n)).foldl (fun y c => y.takeAck c.ack) x

/-! ## Training -/

/-- Start one lane's training (R93, R99, R102, R105): with its entry and its generator's seed, once its engine is ready; NO_ENTRY or
ENGINE fail it. While the engine's bring-up runs the lane shows OFF. That state the spec does not give (DESIGN CHOICE, log entry 87). -/
def State.trainLane (s : State) (l : Nat) : State :=
  if (s.lane l).state = .failed then s
  else
    let eq0 := s.reg (R.lane l + 8)
    let eq1 := s.reg (R.lane l + 0xC)
    let eng := s.reg (R.engineState + 4 * bits eq1 16 6)
    if ! bit eq0 0 then s.markFailed l 1
    else if bit eng 4 then s.markFailed l 7
    else
      let s1 := s.modLane l fun y => { y with
        eq0 := eq0, eq1 := eq1, rxLock := false, remoteLock := false, lockRun := 0, orderRun := 0, noneRun := 0
        txIdle := false, rxIdle := false, callDone := false, sentNotice := 0, sentCount := 0, loop := false, frozen := false
        prbs := prbsSeed (l % 9), txFrame := none, frameRun := 0, frames := 0, patErrs := [], checker := none, trainAt := s.now
        signalAt := if y.signal then some s.now else none, lockedAt := none, wokeAt := none, burstAt := none, uncorr := []
        wasGated := false }
      if bit eng 3 then s1.laneTo l .training else s1.laneTo l .off

/-- Start every lane of a link that is not FAILED. -/
def State.trainLanes (s : State) (n : Nat) : State :=
  (List.range 9).foldl (fun t k => t.trainLane (9 * n + k)) s

/-- Put every lane of a link that is not FAILED to OFF. -/
def State.lanesOff (s : State) (n : Nat) : State :=
  (List.range 9).foldl (fun t k => t.laneOff (9 * n + k)) s

/-- The link's sequence numbers, counts and pool as TRAIN resets them; the switch still takes the cells in order (Table 05-11). -/
def Link.fresh (x : Link) : Link :=
  { x with txq := [], pool := [], passed := x.passed ++ x.pool, held := [], replay := [], floods := [], expect := 0, top := 0
           nextSeq := 0, lastAck := 0xFFFF, sent := [], freed := [], peerFreed := [], reported := [], changedAt := none
           sinceCredit := 0, turn := 0, ctl := [] }

/-! ## Link down (R156, R157) -/

/-- Another path exists for a cell of a link that goes down (R181). -/
def State.otherPath (s : State) (n : Nat) (c : Cell) : Bool :=
  match s.versionOf c.epoch with
  | none => false
  | some v =>
    let dest := c.dest.toNat
    let here := epNode dest == s.nodeId
    let e := routeEntry v (epNode dest)
    let excluded := s.portOf n
    let isSenior := decide (s.fld R.cswCfg 0 4 ≤ c.hop.toNat)
    if here && decide (0x4000 ≤ dest) then
      let p := bits (s.plateWord 0x101 (34 + dest % 16)) 0 5
      (s.portLinks p).any fun m => decide ((s.link m).state = .up)
    else if here then true
    else
      (List.range 32).any fun p =>
        p != excluded && !s.seatPort p && s.portServes p c && (!isSenior || bit e.productive p)

/-- A flooded or SYNC cell, which belongs to its link alone (R454, R484). -/
def linkBound (c : Cell) : Bool :=
  cellIs c 0x30 || (cellIs c 0x33 && (bytesAt c.payload 32 1 == 2 || bytesAt c.payload 32 1 == 3))

/-- Dispose of one unacknowledged cell: offered for another path, or LINK_LOST. -/
def State.rerouteCell (s : State) (n : Nat) (c : Cell) (told : List (Nat × Nat)) : State × List (Nat × Nat) :=
  if ! linkBound c && s.otherPath n c then
    let s1 := (s.bump (R.link n + 0x48)).bump R.rerouteOk
    ({ s1 with csw := { s1.csw with reroutes := s1.csw.reroutes ++ [(n, c)] } }, told)
  else if linkBound c then s.giveUpCell 3 6 n c false told
  else
    let r := (s.bump (R.link n + 0x48)).giveUpCell 3 6 n c false told
    ((r.1.bump R.rerouteLost).raiseFault 18 n 1 0, r.2)

/-- Dispose of every cell that a link holds (Table 05-11). -/
def State.dispose (s : State) (n : Nat) : State :=
  let x := s.link n
  let s1 := s.setLink n { x with txq := [], replay := [], held := [], floods := [] }
  let r := (x.txq ++ x.floods).foldl (fun e c => e.1.giveUpCell 3 6 n c true e.2) (s1, [])
  (x.replay.foldl (fun e y => e.1.rerouteCell n y.cell e.2) r).1

/-- A link goes DOWN with a cause: 1 ERROR_RATE, 2 RETRAIN_FAILED, 3 LANES, 4 PEER, 5 SOFTWARE. Of several in one cycle the lowest
stands (R156). -/
def State.goDown (s : State) (n cause : Nat) : State :=
  let x := s.link n
  if x.state = .disabled then s
  else if x.state = .down then
    if x.downAt = some s.clk.count then
      s.setLink n { x with downCause := BitVec.ofNat 3 (min (if x.downCause = 0 then 7 else x.downCause.toNat) cause) }
    else s
  else
    let wasUp := decide (x.state = .up)
    let s0 := if wasUp then (s.wakeLink n).acksFirst n else s.stopStream n
    let cells := if wasUp then s.downCells n cause else []
    let s1 := s0.modLink n fun y => { y with state := .down, width := 0, downCause := BitVec.ofNat 3 cause, drainAt := none
                                             downAt := some s.clk.count }
    let s2 := (s1.dispose n).lanesOff n
    let s3 := s2.modLink n fun y => { y with ctl := cells }
    let s4 := s3.raiseFault 11 n 1 0
    if wasUp then s4.leaveUp n else s4

/-- Enter TRAIN (Table 05-6): a new SESSION, counts reset, blind start of every lane not FAILED; DOWN with fewer than 4. -/
def State.startTrain (s : State) (n : Nat) : State :=
  let v := s.freshVal 16
  let s1 := s.tookFree.setLink n { (s.link n).fresh with
    state := .train, width := 0, downCause := 0, downAt := none, drainAt := none, fromRetrain := false, known := false, form := 0, txPos := 0
    txMsg := [], enteredAt := s.now, session := BitVec.ofNat 16 (if v = 0 then 1 else v) }
  let s2 := s1.trainLanes n
  if (s2.workingLanes n).length < 4 then s2.goDown n 3 else s2

/-- Enter RETRAIN with a reason (0 keeps LAST_RETRAIN): 8 RETRAIN cells if UP, then blind start; replay buffer and pool
kept. -/
def State.enterRetrain (s : State) (n reason : Nat) : State :=
  let x := s.link n
  let wasUp := decide (x.state = .up)
  let cells := if wasUp then List.replicate 8 (s.linkCell n 0x3C 0) else []
  let s0 := if wasUp then s.wakeLink n else s.stopStream n
  let s1 := (s0.modLink n fun y => { y with
    state := .retrain, fromRetrain := true, ctl := cells, enteredAt := s.now
    lastRetrain := if reason = 0 then y.lastRetrain else BitVec.ofNat 3 reason }).bump (R.link n + 0x40)
  let s2 := s1.trainLanes n
  if wasUp then s2.leaveUp n else s2

/-- Count an errored cell (R126, R156): past the threshold in the window the link goes DOWN with ERROR_RATE. -/
def State.erroredCell (s : State) (n : Nat) : State :=
  let s1 := s.bump (R.link n + 0x24)
  let sub := s1.timer 5 * 1000 / 16
  let k := s1.now / (if sub = 0 then 1 else sub)
  let e := windowAdd (s1.link n).errors k
  let s2 := s1.modLink n fun y => { y with errors := e }
  if s2.timer 6 < windowSum e k then s2.goDown n 1 else s2

/-! ## Realignment (R152, R153) -/

/-- Fill the positions whose lane failed with the lowest-numbered working unmapped lanes, in ascending order. -/
def fillMap : List Nat → (Nat → Bool) → List Nat → Option (List Nat)
  | [], _, _ => some []
  | k :: ks, ok, spare =>
    if ok k then (fillMap ks ok spare).map (k :: ·)
    else match spare with
      | [] => none
      | x :: xs => (fillMap ks ok xs).map (x :: ·)

/-- Give the lanes of a link their parts in a map: mapped lanes ACTIVE, other working lanes STANDBY. -/
def State.applyMap (s : State) (n : Nat) (ks : List Nat) : State :=
  let s1 := s.setReg (R.link n + 0xC) (mapWord ks)
  (s1.workingLanes n).foldl (fun t k =>
    t.laneTo (9 * n + k) (if ks.contains k then .active else .standby)) s1

/-- The records of a new map (Table 05-12): the understudy taken into service, the width reduced to x4.
Only from eight lanes (DEDUCED, log entry 102). -/
def State.mapRecords (s : State) (n : Nat) (old ks : List Nat) : State :=
  let s1 := if ks.contains 8 && ! old.contains 8 then s.raiseFault 8 n 1 0 else s
  if old.length = 8 ∧ ks.length = 4 then s1.raiseFault 9 n 1 0 else s1

/-- The map after a mapped lane's failure (R152): the width bit and the lanes, or nothing with fewer than 4. -/
def State.realignMap (s : State) (n : Nat) : Option (BitVec 2 × List Nat) :=
  let work := s.workingLanes n
  let cur := s.mapped n
  let spare := work.filter fun k => ! cur.contains k
  let capped := bit (s.reg (R.link n + 8)) 1
  if work.length < 4 then none
  else
    match (if (s.link n).width = 2 ∧ capped then none else fillMap cur (s.laneWorks n) spare) with
    | some ks => some ((s.link n).width, ks)
    | none => some (1, work.take 4)

/-- A mapped lane failed while the link is UP or REALIGN: a new map, burst and deskew, or DOWN with LANES. -/
def State.realign (s : State) (n : Nat) : State :=
  match s.realignMap n with
  | none => s.goDown n 3
  | some (w, ks) =>
    let wasUp := decide ((s.link n).state = .up)
    let old := s.mapped n
    let s0 := (s.wakeLink n).stopStream n
    let s1 := (s0.modLink n fun x => { x with state := .realign, width := w, form := w, realignAt := s.now }).applyMap n ks
    let s2 := (List.range 9).foldl (fun t k => t.modLane (9 * n + k) fun y => { y with burstAt := none }) s1
    let s3 := s2.mapRecords n old ks
    if wasUp then s3.leaveUp n else s3

/-- A cause that arises on a FAILED lane: in the cycle of its failure the lowest code stands (R114); a later one is kept for a CLEAR_FAIL
of the same cycle (R116). -/
def Lane.alsoFails (y : Lane) (count cause : Nat) : Lane :=
  if y.failedAt = some count then
    if y.nextCause = 0 then { y with cause := BitVec.ofNat 4 (min y.cause.toNat cause) }
    else { y with nextCause := BitVec.ofNat 4 (min y.nextCause.toNat cause) }
  else { y with failedAt := some count, nextCause := BitVec.ofNat 4 cause }

/-- A lane fails with a cause (R114), and its link responds (R152, Table 05-6). -/
def State.failLane (s : State) (l cause : Nat) : State :=
  if (s.lane l).state = .failed then s.modLane l fun y => y.alsoFails s.clk.count cause
  else
    let n := l / 9
    let k := l % 9
    let wasMapped := (s.mapped n).contains k
    let s1 := s.markFailed l cause
    match (s1.link n).state with
    | .up => if wasMapped then s1.realign n else s1
    | .realign => if wasMapped then s1.realign n else s1
    | .train => if (s1.workingLanes n).length < 4 then s1.goDown n 3 else s1
    | _ => s1

/-- Count a codeword that a lane's receiver ended, with its corrected symbols or as uncorrectable; more than FEC_LIMIT of the latter in
1 ms fail an ACTIVE lane (R114, R120). -/
def State.countWord (s : State) (l : Nat) (word : Option Nat) : State :=
  match word with
  | some k => if k = 0 then s else s.bumpBy (R.lane l + 0x1C) k
  | none =>
    let recent := (s.lane l).uncorr.filter (fun t => decide (s.now < t + 1000000)) ++ [s.now]
    let s1 := (s.bump (R.lane l + 0x20)).modLane l fun y => { y with uncorr := recent }
    if (s1.lane l).state = .active ∧ s1.fld R.laneCfg 8 10 < recent.length then s1.failLane l 6 else s1

/-- A failed attempt (R143): the third within 1 s takes the link DOWN, else RETRAIN again. -/
def State.failedAttempt (s : State) (n reason : Nat) : State :=
  let recent := (s.link n).attempts.filter fun t => decide (s.now < t + 1000000000)
  let s1 := s.modLink n fun y => { y with attempts := recent ++ [s.now] }
  if 2 ≤ recent.length then s1.goDown n 2 else s1.enterRetrain n reason

end Sys2Proof.Machine
end

