-- ==== Sys2Proof/Machine/Lane.lean ====
section
/-! DEFINITION. The lane commands: training frames and lock (R92 to R98), failure (R114 to R116), electrical idle and wake
(R108 to R112), optical engines over CMIS (R104 to R107, R533) and eye scans (R117). -/

namespace Sys2Proof.Machine

/-! ## Training frames (R92 to R98) -/

/-- A frame that the pattern window holds in full covers 1,130 frames of 928 symbols: the last 2^20 symbols (Table 04-4). -/
def patternFrames : Nat := 1130

/-- The symbol errors of the pattern window. -/
def Lane.patternSum (y : Lane) : Nat := (y.patErrs.map fun e => e.2).sum

/-- The criteria of Table 04-3 hold at once: signal, loop, frame and pattern. -/
def Lane.criteria (y : Lane) : Bool :=
  y.signal && y.loop && decide (4 ≤ y.frameRun) && decide (patternFrames ≤ y.frames) && decide (y.patternSum ≤ 256)

/-- The lock check of a STANDBY lane runs: it is not in electrical idle (R113). -/
def Lane.checked (y : Lane) : Bool := decide (y.state = .standby) && ! y.rxIdle

/-- The check of a STANDBY lane fails: no signal, the loop's criterion lost, a frame missed, or more than 256 symbol errors. -/
def Lane.checkFails (y : Lane) : Bool :=
  ! y.signal || ! y.loop || (decide (0 < y.frames) && decide (y.frameRun = 0)) || decide (256 < y.patternSum)

/-- A LOCKED lane that has seen the remote lock becomes ACTIVE, or STANDBY for lane 8 (R96). -/
def State.laneReady (s : State) (l : Nat) : State :=
  let y := s.lane l
  if y.state = .locked ∧ y.remoteLock then s.laneTo l (if l % 9 = 8 then .standby else .active) else s

/-- What the lock criteria say of a lane (R95, R96, R113): a TRAINING lane that meets them is LOCKED, a LOCKED lane that no longer does
is TRAINING, and a STANDBY lane whose check fails fails. -/
def State.judgeLock (s : State) (l : Nat) : State :=
  let y := s.lane l
  if y.state = .training ∧ y.criteria then
    ((s.laneTo l .locked).modLane l fun z => { z with rxLock := true, lockedAt := z.lockedAt.or (some s.now) }).laneReady l
  else if y.state = .locked ∧ ! y.criteria then
    (s.laneTo l .training).modLane l fun z => { z with rxLock := false }
  else if y.checked && y.checkFails then s.failLane l 9
  else s

/-- The mapped lanes of a link whose last good header carried NOTICE NONE. -/
def State.noneLanes (s : State) (n : Nat) : Nat :=
  ((s.mapped n).filter fun k => decide (0 < (s.lane (9 * n + k)).noneRun)).length

/-- A link's unacknowledged cells are all to be resent (R112). -/
def Link.resendAll (x : Link) : Link := { x with replay := x.replay.map fun r => { r with due := true } }

/-- What a good header says to a lane's receiver (R91, R96, R97, R108, R110). An IDLE or DOZE notice freezes the loop. -/
def Lane.header (y : Lane) (k : Nat) (h : BitVec 64) : Lane :=
  let notice := bits h 5 3
  let run := if bit h 4 then y.lockRun + 1 else 0
  { y with lastNotice := BitVec.ofNat 3 notice, badHeader := false
           lockRun := run, remoteLock := decide (4 ≤ run)
           orderRun := if bits h 0 4 = k then 0 else y.orderRun + 1
           noneRun := if notice = 0 then y.noneRun + 1 else 0
           frozen := y.frozen || notice == 1 || notice == 2
           callDone := y.callDone || (notice == 3 && bits h 8 8 == 0) }

/-- A DOZE notice met while the transmitter is not in electrical idle (R112): the stream stops at a codeword boundary, a wake call and a
burst go out, and the unacknowledged cells are resent. -/
def State.answerDoze (s : State) (l : Nat) : State :=
  ((s.stopStream (l / 9)).modLane l fun z => { z with sentNotice := 3, sentCount := 110 }).modLink (l / 9) Link.resendAll

/-- Apply a good training header to its lane (R96, R97, R108, R110, R112, R115; the FRAMES cause of Table 05-6). -/
def State.applyHeader (s : State) (l : Nat) (h : BitVec 64) : State :=
  let n := l / 9
  let notice := bits h 5 3
  let s1 := s.modLane l fun y => y.header (l % 9) h
  let y := s1.lane l
  if y.state = .off ∨ y.state = .failed then s1
  else if 4 ≤ y.orderRun then s1.failLane l 3
  else if notice = 4 then s1.failLane l 10
  else
    let s2 := if notice = 2 ∧ ¬ y.txIdle then s1.answerDoze l else s1
    let s3 := if notice = 0 ∧ (s2.link n).state = .up ∧ 4 ≤ s2.noneLanes n then s2.enterRetrain n 6 else s2
    s3.laneReady l

/-- A receiver has signal again (R98, R114): its first one since training began, or the answer to its wake. -/
def Lane.hasSignal (y : Lane) (now : Nat) : Lane :=
  { y with signal := true, wokeAt := none, signalAt := y.signalAt.or (some now) }

/-- Count a frame's PRBS13Q symbols in the pattern window (R93, R95): the errors of the last 1,130 frames are kept. -/
def Lane.countPattern (y : Lane) (frame : BitVec 2048) : Lane :=
  let r := checkPattern frame y.checker
  let kept := y.patErrs.filter fun e => decide (y.frames < e.1 + patternFrames)
  { y with frames := y.frames + 1, checker := some r.2, patErrs := tabSet 0 kept y.frames r.1 }

/-- What a frame means to the lock criteria: the run of frames with a marker and a good header, and, but for the two notices that end
after their header, the pattern. -/
def Lane.frameSeen (y : Lane) (frame : BitVec 2048) (good : Bool) (notice : Nat) : Lane :=
  let y1 := { y with frameRun := if good then y.frameRun + 1 else 0 }
  if good && (notice == 1 || notice == 2) then y1 else y1.countPattern frame

/-- The frequency estimate follows the signal while the loop is not frozen (R91). -/
def Lane.track (y : Lane) (ppm : BitVec 16) : Lane := if y.frozen then y else { y with ppm := ppm }

/-- The burst after electrical idle or a call (R110, R111, R121): the receiver leaves idle, its loop runs again, and codeword 0 begins
at UI `ui` of its count. A STANDBY lane's check resumes with a fresh window (R113). -/
def Lane.burst (y : Lane) (ui : Nat) : Lane :=
  let y1 := { y with rxIdle := false, frozen := false, lastNotice := 0, badHeader := false, callDone := false, noneRun := 0
                     burstAt := some ui }
  if y.state = .standby then { y1 with frameRun := 0, frames := 0, patErrs := [], checker := none } else y1

/-- The largest skew between the bursts of some lanes, once each has come (R121). -/
def State.skewOf (s : State) (n : Nat) (ks : List Nat) : Option Nat :=
  let at0 := ks.filterMap fun k => (s.lane (9 * n + k)).burstAt
  if at0.isEmpty ∨ at0.length ≠ ks.length then none
  else some (at0.foldl max 0 - at0.foldl min (at0.headD 0))

/-- Show the skew of a deskew that succeeded: at most 4,096 UI (R121). -/
def State.showSkew (s : State) (n : Nat) (skew : Nat) : State := s.setReg (R.link n + 0x18) (BitVec.ofNat 32 skew)

/-- A lane's burst arrives; the last one of an UP link's mapped lanes completes the deskew after electrical idle.
A skew above 4,096 UI then leaves LINK_SKEW (DEDUCED, log entry 100). -/
def State.takeBurst (s : State) (l ui : Nat) : State :=
  let n := l / 9
  let s1 := s.modLane l fun y => (y.hasSignal s.now).burst ui
  match (s1.link n).state, s1.skewOf n (s1.mapped n) with
  | .up, some k => if k ≤ 4096 then s1.showSkew n k else s1
  | _, _ => s1

/-- A frame whose marker was found: its header acts where it is good, and the lock criteria are judged again. -/
def State.applyFrame (s : State) (l : Nat) (frame : BitVec 2048) (ppm : BitVec 16) : State :=
  let h := frameHeader frame
  let good := headerGood h
  let s1 := s.modLane l fun y => ((y.hasSignal s.now).track ppm).frameSeen frame good (bits h 5 3)
  let s2 := if good then s1.applyHeader l h else s1.modLane l fun y => { y with badHeader := true }
  s2.judgeLock l

/-- TRAINING_FRAME_RX (R88, R91 to R97): a frame as the levels at the pins. Without a marker it breaks the run of frames; after the end
of a call its marker is the burst (R111), which ends 64 UI after it begins. -/
def execTrainingFrameRx (l : LaneIx) (frame : BitVec 2048) (ppm : BitVec 16) (s : State) : Host.Outcome State Fault Refusal :=
  let f := fromPins (s.rxInvert l) frame
  if markerHits f < 56 then
    .next ((s.modLane l fun y => if y.frames = 0 then y else y.frameSeen f false 0).judgeLock l)
  else if (s.lane l).callDone then .next (s.takeBurst l 64)
  else .next (s.applyFrame l f ppm)

/-- LANE_LOCKED (R95, R96, R113): the loop criterion of Table 04-3 begins or stops to hold, and the criteria are judged.
The criterion is an operand (DESIGN CHOICE, log entry 99). -/
def execLaneLocked (l : LaneIx) (met : Bool) (s : State) : Host.Outcome State Fault Refusal :=
  .next ((s.modLane l fun y => { y with loop := met }).judgeLock l)

/-- The moment from which a lane's training timeout runs (R98): its start or its first signal, the later; without a signal, the first
LOCKED of another lane of its link. -/
def State.trainFrom (s : State) (l : Nat) : Option Nat :=
  let y := s.lane l
  match y.signalAt with
  | some t => some (max y.trainAt t)
  | none =>
    let others := ((List.range 9).filter fun k => 9 * (l / 9) + k != l).filterMap fun k => (s.lane (9 * (l / 9) + k)).lockedAt
    match others with
    | [] => none
    | t :: ts => some (ts.foldl min t)

/-- TRAIN_TIMEOUT (R98): LANE_CFG.TRAIN_TIMEOUT in units of 10 µs. -/
def execTrainTimeout (l : LaneIx) (s : State) : Host.Outcome State Fault Refusal :=
  let y := s.lane l
  if y.state = .training ∨ y.state = .locked then
    match s.trainFrom l with
    | some t => if t + s.fld R.laneCfg 0 8 * 10000 ≤ s.now then .next (s.failLane l 2) else .next s
    | none => .next s
  else .next s

/-- The last notice announced a loss of signal: IDLE, DOZE or FAIL (R114). -/
def Lane.quietAnnounced (y : Lane) : Bool := y.lastNotice == 1 || y.lastNotice == 2 || y.lastNotice == 4

/-- LOS (R95, R114): signal absent for 32 UI. Without a preceding notice it fails the lane; an announced loss ends the signal criterion. -/
def execLos (l : LaneIx) (s : State) : Host.Outcome State Fault Refusal :=
  let y := s.lane l
  let s1 := s.modLane l fun z => { z with signal := false }
  if y.signal ∧ ¬ y.quietAnnounced ∧ ¬ y.rxIdle ∧ y.state ≠ .off ∧ y.state ≠ .gated then .next (s1.failLane l 4)
  else if y.quietAnnounced then .next (if y.state = .training ∨ y.state = .locked then s1.judgeLock l else s1)
  else .next s1

/-- LOL (R114): while ACTIVE. -/
def execLol (l : LaneIx) (s : State) : Host.Outcome State Fault Refusal :=
  if (s.lane l).state = .active then .next (s.failLane l 5) else .next s

/-- FEC_LIMIT (R88, R114, R120): codewords that ended outside sequenced slots, as the levels at the pins, are corrected and counted. -/
def execFecLimit (l : LaneIx) (word : BitVec 2720) (more : List (BitVec 2720)) (s : State) : Host.Outcome State Fault Refusal :=
  .next ((word :: more).foldl (fun t w => t.countWord l ((rsDecode (fromPins (s.rxInvert l) w)).map fun r => r.2)) s)

/-- STANDBY_CHECK (R113): the continuous check of a STANDBY lane that is not idle. -/
def execStandbyCheck (l : LaneIx) (s : State) : Host.Outcome State Fault Refusal :=
  if (s.lane l).checked && (s.lane l).checkFails then .next (s.failLane l 9) else .next s

/-- WAKE_FAILURE (R112, R114, Table 04-9): no signal back within 2 µs of the lane's own wake. -/
def execWakeFailure (l : LaneIx) (s : State) : Host.Outcome State Fault Refusal :=
  let y := s.lane l
  match y.wokeAt with
  | some t =>
    if t + 2000 ≤ s.now ∧ ¬ y.signal ∧ (y.state = .active ∨ y.state = .standby) then .next (s.failLane l 8) else .next s
  | none => .next s

/-! ## LANE_CTL -/

/-- What LANE_CTL.FORCE_FAIL does; nothing while the domain is stopped (R519). -/
def State.laneForceFail (s : State) (l : Nat) : State := if s.running then s.failLane l 11 else s

/-- What LANE_CTL.CLEAR_FAIL does: a FAILED lane becomes OFF with CAUSE cleared. A failure cause of the same cycle wins: the lane stays
FAILED, and a cause that found it FAILED counts as a failure. -/
def State.laneClearFail (s : State) (l : Nat) : State :=
  let y := s.lane l
  if ! s.running ∨ y.state ≠ .failed then s
  else if y.failedAt = some s.clk.count then
    if y.nextCause = 0 then s
    else (s.bump (R.lane l + 0x24)).modLane l fun z => { z with cause := z.nextCause, nextCause := 0 }
  else (s.laneTo l .off).modLane l fun z => { z with cause := 0, nextCause := 0, sentNotice := 0, sentCount := 0 }

/-- What LANE_CTL.RETRAIN and LINK_CTL.RETRAIN do to a link in UP or REALIGN.
In any other state the request is dropped at once (DESIGN CHOICE, log entry 82). -/
def State.linkAskRetrain (s : State) (n : Nat) : State :=
  if s.running ∧ ((s.link n).state = .up ∨ (s.link n).state = .realign) then s.enterRetrain n 1 else s

/-- FORCE_FAIL (R114); ignored while the domain is stopped (R519). -/
def execForceFail (a : Source) (l : LaneIx) (s : State) : Host.Outcome State Fault Refusal :=
  .next (s.fmReg a (R.lane l + 4) 1 fun t => t.laneForceFail l)

/-- CLEAR_FAIL (R116): a FAILED lane becomes OFF with CAUSE cleared. -/
def execClearFail (a : Source) (l : LaneIx) (s : State) : Host.Outcome State Fault Refusal :=
  .next (s.fmReg a (R.lane l + 4) 2 fun t => t.laneClearFail l)

/-- LANE_CTL.RETRAIN (R142): the lane's link retrains from UP or REALIGN. -/
def execLaneRetrain (a : Source) (l : LaneIx) (s : State) : Host.Outcome State Fault Refusal :=
  .next (s.fmReg a (R.lane l + 4) 4 fun t => t.linkAskRetrain (l.val / 9))

/-! ## Electrical idle and wake -/

/-- The link has something for one of the sources 1 to 5 of R131. -/
def Link.hasToSend (x : Link) : Bool :=
  ! x.txq.isEmpty || ! x.ctl.isEmpty || x.replay.any (fun r => r.due) || decide (127 ≤ x.sinceCredit) ||
    x.reported != (x.expect - 1).toNat :: (List.range 6).map (tabGet 0 x.freed)

/-- A lane of a link whose transmitter falls quiet with the others (R108, R113). -/
def Lane.carriesLink (y : Lane) : Bool := decide (y.state = .active ∨ y.state = .standby)

/-- The lanes of a link enter electrical idle together: the stream stops at a codeword boundary (R121, R125), and each sends its IDLE
notice (R108, R113). -/
def State.linkIdles (s : State) (n : Nat) : State :=
  (List.range 9).foldl (fun t k => t.modLane (9 * n + k) fun y =>
    if y.carriesLink && ! y.txIdle then { y with txIdle := true, sentNotice := 1, sentCount := 1, idleAt := s.now } else y) (s.stopStream n)

/-- TX_IDLE_ENTER (R108, R113, R138): the transmitters of an UP link that has had nothing to send for LANE_CFG.TX_IDLE send IDLE and
fall quiet. -/
def execTxIdleEnter (l : LaneIx) (s : State) : Host.Outcome State Fault Refusal :=
  let n := l.val / 9
  let x := s.link n
  let idle := s.fld R.laneCfg 18 10
  if (s.lane l).carriesLink ∧ x.state = .up ∧ idle ≠ 0 ∧ ¬ x.hasToSend ∧ x.lastSend + idle * 10 ≤ s.now then .next (s.linkIdles n)
  else .next s

/-- SIGNAL_DETECT (R109, R111): a detected signal ends the receiver's idle, abandons a gate entry, or wakes the gated lane and its link. -/
def execSignalDetect (l : LaneIx) (s : State) : Host.Outcome State Fault Refusal :=
  let s1 := s.modLane l fun y => { y.hasSignal s.now with rxIdle := false }
  match s1.domain l with
  | .running => .next s1
  | .entering => .next (s1.setDomain l .running)
  | .gated => .next ((if s1.domain (288 + l.val / 9) = .gated then s1.wakeLink (l.val / 9) else s1).wakeLane l)

/-- BURST_RX (R110, R111, R121): the burst after idle or a wake call, at a UI of the receiver's count; the receiver decodes from
codeword 0. In a call only the marker after COUNT = 0 is the burst. -/
def execBurstRx (b : Burst) (s : State) : Host.Outcome State Fault Refusal :=
  let y := s.lane b.lane
  if (y.state = .active ∨ y.state = .standby ∨ y.state = .locked) ∧ ¬ (y.lastNotice = 3 ∧ ¬ y.callDone) then .next (s.takeBurst b.lane b.ui)
  else .next s

/-- RX_IDLE_ENTER (R91, R108): a fall of signal after an IDLE or DOZE notice is idle, not LOS; the loop holds its estimate. -/
def execRxIdleEnter (l : LaneIx) (s : State) : Host.Outcome State Fault Refusal :=
  let y := s.lane l
  if (y.lastNotice = 1 ∨ y.lastNotice = 2) ∧ (y.state = .active ∨ y.state = .standby) then
    .next (s.modLane l fun z => { z with signal := false, rxIdle := true, frozen := true, burstAt := none, idleAt := s.now })
  else .next s

/-! ## Optical engines -/

/-- The entry that a lane runs with: the one it last trained with, before its first training that of its registers (R103). -/
def State.entry (s : State) (l : Nat) : Word × Word :=
  let y := s.lane l
  if bit y.eq0 0 then (y.eq0, y.eq1) else (s.reg (R.lane l + 8), s.reg (R.lane l + 0xC))

/-- The lanes whose valid entry names engine `e`. -/
def State.engineLanes (s : State) (e : Nat) : List Nat :=
  (List.range 288).filter fun l => bit (s.entry l).1 0 && bits (s.entry l).2 16 6 == e

/-- An engine fails, with its module state as read: every lane that names it fails with cause ENGINE. -/
def State.failEngine (s : State) (e module0 rev : Nat) : State :=
  let s1 := s.setReg (R.engineState + 4 * e) (pack 32 [(0, 3, module0), (4, 1, 1), (8, 8, rev)])
  (s1.engineLanes e).foldl (fun t l => t.failLane l 7) s1

/-- The CMIS code of ModuleReady (PRESUMED of CMIS revision 5). Log entry 98. -/
def moduleReady : BitVec 3 := 3

/-- An engine is ready (R105): each of its lanes has the application that LANE_ENGINE selects, its flags are read from now on, and the
lanes that waited for it train. -/
def State.engineReady (s : State) (e rev : Nat) : State :=
  let s1 := s.setReg (R.engineState + 4 * e) (pack 32 [(0, 3, moduleReady.toNat), (3, 1, 1), (8, 8, rev)])
  let s2 : State := { s1 with kpr := { s1.kpr with enginePolled := tabSet 0 s1.kpr.enginePolled e s1.now
                                                   engineMiss := tabSet 0 s1.kpr.engineMiss e 0 } }
  let app := s2.fld (R.laneEngine + 4 * e) 8 4
  (s2.engineLanes e).foldl (fun t l =>
    let st := (t.link (l / 9)).state
    let t1 := t.modLane l fun y => { y with app := BitVec.ofNat 4 app }
    if (st = .train ∨ st = .retrain) ∧ (t1.lane l).state = .off then t1.trainLane l else t1) s2

/-- ENGINE_BRINGUP (R105): a PRESENT engine with CMIS major revision 5 that reaches ModuleReady and activates its data paths is ready; any
other fails. -/
def execEngineBringup (e : Fin 64) (revision : Byte) (moduleState : BitVec 3) (activated : Bool) (s : State) :
    Host.Outcome State Fault Refusal :=
  if bits revision 4 4 = 5 ∧ moduleState = moduleReady ∧ activated ∧ bit (s.reg (R.laneEngine + 4 * e)) 7 then
    .next (s.engineReady e revision.toNat)
  else .next (s.failEngine e moduleState.toNat revision.toNat)

/-- The five flags of an engine lane in a flag read. -/
def engineFlagsOf (flags : BitVec 160) (el : Nat) : Nat := bits flags (5 * el) 5

/-- A read of an engine's lane flags (R106, R533): a flagged lane fails; the third failed read in a row fails the engine. -/
def State.readFlags (s : State) (e : Nat) (flags : Option (BitVec 160)) : State :=
  let st := s.reg (R.engineState + 4 * e)
  if ! bit st 3 then s
  else match flags with
    | none =>
      let k := tabGet 0 s.kpr.engineMiss e + 1
      if 3 ≤ k then
        ({ s with kpr := { s.kpr with engineMiss := tabSet 0 s.kpr.engineMiss e 0 } }).failEngine e (bits st 0 3) (bits st 8 8)
      else { s with kpr := { s.kpr with engineMiss := tabSet 0 s.kpr.engineMiss e k } }
    | some f =>
      let s1 := { s with kpr := { s.kpr with engineMiss := tabSet 0 s.kpr.engineMiss e 0 } }
      (s1.engineLanes e).foldl (fun t l =>
        let v := engineFlagsOf f (bits (t.entry l).2 22 5)
        let t1 := t.setReg (R.lane l + 0x2C) (BitVec.ofNat 32 v)
        if v ≠ 0 ∧ (t1.lane l).state ≠ .off ∧ (t1.lane l).state ≠ .failed then t1.failLane l 7 else t1) s1

/-- ENGINE_POLL (R106): once per LANE_CMIS_CTL.POLL, in µs, an engine's flags are read. -/
def execEnginePoll (e : Fin 64) (flags : Option (BitVec 160)) (s : State) : Host.Outcome State Fault Refusal :=
  if tabGet 0 s.kpr.enginePolled e + s.fld R.cmisCtl 0 14 * 1000 ≤ s.now then
    .next (({ s with kpr := { s.kpr with enginePolled := tabSet 0 s.kpr.enginePolled e s.now } } : State).readFlags e flags)
  else .next s

/-- ENGINE_INTERRUPT (R106, R533): the engine's interrupt makes Zildin read its flags. -/
def execEngineInterrupt (e : Fin 64) (flags : Option (BitVec 160)) (s : State) : Host.Outcome State Fault Refusal :=
  .next (s.readFlags e flags)

/-- CMIS_READ_GO (R107): a write of LANE_CMIS_RD with GO queues a one-byte read. It replaces one that still waits (DESIGN CHOICE, log entry 88). -/
def execCmisReadGo (a : Source) (value : Word) (s : State) : Host.Outcome State Fault Refusal :=
  .next (s.fmWrite a R.cmisRd fun t =>
    t.setReg R.cmisRd (pack 32 [(0, 22, bits value 0 22), (22, 1, b2n t.running)]))

/-- CMIS_READ_DONE (R107, R533): DONE with the byte, or ERROR. -/
def execCmisReadDone (b : Option Byte) (s : State) : Host.Outcome State Fault Refusal :=
  if ! bit (s.reg R.cmisRd) 22 then .next s
  else match b with
    | some v => .next (((s.setFld R.cmisRd 22 1 0).setFld R.cmisRd 23 1 1).setReg R.cmisRdata (BitVec.ofNat 32 v.toNat))
    | none => .next ((s.setFld R.cmisRd 22 1 0).setFld R.cmisRd 24 1 1)

/-! ## Eye scans -/

/-- EYE and DWELL of a LANE_SCAN_CTL value lie in their ranges; any other write is ignored (R118). -/
def scanFits (value : Word) : Bool := bits value 2 2 != 3 && decide (10 ≤ bits value 17 6) && decide (bits value 17 6 ≤ 40)

/-- The settings of LANE_SCAN_CTL that a write sets. -/
def scanSettings (value : Word) : Word :=
  pack 32 [(2, 2, bits value 2 2), (4, 6, bits value 4 6), (10, 7, bits value 10 7), (17, 6, bits value 17 6)]

/-- SCAN_START (R117): starts or restarts a scan on an ACTIVE, STANDBY or GATED lane, else ends LANE_CHANGED. -/
def execScanStart (a : Source) (l : LaneIx) (value : Word) (s : State) : Host.Outcome State Fault Refusal :=
  .next (s.fmWrite a (R.lane l + 0x10) fun t =>
    let t1 := t.setReg (R.lane l + 0x10) (scanSettings value)
    let st := (t1.lane l).state
    if ! scanFits value then t
    else if ! t1.running then t1
    else if st = .active ∨ st = .standby ∨ st = .gated then
      ((t1.setReg (R.lane l + 0x14) 1).setReg (R.lane l + 0x18) 0).modLane l fun y => { y with scanAt := s.now }
    else t1.setReg (R.lane l + 0x14) 4)

/-- SCAN_STOP (R117). -/
def execScanStop (a : Source) (l : LaneIx) (s : State) : Host.Outcome State Fault Refusal :=
  .next (s.fmWrite a (R.lane l + 0x10) fun t => if t.running then t.endScan l 3 else t)

/-- The scan of a lane may have counted 2^DWELL UI: that many, at 112.5 of them in a ns, have passed since it started. -/
def State.scanDue (s : State) (l : Nat) : Bool :=
  decide (2 * 2 ^ s.fld (R.lane l + 0x10) 17 6 ≤ 225 * (s.now + 1 - (s.lane l).scanAt))

/-- SCAN_DONE (R117): after 2^DWELL counted UI, with the disagreements counted; a scan runs only while the lane is ACTIVE or STANDBY. -/
def execScanDone (l : LaneIx) (errors : Word) (s : State) : Host.Outcome State Fault Refusal :=
  if s.scanning l ∧ (s.lane l).carriesLink ∧ s.scanDue l then
    .next ((s.setReg (R.lane l + 0x14) 2).setReg (R.lane l + 0x18) errors)
  else .next s

end Sys2Proof.Machine
end

