-- ==== Sys2Proof/Machine/Crypto.lean ====
section
/-! DEFINITION. The cryptographic algorithms that the spec names by their standards: SHA-384 (FIPS 180-4), HMAC and HKDF
(RFC 2104, RFC 5869), ECDSA and ECDH over P-384 (FIPS 186-5), AES-256 (FIPS 197), GCM (SP 800-38D) and XTS
(IEEE 1619). PRESUMED: taken from those standards, which the spec names without restating (see the log). -/

namespace Sys2Proof.Machine

/-! ## SHA-384 -/

/-- `n` 64-bit words packed into one number, the first the most significant. -/
def packedWords (n x : Nat) : List Nat := (List.range n).map fun i => x / 2 ^ (64 * (n - 1 - i)) % 2 ^ 64

/-- The constants of rounds 0 to 39: the fractions of the cube roots of the first primes, eight rounds to a number. -/
def shaKLow : List Nat :=
  [0x428A2F98D728AE227137449123EF65CDB5C0FBCFEC4D3B2FE9B5DBA58189DBBC3956C25BF348B53859F111F1B605D019923F82A4AF194F9BAB1C5ED5DA6D8118,
   0xD807AA98A303024212835B0145706FBE243185BE4EE4B28C550C7DC3D5FFB4E272BE5D74F27B896F80DEB1FE3B1696B19BDC06A725C71235C19BF174CF692694,
   0xE49B69C19EF14AD2EFBE4786384F25E30FC19DC68B8CD5B5240CA1CC77AC9C652DE92C6F592B02754A7484AA6EA6E4835CB0A9DCBD41FBD476F988DA831153B5,
   0x983E5152EE66DFABA831C66D2DB43210B00327C898FB213FBF597FC7BEEF0EE4C6E00BF33DA88FC2D5A79147930AA72506CA6351E003826F142929670A0E6E70,
   0x27B70A8546D22FFC2E1B21385C26C9264D2C6DFC5AC42AED53380D139D95B3DF650A73548BAF63DE766A0ABB3C77B2A881C2C92E47EDAEE692722C851482353B]

/-- The constants of rounds 40 to 79. -/
def shaKHigh : List Nat :=
  [0xA2BFE8A14CF10364A81A664BBC423001C24B8B70D0F89791C76C51A30654BE30D192E819D6EF5218D69906245565A910F40E35855771202A106AA07032BBD1B8,
   0x19A4C116B8D2D0C81E376C085141AB532748774CDF8EEB9934B0BCB5E19B48A8391C0CB3C5C95A634ED8AA4AE3418ACB5B9CCA4F7763E373682E6FF3D6B2B8A3,
   0x748F82EE5DEFB2FC78A5636F43172F6084C87814A1F0AB728CC702081A6439EC90BEFFFA23631E28A4506CEBDE82BDE9BEF9A3F7B2C67915C67178F2E372532B,
   0xCA273ECEEA26619CD186B8C721C0C207EADA7DD6CDE0EB1EF57D4F7FEE6ED17806F067AA72176FBA0A637DC5A2C898A6113F9804BEF90DAE1B710B35131C471B,
   0x28DB77F523047D8432CAAB7B40C724933C9EBE0A15C9BEBC431D67C49C100D4C4CC5D4BECB3E42B6597F299CFC657E2A5FCB6FAB3AD6FAEC6C44198C4A475817]

/-- The 80 round constants. -/
def shaK : List Nat := (shaKLow ++ shaKHigh).flatMap (packedWords 8)

/-- The initial hash value of SHA-384: the fractions of the square roots of the ninth to the sixteenth prime. -/
def shaInit : List Nat :=
  packedWords 8
    0xCBBB9D5DC1059ED8629A292A367CD5079159015A3070DD17152FECD8F70E593967332667FFC00B318EB44A8768581511DB0C2E0D64F98FA747B5481DBEFA4FA4

/-- Rotate a 64-bit word right. -/
def rotr64 (x n : Nat) : Nat := (x / 2 ^ n + x * 2 ^ (64 - n)) % 2 ^ 64

/-- A word's rotations to the right by each amount of a list, added bit by bit. -/
def rotations (x : Nat) : List Nat → Nat
  | [] => 0
  | n :: ns => rotr64 x n ^^^ rotations x ns

/-- The next word of the message schedule, from the 16 before it, newest first. -/
def shaNext (w : List Nat) : Nat :=
  let late := w.getD 1 0
  let early := w.getD 14 0
  (w.getD 15 0 + (rotations early [1, 8] ^^^ early / 2 ^ 7) + w.getD 6 0 + (rotations late [19, 61] ^^^ late / 2 ^ 6)) % 2 ^ 64

/-- The bits of `y` where those of `x` are 1, and of `z` elsewhere. -/
def chooseBits (x y z : Nat) : Nat := z ^^^ (x &&& (y ^^^ z))

/-- The bits that at least two of three words have. -/
def mostBits (x y z : Nat) : Nat := (x &&& y) ||| (z &&& (x ||| y))

/-- One round on the eight working words: what the fifth to the eighth give is added into the first and the fifth of the next. -/
def shaRound (v : List Nat) (k w : Nat) : List Nat :=
  match v with
  | [v0, v1, v2, v3, v4, v5, v6, v7] =>
    let low := rotations v4 [14, 18, 41] + chooseBits v4 v5 v6 + v7 + k + w
    let high := rotations v0 [28, 34, 39] + mostBits v0 v1 v2
    [(low + high) % 2 ^ 64, v0, v1, v2, (v3 + low) % 2 ^ 64, v4, v5, v6]
  | _ => v

/-- The rounds, with the schedule's last 16 words, newest first, before each: the current word is the oldest. -/
def shaRounds : List Nat → List Nat → List Nat → List Nat
  | [], _, v => v
  | k :: ks, w, v => shaRounds ks ((shaNext w :: w).take 16) (shaRound v k (w.getD 15 0))

/-- Big-endian number of a byte list. -/
def ofBytesBE (l : List Byte) : Nat := l.foldl (fun a b => 256 * a + b.toNat) 0

/-- Compress one 128-byte block. -/
def shaBlock (h : List Nat) (b : List Byte) : List Nat :=
  let w := (List.range 16).map fun i => ofBytesBE ((b.drop (8 * i)).take 8)
  List.zipWith (fun x y => (x + y) % 2 ^ 64) h (shaRounds shaK w.reverse h)

/-- Compress a padded message of `n` blocks. -/
def shaBlocks : Nat → List Nat → List Byte → List Nat
  | 0, h, _ => h
  | n + 1, h, m => shaBlocks n (shaBlock h (m.take 128)) (m.drop 128)

/-- SHA-384 of a byte string; byte 0 of the digest is bits [7:0] of the result (R450's word order). -/
def sha384 (m : List Byte) : BitVec 384 :=
  let n := m.length
  let zeros := (128 - (n + 17) % 128) % 128
  let padded := m ++ [0x80#8] ++ List.replicate zeros 0#8 ++ natBytesBE (8 * n) 16
  let h := shaBlocks ((n + 17 + zeros) / 128) shaInit padded
  BitVec.ofNat 384 (ofBytes ((h.take 6).flatMap fun x => natBytesBE x 8))

/-- HMAC-SHA-384. -/
def hmac384 (key msg : List Byte) : BitVec 384 :=
  let k0 := if 128 < key.length then toBytes (sha384 key) 48 else key
  let k := k0 ++ List.replicate (128 - k0.length) 0#8
  let inner := sha384 (k.map (fun b => b ^^^ 0x36#8) ++ msg)
  sha384 (k.map (fun b => b ^^^ 0x5C#8) ++ toBytes inner 48)

/-- HKDF-Extract. -/
def hkdfExtract (salt ikm : List Byte) : List Byte := toBytes (hmac384 salt ikm) 48

/-- HKDF-Expand, for at most 96 bytes. -/
def hkdfExpand (prk info : List Byte) (len : Nat) : List Byte :=
  let t1 := toBytes (hmac384 prk (info ++ [1#8])) 48
  let t2 := toBytes (hmac384 prk (t1 ++ info ++ [2#8])) 48
  (t1 ++ t2).take len

/-- The bytes of an ASCII string. -/
def ascii (x : String) : List Byte := x.toList.map fun c => BitVec.ofNat 8 c.toNat

/-! ## P-384 -/

/-- The field prime. -/
def ecP : Nat := 2 ^ 384 - 2 ^ 128 - 2 ^ 96 + 2 ^ 32 - 1

/-- The group order. -/
def ecN : Nat :=
  0xFFFFFFFFFFFFFFFFFFFFFFFFFFFFFFFFFFFFFFFFFFFFFFFFC7634D81F4372DDF581A0DB248B0A77AECEC196ACCC52973

/-- The curve's constant term. -/
def ecB : Nat :=
  0xB3312FA7E23EE7E4988E056BE3F82D19181D9C6EFE8141120314088F5013875AC656398D8A2ED19D2A85C8EDD3EC2AEF

/-- The base point. -/
def ecG : Nat × Nat :=
  (0xAA87CA22BE8B05378EB1C71EF320AD746E1D3B628BA79B9859F741E082542A385502F25DBF55296C3A545E3872760AB7,
   0x3617DE4A96262C6F5D9E98BF9292DC29F8F41DBD289A147CE9DA3113B5F0B8C00A60B1CE1D7E819D7A431D7C90EA0E5F)

/-- Power modulo `m` by square and multiply; `f` bounds the exponent's bits. -/
def powMod (m : Nat) : Nat → Nat → Nat → Nat → Nat
  | 0, _, _, acc => acc
  | f + 1, b, e, acc => powMod m f (b * b % m) (e / 2) (if e % 2 = 1 then acc * b % m else acc)

/-- Inverse modulo a 384-bit prime. -/
def invMod (m x : Nat) : Nat := powMod m 384 (x % m) (m - 2) (1 % m)

/-- Subtraction modulo the field prime. -/
def ecSub (a b : Nat) : Nat := (a + ecP - b % ecP) % ecP

/-- Double a Jacobian point; a point with Z = 0 is the point at infinity. -/
def ecDouble (p : Nat × Nat × Nat) : Nat × Nat × Nat :=
  let (x, y, z) := p
  if z = 0 ∨ y = 0 then (1, 1, 0)
  else
    let d := z * z % ecP
    let g := y * y % ecP
    let b := x * g % ecP
    let a := 3 * (ecSub x d * ((x + d) % ecP)) % ecP
    let x3 := ecSub (a * a) (8 * b)
    let z3 := 2 * y * z % ecP
    (x3, ecSub (a * ecSub (4 * b) x3) (8 * g * g), z3)

/-- Add two Jacobian points. -/
def ecAdd (p q : Nat × Nat × Nat) : Nat × Nat × Nat :=
  let (x1, y1, z1) := p
  let (x2, y2, z2) := q
  if z1 = 0 then q
  else if z2 = 0 then p
  else
    let u1 := x1 * z2 * z2 % ecP
    let u2 := x2 * z1 * z1 % ecP
    let s1 := y1 * z2 * z2 * z2 % ecP
    let s2 := y2 * z1 * z1 * z1 % ecP
    let h := ecSub u2 u1
    let r := ecSub s2 s1
    if h = 0 then (if r = 0 then ecDouble p else (1, 1, 0))
    else
      let hh := h * h % ecP
      let hhh := h * hh % ecP
      let v := u1 * hh % ecP
      let x3 := ecSub (r * r) (hhh + 2 * v)
      (x3, ecSub (r * ecSub v x3) (s1 * hhh), h * z1 * z2 % ecP)

/-- Multiply a point by a number of at most `f` bits. -/
def ecMul : Nat → Nat → Nat × Nat × Nat → Nat × Nat × Nat
  | 0, _, _ => (1, 1, 0)
  | f + 1, k, p =>
    let rest := ecMul f (k / 2) (ecDouble p)
    if k % 2 = 1 then ecAdd p rest else rest

/-- The affine point of a Jacobian one; `none` at infinity. -/
def ecAffine (p : Nat × Nat × Nat) : Option (Nat × Nat) :=
  let (x, y, z) := p
  if z = 0 then none
  else
    let i := invMod ecP z
    some (x * i * i % ecP, y * i * i * i % ecP)

/-- A point of the curve with both coordinates in range. -/
def ecOnCurve (x y : Nat) : Bool :=
  decide (x < ecP ∧ y < ecP) && (y * y % ecP == (x * x * x + (ecP - 3) * x + ecB) % ecP)

/-- The big-endian 48-byte integer at byte `k` (R56, R426). -/
def int48 {n : Nat} (x : BitVec n) (k : Nat) : Nat :=
  ofBytesBE ((List.range 48).map fun i => BitVec.ofNat 8 (bytesAt x (k + i) 1))

/-- Two 48-byte big-endian integers as 96 bytes. -/
def pair48 (a b : Nat) : BitVec 768 := BitVec.ofNat 768 (ofBytes (natBytesBE a 48 ++ natBytesBE b 48))

/-- ECDSA verification: public key X ‖ Y, digest, signature r ‖ s. -/
def ecdsaVerify (key : BitVec 768) (digest : BitVec 384) (sig : BitVec 768) : Bool :=
  let qx := int48 key 0
  let qy := int48 key 48
  let r := int48 sig 0
  let s := int48 sig 48
  if ! ecOnCurve qx qy ∨ r = 0 ∨ ecN ≤ r ∨ s = 0 ∨ ecN ≤ s then false
  else
    let z := int48 digest 0 % ecN
    let w := invMod ecN s
    let p := ecAdd (ecMul 384 (z * w % ecN) (ecG.1, ecG.2, 1)) (ecMul 384 (r * w % ecN) (qx, qy, 1))
    match ecAffine p with
    | some (x, _) => x % ecN == r
    | none => false

/-- ECDSA signing with a private key and a nonce. -/
def ecdsaSign (d : Nat) (digest : BitVec 384) (nonce : Nat) : BitVec 768 :=
  let k := nonce % (ecN - 1) + 1
  match ecAffine (ecMul 384 k (ecG.1, ecG.2, 1)) with
  | some (x, _) =>
    let r := x % ecN
    pair48 r (invMod ecN k * ((int48 digest 0 % ecN + r * d) % ecN) % ecN)
  | none => 0

/-- The public key of a private key. -/
def ecPublic (d : Nat) : BitVec 768 :=
  match ecAffine (ecMul 384 d (ecG.1, ecG.2, 1)) with
  | some (x, y) => pair48 x y
  | none => 0

/-- The x-coordinate of the ECDH shared point; `none` for a peer key off the curve. -/
def ecdhX (d : Nat) (peer : BitVec 768) : Option (List Byte) :=
  let x := int48 peer 0
  let y := int48 peer 48
  if ecOnCurve x y then (ecAffine (ecMul 384 d (x, y, 1))).map fun p => natBytesBE p.1 48 else none

/-- A private key from 56 derived bytes, by FIPS 186-5's extra random bits: value mod (n − 1), plus 1. -/
def ecPrivate (seed : List Byte) : Nat := ofBytesBE seed % (ecN - 1) + 1

/-! ## AES-256 -/

/-- Multiply by x in AES's field. -/
def gfDouble (a : Nat) : Nat := if 128 ≤ a then (2 * a) % 256 ^^^ 0x1B else 2 * a

/-- Multiply in AES's field, over the low `f` bits of `b`. -/
def gfMul : Nat → Nat → Nat → Nat
  | 0, _, _ => 0
  | f + 1, a, b => (if b % 2 = 1 then a else 0) ^^^ gfMul f (gfDouble a) (b / 2)

/-- Power in AES's field by repeated multiplication. -/
def gfPow (a : Nat) : Nat → Nat
  | 0 => 1
  | n + 1 => gfMul 8 a (gfPow a n)

/-- The substitution of one byte: inverse, then the affine map. -/
def subByte (a : Nat) : Nat :=
  let i := gfPow a 254
  let rot (n : Nat) : Nat := (i * 2 ^ n + i / 2 ^ (8 - n)) % 256
  i ^^^ rot 1 ^^^ rot 2 ^^^ rot 3 ^^^ rot 4 ^^^ 0x63

/-- The substitution table. -/
def sbox : List Nat := (List.range 256).map subByte

/-- The inverse substitution table. -/
def sboxInv : List Nat := (List.range 256).map fun v => (sbox.findIdx? (· == v)).getD 0

/-- The 60 words of the key schedule, newest first. -/
def aesExpand : Nat → List (List Nat) → List (List Nat)
  | 0, w => w
  | f + 1, w =>
    let i := w.length
    let t := w.headD []
    let u :=
      if i % 8 = 0 then
        let r := ((t.drop 1) ++ (t.take 1)).map fun b => sbox.getD b 0
        List.zipWith (· ^^^ ·) r [gfPow 2 (i / 8 - 1), 0, 0, 0]
      else if i % 8 = 4 then t.map fun b => sbox.getD b 0
      else t
    aesExpand f (List.zipWith (· ^^^ ·) u (w.getD 7 []) :: w)

/-- The 15 round keys of a 32-byte key. -/
def aesKeys (key : List Byte) : List (List Nat) :=
  let k := key.map fun b => b.toNat
  let w0 := ((List.range 8).map fun i => (k.drop (4 * i)).take 4).reverse
  let w := (aesExpand 52 w0).reverse
  (List.range 15).map fun r => ((w.drop (4 * r)).take 4).flatten

/-- Mix one column with a row of coefficients. -/
def mixColumn (m : List Nat) (c : List Nat) : List Nat :=
  (List.range 4).map fun r =>
    (List.range 4).foldl (fun a k => a ^^^ gfMul 8 (c.getD k 0) (m.getD ((k + 4 - r) % 4) 0)) 0

/-- Mix the four columns. -/
def mixColumns (m : List Nat) (b : List Nat) : List Nat :=
  (List.range 4).flatMap fun c => mixColumn m ((b.drop (4 * c)).take 4)

/-- Shift the rows left by `d` times their row number, in bytes stored by column. -/
def shiftRows (d : Nat) (b : List Nat) : List Nat :=
  (List.range 16).map fun i => b.getD (4 * ((i / 4 + d * (i % 4)) % 4) + i % 4) 0

/-- Encrypt one block under the round keys that remain. -/
def aesRounds : List (List Nat) → List Nat → List Nat
  | [], b => b
  | [k], b => List.zipWith (· ^^^ ·) (shiftRows 1 (b.map fun x => sbox.getD x 0)) k
  | k :: ks, b => aesRounds ks (List.zipWith (· ^^^ ·) (mixColumns [2, 3, 1, 1] (shiftRows 1 (b.map fun x => sbox.getD x 0))) k)

/-- AES-256 encryption of one 16-byte block. -/
def aesEncrypt (key block : List Byte) : List Byte :=
  let ks := aesKeys key
  let b := List.zipWith (· ^^^ ·) (block.map fun x => x.toNat) (ks.headD [])
  (aesRounds (ks.drop 1) b).map fun x => BitVec.ofNat 8 x

/-- Decrypt one block under the round keys that remain, last round key first. -/
def aesInvRounds : List (List Nat) → List Nat → List Nat
  | [], b => b
  | [k], b => List.zipWith (· ^^^ ·) ((shiftRows 3 b).map fun x => sboxInv.getD x 0) k
  | k :: ks, b =>
    aesInvRounds ks (mixColumns [14, 11, 13, 9] (List.zipWith (· ^^^ ·) ((shiftRows 3 b).map fun x => sboxInv.getD x 0) k))

/-- AES-256 decryption of one 16-byte block. -/
def aesDecrypt (key block : List Byte) : List Byte :=
  let ks := (aesKeys key).reverse
  let b := List.zipWith (· ^^^ ·) (block.map fun x => x.toNat) (ks.headD [])
  (aesInvRounds (ks.drop 1) b).map fun x => BitVec.ofNat 8 x

/-! ## XTS (R437) -/

/-- The 64-byte line as four blocks under the tweak of each, by a block cipher. -/
def xtsLine (cipher : List Byte → List Byte) (t0 : Nat) (l : Line) : Line :=
  let step (t : Nat) : Nat := let d := 2 * t; if 2 ^ 128 ≤ d then (d % 2 ^ 128) ^^^ 0x87 else d
  let ts := [t0, step t0, step (step t0), step (step (step t0))]
  let out := (List.range 4).flatMap fun j =>
    let t := natBytes (ts.getD j 0) 16
    let p := ((toBytes l 64).drop (16 * j)).take 16
    List.zipWith (· ^^^ ·) (cipher (List.zipWith (· ^^^ ·) p t)) t
  BitVec.ofNat 512 (ofBytes out)

/-- XTS-AES-256 encryption of one line under a 64-byte key. -/
def xtsEncrypt (key : List Byte) (tweak : Nat) (l : Line) : Line :=
  xtsLine (aesEncrypt (key.take 32)) (ofBytes (aesEncrypt (key.drop 32) (natBytes tweak 16))) l

/-- XTS-AES-256 decryption of one line. -/
def xtsDecrypt (key : List Byte) (tweak : Nat) (l : Line) : Line :=
  xtsLine (aesDecrypt (key.take 32)) (ofBytes (aesEncrypt (key.drop 32) (natBytes tweak 16))) l

/-! ## GCM (R439) -/

/-- Multiply in GCM's field: blocks as big-endian numbers; `n` counts the bits of `y` from the most significant. -/
def ghashMul (y : Nat) : Nat → Nat → Nat → Nat
  | 0, _, z => z
  | n + 1, v, z =>
    let z1 := if y / 2 ^ n % 2 = 1 then z ^^^ v else z
    ghashMul y n (if v % 2 = 1 then (v / 2) ^^^ (0xE1 * 2 ^ 120) else v / 2) z1

/-- GHASH over `n` 16-byte blocks. -/
def ghash (h : Nat) : Nat → List Byte → Nat → Nat
  | 0, _, y => y
  | n + 1, m, y => ghash h n (m.drop 16) (ghashMul (y ^^^ ofBytesBE (m.take 16)) 128 h 0)

/-- Zero-fill to a multiple of 16 bytes. -/
def pad16 (m : List Byte) : List Byte := m ++ List.replicate ((16 - m.length % 16) % 16) 0#8

/-- The counter-mode stream over a text, from counter `c`. -/
def gcmCtr (key iv : List Byte) : Nat → Nat → List Byte → List Byte
  | 0, _, _ => []
  | n + 1, c, m =>
    List.zipWith (· ^^^ ·) (m.take 16) (aesEncrypt key (iv ++ natBytesBE c 4)) ++ gcmCtr key iv n (c + 1) (m.drop 16)

/-- The GCM tag of a ciphertext. -/
def gcmTag (key iv aad ct : List Byte) : List Byte :=
  let h := ofBytesBE (aesEncrypt key (List.replicate 16 0#8))
  let m := pad16 aad ++ pad16 ct ++ natBytesBE (8 * aad.length) 8 ++ natBytesBE (8 * ct.length) 8
  List.zipWith (· ^^^ ·) (natBytesBE (ghash h (m.length / 16) m 0) 16) (aesEncrypt key (iv ++ natBytesBE 1 4))

/-- AES-256-GCM encryption: the ciphertext and its 16-byte tag. -/
def gcmSeal (key iv aad pt : List Byte) : List Byte × List Byte :=
  let ct := gcmCtr key iv ((pt.length + 15) / 16) 2 pt
  (ct, gcmTag key iv aad ct)

/-- AES-256-GCM decryption; `none` where the tag does not match. -/
def gcmOpen (key iv aad ct tag : List Byte) : Option (List Byte) :=
  if gcmTag key iv aad ct = tag then some (gcmCtr key iv ((ct.length + 15) / 16) 2 ct) else none

end Sys2Proof.Machine
end

