-- ==== Sys2Proof/Machine/Sections.lean ====
section
/-! DEFINITION. What the Plate's PARTITIONS (R431) and MEMORY (R234) sections say, the placement of regions (R236 to
R239) and the channel hash (R241). -/

namespace Sys2Proof.Machine

/-! ## PARTITIONS (type 0x0002) -/

/-- A partition entry (Table 14-9); `first` is its first word in the body. -/
structure Part where
  pkey    : Nat
  mode    : Nat
  members : Nat
  anchor  : Nat
  gen     : Nat
  first   : Nat
deriving DecidableEq, Repr

/-- A binding entry (Table 14-10). -/
structure Binding where
  pkey    : Nat
  node    : Nat
  member  : Nat
  seats   : Nat
  windows : Nat
  first   : Nat
deriving DecidableEq, Repr

/-- The partition entry at a word of a PARTITIONS body. -/
def partAt (b : List Word) (k : Nat) : Part :=
  let w0 := b.getD k 0
  { pkey := bits w0 0 16, mode := bits w0 16 2, members := bits w0 18 4, anchor := bits (b.getD (k + 1) 0) 0 10
    gen := (b.getD (k + 2) 0).toNat, first := k }

/-- The words of a partition entry. -/
def Part.size (p : Part) : Nat := 4 + 24 * p.members

/-- The first `n` partition entries from word `k`. -/
def partsFrom (b : List Word) : Nat → Nat → List Part
  | 0, _ => []
  | n + 1, k => partAt b k :: partsFrom b n (k + (partAt b k).size)

/-- The partition entries of a PARTITIONS body. -/
def partsOf (b : List Word) : List Part := partsFrom b (bits (b.getD 0 0) 0 17) 4

/-- The first word of the bindings. -/
def bindingsStart (b : List Word) : Nat := 4 + ((partsOf b).map fun p => p.size).sum

/-- The binding entry at a word. -/
def bindingAt (b : List Word) (k : Nat) : Binding :=
  let w0 := b.getD k 0
  let w1 := b.getD (k + 1) 0
  { pkey := bits w0 0 16, node := bits w0 16 10, member := bits w0 26 4, seats := bits w1 0 16
    windows := bits w1 16 16, first := k }

/-- The binding entries of a PARTITIONS body. -/
def bindingsOf (b : List Word) : List Binding :=
  (List.range (bits (b.getD 1 0) 0 20)).map fun i => bindingAt b (bindingsStart b + 2 * i)

/-- The partition entries of a version. -/
def PlateV.parts (v : PlateV) : List Part := partsOf (v.body 2)

/-- The binding entries of a version. -/
def PlateV.bindings (v : PlateV) : List Binding := bindingsOf (v.body 2)

/-- The entry of a key in a version. -/
def PlateV.part (v : PlateV) (k : Nat) : Option Part := v.parts.find? fun p => p.pkey == k

/-- The mode of a key: 0 CLEAR, 1 KEYED, 2 SEALED; key 0x0000 is CLEAR. -/
def PlateV.mode (v : PlateV) (k : Nat) : Nat :=
  match v.part k with
  | some p => p.mode
  | none => 0

/-- The binding of a key on a node. -/
def PlateV.binding (v : PlateV) (k node : Nat) : Option Binding :=
  v.bindings.find? fun b => b.pkey == k && b.node == node

/-- The Usher's fabric-wide key list (R183): key 0x0000 and every PKEY of the section. -/
def PlateV.keyListed (v : PlateV) (k : Nat) : Bool := k == 0 || (v.part k).isSome

/-- A node holds a key: every node holds 0x0000, and others hold what a binding names (R431). -/
def PlateV.holds (v : PlateV) (k node : Nat) : Bool := k == 0 || (v.binding k node).isSome

/-- A seat of a node is bound to a key. -/
def PlateV.seatBound (v : PlateV) (k node seat : Nat) : Bool :=
  v.bindings.any fun b => b.pkey == k && b.node == node && b.seats.testBit seat

/-- The little-endian bytes of words. -/
def wordBytes (ws : List Word) : List Byte := ws.flatMap fun w => toBytes w 4

/-- The PART_DIGEST of a key (R432). -/
def PlateV.partDigest (v : PlateV) (k : Nat) : BitVec 384 :=
  let b := v.body 2
  match v.part k with
  | none => 0
  | some p =>
    let bind := (v.bindings.filter fun x => x.pkey == k).flatMap fun x => (b.drop x.first).take 2
    sha384 (wordBytes ((b.drop p.first).take p.size ++ bind))

/-- The public key of a member (Table 14-9). -/
def PlateV.memberKey (v : PlateV) (p : Part) (m : Nat) : BitVec 768 :=
  BitVec.ofNat 768 (ofBytes (wordBytes (((v.body 2).drop (p.first + 4 + 24 * m)).take 24)))

/-! ## MEMORY (type 0x0104) -/

/-- A region entry (Table 08-2). -/
structure Region where
  num      : Nat
  pkey     : Nat
  size     : Nat
  tier     : Nat
  prio     : Nat
  xts      : Bool
  zero     : Bool
  readOnly : Bool
  host     : Bool
deriving DecidableEq, Repr

/-- The region entry at index `i` of a MEMORY body. -/
def regionAt (b : List Word) (i : Nat) : Region :=
  let w0 := b.getD (64 + 4 * i) 0
  let w1 := b.getD (65 + 4 * i) 0
  let w2 := b.getD (66 + 4 * i) 0
  { num := bits w0 0 16, pkey := bits w0 16 16, size := bits w1 0 20, tier := bits w1 20 2, prio := bits w1 22 8
    xts := bit w1 30, zero := bit w1 31, readOnly := bit w2 0, host := bit w2 1 }

/-- The region entries of a MEMORY body. -/
def regionsOf (b : List Word) : List Region := (List.range (bits (b.getD 3 0) 0 17)).map (regionAt b)

/-- The regions of a version. -/
def PlateV.regions (v : PlateV) : List Region := regionsOf (v.body 0x104)

/-- A region of a version by number. -/
def PlateV.region (v : PlateV) (r : Nat) : Option Region := v.regions.find? fun x => x.num == r

/-- An extent is 2 MiB. -/
def extentBytes : Nat := 2097152

/-- The layout fields of a MEMORY body. -/
def nearK (b : List Word) : Nat := bits (b.getD 0 0) 0 3
def farWays (b : List Word) : Nat := bits (b.getD 0 0) 8 2
def farK (b : List Word) : Nat := bits (b.getD 0 0) 16 2
def nearSize (b : List Word) : Nat := bits (b.getD 1 0) 0 20
def farSize (b : List Word) : Nat := bits (b.getD 2 0) 0 23

/-- Byte `i` of a run of words from word `k`. -/
def byteOf (b : List Word) (k i : Nat) : Nat := bytesAt (b.getD (k + i / 4) 0) (i % 4) 1

/-- The 64-bit mask at word `k`. -/
def maskAt (b : List Word) (k : Nat) : Nat := (b.getD k 0).toNat + 2 ^ 32 * (b.getD (k + 1) 0).toNat

/-- The parity of a number's low 64 bits. -/
def parity (x : Nat) : Nat := ((List.range 64).foldl (fun a i => a + x / 2 ^ i % 2) 0) % 2

/-- The logical channel of a line address under masks from word `k` (R241). -/
def hashIndex (b : List Word) (k bitsK a : Nat) : Nat :=
  (List.range bitsK).foldl (fun acc i => acc + parity (a &&& maskAt b (k + 2 * i)) * 2 ^ i) 0

/-- The channel port of a line (R241), 0 to 63 near and 64 to 87 far. -/
def portOfLine (b : List Word) (far : Bool) (a : Nat) : Nat :=
  if far then
    let ways := if farWays b = 0 then 1 else farWays b
    64 + byteOf b 20 (8 * (a % ways) + hashIndex b 38 (farK b) (a / ways))
  else byteOf b 4 (hashIndex b 26 (nearK b) a)

/-- The channel line address of a line, which the port sends (R241): A >> K, and A' >> K in the far tier. -/
def channelLine (b : List Word) (far : Bool) (a : Nat) : Nat :=
  if far then a / (if farWays b = 0 then 1 else farWays b) / 2 ^ farK b else a / 2 ^ nearK b

/-! ## Placement (R236 to R239) -/

/-- Insert a run into a list of runs ordered by base. -/
def insertRun : List (Nat × Nat) → Nat × Nat → List (Nat × Nat)
  | [], r => [r]
  | x :: t, r => if r.1 < x.1 then r :: x :: t else x :: insertRun t r

/-- The free runs of a tier of `size` extents, from extent `at`, beyond ordered occupied runs. -/
def freeRuns (size : Nat) : List (Nat × Nat) → Nat → List (Nat × Nat)
  | [], at0 => if at0 < size then [(at0, size - at0)] else []
  | (b, l) :: t, at0 => (if at0 < b then [(at0, b - at0)] else []) ++ freeRuns size t (max at0 (b + l))

/-- The first free run of at least `n` extents. -/
def firstFit (size n : Nat) (occ : List (Nat × Nat)) : Option Nat :=
  ((freeRuns size occ 0).find? fun r => decide (n ≤ r.2)).map fun r => r.1

/-- The longest free run, the lowest among equals. -/
def longestRun (size : Nat) (occ : List (Nat × Nat)) : Nat × Nat :=
  (freeRuns size occ 0).foldl (fun a r => if a.2 < r.2 then r else a) (0, 0)

/-- Occupied runs of both tiers. -/
structure Occupied where
  near : List (Nat × Nat)
  far  : List (Nat × Nat)
deriving DecidableEq, Repr

/-- Occupy a run; an empty one is nothing. -/
def Occupied.addNear (o : Occupied) (b l : Nat) : Occupied := if l = 0 then o else { o with near := insertRun o.near (b, l) }

/-- Occupy a far run. -/
def Occupied.addFar (o : Occupied) (b l : Nat) : Occupied := if l = 0 then o else { o with far := insertRun o.far (b, l) }

/-- Occupy a region's place. -/
def Occupied.add (o : Occupied) (p : Place) : Occupied := (o.addNear p.nearBase p.nearLen).addFar p.farBase p.farLen

/-- A region's place in the near tier alone, or in the far tier alone. -/
def wholeNear (b l : Nat) : Place := { nearBase := b, nearLen := l, farBase := 0, farLen := 0 }
def wholeFar (b l : Nat) : Place := { nearBase := 0, nearLen := 0, farBase := b, farLen := l }

/-- Place one region (R237). -/
def placeRegion (nsize fsize : Nat) (o : Occupied) (g : Region) : Option Place :=
  let near := (firstFit nsize g.size o.near).map fun b => wholeNear b g.size
  let far := (firstFit fsize g.size o.far).map fun b => wholeFar b g.size
  match g.tier with
  | 0 => near
  | 1 => far
  | 2 => near.or far
  | _ =>
    match near with
    | some p => some p
    | none =>
      let n := longestRun nsize o.near
      (firstFit fsize (g.size - n.2) o.far).map fun b =>
        { nearBase := n.1, nearLen := n.2, farBase := b, farLen := g.size - n.2 }

/-- Place regions in order. -/
def placeAll (nsize fsize : Nat) : List Region → Occupied → Tab Place → Option (Tab Place)
  | [], _, t => some t
  | g :: gs, o, t =>
    match placeRegion nsize fsize o g with
    | some p => placeAll nsize fsize gs (o.add p) (tabInsert t g.num p)
    | none => none

/-- The placement order: PRIORITY descending, then REGION ascending. -/
def placedBefore (a b : Region) : Bool := decide (b.prio < a.prio ∨ (a.prio = b.prio ∧ a.num ≤ b.num))

/-- Insert a region in placement order. -/
def insertPlaced : List Region → Region → List Region
  | [], g => [g]
  | x :: t, g => if placedBefore g x then g :: x :: t else x :: insertPlaced t g

/-- The placement of a MEMORY body: kept regions keep their place (R238), new ones are placed by R237. -/
def placement (body : List Word) (old : Tab Place) (occ : Occupied) : Option (Tab Place) :=
  let rs := regionsOf body
  let kept := rs.filter fun g => (tabFind old g.num).isSome
  let fresh := (rs.filter fun g => (tabFind old g.num).isNone).foldl insertPlaced []
  let start := kept.foldl (fun t g =>
    match tabFind old g.num with
    | some p => tabInsert t g.num p
    | none => t) []
  placeAll (nearSize body) (farSize body) fresh occ start

/-! ## From offset to line -/

/-- A line's key: its tier line address, plus 2^37 in the far tier. -/
def lineKey (far : Bool) (a : Nat) : Nat := a + (if far then 2 ^ 37 else 0)

/-- The line of a region at a byte offset (R236, R242). -/
def PlateV.lineAt (v : PlateV) (r off : Nat) : Nat :=
  match tabFind v.places r with
  | none => 0
  | some p =>
    let nearBytes := p.nearLen * extentBytes
    if off < nearBytes then lineKey false ((p.nearBase * extentBytes + off) / 64)
    else lineKey true ((p.farBase * extentBytes + (off - nearBytes)) / 64)

/-- The channel port of a line's key in a version's layout. -/
def PlateV.portOf (v : PlateV) (key : Nat) : Nat :=
  portOfLine (v.body 0x104) (decide (2 ^ 37 ≤ key)) (key % 2 ^ 37)

/-- The channel line address of a line's key in a version's layout. -/
def PlateV.sentAddr (v : PlateV) (key : Nat) : Nat := channelLine (v.body 0x104) (decide (2 ^ 37 ≤ key)) (key % 2 ^ 37)

/-! ## Channel ports and the start of a wake -/

def State.chan (s : State) (p : Nat) : Chan := tabGet Chan.reset s.mem.chans p
def State.setChan (s : State) (p : Nat) (c : Chan) : State :=
  { s with mem := { s.mem with chans := tabSet Chan.reset s.mem.chans p c } }

/-- The ports that a layout names. -/
def usedPorts (b : List Word) : List Nat :=
  ((List.range (2 ^ nearK b)).map fun i => byteOf b 4 i) ++
    (List.range (farWays b)).flatMap fun w => (List.range (2 ^ farK b)).map fun j => 64 + byteOf b 20 (8 * w + j)

/-- The used channel ports that are not ready begin their HOLD (R252). -/
def State.holdPorts (s : State) (v : PlateV) : State :=
  (usedPorts (v.body 0x104)).foldl (fun t p =>
    let c := t.chan p
    if c.ready then t else t.setChan p { c with holdSince := t.now }) s

/-- A wake starts (R511): the fast domains run, and the ports in use begin their HOLD. -/
def State.startWake (s : State) : State :=
  let s1 := { s with kpr := { s.kpr with power := .waking, refuse := 0, runHeld := false, runAt := some s.clk.count, memIdle := false, domains := [] } }
  match s1.plt.active with
  | some v => s1.holdPorts v
  | none => s1

/-- A doorbell or a mailbox GO in KEEPER starts a wake where AUTO_WAKE says so (R511). -/
def State.autoWake (s : State) : State :=
  if s.kpr.power = .keeper ∧ bit (s.reg R.powerCfg) 0 ∧ ! s.kpr.resetLow then s.startWake else s

end Sys2Proof.Machine
end

