-- ==== Sys2Proof/Machine/Usher.lean ====
section
/-! DEFINITION. The Usher's checks of partition keys (R183 to R186, Table 06-7), each by the version that the cell's epoch selects. -/

namespace Sys2Proof.Machine

/-- The logical port of an input, as CSW_USHER_DENY counts them. -/
def State.inputPort (s : State) (input : Nat) : Nat := if input < 32 then s.portOf input else 32

/-- A cell may carry key 0x0000 past an inner point: class C5, or a NOTICE or an ECHO. -/
def keyless (c : Cell) : Bool := c.cls == 5 || cellIs c 0x14 || cellIs c 0x15

/-- A SYNC cell of the stage clock, the one kind that passes a SEAT port without a key. -/
def seatSync (c : Cell) : Bool := c.cls == 5 && cellIs c 0x30

/-- A cell may enter (Table 06-7). -/
def State.mayEnter (s : State) (v : PlateV) (input : Nat) (c : Cell) : Bool :=
  let k := c.pkey.toNat
  if k = 0xFFFF then false
  else if input < 32 ∧ s.role input = 1 then
    if k = 0 then seatSync c && c.dest.toNat == s.nodeId
    else v.holds k s.nodeId && v.seatBound k s.nodeId (s.rolePeer input % 16)
  else if k = 0 then keyless c
  else if input = 32 then v.holds k s.nodeId
  else v.keyListed k

/-- Refuse a cell: counted at a port, recorded, and answered. -/
def State.usherRefuse (s : State) (port : Nat) (c : Cell) (status reason member : Nat) : State :=
  ((s.bump (R.usherDeny + 4 * port)).raiseLimited 16 port 0).sendNotice c status reason member

/-- A cell's key admits it to ejection, its curtain apart. -/
def State.keyEjects (s : State) (v : PlateV) (c : Cell) : Bool :=
  let k := c.pkey.toNat
  k != 0xFFFF && (if k = 0 then keyless c else v.holds k s.nodeId)

/-- A cell may leave for a seat: 0 yes, else the status of the refusal. -/
def State.mayLeave (s : State) (v : PlateV) (seat : Nat) (c : Cell) : Nat :=
  let k := c.pkey.toNat
  if k = 0 then (if seatSync c then 0 else 9)
  else if k = 0xFFFF ∨ ! v.seatBound k s.nodeId seat then 9
  else if s.arrayBit R.seatFence seat then 7
  else 0

/-- The Usher admits a received SYNC or flood on its way to the stage clock or the Keeper (R454, Table 06-7). A node without a Plate has no
Usher, and a SYNC is taken in whatever epoch it carries. -/
def State.linkAdmits (s : State) (n : Nat) (c : Cell) : Bool :=
  match (s.versionOf c.epoch).or s.plt.active with
  | none => true
  | some v => s.mayEnter v n c && s.keyEjects v c

end Sys2Proof.Machine
end

