-- ==== Sys2Proof/Machine/Link.lean ====
section
/-! DEFINITION. The link engine's commands: transmit slots (R131), received slots (R126, R133 to R135), credit (R129, R141),
the link states (R142 to R144), the identity exchange (R145 to R151), realignment (R153), resends (R137), drain (R158). -/

namespace Sys2Proof.Machine

/-! ## Acknowledgement -/

/-- Mark the cell of a NAK bit for resend: at once the first time, else after NAK_HOLDOFF (R135). -/
def Link.applyNak (x : Link) (now holdoff : Nat) (q : BitVec 16) : Link :=
  { x with replay := x.replay.map fun r =>
      if r.seq = q ∧ (r.resent = 0 ∨ r.lastTx + holdoff ≤ now) then { r with due := true } else r }

/-- A cell resent REPLAY_LIMIT times is to be resent again (R137). Any cell's resends count (DEDUCED, log entry 101). -/
def Link.overResent (x : Link) (limit : Nat) : Bool := x.replay.any fun r => r.due && decide (limit ≤ r.resent)

/-- Act on the ACK and NAK map of a good received slot (R135): a stale ACK alone is ignored, an ACK or a NAK bit beyond what was sent is a
violation, and the cell that brings it acts no further. Whether the cell stands, and the state. -/
def State.receiveAck (s : State) (n : Nat) (c : Cell) (seq : Nat) : Bool × State :=
  let x := s.link n
  let span := (x.nextSeq - 1 - x.lastAck).toNat
  let ahead := (c.ack - x.lastAck).toNat
  let stale := decide (span < ahead) && decide ((x.lastAck - c.ack).toNat < 32768)
  if span < ahead ∧ ! stale then (false, s.linkViolation n 5 c seq)
  else
    let x1 := x.takeAck c.ack
    let named := (List.range 16).filter fun i => bit c.nak i
    let beyond := named.any fun i => ! stale && decide ((x1.nextSeq - 1 - c.ack).toNat < i + 1)
    let holdoff := s.fld R.linkCfg 8 8 * 50
    let x2 := named.foldl (fun y i => y.applyNak s.now holdoff (c.ack + 1 + BitVec.ofNat 16 i)) x1
    let s1 := s.setLink n x2
    if beyond then (false, s1.linkViolation n 5 c seq)
    else if x2.state = .up ∧ x2.overResent (s.fld R.linkCfg 24 8) then (true, s1.enterRetrain n 4)
    else (true, s1)

/-- Apply the freed counts of an ACK or CREDIT cell (R129, R141): one that returns credit for cells never sent is a violation and
ignored. -/
def State.receiveCredit (s : State) (n : Nat) (c : Cell) : State :=
  (List.range 6).foldl (fun t k =>
    let f := bytesAt c.payload (2 * k) 2
    let x := t.link n
    let sent := tabGet 0 x.sent k
    if (sent + 65536 - f) % 65536 < 32768 then t.setLink n { x with peerFreed := tabSet 0 x.peerFreed k f }
    else t.linkViolation n 6 c 0) s

/-- A link-local cell's SEQ marks the numbers before it as sent (R133). -/
def State.localSeq (s : State) (n : Nat) (c : Cell) : State :=
  let x := s.link n
  let d := (c.seq - x.expect).toNat
  if 1 ≤ d ∧ d ≤ 4095 ∧ (x.top - x.expect).toNat < d then s.setLink n { x with top := c.seq } else s

/-- The check of a link-local cell's header: class 5 of a valid kind, and no reserved endpoint (R18, R128). -/
def State.localFault (_ : State) (c : Cell) : Option Nat :=
  if 6 ≤ c.cls.toNat then some 2
  else if epReserved c.src.toNat || epReserved c.dest.toNat then some 7
  else none

/-- What every link-local cell does first: a cell that breaks a rule is discarded (R154); else its ACK and NAK map act, and its SEQ marks
gaps (R133, R135). Whether the cell stands, and the state. -/
def State.localRx (s : State) (n : Nat) (c : Cell) : Bool × State :=
  match s.localFault c with
  | some k => (false, s.linkViolation n k c 0)
  | none =>
    let r := s.receiveAck n c 0
    (r.1, r.2.localSeq n c)

/-! ## Received sequenced cells (R133) -/

/-- A flood's epoch matches a version that a sealed node holds; SYNC cells are exempt (R79, R454). Floods are not (DEDUCED, log entry 94). -/
def State.versionKnown (s : State) (c : Cell) : Bool := ! s.isSealed || cellIs c 0x30 || (s.versionOf c.epoch).isSome

/-- Hand an accepted cell on: SYNC and floods, where the Usher admits them, leave the pool at once for the stage clock and the Keeper (R454, R484),
any other goes to the switch in order. -/
def State.passUp (s : State) (n : Nat) (c : Cell) : State :=
  let x := s.link n
  let s1 := s.setReg64 (R.link n + 0x58) (s.reg64 (R.link n + 0x58) + 1)
  if linkBound c ∧ ! s.versionKnown c then s.setLink n (x.freeCell 5) |>.bump R.pltEpochDiscard
  else if linkBound c ∧ ! s.linkAdmits n c then (s.setLink n (x.freeCell 5)).usherRefuse (s.inputPort n) c 9 1 s.nodeId
  else if linkBound c then
    let s2 := s.setLink n (x.freeCell 5)
    s2.eject n c false
  else s1.setLink n { x with pool := x.pool ++ [c] }

/-- Advance E past every held cell that now follows without a gap; `fuel` bounds the walk by the cells held. -/
def State.releaseHeld (s : State) (n : Nat) : Nat → State
  | 0 => s
  | fuel + 1 =>
    let x := s.link n
    match x.held.find? fun h => h.seq == x.expect with
    | none => s
    | some h =>
      let s1 := s.setLink n { x with held := x.held.filter (fun g => g.seq != h.seq), expect := x.expect + 1 }
      let s2 := match h.cell with
        | some c => s1.passUp n c
        | none => s1
      s2.releaseHeld n fuel

/-- The check of a cell that its sequence number admits: why it is a violation (R18, R128, R129). -/
def State.arrivalFault (s : State) (n : Nat) (c : Cell) : Option Nat :=
  if 6 ≤ c.cls.toNat then some 2
  else if ! (s.link n).hasRoom c.cls.toNat then some 3
  else if epReserved c.src.toNat || epReserved c.dest.toNat then some 7
  else none

/-- What the last ACK or CREDIT cell reported: E − 1 and the freed counts. -/
def Link.report (x : Link) : List Nat := (x.expect - 1).toNat :: (List.range 6).map (tabGet 0 x.freed)

/-- An acknowledgement or a freed count that the last ACK or CREDIT did not report changed; the oldest such change is timed (R138). -/
def State.noteChange (s : State) (n : Nat) : State :=
  s.modLink n fun x => if x.report ≠ x.reported then { x with changedAt := x.changedAt.or (some s.now) } else x

/-- Take a cell whose number lies in the window: a restricted link's cell of another class (R149) and a violating one count as received
and go no further. Neither adds to the freed counts (DESIGN CHOICE, log entry 90). -/
def State.takeSequenced (s : State) (n : Nat) (c : Cell) : State :=
  let kept : State × Option Cell :=
    if (s.link n).restrict ≠ 0 ∧ c.cls.toNat < 5 then (s.bump (R.link n + 0x3C), none)
    else match s.arrivalFault n c with
      | some code => (s.linkViolation n code c c.seq.toNat, none)
      | none => (s, some c)
  let s1 := kept.1
  let x := s1.link n
  let top := if (x.top - x.expect).toNat < (c.seq + 1 - x.expect).toNat then c.seq + 1 else x.top
  let s2 := s1.setLink n { x with held := x.held ++ [{ seq := c.seq, cell := kept.2 }], top := top }
  (s2.releaseHeld n (x.held.length + 1)).noteChange n

/-- A cell that broke an acknowledgement rule goes no further; its number, where it lies in the window, counts as received (R154). -/
def State.skipSequenced (s : State) (n : Nat) (c : Cell) : State :=
  let x := s.link n
  if 4096 ≤ (c.seq - x.expect).toNat ∨ x.held.any (fun h => h.seq == c.seq) then s
  else
    let top := if (x.top - x.expect).toNat < (c.seq + 1 - x.expect).toNat then c.seq + 1 else x.top
    ((s.setLink n { x with held := x.held ++ [{ seq := c.seq, cell := none }], top := top }).releaseHeld n (x.held.length + 1)).noteChange n

/-- Act on a good sequenced slot by its sequence distance (Table 05-3).
A second copy of a held number counts as a duplicate (DESIGN CHOICE, log entry 91). -/
def State.receiveSequenced (s : State) (n : Nat) (c : Cell) : State :=
  let x := s.link n
  let d := (c.seq - x.expect).toNat
  if 61440 ≤ d ∨ x.held.any (fun h => h.seq == c.seq) then s.bump (R.link n + 0x2C)
  else if 4096 ≤ d then s.linkViolation n 4 c c.seq.toNat
  else
    let s1 := if cellIs c 0x30 then
        { s with clk := { s.clk with arrived := tabInsert s.clk.arrived n s.now16 } } else s
    s1.takeSequenced n c

/-- A link reads slots: in IDENT and UP. -/
def Link.readsSlots (x : Link) : Bool := decide (x.state = .up ∨ x.state = .ident)

/-- The form of the slots that a link's receiver expects: x1 in IDENT until the peer's FINAL, mapped after it (R148). -/
def State.formExpected (s : State) (n : Nat) : Nat :=
  let x := s.link n
  if x.state ≠ .ident then x.width.toNat
  else if ! x.peerFinal then 3
  else match x.peerIdent with
    | some p => ((s.agreedMap n p).map fun m => m.1.toNat).getD 3
    | none => 3

/-- A good received slot (R133, R135, R154). -/
def State.goodSlot (s : State) (n form : Nat) (c : Cell) : State :=
  let isLocal : Bool := decide (0x38 ≤ c.typ.toNat)
  let seq := if isLocal then 0 else c.seq.toNat
  if form = 3 ∧ (s.link n).state ≠ .ident then
    let t := s.linkViolation n 1 c seq
    if isLocal then t else t.skipSequenced n c
  else if isLocal then
    let r := s.localRx n c
    if r.1 ∧ cellIs c 0x3F then r.2.linkViolation n 1 c 0 else r.2
  else
    let r := s.receiveAck n c seq
    if r.1 then r.2.receiveSequenced n c else r.2.skipSequenced n c

/-- A slot as its lanes' codewords spell it (R126): errored, or good. -/
def State.receiveSlot (s : State) (n form : Nat) (slot : BitVec 768) (decoded : Bool) : State :=
  if ! (s.link n).readsSlots then s
  else if slotErrored slot decoded ∨ (form ≠ 3 ∧ form ≠ s.formExpected n) ∨ (form = 3 ∧ (s.link n).state = .ident ∧ s.formExpected n ≠ 3) then
    s.erroredCell n
  else s.goodSlot n form (slotCell slot)

/-- SEQUENCED_CELL_RX (R119, R120, R124 to R126, R133, R135): a received slot as its lanes bring it. The codewords that end in it are
counted; one that a stream's stop cuts is discarded. A link that reads no slots discards it (R153). -/
def execSequencedCellRx (n : LinkIx) (form : BitVec 2) (parts : List SlotPart) (s : State) :
    Host.Outcome State Fault Refusal :=
  if ! (s.link n).readsSlots then .next s
  else
    let r := s.readSlot n form.toNat parts
    let s1 := if r.cut then s else s.receiveSlot n form.toNat r.slot r.decoded
    .next (r.ended.foldl (fun t e => t.countWord (9 * n + e.1) e.2) s1)

/-! ## Received link-local cells (R140) -/

/-- Run a link-local receipt while the link reads slots: the common part, then what the cell's own type does where the cell stands. -/
def State.onLink (s : State) (n : Nat) (c : Cell) (f : State → State) : State :=
  if (s.link n).readsSlots then
    let r := s.localRx n c
    if r.1 then f r.2 else r.2
  else s

/-- NULL_CELL_RX (R140). -/
def execNullCellRx (n : LinkIx) (c : Cell) (s : State) : Host.Outcome State Fault Refusal :=
  if cellIs c 0x38 then .next (s.onLink n c fun t => t) else .fault .illFormed

/-- ACK_CELL_RX (R135, R129, R140). -/
def execAckCellRx (n : LinkIx) (c : Cell) (s : State) : Host.Outcome State Fault Refusal :=
  if cellIs c 0x39 then .next (s.onLink n c fun t => t.receiveCredit n c) else .fault .illFormed

/-- CREDIT_CELL_RX (R129, R141). -/
def execCreditCellRx (n : LinkIx) (c : Cell) (s : State) : Host.Outcome State Fault Refusal :=
  if cellIs c 0x3A then .next (s.onLink n c fun t => t.receiveCredit n c) else .fault .illFormed

/-- RETRAIN_CELL_RX (R142): an UP or REALIGN link enters RETRAIN with reason PEER. -/
def execRetrainCellRx (n : LinkIx) (c : Cell) (s : State) : Host.Outcome State Fault Refusal :=
  if ! cellIs c 0x3C then .fault .illFormed
  else if (s.link n).state = .up ∨ (s.link n).state = .realign then
    let r := s.localRx n c
    .next (if r.1 ∧ ((r.2.link n).state = .up ∨ (r.2.link n).state = .realign) then r.2.enterRetrain n 2 else r.2)
  else .next s

/-- PROTEST_RX (R154): counted; no other action. -/
def execProtestRx (n : LinkIx) (c : Cell) (s : State) : Host.Outcome State Fault Refusal :=
  if cellIs c 0x3E then .next (s.onLink n c fun t => t.bump (R.link n + 0x38)) else .fault .illFormed

/-! ## Transmit slots (R131) -/

/-- A SYNC cell takes TX_TIME at every transmission (R456). -/
def stampSync (now16 : Nat) (c : Cell) : Cell :=
  if cellIs c 0x30 then { c with payload := setBits c.payload 352 64 now16 } else c

/-- Note a SYNC's transmission for the sample of R457. -/
def State.noteSync (s : State) (n : Nat) (c : Cell) : State :=
  if cellIs c 0x30 then
    { s with clk := { s.clk with sentPrev := tabSet 0 s.clk.sentPrev n (tabGet 0 s.clk.sentLast n)
                                 sentLast := tabSet 0 s.clk.sentLast n s.now16 } }
  else s

/-- The freed counts as an ACK or CREDIT payload carries them (Table 05-5). -/
def Link.freedPayload (x : Link) : Line :=
  packBytes 512 ((List.range 6).map fun c => (2 * c, 2, tabGet 0 x.freed c))

/-- Count a slot that carries a cell other than a filler. -/
def State.noteSend (s : State) (n : Nat) (c : Cell) : State :=
  s.modLink n fun x => { x with sinceCredit := x.sinceCredit + 1, lastSend := if cellIs c 0x38 then x.lastSend else s.now }

/-- Send a link-local cell in this slot. -/
def State.sendLocal (s : State) (n : Nat) (c : Cell) : State :=
  let x := s.link n
  (s.sendSlot n (x.stamp c x.nextSeq)).noteSend n c

/-- Send an ACK or CREDIT cell in this slot. -/
def State.sendFreed (s : State) (n typ : Nat) : State :=
  let x := s.link n
  let c := s.linkCell n typ x.freedPayload
  ((s.sendSlot n (x.stamp c x.nextSeq)).noteSend n c).modLink n fun y =>
    { y with reported := x.report, changedAt := none, sinceCredit := if typ = 0x3A then 0 else y.sinceCredit }

/-- Send a new sequenced cell: it takes the next number and enters the replay buffer (R132, R136). -/
def State.sendNew (s : State) (n : Nat) (c0 : Cell) : State :=
  let x := s.link n
  let c := stampSync s.now16 c0
  let k := c.cls.toNat
  let r : Replay := { cell := c, seq := x.nextSeq, resent := 0, lastTx := s.now, due := false }
  let s1 := ((s.sendSlot n (x.stamp c x.nextSeq)).noteSend n c).modLink n fun y =>
    { y with nextSeq := y.nextSeq + 1, replay := y.replay ++ [r], sent := tabSet 0 y.sent k ((tabGet 0 y.sent k + 1) % 65536) }
  (s1.setReg64 (R.link n + 0x50) (s1.reg64 (R.link n + 0x50) + 1)).noteSync n c

/-- Resend a cell under its original number (R132). -/
def State.sendAgain (s : State) (n : Nat) (r : Replay) : State :=
  let x := s.link n
  let c := stampSync s.now16 r.cell
  let s1 := ((s.sendSlot n (x.stamp c r.seq)).noteSend n c).modLink n fun y =>
    { y with replay := y.replay.map fun q =>
        if q.seq = r.seq then { q with cell := c, resent := q.resent + 1, lastTx := s.now, due := false } else q }
  (s1.bump (R.link n + 0x28)).noteSync n c

/-- The class of the next new cell: C5, C4, then C0 to C3 in round robin, each subject to credit (R131); a restricted link sends C5
only (R149). -/
def Link.nextClass (x : Link) : Option Nat :=
  let rr := (List.range 4).map fun i => (x.turn + i) % 4
  if x.replay.length < 4096 then
    ([5, 4] ++ rr).find? fun c => decide (0 < x.queued c) && x.maySend c && (x.restrict == 0 || c == 5)
  else none

/-- Leave electrical idle on the link's lanes (R110): a gated lane wakes; a wake call after gating or a DOZE, else the burst alone. -/
def State.leaveIdle (s : State) (n : Nat) : State :=
  (List.range 9).foldl (fun t k =>
    (if t.domain (9 * n + k) = .gated then t.wakeLane (9 * n + k) else t).modLane (9 * n + k) fun y =>
    if y.txIdle then
      if y.wasGated || y.lastNotice == 2 || y.badHeader then
        { y with txIdle := false, wasGated := false, sentNotice := 3, sentCount := 110 }
      else { y with txIdle := false, sentNotice := 0, sentCount := 0 }
    else y) s

/-- The transmitters of a link's mapped lanes are in electrical idle. -/
def State.linkQuiet (s : State) (n : Nat) : Bool :=
  let ks := s.mapped n
  ! ks.isEmpty && ks.all fun k => (s.lane (9 * n + k)).txIdle

/-- A filler goes out, unless the link's transmitters are in electrical idle. -/
def State.sendNull (s : State) (n : Nat) : State :=
  if s.linkQuiet n then s.modLink n fun x => { x with txSlot := none } else s.sendLocal n (s.linkCell n 0x38 0)

/-- A flooded cell that waits takes the place that has come free in the class 5 queue (R130, R484). -/
def Link.admitFlood (x : Link) : Link :=
  match x.floods with
  | c :: cs => if x.queued 5 < 8 then { x with txq := x.txq ++ [c], floods := cs } else x
  | [] => x

/-- Fill a slot of a link that carries cells from the first source that has one (R131). -/
def State.fillSlot (s : State) (n : Nat) : State :=
  let x := s.link n
  if 127 ≤ x.sinceCredit then (s.leaveIdle n).sendFreed n 0x3A
  else match x.ctl with
    | c :: cs =>
      let s1 := (s.leaveIdle n).setLink n { x with ctl := cs }
      if 0x38 ≤ c.typ.toNat then s1.sendLocal n c else s1.sendNew n c
    | [] =>
      match x.replay.find? fun r => r.due with
      | some r => (s.leaveIdle n).sendAgain n r
      | none =>
        match x.nextClass with
        | some k =>
          match x.txq.find? fun y => y.cls.toNat == k with
          | some c =>
            let turn := if k < 4 then (k + 1) % 4 else x.turn
            ((s.leaveIdle n).setLink n ({ x with txq := x.txq.erase c, turn := turn }).admitFlood).sendNew n c
          | none => s.sendNull n
        | none => if x.report ≠ x.reported then (s.leaveIdle n).sendFreed n 0x39 else s.sendNull n

/-- The training frame of a lane that sends frames: a lane in training, an understudy that is not idle (R113), or a failed lane with FAIL
frames still to send (R115). -/
def Lane.sendFrame (y : Lane) (k : Nat) : Lane :=
  let frames := decide (y.state = .training ∨ y.state = .locked) || (decide (y.state = .standby) && ! y.txIdle)
  let failing := decide (y.state = .failed) && decide (0 < y.sentCount)
  if frames || failing then
    let f := trainingFrame (sendHeader k y.rxLock (if failing then 4 else 0) 0) y.prbs
    { y with txFrame := some (toPins (bit y.eq0 1) f.1), prbs := f.2, sentCount := if failing then y.sentCount - 1 else y.sentCount }
  else { y with txFrame := none }

/-- The lanes of a link send their training frames (R93, R96, R113, R115). -/
def State.sendFrames (s : State) (n : Nat) : State :=
  (List.range 9).foldl (fun t k => t.modLane (9 * n + k) fun y => y.sendFrame k) s

/-! ## The identity exchange (R145 to R148) -/

/-- This end's version: the lower of 1.0 and the FABRIC section's (R150). -/
def State.myMajor (_ : State) : Nat := 1
def State.myMinor (_ : State) : Nat := 0

/-- The WORKING lanes as a bit mask. -/
def State.workingMask (s : State) (n : Nat) : Nat :=
  ((s.workingLanes n).map fun k => 2 ^ k).sum

/-- The IDENT payload (Table 05-7). -/
def State.identPayload (s : State) (n : Nat) (final : Bool) : Line :=
  let x := s.link n
  let other := s.otherVersion
  let map : Option Nat := match x.peerIdent with
    | some p => (s.agreedMap n p).map fun (m : BitVec 2 × List Nat) => (mapWord m.2).toNat
    | none => none
  packBytes 512
    [(0, 2, s.nodeId), (2, 1, n), (3, 1, s.myMajor * 16 + s.myMinor), (4, 2, x.session.toNat),
     (6, 2, s.workingMask n),
     (8, 1, b2n x.peerIdent.isSome + 2 * b2n final + 4 * b2n s.isSealed + 8 * b2n other.isSome
       + 16 * b2n (bit (s.reg (R.link n + 8)) 1)),
     (12, 4, (s.plt.active.map fun v => v.state.toNat).getD 0),
     (16, 16, (s.plt.active.map fun v => proofTag v.proof).getD 0),
     (32, 4, (other.map fun v => v.state.toNat).getD 0),
     (36, 16, (other.map fun v => proofTag v.proof).getD 0),
     (52, 4, map.getD 0xFFFFFFFF), (56, 4, x.nonce.toNat)]

/-- The peer's IDENT carries SEEN, from the leader where this end follows (R148 step 1). -/
def Link.seenByPeer (x : Link) : Bool :=
  match x.peerIdent with
  | some p => bit p 64
  | none => false

/-- The Peer check of Table 05-8 fails. -/
def State.wrongPeer (s : State) (n : Nat) (p : Line) : Bool :=
  bytesAt p 0 2 % 2 ^ 15 != s.rolePeer n || (s.role n != 1 && bits p 16 5 != bits (s.roleWord n) 23 5)

/-- The Peer check that a link makes at once against a new role (R144): no exchange, so nothing clears (Table 05-8). -/
def State.checkPeer (s : State) (n : Nat) (p : Line) : State := if s.wrongPeer n p then s.restrictLink n 0 true else s

/-- Check a completed exchange and set or clear its restrictions (Table 05-8). -/
def State.checkIdent (s : State) (n : Nat) (p : Line) : State :=
  let seat := s.role n == 1
  let s1 := s.restrictLink n 1 (bits p 28 4 != s.myMajor)
  let s2 := s1.restrictLink n 4 (! s.isSealed || (! seat && ! bit p 66))
  if ! s.isSealed then s2
  else
    let s3 := s2.restrictLink n 0 (s.wrongPeer n p)
    if seat then s3 else s3.matchState n (bytesAt p 12 4) (bytesAt p 16 16)

/-- Complete the exchange (R148, R149, R151, R159): map, lanes, UP, restrictions; a changed SESSION after a RETRAIN disposes of
the held cells and resets the counts. -/
def State.completeIdent (s : State) (n : Nat) (p : Line) : State :=
  match s.agreedMap n p with
  | none => s.goDown n 3
  | some (w, ks) =>
    let x := s.link n
    let old := s.mapped n
    let session := BitVec.ofNat 16 (bytesAt p 4 2)
    let s1 := if x.fromRetrain ∧ session ≠ x.peerSession then
        let t := s.dispose n
        t.modLink n fun y => { y.fresh with ctl := y.ctl }
      else s
    let s2 := s1.modLink n fun y => { y with
      state := .up, width := w, form := w, leader := s.leads n p, peerSession := session, peerIdent := some p, known := true }
    let s3 := ((s2.applyMap n ks).mapRecords n old ks).checkIdent n p
    (List.range 9).foldl (fun t k => t.modLane (9 * n + k) fun y => { y with noneRun := 0, txIdle := false }) s3

/-- Complete once the eight SEEN IDENTs are sent, the peer's FINAL has come, and the mapped lanes are deskewed: at most 4,096 UI apart
(R121). -/
def State.tryComplete (s : State) (n : Nat) : State :=
  let x := s.link n
  match x.peerIdent with
  | some p =>
    if 8 ≤ x.identSent ∧ x.peerFinal then
      match s.agreedMap n p with
      | none => s.completeIdent n p
      | some (_, ks) => match s.skewOf n ks with
        | some k => if k ≤ 4096 then (s.completeIdent n p).showSkew n k else s
        | none => s
    else s
  | none => s

/-- The form of the slots after the exchange: the width agreed. -/
def State.agreedForm (s : State) (n : Nat) : BitVec 2 :=
  match (s.link n).peerIdent with
  | some p => ((s.agreedMap n p).map fun m => m.1).getD 3
  | none => 3

/-- Send an IDENT in this slot (R148 steps 2 to 4): after the last of the eight the rest of its codeword fills with NULL cells, and
mapped slots begin with the next. What fills the slots: log entry 39 (DEDUCED). -/
def State.sendIdent (s : State) (n : Nat) : State :=
  let x := s.link n
  let count := if x.seenByPeer then x.identSent + 1 else 0
  let c := s.linkCell n 0x3B (s.identPayload n (count == 8))
  let s1 := (s.sendLocal n c).modLink n fun y => { y with identSent := count }
  let s2 := if count = 8 then (s1.stopStream n).modLink n fun y => { y with form := s1.agreedForm n, txSlot := (s1.link n).txSlot } else s1
  s2.tryComplete n

/-- A control cell of a link that carries nothing else: after the last the stream stops (R121, R125). -/
def State.sendControl (s : State) (n : Nat) : State :=
  let x := s.link n
  match x.ctl with
  | c :: cs =>
    let s1 := s.setLink n { x with ctl := cs }
    let s2 := if 0x38 ≤ c.typ.toNat then s1.sendLocal n c else s1.sendNew n c
    if cs.isEmpty then (s2.stopStream n).modLink n fun y => { y with txSlot := (s2.link n).txSlot } else s2
  | [] => s.modLink n fun y => { y with txSlot := none }

/-- LINK_TX_SLOT (R124, R125, R131, R148): one transmit slot, and a frame of each lane that sends frames. After its last IDENT an end
sends NULL cells until the peer's comes. In UP and REALIGN the link carries cells (R153); elsewhere it sends only its control cells. -/
def execLinkTxSlot (n : LinkIx) (s : State) : Host.Outcome State Fault Refusal :=
  let s1 := s.sendFrames n
  let x := s1.link n
  if s.domain (288 + n) = .gated then .next s
  else match x.state with
    | .up | .realign => .next (s1.fillSlot n)
    | .ident =>
      .next (if 127 ≤ x.sinceCredit then s1.sendFreed n 0x3A
        else if 8 ≤ x.identSent then s1.sendLocal n (s1.linkCell n 0x38 0) else s1.sendIdent n)
    | _ => .next (s1.sendControl n)

/-- A reserved field of an IDENT is not 0 (Table 05-10, code 8). -/
def identReserved (p : Line) : Bool :=
  bit p 15 || bits p 21 3 != 0 || bits p 57 7 != 0 || bits p 69 3 != 0 || bits p 72 24 != 0 || bits p 480 32 != 0

/-- A good IDENT of the exchange (R145 to R148): LINK_PEER shows it; equal NONCEs make this end choose another. -/
def State.takeIdent (s : State) (n : Nat) (p : Line) : State :=
  let x := s.link n
  let reg := pack 32 [(0, 15, bytesAt p 0 2), (15, 5, bits p 16 5), (20, 4, bits p 28 4), (24, 4, bits p 24 4), (28, 1, b2n (bit p 66))]
  let s1 := s.setReg (R.link n + 0x14) reg
  let same := bytesAt p 0 2 % 2 ^ 15 == s.nodeId && bits p 16 5 == n && bytesAt p 56 4 == x.nonce.toNat
  if same then
    (s1.setLink n { x with nonce := BitVec.ofNat 32 (s1.freshVal 32), peerIdent := none, identSent := 0 }).tookFree
  else
    let s2 := s1.setLink n { x with peerIdent := some p, peerFinal := x.peerFinal || bit p 65 }
    match s2.agreedMap n p with
    | none => s2.goDown n 3
    | some _ => s2.tryComplete n

/-- The check of a received IDENT (Table 05-10): a reserved endpoint in its header or its payload, a reserved field that is not 0. -/
def State.identFault (s : State) (c : Cell) : Option Nat :=
  match s.localFault c with
  | some k => some k
  | none =>
    if epReserved (bytesAt c.payload 0 2 % 2 ^ 15) then some 7
    else if identReserved c.payload then some 8
    else none

/-- IDENT_RX (R18, R133, R135, R145 to R149, R154): outside IDENT it is a violation; in IDENT its ACK, NAK map and SEQ act as on every good
slot. -/
def execIdentRx (n : LinkIx) (c : Cell) (s : State) : Host.Outcome State Fault Refusal :=
  if ! cellIs c 0x3B then .fault .illFormed
  else if (s.link n).state = .up then .next (s.linkViolation n 1 c 0)
  else if (s.link n).state ≠ .ident then .next s
  else match s.identFault c with
    | some k => .next (s.linkViolation n k c 0)
    | none =>
      let r := s.localRx n c
      .next (if r.1 then r.2.takeIdent n c.payload else r.2)

/-! ## Link states -/

/-- TRAIN_COMPLETE (Table 05-6): every lane ready moves TRAIN or RETRAIN to IDENT, or DOWN with fewer than 4 lanes. -/
def execTrainComplete (n : LinkIx) (s : State) : Host.Outcome State Fault Refusal :=
  let x := s.link n
  let ready := (List.range 9).all fun k =>
    let st := (s.lane (9 * n.val + k)).state
    st == .active || st == .standby || st == .failed
  if (x.state = .train ∨ x.state = .retrain) ∧ ready then
    if (s.workingLanes n).length < 4 then .next (s.goDown n 3)
    else
      .next (s.setLink n { x with state := .ident, width := 3, form := 3, txPos := 0, txMsg := [], peerIdent := none, peerFinal := false
                                  identSent := 0, known := false, enteredAt := s.now, ctl := x.ctl.filter fun c => cellIs c 0x3E
                                  nonce := BitVec.ofNat 32 (s.freshVal 32) }).tookFree
  else .next s

/-- IDENT_LIMIT (R142, R143), in µs from the entry to IDENT. -/
def execIdentLimit (n : LinkIx) (s : State) : Host.Outcome State Fault Refusal :=
  let x := s.link n
  if x.state = .ident ∧ x.enteredAt + s.fld R.linkCfg2 8 8 * 1000 ≤ s.now then .next (s.failedAttempt n 5) else .next s

/-- RETRAIN_LIMIT (R142, R143), in units of 10 µs from the entry to RETRAIN. -/
def execRetrainLimit (n : LinkIx) (s : State) : Host.Outcome State Fault Refusal :=
  let x := s.link n
  if x.state = .retrain ∧ x.enteredAt + s.fld R.linkCfg2 0 8 * 10000 ≤ s.now then .next (s.failedAttempt n 0) else .next s

/-- Every mapped lane of a link brings a codeword, as the levels at its pins, that can be decoded (Table 05-6). -/
def State.goodWords (s : State) (n : Nat) (words : List (Fin 9 × BitVec 2720)) : Bool :=
  (s.mapped n).all fun k => words.any fun w => w.1.val == k && (rsDecode (fromPins (s.rxInvert (9 * n + k)) w.2)).isSome

/-- REALIGN_DONE (R121, R153): every mapped lane's burst has come, and the codewords of the mapped lanes are good. A skew beyond 4,096 UI
fails the realignment. -/
def execRealignDone (n : LinkIx) (words : List (Fin 9 × BitVec 2720)) (s : State) : Host.Outcome State Fault Refusal :=
  if (s.link n).state = .realign ∧ s.goodWords n words then
    match s.skewOf n (s.mapped n) with
    | none => .next s
    | some k =>
      if k ≤ 4096 then .next ((s.modLink n fun x => { x with state := .up }).showSkew n k) else .next (s.enterRetrain n 3)
  else .next s

/-- REALIGN_TIMEOUT (R153): 20 µs after the newest failure. -/
def execRealignTimeout (n : LinkIx) (s : State) : Host.Outcome State Fault Refusal :=
  let x := s.link n
  if x.state = .realign ∧ x.realignAt + 20000 ≤ s.now then .next (s.enterRetrain n 3) else .next s

/-- REPLAY_TIMEOUT (R137): resend the oldest unacknowledged cell, or RETRAIN once it was resent REPLAY_LIMIT times. -/
def execReplayTimeout (n : LinkIx) (s : State) : Host.Outcome State Fault Refusal :=
  let x := s.link n
  match x.state, x.replay with
  | .up, r :: rs =>
    if s.now < r.lastTx + s.fld R.linkCfg 0 8 * 100 then .next s
    else if s.fld R.linkCfg 24 8 ≤ r.resent then .next (s.enterRetrain n 4)
    else .next (s.setLink n { x with replay := { r with due := true, lastTx := s.now } :: rs })
  | _, _ => .next s

/-- ACK_DELAY (R138): an acknowledgement or freed count that has gone unreported for LINK_CFG.ACK_DELAY, in units of 20 ns, wakes an idle
transmitter, which sends an ACK. -/
def execAckDelay (n : LinkIx) (s : State) : Host.Outcome State Fault Refusal :=
  let x := s.link n
  match x.changedAt with
  | some t =>
    if x.state = .up ∧ s.linkQuiet n ∧ x.report ≠ x.reported ∧ t + s.fld R.linkCfg 16 8 * 20 ≤ s.now then
      .next ((s.leaveIdle n).sendFreed n 0x39)
    else .next s
  | none => .next s

/-! ## LINK_CTL and LINK_CONF -/

/-- A link may train: after the seal its role is not UNUSED (R21), before it lanes 0 to 7 hold a VALID entry (R144). -/
def State.mayTrain (s : State) (n : Nat) : Bool :=
  if s.isSealed then s.role n != 0
  else (List.range 8).all fun k => bit (s.reg (R.lane (9 * n + k) + 8)) 0

/-- What LINK_CTL.RESTART does: DOWN to TRAIN, where the link may train.
In any other state the request is dropped at once (DESIGN CHOICE, log entry 82). -/
def State.linkRestart (s : State) (n : Nat) : State :=
  if s.running ∧ (s.link n).state = .down ∧ s.mayTrain n then s.startTrain n else s

/-- What LINK_CTL.FORCE_DOWN does. -/
def State.linkForceDown (s : State) (n : Nat) : State := if s.running then s.goDown n 5 else s

/-- What LINK_CTL.CLEAR_RESTRICT does; the sixteenth violation of the same cycle wins. -/
def State.linkClearRestrict (s : State) (n : Nat) : State :=
  if s.running ∧ (s.link n).violAt ≠ some s.clk.count then s.restrictLink n 2 false else s

/-- LINK_CTL.RETRAIN (R142), from UP or REALIGN. -/
def execLinkRetrain (a : Source) (n : LinkIx) (s : State) : Host.Outcome State Fault Refusal :=
  .next (s.fmReg a (R.link n + 4) 1 fun t => t.linkAskRetrain n)

/-- LINK_CTL.RESTART (R142): DOWN to TRAIN. -/
def execRestart (a : Source) (n : LinkIx) (s : State) : Host.Outcome State Fault Refusal :=
  .next (s.fmReg a (R.link n + 4) 2 fun t => t.linkRestart n)

/-- LINK_CTL.FORCE_DOWN (R156). -/
def execForceDown (a : Source) (n : LinkIx) (s : State) : Host.Outcome State Fault Refusal :=
  .next (s.fmReg a (R.link n + 4) 4 fun t => t.linkForceDown n)

/-- LINK_CTL.CLEAR_RESTRICT (R155). -/
def execClearRestrict (a : Source) (n : LinkIx) (s : State) : Host.Outcome State Fault Refusal :=
  .next (s.fmReg a (R.link n + 4) 8 fun t => t.linkClearRestrict n)

/-- Begin a link's drain (R158). -/
def State.startDrain (s : State) (n : Nat) : State :=
  let x := s.link n
  if x.state = .disabled ∨ x.drainAt.isSome then s
  else s.setLink n { x with drainAt := some (s.now + s.timer 2 * 1000) }

/-- LINK_CONF with DISABLE = 1 (R158): no credit at once, and the drain begins. -/
def execLinkDisable (a : Source) (n : LinkIx) (value : Word) (s : State) : Host.Outcome State Fault Refusal :=
  .next (s.fmRw a (R.link n + 8) value fun t =>
    (t.setReg (R.link n + 8) (pack 32 [(0, 1, 1), (1, 1, bits value 1 1)])).startDrain n)

/-- LINK_CONF with DISABLE = 0 (R158): ends a drain, or starts TRAIN on a DISABLED link. -/
def execLinkEnable (a : Source) (n : LinkIx) (value : Word) (s : State) : Host.Outcome State Fault Refusal :=
  .next (s.fmRw a (R.link n + 8) value fun t =>
    let t1 := t.setReg (R.link n + 8) (pack 32 [(1, 1, bits value 1 1)])
    let x := t1.link n
    if x.state = .disabled then if t1.running && t1.mayTrain n then t1.startTrain n else t1
    else if t1.isSealed && t1.role n == 0 then t1
    else t1.setLink n { x with drainAt := none })

/-- LINK_DRAIN_DEADLINE (R158): the remaining cells complete ABORTED, DOWN cells are sent, the link is DISABLED. -/
def execLinkDrainDeadline (n : LinkIx) (s : State) : Host.Outcome State Fault Refusal :=
  let x := s.link n
  match x.drainAt with
  | none => .next s
  | some due =>
    if s.now < due then .next s
    else
      let s0 := ((x.txq ++ x.floods).foldl (fun e c => e.1.giveUpCell 5 27 n c true e.2) (s, ([] : List (Nat × Nat))))
      let s1 := (x.replay.foldl (fun e r => e.1.giveUpCell 5 27 n r.cell false e.2) s0).1
      let s2 := (s1.wakeLink n).modLink n fun y =>
        { y with state := .disabled, width := 0, txq := [], replay := [], held := [], floods := [], drainAt := none, ctl := s.downCells n 5 }
      let s3 := s2.lanesOff n
      .next (if x.state = .up then s3.leaveUp n else s3)

end Sys2Proof.Machine
end

