-- ==== Sys2Proof/Machine/Faults.lean ====
section
/-! DEFINITION. The fault collector (R469 to R482), the temperature sensors and the throttle (R515, R516), the
power-controller inputs (R541) and the gating of lane and link domains (R40 to R43). -/

namespace Sys2Proof.Machine

/-! ## Sources (R469 to R471, R529) -/

/-- The codes that have a source numbered 960 + code (Table 18-6). -/
def ownSourceCode (c : Nat) : Bool :=
  [16, 17, 18, 24, 40, 41, 44, 45, 46, 48, 49, 50, 51, 56, 57, 58, 60, 61, 62, 64, 65, 66, 67, 68, 72, 73, 74,
    112, 113, 115, 116, 117, 118].contains c

/-- The code of a source, and its unit where the number itself gives it (Table 18-6); `none` where reserved. -/
def sourceCode (src : Nat) : Option (Nat × Option Nat) :=
  if src < 256 then
    let k := src % 8
    if k < 4 then some (8 + k, some (src / 8)) else if k = 4 then some (2, some (src / 8)) else none
  else if src < 960 then
    let k := (src - 256) % 8
    if k < 6 then some (32 + k, some ((src - 256) / 8)) else none
  else if src < 1088 then
    if ownSourceCode (src - 960) then some (src - 960, none) else none
  else if src < 1120 then some (114, some (src - 1088))
  else if src < 1124 then some (114, some src)
  else none

/-- Raise RAIL_BREAK for a source (R470). -/
def State.railBreak (s : State) (src : Nat) : State :=
  ((s.bump R.railBreaks).setReg R.railLast (BitVec.ofNat 32 src)).raiseFault 1 src 1 src

/-- A pair has read equal three times in a row: while it does, the source counts as not asserting. -/
def State.pairBroken (s : State) (src : Nat) : State :=
  if s.arrayBit R.railState src then s
  else ((s.setArrayBit R.railState src true).setArrayBit R.srcAssert src false).railBreak src

/-- One equal reading of a source's pair. -/
def State.equalReading (s : State) (src : Nat) : State :=
  let n := tabGet 0 s.kpr.equalRun src + 1
  let t : State := { s with kpr := { s.kpr with equalRun := tabSet 0 s.kpr.equalRun src (min n 3) } }
  if n < 3 then t.setArrayBit R.srcAssert src false else (t.setArrayBit R.srcAssert src false).pairBroken src

/-- A reading of a pair whose rails differ. -/
def State.pairReads (s : State) (src : Nat) : State :=
  ({ s with kpr := { s.kpr with equalRun := tabErase s.kpr.equalRun src } } : State).setArrayBit R.railState src false

/-- RAIL_BREAK (R470): the third equal reading in a row. -/
def execRailBreak (src : Fin 2048) (s : State) : Host.Outcome State Fault Refusal :=
  match sourceCode src with
  | none => .next s
  | some _ => .next (({ s with kpr := { s.kpr with equalRun := tabSet 0 s.kpr.equalRun src 3 } } : State).pairBroken src)

/-- RAIL_TEST (R471): once in each 1 ms, both readings of the pair, bit 0 `t` and bit 1 `c`, must be the asserting levels. -/
def execRailTest (src : Fin 2048) (first second : BitVec 2) (s : State) : Host.Outcome State Fault Refusal :=
  let period := s.now / 1000000 + 1
  match sourceCode src with
  | none => .next s
  | some _ =>
    if tabGet 0 s.kpr.tested src = period then .next s
    else
      let s1 : State := { s with kpr := { s.kpr with tested := tabInsert s.kpr.tested src period } }
      .next (if first = 1 ∧ second = 1 then s1 else s1.railBreak src)

/-- The bits of a KPR_FAULT_ACTIVE word that W1C may clear: those of codes that are not FT and that no record has
set in this cycle (R475). -/
def State.clearable (s : State) (word : Nat) : Word :=
  pack 32 ((List.range 32).map fun b =>
    (b, 1, b2n (decide (s.classOf (32 * word + b) ≠ 2 ∧ tabFind s.kpr.activeAt (32 * word + b) ≠ some s.clk.count))))

/-- FAULT_ACTIVE_CLEAR (R475): W1C of the codes that are not FT, from a fabric manager. -/
def execFaultActiveClear (a : Source) (word : Fin 4) (value : Word) (s : State) : Host.Outcome State Fault Refusal :=
  let off := R.faultActive + 4 * word
  .next (s.fmWrite a off fun t => t.setReg off (t.reg off &&& ~~~ (value &&& t.clearable word)))

/-- POWER_FAIL_WARNING (R541). -/
def execPowerFailWarning (s : State) : Host.Outcome State Fault Refusal := .next (s.raiseFault 116 0xFFFF 1 0)

/-- REF_CLOCK_LOST (R546). -/
def execRefClockLost (s : State) : Host.Outcome State Fault Refusal := .next (s.raiseFault 113 0xFFFF 1 0)

/-! ## Temperature and throttle (R515, R516) -/

/-- A sensor reading in 1/16 °C. -/
def State.tempOf (s : State) (k : Nat) : Int := signedBits (s.reg (R.kprTemp + 4 * k)) 0 12

/-- The hottest sensor, the lowest-numbered among equals. -/
def State.hottest (s : State) : Nat :=
  (List.range 8).foldl (fun b k => if s.tempOf b < s.tempOf k then k else b) 0

/-- TEMP_SAMPLE (R515): the eight readings, once in each 10 µs; 125 °C or above raises THERMAL_TRIP. -/
def execTempSample (temps : Vector (BitVec 12) 8) (s : State) : Host.Outcome State Fault Refusal :=
  let period := s.now / 10000 + 1
  if s.kpr.tempAt = period then .next s else
  let s0 : State := { s with kpr := { s.kpr with tempAt := period } }
  let s1 := (List.range 8).foldl (fun t k =>
    t.setReg (R.kprTemp + 4 * k) (BitVec.ofNat 32 (temps.toList.getD k 0).toNat)) s0
  if 2000 ≤ s1.tempOf s1.hottest then .next (s1.raiseFault 115 0xFFFF 1 0) else .next s1

/-- THROTTLE_STEP (R516): one step of the level against THROTTLE_C and HYST: up 100 µs after the last step at the earliest, down 1 ms
after it. -/
def execThrottleStep (s : State) : Host.Outcome State Fault Refusal :=
  let h := s.tempOf s.hottest
  let c : Int := s.fld R.thermalCfg 0 8
  let y : Int := s.fld R.thermalCfg 8 4
  let l := s.kpr.level.toNat
  let up := decide (16 * c < h ∧ s.kpr.throttleAt + 100000 ≤ s.now)
  let down := decide (h < 16 * (c - y) ∧ s.kpr.throttleAt + 1000000 ≤ s.now)
  if up then .next { s with kpr := { s.kpr with level := BitVec.ofNat 3 (min 7 (l + 1)), throttleAt := s.now } }
  else if down then .next { s with kpr := { s.kpr with level := BitVec.ofNat 3 (l - 1), throttleAt := s.now } }
  else .next s

/-- SIDEBAND_INPUT (R492, R541): taken where the two samples agree; an invalid hold-up counts as 0. -/
def execSidebandInput (i : Sideband) (s : State) : Host.Outcome State Fault Refusal :=
  match i with
  | .holdup a b vld =>
    if a = b then .next (s.setReg R.holdup (pack 32 [(0, 16, if vld then a.toNat else 0), (16, 1, b2n vld)]))
    else .next s
  | .retained a b => if a = b then .next { s with kpr := { s.kpr with retained := a } } else .next s
  | .throttle a b => if a = b then .next { s with kpr := { s.kpr with levelAsked := a } } else .next s

/-! ## Gating (R40 to R43) -/

/-- HOLD_AWAKE of KPR_IDLE. It refuses new gating and wakes nothing (DESIGN CHOICE, log entry 84). -/
def State.holdAwake (s : State) : Bool := bit (s.reg R.kprIdle) 24

/-- A lane may enter gating (Table 02-6, R109): no cell to send for LANE_IDLE, in µs, the link UP, and its receiver in electrical
idle. -/
def State.laneMayGate (s : State) (l : Nat) : Bool :=
  let y := s.lane l
  let x := s.link (l / 9)
  let idle := s.fld R.kprIdle 0 8
  !s.holdAwake && idle != 0 && decide (x.state = .up) && !x.hasToSend && decide (x.lastSend + idle * 1000 ≤ s.now) && y.rxIdle &&
    decide (y.state = .active ∨ y.state = .standby)

/-- A link may enter gating (Table 02-6): its working lanes gated and idle for LINK_IDLE, in units of 10 µs, replay buffer and queues
empty. -/
def State.linkMayGate (s : State) (n : Nat) : Bool :=
  let x := s.link n
  let idle := s.fld R.kprIdle 8 8
  !s.holdAwake && idle != 0 && decide (x.state = .up) && x.replay.isEmpty && !x.hasToSend &&
    (s.workingLanes n).all fun k =>
      decide (s.domain (9 * n + k) = .gated) && decide ((s.lane (9 * n + k)).idleAt + idle * 10000 ≤ s.now)

/-- A lane's gate entry: a DOZE notice, then quiet. -/
def State.dozeLane (s : State) (l : Nat) : State :=
  s.modLane l fun y => { y with txIdle := true, sentNotice := 2, sentCount := 1, idleAt := if y.txIdle then y.idleAt else s.now }

/-- The end of a lane's gate entry: its clocks stop. -/
def State.gateLane (s : State) (l : Nat) : State :=
  let standby := decide ((s.lane l).state = .standby)
  ((s.setDomain l .gated).laneTo l .gated).modLane l fun y => { y with wasStandby := standby }

/-- A link's next SYNC exchange falls due within 2 µs (R41, R455). -/
def State.syncSoon (s : State) (n : Nat) : Bool := decide ((n * 3125 + 100000 - s.now % 100000) % 100000 ≤ 2000)

/-- SYNC_WAKE (R41): 2 µs before an exchange falls due, the gated link and its lanes wake. -/
def execSyncWake (n : LinkIx) (s : State) : Host.Outcome State Fault Refusal :=
  if s.running ∧ s.syncSoon n ∧ (s.domain (288 + n) ≠ .running ∨ (List.range 9).any fun k => s.domain (9 * n + k) != .running)
  then .next (s.wakeLink n) else .next s

end Sys2Proof.Machine
end

