-- ==== Sys2Proof/Machine/Keys.lean ====
section
/-! DEFINITION. Key slots (R433 to R436), their derived keys and IVs (R436, R440), the check of a chunk (R439 to R441)
and the security mailbox (R426 to R430). -/

namespace Sys2Proof.Machine

/-! ## Slots -/

/-- Replace the security engine's state. -/
def State.setSec (s : State) (x : Sec) : State := { s with sec := x }

/-- The index and the slot that holds a key. -/
def State.slotOf (s : State) (k : Nat) : Option (Nat × Slot) :=
  s.sec.slots.find? fun e => e.2.pkey == k && decide (e.2.state ≠ .empty)

/-- Set a slot by index; the state that it had when this cycle began is kept (R434). -/
def State.setSlot (s : State) (i : Nat) (x : Slot) : State :=
  let old := tabGet Slot.reset s.sec.slots i
  let was := if x.state = old.state ∨ old.was.1 = s.clk.count then old.was else (s.clk.count, old.state)
  s.setSec { s.sec with slots := tabSet Slot.reset s.sec.slots i { x with was := was } }

/-- A slot's state when the cycle of a clock count began (R434). -/
def Slot.stateAt (x : Slot) (count : Nat) : SlotState := if x.was.1 = count then x.was.2 else x.state

/-- A slot-state's code (Table 14-7). -/
def SlotState.code : SlotState → Nat
  | .empty => 0 | .awaiting => 1 | .opened => 2 | .review => 3 | .exhausted => 4

/-- New work of a key runs: key 0x0000, or a slot in OPEN as this cycle began (R433, R434). -/
def State.keyOpen (s : State) (k : Nat) : Bool :=
  k == 0 || match s.slotOf k with
    | some (_, x) => decide (x.stateAt s.clk.count = .opened)
    | none => false

/-- The key's slot has opened at some time (R438). -/
def State.keyEverOpen (s : State) (k : Nat) : Bool :=
  k == 0 || match s.slotOf k with
    | some (_, x) => x.everOpen
    | none => false

/-- The curtain of a key's slot is lowered (R489). -/
def State.curtainDown (s : State) (k : Nat) : Bool :=
  match s.slotOf k with
  | some (_, x) => x.lowered
  | none => false

/-- The lowest slot index not in use. -/
def freeSlotFrom (t : Tab Slot) : Nat → Nat → Nat
  | 0, i => i
  | n + 1, i => if (tabFind t i).isNone then i else freeSlotFrom t n (i + 1)

/-- Member `m` confirms a digest. -/
def Slot.confirms (x : Slot) (m : Nat) (d : BitVec 384) : Bool :=
  match tabFind x.shares m with
  | some h => h.confirmed.contains d
  | none => false

/-- Every member of `n` confirms a digest. -/
def Slot.allConfirm (x : Slot) (n : Nat) (d : BitVec 384) : Bool := (List.range n).all fun m => x.confirms m d

/-- A draw of the random generator. -/
def State.draw (s : State) : BitVec 384 := Config.drbg s.sec.draws

/-- Count a draw. -/
def State.drew (s : State) : State := s.setSec { s.sec with draws := s.sec.draws + 1 }

/-- The regions of a key whose wait for the slot ends: they zero, or are ready (R240). -/
def State.endKeyWait (s : State) (k : Nat) : State :=
  match s.plt.active with
  | none => s
  | some v =>
    let waits (r : Nat) : Bool := match v.region r with
      | some g => g.pkey == k
      | none => false
    let zero (r : Nat) : Bool := match v.region r with
      | some g => g.zero
      | none => false
    let ended := s.mem.keyWait.filter waits
    { s with mem := { s.mem with keyWait := s.mem.keyWait.filter fun r => ! waits r
                                 zeroing := s.mem.zeroing ++ ended.filter zero } }

/-- Open a slot: a new OPEN_ID, IV counters from 0, and at the first opening its regions' wait ends (R433, R440).
Nothing opens while RNG_OK is 0 (DEDUCED, log entry 118). -/
def State.openSlot (s : State) (i : Nat) (x : Slot) : State :=
  let y := { x with state := .opened, everOpen := true, openId := BitVec.ofNat 32 s.draw.toNat, counters := [], renewed := [], recSeq := 0 }
  let t := s.drew.setSlot i y
  if x.everOpen then t else t.endKeyWait x.pkey

/-- A held key's slot as a version becomes active (R433): created, opened, or put under review. None
with keys opens while the random generator has failed (R425). -/
def State.slotFollows (s : State) (old : Option PlateV) (v : PlateV) (k : Nat) : State :=
  let d := v.partDigest k
  let n := match v.part k with
    | some p => p.members
    | none => 0
  match s.slotOf k with
  | none =>
    let i := freeSlotFrom s.sec.slots 4096 0
    let x := { Slot.reset with pkey := k, state := .awaiting }
    if v.mode k = 0 then s.openSlot i x else s.setSlot i x
  | some (i, x) =>
    let changed := match old with
      | some o => o.partDigest k != d
      | none => true
    let y := { x with shares := x.shares.map fun e => (e.1, { e.2 with confirmed := e.2.confirmed.filter (· == d) }) }
    if v.mode k = 0 then s.setSlot i y
    else if x.state = .exhausted ∨ ! changed then s.setSlot i (if changed then y else x)
    else if y.allConfirm n d ∧ (x.state = .opened ∨ s.sec.rngOk) then
      if x.state = .opened then s.setSlot i y else s.openSlot i y
    else s.setSlot i { y with state := if x.state = .awaiting then .awaiting else .review }

/-- Every slot as a version becomes active at seal or flip. -/
def State.slotsFollow (s : State) (old : Option PlateV) (v : PlateV) : State :=
  ((v.bindings.filter fun b => b.node == s.nodeId).map fun b => b.pkey).foldl (fun t k => t.slotFollows old v k) s

/-- Erase the slots whose key the active version no longer holds (R435). -/
def State.slotsRelease (s : State) (v : PlateV) : State :=
  s.setSec { s.sec with slots := s.sec.slots.filter fun e => v.holds e.2.pkey s.nodeId }

/-- Erase the key store and the sessions (R435). -/
def State.eraseKeys (s : State) : State := s.setSec { s.sec with slots := [], sessions := [] }

/-! ## Derived keys (R436) -/

/-- The end of every salt: PKEY and GENERATION. -/
def saltEnd (pkey gen : Nat) : List Byte := natBytes pkey 2 ++ natBytes gen 4

/-- J: all members' shares in member order. -/
def Slot.root (x : Slot) (gen : Nat) : List Byte :=
  hkdfExtract (ascii "ZLJ1" ++ saltEnd x.pkey gen) (x.shares.flatMap fun e => toBytes e.2.secret 48)

/-- A key derived from J. -/
def Slot.keyOf (x : Slot) (gen : Nat) (info : String) (len : Nat) : List Byte := hkdfExpand (x.root gen) (ascii info) len

/-- C_m: member `m`'s contribution key. -/
def Slot.contribKey (x : Slot) (gen m : Nat) : List Byte :=
  let secret := ((tabFind x.shares m).map fun h => toBytes h.secret 48).getD []
  hkdfExpand (hkdfExtract (ascii "ZLC1" ++ saltEnd x.pkey gen) secret) (ascii "contrib") 32

/-- D: the distribution key. -/
def Slot.distKey (x : Slot) (gen : Nat) : List Byte :=
  let dist := (x.shares.head?.map fun e => toBytes e.2.dist 48).getD []
  hkdfExpand (hkdfExtract (ascii "ZLD1" ++ saltEnd x.pkey gen) dist) (ascii "dist") 32

/-- The GENERATION of a key in the active version. -/
def State.genOf (s : State) (k : Nat) : Nat :=
  match s.plt.active with
  | some v => ((v.part k).map fun p => p.gen).getD 0
  | none => 0

/-- The transport keys of Table 14-12: 0 K_link, 1 C_m, 2 D (R441's KEY_ID). -/
def State.transportKey (s : State) (pkey keyId member : Nat) : List Byte :=
  match s.slotOf pkey with
  | none => []
  | some (_, x) =>
    let g := s.genOf pkey
    match keyId with
    | 0 => x.keyOf g "link" 32
    | 1 => x.contribKey g member
    | _ => x.distKey g

/-- K_xts of a key. -/
def State.xtsKey (s : State) (pkey : Nat) : List Byte :=
  match s.slotOf pkey with
  | none => []
  | some (_, x) => x.keyOf (s.genOf pkey) "xts" 64

/-- K_rec of a key. -/
def State.recKey (s : State) (pkey : Nat) : List Byte :=
  match s.slotOf pkey with
  | none => []
  | some (_, x) => x.keyOf (s.genOf pkey) "rec" 48

/-- K_img of a key. -/
def State.imgKey (s : State) (pkey : Nat) : List Byte :=
  match s.slotOf pkey with
  | none => []
  | some (_, x) => x.keyOf (s.genOf pkey) "img" 32

/-- J_CHECK of a slot; 0 unless OPEN. -/
def State.jCheck (s : State) (x : Slot) : BitVec 128 :=
  if x.state = .opened then BitVec.ofNat 128 (ofBytes (x.keyOf (s.genOf x.pkey) "check" 16)) else 0

/-! ## IVs (R440) -/

/-- The IV of this node under a key of a slot, and the state after its counter advances by `chunks`; the counter at
2^48 − 1 exhausts the slot. -/
def State.takeIv (s : State) (pkey keyId chunks : Nat) : BitVec 96 × State :=
  match s.slotOf pkey with
  | none => (0, s)
  | some (i, x) =>
    let c := tabGet 0 x.counters keyId
    let iv := pack 96 [(0, 15, s.nodeId), (16, 48, c), (64, 32, x.openId.toNat)]
    let c1 := c + chunks
    let y := { x with counters := tabSet 0 x.counters keyId c1 }
    if 2 ^ 48 - 1 ≤ c1 ∧ x.state ≠ .exhausted then
      (iv, (s.setSlot i { y with state := .exhausted, renewed := [] }).raiseFault 67 i 1 0)
    else (iv, s.setSlot i y)

/-- The IV of chunk `q` of a message (R439). -/
def ivAdd (iv : BitVec 96) (q : Nat) : BitVec 96 := setBits iv 16 48 (bits iv 16 48 + q)

/-- The GCM additional data (R441). -/
def gcmAad (pkey keyId typ src tag time part : Nat) (mid : List Byte) (at22 at23 addr : Nat) : List Byte :=
  natBytes pkey 2 ++ natBytes keyId 1 ++ natBytes typ 1 ++ natBytes src 2 ++ natBytes tag 2 ++ natBytes time 4 ++
    natBytes part 4 ++ (mid ++ List.replicate (6 - mid.length) 0#8) ++ natBytes at22 1 ++ natBytes at23 1 ++
    natBytes addr 8

/-- How a chunk's check is made: CRC-64, or the GCM tag under a key with an IV and additional data. -/
inductive CheckBy where
  | crc
  | gcm (key : List Byte) (iv : BitVec 96) (aad : List Byte)
deriving DecidableEq, Repr

/-- The bytes as they travel, and their 16-byte check field. -/
def sealChunk (by0 : CheckBy) (pt : List Byte) : List Byte × BitVec 128 :=
  match by0 with
  | .crc => (pt, BitVec.ofNat 128 (crc64 pt))
  | .gcm key iv aad =>
    let r := gcmSeal key (toBytes iv 12) aad pt
    (r.1, BitVec.ofNat 128 (ofBytes r.2))

/-- The plaintext of received bytes; `none` where the check fails. -/
def openChunk (by0 : CheckBy) (ct : List Byte) (check : BitVec 128) : Option (List Byte) :=
  match by0 with
  | .crc => if crc64 ct = check.toNat % 2 ^ 64 then some ct else none
  | .gcm key iv aad => gcmOpen key (toBytes iv 12) aad ct (toBytes check 16)

/-- A failed GCM tag: counted and recorded (R441, R449). -/
def State.gcmFailed (s : State) (pkey : Nat) : State :=
  (s.bump (R.secCount 0)).raiseLimited 64 (((s.slotOf pkey).map fun e => e.1).getD 0xFFFF) 0

/-- A sealed head is stale (R443): its TIME lies more than FRESH behind. -/
def State.stale (s : State) (time : Nat) : Bool :=
  decide ((s.fld R.secCfg 16 10 * 1000 : Int) < signed32 (s.now % 2 ^ 32 + 2 ^ 32 - time % 2 ^ 32))

/-- A stale sealed head: counted and recorded (R443, R449). -/
def State.staleHead (s : State) (pkey : Nat) : State :=
  (s.bump (R.secCount 1)).raiseLimited 65 (((s.slotOf pkey).map fun e => e.1).getD 0xFFFF) 0

/-! ## The security mailbox (R426) -/

/-- `n` words of registers from an offset. -/
def State.regWords (s : State) (off n : Nat) : List Word := (List.range n).map fun i => s.reg (off + 4 * i)

/-- Write words to consecutive registers. -/
def State.setWords (s : State) (off : Nat) : List Word → State
  | [] => s
  | w :: ws => (s.setReg off w).setWords (off + 4) ws

/-- Little-endian words of a byte list. -/
def bytesWords : Nat → List Byte → List Word
  | 0, _ => []
  | n + 1, b => BitVec.ofNat 32 (ofBytes (b.take 4)) :: bytesWords n (b.drop 4)

/-- A little-endian field of a byte list. -/
def le (b : List Byte) (k n : Nat) : Nat := ofBytes ((b.drop k).take n)

/-- The message in a window's mailbox. -/
def State.mbxIn (s : State) (w n : Nat) : List Byte := (wordBytes (s.regWords (R.win w + R.mbxIn) ((n + 3) / 4))).take n

/-- Answer a window's message: a response of `n` bytes whose first 16 are the header, then DONE. -/
def State.mbxAnswer (s : State) (w typ seq n : Nat) (body : List Byte) : State :=
  let head := natBytes (typ + 0x8000) 2 ++ natBytes n 2 ++ natBytes seq 4 ++ List.replicate 8 0#8
  let all := (head ++ body ++ List.replicate n 0#8).take n
  (s.setWords (R.win w + R.mbxOut) (bytesWords (n / 4) all)).setWinReg w R.mbxStatus 2

/-- A message that sets SEC_MBX_STATUS.ERROR and draws no response. -/
def State.mbxError (s : State) (w e : Nat) : State := s.setWinReg w R.mbxStatus (pack 32 [(8, 8, e)])

/-- The types and lengths of requests (Table 14-2). -/
def mbxLength (typ : Nat) : Option Nat := [none, some 64, some 400, some 32, some 32, some 224, some 224].getD typ none

/-- Run a message of one type: outside RUN the GO is held for the wake (R509, R511); an unknown or other type is an ERROR of TYPE, a wrong LEN one of LENGTH. -/
def State.mbxRun (s : State) (w typ : Nat) (f : List Byte → State) : State :=
  if bit (s.winReg w R.mbxStatus) 0 then s
  else if s.kpr.power = .boot ∨ s.kpr.power = .failStop then s
  else if ! s.running then
    let s1 := { s with kpr := { s.kpr with heldGo := insertNat s.kpr.heldGo w } }
    s1.autoWake
  else
    let h := s.mbxIn w 16
    if le h 0 2 ≠ typ then s.mbxError w 2
    else if some (le h 2 2) ≠ mbxLength typ then s.mbxError w 1
    else f (s.mbxIn w (le h 2 2))

/-- An Alias signature over bytes, drawing a nonce. -/
def State.aliasSign (s : State) (m : List Byte) : List Byte × State :=
  (toBytes (ecdsaSign s.sec.aliasKey (sha384 m) s.draw.toNat) 96, s.drew)

/-- Bytes of a field are all 0. -/
def zeroBytes (b : List Byte) (k n : Nat) : Bool := le b k n == 0

/-- MEMBERS_IN: bit m where member m's share is held for the active version. -/
def State.membersIn (s : State) (x : Slot) : Nat :=
  match s.plt.active with
  | none => 0
  | some v =>
    let d := v.partDigest x.pkey
    (List.range 8).foldl (fun a m => a + b2n (x.confirms m d) * 2 ^ m) 0

/-- The Proof, the arithmetic signature and the PART_DIGEST of the active version, 0 where there is none. -/
def State.activeDigests (s : State) (pkey : Nat) : List Byte :=
  match s.plt.active with
  | none => List.replicate 144 0#8
  | some v => toBytes v.proof 48 ++ toBytes v.arithSig 48 ++ toBytes (v.partDigest pkey) 48

/-- A session number not in use, from a free start. -/
def freeSession (live : List Session) : Nat → Nat → Nat
  | 0, n => n % 65535 + 1
  | f + 1, n => if live.any fun x => x.number == n % 65535 + 1 then freeSession live f (n + 1) else n % 65535 + 1

/-- The sessions whose life has not passed. -/
def State.liveSessions (s : State) : List Session :=
  s.sec.sessions.filter fun x => decide (s.now < x.since + s.fld R.secCfg 0 10 * 1000000000)

/-- A new attestation session (R427): the seventeenth replaces the one created earliest. -/
def State.newSession (s : State) : Session × State :=
  let x : Session := { number := freeSession s.liveSessions 16 (s.freshVal 16), key := s.draw.toNat % (ecN - 1) + 1, since := s.now }
  let live := s.liveSessions
  let kept := if 16 ≤ live.length then live.drop 1 else live
  let t := s.tookFree.drew
  (x, t.setSec { t.sec with sessions := kept ++ [x] })

/-- The answer to an ATTEST_REQ (R427, Table 14-4). -/
def State.attest (s : State) (w : Nat) (m : List Byte) : State :=
  let pkey := le m 48 2
  let wants := bit (BitVec.ofNat 8 (le m 50 1)) 0
  let bad := ! zeroBytes m 8 8 || ! zeroBytes m 51 13 || decide (1 < le m 50 1)
  let slot := s.slotOf pkey
  let status := if bad then 1 else if wants && ! s.sec.rngOk then 12 else if slot.isNone then 3 else 0
  let make := wants && s.sec.rngOk && ! bad
  let r := s.newSession
  let s1 := if make then r.2 else s
  let known := match slot with
    | some (_, x) => [BitVec.ofNat 8 x.state.code, BitVec.ofNat 8 (s.membersIn x)]
    | none => [0#8, 0#8]
  let digests := if slot.isSome then s.activeDigests pkey else (s.activeDigests pkey).take 96 ++ List.replicate 48 0#8
  let body := ((m.drop 16).take 32) ++ toBytes (s.reg R.kprId) 4 ++ natBytes s.nodeId 2 ++ natBytes pkey 2 ++
    natBytes status 1 ++ known ++ [0#8] ++ natBytes (if make then r.1.number else 0) 2 ++ natBytes 0 2 ++
    natBytes s.now 8 ++ natBytes ((s.plt.active.map fun v => v.state.toNat).getD 0) 4 ++ natBytes 0 4 ++ digests ++
    (if make then toBytes (ecPublic r.1.key) 96 else List.replicate 96 0#8) ++ wordBytes (s.regWords R.fwMeas 12)
  let head := natBytes 0x8001 2 ++ natBytes 464 2 ++ natBytes (le m 4 4) 4 ++ List.replicate 8 0#8
  let sg := s1.aliasSign (head ++ body)
  sg.2.mbxAnswer w 1 (le m 4 4) 464 (body ++ sg.1)

/-- ATTEST_REQ (R427). -/
def execAttestReq (w : Win) (s : State) : Host.Outcome State Fault Refusal := .next (s.mbxRun w 1 (s.attest w))

/-- Two DIST_SECRETs or SHARE_SECRETs as unwrapped from a SHARE (R428). -/
def State.unwrapShare (s : State) (m : List Byte) : Option (BitVec 384 × BitVec 384) :=
  match s.liveSessions.find? fun x => x.number == le m 20 2 with
  | none => none
  | some x =>
    let peer : BitVec 768 := BitVec.ofNat 768 (le m 80 96)
    match ecdhX x.key peer with
    | none => none
    | some ikm =>
      let salt := ascii "ZLW1" ++ toBytes (ecPublic x.key) 96
      let kw := hkdfExpand (hkdfExtract salt ikm) (ascii "wrap" ++ natBytes (le m 16 2) 2 ++ natBytes (le m 18 1) 1) 32
      match gcmOpen kw ((m.drop 176).take 12) (m.take 176) ((m.drop 192).take 96) ((m.drop 288).take 16) with
      | none => none
      | some pt => some (BitVec.ofNat 384 (le pt 0 48), BitVec.ofNat 384 (le pt 48 48))

/-- The version, active or armed, whose GENERATION and PART_DIGEST a SHARE names (R429). -/
def State.sharedVersion (s : State) (m : List Byte) : Option PlateV :=
  let armed := if s.plt.armed then s.plt.standby.toList else []
  (s.plt.active.toList ++ armed).find? fun v =>
    match v.part (le m 16 2) with
    | some p => p.gen == le m 24 4 && (v.partDigest (le m 16 2)).toNat == le m 32 48
    | none => false

/-- Take a share that passed every check: held, confirming its version; the slot opens when every member confirms the
active version, and an EXHAUSTED slot when every member has imported again (R429, R434). -/
def State.takeShare (s : State) (i : Nat) (x : Slot) (mem n : Nat) (sh : BitVec 384 × BitVec 384) (d : BitVec 384) : State :=
  let old := ((tabFind x.shares mem).map fun h => h.confirmed).getD []
  let h : Share := { secret := sh.1, dist := sh.2, confirmed := if old.contains d then old else old ++ [d] }
  let y := { x with shares := tabInsert x.shares mem h
                    renewed := if x.state = .exhausted ∧ ¬ x.renewed.contains mem then x.renewed ++ [mem] else x.renewed }
  let dNow := (s.plt.active.map fun v => v.partDigest x.pkey).getD 0
  if x.state = .exhausted then
    if (List.range n).all y.renewed.contains then s.openSlot i y else s.setSlot i y
  else if (x.state = .awaiting ∨ x.state = .review) ∧ y.allConfirm n dNow then s.openSlot i y
  else s.setSlot i y

/-- The checks of Table 14-6 in order, and the state after the import. -/
def State.importShare (s : State) (m : List Byte) : Nat × State :=
  let pkey := le m 16 2
  let mem := le m 18 1
  if ! (zeroBytes m 8 8 && zeroBytes m 19 1 && zeroBytes m 22 2 && zeroBytes m 28 4 && zeroBytes m 188 4) then (1, s)
  else if ! s.sec.rngOk then (12, s)
  else if ! s.liveSessions.any fun x => x.number == le m 20 2 then (2, s)
  else match s.slotOf pkey, s.plt.active with
    | some (i, x), some va =>
      let n := ((va.part pkey).map fun p => p.members).getD 0
      let mode := va.mode pkey
      if mode = 0 then (3, s)
      else if n ≤ mem then (9, s)
      else match s.sharedVersion m with
        | none => (4, s)
        | some v =>
          match v.part pkey with
          | none => (4, s)
          | some p =>
            if ! ecdsaVerify (v.memberKey p mem) (sha384 (m.take 304)) (BitVec.ofNat 768 (le m 304 96)) then (5, s)
            else match s.unwrapShare m with
              | none => (6, s)
              | some sh =>
                let held := tabFind x.shares mem
                let differs := match held with
                  | some h => h.secret != sh.1 || (mode == 2 && h.dist != sh.2)
                  | none => false
                let distDiffers := mode == 2 && x.shares.any fun e => e.1 != mem && e.2.dist != sh.2
                if differs then (8, s)
                else if distDiffers then (7, s.raiseFault 66 i 1 0)
                else (0, s.takeShare i x mem p.members sh (v.partDigest pkey))
    | _, _ => (3, s)

/-- SHARE (R428, R429): import, or a refusal that changes nothing; the answer is Table 14-8. -/
def execShare (w : Win) (s : State) : Host.Outcome State Fault Refusal :=
  .next (s.mbxRun w 2 fun m =>
    let r := s.importShare m
    let s1 := if r.1 = 0 then r.2 else r.2.bump (R.secCount 2)
    let pkey := le m 16 2
    let slot := s1.slotOf pkey
    let known := match slot with
      | some (_, x) => natBytes x.state.code 1 ++ natBytes (s1.membersIn x) 1
      | none => natBytes 0 2
    let check := match slot with
      | some (_, x) => toBytes (s1.jCheck x) 16
      | none => List.replicate 16 0#8
    let body := natBytes r.1 1 ++ known ++ natBytes (le m 18 1) 1 ++ natBytes pkey 2 ++ natBytes 0 2 ++ check ++
      natBytes s1.now 8 ++ toBytes (sha384 m) 48
    let head := natBytes 0x8002 2 ++ natBytes 192 2 ++ natBytes (le m 4 4) 4 ++ List.replicate 8 0#8
    let sg := s1.aliasSign (head ++ body)
    sg.2.mbxAnswer w 2 (le m 4 4) 192 (body ++ sg.1))

/-- CERT_REQ (R426): the Alias certificate from byte 20. -/
def execCertReq (w : Win) (s : State) : Host.Outcome State Fault Refusal :=
  .next (s.mbxRun w 3 fun m =>
    let pub : BitVec 768 := BitVec.ofNat 768 (ofBytes (wordBytes (s.regWords R.aliasPub 24)))
    let meas : BitVec 384 := BitVec.ofNat 384 (ofBytes (wordBytes (s.regWords R.fwMeas 12)))
    let der := (Config.aliasCert pub meas).take 2044
    s.mbxAnswer w 3 (le m 4 4) 2064 (natBytes 0 2 ++ natBytes der.length 2 ++ der))

/-- RECORD_GET (R448): a record of the ring by key and SEQ, all-ones for the latest. -/
def execRecordGet (w : Win) (s : State) : Host.Outcome State Fault Refusal :=
  .next (s.mbxRun w 4 fun m =>
    let pkey := le m 16 2
    let seq := le m 24 8
    let mine := s.sec.records.filter fun r => bytesAt r 12 2 == pkey
    let found := if seq = 2 ^ 64 - 1 then mine.head? else mine.find? fun r => bytesAt r 16 8 == seq
    match found with
    | some r => s.mbxAnswer w 4 (le m 4 4) 1088 (List.replicate 48 0#8 ++ toBytes r 1024)
    | none => s.mbxAnswer w 4 (le m 4 4) 1088 (natBytes 10 1))

/-! ## Fuses (R430) -/

/-- An empty signer slot. -/
def signerBlank : Signer := { cut := false, enrolled := false, revoked := false, key := 0 }

/-- A signer slot. -/
def State.signer (s : State) (k : Nat) : Signer := tabGet signerBlank s.fuses k

/-- Start a fuse write: FUSE_BUSY, and the window stays BUSY until it ends. Log entry 119 (DEDUCED). -/
def State.startFuse (s : State) (w : Nat) (f : FuseWrite) : State :=
  (s.setSec { s.sec with fuse := some f }).setWinReg w R.mbxStatus 1

/-- ENROL (R430). -/
def execEnrol (w : Win) (s : State) : Host.Outcome State Fault Refusal :=
  .next (s.mbxRun w 5 fun m =>
    let k := le m 16 1
    let key : BitVec 768 := BitVec.ofNat 768 (le m 32 96)
    let sig : BitVec 768 := BitVec.ofNat 768 (le m 128 96)
    let root := s.signer 0
    let by0 := if k = 0 then key else root.key
    if 4 ≤ k ∨ s.sec.fuse.isSome ∨ (s.signer k).enrolled ∨ (s.signer k).cut ∨ (k ≠ 0 ∧ (! root.enrolled ∨ root.revoked)) then
      s.mbxAnswer w 5 (le m 4 4) 32 (natBytes 11 1)
    else if ! ecdsaVerify by0 (sha384 (m.take 128)) sig then s.mbxAnswer w 5 (le m 4 4) 32 (natBytes 5 1)
    else s.startFuse w { window := w, slot := k, key := key, revoke := false })

/-- REVOKE (R430): slots 1 to 3, signed by the slot 0 key and naming the slot's current key. -/
def execRevoke (w : Win) (s : State) : Host.Outcome State Fault Refusal :=
  .next (s.mbxRun w 6 fun m =>
    let k := le m 16 1
    let key : BitVec 768 := BitVec.ofNat 768 (le m 32 96)
    let sig : BitVec 768 := BitVec.ofNat 768 (le m 128 96)
    let x := s.signer k
    if k = 0 ∨ 4 ≤ k ∨ s.sec.fuse.isSome ∨ ! x.enrolled ∨ x.revoked ∨ x.key ≠ key then
      s.mbxAnswer w 6 (le m 4 4) 32 (natBytes 11 1)
    else if ! ecdsaVerify (s.signer 0).key (sha384 (m.take 128)) sig then s.mbxAnswer w 6 (le m 4 4) 32 (natBytes 5 1)
    else s.startFuse w { window := w, slot := k, key := key, revoke := true })

/-- The end of a fuse write: the fuses programmed, ENROLLED last, and the window answered OK. -/
def State.finishFuse (s : State) (f : FuseWrite) : State :=
  let old := s.signer f.slot
  let new :=
    if f.revoke then { old with revoked := true }
    else if old.enrolled then old
    else { old with cut := false, enrolled := true, key := f.key }
  let typ := if f.revoke then 6 else 5
  let seq := le (s.mbxIn f.window 16) 4 4
  (({ s with fuses := tabInsert s.fuses f.slot new }).setSec { s.sec with fuse := none }).mbxAnswer f.window typ seq 32
    (natBytes 0 1)

/-- SESSION_EXPIRE (R427): the session's life has passed. -/
def execSessionExpire (x : Fin 16) (s : State) : Host.Outcome State Fault Refusal :=
  match s.sec.sessions.drop x with
  | [] => .next s
  | y :: _ =>
    if y.since + s.fld R.secCfg 0 10 * 1000000000 ≤ s.now then
      .next (s.setSec { s.sec with sessions := s.sec.sessions.filter fun z => z.number != y.number })
    else .next s

/-- RNG_HEALTH_FAIL (R425). -/
def execRngHealthFail (s : State) : Host.Outcome State Fault Refusal :=
  .next ((s.setSec { s.sec with rngOk := false }).raiseFault 68 0xFFFF 1 0)

end Sys2Proof.Machine
end

