-- ==== Sys2Proof/Machine/MemOps.lean ====
section
/-! DEFINITION. Pool memory (R231 to R251): the byte store in canonical form, lines with their poison and encryption at
rest, the checks of a request, and the channel queues. -/

namespace Sys2Proof.Machine

/-! ## The byte store -/

/-- What a byte of pool memory that nothing has written reads as (DESIGN CHOICE, see the log). -/
def unwritten : Byte := 0

/-- The byte at an address. -/
def Memory.get : List Host.Cell → Nat → Byte
  | [], _ => unwritten
  | (b, v) :: t, a => if b = a then v else if a < b then unwritten else Memory.get t a

/-- Remove an address. -/
def Memory.erase : List Host.Cell → Nat → List Host.Cell
  | [], _ => []
  | (b, v) :: t, a => if b = a then t else if a < b then (b, v) :: t else (b, v) :: Memory.erase t a

/-- Insert or replace an address, keeping the addresses rising. -/
def Memory.insert : List Host.Cell → Nat → Byte → List Host.Cell
  | [], a, v => [(a, v)]
  | (b, u) :: t, a, v =>
    if a < b then (a, v) :: (b, u) :: t
    else if a = b then (a, v) :: t
    else (b, u) :: Memory.insert t a v

/-- Write one byte; writing what an unlisted address reads as removes the entry. -/
def Memory.set (m : List Host.Cell) (a : Nat) (v : Byte) : List Host.Cell :=
  if v = unwritten then Memory.erase m a else Memory.insert m a v

/-- Every address of a list is above `a`, addresses rise, and no entry holds the unwritten value. -/
def Memory.above : Nat → List Host.Cell → Bool
  | _, [] => true
  | a, (b, v) :: t => decide (a < b) && decide (v ≠ unwritten) && Memory.above b t

/-- The canonical form of memory. -/
def Memory.wf : List Host.Cell → Bool
  | [] => true
  | (b, v) :: t => decide (v ≠ unwritten) && Memory.above b t

/-- Write consecutive bytes. -/
def Memory.setBytes (m : List Host.Cell) : Nat → List Byte → List Host.Cell
  | _, [] => m
  | a, v :: vs => Memory.setBytes (Memory.set m a v) (a + 1) vs

/-- Read consecutive bytes. -/
def Memory.bytes (m : List Host.Cell) (a n : Nat) : List Byte := (List.range n).map fun i => Memory.get m (a + i)

/-! ## Lines as stored -/

/-- A line as its controller holds it. -/
def State.rawLine (s : State) (key : Nat) : Line := BitVec.ofNat 512 (ofBytes (Memory.bytes s.memory (64 * key) 64))

/-- Store a line as it is. -/
def State.setRawLine (s : State) (key : Nat) (l : Line) : State :=
  { s with memory := Memory.setBytes s.memory (64 * key) (toBytes l 64) }

/-- The line is poisoned (R250). -/
def State.poisoned (s : State) (key : Nat) : Bool := s.mem.poisoned.contains key

/-- Poison a line, or clear its poison by a whole-line write. -/
def State.setPoison (s : State) (key : Nat) (b : Bool) : State :=
  let rest := s.mem.poisoned.filter fun x => x != key
  { s with mem := { s.mem with poisoned := if b then key :: rest else rest } }

/-- The memory code of a stored line (R245). -/
def memoryCode (l : Line) (key : Nat) : Nat :=
  crc16Train (toBytes l 64 ++ natBytes (key % 2 ^ 37) 5 ++ natBytes (b2n (decide (2 ^ 37 ≤ key))) 1)

/-! ## Addresses and regions -/

/-- The region number and the offset of a pool address (R200). -/
def regionOf (addr : Nat) : Nat := addr / 2 ^ 40 % 65536
def offsetOf (addr : Nat) : Nat := addr % 2 ^ 40

/-- The XTS tweak of a line (R437). -/
def xtsTweak (r off : Nat) : Nat := r * 2 ^ 34 + off / 64

/-- The plaintext of the line of a region that holds an offset (R37, R437). -/
def State.readLine (s : State) (v : PlateV) (g : Region) (off : Nat) : Line :=
  let l := s.rawLine (v.lineAt g.num off)
  if g.xts then xtsDecrypt (s.xtsKey g.pkey) (xtsTweak g.num off) l else l

/-- Write a whole line of plaintext, clearing its poison. -/
def State.writeLine (s : State) (v : PlateV) (g : Region) (off : Nat) (l : Line) : State :=
  let key := v.lineAt g.num off
  (s.setRawLine key (if g.xts then xtsEncrypt (s.xtsKey g.pkey) (xtsTweak g.num off) l else l)).setPoison key false

/-- Bytes `k` to `k + m - 1` of a line replaced. -/
def mergeLine (l : Line) (k : Nat) (d : List Byte) : Line := setBits l (8 * k) (8 * d.length) (ofBytes d)

/-- `n` bytes of a region from an offset, line by line; `fuel` bounds the lines. -/
def State.readFrom (s : State) (v : PlateV) (g : Region) : Nat → Nat → Nat → List Byte
  | 0, _, _ => []
  | f + 1, off, n =>
    if n = 0 then []
    else
      let k := off % 64
      let m := min n (64 - k)
      ((toBytes (s.readLine v g off) 64).drop k).take m ++ s.readFrom v g f (off + m) (n - m)

/-- `n` bytes of a region from an offset. -/
def State.readBytes (s : State) (v : PlateV) (g : Region) (off n : Nat) : List Byte := s.readFrom v g (n / 64 + 2) off n

/-- Write bytes to a region; a partial line that is poisoned stays unchanged (Table 08-3). -/
def State.writeFrom (v : PlateV) (g : Region) : Nat → Nat → List Byte → State → State
  | 0, _, _, s => s
  | f + 1, off, d, s =>
    if d.isEmpty then s
    else
      let k := off % 64
      let m := min d.length (64 - k)
      let key := v.lineAt g.num off
      let part := d.take m
      let s1 :=
        if m = 64 then s.writeLine v g off (BitVec.ofNat 512 (ofBytes part))
        else if s.poisoned key then s
        else s.writeLine v g off (mergeLine (s.readLine v g off) k part)
      State.writeFrom v g f (off + m) (d.drop m) s1

/-- Write bytes to a region. -/
def State.writeBytes (s : State) (v : PlateV) (g : Region) (off : Nat) (d : List Byte) : State :=
  State.writeFrom v g (d.length / 64 + 2) off d s

/-- The offsets of the lines that a byte range touches. -/
def linesOf (off n : Nat) : List Nat :=
  if n = 0 then [] else (List.range ((off + n - 1) / 64 + 1 - off / 64)).map fun i => (off / 64 + i) * 64

/-- A line of the range that is poisoned. -/
def State.rangePoisoned (s : State) (v : PlateV) (g : Region) (off n : Nat) : Bool :=
  (linesOf off n).any fun o => s.poisoned (v.lineAt g.num o)

/-- A line that the range covers only in part. -/
def partialLine (off n o : Nat) : Bool := decide (o < off ∨ off + n < o + 64)

/-! ## Checks of a request (R206, R242, R445, R490) -/

/-- The region of an address for a key, or why the request is refused (R206). -/
def PlateV.findRegion (v : PlateV) (pkey addr n : Nat) : Except Answer Region :=
  match v.region (regionOf addr) with
  | none => .error ⟨9, 17⟩
  | some g =>
    if g.pkey ≠ pkey then .error ⟨9, 17⟩
    else if g.size * extentBytes < offsetOf addr + n then .error ⟨9, 18⟩
    else .ok g

/-- The state of a region beyond R206: the curtain, READ_ONLY, ZEROING and UNVERIFIED. -/
def State.regionAnswer (s : State) (g : Region) (wr : Bool) : Option Answer :=
  if s.curtainDown g.pkey then some ⟨7, 64⟩
  else if wr && g.readOnly then some ⟨9, 34⟩
  else if s.mem.keyWait.contains g.num then some ⟨9, 58⟩
  else if s.mem.zeroing.contains g.num then some ⟨12, 33⟩
  else if s.mem.unverified.contains g.num then some ⟨9, 61⟩
  else none

/-! ## Channels (R243, R252) -/

/-- A port of the active layout. -/
def State.portUsed (s : State) (p : Nat) : Bool :=
  match s.plt.active with
  | some v => (usedPorts (v.body 0x104)).contains p
  | none => false

/-- A channel's state code (Table 08-4): 0 UNUSED, 1 READY, 2 HOLD, 3 FAILED. -/
def State.chanState (s : State) (p : Nat) : Nat :=
  if ! s.portUsed p then 0 else if (s.chan p).failed then 3 else if (s.chan p).ready then 1 else 2

/-- Lines of a region touch a FAILED channel. -/
def State.channelFailed (s : State) (v : PlateV) (g : Region) (offs : List Nat) : Bool :=
  offs.any fun o => (s.chan (v.portOf (v.lineAt g.num o))).failed

/-- The answer of a full or a failed channel for the lines of a request (R51, R252). A full queue is looked at first (DEDUCED, log entry 107). -/
def State.channelAnswer (s : State) (v : PlateV) (g : Region) (offs : List Nat) : Option Answer :=
  if offs.any fun o => decide (256 ≤ (s.chan (v.portOf (v.lineAt g.num o))).queue.length) then some ⟨12, 21⟩
  else if s.channelFailed v g offs then some ⟨8, 32⟩
  else none

/-! ## Queues of line requests (R243) -/

/-- A request enters a queue of 256, or waits for a place in it. Lines beyond 256 wait behind the queue (DESIGN CHOICE, log entry 96). -/
def Chan.enter (c : Chan) (r : LineReq) : Chan :=
  if c.waiting.isEmpty ∧ c.queue.length < 256 then { c with queue := c.queue ++ [r] } else { c with waiting := c.waiting ++ [r] }

/-- Requests that wait take the free places of a queue. -/
def Chan.refill (c : Chan) : Chan :=
  { c with queue := c.queue ++ c.waiting.take (256 - c.queue.length), waiting := c.waiting.drop (256 - c.queue.length) }

/-- A request that goes on comes back to the front: a second read, or the merged write of a locked read. -/
def Chan.front (c : Chan) (r : LineReq) : Chan :=
  { c with queue := (r :: c.queue).take 256, waiting := (r :: c.queue).drop 256 ++ c.waiting }

/-- Requests queued or waiting. -/
def Chan.all (c : Chan) : List LineReq := c.queue ++ c.waiting

/-- A request of one kind for a line, with nobody waiting for it. -/
def bareLine (key : Nat) (kind : LineKind) (data : Line) : LineReq :=
  { line := key, kind := kind, second := false, job := none, size := 64, data := data, host := none }

/-- A write enters a queue: a heal of its line that has not been issued is cancelled (R249). -/
def State.cancelHeal (s : State) (p key : Nat) : State :=
  let c := s.chan p
  let heals (r : LineReq) : Bool := decide (r.kind = .heal) && r.line == key
  if c.all.any heals then
    (s.setChan p ({ c with queue := c.queue.filter fun r => !heals r, waiting := c.waiting.filter fun r => !heals r } : Chan).refill).bump
      (R.memCount 3)
  else s

/-! ## Work under way (R212, R213, R247, R253) -/

/-- Change the work under a number. -/
def State.modJob (s : State) (n : Nat) (f : Job → Job) : State :=
  match tabFind s.xfr.jobs n with
  | some j => { s with xfr := { s.xfr with jobs := tabInsert s.xfr.jobs n (f j) } }
  | none => s

/-- Change the work that line requests are made for, if there is any. -/
def State.forJob (s : State) (job : Option Nat) (f : Job → Job) : State :=
  match job with
  | some n => s.modJob n f
  | none => s

/-- Drop the work under a number: what its lines answer then concerns nobody. -/
def State.dropJob (s : State) (n : Nat) : State := { s with xfr := { s.xfr with jobs := tabErase s.xfr.jobs n } }

/-- Work begins: its number, and the state after. -/
def State.newJob (s : State) (use : JobUse) (closed : Bool) : Nat × State :=
  let j : Job := { use := use, closed := closed, left := 0, bad := none, short := 0, unknown := false, got := [] }
  (s.xfr.execNo, { s with xfr := { s.xfr with execNo := s.xfr.execNo + 1, jobs := tabInsert s.xfr.jobs s.xfr.execNo j } })

/-- A line left the work unapplied, for a reason: its bytes count as short. -/
def Job.spoil (j : Job) (reason n : Nat) : Job := { j with bad := some (j.bad.getD reason), short := j.short + n }

/-- A line request of the work is answered. -/
def State.lineDone (s : State) (r : LineReq) (f : Job → Job) : State :=
  s.forJob r.job fun j => f { j with left := j.left - 1 }

/-- Put a line request into its channel's queue, for work that covers `size` bytes of the line; a write carries the line as stored. -/
def State.queueLine (s : State) (v : PlateV) (key : Nat) (kind : LineKind) (job : Option Nat) (size : Nat) : State :=
  let p := v.portOf key
  let s1 := if kind = .read then s else s.cancelHeal p key
  let c := s1.chan p
  let held := c.locks.contains key || c.all.any fun r => decide (r.kind = .lockedRead) && r.line == key
  let r : LineReq := { bareLine key kind (if kind = .read then 0 else s1.rawLine key) with job := job, size := size }
  let s2 := (s1.setChan p (c.enter r)).forJob job fun j => { j with left := j.left + 1 }
  if held then s2.bump (R.memCount 6) else s2

/-- The part of a line, at offset `o`, that a range covers: its first byte within the range and its length. -/
def lineSpan (off n o : Nat) : Nat × Nat :=
  let a := max off o
  (a - off, min (off + n) (o + 64) - a)

/-- Queue the reads of a range. -/
def State.queueReads (s : State) (v : PlateV) (g : Region) (off n : Nat) (job : Option Nat) : State :=
  (linesOf off n).foldl (fun t o => t.queueLine v (v.lineAt g.num o) .read job (lineSpan off n o).2) s

/-- Queue the write of one line of a range that is written whole or merged (R247); a poisoned line covered in part stays unchanged. -/
def State.queueWrite (s : State) (v : PlateV) (g : Region) (off n : Nat) (job : Option Nat) (o : Nat) : State :=
  let key := v.lineAt g.num o
  if partialLine off n o then
    if s.poisoned key then s.forJob job fun j => j.spoil 31 (lineSpan off n o).2
    else s.queueLine v key .lockedRead job (lineSpan off n o).2
  else s.queueLine v key .write job 64

/-- Queue the writes of a range. -/
def State.queueWrites (s : State) (v : PlateV) (g : Region) (off n : Nat) (job : Option Nat) : State :=
  (linesOf off n).foldl (fun t o => t.queueWrite v g off n job o) s

/-- The plaintext bytes of a range, from the lines that its reads returned. -/
def State.gotBytes (s : State) (v : PlateV) (g : Region) (off n : Nat) (got : Tab Line) : List Byte :=
  let line (o : Nat) : List Byte :=
    let key := v.lineAt g.num o
    let l := (tabFind got key).getD (s.rawLine key)
    toBytes (if g.xts then xtsDecrypt (s.xtsKey g.pkey) (xtsTweak g.num o) l else l) 64
  (((linesOf off n).flatMap line).drop (off % 64)).take n

/-- The bytes queued for far-tier channels' writes (R493). -/
def State.farQueued (s : State) : Nat :=
  64 * ((List.range 24).map fun j =>
    ((s.chan (64 + j)).all.filter fun r => decide (r.kind = .write ∨ r.kind = .lockedRead ∨ r.kind = .mergedWrite)).length).sum

end Sys2Proof.Machine
end

