-- ==== Sys2Proof/Machine/Desc.lean ====
section
/-! DEFINITION. Operation descriptors (Table 07-1), ranks (R202 to R205), the Prompter's counters (R257 to R261), completion
queues and completion records (R220, R221), and the checks at issue that every opcode shares (Table 07-5). -/

namespace Sys2Proof.Machine

/-! ## Fields (Tables 07-1 to 07-3) -/

def dOp (d : Line) : Nat := bytesAt d 0 1
def dFlag (d : Line) (k : Nat) : Bool := bit d (8 + k)
def dPart (d : Line) : Nat := bytesAt d 2 2
def dRank (d : Line) : Nat := bytesAt d 4 2
def dCq (d : Line) : Nat := bytesAt d 6 2
def dSrc (d : Line) : Nat := bytesAt d 8 8
def dDst (d : Line) : Nat := bytesAt d 16 8
def dLen (d : Line) : Nat := bytesAt d 24 5
def dFormat (d : Line) : Nat := bytesAt d 29 1
def dMod (d : Line) : Nat := bytesAt d 30 2
def dWaitCtr (d : Line) : Nat := bytesAt d 32 2
def dFireCtr (d : Line) : Nat := bytesAt d 34 2
def dThreshold (d : Line) : Nat := bytesAt d 36 4
def dIncrement (d : Line) : Nat := bytesAt d 40 4
def dSwTag (d : Line) : Nat := bytesAt d 44 2
def dCueId (d : Line) : Nat := bytesAt d 46 2
/-- The field of `n` bytes at byte `k` of ARGS. -/
def dArg (d : Line) (k n : Nat) : Nat := bytesAt d (48 + k) n

/-- The request flags (Table 07-2). -/
def dOrdered (d : Line) : Bool := dFlag d 0 || dOp d == 0x03
def dFence (d : Line) : Bool := dFlag d 1
def dWait (d : Line) : Bool := dFlag d 2
def dFire (d : Line) : Bool := dFlag d 3
def dQuiet (d : Line) : Bool := dFlag d 4
def dAlt (d : Line) : Bool := dFlag d 5
/-- The ordering flow of MODIFIER. -/
def dFlow (d : Line) : Nat := dMod d % 4096

/-- Bytes 6 and 7: no record, the seat, or a completion queue. -/
def dNoRecord (d : Line) : Bool := dCq d == 0xFFFF
def dSeatQ (d : Line) : Bool := !dNoRecord d && bit d 63
def dQueue (d : Line) : Nat := dCq d % 256

/-- SEAT_MEM of an address, and a malformed address (R200). -/
def seatMem (a : Nat) : Bool := a / 2 ^ 63 % 2 == 1
def badAddress (a : Nat) : Bool := !seatMem a && a / 2 ^ 56 % 128 != 0

/-- A submitter's number: a window's own, a seat's plus 16. -/
def whoIdx : Submitter → Nat
  | .window w => w
  | .seat k => 16 + k

/-! ## Ranks (R202 to R205) -/

/-- The rank tables of a RANKS body: key, N and first entry word; `fuel` bounds the tables. -/
def rankTables (b : List Word) : Nat → Nat → List (Nat × Nat × Nat)
  | 0, _ => []
  | f + 1, k =>
    if b.length ≤ k then []
    else
      let n := bits (b.getD k 0) 16 16
      (bits (b.getD k 0) 0 16, n, k + 1) :: rankTables b f (k + 1 + (n + 1) / 2)

/-- The endpoint of a rank in a RANKS body. -/
def rankIn (b : List Word) (key rank : Nat) : Option Nat :=
  match (rankTables b b.length 0).find? fun t => t.1 == key with
  | none => none
  | some (_, n, k) =>
    let e := bits (b.getD (k + rank / 2) 0) (16 * (rank % 2)) 16
    if n ≤ rank ∨ e < 0x8000 then none else some (e % 0x8000)

/-- The endpoint of a rank in a version. -/
def PlateV.rankEp (v : PlateV) (key rank : Nat) : Option Nat := rankIn (v.body 3) key rank

/-- The endpoint of a rank at this node; 0xFFFF is this node (R203). -/
def State.rankEp (s : State) (key rank : Nat) : Option Nat :=
  if rank = 0xFFFF then some s.nodeId
  else match s.plt.active with
    | some v => v.rankEp key rank
    | none => none

/-! ## Counters (R257 to R261) -/

/-- Replace the Prompter's state. -/
def State.setPrm (s : State) (p : Prm) : State := { s with prm := p }

/-- A counter's value. -/
def State.ctr (s : State) (c : Nat) : Word := tabGet 0 s.prm.counters c

/-- The key of a counter's block. -/
def State.ctrKey (s : State) (c : Nat) : Nat := s.fld (R.ctrKey (c / 64)) 0 16

/-- R260: the block belongs to another key, or to none. -/
def State.ctrDenied (s : State) (c part : Nat) : Bool := s.ctrKey c != part || part == 0xFFFF

/-- A cue may fire at this value of its counter, or does not wait (R264). -/
def cueReached (d : Line) (v : Word) : Bool := ! dWait d || decide (dThreshold d ≤ v.toNat)

/-- An update of a counter that its block's key refuses (R260). -/
def State.denyCtr (s : State) : State := s.bump (R.prmCount 2)

/-- The Prompter's next cycle (R261): the updates, key writes and firings of this one are past. -/
def State.nextCycle (s : State) : State :=
  s.setPrm { s.prm with cycle := s.prm.cycle + 1, doneIns := 0, cellIns := 0, news := [], keyed := [], fired := [] }

/-- The cycle that takes an update from a source (R261): the present one, or the next where its 8 inputs are used, where the counter has
taken its one SET, or where the source's earlier update of it comes first. -/
def State.cycleFor (s : State) (c : Nat) (set done : Bool) (src : Nat) : State :=
  let again := match tabFind s.prm.news c with
    | some u => u.sources.contains src || (set && u.set.isSome)
    | none => false
  if again || decide (8 ≤ if done then s.prm.doneIns else s.prm.cellIns) then s.nextCycle else s

/-- What a counter has taken in this cycle. -/
def State.newsOf (s : State) (c : Nat) : CtrNews :=
  (tabFind s.prm.news c).getD { base := s.ctr c, set := none, adds := 0, sources := [] }

/-- Base or SET, and the ADDs after it (R261). -/
def CtrNews.sum (u : CtrNews) : Nat := u.set.getD u.base.toNat + u.adds

/-- One more update of a counter. -/
def CtrNews.take (u : CtrNews) (set : Bool) (n src : Nat) : CtrNews :=
  { base := u.base, set := if set then some n else u.set, adds := if set then u.adds else u.adds + n, sources := u.sources ++ [src] }

/-- A counter's new value in this cycle: the cues that wait on it become eligible at it, or, in the same cycle, cease to be (R264). -/
def State.putCtr (s : State) (c : Nat) (v : Word) : State :=
  let look (q : Cue) : Cue :=
    if dWait q.desc && dWaitCtr q.desc == c then
      if cueReached q.desc v then { q with ready := some (q.ready.getD s.prm.cycle) }
      else if q.ready = some s.prm.cycle then { q with ready := none }
      else q
    else q
  s.setPrm { s.prm with counters := tabSet 0 s.prm.counters c v, cues := s.prm.cues.map fun e => (e.1, look e.2) }

/-- Apply an update: the SET of a cycle first, the ADDs after it, saturating; the first saturation of a counter raises PRM_COUNTER_SAT
(R259, R261). -/
def State.applyUpdate (s : State) (c : Nat) (set done : Bool) (n src : Nat) : State :=
  let u := s.newsOf c
  let w := u.take set n src
  let p := s.prm
  let s1 := s.setPrm { p with news := tabInsert p.news c w, doneIns := p.doneIns + b2n done, cellIns := p.cellIns + b2n (!done) }
  let s2 := (s1.putCtr c (BitVec.ofNat 32 (min w.sum 0xFFFFFFFF))).bump (R.prmCount 1)
  if w.sum < 2 ^ 32 ∨ (set ∧ 2 ^ 32 ≤ u.sum) then s2
  else
    let s3 := s2.bump (R.prmCount 3)
    if s3.prm.saturated.contains c then s3
    else (s3.setPrm { s3.prm with saturated := s3.prm.saturated ++ [c] }).raiseFault 40 0xFFFF 1 0

/-- An update that reaches the Prompter: discarded in the cycle of a key write (R258), refused by another key (R260), or applied; with
the counter's old value where it is. -/
def State.updateCtr (s : State) (c part : Nat) (set done : Bool) (n src : Nat) : State × Option Word :=
  let t := s.cycleFor c set done src
  if t.prm.keyed.contains (c / 64) then (t.bump (R.prmCount 8), none)
  else if t.ctrDenied c part then (t.denyCtr, none)
  else (t.applyUpdate c set done n src, some (if set then (t.newsOf c).base else t.ctr c))

/-- The FIRE of a submitter's completed operation (Table 09-1). -/
def State.fireCtr (s : State) (d : Line) (who : Nat) : State :=
  (s.updateCtr (dFireCtr d) (dPart d) false true (dIncrement d) (32 + who)).1

/-! ## Completion queues (R221) -/

/-- Replace the transfer engine's state. -/
def State.setXfr (s : State) (x : Xfr) : State := { s with xfr := x }

/-- An empty queue. -/
def cqBlank : Cq := { reserved := 0, written := 0, consumed := 0, waiting := [] }

def State.cq (s : State) (q : Nat) : Cq := tabGet cqBlank s.xfr.cqs q
def State.setCq (s : State) (q : Nat) (c : Cq) : State := s.setXfr { s.xfr with cqs := tabSet cqBlank s.xfr.cqs q c }

/-- The records of a queue's ring. -/
def State.cqSize (s : State) (q : Nat) : Nat := 2 ^ s.fld (R.cqCfg q) 0 5
def State.cqEnabled (s : State) (q : Nat) : Bool := bit (s.reg (R.cqCfg q)) 5
def State.cqOwner (s : State) (q : Nat) : Nat := s.fld (R.cqCfg q) 6 4

/-- Records written that the consumer has not read. -/
def State.cqUnread (s : State) (q : Nat) : Nat := (s.cq q).written - (s.cq q).consumed

/-- The records or entries consumed once software has moved a head index to `h`: the index, 16 bits wide, counts on from the last one, and
no further than what was written (R221, R280). A HEAD beyond what was written reads as all of it (DEDUCED, log entry 92). -/
def consumedTo (written consumed h : Nat) : Nat := min written (consumed + (h + 65536 - consumed % 65536) % 65536)

/-- A place is free beyond the unread records and the places reserved. -/
def State.cqFree (s : State) (q : Nat) : Bool := decide (s.cqUnread q + (s.cq q).reserved < s.cqSize q)

/-- The version, active or retiring, that has a region of this node. -/
def State.regionVersion (s : State) (r : Nat) : Option (PlateV × Region) :=
  (s.plt.active.toList ++ s.plt.retiring.toList).findSome? fun v => (v.region r).map fun g => (v, g)

/-- Write bytes at a pool address of this node. -/
def State.writeAt (s : State) (addr : Nat) (d : List Byte) : State :=
  match s.regionVersion (regionOf addr) with
  | some (v, g) => (s.writeBytes v g (offsetOf addr) d).queueWrites v g (offsetOf addr) d.length none
  | none => s

/-- Write the next record of a queue with its PHASE. -/
def State.writeRecord (s : State) (q : Nat) (r : BitVec 256) : State :=
  let c := s.cq q
  let size := s.cqSize q
  let phase := (c.written / size + 1) % 2
  (s.writeAt (s.reg64 (R.cqBase q) + 32 * (c.written % size)) (toBytes (setBits r 144 1 phase) 32)).setCq q
    { c with written := c.written + 1 }

/-- Write a record whose place was reserved. -/
def State.putReserved (s : State) (q : Nat) (r : BitVec 256) : State :=
  let c := s.cq q
  (s.setCq q { c with reserved := c.reserved - 1 }).writeRecord q r

/-- Give up a reserved place. -/
def State.unreserve (s : State) (q : Nat) : State :=
  let c := s.cq q
  s.setCq q { c with reserved := c.reserved - 1 }

/-- A record with no place reserved: written, or kept until a place frees (R221, R268). -/
def State.putWaiting (s : State) (q : Nat) (r : BitVec 256) : State :=
  if s.cqFree q ∧ (s.cq q).waiting.isEmpty then s.writeRecord q r
  else
    let c := s.cq q
    s.setCq q { c with waiting := c.waiting ++ [r] }

/-- Write the waiting records that now find a place. -/
def State.drainWaiting (s : State) (q : Nat) : Nat → State
  | 0 => s
  | n + 1 =>
    match (s.cq q).waiting with
    | [] => s
    | r :: t => if s.cqFree q then ((s.setCq q { s.cq q with waiting := t }).writeRecord q r).drainWaiting q n else s

/-! ## Completion records (Table 07-9) -/

/-- A completion with a status and a reason and nothing else. -/
def Answer.comp (a : Answer) : Comp := { status := a.status, reason := a.reason, bytes := 0, outcome := 0, missing := 0, value := 0 }

/-- OK. -/
def okComp : Comp := { status := 0, reason := 0, bytes := 0, outcome := 0, missing := 0, value := 0 }

/-- The 32-byte record of an outcome fixed at a time. -/
def recordAt (time : Nat) (d : Line) (c : Comp) : BitVec 256 :=
  packBytes 256
    [(0, 2, dSwTag d), (2, 1, c.status), (3, 1, dOp d), (4, 8, time), (12, 5, c.bytes), (17, 1, c.reason),
     (19, 1, c.outcome), (20, 4, c.missing), (24, 8, c.value)]

/-- The record of an outcome fixed now. -/
def State.recordOf (s : State) (d : Line) (c : Comp) : BitVec 256 := recordAt s.now d c

/-- The COMPLETION cell of kind RECORD for a seat (R197, Table 07-8). -/
def State.seatRecord (s : State) (seat : Nat) (i : Issue) (c : Comp) (r : BitVec 256) : Cell :=
  s.mkCell 0x11 (s.seatEp seat) (dPart i.desc) i.tag.toNat
    (packBytes 512 [(0, 1, 1), (1, 1, c.status), (2, 1, c.reason), (3, 1, c.outcome), (8, 8, s.extend i.time.toNat),
      (32, 32, r.toNat)])

/-- A record is due: not suppressed by QUIET or by bytes 6 and 7. -/
def recordDue (d : Line) (c : Comp) : Bool := !dNoRecord d && !(dQuiet d && c.status == 0)

/-- Answer the submitting seat (R197, R267). -/
def State.answerSeat (s : State) (i : Issue) (c : Comp) (time : Nat) : State :=
  match i.who with
  | .window _ => s
  | .seat k =>
    if i.cue && !dSeatQ i.desc then s
    else
      let r := if dSeatQ i.desc && recordDue i.desc c then recordAt time i.desc c else 0
      s.injectCell (s.seatRecord k i c r)

/-- An opcode whose bytes 4 and 5 hold GROUP: the collectives, UPDATE and the Proof sweep. -/
def usesGroup (d : Line) : Bool :=
  decide ((0x20 ≤ dOp d ∧ dOp d ≤ 0x26) ∨ dOp d = 0x30 ∨ (dOp d = 0x50 ∧ dMod d = 1))

/-- The GROUP and INST fields of a collective's descriptor (Table 10-3). -/
def cGroup (d : Line) : Nat := bytesAt d 4 2 % 4096
def cInst (d : Line) : Nat := dArg d 0 4

/-- The EVENT entry of an outcome that R397 does not cover. -/
def State.eventOf (s : State) (i : Issue) (c : Comp) : State :=
  if uncovered c.status c.reason then
    s.journalEvent (dSwTag i.desc) (dOp i.desc) c.status c.reason (whoIdx i.who) (if usesGroup i.desc then cGroup i.desc else 0)
      (if usesGroup i.desc then cInst i.desc else 0) none
  else s

/-- Count an operation that completes INDETERMINATE or ABORTED (Table 07-14). -/
def State.countStatus (s : State) (st : Nat) : State :=
  if st = 4 then s.bump (R.xfrCount 3) else if st = 5 then s.bump (R.xfrCount 9) else s

/-- The outcome, fixed at a time, of an operation whose place in its queue is reserved: the record, the seat's answer, and
FIRE on OK. -/
def State.completeAt (s : State) (i : Issue) (c : Comp) (time : Nat) : State :=
  let d := i.desc
  let q := dQueue d
  let s0 := s.countStatus c.status
  let s1 :=
    if dSeatQ d || dNoRecord d then s0
    else if recordDue d c then s0.putReserved q (recordAt time d c)
    else s0.unreserve q
  let s2 := (s1.answerSeat i c time).eventOf i c
  if dFire d && c.status == 0 then s2.fireCtr d (whoIdx i.who) else s2

/-- The outcome of an operation, fixed now. -/
def State.complete (s : State) (i : Issue) (c : Comp) : State := s.completeAt i c s.now

/-- The outcome of a descriptor that has no place reserved (a refusal at issue, a cancelled cue). -/
def State.completeEarly (s : State) (i : Issue) (c : Comp) : State :=
  let d := i.desc
  let s0 := s.countStatus c.status
  let s1 := if dSeatQ d || dNoRecord d || !recordDue d c then s0 else s0.putWaiting (dQueue d) (s0.recordOf d c)
  (s1.answerSeat i c s.now).eventOf i c

/-! ## The shared checks at issue (Table 07-5) -/

/-- An opcode's bit of RIGHTS (Table 16-9): 6 stands for INTERMISSION and RESUME, which take a fabric-manager window. -/
def opcodeGroup (op : Nat) : Option Nat :=
  if [0x01, 0x02, 0x03, 0x04, 0x05, 0x10, 0x11, 0x12, 0x13, 0x14, 0x38, 0x3A].contains op then some 0
  else if 0x20 ≤ op ∧ op ≤ 0x26 then some 1
  else if op = 0x30 then some 2
  else if op = 0x40 ∨ op = 0x41 then some 3
  else if op = 0x50 ∨ op = 0x51 then some 4
  else if op = 0x62 then some 5
  else if op = 0x60 ∨ op = 0x61 then some 6
  else none

/-- Step 1: the opcode is defined and the submitter may submit it (R496). -/
def State.mayIssue (s : State) (who : Submitter) (op : Nat) : Bool :=
  match opcodeGroup op with
  | none => false
  | some g =>
    match who with
    | .window w => s.winPresent w && (if g = 6 then s.winFm w else (s.winRights w).testBit g)
    | .seat _ => g == 0 || g == 1 || g == 3

/-- The bindings of a key on this node: of the active version, or of the retiring one for a key being drained. -/
def State.bindingsHere (s : State) (k : Nat) : List Binding :=
  let here (v : PlateV) := v.bindings.filter fun b => b.pkey == k && b.node == s.nodeId
  match (s.plt.active.map here).getD [] with
  | [] => (s.plt.retiring.map here).getD []
  | l => l

/-- A window or seat is bound to a key (R431). -/
def State.boundTo (s : State) (who : Submitter) (k : Nat) : Bool :=
  match who with
  | .window w => if k = 0 then s.winFm w else (s.bindingsHere k).any fun b => b.windows.testBit w
  | .seat q => if k = 0 then false else (s.bindingsHere k).any fun b => b.seats.testBit q

/-- Step 2: the queue that the descriptor names cannot take its record. -/
def State.queueRefused (s : State) (who : Submitter) (d : Line) : Bool :=
  let q := dQueue d
  if dSeatQ d || dNoRecord d then false
  else if !s.cqEnabled q then true
  else match who with
    | .window w => s.cqOwner q != w
    | .seat _ => ! (s.bindingsHere (dPart d)).any fun b => b.windows.testBit (s.cqOwner q)

/-- Step 3: the key is held and bound, its slot is open, and its counters are the key's own (R260, R433). -/
def State.keyStep (s : State) (who : Submitter) (d : Line) : Option Answer :=
  let k := dPart d
  if (k ≠ 0 ∧ (s.slotOf k).isNone) ∨ ! s.boundTo who k then some ⟨9, 17⟩
  else if ! s.keyOpen k then some ⟨9, 58⟩
  else if (dFire d && s.ctrDenied (dFireCtr d) k) || (dWait d && s.ctrDenied (dWaitCtr d) k) then some ⟨9, 35⟩
  else none

/-- Step 7: the key is disabled and draining, or its curtain is lowered (R229, R490). -/
def State.drainStep (s : State) (d : Line) : Option Answer :=
  let k := dPart d
  let kept := match s.plt.active with
    | some v => v.holds k s.nodeId
    | none => true
  if ! kept then some ⟨9, 27⟩
  else if s.curtainDown k then some ⟨7, 64⟩
  else none

/-- The first refusal of a list. -/
def firstAnswer : List (Option Answer) → Option Answer
  | [] => none
  | some a :: _ => some a
  | none :: t => firstAnswer t

end Sys2Proof.Machine
end

