-- ==== Sys2Proof/Machine/EruOps.lean ====
section
/-! DEFINITION. The accumulator store's free slots (R290, R352, R355, R361) and the exact cells of ATOM_FADD_X (R355 to
R359). -/

namespace Sys2Proof.Machine

/-- Replace the ERU's state. -/
def State.setEru (s : State) (x : Eru) : State := { s with eru := x }

/-- Blocks of 64 exact cells (ERU_CELL_CFG.BLOCKS). -/
def State.cellBlocks (s : State) : Nat := s.fld R.eruCellCfg 0 11

/-- Narrow slots in the store: once sealed, all but the blocks of 1,024 that exact cells take (R355, R361). -/
def State.storeSlots (s : State) : Nat := 6291456 - if s.isSealed then (s.cellBlocks + 15) / 16 * 1024 else 0

/-- Narrow slots neither reserved nor exact cells (ERU_NARROW_FREE). -/
def State.narrowFree (s : State) : Nat := s.storeSlots - (s.col.ctxs.map fun e => e.2.reserved * 1024).sum

/-- The PROMOTED slots of a table. -/
def promotedIn (t : Tab ASlot) : Nat := (t.filter fun e => decide (e.2.st = .promoted)).length

/-- PROMOTED slots, each of which owns a wide slot (ERU_PROMOTED). -/
def State.promoted (s : State) : Nat :=
  promotedIn s.eru.cells + (s.col.ctxs.map fun c => (c.2.segs.map fun g => promotedIn g.2.slots).sum).sum

/-- Wide slots that serve no promotion of this cycle (R352): those in use, and those freed in it. -/
def State.wideHeld (s : State) : Nat := max s.promoted (s.eru.held + s.eru.promos)

/-- Free wide slots of the general pool (R352). -/
def State.wideFree (s : State) : Nat := 131072 - s.fld R.eruCfg 0 5 * 1024 - s.wideHeld

/-- Free wide slots with the replay reserve. -/
def State.wideFreeAll (s : State) : Nat := 131072 - s.wideHeld

/-- The ERU's next cycle: what was freed serves again (R352), and the key writes are past (R355). -/
def State.eruCycle (s : State) : State := s.setEru { s.eru with keyed := [], held := s.promoted, promos := 0 }

/-- Any slot or cell is not EMPTY (R44, ERU_STATUS.OCCUPIED). -/
def State.eruOccupied (s : State) : Bool :=
  (s.eru.cells.any fun e => decide (e.2.st ≠ .empty)) ||
    s.col.ctxs.any fun c => c.2.segs.any fun g => g.2.slots.any fun x => decide (x.2.st ≠ .empty)

/-! ## What keeps the ERU and the engines' clocks running (R40, Table 02-6) -/

/-- An ATOM_FADD_X request waits at this target: ejected, or held in an ordering context. -/
def State.faddWaits (s : State) : Bool :=
  let fadd (c : Cell) : Bool := cellIs c 0x03 && bytesAt c.payload 0 1 == 0x13
  (s.csw.ejected.any fun e => fadd e.cell) || s.xfr.rflows.any fun f => f.2.held.any fadd

/-- The ERU has an admitted context, an occupied slot or a pending ATOM_FADD_X. -/
def State.eruWorks (s : State) : Bool := ! s.col.ctxs.isEmpty || s.eruOccupied || s.faddWaits

/-- The Update engine holds an UPDATE. -/
def State.updWorks (s : State) : Bool := ! s.upd.queue.isEmpty

/-- Lines wait for the security engine: every line between the channel ports and a region passes it (R37). -/
def State.secWorks (s : State) : Bool := s.mem.chans.any fun e => ! e.2.queue.isEmpty || ! e.2.accepted.isEmpty

/-- The ERU's wake, counted where it was gated (R45); its idle time starts again. A wake that meets the entry abandons it (R43). -/
def State.wakeEru (s : State) : State :=
  let gated := s.domain (domainKey .eru) == .gated
  let s1 := s.setDomain (domainKey .eru) .running
  let s2 : State := { s1 with kpr := { s1.kpr with eruBusyAt := s1.now } }
  if gated then s2.setFld R.kprDomain 8 8 (min 255 (s2.fld R.kprDomain 8 8 + 1)) else s2

/-- Note what has worked up to now. -/
def State.noteBusy (s : State) : State :=
  let k := s.kpr
  { s with kpr := { k with eruBusyAt := if s.eruWorks then s.now else k.eruBusyAt
                           updBusyAt := if s.updWorks then s.now else k.updBusyAt
                           secBusyAt := if s.secWorks then s.now else k.secBusyAt } }

/-- Count an addend applied (R361): the lane cycles of Table 11-8, a promotion, a non-finite one. -/
def State.countAddend (s : State) (code len : Nat) (before after : ASlot) (a : Addend) : State :=
  let up := decide (before.st ≠ .promoted ∧ after.st = .promoted)
  let cyc := laneCycles code len (decide (before.st = .promoted)) + (if up then 4 else 0)
  let s1 := (s.setReg64 R.eruAddends (s.reg64 R.eruAddends + 1)).setReg64 R.eruLaneCycles (s.reg64 R.eruLaneCycles + cyc)
  let s2 := if up then (s1.setEru { s1.eru with promos := s1.eru.promos + 1 }).bump (R.eruCount 0) else s1
  match a with
  | .special _ => s2.bump (R.eruCount 3)
  | _ => s2

/-! ## Exact cells -/

def State.cell (s : State) (k : Nat) : ASlot := tabGet ASlot.reset s.eru.cells k
def State.setCell (s : State) (k : Nat) (x : ASlot) : State := s.setEru { s.eru with cells := tabSet ASlot.reset s.eru.cells k x }

/-- The default rounding of the ARITH section (Table 03-9). -/
def State.arithDefault (s : State) : Nat := bits (s.plateWord 5 2) 0 2

/-- The rounding that a selector names: 0 the ARITH default, 1 RNE, 2 RTZ, 3 SR. -/
def State.roundingOf (s : State) (sel : Nat) : Rounding :=
  match (if sel = 0 then s.arithDefault + 1 else sel) with
  | 2 => .rtz
  | 3 => .sr
  | _ => .rne

/-- A format that ATOM_FADD_X takes (Table 11-16). -/
def cellFormat (code : Nat) : Bool := [0x01, 0x02, 0x03, 0x04, 0x05, 0x10, 0x11].contains code

/-- ATOM_FADD_X at its target (R357): the answer, the value and the state after. -/
def State.cellAtomic (s : State) (pkey addr modTop fmt operand : Nat) : Answer × Nat × State :=
  let k := addr
  let act := modTop % 4
  let x := s.cell k
  let refuse (a : Answer) : Answer × Nat × State := (a, 0, s.bump (R.eruCount 7))
  if 64 * s.cellBlocks ≤ k ∨ s.fld (R.cellKey (k / 64)) 0 16 ≠ pkey ∨ s.eru.keyed.contains (k / 64) then refuse ⟨9, 45⟩
  else if act = 3 ∨ (act ≠ 2 ∧ ! cellFormat fmt) ∨ (act = 1 ∧ modTop / 4 = 3) then refuse ⟨11, 44⟩
  else if act = 2 then
    (⟨0, 0⟩, 0, (s.setCell k ASlot.reset).setEru { (s.setCell k ASlot.reset).eru with badCells := s.eru.badCells.filter fun b => b != k })
  else if s.eru.badCells.contains k then refuse ⟨8, 31⟩
  else if act = 1 then
    -- a READ under an SR default draws an r that the spec does not name
    let mode := s.roundingOf (modTop / 4)
    (⟨0, 0⟩, roundOut fmt x.asAddend mode (s.freshVal 32), if mode = .sr then s.tookFree else s)
  else
    let a := addend fmt operand 0
    let y := x.add a 1
    if 65535 < y.count then refuse ⟨10, 46⟩
    else if x.st ≠ .promoted ∧ y.st = .promoted ∧ s.wideFree = 0 then refuse ⟨10, 46⟩
    else (⟨0, 0⟩, 0, (s.countAddend fmt (elemBits fmt / 8) x y a).setCell k y)

end Sys2Proof.Machine
end

