-- ==== Sys2Proof/Machine/Groups.lean ====
section
/-! DEFINITION. Groups and their members (R283 to R285), the grid of a group's context nodes (R284), the shards of a reduction and
what each node expects and sends of a segment (R288, R298), and the fields of collective descriptors (Table 10-3). -/

namespace Sys2Proof.Machine

/-! ## The GROUPS section (type 0x0004) -/

/-- A group entry (Table 10-1). -/
structure Group where
  num   : Nat
  pkey  : Nat
  first : Nat
  m     : Nat
  rg    : Nat
  sg    : Nat
deriving DecidableEq, Repr

/-- A member entry (Table 10-2). -/
structure GMember where
  ep       : Nat
  combined : Bool
  noSend   : Bool
  noRecv   : Bool
  rank     : Nat
deriving DecidableEq, Repr

/-- NG and NM of a GROUPS body. -/
def groupCount (b : List Word) : Nat := bits (b.getD 0 0) 0 13
def memberCount (b : List Word) : Nat := bits (b.getD 1 0) 0 19

/-- Group entry `k` of a GROUPS body. -/
def groupAt (b : List Word) (k : Nat) : Group :=
  let w (i : Nat) := b.getD (4 + 4 * k + i) 0
  { num := bits (w 0) 0 12, pkey := bits (w 0) 16 16, first := bits (w 1) 0 18, m := bits (w 2) 0 15
    rg := bits (w 2) 16 8, sg := bits (w 2) 24 4 }

/-- The group entries of a GROUPS body. -/
def groupsOf (b : List Word) : List Group := (List.range (groupCount b)).map (groupAt b)

/-- Member entry `k` of a GROUPS body. -/
def memberAt (b : List Word) (k : Nat) : GMember :=
  let w0 := b.getD (4 + 4 * groupCount b + 2 * k) 0
  let w1 := b.getD (5 + 4 * groupCount b + 2 * k) 0
  { ep := bits w0 0 15, combined := bit w0 15, noSend := bit w0 16, noRecv := bit w0 17, rank := bits w1 0 16 }

/-- The members of a group, in member-index order. -/
def membersOf (b : List Word) (g : Group) : List GMember := (List.range g.m).map fun i => memberAt b (g.first + i)

/-- A group of a version. -/
def PlateV.group (v : PlateV) (n : Nat) : Option Group := (groupsOf (v.body 4)).find? fun g => g.num == n

/-- A member contributes (R285). -/
def GMember.contributes (x : GMember) : Bool := !x.combined && !x.noSend

/-! ## The grid (R284) -/

/-- The racks and the slots that the context nodes of a member list span, each in rising order. -/
def racksOf (ms : List GMember) : List Nat := ms.foldl (fun l x => insertNat l (epNode x.ep / 8)) []
def slotsOf (ms : List GMember) : List Nat := ms.foldl (fun l x => insertNat l (epNode x.ep % 8)) []

/-- The context nodes. -/
def nodesOf (ms : List GMember) : List Nat := ms.foldl (fun l x => insertNat l (epNode x.ep)) []

/-- The place of a number in a list. -/
def indexIn (l : List Nat) (n : Nat) : Nat := l.findIdx fun x => x == n

/-- A group as one of its context nodes sees it: its members, racks and slots, and the node's own ranks. -/
structure Shape where
  members : List GMember
  racks   : List Nat
  slots   : List Nat
  i       : Nat
  j       : Nat
deriving DecidableEq, Repr

/-- The view of a group from a node. -/
def shapeOf (b : List Word) (g : Group) (node : Nat) : Shape :=
  let ms := membersOf b g
  { members := ms, racks := racksOf ms, slots := slotsOf ms, i := indexIn (racksOf ms) (node / 8)
    j := indexIn (slotsOf ms) (node % 8) }

/-- No group. -/
def noShape : Shape := { members := [], racks := [], slots := [], i := 0, j := 0 }

/-- The node at rack-rank `i` and slot-rank `j`. -/
def Shape.node (h : Shape) (i j : Nat) : Nat := h.racks.getD i 0 * 8 + h.slots.getD j 0

def Shape.rg (h : Shape) : Nat := h.racks.length
def Shape.sg (h : Shape) : Nat := h.slots.length
/-- D, P2 and H. -/
def Shape.d (h : Shape) : Nat := h.rg.log2
def Shape.p2 (h : Shape) : Nat := 2 ^ h.d
def Shape.shards (h : Shape) : Nat := h.sg * h.p2

/-- The index of the member with an endpoint. -/
def Shape.indexOf (h : Shape) (ep : Nat) : Option Nat :=
  let k := h.members.findIdx fun x => x.ep == ep
  if k < h.members.length then some k else none

/-- The member at an index. -/
def Shape.member (h : Shape) (m : Nat) : Option GMember := h.members[m]?

/-- The contributing members that are, or sit on, a node, in member-index order. -/
def Shape.contributors (h : Shape) (node : Nat) : List GMember :=
  h.members.filter fun x => x.contributes && epNode x.ep == node

/-- The indices of the contributing members. -/
def Shape.contributing (h : Shape) : List Nat :=
  (List.range h.members.length).filter fun m => (h.member m).any fun x => x.contributes

/-- The members of a node that an ALLGATHER, BCAST or ALLTOALL reaches. -/
def Shape.receivers (h : Shape) (node : Nat) : List Nat :=
  (List.range h.members.length).filter fun m => (h.member m).any fun x => !x.noRecv && epNode x.ep == node

/-! ## Shards and fates (R298) -/

/-- The `d`-bit reversal of a number. -/
def bitRev (d x : Nat) : Nat := (List.range d).foldl (fun a k => a + x / 2 ^ k % 2 * 2 ^ (d - 1 - k)) 0

/-- The shard that covers a segment of `g`. -/
def shardOf (shards g seg : Nat) : Nat := (shards * (seg + 1) - 1) / max g 1

/-- The node ranks that own a segment. -/
def Shape.owner (h : Shape) (g seg : Nat) : Nat × Nat :=
  let x := shardOf h.shards g seg
  (bitRev h.d (x % h.p2), x / h.p2)

/-- The shard of this node: none where its rack lies beyond the largest power of two. -/
def Shape.ownShard (h : Shape) : Option Nat := if h.i < h.p2 then some (h.j * h.p2 + bitRev h.d h.i) else none

/-- The first segment of shard `x` of `g` segments. -/
def Shape.shardFrom (h : Shape) (g x : Nat) : Nat := g * x / max h.shards 1

/-- What a node does with a segment: the GOT bits it expects with their senders, and the stage and node it sends to. -/
structure Fate where
  expect : List (Nat × Nat)
  send   : Option (Nat × Nat)
deriving DecidableEq, Repr

/-- The GOT bits of Table 11-9. -/
def rackBit (j2 : Nat) : Nat := 17 + j2
def foldBit : Nat := 25
def planeBit (b : Nat) : Nat := 26 + b

/-- The stage of a GOT bit (Table 10-6). -/
def stageOfBit (b : Nat) : Nat := if b < 17 then 0 else if b < 25 then 1 else if b = 25 then 9 else 2 + (b - 26)

/-- The tray's expected senders. -/
def Shape.trayBits (h : Shape) (node : Nat) : List (Nat × Nat) := ((h.contributors node).map fun x => x.ep).zipIdx.map fun e => (e.2, e.1)

/-- The plane steps of a segment whose owner has rack-rank `ri`: expected partials, and the send at the first differing bit. -/
def Shape.planeFate (h : Shape) (ri : Nat) : Nat → Nat → List (Nat × Nat) → Fate
  | 0, _, acc => { expect := acc, send := none }
  | f + 1, b, acc =>
    let partner := h.node (h.i ^^^ 2 ^ b) h.j
    if h.i / 2 ^ b % 2 = ri / 2 ^ b % 2 then h.planeFate ri f (b + 1) (acc ++ [(planeBit b, partner)])
    else { expect := acc, send := some (2 + b, partner) }

/-- A segment's fate at this node. -/
def Shape.fate (h : Shape) (node g seg : Nat) : Fate :=
  let o := h.owner g seg
  let tray := h.trayBits node
  if o.2 ≠ h.j then { expect := tray, send := some (1, h.node h.i o.2) }
  else
    let rack := ((List.range h.sg).filter fun j2 => j2 != h.j).map fun j2 => (rackBit j2, h.node h.i j2)
    if h.p2 ≤ h.i then { expect := tray ++ rack, send := some (9, h.node (h.i - h.p2) h.j) }
    else
      let fold := if h.i + h.p2 < h.rg then [(foldBit, h.node (h.i + h.p2) h.j)] else []
      h.planeFate o.1 h.d 0 (tray ++ rack ++ fold)

/-! ## Collective descriptors (Table 10-3) -/

/-- ROLE OPEN and REHEARSAL; RED_OUT, UPDATE and the sweep have neither. -/
def cOpen (d : Line) : Bool := (dMod d).testBit 0
def cRehearsal (d : Line) : Bool := (dMod d).testBit 1
def cElems (d : Line) : Nat := dArg d 4 4
def cWant (d : Line) : Nat := dArg d 8 4
def cTree (d : Line) : Nat := dMod d / 4 % 4
def cRoot (d : Line) : Nat := dArg d 4 2
def cItem (d : Line) : Nat := dArg d 4 2
def cDrop (d : Line) : Bool := (dMod d).testBit 2
def cTable (d : Line) : Nat := dArg d 8 8
def cRedInst (d : Line) : Nat := dArg d 4 4
/-- ALIGN (Table 15-5): PERIOD, LEAD, COUNTER, ADVANCE. -/
def cPeriod (d : Line) : Nat := dArg d 8 4
def cLead (d : Line) : Nat := dArg d 12 2
def cStep (d : Line) : Nat := dArg d 14 2 % 16
def cAdvance (d : Line) : Bool := (dArg d 14 2).testBit 4

/-- An instance: partition, group and INST. -/
def sameInstance (a b : Line) : Bool := dPart a == dPart b && cGroup a == cGroup b && cInst a == cInst b

/-- The segments of a reduction of `e` elements. -/
def segCount (e : Nat) : Nat := (e + 1023) / 1024

/-- The elements of segment `k`. -/
def segElems (e k : Nat) : Nat := min 1024 (e - 1024 * k)

/-- The byte size of a segment image; a CF image in memory takes 41,664 bytes. -/
def segBytes (code e k : Nat) : Nat := if code = 0x1F then 41664 else imageBytes code (segElems e k)

/-- The byte offset of a segment image of `e` elements in a member's source. -/
def segOffset (code k : Nat) : Nat := if code = 0x1F then 41664 * k else k * imageBytes code 1024

/-- The bytes of `e` elements of a format. -/
def reductionBytes (code e : Nat) : Nat :=
  if e = 0 then 0 else segOffset code (segCount e - 1) + segBytes code e (segCount e - 1)

/-- The fields of two descriptors that R287 compares. -/
def agrees (a b : Line) : Bool :=
  dOp a == dOp b && dFormat a == dFormat b &&
    match dOp a with
    | 0x20 => cElems a == cElems b
    | 0x26 => cRedInst a == cRedInst b
    | 0x22 => dLen a == dLen b
    | 0x25 => dLen a == dLen b && cRoot a == cRoot b
    | 0x23 => cItem a == cItem b && cDrop a == cDrop b
    | 0x24 => dArg a 8 8 == dArg b 8 8
    | _ => true

end Sys2Proof.Machine
end

