-- ==== Sys2Proof/Machine/Xfer.lean ====
section
/-! DEFINITION. The requester of transfers (chapter 7): tags, messages, ordered flows, answers, losses, timeouts and the one
outcome of an operation. -/

namespace Sys2Proof.Machine

/-! ## Tags and operations (R207, R208) -/

def State.op (s : State) (t : Nat) : Option Op := tabFind s.xfr.ops t
def State.setOp (s : State) (t : Nat) (o : Op) : State := s.setXfr { s.xfr with ops := tabInsert s.xfr.ops t o }

/-- The header TAG of an operation at an index. -/
def opTag (t : Nat) (o : Op) : Nat := t + 16384 * o.gen

/-- The operation that a header TAG names: its index, with the generation in use. -/
def State.opByTag (s : State) (tag : Nat) : Option (Nat × Op) :=
  match s.op (tag % 16384) with
  | some o => if o.gen = tag / 16384 then some (tag % 16384, o) else none
  | none => none

def Op.part (o : Op) : Nat := dPart o.issue.desc
def Op.code (o : Op) : Nat := dOp o.issue.desc

/-- The chunks, or the one message, of an operation. -/
def Op.total (o : Op) : Nat :=
  match o.kind with
  | .load | .store | .fill => (o.length + 4095) / 4096
  | _ => 1

/-- The bytes of chunk `k`. -/
def Op.chunkLen (o : Op) (k : Nat) : Nat := min 4096 (o.length - 4096 * k)

/-- The cells of `n` bytes. -/
def cellCount (n : Nat) : Nat := (n + 63) / 64

/-- A tag index is free. -/
def Xfr.tagFree (x : Xfr) (t : Nat) : Bool := (tabFind x.ops t).isNone && (tabFind x.heldTags t).isNone

/-- The lowest free tag index from `t`. -/
def Xfr.freeTag (x : Xfr) : Nat → Nat → Option Nat
  | 0, _ => none
  | f + 1, t => if x.tagFree t then some t else x.freeTag f (t + 1)

/-- The lowest free tag index. -/
def State.freeTag (s : State) : Option Nat := s.xfr.freeTag 16384 0

/-- Tags in use, the ones held back included (XFR_TAGS_USED). -/
def State.tagsUsed (s : State) : Nat := s.xfr.ops.length + s.xfr.heldTags.length

/-- Release a tag: held one operation timeout after a loss, a timeout or an abort (R207). -/
def State.releaseTag (s : State) (t : Nat) (o : Op) : State :=
  s.setXfr { s.xfr with
    ops := tabErase s.xfr.ops t
    gens := tabSet 0 s.xfr.gens t ((o.gen + 1) % 4)
    heldTags := if o.dirty then tabInsert s.xfr.heldTags t (s.now + s.opTimeout) else s.xfr.heldTags }

/-- The response cells that an operation's outstanding messages reserve (R34). -/
def Op.space (o : Op) : Nat :=
  (o.msgs.map fun m => if o.kind = .load then cellCount m.2.len else 1).sum

/-- The response space reserved (XFR_RSP_USED). -/
def State.rspUsed (s : State) : Nat := (s.xfr.ops.map fun e => e.2.space).sum

/-- The response space (XFR_RSP_USED's range). -/
def rspSpace : Nat := 32767

/-- The cells of the LOAD window that starts at chunk `w`. -/
def Op.windowCells (o : Op) (w : Nat) : Nat := cellCount (min 262144 (o.length - 4096 * w))

/-! ## Local regions -/

/-- The version and region of a range of this node for a key: by the active version, or by the retiring one while the key
drains (R229), with every check of R206 and of the region's state. -/
def State.regionFor (s : State) (part addr n : Nat) (wr : Bool) : Except Answer (PlateV × Region) :=
  let look (v : PlateV) : Except Answer (PlateV × Region) :=
    match v.findRegion part addr n with
    | .error a => .error a
    | .ok g => match s.regionAnswer g wr with
      | some a => .error a
      | none => .ok (v, g)
  match s.plt.active, s.plt.retiring with
  | none, _ => .error ⟨9, 17⟩
  | some v, none => look v
  | some v, some r =>
    match v.region (regionOf addr) with
    | some _ => look v
    | none => look r

/-- Write bytes of this node's own output into pool memory at an address: every check of a local write, no poisoned line covered only in
part (Table 08-3), and the lines queued to their channels. -/
def State.putBytes (s : State) (part addr : Nat) (b : List Byte) : Except Answer State :=
  let off := offsetOf addr
  if b.isEmpty then .ok s
  else match s.regionFor part addr b.length true with
    | .error a => .error a
    | .ok (v, g) =>
      if s.channelFailed v g (linesOf off b.length) then .error ⟨8, 32⟩
      else if (linesOf off b.length).any fun o => partialLine off b.length o && s.poisoned (v.lineAt g.num o) then .error ⟨8, 31⟩
      else .ok ((s.writeBytes v g off b).queueWrites v g off b.length none)

/-- A local write was refused: one for poison is reported (R254, Table 08-7). Log entry 110 (DEDUCED). -/
def State.refusedPut (s : State) (a : Answer) : State :=
  if a.status = 8 then
    let s1 := s.bump (R.memCount 4)
    if a.reason = 31 then s1.raiseFault 37 0xFFFF 1 0 else s1
  else s

/-- Read bytes of pool memory for this node's own use: every check of a local read, and no poisoned line. -/
def State.getBytes (s : State) (part addr n : Nat) : Except Answer (List Byte) :=
  if n = 0 then .ok []
  else match s.regionFor part addr n false with
    | .error a => .error a
    | .ok (v, g) =>
      if s.rangePoisoned v g (offsetOf addr) n then .error ⟨8, 31⟩
      else if s.channelFailed v g (linesOf (offsetOf addr) n) then .error ⟨8, 32⟩
      else .ok (s.readBytes v g (offsetOf addr) n)

/-- The lines that `getBytes` reads pass the memory port. -/
def State.tellReads (s : State) (part addr n : Nat) : State :=
  match s.regionFor part addr n false with
  | .error _ => s
  | .ok (v, g) => if n = 0 then s else s.queueReads v g (offsetOf addr) n none

/-- The key is SEALED in the active version. -/
def State.sealedKey (s : State) (k : Nat) : Bool :=
  match s.plt.active with
  | some v => v.mode k == 2
  | none => false

/-! ## Message heads (Table 07-8) -/

/-- A request head's payload. -/
def headLine (op hflags lo chunk addr len orig fseq check args : Nat) : Line :=
  packBytes 512
    [(0, 1, op), (1, 1, hflags), (2, 2, lo), (4, 4, chunk), (8, 8, addr), (16, 4, len), (20, 8, orig), (28, 4, fseq),
     (32, 16, check), (48, 16, args)]

/-- HFLAGS. -/
def State.headFlags (s : State) (o : Op) (first again : Bool) : Nat :=
  b2n o.flow.isSome + 2 * b2n first + 4 * b2n again + 8 * b2n (s.sealedKey o.part) +
    16 * b2n (decide (0x10 ≤ o.code ∧ o.code ≤ 0x12) && (dMod o.issue.desc).testBit 12)

/-- Bytes 2 and 3 of a head. -/
def Op.headLow (o : Op) : Nat :=
  if o.kind = .atom then dMod o.issue.desc else if o.kind = .query then 0 else dFlow o.issue.desc

/-- A cell with its place in its message. -/
def placed (c : Cell) (index : Nat) (last alt : Bool) : Cell :=
  withCheck { c with index := BitVec.ofNat 12 index, last := last, alt := alt }

/-- A cell with ALT_ROUTE as an operation asks for it in every cell of its own (Table 07-2). -/
def altCell (c : Cell) (alt : Bool) : Cell := withCheck { c with alt := alt }

/-- The plaintext of data from cell `k` of a chunk, decrypted ahead of its check (R37). -/
def cellPlain (by0 : CheckBy) (k : Nat) (b : List Byte) : List Byte :=
  match by0 with
  | .crc => b
  | .gcm key iv _ => gcmCtr key (toBytes iv 12) 4 (2 + 4 * k) b

/-- A cell of an operation toward its target. -/
def State.opCell (s : State) (t : Nat) (o : Op) (typ index : Nat) (last alt : Bool) (p : Line) : Cell :=
  placed (s.mkCell typ o.target o.part (opTag t o) p) index last (dAlt o.issue.desc || alt)

/-- The 64-byte pieces of a byte list, the last padded with 0. -/
def pieces64 : Nat → List Byte → List Line
  | 0, _ => []
  | f + 1, b => if b.isEmpty then [] else BitVec.ofNat 512 (ofBytes (b.take 64)) :: pieces64 f (b.drop 64)

/-- A byte list's cells. -/
def dataCells (b : List Byte) : List Line := pieces64 (b.length / 64 + 1) b

/-! ## Sealed chunks between nodes (R439, R441) -/

/-- The check of a transfer chunk under K_link. -/
def State.linkCheck (s : State) (pkey typ src tag time chunk orig node addr : Nat) (iv : BitVec 96) : CheckBy :=
  .gcm (s.transportKey pkey 0 0) iv
    (gcmAad pkey 0 typ src tag time chunk (natBytes orig 6) (node % 256) (node / 256) addr)

/-- The member whose binding a seat of this node holds. -/
def State.seatMember (s : State) (pkey seat : Nat) : Nat :=
  (((s.bindingsHere pkey).find? fun b => b.seats.testBit seat).map fun b => b.member).getD 0

/-- The check of a chunk relayed from a seat (KEY_ID 1, C_m) or to a seat (KEY_ID 2, D): its head cell is the DESC. -/
def State.seatCheck (s : State) (o : Op) (keyId chunk addr : Nat) (iv : BitVec 96) : CheckBy :=
  let seat := match o.issue.who with
    | .seat k => k.val
    | .window _ => 0
  .gcm (s.transportKey o.part keyId (s.seatMember o.part seat)) iv
    (gcmAad o.part keyId 0x08 (s.seatEp seat) o.issue.tag.toNat o.issue.time.toNat chunk (natBytes 0 6) 0 0 addr)

/-! ## A STORE's chunk -/

/-- What the source of a chunk gives. -/
inductive ChunkSource where
  | bytes (b : List Byte)
  | refused (a : Answer)
  | waiting
deriving DecidableEq, Repr

/-- The seat's trailer of chunk `k`: its IV and tag (R442). -/
def trailerOf (l : Line) (k : Nat) : BitVec 96 × BitVec 128 :=
  (BitVec.ofNat 96 (bytesAt l (32 * (k % 2)) 12), BitVec.ofNat 128 (bytesAt l (32 * (k % 2) + 16) 16))

/-- The plaintext bytes of chunk `k` of a STORE or of a COPY's data stream. -/
def State.sourceChunk (s : State) (o : Op) (k : Nat) : ChunkSource :=
  let n := o.chunkLen k
  if seatMem o.src then
    let cs := (List.range (cellCount n)).map fun c => tabFind o.relayed (64 * k + c)
    let b := (cs.flatMap fun c => toBytes (c.getD 0) 64).take n
    let lost := match o.issue.who with
      | .seat q => s.xfr.dropped.contains (s.seatEp q, o.issue.tag.toNat, k)
      | .window _ => false
    if lost then .refused ⟨11, 22⟩
    else if cs.any fun c => c.isNone then .waiting
    else if s.sealedKey o.part then
      match tabFind o.relayed (4032 + k / 2) with
      | none => .waiting
      | some l =>
        match openChunk (s.seatCheck o 1 k (o.dst + 4096 * k) (trailerOf l k).1) b (trailerOf l k).2 with
        | some pt => .bytes pt
        | none => .refused ⟨11, 22⟩
    else .bytes b
  else match tabFind o.fetched k with
    | none => .waiting
    | some (.bytes b) => .bytes b
    | some (.refused a) => .refused a

/-! ## Reading a local source (R37, R39, R212, Table 08-3) -/

/-- Keep what the read of a source chunk gave. -/
def State.keepFetch (s : State) (t k : Nat) (f : Fetch) : State :=
  match s.op t with
  | some o => s.setOp t { o with fetched := tabInsert o.fetched k f }
  | none => s

/-- A source chunk is being read. -/
def State.fetching (s : State) (t : Nat) (o : Op) (k : Nat) : Bool := s.xfr.jobs.any fun e => e.2.use == .source (opTag t o) k

/-- Begin to read a source chunk of this node, if that is not done or under way. -/
def State.fetchChunk (s : State) (t k : Nat) : State :=
  match s.op t with
  | none => s
  | some o =>
    if seatMem o.src ∨ o.total ≤ k ∨ (tabFind o.fetched k).isSome ∨ s.fetching t o k then s
    else match s.regionFor o.part (o.src + 4096 * k) (o.chunkLen k) false with
      | .error a => s.keepFetch t k (.refused a)
      | .ok (v, g) =>
        let off := offsetOf o.src + 4096 * k
        let n := o.chunkLen k
        if s.rangePoisoned v g off n then s.keepFetch t k (.refused ⟨8, 31⟩)
        else if s.channelFailed v g (linesOf off n) then s.keepFetch t k (.refused ⟨8, 32⟩)
        else
          let r := s.newJob (.source (opTag t o) k) true
          r.2.queueReads v g off n (some r.1)

/-- The chunks of an operation that were read, or are being read, ahead of the credit that its links gave: those not sent, and those with
a cell that still waits for a link (R39). A STORE counts as a COPY does (DEDUCED, log entry 106). -/
def State.readAheadOf (s : State) (t : Nat) (o : Op) : Nat :=
  let tag := opTag t o
  let slot (c : Cell) : Option Nat :=
    if c.src.toNat ≠ s.nodeId ∨ c.tag.toNat ≠ tag then none
    else if cellIs c 0x20 then some (c.index.toNat / 64)
    else if cellIs c 0x02 then some (c.index.toNat % 64)
    else none
  let reading (j : Job) : Bool := match j.use with
    | .source n _ => n == tag
    | _ => false
  o.fetched.length + (s.xfr.jobs.filter fun e => reading e.2).length + (s.csw.inject.filterMap slot).eraseDups.length

/-- Read on in an operation's local source, at most 8 chunks ahead (R39). -/
def State.readAhead (s : State) (t : Nat) : State :=
  (List.range 8).foldl (fun u d => match u.op t with
    | some o =>
      if o.kind = .store ∧ o.abortAt.isNone ∧ o.fixed.isNone ∧ u.readAheadOf t o < 8 then u.fetchChunk t (o.next + d) else u
    | none => u) s

/-- The pattern bytes of a FILL at an offset (byte i at every offset congruent to i mod 8). -/
def fillBytes (pattern off n : Nat) : List Byte :=
  (List.range n).map fun i => BitVec.ofNat 8 (pattern / 256 ^ ((off + i) % 8))

/-! ## Ordered flows at the requester (R217) -/

/-- The cells of a message that count against the flow's 256. -/
def Op.cost (o : Op) (k : Nat) : Nat := if o.kind = .store then 1 + cellCount (o.chunkLen k) else 1

/-- Take the next FSEQ of an operation's flow for message `k`: FIRST, the number, and the state after. -/
def State.takeFseq (s : State) (o : Op) (k : Nat) : Bool × Nat × State :=
  match o.flow with
  | none => (false, 0, s)
  | some key =>
    let f : Flow := (tabFind s.xfr.flows key).getD { next := 0, out := 0, cells := 0 }
    let first := (tabFind s.xfr.flows key).isNone
    (first, f.next, s.setXfr { s.xfr with
      flows := tabInsert s.xfr.flows key { next := f.next + 1, out := f.out + 1, cells := f.cells + o.cost k } })

/-- A message of a flow is no longer outstanding; the flow's context is free when none is. -/
def State.leaveFlow (s : State) (o : Op) (k : Nat) : State :=
  match o.flow with
  | none => s
  | some key =>
    match tabFind s.xfr.flows key with
    | none => s
    | some f =>
      let g : Flow := { f with out := f.out - 1, cells := f.cells - o.cost k }
      s.setXfr { s.xfr with flows := if g.out = 0 then tabErase s.xfr.flows key else tabInsert s.xfr.flows key g }

/-- Part `k` of an operation is done: its message leaves the flow with the last of its chunks, those of one FSEQ (a LOAD's window). -/
def State.leavePart (s : State) (o : Op) (k : Nat) : State :=
  match tabFind o.msgs k with
  | none => s
  | some m => if o.msgs.any fun e => decide (e.1 ≠ k) && e.2.fseq == m.fseq then s else s.leaveFlow o k

/-- Every message of an operation leaves its flow; `fuel` bounds them. -/
def State.leaveAll (s : State) : Nat → Op → State
  | 0, _ => s
  | f + 1, o =>
    match o.msgs with
    | [] => s
    | (k, _) :: rest => (s.leavePart o k).leaveAll f { o with msgs := rest }

/-- An earlier operation of the same flow, for which `p` holds. -/
def State.earlierInFlow (s : State) (o : Op) (p : Op → Bool) : Bool :=
  match o.flow with
  | none => false
  | some key => s.xfr.ops.any fun e => e.2.flow == some key && decide (e.2.order < o.order) && p e.2

/-- Message `k` may enter its flow now: the earlier operations have sent all theirs, and the flow has room. -/
def State.flowRoom (s : State) (o : Op) (k : Nat) : Bool :=
  match o.flow with
  | none => true
  | some key =>
    let used := ((tabFind s.xfr.flows key).map fun f => f.cells).getD 0
    !s.earlierInFlow o (fun e => decide (e.next < e.total)) && decide (used + o.cost k ≤ 256)

/-! ## Sending -/

/-- A message as first sent. -/
def newMsg (now len req fseq : Nat) (first : Bool) : Msg :=
  { len := len, req := req, lastIssue := now, again := false, busyTries := 0, checkTries := 0, backoff := none
    lost := false, neverSent := true, fseq := fseq, first := first, check := 0, time := now % 2 ^ 32, got := [], answer := none
    pend := false, alone := false }

/-- Set a message of an operation. -/
def State.setMsg (s : State) (t k : Nat) (m : Msg) : State :=
  match s.op t with
  | some o => s.setOp t { o with msgs := tabInsert o.msgs k m }
  | none => s

/-- Two messages belong to one request: a LOAD's window has one for each chunk, until a chunk is asked for alone. -/
def Msg.sameRequest (m x : Msg) : Bool := m.req == x.req && m.alone == x.alone

/-- Change every message of the request that `m` belongs to. -/
def Op.mapReq (o : Op) (m : Msg) (f : Msg → Msg) : Op :=
  { o with msgs := o.msgs.map fun e => (e.1, if m.sameRequest e.2 then f e.2 else e.2) }

/-- The messages of the request that message `k` belongs to. -/
def Op.request (o : Op) (k : Nat) : List (Nat × Msg) :=
  match tabFind o.msgs k with
  | some m => o.msgs.filter fun e => m.sameRequest e.2
  | none => []

/-- Inject an operation's cells, noting when it last sent one. -/
def State.sendCells (s : State) (t : Nat) (cs : List Cell) : State :=
  let s1 := cs.foldl (fun u c => u.injectCell c) s
  match s1.op t with
  | some o => s1.setOp t { o with sent := true, lastSent := s1.now }
  | none => s1

/-- The head and data cells of a STORE chunk, and the 64-bit check that counts in VALUE. -/
def State.storeCells (s : State) (t : Nat) (o : Op) (k : Nat) (m : Msg) (b : List Byte) : List Cell × Nat × State :=
  let addr := o.dst + 4096 * k
  let hf := s.headFlags o m.first m.again
  let wrap := s.sealedKey o.part
  let r := if wrap then s.takeIv o.part 0 1 else (0, s)
  let by0 := if wrap then s.linkCheck o.part 0x02 s.nodeId (opTag t o) (s.now % 2 ^ 32) k o.orig o.target addr r.1 else .crc
  let e := sealChunk by0 b
  let head := headLine o.code hf o.headLow k addr b.length o.orig m.fseq e.2.toNat (if wrap then r.1.toNat else 0)
  let ds := dataCells e.1
  let lastOfWindow := decide (k % 64 = 63 ∨ k + 1 = o.total)
  (s.opCell t o 0x02 (k % 64) true false head ::
    (ds.zipIdx).map (fun d => s.opCell t o 0x20 ((k % 64) * 64 + d.2) (lastOfWindow && d.2 + 1 == ds.length) false d.1),
   e.2.toNat % 2 ^ 64, r.2)

/-- The single-cell request of message `k` that is no STORE chunk (Table 07-8, Table 09-3). -/
def State.requestCell (s : State) (t : Nat) (o : Op) (k : Nat) (m : Msg) (len : Nat) : Cell :=
  let d := o.issue.desc
  let hf := s.headFlags o m.first m.again
  let head (op addr n args : Nat) := headLine op hf o.headLow k addr n o.orig m.fseq 0 args
  match o.kind with
  | .load => s.opCell t o 0x01 0 true m.again (head o.code (o.src + 4096 * k) len 0)
  | .fill => s.opCell t o 0x05 0 true m.again (head o.code (o.dst + 4096 * k) len (dArg d 0 8))
  | .atom =>
    let args := if o.code = 0x11 then dArg d 0 16 else dArg d 0 8 + (if 0x13 ≤ o.code then dFormat d * 2 ^ 64 else 0)
    s.opCell t o 0x03 0 true m.again (head o.code o.dst 0 args)
  | .forward =>
    let args := o.handle + (o.length % 2 ^ 40) * 2 ^ 16 + dDst d * 2 ^ 64
    s.opCell t o 0x04 0 true m.again (head o.code o.src 0 args)
  | .query => s.opCell t o 0x06 0 true m.again (head 0x38 0 0 o.src)
  | _ =>
    s.opCell t o 0x28 0 true m.again
      (packBytes 512 [(0, 1, 0x40), (1, 1, hf &&& 0xC), (2, 2, dArg d 0 2), (4, 4, dArg d 4 4), (8, 1, dMod d % 2), (20, 8, o.orig)])

/-- Send, or send again, message `k` of an operation, which covers `len` bytes. -/
def State.sendMsg (s : State) (t k len : Nat) : State :=
  match s.op t with
  | none => s
  | some o =>
    match tabFind o.msgs k with
    | none => s
    | some m =>
      let renew (x : Msg) : Msg :=
        { x with lastIssue := s.now, time := s.now % 2 ^ 32, backoff := none, got := [], answer := none, pend := false }
      match o.kind with
      | .store =>
        match s.sourceChunk o k with
        | .bytes b =>
          let r := s.storeCells t o k (renew m) b
          let o1 := { o with fetched := tabErase o.fetched k, msgs := tabInsert o.msgs k { renew m with check := r.2.1 } }
          (r.2.2.setOp t o1).sendCells t r.1
        | _ => s.setMsg t k (renew m)
      | _ => (s.setOp t (o.mapReq m renew)).sendCells t [s.requestCell t o k (renew m) len]

/-! ## The outcome (R220 to R222) -/

/-- The precedence of a status (Table 07-10), 1 the highest. -/
def precedence (st : Nat) : Nat :=
  match st with
  | 4 => 1
  | 5 => 2
  | 7 => 3
  | 8 => 3
  | 9 => 3
  | 11 => 4
  | 3 => 5
  | 2 => 6
  | 12 => 7
  | 0 => 99
  | _ => 8

/-- The worse of two answers: by precedence, the lower code among equals; of two BUSY answers the last gives the reason (R214). -/
def worse (a : Option Answer) (b : Answer) : Option Answer :=
  match a with
  | none => some b
  | some x =>
    if precedence b.status < precedence x.status ∨ (precedence b.status = precedence x.status ∧ b.status < x.status) ∨
      (b.status = 12 ∧ x.status = 12) then some b
    else some x

/-- The outcome handle (Table 07-9). -/
def outcomeHandle (t : Nat) (o : Op) : Nat := opTag t o + o.orig % 2 ^ 48 * 65536

/-- Keep what an OUTCOME query needs of an operation (R227): of an INDETERMINATE one at its requester, and of every
forwarded COPY at its source. -/
def State.keepOp (s : State) (t : Nat) (o : Op) : State :=
  s.setXfr { s.xfr with kept := (s.xfr.kept.filter fun k => decide (s.now ≤ k.until_)) ++
    [{ handle := outcomeHandle t o, chunks := o.total, last := o.lastSent % 2 ^ 32, until_ := s.now + s.opTimeout
       done := (o.bytes + 4095) / 4096, bytes := o.bytes
       from0 := o.relay.map fun r => (r.src, r.tag, r.orig % 2 ^ 48) }] }

/-- The COMPLETION cell of kind CHUNK, or of another kind, that answers a request (Table 07-8). -/
def State.answerCell (s : State) (typ kind dest pkey tag : Nat) (a : Answer) (outcome chunk orig : Nat)
    (more : List (Nat × Nat × Nat)) : Cell :=
  s.mkCell typ dest pkey tag
    (packBytes 512 ([(0, 1, kind), (1, 1, a.status), (2, 1, a.reason), (3, 1, outcome), (4, 4, chunk), (8, 8, orig)] ++ more))

/-- Let the next message of an ordering context run (used where a forwarded COPY ends). -/
def State.advanceCtx (s : State) (c : Option Nat) : State :=
  match c with
  | none => s
  | some n =>
    match tabFind s.xfr.rflows n with
    | some f => s.setXfr { s.xfr with rflows := tabInsert s.xfr.rflows n { f with next := f.next + 1, last := s.now } }
    | none => s

/-- The final answer of a forwarded COPY to its requester (R215, R228). -/
def State.answerRelay (s : State) (o : Op) (r : Relay) (c : Comp) : State :=
  let a : Answer := ⟨c.status, c.reason⟩
  let alt := dAlt o.issue.desc
  let s1 := s.injectCell (altCell (s.answerCell 0x11 0 r.src o.part r.tag a 0 0xFFFFFFFF r.orig
    [(16, 8, c.value), (32, 8, c.bytes)]) alt)
  let s2 := if r.abort then
      let oc := if c.bytes = 0 then 0 else if o.length ≤ c.bytes then 1 else 2
      s1.injectCell (altCell (s1.answerCell 0x13 3 r.src o.part r.tag ⟨0, 0⟩ oc 0 r.orig [(32, 8, c.bytes)]) alt)
    else s1
  s2.advanceCtx r.ctx

/-- Write an operation's outcome, with the time at which it was fixed (R36), and release its tag. -/
def State.closeOp (s : State) (t : Nat) (o : Op) (c : Comp) (time : Nat) : State :=
  let s1 := s.leaveAll o.msgs.length o
  let s2 := if c.status = 4 ∨ o.relay.isSome then s1.keepOp t { o with bytes := c.bytes } else s1
  let s4 := s2.releaseTag t o
  let s3 := match o.issue.who with
    | .seat q => s4.setXfr { s4.xfr with dropped := s4.xfr.dropped.filter fun k => ! (k.1 == s4.seatEp q && k.2.1 == o.issue.tag.toNat) }
    | .window _ => s4
  match o.relay with
  | some r => s3.answerRelay o r c
  | none => s3.completeAt o.issue c time

/-- Write the outcomes that waited for an earlier operation of the flow (R218); `fuel` bounds them. -/
def State.releaseFixed (s : State) (key : Nat) : Nat → State
  | 0 => s
  | f + 1 =>
    match s.xfr.ops.find? fun e => e.2.flow == some key && e.2.fixed.isSome && !s.earlierInFlow e.2 (fun _ => true) with
    | some (t, o) =>
      let r := o.fixed.getD (okComp, s.now)
      (s.closeOp t o r.1 r.2).releaseFixed key f
    | none => s

/-- An operation's outcome is fixed: written now, or after the earlier operations of its flow. -/
def State.fixOp (s : State) (t : Nat) (c : Comp) : State :=
  match s.op t with
  | none => s
  | some o =>
    if s.earlierInFlow o (fun _ => true) then
      let s1 := s.leaveAll o.msgs.length o
      s1.setOp t { o with fixed := some (c, s.now), msgs := [], next := o.total }
    else
      let s1 := s.closeOp t o c s.now
      match o.flow with
      | some key => s1.releaseFixed key s1.xfr.ops.length
      | none => s1

/-- The outcome of an operation whose messages are all done. -/
def Op.outcome (o : Op) (t : Nat) : Comp :=
  let a := o.fail.getD ⟨0, 0⟩
  { okComp with status := a.status, reason := a.reason, bytes := o.bytes
                value := if a.status = 4 then outcomeHandle t o else o.xor }

/-! ## Advancing -/

/-- The next message of an operation may be sent: its response has its space (R34), and the next window of a LOAD waits until every chunk
of the last has passed its check (R208). -/
def State.maySend (s : State) (o : Op) : Bool :=
  o.abortAt.isNone && o.fixed.isNone && decide (o.next < o.total) && !(o.msgs.any fun m => m.2.lost) && s.flowRoom o o.next &&
    match o.kind with
    | .load => o.msgs.isEmpty && o.fail.isNone && decide (s.rspUsed + o.windowCells o.next ≤ rspSpace)
    | .store =>
      (decide (o.next < 64) || (tabFind o.msgs (o.next - 64)).isNone) && decide (s.rspUsed < rspSpace) &&
        decide (s.sourceChunk o o.next ≠ .waiting)
    | _ => o.msgs.isEmpty && decide (s.rspUsed < rspSpace)

/-- Send the next message. -/
def State.sendNext (s : State) (t : Nat) (o : Op) : State :=
  let k := o.next
  match o.kind with
  | .load =>
    let r := s.takeFseq o k
    let n := min 64 (o.total - k)
    let ms := (List.range n).foldl (fun a i => tabInsert a (k + i) (newMsg s.now (o.chunkLen (k + i)) k r.2.1 r.1)) o.msgs
    (r.2.2.setOp t { o with msgs := ms, next := k + n }).sendMsg t k (min 262144 (o.length - 4096 * k))
  | .store =>
    match s.sourceChunk o k with
    | .refused a => s.setOp t { o with next := k + 1, fail := worse o.fail a, fetched := tabErase o.fetched k }
    | _ =>
      let r := s.takeFseq o k
      let m := newMsg s.now (o.chunkLen k) k r.2.1 r.1
      let s1 := (r.2.2.setOp t { o with msgs := tabInsert o.msgs k m, next := k + 1 }).sendMsg t k m.len
      match o.issue.who, s1.op t with
      | .seat q, some o1 =>
        if seatMem o.src then
          s1.journalChunk q o.issue.tag.toNat 0x20 k (((tabFind o1.msgs k).map fun x => x.check).getD 0) 0 0
        else s1
      | _, _ => s1
  | .fill =>
    let r := s.takeFseq o k
    let n := min 262144 (o.length - 4096 * k)
    let m := newMsg s.now n k r.2.1 r.1
    (r.2.2.setOp t { o with msgs := tabInsert o.msgs k m, next := min o.total (k + 64) }).sendMsg t k n
  | _ =>
    let r := s.takeFseq o k
    (r.2.2.setOp t { o with msgs := tabInsert o.msgs k (newMsg s.now 0 k r.2.1 r.1), next := 1 }).sendMsg t k 0

/-- No message of an operation is left to send: all are sent, or a chunk of a LOAD's window has failed. -/
def Op.allSent (o : Op) : Bool := decide (o.total ≤ o.next) || (decide (o.kind = .load) && o.fail.isSome)

/-- Read ahead, send what may be sent, and fix the outcome once every message is done; `fuel` bounds the messages. -/
def State.advance (t : Nat) : Nat → State → State
  | 0, s => s
  | f + 1, s0 =>
    let s := s0.readAhead t
    match s.op t with
    | none => s
    | some o =>
      if s.maySend o then State.advance t f (s.sendNext t o)
      else if o.allSent ∧ o.msgs.isEmpty ∧ o.abortAt.isNone ∧ o.fixed.isNone then s.fixOp t (o.outcome t)
      else s

/-- The fuel of one advance: a window and a little more. -/
def windowFuel : Nat := 70

/-- Advance an operation, and then the operations that its flow or its space held back. -/
def State.advanceAll (s : State) (t : Nat) : State :=
  let s1 := State.advance t windowFuel s
  s1.xfr.ops.foldl (fun u e => if e.1 = t then u else if (u.op e.1).any u.maySend then State.advance e.1 windowFuel u else u) s1

/-! ## Answers -/

/-- Message `k` is done with an answer: its bytes and its check count where it was applied. -/
def State.doneMsg (s : State) (t k : Nat) (a : Answer) (bytes xor : Nat) : State :=
  match s.op t with
  | none => s
  | some o =>
    let s1 := s.leavePart o k
    let o1 := { o with msgs := tabErase o.msgs k, bytes := o.bytes + bytes, xor := o.xor ^^^ xor
                       fail := if a.status = 0 then o.fail else worse o.fail a }
    (s1.setOp t o1).advanceAll t

/-- A chunk that waits to be sent again is sent once its source has been read; one whose source is refused now is done with that. -/
def State.sendPending (s : State) (t k : Nat) : State :=
  match s.op t with
  | none => s
  | some o =>
    match tabFind o.msgs k with
    | none => s
    | some m =>
      if ! m.pend then s
      else match s.sourceChunk o k with
        | .waiting => s
        | .bytes _ => s.sendMsg t k m.len
        | .refused a => (s.setOp t { o with fetched := tabErase o.fetched k }).doneMsg t k a 0 0

/-- Send message `k` again; a STORE's chunk is read again first. -/
def State.resendMsg (s : State) (t k len : Nat) : State :=
  match s.op t with
  | none => s
  | some o =>
    if o.kind = .store then
      match tabFind o.msgs k with
      | some m => ((s.setMsg t k { m with pend := true, backoff := none }).fetchChunk t k).sendPending t k
      | none => s
    else s.sendMsg t k len

/-- The reads of a source chunk are all answered (R37): a line that failed its memory code twice, or was poisoned, refuses the chunk. -/
def State.endSource (s : State) (tag k : Nat) (j : Job) : State :=
  match s.opByTag tag with
  | none => s
  | some (t, o) =>
    if o.abortAt.isSome ∨ o.fixed.isSome then s
    else
      let n := o.chunkLen k
      let f : Fetch := match j.bad, s.regionFor o.part (o.src + 4096 * k) n false with
        | some r, _ => .refused ⟨8, r⟩
        | none, .error a => .refused a
        | none, .ok (v, g) => .bytes (s.gotBytes v g (offsetOf o.src + 4096 * k) n j.got)
      let s1 := s.keepFetch t k f
      if (tabFind o.msgs k).isSome then s1.sendPending t k else s1.advanceAll t

/-- Every message of one request is done with a failure. -/
def State.failRequest (s : State) (t k : Nat) (a : Answer) : State :=
  match s.op t with
  | none => s
  | some o => ((o.request k).map fun m => m.1).foldl (fun u j => u.doneMsg t j a 0 0) s

/-- The messages of one request and their bytes. -/
def Op.requestLen (o : Op) (k : Nat) : Nat := ((o.request k).map fun m => m.2.len).sum

/-- A BUSY answer to the request of message `k` (R214): resent after the backoff, or the retries are spent. -/
def State.busyMsg (s : State) (t k : Nat) (a : Answer) : State :=
  match s.op t with
  | none => s
  | some o =>
    match tabFind o.msgs k with
    | none => s
    | some m =>
      let s1 := s.bump (R.xfrCount 1)
      if s.fld R.xfrCfg 12 4 ≤ m.busyTries then s1.failRequest t k a
      else s1.setOp t (o.mapReq m fun x =>
        { x with busyTries := m.busyTries + 1, backoff := some (s.now + s.fld R.xfrCfg 0 8 * 100) })

/-- A chunk's check failed at either end (R212, R213): sent again, or the retries are spent. -/
def State.checkMsg (s : State) (t k : Nat) : State :=
  match s.op t with
  | none => s
  | some o =>
    match tabFind o.msgs k with
    | none => s
    | some m =>
      if s.fld R.xfrCfg 8 4 ≤ m.checkTries then (s.raiseFault 24 0xFFFF 1 0).doneMsg t k ⟨11, 22⟩ 0 0
      else (s.setMsg t k { m with checkTries := m.checkTries + 1, req := k, alone := true }).resendMsg t k m.len

/-- The VALUE part of an applied message: its chunk's check, or the checks of a FILL window's chunks. -/
def Op.msgXor (o : Op) (k : Nat) (m : Msg) : Nat :=
  match o.kind with
  | .fill =>
    (List.range ((m.len + 4095) / 4096)).foldl (fun a i =>
      a ^^^ crc64 (fillBytes (dArg o.issue.desc 0 8) (offsetOf o.dst + 4096 * (k + i)) (o.chunkLen (k + i)))) 0
  | _ => m.check

/-- A STORE or FILL chunk's answer. -/
def State.writeAnswer (s : State) (t k : Nat) (a : Answer) (p : Line) : State :=
  match s.op t with
  | none => s
  | some o =>
    match tabFind o.msgs k with
    | none => s.bump (R.xfrCount 5)
    | some m =>
      if a.status = 0 then s.doneMsg t k a m.len (o.msgXor k m)
      else if a.status = 12 then s.busyMsg t k a
      else if a.status = 11 ∧ (a.reason = 22 ∨ a.reason = 60) then s.checkMsg t k
      else s.doneMsg t k a (if a.status = 8 then bytesAt p 32 8 else 0) 0

/-! ## A LOAD's data (R213) -/

/-- Write bytes to a LOAD's local destination. -/
def State.writeLocal (s : State) (o : Op) (at0 : Nat) (b : List Byte) : Except Answer State := s.putBytes o.part (o.dst + at0) b

/-- Forward a checked chunk to the seat in LOAD_DATA cells, sealed under D where the partition is (R215, R442). -/
def State.forwardChunk (s : State) (t : Nat) (o : Op) (k : Nat) (b : List Byte) : State :=
  match o.issue.who with
  | .window _ => s
  | .seat q =>
    let wrap := s.sealedKey o.part
    let r := if wrap then s.takeIv o.part 2 1 else (0, s)
    let e := sealChunk (if wrap then s.seatCheck o 2 k (o.src + 4096 * k) r.1 else .crc) b
    let send (u : State) (idx : Nat) (last : Bool) (p : Line) : State :=
      u.injectCell (placed (u.mkCell 0x10 (u.seatEp q) o.part o.issue.tag.toNat p) idx last (dAlt o.issue.desc))
    let ds := dataCells e.1
    let s1 := (ds.zipIdx).foldl (fun u d => send u (64 * k + d.2) (k + 1 == o.total && d.2 + 1 == ds.length) d.1) r.2
    if wrap then
      let tr : BitVec 256 := packBytes 256 [(0, 12, r.1.toNat), (16, 16, e.2.toNat)]
      let mate := if k % 2 = 0 then k + 1 else k - 1
      let o1 := { o with trailers := tabInsert o.trailers k tr }
      let s2 := s1.setOp t o1
      if mate < o.total ∧ (tabFind o.trailers mate).isNone then s2
      else
        let lo := (tabFind o1.trailers (k - k % 2)).getD 0
        let hi := (tabFind o1.trailers (k - k % 2 + 1)).getD 0
        send s2 (4032 + k / 2) false (packBytes 512 [(0, 32, lo.toNat), (32, 32, hi.toNat)])
    else s1

/-- A LOAD chunk passed its check, or failed it at this end (R213). -/
def State.judgeChunk (s : State) (t : Nat) (o : Op) (k : Nat) (m : Msg) (check : BitVec 128) (good : Option (List Byte)) : State :=
  match good with
  | none =>
    let s1 := s.bump (R.xfrCount 6)
    (if s.sealedKey o.part then s1.gcmFailed o.part else s1).checkMsg t k
  | some pt =>
    let s1 := if seatMem o.dst then s.forwardChunk t o k pt else s
    s1.doneMsg t k ⟨0, 0⟩ m.len (check.toNat % 2 ^ 64)

/-- Check a LOAD chunk whose COMPLETION and data cells have all arrived. What a SEALED partition's chunk decrypts to is written, and so
encrypted at rest, before its check is judged (R37). -/
def State.tryChunk (s : State) (t k : Nat) : State :=
  match s.op t with
  | none => s
  | some o =>
    match tabFind o.msgs k with
    | none => s
    | some m =>
      match m.answer with
      | none => s
      | some p =>
        let n := cellCount m.len
        if (List.range n).any fun c => (tabFind m.got c).isNone then s
        else
          let b := ((List.range n).flatMap fun c => toBytes ((tabFind m.got c).getD 0) 64).take m.len
          let check : BitVec 128 := BitVec.ofNat 128 (bytesAt p 16 16)
          let by0 := if s.sealedKey o.part then
              s.linkCheck o.part 0x01 s.nodeId (opTag t o) m.time k o.orig o.target (o.src + 4096 * m.req)
                (BitVec.ofNat 96 (bytesAt p 40 12))
            else .crc
          let good := openChunk by0 b check
          if ! seatMem o.dst && s.sealedKey o.part then
            match s.writeLocal o (4096 * k) (cellPlain by0 0 b) with
            | .ok s1 => s1.judgeChunk t o k m check good
            | .error a => (s.refusedPut a).doneMsg t k a 0 0
          else s.judgeChunk t o k m check good

/-- The outstanding chunk that an INDEX names (R208). -/
def Op.chunkAt (o : Op) (slot : Nat) : Option (Nat × Msg) := o.msgs.find? fun m => m.1 % 64 == slot

/-- LOAD_DATA_RX (R213, R225). An aborted LOAD writes nothing after its stop (R228). -/
def execLoadDataRx (c : Cell) (s : State) : Host.Outcome State Fault Refusal :=
  if ! s.running then .next s else
  if ! cellIs c 0x10 then .fault .illFormed
  else
    let s0 := s.takeEjected c
    match s0.opByTag c.tag.toNat with
    | none => .next (s0.bump (R.xfrCount 8))
    | some (t, o) =>
      if o.kind ≠ .load then .next (s0.bump (R.xfrCount 8))
      else if o.abortAt.isSome then .next s0
      else
        match o.chunkAt (c.index.toNat / 64) with
        | none => .next (s0.bump (R.xfrCount 5))
        | some (k, m) =>
          let i := c.index.toNat % 64
          if (tabFind m.got i).isSome then .next (s0.bump (R.xfrCount 5))
          else
            let s1 := s0.setMsg t k { m with got := tabInsert m.got i c.payload }
            let b := (toBytes c.payload 64).take (m.len - 64 * i)
            if seatMem o.dst || s0.sealedKey o.part then .next (s1.tryChunk t k)
            else
              match s1.writeLocal o (4096 * k + 64 * i) b with
              | .ok s2 => .next (s2.tryChunk t k)
              | .error a => .next ((s1.refusedPut a).doneMsg t k a 0 0)

/-- A COMPLETION for a LOAD chunk or for a whole LOAD request. -/
def State.loadAnswer (s : State) (t k : Nat) (a : Answer) (p : Line) : State :=
  match s.op t with
  | none => s
  | some o =>
    match tabFind o.msgs k with
    | none => s.bump (R.xfrCount 5)
    | some m =>
      if a.status = 0 then
        if m.answer.isSome then s.bump (R.xfrCount 5) else (s.setMsg t k { m with answer := some p }).tryChunk t k
      else if a.status = 12 then s.busyMsg t k a
      else if a.status = 11 ∧ a.reason = 60 then s.checkMsg t k
      else if a.status = 8 then s.doneMsg t k a 0 0
      else s.failRequest t k a

/-- COMPLETION_CHUNK_RX (R212 to R215, R220 to R225, R259, R270, R273). An operation that was stopped takes no answer but that to its
ABORT_REQ (R228). -/
def State.completionRx (s : State) (c : Cell) : State :=
    let s0 := s.takeEjected c
    let p := c.payload
    let a : Answer := ⟨bytesAt p 1 1, bytesAt p 2 1⟩
    let k := bytesAt p 4 4
    match s0.opByTag c.tag.toNat with
    | none => s0.bump (R.xfrCount 8)
    | some (t, o) =>
      if o.abortAt.isSome then s0
      else match o.kind with
      | .load => s0.loadAnswer t k a p
      | .store | .fill => s0.writeAnswer t k a p
      | .forward =>
        if k = 0xFFFFFFFF then
          (s0.setOp t { o with bytes := bytesAt p 32 8 }).fixOp t
            { okComp with status := a.status, reason := a.reason, bytes := bytesAt p 32 8
                          value := bytesAt p 16 8 }
        else s0.writeAnswer t 0 a p
      | _ =>
        match tabFind o.msgs 0 with
        | none => s0.bump (R.xfrCount 5)
        | some _ =>
          if a.status = 12 then s0.busyMsg t 0 a
          else
            s0.fixOp t { okComp with status := a.status, reason := a.reason, bytes := if a.status = 0 then 4 else 0
                                     value := if a.status = 0 then bytesAt p 32 8 else 0 }

/-- The operand width of an atomic in bytes. -/
def atomWidth (d : Line) : Nat :=
  if dOp d ≤ 0x12 then (if (dMod d).testBit 12 then 8 else 4) else elemBits (dFormat d) / 8

/-- ATOMIC_RSP_RX (R214, R220, R228). -/
def execAtomicRspRx (c : Cell) (s : State) : Host.Outcome State Fault Refusal :=
  if ! s.running then .next s else
  if ! cellIs c 0x12 then .fault .illFormed
  else
    let s0 := s.takeEjected c
    let p := c.payload
    let a : Answer := ⟨bytesAt p 1 1, bytesAt p 2 1⟩
    match s0.opByTag c.tag.toNat with
    | none => .next (s0.bump (R.xfrCount 8))
    | some (t, o) =>
      if o.kind ≠ .atom then .next (s0.bump (R.xfrCount 8))
      else if o.abortAt.isSome then .next s0
      else if (tabFind o.msgs 0).isNone then .next (s0.bump (R.xfrCount 5))
      else if a.status = 12 then .next (s0.busyMsg t 0 a)
      else
        .next (s0.fixOp t { okComp with status := a.status, reason := a.reason
                                        bytes := if a.status = 0 then atomWidth o.issue.desc else 0
                                        value := if a.status = 0 then bytesAt p 32 8 else 0 })

/-- OUTCOME_RSP_RX (R227, R228): an OUTCOME's answer, or an ABORT_REQ's. -/
def execOutcomeRspRx (c : Cell) (s : State) : Host.Outcome State Fault Refusal :=
  if ! s.running then .next s else
  if ! cellIs c 0x13 then .fault .illFormed
  else
    let s0 := s.takeEjected c
    let p := c.payload
    match s0.opByTag c.tag.toNat with
    | none => .next (s0.bump (R.xfrCount 8))
    | some (t, o) =>
      if o.abortAt.isSome then
        .next (s0.fixOp t { okComp with status := 5, bytes := if o.kind = .load then o.bytes else bytesAt p 32 8
                                        value := o.xor })
      else if o.kind = .query then
        let a : Answer := ⟨bytesAt p 1 1, bytesAt p 2 1⟩
        if a.status = 12 then .next (s0.busyMsg t 0 a)
        else .next (s0.fixOp t { okComp with status := a.status, reason := a.reason, outcome := bytesAt p 3 1, value := bytesAt p 32 8 })
      else .next (s0.bump (R.xfrCount 8))

/-! ## Losses and timeouts (R223, R224, R485) -/

/-- Reissue every unfinished chunk of a LOAD, or an OUTCOME's query, once, with REISSUE and ALT_ROUTE. -/
def State.reissue (s0 : State) (t : Nat) (o0 : Op) : State :=
  let o := { o0 with reissued := true }
  let s := s0.setOp t o
  (o.msgs.map fun m => m.1).foldl (fun u k =>
    match u.op t with
    | none => u
    | some o1 =>
      match tabFind o1.msgs k with
      | none => u
      | some m => ((u.bump (R.xfrCount 2)).setMsg t k { m with again := true, req := k, alone := true }).sendMsg t k m.len) s

/-- The operation ends with an answer, whatever is outstanding. -/
def State.endOp (s : State) (t : Nat) (a : Answer) : State :=
  match s.op t with
  | none => s
  | some o =>
    let w := (worse o.fail a).getD a
    (s.setOp t { o with dirty := true }).fixOp t { okComp with status := w.status, reason := w.reason, bytes := o.bytes
                                                               value := if w.status = 4 then outcomeHandle t o else o.xor }

/-- A LINK_LOST that names an operation (R223): `k` the chunk whose cell a direct notice names, `unsent` where that cell was
never sent. -/
def State.lossOp (s : State) (t : Nat) (direct : Option Nat) (unsent : Bool) (reason : Nat) : State :=
  match s.op t with
  | none => s
  | some o =>
    let s1 := (s.setOp t { o with dirty := true }).bump (R.xfrCount 4)
    let o1 := { o with dirty := true }
    if o.abortAt.isSome then s1
    else match o.kind with
      | .load | .query =>
        if o.reissued then s1.endOp t ⟨3, reason⟩ else s1.reissue t o1
      | .atom | .cueAdd => s1.endOp t (if unsent then ⟨3, reason⟩ else ⟨4, reason⟩)
      | _ =>
        let hit (k : Nat) : Bool := match direct with
          | some j => j == k
          | none => true
        let mark (m : Nat × Msg) : Nat × Msg :=
          if hit m.1 then (m.1, { m.2 with lost := true, neverSent := m.2.neverSent && unsent }) else m
        s1.setOp t { o1 with msgs := o1.msgs.map mark }

/-- The expiry of an operation's timeout (R224), or of every message by the loss of its target (R485). -/
def State.expireOp (s : State) (t : Nat) (o : Op) (reason : Nat) : State :=
  let s1 := s.setOp t { o with dirty := true }
  if o.abortAt.isSome then
    s1.fixOp t { okComp with status := 4, reason := reason, bytes := o.bytes, value := outcomeHandle t o }
  else match o.kind with
    | .load | .query =>
      if reason = 29 ∧ ! o.reissued then s1.reissue t { o with dirty := true } else s1.endOp t ⟨2, reason⟩
    | .atom | .cueAdd => s1.endOp t ⟨4, reason⟩
    | _ =>
      if o.msgs.all fun m => m.2.lost && m.2.neverSent then s1.endOp t ⟨3, 6⟩
      else s1.endOp t ⟨4, if o.msgs.any fun m => m.2.lost then 6 else reason⟩

/-- The operation timeout of a tag (R224). -/
def State.opTimeoutDue (s : State) (tag : Nat) : State :=
  match s.op tag with
  | none => s
  | some o =>
    let due := match o.abortAt with
      | some a => decide (a + s.opTimeout ≤ s.now)
      | none => o.msgs.any fun m => m.2.backoff.isNone && ! m.2.pend && decide (m.2.lastIssue + s.opTimeout ≤ s.now)
    if due then s.expireOp tag o 29 else s

/-- Resend the messages of an operation whose backoff has passed. -/
def State.retryBusy (s : State) (t : Nat) : State :=
  match s.op t with
  | none => s
  | some o =>
    if o.abortAt.isSome then s
    else
      (o.msgs.filterMap fun m => match m.2.backoff with
        | some b => if b ≤ s.now ∧ m.2.req = m.1 then some m.1 else none
        | none => none).foldl (fun u k => match u.op t with
          | some o1 => u.resendMsg t k (if o1.kind = .load then o1.requestLen k else ((tabFind o1.msgs k).map fun m => m.len).getD 0)
          | none => u) s

/-- TAG_REUSE_HOLD (R207). -/
def execTagReuseHold (tag : Fin 16384) (s : State) : Host.Outcome State Fault Refusal :=
  if ! s.running then .next s else
  match tabFind s.xfr.heldTags tag with
  | some d => .next (if d ≤ s.now then s.setXfr { s.xfr with heldTags := tabErase s.xfr.heldTags tag } else s)
  | none => .next s

/-- The chunk whose cell a discarded cell of this operation was. -/
def Op.noticeChunk (o : Op) (typ index : Nat) (chunk : Nat) : Option Nat :=
  match o.kind with
  | .store => (o.chunkAt (if typ = 0x20 then index / 64 else index % 64)).map fun m => m.1
  | .load | .fill => if (tabFind o.msgs chunk).isSome then some chunk else (o.msgs.head?.map fun m => m.2.req)
  | _ => some 0

/-- A NOTICE of a transfer (R223, R554). -/
def State.xfrNotice (s : State) (c : Cell) (unsent : Bool) : State :=
  let p := c.payload
  let a : Answer := ⟨bytesAt p 0 1, bytesAt p 1 1⟩
  let tag := bytesAt p 4 2
  let index := bytesAt p 6 2 % 4096
  let typ := bytesAt p 16 1
  let mine := epNode c.src.toNat == s.nodeId
  match s.opByTag tag with
  | none => s.bump (R.xfrCount 8)
  | some (t, o) =>
    match a.status with
    | 3 => s.lossOp t (if mine then o.noticeChunk typ index 0 else none) unsent a.reason
    | _ =>
      match o.noticeChunk typ index 0 with
      | none => s.bump (R.xfrCount 5)
      | some k =>
        if o.abortAt.isSome then s
        else match o.kind with
          | .load => s.failRequest t k a
          | .store | .fill => s.doneMsg t k a 0 0
          | _ => s.endOp t a

/-! ## Abort (R228) -/

/-- The payload of an OUTCOME_REQ's or ABORT_REQ's ARGS for an operation. -/
def Op.queryArgs (o : Op) (t : Nat) : Nat :=
  opTag t o + o.orig % 2 ^ 48 * 2 ^ 16 + o.total % 2 ^ 32 * 2 ^ 64 + o.lastSent % 2 ^ 32 * 2 ^ 96

/-- Stop one operation: no further cell, an ABORT_REQ to its target, or ABORTED at once where nothing was sent. -/
def State.stopOp (s : State) (t : Nat) : State :=
  match s.op t with
  | none => s
  | some o =>
    if o.abortAt.isSome ∨ o.fixed.isSome then s
    else if ! o.sent then (s.setOp t { o with dirty := true }).fixOp t { okComp with status := 5 }
    else
      let head := headLine 0x3A 0 0 0 0 0 o.orig 0 0 (o.queryArgs t)
      let o1 := { o with abortAt := some s.now, dirty := true }
      (s.setOp t o1).injectCell (s.opCell t o1 0x07 0 true false head)

end Sys2Proof.Machine
end

