-- ==== Sys2Proof/Machine/Ctx.lean ====
section
/-! DEFINITION. Collective contexts (R289 to R294): their state, version and group, grants and DONE notices, the frame of C2 messages
(R295, R439 to R441), missing members (R303, R304, R321), and the end of a context and of an UPDATE. -/

namespace Sys2Proof.Machine

/-! ## Contexts -/

/-- Replace the collectives' state. -/
def State.setCol (s : State) (x : Col) : State := { s with col := x }

def State.ctx (s : State) (k : Nat) : Option Ctx := tabFind s.col.ctxs k
def State.setCtx (s : State) (k : Nat) (c : Ctx) : State := s.setCol { s.col with ctxs := tabInsert s.col.ctxs k c }
def State.modCtx (s : State) (k : Nat) (f : Ctx → Ctx) : State :=
  match s.ctx k with
  | some c => s.setCtx k (f c)
  | none => s

def Ctx.desc (c : Ctx) : Line := c.issue.desc
def Ctx.code (c : Ctx) : Nat := dOp c.desc
def Ctx.part (c : Ctx) : Nat := dPart c.desc
def Ctx.group (c : Ctx) : Nat := cGroup c.desc
def Ctx.inst (c : Ctx) : Nat := cInst c.desc
/-- What has been counted of a member's reduction segments (R305): the entries, their bytes, the XOR of their checks. -/
def Ctx.trayOf (c : Ctx) (ep : Nat) : List TrayCount := c.tray.filter fun q => q.ep == ep
def Ctx.trayBytes (c : Ctx) (ep : Nat) : Nat := ((c.trayOf ep).map fun q => q.bytes).sum
def Ctx.trayXor (c : Ctx) (ep : Nat) : Nat := (c.trayOf ep).foldl (fun a q => a ^^^ q.xor) 0

/-- Raise a record of the context in a slot at most once per 1 ms per context (Table 10-11): another generation is another context. -/
def State.raiseOfCtx (s : State) (k code : Nat) : State :=
  s.raiseKeyed (code * 65536 + 256 + 64 * ((s.ctx k).map fun c => c.gen).getD 0 + k) code k 0

/-- The context handle (R289). -/
def Ctx.handle (c : Ctx) (k : Nat) : Nat := k + 64 * c.gen
def Ctx.elems (c : Ctx) : Nat := cElems c.desc
/-- G. -/
def Ctx.segTotal (c : Ctx) : Nat := segCount c.elems

/-- The version of a State that this node still holds. -/
def State.versionNamed (s : State) (st : Word) : Option PlateV :=
  (s.plt.active.toList ++ s.plt.retiring.toList).find? fun v => v.state == st

/-- The view of a context's group under its pinned version. -/
def State.shapeIn (s : State) (v : Option PlateV) (group : Nat) : Shape :=
  match v with
  | none => noShape
  | some x => match x.group group with
    | some g => shapeOf (x.body 4) g s.nodeId
    | none => noShape

def State.shape (s : State) (c : Ctx) : Shape := s.shapeIn (s.versionNamed c.version) c.group

/-- The context of an instance. -/
def State.ctxOfInst (s : State) (part group inst : Nat) : Option (Nat × Ctx) :=
  s.col.ctxs.find? fun e => e.2.part == part && e.2.group == group && e.2.inst == inst

/-- The context that a handle names. -/
def State.ctxByHandle (s : State) (h : Nat) : Option (Nat × Ctx) :=
  match s.ctx (h % 64) with
  | some c => if c.gen = h / 64 % 4 then some (h % 64, c) else none
  | none => none

/-- The context timeout (TIMERS word 1) and REGRANT, in ns. -/
def State.ctxTimeout (s : State) : Nat := s.timer 1 * 1000
def State.regrantTime (s : State) : Nat := s.fld R.colCfg 0 8 * 10000
/-- PRM_COL_CFG.AHEAD. -/
def State.ahead (s : State) : Nat := s.fld R.colCfg 8 8

/-- Arriving C2 cells of a frozen context are discarded (R411). -/
def State.frozenNow (s : State) : Bool := decide (s.intm.state = .save ∨ s.intm.state = .frozen)

/-- A context that still takes part: ACTIVE or DRAINING. -/
def Ctx.live (c : Ctx) : Bool := decide (c.state = .active ∨ c.state = .draining)

/-! ## Grants (Table 10-5) -/

/-- A GRANT cell of a context. FLAGS: bit 0 REPLAY, 1 CLOSE, 2 GEN. -/
def State.grantCell (s : State) (k : Nat) (c : Ctx) (dest src stage flags first count mask tag : Nat) : Cell :=
  withCheck { s.mkCell 0x11 dest c.part tag
    (packBytes 512 [(0, 1, 4), (1, 1, flags), (2, 2, c.group), (4, 4, c.inst), (8, 1, c.handle k), (9, 1, stage), (12, 4, first),
      (16, 4, count), (20, 4, mask)]) with src := BitVec.ofNat 15 src }

/-- Send a GRANT from this node. -/
def State.sendGrant (s : State) (k : Nat) (c : Ctx) (dest stage flags first count mask tag : Nat) : State :=
  s.injectCell (s.grantCell k c dest s.nodeId stage flags first count mask tag)

/-- A REPLAY grant of one segment, piece or message (R294). -/
def State.sendReplay (s : State) (k : Nat) (c : Ctx) (dest stage : Nat) (gen : Bool) (number tag : Nat) : State :=
  (s.sendGrant k c dest stage (1 + 4 * b2n gen) number 0 1 tag).bump (R.colCount 2)

/-- A DONE notice of one segment or message (R340). -/
def State.sendDone (s : State) (k : Nat) (c : Ctx) (dest stage number tag : Nat) : State :=
  s.sendGrant k c dest stage 0 number 0 1 tag

/-! ## The turns of Rehearsal contexts (R317) -/

/-- The Rehearsal contexts held. -/
def State.rehearsals (s : State) : Nat := (s.col.ctxs.filter fun e => e.2.rehearsal).length

/-- The logical port of a message: a seat's, or the preferred one toward a node; 32 stands for this node itself. -/
def State.outPort (s : State) (dest : Nat) : Nat :=
  match s.plt.active with
  | none => 32
  | some v =>
    if epNode dest = s.nodeId then (if 0x4000 ≤ dest then bits (v.word 0x101 (34 + dest % 16)) 0 5 else 32)
    else (routeEntry v (epNode dest)).preferred

/-- The messages that a context injects in its turn: of a Rehearsal context the first of each logical port, of any other all of them. -/
def State.turnOfCtx (s : State) (c : Ctx) (l : List CSend) : List CSend :=
  if c.rehearsal then l.foldl (fun acc x => if acc.any fun y => s.outPort y.dest == s.outPort x.dest then acc else acc ++ [x]) [] else l

/-! ## The frame of a message (R295) -/

/-- Cut a byte list into pieces of `n`; `fuel` bounds them. -/
def cutBytes (n : Nat) : Nat → List Byte → List (List Byte)
  | 0, _ => []
  | f + 1, b => if b.isEmpty then [] else b.take n :: cutBytes n f (b.drop n)

/-- The check chunks of a message: 4,096 bytes each, whole cells, the last cell padded with 0. -/
def messageChunks (b : List Byte) : List (List Byte) :=
  let padded := b ++ List.replicate ((64 - b.length % 64) % 64) 0#8
  cutBytes 4096 (padded.length / 4096 + 1) padded

/-- What the additional data of a message names: its head cell's type, SRC, TAG and TIME, the segment, piece or message number, its
INST, GROUP and STAGE, and the key that seals it (Table 14-12). -/
structure Frame where
  part   : Nat
  keyId  : Nat
  member : Nat
  typ    : Nat
  src    : Nat
  tag    : Nat
  time   : Nat
  number : Nat
  inst   : Nat
  group  : Nat
  stage  : Nat
deriving DecidableEq, Repr

/-- How chunk `q` of a message is checked. -/
def State.frameCheck (s : State) (f : Frame) (wrap : Bool) (iv : BitVec 96) (q : Nat) : CheckBy :=
  if wrap then
    .gcm (s.transportKey f.part f.keyId f.member) (ivAdd iv q)
      (gcmAad f.part f.keyId f.typ f.src f.tag f.time f.number (natBytes f.inst 4 ++ natBytes f.group 2) f.stage q 0)
  else .crc

/-- Seal the chunks of a message: the bytes as carried, and each chunk's check. -/
def State.sealFrame (s : State) (f : Frame) (wrap : Bool) (iv : BitVec 96) (chunks : List (List Byte)) : List (List Byte × BitVec 128) :=
  (chunks.zipIdx).map fun e => sealChunk (s.frameCheck f wrap iv e.2) e.1

/-- Check the chunks of a message: the plaintext bytes, where every check matches. -/
def State.openFrame (s : State) (f : Frame) (wrap : Bool) (iv : BitVec 96) (chunks : List (List Byte)) (checks : List (BitVec 128)) :
    Option (List Byte) :=
  ((chunks.zip checks).zipIdx).foldl (fun acc e =>
    match acc, openChunk (s.frameCheck f wrap iv e.2) e.1.1 e.1.2 with
    | some b, some p => some (b ++ p)
    | _, _ => none) (some [])

/-- The bytes of a chunk check in a trailer. -/
def checkSize (wrap : Bool) : Nat := if wrap then 16 else 8

/-- The trailer cells of a message's checks. -/
def trailerCells (wrap : Bool) (checks : List (BitVec 128)) : List Line := dataCells (checks.flatMap fun x => toBytes x (checkSize wrap))

/-- The number of trailer cells of `q` chunks. -/
def trailerCount (wrap : Bool) (q : Nat) : Nat := cellCount (q * checkSize wrap)

/-- Check `q` read from trailer cells, the cell at position 1 + 64Q first. -/
def checkAt (wrap : Bool) (cells : Tab Line) (chunks q : Nat) : BitVec 128 :=
  let n := checkSize wrap
  let l := (tabFind cells (1 + 64 * chunks + q * n / 64)).getD 0
  BitVec.ofNat 128 (bytesAt l (q * n % 64) n)

/-- The bytes of chunk `q` from the data cells received, of which there are `count`. -/
def chunkBytes (cells : Tab Line) (count q : Nat) : List Byte :=
  (List.range (min 64 (count - 64 * q))).flatMap fun k => toBytes ((tabFind cells (1 + 64 * q + k)).getD 0) 64

/-- A cell of a C2 message: it carries the epoch of its context's version (R83). -/
def State.ctxCell (s : State) (c : Ctx) (typ dest src tag index : Nat) (last alt gen : Bool) (p : Line) : Cell :=
  withCheck { s.mkCell typ dest c.part tag p with
    src := BitVec.ofNat 15 src, epoch := c.epoch, index := BitVec.ofNat 12 (index + 2048 * b2n gen), last := last, alt := alt }

/-- The cells of a message of head `head`, whose chunks are sealed already. -/
def State.messageCells (s : State) (c : Ctx) (typ dest src tag : Nat) (alt gen wrap : Bool) (head : Line)
    (sealedChunks : List (List Byte × BitVec 128)) : List Cell :=
  let q := sealedChunks.length
  let data := sealedChunks.flatMap fun e => dataCells e.1
  let trail := trailerCells wrap (sealedChunks.map fun e => e.2)
  s.ctxCell c typ dest src tag 0 false alt gen head ::
    ((data.zipIdx).map (fun e => s.ctxCell c typ dest src tag (1 + e.2) false alt gen e.1) ++
      (trail.zipIdx).map (fun e => s.ctxCell c typ dest src tag (1 + 64 * q + e.2) (e.2 + 1 == trail.length) alt gen e.1))

/-! ## Contribution heads (Table 10-6) -/

/-- A contribution head's payload. -/
def contribHead (group inst number stage flags q contribs e fmt : Nat) (miss : List Nat) (iv : Nat) : Line :=
  packBytes 512 ([(0, 2, group), (2, 4, inst), (6, 4, number), (10, 1, stage), (11, 1, flags), (12, 2, q), (14, 2, contribs), (16, 4, e),
    (20, 1, fmt), (48, 12, iv)] ++ (((miss.take 12).zipIdx).map fun x => (24 + 2 * x.2, 2, x.1 + 0x8000)))

/-- The endpoints that a head's MISS lists. -/
def headMiss (p : Line) : List Nat :=
  (List.range 12).filterMap fun k =>
    let x := bytesAt p (24 + 2 * k) 2
    if 0x8000 ≤ x then some (x - 0x8000) else none

/-! ## Missing members (R303, R304, R321) -/

/-- Add an endpoint to a list. -/
def addOnce (l : List Nat) (x : Nat) : List Nat := if l.contains x then l else l ++ [x]

/-- A member index's contribution is absent from a result that lacks the endpoints `miss`: a node stands for itself and its
seats, this node for itself alone. -/
def Shape.absent (h : Shape) (node : Nat) (miss : List Nat) (m : Nat) : Bool :=
  match h.member m with
  | none => false
  | some x => miss.contains x.ep || (epNode x.ep != node && miss.contains (epNode x.ep))

/-- The member indices absent, among those that `p` admits. -/
def Shape.absentees (h : Shape) (node : Nat) (miss : List Nat) (p : GMember → Bool) : List Nat :=
  (List.range h.members.length).filter fun m => (h.member m).any p && h.absent node miss m

/-- Write a bitmap to the next entry of the store: its handle (R321). -/
def State.writeMap (s : State) (m : Nat) (absent : List Nat) : Nat × State :=
  let e := s.col.nextMap % 255 + 1
  let x : MissMap := { serial := s.col.serial, m := m, bits := (absent.map fun i => 2 ^ i).sum }
  (e + s.col.serial * 256,
   s.setCol { s.col with maps := tabInsert s.col.maps e x, nextMap := (s.col.nextMap + 1) % 255, serial := (s.col.serial + 1) % 2 ^ 24 })

/-- A context declares a sender missing (R303): journalled as an EVENT. -/
def State.eventMissing (s : State) (c : Ctx) (ep : Nat) : State :=
  s.journalEvent (dSwTag c.desc) c.code 1 0 (whoIdx c.issue.who) c.group c.inst (some ep)

/-! ## Records of a context (R304, R320, R321) -/

/-- Table 10-10's rank of a status; statuses outside it rank first. -/
def colRank (st : Nat) : Nat :=
  match st with
  | 5 => 1
  | 2 => 2
  | 1 => 3
  | 10 => 4
  | 15 => 5
  | 0 => 6
  | _ => 0

/-- The higher-ranked of two answers, the lower code among equals. -/
def colWorse (a b : Answer) : Answer :=
  if colRank b.status < colRank a.status ∨ (colRank b.status = colRank a.status ∧ b.status < a.status) then b else a

/-- Write a collective descriptor's record at a time; PARTIAL and CAPACITY carry a bitmap of the absent members. -/
def State.recordCol (s : State) (k : Nat) (m : Nat) (i : Issue) (a : Answer) (bytes value : Nat) (absent : List Nat) (time : Nat) : State :=
  let c : Comp := { okComp with status := a.status, reason := a.reason, bytes := bytes, value := value }
  if a.status = 1 ∨ a.status = 10 then
    let r := s.writeMap m absent
    ((r.2.bump (R.colCount 0)).raiseOfCtx k 44).completeAt i { c with missing := r.1 } time
  else s.completeAt i c time

/-- The records of a context's OPEN, and of the OPENs that joined it. -/
def State.recordOpens (s : State) (k : Nat) (c : Ctx) (m : Nat) (a : Answer) (bytes value : Nat) (absent : List Nat) (time : Nat) : State :=
  (c.issue :: c.joined).foldl (fun t i => t.recordCol k m i a bytes value absent time) s

/-! ## UPDATEs as consumers (R374 to R378, R387, R392) -/

/-- Replace the Update engine's state. -/
def State.setUpd (s : State) (x : Upd) : State := { s with upd := x }

def Update.part (u : Update) : Nat := dPart u.issue.desc
def Update.group (u : Update) : Nat := cGroup u.issue.desc
def Update.inst (u : Update) : Nat := cInst u.issue.desc
def Update.step (u : Update) : Nat := dArg u.issue.desc 4 4
def Update.program (u : Update) : Nat := dArg u.issue.desc 8 2
/-- Fields of the update block (Table 12-2). -/
def Update.gsrc (u : Update) : Nat := bits u.block 0 2
def Update.gated (u : Update) : Bool := bit u.block 2
def Update.normInst (u : Update) : Nat := bytesAt u.block 4 4
def Update.seed (u : Update) : Nat := bytesAt u.block 8 8
def Update.ls (u : Update) : Int := signedBits u.block 128 8
def Update.divisor (u : Update) : Nat := bytesAt u.block 18 2
def Update.maxNorm (u : Update) : Nat := bytesAt u.block 20 4
def Update.elemFirst (u : Update) : Nat := bytesAt u.block 24 8
def Update.elemCount (u : Update) : Nat := bytesAt u.block 32 4
def Update.tensors (u : Update) : Nat := bytesAt u.block 36 2
def Update.images (u : Update) : Nat := bytesAt u.block 38 2
def Update.table (u : Update) : Nat := bytesAt u.block 40 8
def Update.spill (u : Update) : Nat := bytesAt u.block 48 8
def Update.spillSize (u : Update) : Nat := bytesAt u.block 56 8
def Update.scalar (u : Update) (j : Nat) : Nat := bytesAt u.block (64 + 4 * j) 4

/-- An UPDATE of the queue, by its step-1 stamp, submitter and descriptor, as one entry. -/
def sameUpdate (a b : Update) : Bool := decide (a.issue = b.issue ∧ a.stamp = b.stamp)

/-- Replace an UPDATE in the queue, or remove it. -/
def replaceUpdate (l : List Update) (u : Update) (new : Option Update) : List Update :=
  match l with
  | [] => []
  | x :: t => if sameUpdate x u then new.toList ++ t else x :: replaceUpdate t u new

def State.putUpdate (s : State) (u : Update) (new : Option Update) : State := s.setUpd { queue := replaceUpdate s.upd.queue u new }

/-- VALUE of an UPDATE: CLIP and n (R392). -/
def Update.value (u : Update) : Nat :=
  match u.gate with
  | some g => g.1.toNat + g.2.toNat * 2 ^ 32
  | none => 0

/-- Count an UPDATE's status (Table 12-11), and raise UPD_SKIP for a skipped step. -/
def State.countUpdate (s : State) (st : Nat) : State :=
  if st = 0 then s.bump (R.updCount 0)
  else if st = 15 then (s.bump (R.updCount 1)).raiseFault 56 0xFFFF 1 0
  else if st = 5 then s.bump (R.updCount 2)
  else s

/-- End an UPDATE: its record is written, and its context's further passes go without output (R378, R387). -/
def State.endUpdate (s : State) (u : Update) (a : Answer) (missing : Nat) : State :=
  let s1 := s.putUpdate u none
  let s2 := match u.ctx with
    | some k => s1.modCtx k fun c => { c with consumer := none, outFail := some a }
    | none => s1
  (s2.countUpdate a.status).complete u.issue
    { okComp with status := a.status, reason := a.reason, bytes := if a.status = 15 then 0 else u.written, missing := missing
                  value := u.value }

/-- The prologue's CLIP and n from a NORM's bytes 0 to 3 (R377). -/
def Update.clipOf (u : Update) (nr : Nat) : BitVec 32 × BitVec 32 :=
  let n := div32 (mul32 nr (pow32 (-u.ls))) (natTo32 u.divisor)
  (BitVec.ofNat 32 (if isZero32 u.maxNorm then one32 else div32 u.maxNorm (max32 n u.maxNorm)), BitVec.ofNat 32 n)

/-- The step is skipped: the NORM's bytes 0 to 3, or n, are not finite (R378). -/
def Update.skips (u : Update) (nr : Nat) : Bool :=
  let n := (u.clipOf nr).2.toNat
  isInf32 nr || isNan32 nr || isInf32 n || isNan32 n

/-- A NORM completes (R377, R378): every gated UPDATE that waits on it opens its gate, skips its step, or ends with the NORM's
status. -/
def State.gateOpens (s : State) (c : Ctx) (a : Answer) (missing nr : Nat) : State :=
  let waits (u : Update) : Bool := u.gated && u.gate.isNone && u.part == c.part && u.group == c.group && u.normInst == c.inst &&
    (u.gsrc != 0 || u.inst == cRedInst c.desc)
  (s.upd.queue.filter waits).foldl (fun t u =>
    if a.status ≠ 0 ∧ a.status ≠ 15 then t.endUpdate u a missing
    else
      let v := { u with gate := some (u.clipOf nr) }
      if a.status = 15 || u.skips nr then (t.putUpdate u (some v)).endUpdate v ⟨15, 0⟩ 0 else t.putUpdate u (some v)) s

/-- A gradient context ends (R375, R378): a gated UPDATE ends with its status; any other keeps what the context lacked. -/
def State.ctxEndsUpdate (s : State) (k : Nat) (a : Answer) (missing : Nat) : State :=
  (s.upd.queue.filter fun u => u.ctx == some k).foldl (fun t u =>
    if a.status = 0 then t.putUpdate u (some { u with ctx := none, ended := true })
    else if u.gated ∨ a.status ≠ 1 then t.endUpdate { u with ctx := none } a missing
    else t.putUpdate u (some { u with ctx := none, ended := true, miss := missing, fail := some a })) s

/-! ## The end of a context -/

/-- Free a context: its slot's generation is kept for the next use. -/
def State.freeCtx (s : State) (k : Nat) (c : Ctx) : State :=
  s.setCol { s.col with ctxs := tabErase s.col.ctxs k, gens := tabSet 0 s.col.gens k ((c.gen + 1) % 4)
                        defers := s.col.defers.filter fun d => d.1 != k }

/-- A context's members that have no record yet. -/
def Ctx.openMembers (c : Ctx) : List CMember := c.members.filter fun m => !m.closed

/-- Abort a context (R318): CLOSE grants where messages are sent, no output, and every descriptor of the instance completes
ABORTED. -/
def State.abortCtxWith (s : State) (k : Nat) (c : Ctx) (messages : Bool) (reason : Nat) : State :=
  let senders := (c.recv.map fun r => (r.sender, r.stage)).foldl (fun l x => if l.contains x then l else l ++ [x]) []
  let s1 := if messages then senders.foldl (fun t x => t.sendGrant k c x.1 x.2 2 0 0 0 0) s else s
  let s2 := (s1.freeCtx k c).bump (R.colCount 1)
  let a : Answer := ⟨5, reason⟩
  let s3 := (c.issue :: c.joined).foldl (fun t i => t.completeAt i a.comp t.now) s2
  let s4 := c.openMembers.foldl (fun t m => t.completeAt m.issue { a.comp with bytes := if c.code = 0x20 then c.trayBytes m.ep else m.bytes } t.now) s3
  let s5 := match c.consumer with
    | some i => if dOp i.desc = 0x21 then s4.completeAt i a.comp s4.now else s4
    | none => s4
  let s6 := s5.ctxEndsUpdate k a 0
  if c.code = 0x26 then s6.gateOpens c a 0 0 else s6

/-- ABORT of a context. -/
def State.abortCtx (s : State) (k : Nat) (c : Ctx) (messages : Bool) : State := s.abortCtxWith k c messages 0

end Sys2Proof.Machine
end

