-- ==== Sys2Proof/Machine/Segments.lean ====
section
/-! DEFINITION. The segments of a reduction (R293 to R305, R337 to R340, R350 to R354): passes, grants, contributions from memory and
from cells, resets, deferrals, partials sent on, RED_OUT, and the drain and end of a reduction's context. -/

namespace Sys2Proof.Machine

/-! ## Small operations -/

def Ctx.seg (c : Ctx) (n : Nat) : Option Seg := tabFind c.segs n
def Ctx.putSeg (c : Ctx) (n : Nat) (x : Seg) : Ctx := { c with segs := tabInsert c.segs n x }

/-- The segment takes contributions: OPEN or REPLAYING. -/
def Seg.taking (x : Seg) : Bool := x.sstate == 0 || x.sstate == 3

/-- A segment with nothing counted. -/
def segBlank (expect : List (Nat × Nat)) : Seg where
  got := 0
  expect := (expect.map fun e => 2 ^ e.1).sum
  gen := false
  sstate := 0
  count := 0
  slots := []
  resets := 0
  resetAt := none
  due := false
  squared := false

/-- An outgoing message that nothing has granted. -/
def sendBlank (dest stage number member : Nat) : CSend where
  dest := dest
  stage := stage
  number := number
  member := member
  handle := none
  gen := false
  sent := false
  again := false
  done := false

/-- A granted message of which nothing has arrived. -/
def recvBlank (sender stage number member now : Nat) (gen : Bool) : CRecv where
  sender := sender
  stage := stage
  number := number
  member := member
  gen := gen
  cells := []
  head := none
  first := now
  last := now
  off := 0
  applied := 0
  counted := false

/-- The granted message of a sender by number. -/
def Ctx.recvOf (c : Ctx) (sender stage number : Nat) : Option CRecv :=
  c.recv.find? fun r => r.sender == sender && r.stage == stage && r.number == number

/-- Change the entries of one granted message. -/
def Ctx.mapRecv (c : Ctx) (p : CRecv → Bool) (f : CRecv → CRecv) : Ctx :=
  { c with recv := c.recv.map fun r => if p r then f r else r }

/-- Change the entries of outgoing messages. -/
def Ctx.mapSend (c : Ctx) (p : CSend → Bool) (f : CSend → CSend) : Ctx :=
  { c with send := c.send.map fun x => if p x then f x else x }

/-- Make sure that an outgoing message is listed. -/
def Ctx.ensureSend (c : Ctx) (dest stage number : Nat) : Ctx :=
  if c.send.any fun x => x.dest == dest && x.stage == stage && x.number == number then c
  else { c with send := c.send ++ [sendBlank dest stage number 0] }

/-- A member of this node whose data lies in pool memory. A seat sends its reduction segments itself (R293). -/
def CMember.localSource (m : CMember) : Bool :=
  match dOp m.issue.desc, m.issue.who with
  | 0x20, .window _ => true
  | 0x20, .seat _ => false
  | _, _ => !seatMem (dSrc m.issue.desc)

/-- A seat's endpoint. -/
def seatEndpoint (ep : Nat) : Bool := decide (0x4000 ≤ ep)

/-- The nodes that a partial of a stage from a sender covers (R298, R306). -/
def Shape.covered (h : Shape) (sender stage : Nat) : List Nat :=
  let i := indexIn h.racks (sender / 8)
  let rack (r : Nat) : List Nat := (List.range h.sg).map fun j => h.node r j
  if stage ≤ 1 then [sender]
  else if stage = 9 then
    if h.p2 ≤ i then rack i else ((List.range h.rg).filter fun r => r != h.i).flatMap rack
  else
    let b := stage - 2
    ((List.range h.rg).filter fun r => (if h.p2 ≤ r then r - h.p2 else r) / 2 ^ b == i / 2 ^ b).flatMap rack

/-- Declare a sender missing (R303): its segments no longer wait for it, and the result lacks what its messages cover. Log entry 113 (DEDUCED). -/
def State.declareMissing (s : State) (k : Nat) (ep stage : Nat) : State :=
  match s.ctx k with
  | none => s
  | some c =>
    if c.missing.contains ep then s
    else
      let lacks := if stage = 0 then [ep] else (s.shape c).covered ep stage
      (s.setCtx k { c with missing := c.missing ++ [ep], miss := lacks.foldl addOnce c.miss }).eventMissing c ep

/-! ## The accumulator (R332 to R334, R352) -/

/-- Apply addends of `n` contributions each to consecutive slots from `i`; `room` is the wide slots left. The answer says whether
every promotion found one. -/
def State.addElems (code n : Nat) : List (Addend × Nat) → Nat → Nat → Tab ASlot → State → Bool × Tab ASlot × State
  | [], _, _, t, s => (true, t, s)
  | (a, len) :: r, i, room, t, s =>
    let x := tabGet ASlot.reset t i
    let y := x.add a n
    let up := decide (x.st ≠ .promoted ∧ y.st = .promoted)
    if up ∧ room = 0 then (false, t, s)
    else State.addElems code n r (i + 1) (if up then room - 1 else room) (tabSet ASlot.reset t i y) (s.countAddend code len x y a)

/-- The wide slots that a segment's promotions may take. -/
def State.roomFor (s : State) (x : Seg) : Nat := if x.sstate = 3 then s.wideFreeAll else s.wideFree

/-- Clear a segment's slots, count and bitmap, and flip its generation. -/
def Seg.cleared (x : Seg) : Seg := { x with got := 0, count := 0, slots := [], gen := !x.gen }

/-- Drop what has arrived of a segment's messages; the next generation is expected. -/
def Ctx.clearRecv (c : Ctx) (n : Nat) (gen : Bool) : Ctx :=
  c.mapRecv (fun r => r.number == n) fun r => { r with cells := [], head := none, applied := 0, counted := false, gen := gen }

/-- A segment is no longer counted for any member. -/
def Ctx.uncount (c : Ctx) (n : Nat) : Ctx := { c with tray := c.tray.filter fun q => q.seg != n }

/-- The senders of a segment that were granted it, with their stages. -/
def Ctx.sendersOf (c : Ctx) (n : Nat) : List CRecv := c.recv.filter fun r => r.number == n && !c.missing.contains r.sender

/-- Reset a segment (R297): cleared, its generation flipped, a REPLAY grant to every sender of it. -/
def State.resetSeg (s : State) (k n : Nat) (counted : Bool) : State :=
  match s.ctx k with
  | none => s
  | some c =>
    match c.seg n with
    | none => s
    | some x =>
      let y := { x.cleared with resets := if counted then x.resets + 1 else x.resets, resetAt := some s.now, due := false }
      let c1 := ((c.putSeg n y).clearRecv n y.gen).uncount n
      (c1.sendersOf n).foldl (fun t r => t.sendReplay k c1 r.sender r.stage y.gen n 0) (s.setCtx k c1)

/-- Insert a deferred segment in the order of the context's admission and the segment number (R353). -/
def State.insertDefer (s : State) (k n : Nat) : State :=
  let key (e : Nat × Nat) : Nat := ((s.ctx e.1).map fun c => c.admitted).getD 0
  let before (a b : Nat × Nat) : Bool := decide (key a < key b ∨ (key a = key b ∧ a.2 < b.2))
  let l := s.col.defers
  s.setCol { s.col with defers := (l.takeWhile fun e => before e (k, n)) ++ (k, n) :: l.dropWhile fun e => before e (k, n) }

/-- Defer a segment (R353). A reset of the same cycle is one with the deferral, and is not counted against CHECK_RETRIES (R340).
A deferred segment does not count against AHEAD (DEDUCED, log entry 112). -/
def State.deferSeg (s : State) (k n : Nat) : State :=
  match s.ctx k with
  | none => s
  | some c =>
    match c.seg n with
    | none => s
    | some x =>
      if x.sstate = 2 then s else
      let again := x.resetAt == some s.now
      let y := { x.cleared with gen := if again then x.gen else !x.gen, sstate := 2, due := false, resets := x.resets - b2n again }
      let c0 := { c with replaying := if c.replaying = some n then none else c.replaying }
      let c1 := ((c0.putSeg n y).clearRecv n y.gen).uncount n
      ((s.setCtx k c1).insertDefer k n).bump (R.eruCount 1)

/-- A check mismatch (R297): the segment is reset, or the reset is put off within one operation timeout of the last; after
CHECK_RETRIES resets the senders are missing. -/
def State.checkSeg (s : State) (k n : Nat) (sender stage : Nat) : State :=
  match s.ctx k with
  | none => s
  | some c =>
    match c.seg n with
    | none => s
    | some x =>
      if s.fld R.xfrCfg 8 4 ≤ x.resets then
        ((s.declareMissing k sender stage).raiseFault 46 k 1 0).resetSeg k n false
      else if x.resetAt.any fun t => decide (s.now < t + s.opTimeout) then
        s.setCtx k (c.putSeg n { x with due := true })
      else ((s.resetSeg k n true).bump (R.colCount 4)).raiseOfCtx k 45

/-- Store the slots of a segment after some addends; a promotion that found no wide slot defers it (R353, R360). -/
def State.putSlots (s : State) (k n : Nat) (r : Bool × Tab ASlot × State) : Bool × State :=
  match s.ctx k with
  | none => (false, s)
  | some c =>
    match c.seg n with
    | none => (false, s)
    | some x =>
      let t := r.2.2.setCtx k (c.putSeg n { x with slots := r.2.1 })
      if r.1 then (true, t) else (false, (t.deferSeg k n).raiseLimited 48 0xFFFF 0)

/-- The bytes of each element of a format, for the lane cycles. -/
def elemLen (code : Nat) : Nat := elemBits code / 8

/-- The elements of a whole segment image in a format other than CF. -/
def imageElems (code n : Nat) (img : List Byte) : List (Addend × Nat) :=
  (List.range n).map fun i => (imageAddend code img i, elemLen code)

/-- The lengths of the fields that addends take in CF. -/
def cfElems (es : List Addend) : List (Addend × Nat) :=
  (blocks32 (es.length / 16 + 1) es).flatMap fun b => b.map fun e => (e, (cfField false (cfBase b) e).2.length)

/-! ## Counting (R338) -/

/-- A contribution counts: its GOT bit, and COUNT by `n`. -/
def State.countSeg (s : State) (k seg bit0 n : Nat) : State :=
  s.modCtx k fun c =>
    match c.seg seg with
    | some x => c.putSeg seg { x with got := x.got ||| 2 ^ bit0, count := x.count + n }
    | none => c

/-- A member's segment counts: its bytes and checks (R305). A seat's may count before its descriptor has joined. -/
def State.countMember (s : State) (k ep seg bytes xor : Nat) : State :=
  s.modCtx k fun c =>
    if c.tray.any fun q => q.ep == ep && q.seg == seg then c
    else { c with tray := c.tray ++ [{ ep := ep, seg := seg, bytes := bytes, xor := xor }] }

/-- The XOR of the first 8 bytes of checks. -/
def xorChecks (l : List (BitVec 128)) : Nat := l.foldl (fun a x => a ^^^ (x.toNat % 2 ^ 64)) 0

/-- A MEMBER RED_IN whose every segment was counted at this node's tray completes OK (R305). -/
def State.closeCounted (s : State) (k : Nat) : State :=
  match s.ctx k with
  | none => s
  | some c =>
    let full (m : CMember) : Bool := !m.closed && decide (c.segTotal ≤ (c.trayOf m.ep).length)
    let s1 := s.setCtx k { c with members := c.members.map fun m => if full m then { m with closed := true } else m }
    (c.members.filter full).foldl (fun t m =>
      t.completeAt m.issue { okComp with bytes := dLen m.issue.desc, value := c.trayXor m.ep } t.now) s1

/-! ## Contributions from pool memory (R305, R343) -/

/-- The bytes of a member's segment, or why they cannot be had. -/
def State.memberBytes (s : State) (m : CMember) (n : Nat) : Except Answer (List Byte) :=
  let d := m.issue.desc
  let len := segBytes (dFormat d) (cElems d) n
  let at0 := dSrc d + segOffset (dFormat d) n
  s.getBytes (dPart d) at0 len

/-- A member of this node cannot contribute: missing, with its own answer. -/
def State.failMember (s : State) (k : Nat) (m : CMember) (a : Answer) : State :=
  (s.modCtx k fun c => { c with members := c.members.map fun x => if x.ep = m.ep then { x with fail := some a } else x }).declareMissing
    k m.ep 0

/-- Apply one local member's segment. -/
def State.applyLocal (s : State) (k n bit0 : Nat) (m : CMember) : State :=
  match s.ctx k with
  | none => s
  | some c =>
    match c.seg n with
    | none => s
    | some x =>
      if ! x.taking ∨ x.got.testBit bit0 ∨ c.missing.contains m.ep then s
      else
        let code := dFormat m.issue.desc
        match s.memberBytes m n with
        | .error a => s.failMember k m a
        | .ok b =>
          let s := s.tellReads (dPart m.issue.desc) (dSrc m.issue.desc + segOffset code n) b.length
          let len := segElems (cElems m.issue.desc) n
          let parsed : Option (Nat × List (Addend × Nat)) :=
            if code = 0x1F then (cfReadImage false len b).map fun r => (r.1, cfElems r.2) else some (1, imageElems code len b)
          match parsed with
          | none => s.failMember k m ⟨11, 22⟩
          | some (cnt, es) =>
            if 65535 < x.count + cnt then s.failMember k m ⟨11, 22⟩
            else
              let r := s.putSlots k n (State.addElems code cnt es 0 (s.roomFor x) x.slots s)
              if r.1 then
                (r.2.countSeg k n bit0 cnt).countMember k m.ep n b.length ((messageChunks b).foldl (fun a q => a ^^^ crc64 q) 0)
              else r.2

/-- Apply what the local members have not contributed yet. -/
def State.applyLocals (s : State) (k : Nat) : State :=
  match s.ctx k with
  | none => s
  | some c =>
    let tray := (s.shape c).trayBits s.nodeId
    let todo := c.segs.flatMap fun e => (tray.filterMap fun b =>
      (c.members.find? fun m => m.ep == b.2 && m.localSource).map fun m => (e.1, b.1, m))
    todo.foldl (fun t e => t.applyLocal k e.1 e.2.1 e.2.2) s

/-! ## Grants (R293, R294, R337) -/

/-- The reassembly cells that a message of a format may take. -/
def reasmCells (code stage : Nat) : Nat :=
  if stage ≠ 0 ∨ code = 0x1F then 650
  else if isMx code then (if elemBits code = 8 then 17 else if elemBits code = 6 then 13 else 9)
  else 0

/-- The number of data cells from the first on that have arrived. -/
def contiguous (cells : Tab Line) : Nat → Nat → Nat
  | 0, k => k
  | f + 1, k => if (tabFind cells (1 + k)).isSome then contiguous cells f (k + 1) else k

/-- The reassembly cells that a granted message holds: those of its worst case not yet applied (R337). -/
def Ctx.recvCells (c : Ctx) (r : CRecv) : Nat :=
  if r.counted ∨ c.code ≠ 0x20 then 0
  else
    let n := reasmCells (dFormat c.desc) r.stage
    match r.head with
    | some h => (if n = 650 then (min 41600 (4096 * bytesAt h.payload 12 2) + 63) / 64 else n) - contiguous r.cells n 0
    | none => n

/-- The reassembly cells reserved (ERU_REASM_USED). -/
def State.reasmUsed (s : State) : Nat := (s.col.ctxs.map fun e => (e.2.recv.map e.2.recvCells).sum).sum

/-- The segments that a sender was granted and that are not complete here. -/
def Ctx.outstanding (c : Ctx) (sender : Nat) : Nat :=
  (c.recv.filter fun r => r.sender == sender && (c.seg r.number).any Seg.taking).length

/-- The senders and stages that a segment still lacks a grant for. -/
def Ctx.ungranted (c : Ctx) (h : Shape) (node n : Nat) (x : Seg) : List (Nat × Nat) :=
  if ! x.taking then []
  else ((h.fate node c.segTotal n).expect.filter fun e =>
    !x.got.testBit e.1 && !c.missing.contains e.2 && (stageOfBit e.1 != 0 || seatEndpoint e.2) &&
      (c.recvOf e.2 (stageOfBit e.1) n).isNone).map fun e => (e.2, stageOfBit e.1)

/-- Grant one sender one segment where AHEAD and the reassembly store allow; the grants are gathered as sender, stage, first,
count and generation. A Rehearsal context's senders are granted one segment a turn (R317). -/
def State.grantSeg (s : State) (k n : Nat) (x : Seg) (e : Nat × Nat) (runs : List (Nat × Nat × Nat × Nat × Bool)) :
    State × List (Nat × Nat × Nat × Nat × Bool) :=
  match s.ctx k with
  | none => (s, runs)
  | some c =>
    if s.ahead ≤ c.outstanding e.1 ∨ 65536 < s.reasmUsed + reasmCells (dFormat c.desc) e.2 then (s, runs)
    else
      let joins (r : Nat × Nat × Nat × Nat × Bool) : Bool :=
        !c.rehearsal && r.1 == e.1 && r.2.1 == e.2 && r.2.2.1 + r.2.2.2.1 == n && decide (r.2.2.2.1 < 256) && r.2.2.2.2 == x.gen
      let runs1 := if runs.any joins then runs.map fun r => if joins r then (r.1, r.2.1, r.2.2.1, r.2.2.2.1 + 1, r.2.2.2.2) else r
        else runs ++ [(e.1, e.2, n, 1, x.gen)]
      (s.setCtx k { c with recv := c.recv ++ [recvBlank e.1 e.2 n 0 s.now x.gen] }, runs1)

/-- Grant what may be granted of a reduction's pass. -/
def State.grantRed (s : State) (k : Nat) : State :=
  match s.ctx k with
  | none => s
  | some c =>
    if ! s.mayGrant then s
    else
      let h := s.shape c
      let todo := c.segs.flatMap fun e => (c.ungranted h s.nodeId e.1 e.2).map fun g => (e.1, e.2, g)
      let r := todo.foldl (fun (a : State × List (Nat × Nat × Nat × Nat × Bool)) t => a.1.grantSeg k t.1 t.2.1 t.2.2 a.2) (s, [])
      r.2.foldl (fun t g => t.sendGrant k c g.1 g.2.1 (4 * b2n g.2.2.2.2) g.2.2.1 g.2.2.2.1 0 0) r.1

/-! ## Completion of a segment (R339, R340, R350) -/

/-- The slots as addends, in element order. -/
def Seg.values (x : Seg) (n : Nat) : List Addend := (List.range n).map fun i => (tabGet ASlot.reset x.slots i).asAddend

/-- Add the squares of a segment to a norm accumulator. -/
def normOf (es : List Addend) (acc : Nat) (bad : Bool) : Nat × Bool :=
  es.foldl (fun a e => match e with
    | .finite v => (a.1 + normSquare v, a.2)
    | .special _ => (a.1, true)
    | _ => a) (acc, bad)

/-- Every expected sender is counted or missing. -/
def Ctx.segReady (c : Ctx) (h : Shape) (node n : Nat) (x : Seg) : Bool :=
  x.taking && (h.fate node c.segTotal n).expect.all fun e => x.got.testBit e.1 || c.missing.contains e.2

/-- A slot's COUNT differs from the record's (R339). -/
def Seg.countOff (x : Seg) (n : Nat) : Bool := (List.range n).any fun i => (tabGet ASlot.reset x.slots i).count != x.count

/-- Complete a segment: its counts checked, the norm taken for this node's shard, DONE to each sender. -/
def State.completeSeg (s : State) (k n : Nat) : State :=
  match s.ctx k with
  | none => s
  | some c =>
    match c.seg n with
    | none => s
    | some x =>
      let len := segElems c.elems n
      if x.countOff len then ((s.bump (R.eruCount 6)).raiseFault 51 k 1 0).deferSeg k n
      else
        let own := ((s.shape c).fate s.nodeId c.segTotal n).send.isNone
        let q := if own && !x.squared then normOf (x.values len) c.norm c.normBad else (c.norm, c.normBad)
        let c1 := { c.putSeg n { x with sstate := 1, squared := true } with norm := q.1, normBad := q.2 }
        (c1.sendersOf n).foldl (fun t r => t.sendDone k c1 r.sender r.stage n 0) (s.setCtx k c1)

/-- Complete every segment that is ready. -/
def State.completeSegs (s : State) (k : Nat) : State :=
  match s.ctx k with
  | none => s
  | some c =>
    let h := s.shape c
    ((c.segs.filter fun e => c.segReady h s.nodeId e.1 e.2).map fun e => e.1).foldl (fun t n => t.completeSeg k n) s

/-! ## Partials sent on (R295, R298, R303) -/

/-- FLAGS of a head: SEALED, INCOMPLETE, OVERFLOW. -/
def headFlagsOf (wrap : Bool) (miss : List Nat) : Nat := b2n wrap + 2 * b2n (!miss.isEmpty) + 4 * b2n (decide (12 < miss.length))

/-- Send a PARTIAL_CF message of `bytes` under a grant. -/
def State.sendPartial (s : State) (k : Nat) (c : Ctx) (x : CSend) (bytes : List Byte) (contribs e fmt : Nat) : State :=
  match x.handle with
  | none => s
  | some hd =>
    let chunks := messageChunks bytes
    let wrap := s.sealedKey c.part
    let r := if wrap then s.takeIv c.part 0 chunks.length else (0, s)
    let tag := hd + x.number % 256 * 256
    let f : Frame := { part := c.part, keyId := 0, member := 0, typ := 0x19, src := s.nodeId, tag := tag, time := s.now % 2 ^ 32
                       number := x.number, inst := c.inst, group := c.group, stage := x.stage }
    let head := contribHead c.group c.inst x.number x.stage (headFlagsOf wrap c.miss) chunks.length contribs e fmt c.miss
      (if wrap then r.1.toNat else 0)
    let cells := s.messageCells c 0x19 x.dest s.nodeId tag x.again x.gen wrap head (s.sealFrame f wrap r.1 chunks)
    let s1 := r.2.modCtx k fun d => d.mapSend (fun y => y.dest == x.dest && y.stage == x.stage && y.number == x.number)
      fun y => { y with sent := true }
    cells.foldl (fun t y => t.injectCell y) s1

/-- Send every granted partial whose segment is complete here. -/
def State.sendPartials (s : State) (k : Nat) : State :=
  match s.ctx k with
  | none => s
  | some c =>
    if s.frozenNow then s
    else
      let ready := c.send.filter fun x => x.handle.isSome && !x.sent && !x.done && !c.missing.contains x.dest &&
        (c.seg x.number).any fun g => g.sstate == 1
      (s.turnOfCtx c ready).foldl (fun t x =>
        match c.seg x.number with
        | some g => t.sendPartial k c x (cfEncode false (g.values (segElems c.elems x.number))) g.count c.elems (dFormat c.desc)
        | none => t) s

/-! ## RED_OUT (R301, R349) -/

/-- The rounding that a selector names under a version's ARITH section. -/
def PlateV.rounding (v : Option PlateV) (sel : Nat) : Rounding :=
  let dflt := match v with
    | some x => bits (x.word 5 2) 0 2
    | none => 0
  match (if sel = 0 then dflt + 1 else sel) with
  | 2 => .rtz
  | 3 => .sr
  | _ => .rne

/-- The image of a shard segment under a RED_OUT descriptor. -/
def State.outImage (s : State) (c : Ctx) (d : Line) (n : Nat) (x : Seg) : List Byte :=
  let es := x.values (segElems c.elems n)
  let code := dFormat d
  if code = 0x1F then cfImage false es x.count 41664
  else roundImage code es (PlateV.rounding (s.versionNamed c.version) (dMod d % 4)) fun i => philox (dArg d 8 8) (1024 * n + i) (dArg d 4 4) 1

/-- The first segment of this node's shard. -/
def State.shardFirst (s : State) (c : Ctx) : Nat :=
  let h := s.shape c
  match h.ownShard with
  | some x => h.shardFrom c.segTotal x
  | none => 0

/-- The first segment beyond this node's shard. -/
def State.shardEnd (s : State) (c : Ctx) : Nat :=
  let h := s.shape c
  match h.ownShard with
  | some x => h.shardFrom c.segTotal (x + 1)
  | none => 0

/-- The bytes that a RED_OUT of this node's shard writes. -/
def State.outBytes (s : State) (c : Ctx) (code : Nat) : Nat :=
  let a := s.shardFirst c
  let b := s.shardEnd c
  if b ≤ a then 0 else segOffset code (b - 1 - a) + segBytes code c.elems (b - 1)

/-- Write one offered segment. -/
def State.writeOut (s : State) (k n : Nat) (d : Line) : State :=
  match s.ctx k with
  | none => s
  | some c =>
    match c.seg n with
    | none => s
    | some x =>
      let img := s.outImage c d n x
      let at0 := dDst d + segOffset (dFormat d) (n - s.shardFirst c)
      match s.putBytes (dPart d) at0 img with
      | .error a => (s.refusedPut a).modCtx k fun y => { y with outFail := some a }
      | .ok s1 => s1.modCtx k fun y => { y with outs := tabInsert y.outs n img }

/-- VALUE of a RED_OUT: the XOR of the CRC-64s of its 4,096-byte chunks. -/
def outValue (outs : Tab (List Byte)) : Nat :=
  let b := outs.flatMap fun e => e.2
  (cutBytes 4096 (b.length / 4096 + 1) b).foldl (fun a q => a ^^^ crc64 q) 0

/-- Attach a RED_OUT to its context: an output that cannot be written refuses it, and its passes go without output. -/
def State.attachOut (s : State) (k : Nat) (c : Ctx) (i : Issue) : State :=
  if c.consumer.isSome ∨ c.byUpdate then s.completeAt i { okComp with status := 11, reason := 50 } s.now
  else
    let n := s.outBytes c (dFormat i.desc)
    match (if n = 0 then none else match s.regionFor (dPart i.desc) (dDst i.desc) n true with
      | .error a => some a
      | .ok _ => none) with
    | some a => (s.setCtx k { c with outFail := some a }).completeAt i { okComp with status := a.status, reason := a.reason } s.now
    | none => s.setCtx k { c with consumer := some i }

/-! ## Passes (R299, R300, R353, R354) -/

/-- Begin the pass at `passFrom`. -/
def State.beginPass (s : State) (k : Nat) : State :=
  match s.ctx k with
  | none => s
  | some c =>
    let h := s.shape c
    let len := min c.reserved (c.segTotal - c.passFrom)
    let ns := (List.range len).map fun i => c.passFrom + i
    let segs := ns.foldl (fun t n => tabInsert t n (segBlank (h.fate s.nodeId c.segTotal n).expect)) []
    let c1 := { c with segs := segs, passLen := len, passAt := s.now, state := .active }
    s.setCtx k (ns.foldl (fun d n => match (h.fate s.nodeId c.segTotal n).send with
      | some (st, dest) => d.ensureSend dest st n
      | none => d) c1)

/-- The segments of the pass that are not deferred. -/
def Ctx.liveSegs (c : Ctx) : Tab Seg := c.segs.filter fun e => e.2.sstate != 2

/-- A live segment is complete, and counted where it was sent. -/
def Ctx.segDrained (c : Ctx) (e : Nat × Seg) : Bool :=
  e.2.sstate == 1 && (c.send.filter fun x => x.number == e.1).all fun x => x.done || c.missing.contains x.dest

/-- The shard segments among the live ones. -/
def State.ownSegs (s : State) (c : Ctx) : List Nat :=
  (c.liveSegs.filter fun e => ((s.shape c).fate s.nodeId c.segTotal e.1).send.isNone).map fun e => e.1

/-- Free the live segments of a drained pass: their slots, and what was kept to send again. -/
def State.freePass (s : State) (k : Nat) : State :=
  match s.ctx k with
  | none => s
  | some c =>
    let gone := c.liveSegs.map fun e => e.1
    let c1 := { c with segs := c.segs.filter fun e => e.2.sstate == 2, send := c.send.filter fun x => !gone.contains x.number
                       replaying := none, state := .active }
    if c.replaying.isSome then (s.setCtx k c1).bump (R.eruCount 2) else s.setCtx k c1

/-- Hand a drained pass's segments to a NORM's value: the value of each NORM that names the reduction (R308, R350). -/
def State.handNorm (s : State) (c : Ctx) : State :=
  let v : Value := { sum := c.norm, tmax := 0, bad := c.normBad, covers := 1 }
  let takes (d : Ctx) : Bool := d.code == 0x26 && d.part == c.part && d.group == c.group && cRedInst d.desc == c.inst && d.own.isNone
  s.setCol { s.col with ctxs := s.col.ctxs.map fun e => (e.1, if takes e.2 then { e.2 with own := some v } else e.2) }

/-- Close a reduction after its last pass (R304, R305): every record, the NORMs and UPDATE that depend on it, then FREE. -/
def State.closeRed (s : State) (k : Nat) (c : Ctx) : State :=
  let h := s.shape c
  let absent := h.absentees s.nodeId c.miss GMember.contributes
  let m := h.members.length
  let a : Answer := c.fail.getD (if c.miss.isEmpty then ⟨0, 0⟩ else ⟨1, 0⟩)
  let s1 := (s.freeCtx k c).handNorm c
  let s2 := s1.recordOpens k c m a 0 0 absent s1.now
  let s3 := match c.consumer with
    | some i =>
      if dOp i.desc = 0x21 then
        let b := match c.outFail with
          | some f => if a.status = 0 then f else a
          | none => a
        s2.recordCol k m i b ((c.outs.map fun (e : Nat × List Byte) => e.2.length).sum) (outValue c.outs) absent s2.now
      else s2
    | none => s2
  let s4 := c.openMembers.foldl (fun t x =>
    let b := match x.fail with
      | some f => f
      | none => if c.segTotal ≤ (c.trayOf x.ep).length then ⟨0, 0⟩ else ⟨1, 0⟩
    t.recordCol k m x.issue b (c.trayBytes x.ep) (c.trayXor x.ep) absent t.now) s3
  if a.status = 0 then s4.ctxEndsUpdate k a 0
  else
    let r := s4.writeMap m absent
    if s4.upd.queue.any fun u => u.ctx == some k then r.2.ctxEndsUpdate k a r.1 else s4

/-- One step of a reduction's drain: offer, hand over, free, and go on to the next pass or to the end. The answer says whether it
moved. -/
def State.drainStepRed (s : State) (k : Nat) : Bool × State :=
  match s.ctx k with
  | none => (false, s)
  | some c =>
    match c.state with
    | .active =>
      if c.segs.isEmpty then
        let c1 := { c with passes := c.passes + 1, passFrom := c.passFrom + c.passLen, passLen := 0 }
        if c.segTotal ≤ c1.passFrom then (true, (s.setCtx k { c1 with state := .closing }).closeRed k c1)
        else (true, (s.setCtx k c1).beginPass k)
      else if c.liveSegs.isEmpty ∨ ! c.liveSegs.all c.segDrained then (false, s)
      else (true, s.setCtx k { c with state := .draining, offered := s.ownSegs c, passAt := s.now })
    | .draining =>
      if c.offered.isEmpty then (true, s.freePass k)
      else if c.outFail.isSome then (true, s.setCtx k { c with offered := [] })
      else match c.consumer with
        | some i =>
          if dOp i.desc = 0x21 then
            (true, (c.offered.foldl (fun t n => t.writeOut k n i.desc) s).modCtx k fun d => { d with offered := [] })
          else (false, s)
        | none => (false, s)
    | _ => (false, s)

/-- Drain as far as the context goes; `fuel` bounds the steps. -/
def State.drainRed (k : Nat) : Nat → State → State
  | 0, s => s
  | f + 1, s =>
    let s1 := ((s.applyLocals k).completeSegs k).closeCounted k
    let s2 := (s1.grantRed k).sendPartials k
    let r := s2.drainStepRed k
    if r.1 then State.drainRed k f r.2 else r.2

/-- Bring a reduction as far as what has arrived lets it go. -/
def State.settleRed (s : State) (k : Nat) : State :=
  match s.ctx k with
  | none => s
  | some c => State.drainRed k (4 * c.segTotal + 8) s

end Sys2Proof.Machine
end

