-- ==== Sys2Proof/Machine/Values.lean ====
section
/-! DEFINITION. The one value that each node exchanges in a NORM or a BARRIER (R306 to R308, R350, R351), and the aligned release
(R465, R466). -/

namespace Sys2Proof.Machine

/-! ## The levels (R306) -/

/-- What a node sends and what it ends with, as far as what it has lets it go. -/
structure Flowed (α : Type) where
  sends  : List (Nat × Nat × α)
  result : Option α

/-- The plane steps from bit `b`: the sum so far, what is sent, and the sum after the last step. -/
def Shape.planeFlow {α : Type} (h : Shape) (comb : α → α → α) (got : Nat → Nat → Option α) (gone : Nat → Bool) :
    Nat → Nat → α → List (Nat × Nat × α) → Flowed α
  | 0, _, v, acc => { sends := acc, result := some v }
  | f + 1, b, v, acc =>
    let p := h.node (h.i ^^^ 2 ^ b) h.j
    let acc1 := acc ++ [(2 + b, p, v)]
    match got (2 + b) p with
    | some w => h.planeFlow comb got gone f (b + 1) (comb v w) acc1
    | none => if gone p then h.planeFlow comb got gone f (b + 1) v acc1 else { sends := acc1, result := none }

/-- The exchange of one value per node: `got` is what arrived by stage and sender, `gone` a missing sender. -/
def Shape.flow {α : Type} (h : Shape) (comb : α → α → α) (own : Option α) (got : Nat → Nat → Option α) (gone : Nat → Bool) : Flowed α :=
  match own with
  | none => { sends := [], result := none }
  | some v =>
    let peers := ((List.range h.sg).filter fun j2 => j2 != h.j).map fun j2 => h.node h.i j2
    let rackSends := peers.map fun p => (1, p, v)
    if ! peers.all fun p => gone p || (got 1 p).isSome then { sends := rackSends, result := none }
    else
      let sum := peers.foldl (fun a p => match got 1 p with
        | some w => comb a w
        | none => a) v
      if h.p2 ≤ h.i then
        let t := h.node (h.i - h.p2) h.j
        { sends := rackSends ++ [(9, t, sum)], result := if (got 9 t).isNone && gone t then some sum else got 9 t }
      else if h.i + h.p2 < h.rg then
        let f := h.node (h.i + h.p2) h.j
        if (got 9 f).isNone && !gone f then { sends := rackSends, result := none }
        else
          let r := h.planeFlow comb got gone h.d 0 (match got 9 f with
            | some w => comb sum w
            | none => sum) rackSends
          match r.result with
          | some x => { r with sends := r.sends ++ [(9, f, x)] }
          | none => r
      else h.planeFlow comb got gone h.d 0 sum rackSends

/-- The senders that a node expects values from, with their stages. -/
def Shape.valueSenders (h : Shape) : List (Nat × Nat) :=
  let peers := ((List.range h.sg).filter fun j2 => j2 != h.j).map fun j2 => (h.node h.i j2, 1)
  if h.p2 ≤ h.i then peers ++ [(h.node (h.i - h.p2) h.j, 9)]
  else
    peers ++ (if h.i + h.p2 < h.rg then [(h.node (h.i + h.p2) h.j, 9)] else []) ++
      (List.range h.d).map fun b => (h.node (h.i ^^^ 2 ^ b) h.j, 2 + b)

/-! ## The values of a NORM and a BARRIER -/

/-- Sum, largest stamp, flag and coverage. -/
def Value.fold (a b : Value) : Value where
  sum := a.sum + b.sum
  tmax := max a.tmax b.tmax
  bad := a.bad || b.bad
  covers := a.covers + b.covers

/-- The value of a stage and sender that has arrived. -/
def Ctx.gotValue (c : Ctx) (stage sender : Nat) : Option Value :=
  (c.values.find? fun g => g.stage == stage && g.sender == sender).map fun g => g.value

/-- A NORM's value as the one element of its norm-domain stream (R350). -/
def Value.element (v : Value) : Addend := if v.bad then .special 1 else if v.sum = 0 then .zero else .finite v.sum

/-- The bytes of a value's message (R307). -/
def Ctx.valueBytes (c : Ctx) (v : Value) : List Byte :=
  if c.code = 0x24 then toBytes (packBytes 512 [(0, 4, v.sum), (8, 8, v.tmax)]) 64 else cfEncode true [v.element]

/-- CONTRIBS of a value's head. -/
def Ctx.valueContribs (c : Ctx) (v : Value) : Nat := if c.code = 0x24 then v.sum else v.covers

/-- Read a value message's bytes. -/
def Ctx.readValue (c : Ctx) (b : List Byte) (contribs : Nat) : Option Value :=
  if c.code = 0x24 then
    if b.length < 64 then none
    else some { sum := ofBytes (b.take 4), tmax := ofBytes ((b.drop 8).take 8), bad := false, covers := contribs }
  else match cfDecodeAll true 1 b with
    | some [.finite v] => some { sum := v.toNat, tmax := 0, bad := false, covers := contribs }
    | some [.special _] => some { sum := 0, tmax := 0, bad := true, covers := contribs }
    | some _ => some { sum := 0, tmax := 0, bad := false, covers := contribs }
    | none => none

/-- Grant every expected sender its value: for a BARRIER at admission, for a NORM once this node's own value is formed. -/
def State.grantValues (s : State) (k : Nat) : State :=
  match s.ctx k with
  | none => s
  | some c =>
    if ! s.mayGrant ∨ c.own.isNone ∧ c.code = 0x26 then s
    else
      let todo := (s.shape c).valueSenders.filter fun e => !c.missing.contains e.1 && (c.recvOf e.1 e.2 0).isNone
      let s1 := s.setCtx k { c with recv := c.recv ++ todo.map fun e => recvBlank e.1 e.2 0 0 s.now false }
      todo.foldl (fun t e => t.sendGrant k c e.1 e.2 0 0 1 0 0) s1

/-- A BARRIER's own value: every local contributing member has arrived, or is missing. -/
def State.barrierOwn (s : State) (c : Ctx) : Option Value :=
  let locals := (s.shape c).contributors s.nodeId
  if locals.all fun x => c.missing.contains x.ep || c.members.any fun m => m.ep == x.ep then
    let here := c.members.filter fun m => !c.missing.contains m.ep
    some { sum := here.length, bad := false, covers := here.length
           tmax := if cPeriod c.desc = 0 then 0 else here.foldl (fun a m => max a m.stamp) 0 }
  else none

/-- A NORM's own value, once its reduction's last pass has drained here with nothing deferred (R308, R350). -/
def State.normOwn (s : State) (c : Ctx) : Option Value :=
  s.col.ctxs.findSome? fun e =>
    let d := e.2
    if d.code = 0x20 ∧ d.part = c.part ∧ d.group = c.group ∧ d.inst = cRedInst c.desc ∧ d.state = .draining ∧
        d.segTotal ≤ d.passFrom + d.passLen ∧ ¬ s.col.defers.any fun x => x.1 == e.1 then
      some { sum := d.norm, tmax := 0, bad := d.normBad, covers := 1 }
    else none

/-- Send the values that are known and granted. -/
def State.sendValues (s : State) (k : Nat) (sends : List (Nat × Nat × Value)) : State :=
  sends.foldl (fun t x =>
    match t.ctx k with
    | none => t
    | some c =>
      if c.missing.contains x.2.1 then t
      else
        let c1 := c.ensureSend x.2.1 x.1 0
        match c1.send.find? fun y => y.dest == x.2.1 && y.stage == x.1 with
        | some y =>
          if y.handle.isSome ∧ ! y.sent ∧ ! y.done ∧ ! t.frozenNow then
            (t.setCtx k c1).sendPartial k c1 y (c.valueBytes x.2.2) (c.valueContribs x.2.2) 1 0x1F
          else t.setCtx k c1
        | none => t) s

/-! ## Ends -/

/-- Write a NORM's result at a descriptor's DST_ADDR: the answer, the bytes and the CRC-64 (R351). -/
def State.writeNorm (s : State) (d : Line) (v : Value) : Answer × Nat × Nat × State :=
  let res := normResult v.sum v.bad
  let b := if dFormat d = 0x1F then natBytes v.sum 128 ++ res else res
  match s.putBytes (dPart d) (dDst d) b with
  | .error a => (a, 0, 0, s.refusedPut a)
  | .ok s1 => (⟨0, 0⟩, b.length, crc64 b, s1)

/-- The status of a NORM's result: it must cover every context node. -/
def State.normAnswer (s : State) (c : Ctx) (v : Value) : Answer :=
  if v.covers < (nodesOf (s.shape c).members).length ∨ ! c.miss.isEmpty then ⟨1, 0⟩ else if v.bad then ⟨15, 0⟩ else ⟨0, 0⟩

/-- The status of a BARRIER's result: the count of every contributing member. -/
def State.barrierAnswer (s : State) (c : Ctx) (v : Value) : Answer :=
  if v.sum = (s.shape c).contributing.length then ⟨0, 0⟩ else ⟨1, 0⟩

/-- Close a NORM with its result: written where each descriptor says, then every record and the UPDATEs that wait on it. -/
def State.closeNorm (s : State) (k : Nat) (c : Ctx) (v : Value) : State :=
  let h := s.shape c
  let a := s.normAnswer c v
  let absent := h.absentees s.nodeId c.miss fun _ => true
  let m := h.members.length
  let one (t : State) (i : Issue) : State :=
    let w := t.writeNorm i.desc v
    w.2.2.2.recordCol k m i (if w.1.status = 0 then a else w.1) w.2.1 w.2.2.1 absent w.2.2.2.now
  let s1 := (c.issue :: c.joined).foldl one (s.freeCtx k c)
  let s2 := c.openMembers.foldl (fun t x => one t x.issue) s1
  let nr := ofBytes ((normResult v.sum v.bad).take 4)
  if a.status = 1 then
    let r := s2.writeMap m absent
    r.2.gateOpens c a r.1 nr
  else s2.gateOpens c a 0 nr

/-- Close a BARRIER: every record at a time. -/
def State.closeBarrier (s : State) (k : Nat) (c : Ctx) (a : Answer) (time : Nat) : State :=
  let h := s.shape c
  let absent := h.absentees s.nodeId c.miss GMember.contributes
  let m := h.members.length
  let s1 := (s.freeCtx k c).recordOpens k c m a 0 0 absent time
  c.openMembers.foldl (fun t x => t.recordCol k m x.issue a 0 0 absent time) s1

/-- The advances of a step counter in this cycle. -/
def State.stepsNow (s : State) (k : Nat) : Nat :=
  match tabFind s.clk.stepped k with
  | some (c, n) => if c = s.clk.count then n else 0
  | none => 0

/-- Advance a step counter (R464). -/
def State.advanceStep (s : State) (d : Line) : State :=
  if cAdvance d then
    let off := R.clkStep + 8 * cStep d
    let s1 := s.setReg64 off ((s.reg64 off + 1) % 2 ^ 64)
    { s1 with clk := { s1.clk with stepped := tabInsert s1.clk.stepped (cStep d) (s.clk.count, s.stepsNow (cStep d) + 1) } }
  else s

/-- The release time of an aligned barrier (R466). -/
def releaseTime (d : Line) (tmax : Nat) : Nat := (tmax + cLead d * 1000 + cPeriod d - 1) / cPeriod d * cPeriod d

/-- A BARRIER's result is known: it completes, or waits for its release. -/
def State.endBarrier (s : State) (k : Nat) (c : Ctx) (v : Value) : State :=
  let a := s.barrierAnswer c v
  if a.status ≠ 0 ∨ cPeriod c.desc = 0 then s.closeBarrier k c a s.now
  else
    let r := releaseTime c.desc v.tmax
    if r < s.now then
      (((s.bump R.clkAlignLate).raiseLimited 74 0xFFFF 0).closeBarrier k c a s.now).advanceStep c.desc
    else s.setCtx k { c with state := .closing, result := some v, release := some r }

/-- BARRIER_RELEASE (R464, R466): at R, or at the resume time where R falls in a freeze. -/
def State.releaseBarrier (s : State) (k : Nat) : State :=
  match s.ctx k with
  | none => s
  | some c =>
    match c.release with
    | none => s
    | some r =>
      if s.now < r ∨ ! s.mayGrant then s
      else (s.closeBarrier k c ⟨0, 0⟩ r).advanceStep c.desc

/-- Bring a NORM or a BARRIER as far as what has arrived lets it go. -/
def State.settleValue (s : State) (k : Nat) : State :=
  match s.ctx k with
  | none => s
  | some c0 =>
    if ! c0.live then s
    else
      let c := if c0.own.isSome then c0 else { c0 with own := if c0.code = 0x24 then s.barrierOwn c0 else s.normOwn c0 }
      let r := (s.shape c).flow Value.fold c.own c.gotValue c.missing.contains
      let s1 := ((s.setCtx k c).grantValues k).sendValues k r.sends
      match s1.ctx k, r.result with
      | some c1, some v =>
        -- the values that others wait for are sent before the context ends; `fail` marks one past its timeout
        if c1.fail.isNone && c1.send.any fun x => !x.done && !c1.missing.contains x.dest then s1
        else if c1.code = 0x24 then s1.endBarrier k c1 v else s1.closeNorm k c1 v
      | _, _ => s1

end Sys2Proof.Machine
end

