-- ==== Sys2Proof/Machine/Contrib.lean ====
section
/-! DEFINITION. The cells of contribution messages as they arrive (R287, R295 to R297, R303, R337, R338, R342): CONTRIB and
PARTIAL_CF. -/

namespace Sys2Proof.Machine

/-- The granted message that a cell belongs to: the one that still waits, before one that was counted. -/
def Ctx.recvFor (c : Ctx) (src number8 : Nat) (tray : Bool) : Option CRecv :=
  let mine (r : CRecv) : Bool := r.sender == src && r.number % 256 == number8 && (r.stage == 0) == tray
  (c.recv.find? fun r => mine r && !r.counted).or (c.recv.find? mine)

/-- One granted message. -/
def CRecv.same (a b : CRecv) : Bool := a.sender == b.sender && a.stage == b.stage && a.number == b.number && a.member == b.member

/-- Change one granted message of a context. -/
def State.modRecv (s : State) (k : Nat) (r : CRecv) (f : CRecv → CRecv) : State := s.modCtx k fun c => c.mapRecv r.same f

/-- The granted message as it stands. -/
def State.recvNow (s : State) (k : Nat) (r : CRecv) : Option CRecv := (s.ctx k).bind fun c => c.recv.find? r.same

/-- The number of data cells of a message whose length does not depend on its stream: a member's segment in a format other than CF,
a BARRIER's value, the items of an A2A_DATA message (at least one cell). -/
def Ctx.dataCount (c : Ctx) (r : CRecv) : Option Nat :=
  if c.code = 0x24 then some 1
  else if c.code = 0x23 then r.head.map fun h => cellCount (max 1 (bytesAt h.payload 20 4 * cItem c.desc))
  else if c.code = 0x20 ∧ r.stage = 0 ∧ dFormat c.desc ≠ 0x1F then some (cellCount (segBytes (dFormat c.desc) c.elems r.number))
  else none

/-- Each data cell of the message is decoded on its own, in any order (R337); of any other segment, in stream order. -/
def Ctx.byCell (c : Ctx) (r : CRecv) : Bool := c.code == 0x20 && r.stage == 0 && dFormat c.desc != 0x1F && !isMx (dFormat c.desc)

/-- What the additional data of a message names. -/
def State.frameOf (s : State) (c : Ctx) (r : CRecv) (h : Cell) : Frame where
  part := c.part
  keyId := if c.code = 0x23 then 2 else if r.stage = 0 ∧ 0x4000 ≤ r.sender then 1 else 0
  member := s.seatMember c.part ((r.sender - 0x4000) % 16)
  typ := h.typ.toNat
  src := h.src.toNat
  tag := h.tag.toNat
  time := h.time.toNat
  number := r.number
  inst := c.inst
  group := c.group
  stage := if c.code = 0x23 then 0 else r.stage

/-- SEALED of a message's head (Tables 10-6, 10-14). -/
def Ctx.sealedBit (c : Ctx) (h : Cell) : Bool := bit h.payload (if c.code = 0x23 then 112 else 88)

/-- The elements and the norm domain of a message's CF stream. -/
def Ctx.streamElems (c : Ctx) (r : CRecv) : Nat := if c.code = 0x20 then segElems c.elems r.number else 1
def Ctx.normDomain (c : Ctx) : Bool := c.code == 0x26

/-- What a message gives once its cells are here: nothing yet, a mismatch, or its bytes and checks. -/
inductive Arrived where
  | waiting
  | mismatch
  | whole (bytes : List Byte) (checks : List (BitVec 128))
deriving DecidableEq, Repr

/-- Check a message of `m` data cells and `q` chunks. -/
def State.checkMessage (s : State) (c : Ctx) (r : CRecv) (h : Cell) (m q : Nat) : Arrived :=
  let wrap := s.sealedKey c.part
  let chunks := (List.range q).map fun j => chunkBytes r.cells m j
  let checks := (List.range q).map fun j => checkAt wrap r.cells q j
  match s.openFrame (s.frameOf c r h) wrap (BitVec.ofNat 96 (bytesAt h.payload 48 12)) chunks checks with
  | some b => .whole b checks
  | none => .mismatch

/-- A granted message as far as it has arrived (R295, R296, R342). -/
def State.arrived (s : State) (c : Ctx) (r : CRecv) : Arrived :=
  let wrap := s.sealedKey c.part
  match r.head with
  | none => .waiting
  | some h =>
    let q := bytesAt h.payload 12 2
    let trailed := (List.range (trailerCount wrap q)).all fun j => (tabFind r.cells (1 + 64 * q + j)).isSome
    let m := contiguous r.cells (64 * q) 0
    match c.dataCount r with
    | some n =>
      if q ≠ (n + 63) / 64 ∨ c.sealedBit h ≠ wrap then .mismatch
      else if m < n ∨ ! trailed then .waiting
      else s.checkMessage c r h n q
    | none =>
      if q = 0 ∨ 31 < q ∨ c.sealedBit h ≠ wrap then .mismatch
      else if m ≤ 64 * (q - 1) ∨ ! trailed then .waiting
      else
        let a := s.checkMessage c r h m q
        let raw := (List.range q).flatMap fun j => chunkBytes r.cells m j
        let ends := match cfDecode c.normDomain (c.streamElems r / 16 + 1) (c.streamElems r) raw with
          | some (_, rest) => decide (rest.length < 64)
          | none => false
        if a = .mismatch ∧ m < 64 * q ∧ (wrap ∨ ! ends) then .waiting else a

/-- A message's check failed (R297): its segment is reset, or a value is asked for again. -/
def State.badMessage (s : State) (k : Nat) (c : Ctx) (r : CRecv) : State :=
  let s1 := if s.sealedKey c.part then s.gcmFailed c.part else s
  if c.code = 0x20 then s1.checkSeg k r.number r.sender r.stage
  else
    let s2 := (s1.modRecv k r fun x => { x with cells := [], head := none, gen := !x.gen }).bump (R.colCount 4)
    (s2.raiseOfCtx k 45).sendReplay k c r.sender r.stage (!r.gen) r.number 0

/-- Take what a partial lacks over to this context (R303). -/
def State.takeMiss (s : State) (k : Nat) (r : CRecv) (h : Cell) : State :=
  s.modCtx k fun c =>
    let flags := bytesAt h.payload 11 1
    let more := (if flags.testBit 1 then headMiss h.payload else []) ++
      (if flags.testBit 2 then (s.shape c).covered r.sender r.stage else [])
    { c with miss := more.foldl addOnce c.miss }

/-- Journal a seat's verified chunks (CHUNK_IN). -/
def State.journalChunks (s : State) (c : Ctx) (r : CRecv) (h : Cell) (checks : List (BitVec 128)) : State :=
  if 0x4000 ≤ r.sender then
    (checks.zipIdx).foldl (fun t e =>
      t.journalChunk (r.sender % 16) h.tag.toNat h.typ.toNat (r.number * 32 + e.2) e.1.toNat c.inst c.group) s
  else s

/-- The GOT bit of a message. -/
def State.bitOf (s : State) (c : Ctx) (r : CRecv) : Option Nat :=
  (((s.shape c).fate s.nodeId c.segTotal r.number).expect.find? fun e => e.2 == r.sender && stageOfBit e.1 == r.stage).map fun e => e.1

/-- The CONTRIBS of a segment's message (R332): 1 of a member's element, the head's of a CF partial. -/
def Ctx.contribsOf (c : Ctx) (r : CRecv) (h : Cell) : Nat :=
  if r.stage ≠ 0 ∨ dFormat c.desc = 0x1F then bytesAt h.payload 14 2 else 1

/-- A sender whose contribution the segment cannot admit (R338): missing, and what was applied of it is gone with the segment's reset. -/
def State.overCount (s : State) (k : Nat) (r : CRecv) : State :=
  let s1 := (s.modRecv k r fun y => { y with cells := [] }).declareMissing k r.sender r.stage
  if r.applied = 0 ∧ r.cells.isEmpty then s1 else s1.resetSeg k r.number false

/-- Count a reduction's message whose checks match; its elements were applied as they arrived. -/
def State.countMessage (s : State) (k : Nat) (c : Ctx) (r : CRecv) (h : Cell) (b : List Byte) (checks : List (BitVec 128)) : State :=
  match c.seg r.number, s.bitOf c r with
  | some x, some bit0 =>
    let code := if r.stage = 0 then dFormat c.desc else 0x1F
    let cnt := c.contribsOf r h
    let good := if code = 0x1F then (cfDecodeAll false (segElems c.elems r.number) b).isSome
      else (b.drop (segBytes code c.elems r.number)).all fun y => y == 0
    if ! good then s.badMessage k c r
    else if 65535 < x.count + cnt then s.overCount k r
    else
      let s1 := ((s.modRecv k r fun y => { y with counted := true, cells := [] }).countSeg k r.number bit0 cnt).takeMiss k r h
      if r.stage = 0 then (s1.countMember k r.sender r.number b.length (xorChecks checks)).journalChunks c r h checks else s1
  | _, _ => s

/-- Count a value's message, with DONE to its sender. -/
def State.countValue (s : State) (k : Nat) (c : Ctx) (r : CRecv) (h : Cell) (b : List Byte) : State :=
  match c.readValue b (bytesAt h.payload 14 2) with
  | none => s.badMessage k c r
  | some v =>
    let s1 := (s.modRecv k r fun y => { y with counted := true, cells := [] }).takeMiss k r h
    let s2 := s1.modCtx k fun d => { d with values := d.values ++ [{ stage := r.stage, sender := r.sender, value := v }] }
    s2.sendDone k c r.sender r.stage 0 0

/-- Go on with a message after one of its cells was taken. -/
def State.tryMessage (s : State) (k : Nat) (r : CRecv) : State :=
  match s.ctx k, s.recvNow k r with
  | some c, some x =>
    match s.arrived c x, x.head with
    | .waiting, _ => s
    | .mismatch, _ => s.badMessage k c x
    | .whole b checks, some h => if c.code = 0x20 then s.countMessage k c x h b checks else s.countValue k c x h b
    | .whole _ _, none => s
  | _, _ => s

/-- A head disagrees with the context's own values (R287). -/
def Ctx.headDiffers (c : Ctx) (r : CRecv) (h : Cell) : Bool :=
  let p := h.payload
  let e := if c.code = 0x20 then c.elems else 1
  let fmt := if c.code = 0x20 then dFormat c.desc else 0x1F
  bytesAt p 0 2 % 4096 != c.group || bytesAt p 2 4 != c.inst || bytesAt p 6 4 != r.number || bytesAt p 10 1 != r.stage ||
    bytesAt p 16 4 != e || bytesAt p 20 1 != fmt

/-- The elements of data cell `j` of a member's segment, from its bytes; the first is element `i`. -/
def Ctx.cellElems (c : Ctx) (r : CRecv) (j : Nat) (b : List Byte) : Nat × List (Addend × Nat) :=
  let code := dFormat c.desc
  let per := 64 / elemLen code
  let n := min per (segElems c.elems r.number - j * per)
  (j * per, (List.range n).map fun i => (addend code (ofBytes ((b.drop (i * elemLen code)).take (elemLen code))) 0, elemLen code))

/-- The plaintext of the data cell at an index of a message whose head is here (R440). -/
def State.plainCell (s : State) (c : Ctx) (r : CRecv) (h : Cell) (index : Nat) (p : Line) : List Byte :=
  let iv := BitVec.ofNat 96 (bytesAt h.payload 48 12)
  cellPlain (s.frameCheck (s.frameOf c r h) (s.sealedKey c.part) iv ((index - 1) / 64)) ((index - 1) % 64) (toBytes p 64)

/-- The elements of a segment's stream that its first bytes give (R337). -/
def Ctx.streamPart (c : Ctx) (r : CRecv) (b : List Byte) : List (Addend × Nat) :=
  let code := if r.stage = 0 then dFormat c.desc else 0x1F
  let n := segElems c.elems r.number
  if code = 0x1F then cfPart false (n / 16 + 1) n b
  else imageElems code (min n ((b.length - 32) * 8 / elemBits code)) b

/-- Apply one data cell's elements to the slots; the answer says whether the segment still takes. -/
def State.applyCell (s : State) (k : Nat) (r : CRecv) (index : Nat) (b : List Byte) : Bool × State :=
  match (s.ctx k).bind fun c => (c.seg r.number).map fun x => (c, x) with
  | none => (false, s)
  | some (c, x) =>
    let e := c.cellElems r (index - 1) b
    s.putSlots k r.number (State.addElems (dFormat c.desc) 1 e.2 e.1 (s.roomFor x) x.slots s)

/-- Apply what has become contiguous of a segment's stream (R337). -/
def State.applyStream (s : State) (k : Nat) (c : Ctx) (r : CRecv) (h : Cell) : Bool × State :=
  match c.seg r.number with
  | none => (false, s)
  | some x =>
    let m := contiguous r.cells (64 * bytesAt h.payload 12 2) 0
    let b := (List.range m).flatMap fun j => s.plainCell c r h (1 + j) ((tabFind r.cells (1 + j)).getD 0)
    let es := (c.streamPart r b).drop r.applied
    let code := if r.stage = 0 then dFormat c.desc else 0x1F
    let s1 := s.modRecv k r fun y => { y with applied := r.applied + es.length }
    s1.putSlots k r.number (State.addElems code (c.contribsOf r h) es r.applied (s1.roomFor x) x.slots s1)

/-- Go on with a segment's message once more of it is here: `fresh` are the indices of data cells not applied yet. -/
def State.feedMessage (s : State) (k : Nat) (r : CRecv) (fresh : List Nat) : State :=
  match s.ctx k, s.recvNow k r with
  | some c, some x =>
    if c.code ≠ 0x20 then s.tryMessage k r
    else
      let data := fresh.filter fun j => (c.dataCount x).any fun n => decide (j ≤ n)
      let t : Bool × State :=
        match x.head with
        | none =>
          if c.byCell x && ! s.sealedKey c.part then data.foldl (fun a j => if a.1 then a.2.applyCell k x j (toBytes ((tabFind x.cells j).getD 0) 64) else a) (true, s)
          else (true, s)
        | some h =>
          if c.byCell x then data.foldl (fun a j => if a.1 then a.2.applyCell k x j (s.plainCell c x h j ((tabFind x.cells j).getD 0)) else a) (true, s)
          else s.applyStream k c x h
      if t.1 then t.2.tryMessage k r else t.2
  | _, _ => s

/-- Take a head cell: a stale or a differing one, one whose CONTRIBS the segment cannot admit, or one that the message goes on with. -/
def State.takeMsgHead (s : State) (k : Nat) (c : Ctx) (r : CRecv) (h : Cell) : State :=
  if s.sealedKey c.part && s.stale h.time.toNat then s.staleHead c.part
  else if c.headDiffers r h then
    let s1 := (s.bump (R.colCount 6)).declareMissing k r.sender r.stage
    if c.byCell r && ! s.sealedKey c.part && !r.cells.isEmpty then s1.resetSeg k r.number false else s1
  else if c.code = 0x20 ∧ (c.seg r.number).any (fun x => decide (65535 < x.count + c.contribsOf r h)) then s.overCount k r
  else (s.modRecv k r fun x => { x with head := some h }).feedMessage k r
    (if s.sealedKey c.part then r.cells.map fun e => e.1 else [])

/-- Take a data or trailer cell. -/
def State.takeMsgCell (s : State) (k : Nat) (r : CRecv) (index : Nat) (p : Line) : State :=
  (s.modRecv k r fun x => { x with cells := tabInsert x.cells index p }).feedMessage k r [index]

/-- Take a CONTRIB or PARTIAL_CF cell (R296, R411): a cell of no granted message, or of another generation, is stale; a second
arrival is a duplicate. -/
def State.takeContrib (s : State) (c : Cell) : State :=
  let s0 := s.takeEjected c
  let staleCell := s0.bump (R.colCount 7)
  match s0.ctxByHandle (c.tag.toNat % 256) with
  | none => staleCell
  | some (k, x) =>
    if s0.frozenNow ∨ ! x.live ∨ x.part ≠ c.pkey.toNat then staleCell
    else match x.recvFor c.src.toNat (c.tag.toNat / 256) (cellIs c 0x18) with
      | none => staleCell
      | some r =>
        let index := c.index.toNat % 2048
        let taking := x.code != 0x20 || (x.seg r.number).any Seg.taking
        if x.missing.contains r.sender ∨ decide (2048 ≤ c.index.toNat) ≠ r.gen then staleCell
        else if r.counted then s0.bump (R.colCount 3)
        else if ! taking then staleCell
        else if (index = 0 ∧ r.head.isSome) ∨ (tabFind r.cells index).isSome then s0.bump (R.colCount 3)
        else if index = 0 then s0.takeMsgHead k x r c
        else s0.takeMsgCell k r index c.payload

end Sys2Proof.Machine
end

