-- ==== Sys2Proof/Machine/Alltoall.lean ====
section
/-! DEFINITION. ALLTOALL (R313 to R316). Grants of STAGE 0 are for a source's A2A_COUNTS cell and its whole run, grants of STAGE 1
for its A2A_DATA messages; a GRANT's header TAG is the source member index and its SRC the receiving member (DESIGN CHOICE: see the
log). -/

namespace Sys2Proof.Machine

/-! ## Members, items and messages -/

/-- The members that send, and the ones that receive. -/
def Shape.sources (h : Shape) : List Nat := h.contributing
def Shape.takers (h : Shape) : List Nat := (List.range h.members.length).filter fun m => (h.member m).any fun x => !x.noRecv

/-- The endpoint of a member index. -/
def Shape.endpoint (h : Shape) (m : Nat) : Nat := ((h.member m).map fun x => x.ep).getD 0

/-- The items of a full message: at most 31 chunks. -/
def itemsPer (item : Nat) : Nat := 126976 / max item 1

/-- The messages of a run of `n` items: in DROP mode a last one with fewer items than a full message ends the run. -/
def messagesOf (item n : Nat) (drop : Bool) : Nat :=
  let per := itemsPer item
  if drop then n / per + 1 else (n + per - 1) / per

/-- A member's send counts from its table, or why they cannot be read. -/
def State.sendTable (s : State) (c : Ctx) (m : CMember) : Except Answer (List Nat) :=
  let n := (s.shape c).members.length
  (s.getBytes c.part (cTable m.issue.desc) (4 * n)).map fun b => (List.range n).map fun k => ofBytes ((b.drop (4 * k)).take 4)

/-- A source's run to a receiving member. -/
def Ctx.runOf (c : Ctx) (source member : Nat) : Option A2aRun := c.runs.find? fun r => r.source == source && r.member == member

/-- A run of which nothing is known. -/
def runBlank (source member : Nat) : A2aRun where
  source := source
  member := member
  count := none
  off := 0
  got := 0
  lost := 0
  placed := []

/-- Set a run. -/
def Ctx.putRun (c : Ctx) (r : A2aRun) : Ctx :=
  { c with runs := c.runs.filter (fun x => !(x.source == r.source && x.member == r.member)) ++ [r] }

/-- The entry that keeps a receiving member's next free offset in DROP mode. -/
def freeEntry : Nat := 65535

/-! ## Sending -/

/-- An A2A_COUNTS payload (Table 10-13). -/
def countsLine (group inst source count item : Nat) : Line :=
  let p := packBytes 512 [(0, 2, group), (2, 4, inst), (6, 2, source), (8, 4, count), (12, 2, item)]
  packBytes 512 [(0, 16, p.toNat), (16, 8, crc64 (toBytes p 16))]

/-- Send a source's granted message, or its counts cell. -/
def State.sendA2a (s : State) (k : Nat) (c : Ctx) (m : CMember) (table : List Nat) (x : CSend) : State :=
  match x.handle, (s.shape c).indexOf x.dest with
  | some hd, some taker =>
    let item := cItem c.desc
    let n := table.getD taker 0
    let mark (t : State) : State := t.modCtx k fun d =>
      d.mapSend (fun y => y.dest == x.dest && y.stage == x.stage && y.number == x.number && y.member == x.member) fun y => { y with sent := true }
    if x.stage = 0 then
      if cDrop c.desc then mark s
      else
        mark (s.injectCell (s.ctxCell c 0x1C x.dest m.ep hd 0 true x.again false (countsLine c.group c.inst m.index n item)))
    else if messagesOf item n (cDrop c.desc) ≤ x.number then s
    else
      let per := itemsPer item
      let first := x.number * per
      let items := min per (n - first)
      let at0 := dSrc m.issue.desc + ((table.take taker).sum + first) * item
      let bytes : Except Answer (List Byte) :=
        if items = 0 then .ok [0#8]
        else s.getBytes c.part at0 (items * item)
      match bytes with
      | .error a => s.modCtx k fun d => { d with members := d.members.map fun y => if y.index = m.index then { y with fail := some a } else y }
      | .ok b =>
        let chunks := messageChunks b
        let wrap := s.sealedKey c.part
        let told := s.tellReads c.part at0 (items * item)
        let r := if wrap then told.takeIv c.part 2 chunks.length else (0, told)
        let tag := hd + x.number % 256 * 256
        let f : Frame := { part := c.part, keyId := 2, member := 0, typ := 0x1B, src := m.ep, tag := tag, time := s.now % 2 ^ 32
                           number := x.number, inst := c.inst, group := c.group, stage := 0 }
        let head := packBytes 512 [(0, 2, c.group), (2, 4, c.inst), (6, 4, x.number), (10, 2, m.index), (12, 2, chunks.length),
          (14, 1, b2n wrap), (16, 4, first), (20, 4, items), (24, 2, item), (48, 12, if wrap then r.1.toNat else 0)]
        let cells := s.messageCells c 0x1B x.dest m.ep tag x.again false wrap head (s.sealFrame f wrap r.1 chunks)
        let sent := mark (cells.foldl (fun t y => t.injectCell y) r.2)
        sent.modCtx k fun d => { d with members := d.members.map fun y =>
          if y.index = m.index ∧ ! y.counts.contains (taker * 65536 + x.number) then
            { y with counts := y.counts ++ [taker * 65536 + x.number], bytes := y.bytes + items * item } else y }
  | _, _ => s

/-- Pass a grant on to a seat that sends from its own memory. -/
def State.passGrant (s : State) (k : Nat) (c : Ctx) (m : CMember) (x : CSend) : State :=
  match x.handle with
  | none => s
  | some hd =>
    let g := withCheck { s.mkCell 0x11 m.ep c.part m.index
      (packBytes 512 [(0, 1, 4), (1, 1, b2n x.again), (2, 2, c.group), (4, 4, c.inst), (8, 1, hd), (9, 1, x.stage), (12, 4, x.number),
        (16, 4, if x.again then 0 else 1), (20, 4, b2n x.again)]) with src := BitVec.ofNat 15 x.dest }
    (s.injectCell g).modCtx k fun d =>
      d.mapSend (fun y => y.dest == x.dest && y.stage == x.stage && y.number == x.number && y.member == x.member) fun y => { y with sent := true }

/-- Send what the sources of this node were granted. -/
def State.sendRuns (s : State) (k : Nat) : State :=
  match s.ctx k with
  | none => s
  | some c =>
    if s.frozenNow then s
    else
      c.openMembers.foldl (fun t m =>
        let mine := c.send.filter fun x => x.member == m.index && x.handle.isSome && !x.sent && !x.done
        if mine.isEmpty ∨ m.fail.isSome then t
        else if ! m.localSource then (t.turnOfCtx c mine).foldl (fun u x => u.passGrant k c m x) t
        else match t.sendTable c m with
          | .error a => t.modCtx k fun d => { d with members := d.members.map fun y => if y.index = m.index then { y with fail := some a } else y }
          | .ok table =>
            let has (x : CSend) : Bool := x.stage == 0 ||
              decide (x.number < messagesOf (cItem c.desc) (table.getD (((t.shape c).indexOf x.dest).getD 0) 0) (cDrop c.desc))
            (t.turnOfCtx c (mine.filter has)).foldl (fun u x => u.sendA2a k c m table x) (t.tellReads c.part (cTable m.issue.desc) (4 * (t.shape c).members.length))) s

/-! ## Grants -/

/-- Send a source's node a grant of a receiving member. -/
def State.grantA2a (s : State) (k : Nat) (c : Ctx) (source member stage flags first count mask : Nat) : State :=
  let h := s.shape c
  s.injectCell (s.grantCell k c (epNode (h.endpoint source)) (h.endpoint member) stage flags first count mask source)

/-- Grant the runs of a joined receiving member: the counts cells, or in DROP mode 256 messages of each source at a time. -/
def State.grantRuns (s : State) (k : Nat) : State :=
  match s.ctx k with
  | none => s
  | some c =>
    if ! s.mayGrant then s
    else
      let h := s.shape c
      let drop := cDrop c.desc
      let takers := (c.openMembers.map fun m => m.index).filter fun m => h.takers.contains m
      takers.foldl (fun t m => h.sources.foldl (fun u x =>
        match u.ctx k with
        | none => u
        | some d =>
          let ep := h.endpoint x
          let mine := d.recv.filter fun r => r.sender == ep && r.member == m
          let more := drop && mine.all (fun r => r.counted) && ! (d.runOf x m).any fun r => r.count.isSome
          if d.missing.contains ep ∨ (! mine.isEmpty ∧ ! more) then u
          else if drop then
            (u.setCtx k { d with recv := d.recv ++ (List.range 256).map fun n => recvBlank ep 1 (mine.length + n) m u.now false }).grantA2a
              k d x m 1 0 mine.length 256 0
          else (u.setCtx k { d with recv := d.recv ++ [recvBlank ep 0 0 m u.now false] }).grantA2a k d x m 0 0 0 1 0) t) s

/-- Lay out the runs whose counts are known, in ascending source order, and grant their messages (R313). A run that would end
beyond LENGTH is refused whole; a missing source takes no room. -/
def State.layoutRuns (s : State) (k : Nat) (m : CMember) : List Nat → Nat → State
  | [], _ => s
  | x :: xs, off =>
    match s.ctx k with
    | none => s
    | some c =>
      let h := s.shape c
      let item := cItem c.desc
      match c.runOf x m.index with
      | none => if c.missing.contains (h.endpoint x) then s.layoutRuns k m xs off else s
      | some r =>
        match r.count with
        | none => if c.missing.contains (h.endpoint x) then s.layoutRuns k m xs off else s
        | some n =>
          if r.lost ≠ 0 then s.layoutRuns k m xs off
          else if c.recv.any (fun y => y.sender == h.endpoint x && y.member == m.index && y.stage == 1) ∨ n = 0 then
            s.layoutRuns k m xs (off + n * item)
          else if dLen m.issue.desc < off + n * item then
            ((s.setCtx k (c.putRun { r with lost := n })).grantA2a k c x m.index 0 2 0 0 0).layoutRuns k m xs off
          else
            let msgs := messagesOf item n false
            let c1 := (c.putRun { r with off := off })
            let c2 := { c1 with recv := c1.recv ++ (List.range msgs).map fun i => recvBlank (h.endpoint x) 1 i m.index s.now false }
            let t := (List.range ((msgs + 255) / 256)).foldl (fun u i =>
              u.grantA2a k c x m.index 1 0 (256 * i) (min 256 (msgs - 256 * i)) 0) (s.setCtx k c2)
            t.layoutRuns k m xs (off + n * item)

/-- Lay out the runs of every joined receiving member. -/
def State.layoutAll (s : State) (k : Nat) : State :=
  match s.ctx k with
  | none => s
  | some c =>
    if cDrop c.desc ∨ ! s.mayGrant then s
    else
      let h := s.shape c
      (c.openMembers.filter fun m => h.takers.contains m.index).foldl (fun t m => t.layoutRuns k m h.sources 0) s

/-! ## Receiving -/

/-- The joined receiving member that a cell is for. -/
def Ctx.takerOf (c : Ctx) (dest : Nat) : Option CMember := c.members.find? fun m => m.ep == dest

/-- A cell for a seat of this node is taken here: the seat's member receives into the pool. -/
def State.a2aEjects (s : State) (c : Cell) : Bool :=
  match s.ctxByHandle (c.tag.toNat % 256) with
  | some (_, x) => x.code == 0x23 && match x.takerOf c.dest.toNat with
    | some m => !seatMem (dDst m.issue.desc)
    | none => false
  | none => false

/-- A source's run is all here: DONE of STAGE 0. -/
def State.runDone (s : State) (k : Nat) (source member : Nat) : State :=
  match s.ctx k with
  | none => s
  | some c => s.grantA2a k c source member 0 0 0 0 1

/-- A counts cell (R313, R314): a bad CHECK is discarded; the first one of a source counts. -/
def State.takeCounts (s : State) (c : Cell) : State :=
  let p := c.payload
  match s.ctxByHandle (c.tag.toNat % 256) with
  | none => s.bump (R.colCount 7)
  | some (k, x) =>
    if s.frozenNow ∨ ! x.live ∨ x.part ≠ c.pkey.toNat ∨ x.code ≠ 0x23 then s.bump (R.colCount 7)
    else match x.takerOf c.dest.toNat with
      | none => s.bump (R.colCount 7)
      | some m =>
        let source := bytesAt p 6 2
        match x.recv.find? fun r => r.sender == c.src.toNat && r.stage == 0 && r.member == m.index with
        | none => s.bump (R.colCount 7)
        | some r =>
          if x.missing.contains r.sender then s.bump (R.colCount 7)
          else if r.counted then s.bump (R.colCount 3)
          else if crc64 (toBytes p 16) ≠ bytesAt p 16 8 then s
          else if bytesAt p 0 2 % 4096 ≠ x.group ∨ bytesAt p 2 4 ≠ x.inst ∨ bytesAt p 12 2 ≠ cItem x.desc ∨
              (s.shape x).indexOf r.sender ≠ some source then
            (s.bump (R.colCount 6)).declareMissing k r.sender 0
          else
            let n := bytesAt p 8 4
            let x1 := (x.mapRecv r.same fun y => { y with counted := true }).putRun { runBlank source m.index with count := some n }
            let t := s.setCtx k x1
            if n = 0 then t.runDone k source m.index else t

/-- Place the items of a whole message, and count it with DONE to its source. -/
def State.placeItems (s : State) (k : Nat) (c : Ctx) (m : CMember) (r : CRecv) (h : Cell) (b : List Byte) : State :=
  let item := cItem c.desc
  let source := bytesAt h.payload 10 2
  let first := bytesAt h.payload 16 4
  let items := bytesAt h.payload 20 4
  let drop := cDrop c.desc
  let run := (c.runOf source m.index).getD (runBlank source m.index)
  let kept := if drop then min items ((dLen m.issue.desc - r.off) / max item 1) else items
  let base := if drop then r.off else run.off + first * item
  let data := b.take (kept * item)
  let put : Except Answer State :=
    if seatMem (dDst m.issue.desc) ∨ kept = 0 then .ok s
    else s.putBytes c.part (dDst m.issue.desc + base) data
  match put with
  | .error a => (s.refusedPut a).modCtx k fun d => { d with members := d.members.map fun y => if y.index = m.index then { y with fail := some a } else y }
  | .ok s1 =>
    let short := decide (items < itemsPer item)
    let run1 := { run with got := run.got + kept, lost := run.lost + (items - kept), placed := run.placed ++ [r.number]
                           count := if drop && short then some (first + items) else run.count }
    let s2 := s1.modCtx k fun d =>
      (({ d with members := d.members.map fun y => if y.index = m.index then { y with bytes := y.bytes + kept * item } else y } : Ctx).mapRecv
        r.same fun y => { y with counted := true, cells := [] }).putRun run1
    let s3 := if drop then (List.range (items - kept)).foldl (fun t _ => t.bump (R.colCount 8)) s2 else s2
    let s4 := s3.grantA2a k c source m.index 1 0 r.number 0 1
    if run1.count = some (run1.got + run1.lost) then s4.runDone k source m.index else s4

/-- A message's check failed: asked for again (R297). -/
def State.badItems (s : State) (k : Nat) (c : Ctx) (m : CMember) (r : CRecv) (source : Nat) : State :=
  let s1 := if s.sealedKey c.part then s.gcmFailed c.part else s
  let s2 := (s1.modRecv k r fun y => { y with cells := [], head := none }).bump (R.colCount 4)
  ((s2.raiseOfCtx k 45).grantA2a k c source m.index 1 1 r.number 0 1).bump (R.colCount 2)

/-- Go on with a message after one of its cells. -/
def State.tryItems (s : State) (k : Nat) (m : CMember) (r : CRecv) : State :=
  match s.ctx k, s.recvNow k r with
  | some c, some x =>
    match x.head with
    | none => s
    | some h =>
      match s.arrived c x with
      | .waiting => s
      | .mismatch => s.badItems k c m x (bytesAt h.payload 10 2)
      | .whole b _ => s.placeItems k c m x h b
  | _, _ => s

/-- The head of a message (Table 10-14): in DROP mode its items take the next free offset; a head that disagrees makes its source
missing (R287). -/
def State.takeItemsHead (s : State) (k : Nat) (c : Ctx) (m : CMember) (r : CRecv) (h : Cell) : State :=
  let p := h.payload
  let item := cItem c.desc
  let source := bytesAt p 10 2
  let past : Bool := match (c.runOf source m.index).bind fun x => x.count with
    | some n => !cDrop c.desc && decide (n < bytesAt p 16 4 + bytesAt p 20 4)
    | none => false
  if s.sealedKey c.part && s.stale h.time.toNat then s.staleHead c.part
  else if bytesAt p 0 2 % 4096 ≠ c.group ∨ bytesAt p 2 4 ≠ c.inst ∨ bytesAt p 6 4 ≠ r.number ∨ bytesAt p 24 2 ≠ item ∨
      (s.shape c).indexOf r.sender ≠ some source ∨ past = true then
    (s.bump (R.colCount 6)).declareMissing k r.sender 0
  else
    let free := ((c.runOf freeEntry m.index).map fun x => x.off).getD 0
    let takes := min (bytesAt p 20 4) ((dLen m.issue.desc - free) / max item 1) * item
    let c1 := c.mapRecv r.same fun y => { y with head := some h, off := free }
    let c2 := if cDrop c.desc then c1.putRun { runBlank freeEntry m.index with off := free + takes } else c1
    (s.setCtx k c2).tryItems k m r

/-- A cell of an A2A_DATA message reaches its receiving member. -/
def State.takeItems (s : State) (c : Cell) : State :=
  let staleCell := s.bump (R.colCount 7)
  match s.ctxByHandle (c.tag.toNat % 256) with
  | none => staleCell
  | some (k, x) =>
    if s.frozenNow ∨ ! x.live ∨ x.part ≠ c.pkey.toNat ∨ x.code ≠ 0x23 then staleCell
    else match x.takerOf c.dest.toNat with
      | none => staleCell
      | some m =>
        let mine (r : CRecv) : Bool := r.sender == c.src.toNat && r.stage == 1 && r.member == m.index && r.number % 256 == c.tag.toNat / 256
        match (x.recv.find? fun r => mine r && !r.counted).or (x.recv.find? mine) with
        | none => staleCell
        | some r =>
          let index := c.index.toNat % 2048
          if x.missing.contains r.sender then staleCell
          else if r.counted ∨ (index = 0 ∧ r.head.isSome) ∨ (tabFind r.cells index).isSome then s.bump (R.colCount 3)
          else if index = 0 then s.takeItemsHead k x m r c
          else (s.modRecv k r fun y => { y with cells := tabInsert y.cells index c.payload }).tryItems k m r

/-! ## Ends (R316) -/

/-- A receiving member's run from a source is over: all here, refused, or its source missing. -/
def Ctx.runOver (c : Ctx) (h : Shape) (m source : Nat) : Bool :=
  c.missing.contains (h.endpoint source) || match c.runOf source m with
    | some r => r.count == some (r.got + r.lost)
    | none => false

/-- A source's run to a destination is over. -/
def Ctx.sendOver (c : Ctx) (m : Nat) (dest : Nat) : Bool :=
  c.missing.contains dest || c.missing.contains (epNode dest) ||
    c.send.any fun x => x.member == m && x.dest == dest && x.stage == 0 && x.done

/-- Write a receiving member's count table, where it lies in the pool (Table 10-9). -/
def State.writeTable (s : State) (c : Ctx) (h : Shape) (m : CMember) : State :=
  let d := m.issue.desc
  if seatMem (cTable d) ∨ ! h.takers.contains m.index then s
  else
    let n := h.members.length
    let at0 := cTable d + (if h.sources.contains m.index then 4 * n else 0)
    let b := (List.range n).flatMap fun x => match c.runOf x m.index with
      | some r => natBytes r.got 4 ++ natBytes r.lost 4
      | none => List.replicate 8 0#8
    match s.putBytes c.part at0 b with
    | .error a => s.refusedPut a
    | .ok s1 => s1

/-- A member's end, once its runs are over in both directions: its answer and the members its bitmap names. -/
def Ctx.a2aEnd (c : Ctx) (h : Shape) (m : CMember) : Option (Answer × List Nat) :=
  match m.fail with
  | some a => some (a, [])
  | none =>
    let takes := h.takers.contains m.index
    let sends := h.sources.contains m.index
    let inOver := !takes || h.sources.all fun x => c.runOver h m.index x
    let outOver := !sends || h.takers.all fun x => c.sendOver m.index (h.endpoint x)
    if ! inOver ∨ ! outOver then none
    else
      let lostIn := if takes then h.sources.filter fun x => c.missing.contains (h.endpoint x) else []
      let lostOut := if sends then h.takers.filter fun x => !(c.send.any fun y =>
        y.member == m.index && y.dest == h.endpoint x && y.stage == 0 && y.done && y.handle.isSome) else []
      let full := if takes then h.sources.filter fun x => (c.runOf x m.index).any fun r => r.lost != 0 else []
      let all := (lostIn ++ lostOut ++ full).foldl addOnce []
      some (if ! (lostIn ++ lostOut).isEmpty then ⟨1, 0⟩ else if ! full.isEmpty then ⟨10, 0⟩ else ⟨0, 0⟩, all)

/-- The members of this node that take part. -/
def Ctx.a2aLocals (h : Shape) (node : Nat) : List Nat :=
  (List.range h.members.length).filter fun i => epNode (h.endpoint i) == node && (h.takers.contains i || h.sources.contains i)

/-- Close a context whose members have all ended. -/
def State.closeA2a (s : State) (k : Nat) (c : Ctx) : State :=
  let h := s.shape c
  let lost := (c.members.flatMap fun m => m.lost).foldl addOnce (h.absentees s.nodeId c.miss fun _ => true)
  (s.freeCtx k c).recordOpens k c h.members.length (if lost.isEmpty then ⟨0, 0⟩ else ⟨1, 0⟩) 0 0 lost s.now

/-- End one member. -/
def State.endTaker (s : State) (k : Nat) (c : Ctx) (m : CMember) (a : Answer) (lost : List Nat) : State :=
  let h := s.shape c
  let s1 := s.writeTable c h m
  let s2 := s1.modCtx k fun d => { d with members := d.members.map fun x =>
    if x.index = m.index then { x with closed := true, lost := if a.status = 1 then lost else [] } else x }
  s2.recordCol k h.members.length m.issue a m.bytes m.xor lost s2.now

/-- Bring an ALLTOALL as far as what has arrived lets it go. -/
def State.settleA2a (s : State) (k : Nat) : State :=
  match s.ctx k with
  | none => s
  | some c0 =>
    if ! c0.live then s
    else
      let s1 := ((s.grantRuns k).layoutAll k).sendRuns k
      match s1.ctx k with
      | none => s1
      | some c =>
        let h := s1.shape c
        let s2 := c.openMembers.foldl (fun t m => match c.a2aEnd h m with
          | some (a, lost) => t.endTaker k c m a lost
          | none => t) s1
        match s2.ctx k with
        | none => s2
        | some d =>
          if (Ctx.a2aLocals h s2.nodeId).all fun i => match d.members.find? fun m => m.index == i with
              | some m => m.closed
              | none => d.missing.contains (h.endpoint i)
          then s2.closeA2a k d else s2

end Sys2Proof.Machine
end

