-- ==== Sys2Proof/Machine/Prompter.lean ====
section
/-! DEFINITION. The Prompter (chapter 9) apart from issue: writes of PRM_CTR_KEY, ERU_CELL_KEY, PRM_CFG and PRM_ARR_HEAD, piece
trackers and arrival entries (R275 to R281). -/

namespace Sys2Proof.Machine

/-! ## Counter and cell keys (R258, R355) -/

/-- The operation that an ARMED cue stands for: a seat's answer carries TAG 0xC000 + cue ID (R267). -/
def Cue.issue (c : Cue) (id : Nat) : Issue where
  who := c.who
  cue := true
  tag := BitVec.ofNat 16 (0xC000 + id)
  time := c.time
  desc := c.desc

/-- Cancel a cue: its ID is free, and its record is ABORTED with BYTES 0 (R258, R268). -/
def State.cancelCue (s : State) (id : Nat) (c : Cue) : State :=
  (s.setPrm { s.prm with cues := tabErase s.prm.cues id }).completeEarly (c.issue id)
    { okComp with status := 5 }

/-- CTR_KEY_WRITE (R258): a changed key clears the block's counters, ends the cues that wait on them, and marks the block for the rest
of the Prompter's cycle. -/
def execCtrKeyWrite (a : Source) (b : Fin 1024) (value : Word) (s : State) : Host.Outcome State Fault Refusal :=
  let off := R.ctrKey b
  .next (s.fmRw a off value fun t =>
    let key := bits value 0 16
    if key = t.fld off 0 16 then t
    else
      let inBlock (c : Nat) : Bool := c / 64 == b
      let t1 := (t.setFld off 0 16 key).setPrm { t.prm with counters := t.prm.counters.filter fun e => !inBlock e.1
                                                            news := t.prm.news.filter fun e => !inBlock e.1
                                                            keyed := t.prm.keyed ++ [b.val] }
      (t1.prm.cues.filter fun e => dWait e.2.desc && inBlock (dWaitCtr e.2.desc)).foldl (fun u e => u.cancelCue e.1 e.2) t1)

/-- ERU_CELL_KEY_WRITE (R355): a changed key empties the block's cells, and marks the block for the rest of the cycle. -/
def execEruCellKeyWrite (a : Source) (b : Fin 1024) (value : Word) (s : State) : Host.Outcome State Fault Refusal :=
  let off := R.cellKey b
  .next (s.fmRw a off value fun t =>
    let key := bits value 0 16
    if key = t.fld off 0 16 then t
    else
      (t.setFld off 0 16 key).setEru { t.eru with cells := t.eru.cells.filter fun e => e.1 / 64 != b
                                                  badCells := t.eru.badCells.filter fun k => k / 64 != b
                                                  keyed := t.eru.keyed ++ [b.val] })

/-- Write PRM_CFG.PAUSE (R271): setting it notes the cycle; clearing it makes every cue that waited eligible together. -/
def State.setPause (s : State) (on : Bool) : State :=
  let t := s.setFld R.prmCfg 0 1 (b2n on)
  let again (q : Cue) : Cue := { q with ready := q.ready.map fun _ => t.prm.cycle }
  if on = bit (s.reg R.prmCfg) 0 then t
  else if on then t.setPrm { t.prm with pausedAt := t.prm.cycle }
  else t.setPrm { t.prm with cues := t.prm.cues.map fun e => (e.1, again e.2) }

/-- PAUSE (R271). -/
def execPause (a : Source) (value : Word) (s : State) : Host.Outcome State Fault Refusal :=
  .next (s.fmRw a R.prmCfg value fun t => t.setPause (bit value 0))

/-- A freeze stops firing (R409). -/
def State.firingFrozen (s : State) : Bool := !s.mayGrant

/-! ## Piece trackers (R276, R277) -/

/-- The first tracker of an endpoint's 256: a seat's, or the node's. -/
def State.trackerBase (s : State) (ep : Nat) : Nat := if ep = s.nodeId then 4096 else ep % 16 * 256

/-- The endpoint that a tracker serves. -/
def State.trackerEp (s : State) (t : Nat) : Nat := if 4096 ≤ t then s.nodeId else s.seatEp (t / 256)

/-- A tracker of an endpoint for a piece. -/
def State.trackerOf (s : State) (ep src tree tag : Nat) : Option (Nat × Tracker) :=
  s.prm.trackers.find? fun e => s.trackerEp e.1 == ep && e.2.src == src && e.2.tree == tree && e.2.tag == tag && !e.2.ready

/-- The armed channel of an endpoint and key for one of some groups: those that a piece may belong to. -/
def State.channelFor (s : State) (ep pkey : Nat) (groups : List Nat) : Option (Nat × Arr) :=
  s.prm.arrs.find? fun e => e.2.ep == ep && e.2.pkey == pkey && groups.contains e.2.group

/-- The armed channel of an endpoint, key and group. -/
def State.channelOf (s : State) (ep pkey group : Nat) : Option (Nat × Arr) :=
  s.prm.arrs.find? fun e => e.2.ep == ep && e.2.pkey == pkey && e.2.group == group

/-- A free tracker of an endpoint, from `n` places on. -/
def freeTracker (t : Tab Tracker) (base : Nat) : Nat → Nat → Option Nat
  | 0, _ => none
  | f + 1, i => if (tabFind t (base + i)).isNone then some (base + i) else freeTracker t base f (i + 1)

/-- A piece's first cell finds no tracker free (R276). -/
def State.trackerWaits (s : State) (ep : Nat) (groups : List Nat) (c : Cell) : Bool :=
  (s.channelFor ep c.pkey.toNat groups).isSome && (s.trackerOf ep c.src.toNat c.tree.toNat c.tag.toNat).isNone &&
    (freeTracker s.prm.trackers (s.trackerBase ep) 256 0).isNone

/-- Count a piece that waits for a tracker, once. -/
def State.countTrackWait (s : State) (ep : Nat) (c : Cell) : State :=
  let name := (ep, c.src.toNat, c.tree.toNat, c.tag.toNat)
  if s.prm.waited.contains name then s
  else (s.setPrm { s.prm with waited := s.prm.waited ++ [name] }).bump (R.prmCount 7)

/-- Take a tracker for a piece's first cell, where a channel is armed. -/
def State.takeTracker (s : State) (ep : Nat) (groups : List Nat) (c : Cell) : State :=
  match s.channelFor ep c.pkey.toNat groups with
  | none => s
  | some (ch, _) =>
    if (s.trackerOf ep c.src.toNat c.tree.toNat c.tag.toNat).isSome then s
    else match freeTracker s.prm.trackers (s.trackerBase ep) 256 0 with
      | none => s
      | some i =>
        let t : Tracker := { chan := ch, src := c.src.toNat, tree := c.tree.toNat, tag := c.tag.toNat, root := 0, chunk := 0, len := 0
                             off := 0, lines := [], ready := false }
        s.setPrm { s.prm with trackers := tabInsert s.prm.trackers i t
                              waited := s.prm.waited.filter fun w => w != (ep, c.src.toNat, c.tree.toNat, c.tag.toNat) }

/-- Free a tracker. -/
def State.freeTracker (s : State) (t : Nat) : State := s.setPrm { s.prm with trackers := tabErase s.prm.trackers t }

/-- A piece that a tracker follows has landed and checked: the entry it will make, or none where its group's channel is not armed. -/
def State.trackerReady (s : State) (ep src tree tag group root chunk len off pkey : Nat) (lines : List Nat) : State :=
  match s.trackerOf ep src tree tag with
  | none => s
  | some (i, t) =>
    match s.channelOf ep pkey group with
    | none => s.freeTracker i
    | some (ch, _) =>
      let t1 : Tracker := { t with chan := ch, root := root, chunk := chunk, len := len, off := off, lines := lines, ready := true }
      s.setPrm { s.prm with trackers := tabInsert s.prm.trackers i t1 }

/-- A piece that a tracker follows failed its check (R277): the tracker is free, counted and recorded. -/
def State.pieceFailed (s : State) (ep src tree tag : Nat) : State :=
  match s.trackerOf ep src tree tag with
  | none => s
  | some (i, t) => ((s.freeTracker i).bump (R.prmCount 6)).raiseLimited 41 t.chan 0

/-! ## Arrival entries (R278 to R280) -/

/-- A cell belongs to a piece. -/
def Tracker.cell (t : Tracker) (c : Cell) : Bool :=
  cellIs c 0x1A && c.src.toNat == t.src && c.tree.toNat == t.tree && c.tag.toNat == t.tag

/-- A seat's link has acknowledged every cell of the piece: none is queued or kept for replay. -/
def State.pieceAcked (s : State) (ep : Nat) (t : Tracker) : Bool :=
  (List.range 32).all fun n =>
    let x := s.link n
    s.role n != 1 || s.rolePeer n != ep ||
      !((x.txq.any t.cell) || (x.pool.any t.cell) || (x.passed.any t.cell) || (x.replay.any fun r => t.cell r.cell) || (x.txSlot.any t.cell))

/-- The entries of a node ring, and those not consumed. -/
def Arr.size (a : Arr) : Nat := 2 ^ a.log2
def Arr.unread (a : Arr) : Nat := a.written - a.consumed

/-- The controllers have yet to accept a line of the piece (R277). -/
def State.linesQueued (s : State) (t : Tracker) : Bool :=
  s.mem.chans.any fun e => e.2.all.any fun r => t.lines.contains r.line

/-- An arrival entry (Table 09-6). -/
def State.arrEntry (s : State) (a : Arr) (t : Tracker) (phase : Nat) : BitVec 256 :=
  packBytes 256 [(0, 4, a.seq), (4, 2, t.root), (6, 2, a.group), (8, 4, t.chunk), (12, 2, t.len), (14, 1, t.chan), (15, 1, phase),
    (16, 8, t.off), (24, 8, s.now)]

/-- ADD 1 to a channel's counter, where its block's key allows. -/
def State.countArrival (s : State) (ch : Nat) (a : Arr) : State :=
  if a.count then (s.updateCtr a.counter a.pkey false false 1 (64 + ch)).1 else s

/-- PIECE_ENTRY (R277 to R280): a landed, checked and acknowledged piece makes its entry; a full node ring holds it. -/
def execPieceEntry (t : Fin 4352) (s : State) : Host.Outcome State Fault Refusal :=
  if ! s.running then .next s else
  match tabFind s.prm.trackers t with
  | none => .next s
  | some x =>
    match tabFind s.prm.arrs x.chan with
    | none => .next (if x.ready then s.freeTracker t else s)
    | some a =>
      let ep := s.trackerEp t
      if ! x.ready then .next s
      else if ep ≠ s.nodeId then
        if ! s.pieceAcked ep x then .next s
        else
          let c := s.mkCell 0x29 ep a.pkey 0 (BitVec.ofNat 512 (s.arrEntry a x 0).toNat)
          let s1 := ((s.freeTracker t).injectCell c).bump (R.prmCount 5)
          .next ((s1.setPrm { s1.prm with arrs := tabInsert s1.prm.arrs x.chan { a with seq := (a.seq + 1) % 2 ^ 32 } }).countArrival x.chan a)
      else if a.size ≤ a.unread ∨ s.linesQueued x then .next s
      else
        let phase := (a.written / a.size + 1) % 2
        let s1 := ((s.freeTracker t).writeAt (a.base + 32 * (a.written % a.size)) (toBytes (s.arrEntry a x phase) 32)).bump (R.prmCount 5)
        let b := { a with seq := (a.seq + 1) % 2 ^ 32, written := a.written + 1 }
        .next ((s1.setPrm { s1.prm with arrs := tabInsert s1.prm.arrs x.chan b }).countArrival x.chan a)

/-- A write of PRM_ARR_HEAD: from a fabric manager, or the present window that armed the channel (Table 18-2). -/
def State.arrHeadSet (s : State) (a ch : Nat) (value : Word) : State :=
  let off := R.arr ch + 0x10
  let mine := match tabFind s.prm.arrs ch with
    | some x => x.owner == a
    | none => false
  if s.srcFm a || (s.winPresent a && mine) then
    let h := bits value 0 16
    s.lastWins a off fun s =>
    let s1 := s.setPrm { s.prm with arrs := s.prm.arrs.map fun e => (e.1, if e.1 = ch then { e.2 with consumed := consumedTo e.2.written e.2.consumed h } else e.2) }
    s1.setFld off 0 16 h
  else s.violation a 4 true off

/-- ARR_HEAD_WRITE (R280). -/
def execArrHeadWrite (a : Source) (ch : Fin 64) (value : Word) (s : State) : Host.Outcome State Fault Refusal :=
  .next (s.arrHeadSet a ch value)

end Sys2Proof.Machine
end

