-- ==== Sys2Proof/Machine/Gather.lean ====
section
/-! DEFINITION. ALLGATHER and BCAST (R309 to R312): roots, pieces sent down the multicast trees, pieces as they land, and the end of
a context. -/

namespace Sys2Proof.Machine

/-! ## Roots and pieces -/

/-- The roots of a context: every contributing member, or the one that a BCAST names. -/
def Ctx.rootIndices (c : Ctx) (h : Shape) : List Nat := if c.code = 0x25 then [cRoot c.desc] else h.contributing

/-- The pieces of each root. -/
def Ctx.pieceTotal (c : Ctx) : Nat := (dLen c.desc + 4095) / 4096

/-- The bytes of piece `k`. -/
def Ctx.pieceLen (c : Ctx) (k : Nat) : Nat := min 4096 (dLen c.desc - 4096 * k)

/-- The destination offset of a piece (R309). -/
def Ctx.pieceOff (c : Ctx) (root k : Nat) : Nat := (if c.code = 0x25 then 0 else root * dLen c.desc) + 4096 * k

/-- A piece's number among all of a context's. -/
def pieceId (root k : Nat) : Nat := root * 65536 + k

/-- A GATHER_DATA head (Table 10-8). -/
def gatherHead (group inst root k len sealedBit : Nat) (check : BitVec 128) (iv : Nat) : Line :=
  packBytes 512 [(0, 2, group), (2, 4, inst), (6, 2, root), (8, 4, k), (12, 2, len), (14, 1, sealedBit), (16, 16, check.toNat),
    (32, 12, iv)]

/-- The local member of a root. -/
def Ctx.memberAt (c : Ctx) (index : Nat) : Option CMember := c.members.find? fun m => m.index == index

/-- A root of this node, as admitted. -/
def rootBlank (index ep : Nat) (granted : List Nat) : RootRun where
  index := index
  ep := ep
  tree := 4
  granted := granted
  next := 0
  placed := 0
  total := 0
  refused := []

/-- The bytes of piece `k` of a local root. -/
def State.rootPiece (s : State) (c : Ctx) (m : CMember) (k : Nat) : Except Answer (List Byte) :=
  s.getBytes c.part (dSrc m.issue.desc + 4096 * k) (c.pieceLen k)

/-- Send piece `k` of a local root, reading each of its lines once (R50): down its tree, or to one node again. A source that cannot be
read fails the root's member. -/
def State.sendPiece (s : State) (slot : Nat) (m : CMember) (r : RootRun) (k : Nat) (only : Option Nat) (alt : Bool) : State :=
  match s.ctx slot with
  | none => s
  | some c =>
    match s.rootPiece c m k with
    | .error a => s.modCtx slot fun d => { d with members := d.members.map fun x => if x.index = m.index then { x with fail := some a } else x }
    | .ok b =>
      let wrap := s.sealedKey c.part
      let told := s.tellReads c.part (dSrc m.issue.desc + 4096 * k) (c.pieceLen k)
      let v := if wrap then told.takeIv c.part 2 1 else (0, told)
      let f : Frame := { part := c.part, keyId := 2, member := 0, typ := 0x1A, src := r.ep, tag := k % 65536, time := s.now % 2 ^ 32
                         number := k, inst := c.inst, group := c.group, stage := 0 }
      let e := sealChunk (s.frameCheck f wrap v.1 0) b
      let head := gatherHead c.group c.inst r.index k b.length (b2n wrap) e.2 (if wrap then v.1.toNat else 0)
      let data := dataCells e.1
      let put (idx : Nat) (last : Bool) (p : Line) : Cell :=
        withCheck { s.ctxCell c 0x1A (only.getD s.nodeId) r.ep (k % 65536) idx last alt false p with
          mcast := only.isNone, tree := BitVec.ofNat 2 r.tree }
      let t := v.2.injectCell (put 0 false head)
      (data.zipIdx).foldl (fun u x => u.injectCell (put (1 + x.2) (x.2 + 1 == data.length) x.1)) t

/-- A root has pieces to send, and every context node has granted it (R311). -/
def State.rootReady (s : State) (c : Ctx) (r : RootRun) : Bool :=
  ((nodesOf (s.shape c).members).all fun n => r.granted.contains n || c.missing.contains n) && decide (r.next < r.total) && s.mayGrant &&
    (c.memberAt r.index).any fun m => ! m.closed

/-- Send the pieces of a root whose grants are all here (R311), or in a Rehearsal context's turn one of them (R317). A seat root is
granted in its turn. -/
def State.startRoot (s : State) (slot : Nat) (c : Ctx) (r : RootRun) : State :=
  match c.memberAt r.index with
  | none => s
  | some m =>
    if ! s.rootReady c r then s
    else
      let upto := if c.rehearsal && m.localSource then r.next + 1 else r.total
      let s1 := s.modCtx slot fun d => { d with roots := d.roots.map fun x => if x.index = r.index then { x with next := upto } else x }
      if m.localSource then (List.range (upto - r.next)).foldl (fun t k => t.sendPiece slot m r (r.next + k) none false) s1
      else s1.sendGrant slot c r.ep 0 0 0 1 0 r.index

/-- The roots that start in a context's turn: of a Rehearsal context the first that is ready. -/
def State.rootsInTurn (s : State) (c : Ctx) : List RootRun :=
  if c.rehearsal then (c.roots.find? (s.rootReady c)).toList else c.roots

/-! ## Grants to roots (R311) -/

/-- The endpoint of a member index. -/
def Shape.epOf (h : Shape) (m : Nat) : Nat := ((h.member m).map fun x => x.ep).getD 0

/-- Grant every root, at admission: this node's own roots hold its grant at once. -/
def State.grantRoots (s : State) (slot : Nat) : State :=
  match s.ctx slot with
  | none => s
  | some c =>
    if ! s.mayGrant then s
    else
      let h := s.shape c
      let todo := (c.rootIndices h).filter fun r => (c.recvOf (h.epOf r) 0 r).isNone
      let s1 := s.setCtx slot { c with recv := c.recv ++ todo.map fun r => recvBlank (h.epOf r) 0 r 0 s.now false }
      todo.foldl (fun t r =>
        let n := epNode (h.epOf r)
        if n = t.nodeId then
          t.modCtx slot fun d => { d with roots := d.roots.map fun x => if x.index = r then { x with granted := addOnce x.granted n } else x }
        else t.sendGrant slot c n 0 0 0 1 0 r) s1

/-- The roots of this node, at admission. -/
def Ctx.withRoots (c : Ctx) (h : Shape) (node : Nat) : Ctx :=
  { c with roots := ((c.rootIndices h).filter fun r => epNode (h.epOf r) == node).map fun r => rootBlank r (h.epOf r) [] }

/-- Ask a root's node for pieces again. -/
def State.askPiece (s : State) (slot : Nat) (c : Ctx) (root k : Nat) : State :=
  let n := epNode ((s.shape c).epOf root)
  if n = s.nodeId then
    match c.memberAt root, c.roots.find? fun x => x.index == root with
    | some m, some r =>
      if r.next ≤ k then s
      else if m.localSource then s.sendPiece slot m r k (some n) false
      else s.sendReplay slot c r.ep 0 false k root
    | _, _ => s
  else s.sendReplay slot c n 0 false k root

/-! ## Pieces as they land (R310 to R312) -/

/-- A piece's name. -/
def Piece.named (p : Piece) (ep src tree tag : Nat) : Bool := p.ep == ep && p.src == src && p.tree == tree && p.tag == tag

/-- A piece of which nothing has arrived. -/
def pieceBlank (ep src tree tag pkey : Nat) : Piece where
  ep := ep
  src := src
  tree := tree
  tag := tag
  pkey := pkey
  head := none
  cells := []

/-- Keep a piece, or drop it. -/
def State.putPiece (s : State) (p : Piece) (new : Option Piece) : State :=
  s.setPrm { s.prm with pieces := (s.prm.pieces.filter fun x => !x.named p.ep p.src p.tree p.tag) ++ new.toList }

/-- Every cell of a piece is here. -/
def Piece.whole (p : Piece) : Bool :=
  match p.head with
  | none => false
  | some h => (List.range (cellCount (bytesAt h.payload 12 2))).all fun i => (tabFind p.cells (1 + i)).isSome

/-- The data of a whole piece as it came. -/
def Piece.data (p : Piece) (h : Cell) : List Byte :=
  let n := min 4096 (bytesAt h.payload 12 2)
  ((List.range (cellCount n)).flatMap fun i => toBytes ((tabFind p.cells (1 + i)).getD 0) 64).take n

/-- How a piece's check is made. -/
def State.pieceCheck (s : State) (p : Piece) (h : Cell) : CheckBy :=
  let f : Frame := { part := p.pkey, keyId := 2, member := 0, typ := 0x1A, src := p.src, tag := p.tag, time := h.time.toNat
                     number := bytesAt h.payload 8 4, inst := bytesAt h.payload 2 4, group := bytesAt h.payload 0 2 % 4096, stage := 0 }
  s.frameCheck f (s.sealedKey p.pkey) (BitVec.ofNat 96 (bytesAt h.payload 32 12)) 0

/-- The plaintext of a whole piece, where its check matches. -/
def State.openPiece (s : State) (p : Piece) (h : Cell) : Option (List Byte) :=
  let n := bytesAt h.payload 12 2
  if bit h.payload 112 ≠ s.sealedKey p.pkey ∨ n = 0 ∨ 4096 < n then none
  else openChunk (s.pieceCheck p h) (p.data h) (BitVec.ofNat 128 (bytesAt h.payload 16 16))

/-- The joined members that a piece at an endpoint serves: a seat that takes it in its own memory, or at the node every member
whose DST_ADDR lies in the pool. -/
def Ctx.served (c : Ctx) (node ep : Nat) : List CMember :=
  c.members.filter fun m => if seatMem (dDst m.issue.desc) then m.ep == ep else ep == node

/-- A piece counts for a member: written where its DST_ADDR lies in the pool. -/
def State.landPiece (s : State) (slot : Nat) (m : CMember) (root k : Nat) (b : List Byte) (check : Nat) : State :=
  match s.ctx slot with
  | none => s
  | some c =>
    let id := pieceId root k
    if m.counts.contains id ∨ m.closed then s
    else
      let set (f : CMember → CMember) (t : State) : State :=
        t.modCtx slot fun d => { d with members := d.members.map fun x => if x.index = m.index then f x else x }
      let counted := set fun x => { x with counts := x.counts ++ [id], bytes := x.bytes + b.length, xor := x.xor ^^^ check }
      if seatMem (dDst m.issue.desc) then counted s
      else
        let at0 := dDst m.issue.desc + c.pieceOff root k
        match s.putBytes c.part at0 b with
        | .error a => set (fun x => { x with fail := some a, counts := x.counts ++ [id] }) (s.refusedPut a)
        | .ok s1 => counted s1

/-- The keys of the lines of this node that a piece writes. -/
def State.pieceLines (s : State) (c : Ctx) (ms : List CMember) (root k n : Nat) : List Nat :=
  (ms.filter fun m => !seatMem (dDst m.issue.desc)).flatMap fun m =>
    let at0 := dDst m.issue.desc + c.pieceOff root k
    match s.regionFor c.part at0 n true with
    | .error _ => []
    | .ok (v, g) => (linesOf (offsetOf at0) n).map fun o => v.lineAt g.num o

/-- Put a whole piece whose check matched to its members, and its tracker to its entry; it is kept while nobody has joined. -/
def State.placePiece (s : State) (p : Piece) (h : Cell) (b : List Byte) : State :=
  let group := bytesAt h.payload 0 2 % 4096
  let inst := bytesAt h.payload 2 4
  let root := bytesAt h.payload 6 2
  let k := bytesAt h.payload 8 4
  match s.ctxOfInst p.pkey group inst with
  | none => s.putPiece p (some p)
  | some (slot, c) =>
    if ! c.live ∨ (c.code ≠ 0x22 ∧ c.code ≠ 0x25) then s.putPiece p none
    else
      let ms := c.served s.nodeId p.ep
      let s1 := s.trackerReady p.ep p.src p.tree p.tag group root k b.length (c.pieceOff root k) p.pkey
        (s.pieceLines c ms root k b.length)
      if ms.isEmpty then s1.putPiece p (some p)
      else
        let check := bytesAt h.payload 16 8
        let fresh := decide (0x4000 ≤ p.src ∧ epNode p.src = s.nodeId) && !ms.any fun m => m.counts.contains (pieceId root k)
        let s1 := if fresh then s1.journalChunk (p.src % 16) p.tag 0x1A k check inst group else s1
        let s2 := ms.foldl (fun t m => t.landPiece slot m root k b check) (s1.putPiece p none)
        s2.modCtx slot fun d => d.mapRecv (fun r => r.number == root) fun r => { r with last := s.now }

/-- A piece is written as it lands, ahead of its check (R37, R311): what a failed check leaves at its members until it is sent again. -/
def State.writeUnchecked (s : State) (p : Piece) (h : Cell) : State :=
  match s.ctxOfInst p.pkey (bytesAt h.payload 0 2 % 4096) (bytesAt h.payload 2 4) with
  | none => s
  | some (_, c) =>
    let root := bytesAt h.payload 6 2
    let k := bytesAt h.payload 8 4
    let open0 (m : CMember) : Bool := ! m.closed && ! seatMem (dDst m.issue.desc) && ! m.counts.contains (pieceId root k)
    ((c.served s.nodeId p.ep).filter open0).foldl (fun t m =>
      match t.putBytes c.part (dDst m.issue.desc + c.pieceOff root k) (cellPlain (t.pieceCheck p h) 0 (p.data h)) with
      | .ok u => u
      | .error _ => t) s

/-- A whole piece: checked, and placed or asked for again (R277, R311). -/
def State.endPiece (s0 : State) (p : Piece) (h : Cell) : State :=
  match s0.openPiece p h with
  | some b => s0.placePiece p h b
  | none =>
    let s := s0.writeUnchecked p h
    let s1 := (s.putPiece p none).pieceFailed p.ep p.src p.tree p.tag
    let s2 := if s.sealedKey p.pkey then s1.gcmFailed p.pkey else s1
    match s2.ctxOfInst p.pkey (bytesAt h.payload 0 2 % 4096) (bytesAt h.payload 2 4) with
    | some (slot, c) => s2.askPiece slot c (bytesAt h.payload 6 2) (bytesAt h.payload 8 4)
    | none => s2

/-- Try the pieces that were kept for a member that has now joined. -/
def State.keptPieces (s : State) : State :=
  (s.prm.pieces.filter Piece.whole).foldl (fun t p => match p.head with
    | some h => (match t.openPiece p h with
      | some b => t.placePiece p h b
      | none => t)
    | none => t) s

/-- The groups that a piece may belong to by one of its cells: the one that its head names, else those of the contexts in which the cell's
SRC is a root. -/
def State.pieceGroups (s : State) (c : Cell) : List Nat :=
  if c.index = 0 then [bytesAt c.payload 0 2 % 4096]
  else
    ((s.col.ctxs.filter fun e => e.2.part == c.pkey.toNat && (e.2.code == 0x22 || e.2.code == 0x25) &&
      ((s.shape e.2).indexOf c.src.toNat).any fun r => (e.2.rootIndices (s.shape e.2)).contains r).map fun e => e.2.group)

/-- A cell of a piece reaches a receiving endpoint: this node by ejection, or a seat at its port. A piece whose first cell arrives
while its context is frozen is discarded (R411). -/
def State.gatherCell (s : State) (ep : Nat) (c : Cell) : State :=
  let src := c.src.toNat
  let tree := c.tree.toNat
  let tag := c.tag.toNat
  let old := s.prm.pieces.find? fun p => p.named ep src tree tag
  if s.frozenNow && old.isNone then s
  else
    let s0 := if old.isNone then s.takeTracker ep (s.pieceGroups c) c else s
    let p := old.getD (pieceBlank ep src tree tag c.pkey.toNat)
    if c.index = 0 then
      if s.sealedKey p.pkey && s.stale c.time.toNat then s0.staleHead p.pkey
      else
        let q := { p with head := some c }
        if p.head.isSome then s0 else if q.whole then s0.endPiece q c else s0.putPiece q (some q)
    else if (tabFind p.cells c.index.toNat).isSome then s0
    else
      let q := { p with cells := tabInsert p.cells c.index.toNat c.payload }
      match q.head with
      | some h => if q.whole then s0.endPiece q h else s0.putPiece q (some q)
      | none => s0.putPiece q (some q)

/-- A piece that was sent again to this node alone goes to its receivers: to seats by their ports, and to the node itself. -/
def State.unicastPiece (s : State) (c : Cell) : State :=
  let ctxs := s.col.ctxs.filter fun e => e.2.part == c.pkey.toNat && (e.2.code == 0x22 || e.2.code == 0x25) && e.2.live
  let seats := (ctxs.flatMap fun e => e.2.members.filter fun m => seatMem (dDst m.issue.desc) && !m.closed).map fun m => m.ep
  let s1 := seats.foldl (fun t ep => t.injectCell (withCheck { c with dest := BitVec.ofNat 15 ep, hop := 0 })) s
  s1.gatherCell s.nodeId c

/-! ## Ends (R312) -/

/-- A piece of a root of this node was placed on every branch of its tree (R312). -/
def State.rootPlaced (s : State) (ep tree : Nat) : State :=
  s.setCol { s.col with ctxs := s.col.ctxs.map fun e =>
    (e.1, { e.2 with roots := e.2.roots.map fun r => if r.ep = ep ∧ r.tree = tree ∧ r.placed < r.total then { r with placed := r.placed + 1 } else r }) }

/-- A member of this node is a receiving one. -/
def Shape.receives (h : Shape) (index : Nat) : Bool := (h.member index).any fun x => !x.noRecv

/-- The roots from which a receiving member lacks a piece. -/
def Ctx.shortRoots (c : Ctx) (h : Shape) (m : CMember) : List Nat :=
  if ! h.receives m.index then []
  else (c.rootIndices h).filter fun r => (List.range c.pieceTotal).any fun k => !m.counts.contains (pieceId r k)

/-- A member's end: what it lacks, once nothing is due to it any more. -/
def Ctx.gatherEnd (c : Ctx) (h : Shape) (m : CMember) : Option (Answer × List Nat) :=
  let short := c.shortRoots h m
  let run := c.roots.find? fun r => r.index == m.index
  let sent := match run with
    | some r => decide (r.total ≤ r.placed)
    | none => true
  let refused := match run with
    | some r => r.refused.filterMap h.indexOf
    | none => []
  match m.fail with
  | some a => some (a, [])
  | none =>
    if ! sent ∨ ! short.all fun r => c.missing.contains (h.epOf r) then none
    else some (if short.isEmpty ∧ refused.isEmpty then ⟨0, 0⟩ else ⟨1, 0⟩, short ++ refused)

/-- The members of this node that take part. -/
def Ctx.gatherLocals (c : Ctx) (h : Shape) (node : Nat) : List Nat :=
  (List.range h.members.length).filter fun i =>
    epNode (h.epOf i) == node && (h.receives i || (c.rootIndices h).contains i)

/-- A member of this node has ended, or never joined and is missing. -/
def Ctx.localOver (c : Ctx) (h : Shape) (i : Nat) : Bool :=
  match c.members.find? fun m => m.index == i with
  | some m => m.closed
  | none => c.missing.contains (h.epOf i)

/-- Close a context whose members have all ended: the OPEN is PARTIAL where a member is. -/
def State.closeGather (s : State) (slot : Nat) (c : Ctx) : State :=
  let h := s.shape c
  let lost := (c.members.flatMap fun m => m.lost).foldl addOnce (h.absentees s.nodeId c.miss fun _ => true)
  (s.freeCtx slot c).recordOpens slot c h.members.length (if lost.isEmpty then ⟨0, 0⟩ else ⟨1, 0⟩) 0 0 lost s.now

/-- Bring an ALLGATHER or a BCAST as far as what has arrived lets it go. -/
def State.settleGather (s : State) (slot : Nat) : State :=
  match s.ctx slot with
  | none => s
  | some c0 =>
    if ! c0.live then s
    else
      let s0 := s.grantRoots slot
      let s1 := ((s0.ctx slot).map fun c => (s0.rootsInTurn c).foldl (fun t r => match t.ctx slot with
        | some d => t.startRoot slot d r
        | none => t) s0).getD s0
      match s1.ctx slot with
      | none => s1
      | some c =>
        let h := s1.shape c
        let s2 := c.openMembers.foldl (fun t m => match c.gatherEnd h m with
          | some (a, lost) =>
            (t.modCtx slot fun d => { d with members := d.members.map fun x => if x.index = m.index then { x with closed := true, lost := lost } else x }).recordCol
              slot h.members.length m.issue a m.bytes m.xor lost t.now
          | none => t) s1
        match s2.ctx slot with
        | none => s2
        | some d =>
          if (d.gatherLocals h s2.nodeId).all (d.localOver h) then s2.closeGather slot d else s2

end Sys2Proof.Machine
end

