-- ==== Sys2Proof/Machine/Programs.lean ====
section
/-! DEFINITION. The Update engine's programs: micro-operations (R369 to R371, R373, Table 12-5), the built-in programs (R380) and the
PROGRAMS section (R385). -/

namespace Sys2Proof.Machine

/-! ## Micro-operations -/

/-- A micro-operation word's fields. -/
def uCode (w : Word) : Nat := bits w 0 8
def uD (w : Word) : Nat := bits w 8 5
def uA (w : Word) : Nat := bits w 13 5
def uB (w : Word) : Nat := bits w 18 5
def uC (w : Word) : Nat := bits w 23 5

/-- A micro-operation word. -/
def uop (code d a b c : Nat) : Word := pack 32 [(0, 8, code), (8, 5, d), (13, 5, a), (18, 5, b), (23, 5, c)]

/-- A program: its prologue and its body. -/
structure Prog where
  pro  : List Word
  body : List Word
deriving DecidableEq, Repr

/-- Bit masks of the streams that a program reads and writes, with stream 7 of LDT and ACCT (R386). -/
def Prog.has (p : Prog) (code : Nat) : Bool := p.body.any fun w => uCode w == code
def streamMask (ws : List Word) (code : Nat) : Nat :=
  ((List.range 8).filter fun n => ws.any fun w => uCode w == code && uA w == n).foldl (fun a n => a + 2 ^ n) 0
def Prog.reads (p : Prog) : Nat := streamMask p.body 0x20 ||| (if p.has 0x25 then 128 else 0)
def Prog.writes (p : Prog) : Nat := streamMask p.body 0x22 ||| (if p.has 0x24 then 128 else 0)
def Prog.grad (p : Prog) : Bool := p.has 0x21

/-- What a micro-operation reads besides registers: STEP, the element of a stream, the gradient, a draw, a tensor's norm. -/
structure Env where
  step : Nat
  lds  : Tab Nat
  ldg  : Nat
  rnd  : Tab Nat
  ldt  : Tab Nat
deriving DecidableEq, Repr

/-- An element's registers t0 to t15 and s0 to s15, the values it wrote to streams and the values it accumulated. -/
structure Elem where
  regs : List Nat
  outs : List (Nat × Nat)
  accs : List (Nat × Nat)
deriving DecidableEq, Repr

/-- One micro-operation (Table 12-5). -/
def Elem.run (e : Env) (x : Elem) (w : Word) : Elem :=
  let r (k : Nat) : Nat := x.regs.getD k 0
  let a := r (uA w)
  let b := r (uB w)
  let c := r (uC w)
  let put (v : Nat) : Elem := { x with regs := x.regs.set (uD w) v }
  match uCode w with
  | 0x01 => put (canon32 a)
  | 0x02 => put (add32 a b)
  | 0x03 => put (sub32 a b)
  | 0x04 => put (mul32 a b)
  | 0x05 => put (div32 a b)
  | 0x06 => put (fma32 false a b c)
  | 0x07 => put (fma32 true a b c)
  | 0x08 => put (sqrt32 a)
  | 0x09 => put (min32 a b)
  | 0x0A => put (max32 a b)
  | 0x0B => put (abs32 a)
  | 0x0C => put (negate32 a)
  | 0x0D => put (cmplt32 a b)
  | 0x0E => put (sel32 a b c)
  | 0x10 => put (powi32 a e.step)
  | 0x20 => put (tabGet 0 e.lds (uA w))
  | 0x21 => put e.ldg
  | 0x22 => { x with outs := x.outs ++ [(uA w, b)] }
  | 0x23 => put (tabGet 0 e.rnd (uA w))
  | 0x24 => { x with accs := x.accs ++ [(uB w, a)] }
  | 0x25 => put (tabGet 0 e.ldt (uA w))
  | _ => x

/-- Run micro-operations in program order. -/
def Elem.runAll (e : Env) (x : Elem) (ws : List Word) : Elem := ws.foldl (Elem.run e) x

/-- The scalars as preset: CLIP, K0 to K7, 1.0, and zeros (R369). -/
def presets (clip : Nat) (ks : List Nat) : List Nat :=
  List.replicate 16 0 ++ [clip] ++ (List.range 8).map (fun k => ks.getD k 0) ++ [one32] ++ List.replicate 6 0

/-- The registers after the prologue. -/
def Prog.scalars (p : Prog) (step clip : Nat) (ks : List Nat) : List Nat :=
  let e : Env := { step := step, lds := [], ldg := 0, rnd := [], ldt := [] }
  (Elem.runAll e { regs := presets clip ks, outs := [], accs := [] } p.pro).regs

/-! ## The built-in programs (R380) -/

/-- Operand indices of t and s registers. -/
def tr (k : Nat) : Nat := k
def sr (k : Nat) : Nat := 16 + k

def uMul (d a b : Nat) : Word := uop 0x04 d a b 0
def uFma (d a b c : Nat) : Word := uop 0x06 d a b c
def uFnma (d a b c : Nat) : Word := uop 0x07 d a b c
def uDiv (d a b : Nat) : Word := uop 0x05 d a b 0
def uSub (d a b : Nat) : Word := uop 0x03 d a b 0
def uSqrt (d a : Nat) : Word := uop 0x08 d a 0 0
def uLds (d n : Nat) : Word := uop 0x20 d n 0 0
def uLdg (d : Nat) : Word := uop 0x21 d 0 0 0
def uSts (n b : Nat) : Word := uop 0x22 0 n b 0
def uAcct (a j : Nat) : Word := uop 0x24 0 a j 0
def uLdt (d j : Nat) : Word := uop 0x25 d j 0 0

/-- SGD_MOMENTUM. -/
def sgdMomentum : Prog where
  pro := []
  body := [uLdg (tr 0), uMul (tr 0) (tr 0) (sr 0), uLds (tr 1) 1, uFma (tr 0) (sr 3) (tr 1) (tr 0), uLds (tr 2) 2,
    uFma (tr 2) (sr 2) (tr 2) (tr 0), uFnma (tr 1) (sr 1) (tr 2) (tr 1), uSts 2 (tr 2), uSts 1 (tr 1), uSts 5 (tr 1), uSts 6 (tr 1)]

/-- ADAMW's prologue; TRUST_A's numerator of s12 is 1.0. -/
def adamPrologue (numerator : Nat) : List Word :=
  [uop 0x10 (sr 10) (sr 2) 0 0, uSub (sr 10) (sr 9) (sr 10), uop 0x10 (sr 11) (sr 3) 0 0, uSub (sr 11) (sr 9) (sr 11),
    uSqrt (sr 11) (sr 11), uDiv (sr 12) numerator (sr 10), uSub (sr 13) (sr 9) (sr 2), uSub (sr 14) (sr 9) (sr 3),
    uMul (sr 15) (sr 1) (sr 5)]

/-- ADAMW's body up to t7. -/
def adamBody : List Word :=
  [uLdg (tr 0), uMul (tr 0) (tr 0) (sr 0), uLds (tr 1) 1, uLds (tr 2) 2, uLds (tr 3) 3, uMul (tr 4) (tr 0) (sr 13),
    uFma (tr 2) (sr 2) (tr 2) (tr 4), uMul (tr 5) (tr 0) (tr 0), uMul (tr 5) (tr 5) (sr 14), uFma (tr 3) (sr 3) (tr 3) (tr 5),
    uSqrt (tr 6) (tr 3), uDiv (tr 6) (tr 6) (sr 11), uop 0x02 (tr 6) (tr 6) (sr 4) 0, uDiv (tr 7) (tr 2) (tr 6)]

/-- ADAMW. -/
def adamw : Prog where
  pro := adamPrologue (sr 1)
  body := adamBody ++ [uFnma (tr 1) (sr 15) (tr 1) (tr 1), uFnma (tr 1) (sr 12) (tr 7) (tr 1), uSts 2 (tr 2), uSts 3 (tr 3), uSts 1 (tr 1),
    uSts 5 (tr 1), uSts 6 (tr 1)]

/-- TRUST_A. -/
def trustA : Prog where
  pro := adamPrologue (sr 9)
  body := adamBody ++ [uMul (tr 7) (tr 7) (sr 12), uFma (tr 7) (sr 5) (tr 1) (tr 7), uAcct (tr 1) 0, uAcct (tr 7) 1, uSts 2 (tr 2),
    uSts 3 (tr 3), uSts 4 (tr 7)]

/-- TRUST_B. -/
def trustB : Prog where
  pro := []
  body := [uLds (tr 1) 1, uLds (tr 4) 4, uLdt (tr 8) 0, uLdt (tr 9) 1, uDiv (tr 10) (tr 8) (tr 9), uop 0x09 (tr 11) (tr 8) (tr 9) 0,
    uop 0x0E (tr 10) (tr 10) (sr 9) (tr 11), uMul (tr 12) (sr 1) (tr 10), uFnma (tr 1) (tr 12) (tr 4) (tr 1), uSts 1 (tr 1), uSts 5 (tr 1),
    uSts 6 (tr 1)]

/-! ## The PROGRAMS section (R385) -/

/-- A custom program record (Table 12-8). -/
structure Custom where
  id     : Nat
  npro   : Nat
  nbody  : Nat
  head0  : Word
  head1  : Word
  prog   : Prog
deriving DecidableEq, Repr

/-- The record at the front of a word list, and the words after it. -/
def readCustom (ws : List Word) : Option (Custom × List Word) :=
  match ws with
  | w0 :: w1 :: t =>
    let np := bits w0 16 6
    let nb := bits w0 22 7
    if t.length < np + nb then none
    else some ({ id := bits w0 0 16, npro := np, nbody := nb, head0 := w0, head1 := w1
                 prog := { pro := t.take np, body := (t.drop np).take nb } }, t.drop (np + nb))
  | _ => none

/-- `n` records, and the words left over; none where a record runs past the body. -/
def readCustoms : Nat → List Word → Option (List Custom × List Word)
  | 0, ws => some ([], ws)
  | n + 1, ws =>
    match readCustom ws with
    | none => none
    | some (c, t) => (readCustoms n t).map fun r => (c :: r.1, r.2)

/-- The custom programs of a PROGRAMS body. -/
def customsOf (b : List Word) : List Custom :=
  match b with
  | [] => []
  | w :: t => ((readCustoms (bits w 0 7) t).map fun r => r.1).getD []

/-- A program of a version. -/
def PlateV.program (v : PlateV) (id : Nat) : Option Prog :=
  match id with
  | 1 => some sgdMomentum
  | 2 => some adamw
  | 3 => some trustA
  | 4 => some trustB
  | _ => ((customsOf (v.body 6)).find? fun c => c.id == id).map fun c => c.prog

/-! ## Elements (R373, R381) -/

/-- An element of a stream, converted exactly to FP32. -/
def toFp32 (code x : Nat) : Nat := roundOut 0x01 (addend code x 0) .rne 0

/-- LDG (R373): the exact value × 2^-LS / DIV, rounded once. -/
def gradOf (v : Addend) (ls : Int) (divisor : Nat) : Nat :=
  match v with
  | .zero => 0
  | .negZero => withSign true 0
  | .special f => if f % 2 = 1 ∨ f % 8 = 6 then nan32 else withSign (f % 8 == 4) 0x7F800000
  | .finite x =>
    let n := x.natAbs * 2 ^ 700
    let q := 2 * (n / max divisor 1) + b2n (n % max divisor 1 != 0)
    withSign (decide (x < 0)) (roundCode fp32 q (861 + ls).toNat 0 .rne 0)

/-- The rounding that a stream's ROUND names. -/
def streamRounding (round : Nat) : Rounding :=
  match round with
  | 1 => .rtz
  | 2 => .sr
  | _ => .rne

end Sys2Proof.Machine
end

