-- ==== Sys2Proof/Machine/Sweep.lean ====
section
/-! DEFINITION. The Proof sweep (R80, R81): its values, its SWEEP messages and its end. -/

namespace Sys2Proof.Machine

/-! ## Values -/

/-- Count, minimum and maximum. -/
def Sweep.fold (a b : Sweep) : Sweep where
  count := a.count + b.count
  least := min a.least b.least
  most := max a.most b.most

/-- The 52-byte value of a version: its State, most significant byte first, and its Proof, as a 416-bit number. -/
def sweepNumber (v : PlateV) : Nat := ofBytesBE (natBytesBE v.state.toNat 4 ++ toBytes v.proof 48)

/-- This node's own value in a sweep. -/
def State.sweepOwn (s : State) (c : Ctx) : Option Sweep :=
  (s.versionNamed c.version).map fun v => { count := 1, least := sweepNumber v, most := sweepNumber v }

/-! ## Messages (Table 03-15) -/

/-- The three payloads of a value's message. -/
def sweepLines (group inst stage : Nat) (v : Sweep) : List Line :=
  let put (rest : List (Nat × Nat × Nat)) : Line := packBytes 512 ([(1, 1, stage), (2, 2, group), (4, 4, inst)] ++ rest)
  let big (x : Nat) : Nat := ofBytes (natBytesBE x 52)
  let a := put [(8, 4, v.count), (12, 52, big v.least)]
  let b := put [(12, 52, big v.most)]
  [a, b, put [(12, 8, crc64 (toBytes a 64 ++ toBytes b 64))]]

/-- A SWEEP cell. -/
def State.sweepCell (s : State) (dest index : Nat) (last : Bool) (p : Line) : Cell :=
  withCheck { s.mkCell 0x34 dest 0 0 p with index := BitVec.ofNat 12 index, last := last }

/-- Send a value's message to a partner. -/
def State.sendSweep (s : State) (c : Ctx) (stage dest : Nat) (v : Sweep) : State :=
  ((sweepLines c.group c.inst stage v).zipIdx).foldl (fun t e => t.injectCell (t.sweepCell dest e.2 (e.2 == 2) e.1)) s

/-- Answer a message with DONE. -/
def State.doneSweep (s : State) (c : Ctx) (stage dest : Nat) : State :=
  s.injectCell (s.sweepCell dest 0 true (packBytes 512 [(0, 1, 1), (1, 1, stage), (2, 2, c.group), (4, 4, c.inst)]))

/-- The value of a whole message, where its check matches. -/
def readSweep (cells : Tab Line) : Option Sweep :=
  match tabFind cells 0, tabFind cells 1, tabFind cells 2 with
  | some a, some b, some t =>
    if crc64 (toBytes a 64 ++ toBytes b 64) = bytesAt t 12 8 then
      some { count := bytesAt a 8 4, least := ofBytesBE ((toBytes a 64).drop 12), most := ofBytesBE ((toBytes b 64).drop 12) }
    else none
  | _, _, _ => none

/-! ## The exchange -/

/-- The value of a stage and sender that has arrived. -/
def Ctx.gotSweep (c : Ctx) (stage sender : Nat) : Option Sweep :=
  (c.swept.find? fun g => g.stage == stage && g.sender == sender).bind fun g => g.value

/-- What the sweep has to send and what it ends with. -/
def State.sweepFlow (s : State) (c : Ctx) : Flowed Sweep :=
  (s.shape c).flow Sweep.fold (s.sweepOwn c) c.gotSweep c.missing.contains

/-- The result's 112 bytes (Table 03-6). -/
def sweepResult (v : Sweep) : List Byte := natBytes v.count 4 ++ natBytes 0 4 ++ natBytesBE v.least 52 ++ natBytesBE v.most 52

/-- Close a sweep: the result, and the record, PARTIAL where a member did not contribute (R80). -/
def State.closeSweep (s : State) (k : Nat) (c : Ctx) (v : Sweep) : State :=
  let h := s.shape c
  let absent := h.absentees s.nodeId c.miss fun _ => true
  let whole := decide (v.count = h.members.length) && c.miss.isEmpty
  let b := sweepResult v
  let s1 := s.freeCtx k c
  match s1.putBytes c.part (dDst c.desc) b with
  | .error a => s1.recordOpens k c h.members.length a 0 0 absent s1.now
  | .ok t => t.recordOpens k c h.members.length (if whole then ⟨0, 0⟩ else ⟨1, 0⟩) b.length (crc64 b) absent t.now

/-- Bring a sweep as far as what has arrived lets it go: new values are sent, and it ends once its own are all answered. -/
def State.settleSweep (s : State) (k : Nat) : State :=
  match s.ctx k with
  | none => s
  | some c =>
    if ! c.live then s
    else
      let r := s.sweepFlow c
      let fresh := r.sends.filter fun x => !c.missing.contains x.2.1 && !c.sweeps.any fun y => y.stage == x.1 && y.dest == x.2.1
      let c1 := { c with sweeps := c.sweeps ++ fresh.map fun x => { stage := x.1, dest := x.2.1, last := s.now, done := false } }
      let s1 := fresh.foldl (fun t x => t.sendSweep c x.1 x.2.1 x.2.2) (s.setCtx k c1)
      match r.result with
      | none => s1
      | some v => if c1.fail.isSome || c1.sweeps.all fun y => y.done || c1.missing.contains y.dest then s1.closeSweep k c1 v else s1

/-- SWEEP_RESEND (R81): every message whose DONE has not arrived within REGRANT is sent again. -/
def execSweepResend (k : CtxIx) (s : State) : Host.Outcome State Fault Refusal :=
  if ! s.running then .next s else
  match s.ctx k with
  | none => .next s
  | some c =>
    if c.code ≠ 0x50 ∨ ! c.live then .next s
    else
      let due (y : SentSweep) : Bool := !y.done && !c.missing.contains y.dest && decide (y.last + s.regrantTime ≤ s.now)
      let sends := (s.sweepFlow c).sends
      let s1 := (c.sweeps.filter due).foldl (fun t y =>
        match sends.find? fun x => x.1 == y.stage && x.2.1 == y.dest with
        | some x => t.sendSweep c x.1 x.2.1 x.2.2
        | none => t) s
      .next (s1.setCtx k { c with sweeps := c.sweeps.map fun y => if due y then { y with last := s.now } else y })

/-- Take a SWEEP cell for its context (R81): each message once per sender and stage, answered with DONE; a bad one is dropped. -/
def State.takeSweep (s : State) (c : Cell) : State :=
  let p := c.payload
  let stage := bytesAt p 1 1
  let sender := c.src.toNat
  match s.ctxOfInst 0 (bytesAt p 2 2 % 4096) (bytesAt p 4 4) with
  | none => s
  | some (k, x) =>
    if x.code ≠ 0x50 ∨ ! x.live ∨ x.missing.contains sender then s
    else if bytesAt p 0 1 = 1 then
      s.setCtx k { x with sweeps := x.sweeps.map fun y => if y.stage = stage ∧ y.dest = sender then { y with done := true } else y }
    else if ! (s.shape x).valueSenders.contains (sender, stage) then s
    else
      let old := (x.swept.find? fun g => g.stage == stage && g.sender == sender).getD
        { stage := stage, sender := sender, cells := [], value := none }
      let put (g : GotSweep) : State :=
        s.setCtx k { x with swept := (x.swept.filter fun y => !(y.stage == stage && y.sender == sender)) ++ [g] }
      if old.value.isSome then (if c.last then s.doneSweep x stage sender else s)
      else
        let cells := tabInsert old.cells c.index.toNat p
        if ((List.range 3).all fun i => (tabFind cells i).isSome) then
          match readSweep cells with
          | some v => (put { old with cells := [], value := some v }).doneSweep x stage sender
          | none => put { old with cells := [] }
        else put { old with cells := cells }

end Sys2Proof.Machine
end

