-- ==== Sys2Proof/Machine/UpdateRun.lean ====
section
/-! DEFINITION. The Update engine (chapter 12): the block and its checks (R363 to R366), joining a context (R374), one segment at a
time (R372, R373, R379, R381, R382, R389), and the end of an UPDATE (R375, R378, R392). -/

namespace Sys2Proof.Machine

/-! ## The update block (Tables 12-2 and 12-3) -/

/-- A stream entry. -/
structure Stream where
  addr  : Nat
  fmt   : Nat
  isIn  : Bool
  isOut : Bool
  round : Nat
  spare : Nat
deriving DecidableEq, Repr

/-- Stream `n` of the block; none where its entry is all zero. -/
def Update.stream (u : Update) (n : Nat) : Option Stream :=
  let at0 := 96 + 16 * n
  if bytesAt u.block at0 16 = 0 then none
  else
    let dir := bytesAt u.block (at0 + 9) 1
    some { addr := bytesAt u.block at0 8, fmt := bytesAt u.block (at0 + 8) 1, isIn := dir.testBit 0, isOut := dir.testBit 1
           round := dir / 4 % 4, spare := dir / 16 + bytesAt u.block (at0 + 10) 6 }

/-- The streams present, with their numbers. -/
def Update.streams (u : Update) : List (Nat × Stream) := (List.range 8).filterMap fun n => (u.stream n).map fun x => (n, x)

/-- Stream 7 holds tensor-norm images (R382). -/
def normStream (p : Prog) (n : Nat) : Bool := n == 7 && (p.has 0x24 || p.has 0x25)

/-- The bytes of a whole MX segment image (R365). -/
def fullImage (fmt : Nat) : Nat := imageBytes fmt 1024

/-- The bytes that a stream of `e` elements takes. -/
def Update.streamBytes (u : Update) (p : Prog) (n : Nat) (x : Stream) (e : Nat) : Nat :=
  if normStream p n then (if p.has 0x24 then 65920 else 65920 * u.images)
  else if x.fmt = 0x1F then 41664 * segCount e
  else if isMx x.fmt then (if e = 0 then 0 else fullImage x.fmt * (segCount e - 1) + imageBytes x.fmt (segElems e (segCount e - 1)))
  else e * elemBits x.fmt / 8

/-- A format is allowed in a stream's role (Table 12-4). -/
def Update.formatOk (u : Update) (p : Prog) (n : Nat) (x : Stream) : Bool :=
  if normStream p n then (if p.has 0x24 then x.isOut && !x.isIn && x.fmt == 0x1F else x.isIn && !x.isOut && [1, 2, 3, 0x1F].contains x.fmt)
  else if n = 0 ∧ u.gsrc = 1 then x.isIn && !x.isOut && [1, 2, 3, 0x1F].contains x.fmt
  else if x.isIn && x.isOut then [1, 2].contains x.fmt
  else if x.isIn then [1, 2, 3].contains x.fmt
  else x.isOut && [1, 2, 3, 4, 5, 8, 9, 10, 11, 12, 13].contains x.fmt

/-- A fixed field of the descriptor is not as Table 12-1 gives it. Log entry 114 (DEDUCED). -/
def Update.fieldsBad (u : Update) : Bool :=
  let d := u.issue.desc
  dOrdered d || dAlt d || dDst d != 0 || dLen d != 256 || dFormat d != 0 || dMod d != 0 || dArg d 10 6 != 0 || (u.gsrc != 0 && u.inst != 0)

/-- A field of the block is reserved and not 0, or out of its range (R366, Table 12-2). -/
def Update.blockBad (u : Update) : Bool :=
  let w0 := bytesAt u.block 0 4
  w0 / 8 != 0 || bytesAt u.block 17 1 != 0 || bytesAt u.block 224 32 != 0 || (u.streams.any fun e => e.2.spare != 0 || e.2.round == 3) ||
    u.gsrc == 3 || decide (u.ls < -126 ∨ 126 < u.ls) || u.divisor == 0 || decide (0x7F800000 ≤ u.maxNorm) ||
    (u.maxNorm != 0 && !u.gated) || (u.gated && u.gsrc == 2) || decide (256 < u.tensors) || decide (1024 < u.images) ||
    (!u.gated && u.normInst != 0) || (u.tensors == 0 && u.table != 0) || (u.spillSize == 0 && u.spill != 0) ||
    (u.gsrc == 0 && (u.elemFirst != 0 || u.elemCount != 0)) || (u.gsrc != 0 && u.elemCount == 0)

/-- A stream's format, direction or address is wrong (R200, R366). -/
def Update.streamsBad (u : Update) (p : Prog) : Bool :=
  (u.streams.any fun e => !u.formatOk p e.1 e.2 || seatMem e.2.addr || badAddress e.2.addr) ||
    ((List.range 8).any fun n => p.reads.testBit n && !(u.stream n).any fun x => x.isIn) ||
    ((List.range 8).any fun n => p.writes.testBit n && (u.stream n).any fun x => !x.isOut) ||
    (u.gsrc == 1 && (u.stream 0).isNone) || (p.grad && u.gsrc == 2) ||
    (u.tensors != 0 && (seatMem u.table || badAddress u.table)) || (u.spillSize != 0 && (seatMem u.spill || badAddress u.spill)) ||
    (u.gsrc != 0 && u.elemFirst % 32 != 0 && u.streams.any fun e => isMx e.2.fmt)

/-- Two byte ranges overlap. -/
def overlaps (a b : Nat × Nat) : Bool := decide (0 < a.2 ∧ 0 < b.2 ∧ a.1 < b.1 + b.2 ∧ b.1 < a.1 + a.2)

/-- An OUT stream overlaps another stream, the tensor table or the spill area (R366). -/
def Update.overlapBad (u : Update) (p : Prog) (e : Nat) : Bool :=
  let range (x : Nat × Stream) : Nat × Nat := (x.2.addr, u.streamBytes p x.1 x.2 e)
  u.streams.any fun x => x.2.isOut && ((u.streams.any fun y => y.1 != x.1 && overlaps (range x) (range y)) ||
    overlaps (range x) (u.table, 16 * u.tensors) || overlaps (range x) (u.spill, u.spillSize))

/-- Why a range of this node cannot be used. -/
def State.rangeAnswer (s : State) (part addr n : Nat) (wr : Bool) : Option Answer :=
  if n = 0 then none
  else match s.regionFor part addr n wr with
    | .error a => some a
    | .ok _ => none

/-- Why a control structure cannot be read (R364): it lies in a region of the partition or of partition 0x0000. -/
def State.controlAnswer (s : State) (part addr n : Nat) : Option Answer :=
  match s.rangeAnswer part addr n false with
  | some ⟨9, 17⟩ => s.rangeAnswer 0 addr n false
  | r => r

/-- The bytes of a control structure (R364). -/
def State.controlBytes (s : State) (part addr n : Nat) : Except Answer (List Byte) :=
  match s.getBytes part addr n with
  | .error ⟨9, 17⟩ => s.getBytes 0 addr n
  | r => r

/-- The range checks of R366 for `e` elements. -/
def State.updateRanges (s : State) (u : Update) (p : Prog) (e : Nat) : Option Answer :=
  if u.overlapBad p e then some ⟨11, 49⟩
  else if u.gated ∧ u.gsrc = 0 ∧ u.spillSize < 41664 * segCount e then some ⟨11, 49⟩
  else firstAnswer ((u.streams.map fun x => s.rangeAnswer u.part x.2.addr (u.streamBytes p x.1 x.2 e) x.2.isOut) ++
    [s.rangeAnswer u.part u.spill u.spillSize true, s.controlAnswer u.part u.table (16 * u.tensors)])

/-- Every check of R366 that is possible at issue, under a version. -/
def State.updateRefused (s : State) (u : Update) (v : PlateV) : Option Answer :=
  match v.program u.program with
  | none => some ⟨11, 48⟩
  | some p =>
    if u.fieldsBad || u.blockBad || u.streamsBad p then some ⟨11, 49⟩
    else if u.gsrc = 0 then none
    else s.updateRanges u p u.elemCount

/-- Refuse an UPDATE with BYTES 0. -/
def State.refuseUpdate (s : State) (u : Update) (a : Answer) : State := (s.bump (R.updCount 5)).endUpdate { u with written := 0, gate := none } a 0

/-! ## Joining a context (R374) -/

/-- An UPDATE joins its reduction's context: the checks that need the shard's size are made now (R366). -/
def State.joinUpdate (s : State) (u : Update) : State :=
  if u.gsrc ≠ 0 ∨ u.ctx.isSome ∨ u.ended then s
  else match s.ctxOfInst u.part u.group u.inst with
    | none => s
    | some (k, c) =>
      if c.code ≠ 0x20 then s
      else if c.consumer.isSome ∨ c.byUpdate then s.refuseUpdate u ⟨11, 50⟩
      else
        let a := s.shardFirst c
        let b := s.shardEnd c
        let e := min (1024 * b) c.elems - min (1024 * a) c.elems
        let u1 := { u with ctx := some k, epoch := c.epoch, segments := b - a, first := 1024 * a, elems := e }
        let s1 := (s.setCtx k { c with consumer := some u.issue, byUpdate := true }).putUpdate u (some u1)
        match s1.versionNamed c.version with
        | none => s1
        | some v =>
          match v.program u.program with
          | none => s1.refuseUpdate u1 ⟨11, 48⟩
          | some p =>
            match (if u.streamsBad p then some ⟨11, 49⟩ else s1.updateRanges u1 p e) with
            | some r => s1.refuseUpdate u1 r
            | none => s1

/-- Every waiting UPDATE whose context exists joins it. -/
def State.joinUpdates (s : State) : State := s.upd.queue.foldl (fun t u => t.joinUpdate u) s

/-! ## One segment -/

/-- A tensor-table entry: the tensor's first element and its count. -/
def tensorsOf (b : List Byte) (n : Nat) : List (Nat × Nat) :=
  (List.range n).map fun k => (ofBytes ((b.drop (16 * k)).take 8), ofBytes ((b.drop (16 * k + 8)).take 4))

/-- The tensor that holds an element. -/
def tensorOf (ts : List (Nat × Nat)) (g : Nat) : Option Nat :=
  let k := ts.findIdx fun t => decide (t.1 ≤ g ∧ g < t.1 + t.2)
  if k < ts.length then some k else none

/-- The elements of the streams that a body reads, by stream, for `n` elements from relative element `e0`; none where one cannot
be read. -/
def State.readStreams (s : State) (u : Update) (p : Prog) (e0 n : Nat) : Option (List (Nat × List Nat)) :=
  ((List.range 8).filter fun k => p.reads.testBit k && !normStream p k).foldl (fun acc k =>
    match acc, u.stream k with
    | some l, some x =>
      let sz := elemBits x.fmt / 8
      match s.getBytes u.part (x.addr + e0 * sz) (n * sz) with
      | .ok b => some (l ++ [(k, (List.range n).map fun i => toFp32 x.fmt (ofBytes ((b.drop (i * sz)).take sz)))])
      | .error _ => none
    | _, _ => none) (some [])

/-- The ranges that `readStreams` reads. -/
def Update.readPlaces (u : Update) (p : Prog) (e0 n : Nat) : List (Nat × Nat) :=
  ((List.range 8).filter fun k => p.reads.testBit k && !normStream p k).filterMap fun k =>
    (u.stream k).map fun x => (x.addr + e0 * (elemBits x.fmt / 8), n * (elemBits x.fmt / 8))

/-- Run the body for the elements of a segment, whose first has relative index `e0`. -/
def Update.runElems (u : Update) (p : Prog) (ts : List (Nat × Nat)) (e0 : Nat) (streams : List (Nat × List Nat)) (grads : List Addend) :
    List Elem :=
  let clip := match u.gate with
    | some g => g.1.toNat
    | none => one32
  let sc := p.scalars u.step clip ((List.range 8).map u.scalar)
  let draws := (p.body.filter fun w => uCode w == 0x23).map uA
  (grads.zipIdx).map fun e =>
    let g := u.first + e0 + e.2
    let env : Env :=
      { step := u.step, lds := streams.map fun x => (x.1, x.2.getD e.2 0), ldg := gradOf e.1 u.ls u.divisor
        rnd := draws.map fun j => (j, rnd32 u.seed g u.step j)
        ldt := match tensorOf ts g with
          | some t => [(0, (tabGet 0 u.norms (2 * t)).toNat), (1, (tabGet 0 u.norms (2 * t + 1)).toNat)]
          | none => [] }
    Elem.runAll env { regs := sc, outs := [], accs := [] } p.body

/-- The image that a stream takes of a segment (R365, R381). -/
def Update.streamImage (u : Update) (n : Nat) (x : Stream) (e0 : Nat) (els : List Elem) : List Byte :=
  let vals := els.map fun e => addend 0x01 (((e.outs.find? fun o => o.1 == n).map fun o => o.2).getD 0) 0
  roundImage x.fmt vals (streamRounding x.round) fun i => philox u.seed (u.first + e0 + i) u.step (0x100 + n)

/-- Where a stream's image of segment `k` lies. -/
def Stream.place (x : Stream) (k : Nat) : Nat := x.addr + (if isMx x.fmt then k * fullImage x.fmt else 1024 * k * elemBits x.fmt / 8)

/-- An output that cannot be written whole: outside its region, on a FAILED channel, or a poisoned line written only in part. -/
def State.outputBad (s : State) (part addr n : Nat) : Bool :=
  match s.regionFor part addr n true with
  | .error _ => true
  | .ok (v, g) =>
    s.channelFailed v g (linesOf (offsetOf addr) n) || (linesOf (offsetOf addr) n).any fun o => partialLine (offsetOf addr) n o && s.poisoned (v.lineAt g.num o)

/-- Add the elements' squares to the tensor accumulators (R382): keys 2k + j. -/
def addSquares (ts : List (Nat × Nat)) (g0 : Nat) (els : List Elem) (accs : Tab (Nat × Bool)) : Tab (Nat × Bool) :=
  (els.zipIdx).foldl (fun t e => match tensorOf ts (g0 + e.2) with
    | none => t
    | some k => e.1.accs.foldl (fun r a =>
        let old := tabGet (0, false) r (2 * k + a.1)
        let new := if isNan32 a.2 || isInf32 a.2 then (old.1, true) else (old.1 + 4 * fp32.units a.2 * fp32.units a.2, old.2)
        tabInsert r (2 * k + a.1) new) t) accs

/-- A segment is left unwritten (R389). -/
def State.poisonSegment (s : State) (u : Update) : State × Update :=
  ((s.bump (R.updCount 3)).raiseFault 57 0xFFFF 1 0, { u with poison := true, applied := u.applied + 1 })

/-- Apply the program to segment `k` of an UPDATE, given its gradients. -/
def State.applySegment (s : State) (u : Update) (p : Prog) (k : Nat) (grads : List Addend) : State × Update :=
  let e0 := 1024 * k
  match s.readStreams u p e0 grads.length, s.controlBytes u.part u.table (16 * u.tensors) with
  | some streams, .ok tb =>
    let ts := tensorsOf tb u.tensors
    let els := u.runElems p ts e0 streams grads
    let outs := (u.streams.filter fun x => p.writes.testBit x.1 && !normStream p x.1).map fun x =>
      (x.2.place k, u.streamImage x.1 x.2 e0 els)
    if outs.any fun o => s.outputBad u.part o.1 o.2.length then s.poisonSegment u
    else
      let told := (u.readPlaces p e0 grads.length).foldl (fun t x => t.tellReads u.part x.1 x.2) s
      let s1 := outs.foldl (fun t o => match t.putBytes u.part o.1 o.2 with
        | .ok r => r
        | .error _ => t) told
      let s2 := s1.setReg64 R.updElements ((s1.reg64 R.updElements + grads.length) % 2 ^ 64)
      (s2, { u with applied := u.applied + 1, written := u.written + grads.length, accs := addSquares ts (u.first + e0) els u.accs })
  | _, _ => s.poisonSegment u

/-- The elements of a CF image in memory. -/
def State.cfAt (s : State) (part addr n : Nat) : Option (List Addend) :=
  match s.getBytes part addr 16 with
  | .error _ => none
  | .ok h =>
    let len := min (ofBytes (h.take 4)) 41648
    match s.getBytes part (addr + 16) len with
    | .error _ => none
    | .ok b => match cfDecode false (n / 16 + 1) n b with
      | some (es, []) => some es
      | _ => none

/-- The gradients of segment `k` in REGION or NONE mode. -/
def State.regionGrads (s : State) (u : Update) (k : Nat) : Option (List Addend) :=
  let n := segElems u.elemCount k
  if u.gsrc = 2 then some (List.replicate n .zero)
  else match u.stream 0 with
    | none => none
    | some x =>
      if x.fmt = 0x1F then s.cfAt u.part (x.addr + 41664 * k) n
      else
        let sz := elemBits x.fmt / 8
        match s.getBytes u.part (x.addr + 1024 * k * sz) (n * sz) with
        | .ok b => some ((List.range n).map fun i => addend x.fmt (ofBytes ((b.drop (i * sz)).take sz)) 0)
        | .error _ => none

/-- Apply a segment whose gradients may be unreadable. -/
def State.applyMaybe (s : State) (u : Update) (p : Prog) (k : Nat) (grads : Option (List Addend)) : State × Update :=
  match grads with
  | some g => s.applySegment u p k g
  | none => s.poisonSegment u

/-! ## Tensor norms (R382) -/

/-- Sum one image into the norms. -/
def sumImage (es : List Addend) (acc : Tab (Nat × Bool)) : Tab (Nat × Bool) :=
  (es.zipIdx).foldl (fun t e =>
    let old := tabGet (0, false) t e.2
    match e.1 with
    | .finite v => tabInsert t e.2 (old.1 + v.natAbs, old.2)
    | .special _ => tabInsert t e.2 (old.1, true)
    | _ => tabInsert t e.2 old) acc

/-- The norms of an UPDATE whose program contains LDT, or why its images cannot serve. -/
def State.readNorms (s : State) (u : Update) : Except Answer (Tab (BitVec 32)) :=
  match u.stream 7 with
  | none => .error ⟨11, 49⟩
  | some x =>
    let r : Except Answer (Tab (Nat × Bool)) := (List.range u.images).foldl (fun acc i => match acc with
      | .error a => .error a
      | .ok t => match s.getBytes u.part (x.addr + 65920 * i) 65920 with
        | .error a => .error a
        | .ok b => match cfReadImage true (2 * u.tensors) b with
          | some (_, es) => .ok (sumImage es t)
          | none => .error ⟨11, 49⟩) (.ok [])
    match r with
    | .error a => .error a
    | .ok t => .ok ((List.range (2 * u.tensors)).map fun k =>
        let e := tabGet (0, false) t k
        (k, BitVec.ofNat 32 (if e.2 then nan32 else normRoot e.1)))

/-- The norm image that a program with ACCT leaves at stream 7. -/
def Update.normImage (u : Update) : List Byte :=
  cfImage true ((List.range (2 * u.tensors)).map fun k =>
    let e := tabGet (0, false) u.accs k
    if e.2 then Addend.special 1 else if e.1 = 0 then .zero else .finite e.1) 1 65920

/-! ## Work (R367, R379) -/

/-- The gate is open, or there is none. -/
def Update.gateOpen (u : Update) : Bool := !u.gated || u.gate.isSome

/-- The offered segments of an UPDATE's context. -/
def State.offeredTo (s : State) (u : Update) : List Nat :=
  match u.ctx.bind s.ctx with
  | some c => if c.state = .draining then c.offered else []
  | none => []

/-- A gated UPDATE takes its context's passes by spilling them: each pass of a context that has more than one, and before its gate
opens what a context with deferred segments offers (R379). -/
def State.spills (s : State) (u : Update) : Bool :=
  match u.ctx with
  | none => false
  | some k => match s.ctx k with
    | none => false
    | some c => u.gated && (decide (c.reserved < c.segTotal) || (!u.gateOpen && s.col.defers.any fun d => d.1 == k))

/-- An UPDATE has work ready (R367). -/
def State.updateReady (s : State) (u : Update) : Bool :=
  s.mayGrant && (if u.gsrc = 0 then
      (u.gateOpen && (!u.spilled.isEmpty || !(s.offeredTo u).isEmpty)) || (s.spills u && !(s.offeredTo u).isEmpty)
    else u.gateOpen && decide (u.applied < u.segments))

/-- An UPDATE's images have still to be summed. -/
def Update.needsNorms (u : Update) (p : Prog) : Bool := p.has 0x25 && decide (0 < u.tensors) && u.norms.isEmpty

/-- An offered segment is taken. -/
def State.tookOffered (s : State) (u : Update) (n : Nat) : State :=
  match u.ctx with
  | some k => s.modCtx k fun c => { c with offered := c.offered.filter fun x => x != n }
  | none => s

/-- Spill one offered segment as a CF image (R379); one that cannot be written is poisoned. -/
def State.spillSegment (s : State) (u : Update) (n : Nat) : State × Update :=
  match u.ctx.bind s.ctx with
  | none => (s, u)
  | some c => match c.seg n with
    | none => (s, u)
    | some x =>
      let k := n - u.first / 1024
      let img := cfImage false (x.values (segElems c.elems n)) x.count 0
      match s.putBytes u.part (u.spill + 41664 * k) img with
      | .ok t => (t.bump (R.updCount 4), { u with spilled := u.spilled ++ [k], spills := u.spills + 1 })
      | .error _ => s.poisonSegment u

/-- The gradients of an offered segment: its slots. -/
def State.offeredGrads (s : State) (u : Update) (n : Nat) : List Addend :=
  match u.ctx.bind s.ctx with
  | some c => match c.seg n with
    | some x => x.values (segElems c.elems n)
    | none => []
  | none => []

/-- One unit of an UPDATE's work. -/
def State.updateWork (s : State) (u : Update) (p : Prog) : State × Update :=
  match u.gsrc, s.offeredTo u, u.spilled with
  | 0, n :: _, sp =>
    if s.spills u then
      let r := s.spillSegment u n
      (r.1.tookOffered u n, r.2)
    else match sp with
      | k :: rest => s.applyMaybe { u with spilled := rest } p k (s.cfAt u.part (u.spill + 41664 * k) (segElems u.elems k))
      | [] =>
        let r := s.applySegment u p (n - u.first / 1024) (s.offeredGrads u n)
        (r.1.tookOffered u n, r.2)
  | 0, [], k :: rest => s.applyMaybe { u with spilled := rest } p k (s.cfAt u.part (u.spill + 41664 * k) (segElems u.elems k))
  | 0, [], [] => (s, u)
  | _, _, _ =>
    let told := if u.gsrc = 2 then s else match u.stream 0 with
      | some x => if x.fmt = 0x1F then s.tellReads u.part (x.addr + 41664 * u.applied) 41664
          else s.tellReads u.part (x.addr + 1024 * u.applied * (elemBits x.fmt / 8)) (segElems u.elemCount u.applied * (elemBits x.fmt / 8))
      | none => s
    told.applyMaybe u p u.applied (s.regionGrads u u.applied)

/-- Do one unit of an UPDATE's work; a program with LDT sums its images first, and a bad image refuses the UPDATE. -/
def State.updateUnit (s : State) (u : Update) : State :=
  match (s.versionOf u.epoch).bind fun v => v.program u.program with
  | none => s.refuseUpdate u ⟨11, 48⟩
  | some p =>
    let put (x : Update) : State :=
      let r := s.updateWork x p
      r.1.putUpdate u (some r.2)
    if u.needsNorms p then
      match s.readNorms u with
      | .error a => s.refuseUpdate u a
      | .ok t => put { u with norms := t }
    else put u

/-- Nothing of an UPDATE is left to do. -/
def Update.finished (u : Update) : Bool :=
  u.gateOpen && (if u.gsrc = 0 then u.ended && u.spilled.isEmpty else decide (u.segments ≤ u.applied))

/-- End an UPDATE that is over: a program with ACCT writes its norm image; then the record (R382, R392). -/
def State.finishUpdate (s : State) (u : Update) : State :=
  if ! u.finished then s
  else
    let p := (s.versionOf u.epoch).bind fun v => v.program u.program
    let image := match p, u.stream 7 with
      | some q, some x => if q.has 0x24 then some x.addr else none
      | _, _ => none
    let r : State × Bool := match image with
      | some addr => (match s.putBytes u.part addr u.normImage with
        | .ok t => (t, u.poison)
        | .error _ => (s, true))
      | none => (s, u.poison)
    let a : Answer := match u.fail with
      | some f => f
      | none => if r.2 then ⟨8, 31⟩ else ⟨0, 0⟩
    r.1.endUpdate u a u.miss

/-- End every UPDATE that is over. -/
def State.finishUpdates (s : State) : State := s.upd.queue.foldl (fun t u => t.finishUpdate u) s

/-! ## Rows (R367, R374, R378, R387) -/

/-- An UPDATE as accepted (R366, R367). -/
def State.updateBlank (s : State) (i : Issue) (stamp : Nat) (block : BitVec 2048) : Update :=
  { issue := i, stamp := stamp, block := block, epoch := s.epoch, ctx := none, since := stamp
    segments := if bits block 0 2 = 0 then 0 else segCount (bytesAt block 32 4)
    first := if bits block 0 2 = 0 then 0 else bytesAt block 24 8
    elems := if bits block 0 2 = 0 then 0 else bytesAt block 32 4
    applied := 0, written := 0, spilled := [], spills := 0, ended := false, gate := none, accs := [], norms := [], miss := 0
    poison := false, fail := none }

/-- The block is read and checked, and the UPDATE takes its place in the queue of 64. -/
def State.submitUpdate (s : State) (i : Issue) (stamp : Nat) : State :=
  let refuse (t : State) (a : Answer) : State := t.completeAt i a.comp t.now
  match s.controlBytes (dPart i.desc) (dSrc i.desc) 256, s.plt.active with
  | .error a, _ => refuse (s.bump (R.updCount 5)) a
  | .ok _, none => refuse s ⟨9, 16⟩
  | .ok b, some v =>
    let u := s.updateBlank i stamp (BitVec.ofNat 2048 (ofBytes b))
    match s.updateRefused u v with
    | some a => refuse (s.bump (R.updCount 5)) a
    | none => if 64 ≤ s.upd.queue.length then refuse s ⟨12, 42⟩ else s.setUpd { queue := s.upd.queue ++ [u] }

/-- The UPDATEs that hold a run place: the first RUN of those with ready work, in issue order. -/
def State.runPlaces (s : State) : List Update := (s.upd.queue.filter s.updateReady).take (s.fld R.updCfg 0 3)

/-- Abort an UPDATE (R387): in CONTEXT mode its gradient context is aborted with no messages to peers. -/
def State.abortUpdateWith (s : State) (u : Update) (reason : Nat) : State :=
  match u.ctx with
  | some k => (match s.ctx k with
    | some c => s.abortCtxWith k c false reason
    | none => s.endUpdate u ⟨5, reason⟩ 0)
  | none => s.endUpdate u ⟨5, reason⟩ 0

/-- ABORT of an UPDATE. -/
def State.abortUpdate (s : State) (u : Update) : State := s.abortUpdateWith u 0

end Sys2Proof.Machine
end

