-- ==== Sys2Proof/Machine/Settle.lean ====
section
/-! DEFINITION. What the fault sources assert, bringing every context as far as what has arrived lets it go, and the rows of contribution, sweep and ALLTOALL cells
(R81, R296, R314). -/

namespace Sys2Proof.Machine

/-! ## Fault sources (R359, R469) -/

/-- An error of the accumulator store (R359): corrected, or one that defers a segment or poisons an exact cell. UNIT is the context slot,
or 0xFFFF for an exact cell; DETAIL is the segment or the cell (DESIGN CHOICE, log entry 79). -/
def State.storeError (s : State) (code unit detail : Nat) : State :=
  if code = 49 then s.bump (R.eruCount 4)
  else if code = 50 then
    let s1 := s.bump (R.eruCount 5)
    if unit ≠ 0xFFFF then s1.deferSeg unit detail
    else if detail < 64 * s.cellBlocks then s1.setEru { s1.eru with badCells := addOnce s1.eru.badCells detail }
    else s1
  else s

/-- The record of a source that asserts, and what it stands for; ERU_SLOT_CE is raised at most once in 1 ms (R360). -/
def State.sourceRecord (s : State) (code unit detail : Nat) : State :=
  let t := s.storeError code unit detail
  if code = 49 then t.raiseKeyed (49 * 65536) 49 unit detail else t.raiseFault code unit 1 detail

/-- FAULT_SOURCE_ASSERT (R469): one sample of a source's pair. -/
def execFaultSourceAssert (src : Fin 2048) (t c : Bool) (unit : BitVec 16) (detail : Word) (s : State) :
    Host.Outcome State Fault Refusal :=
  match sourceCode src with
  | none => .next s
  | some (code, u) =>
    if t = c then .next (s.equalReading src)
    else
      let s1 := s.pairReads src
      if t then
        let s2 := s1.setArrayBit R.srcAssert src true
        if s.arrayBit R.srcAssert src then .next s2
        else .next (s2.sourceRecord code (u.getD unit.toNat) detail.toNat)
      else .next (s1.setArrayBit R.srcAssert src false)

/-! ## Contexts -/

/-- Bring one context as far as it goes, by its opcode. -/
def State.settleCtx (s : State) (k : Nat) : State :=
  match s.ctx k with
  | none => s
  | some c =>
    match c.code with
    | 0x20 => s.settleRed k
    | 0x22 => s.settleGather k
    | 0x25 => s.settleGather k
    | 0x23 => s.settleA2a k
    | 0x24 => s.settleValue k
    | 0x26 => s.settleValue k
    | 0x50 => s.settleSweep k
    | _ => s

/-- One round over every context. -/
def State.settleRound (s : State) : State := (s.col.ctxs.map fun e => e.1).foldl (fun t k => t.settleCtx k) s

/-- The messages that the Rehearsal contexts have still to inject: granted ones, and pieces of roots that are ready. -/
def State.rehearsalLeft (s : State) : Nat :=
  ((s.col.ctxs.filter fun e => e.2.rehearsal).map fun e =>
    (e.2.send.filter fun x => x.handle.isSome && !x.sent && !x.done).length +
      ((e.2.roots.filter (s.rootReady e.2)).map fun r => r.total - r.next).sum).sum

/-- The turns of the Rehearsal contexts, one a round, while one still injects something (R317). -/
def State.rehearse : Nat → State → State
  | 0, s => s
  | f + 1, s =>
    let t := s.settleRound
    if t.rehearsalLeft = s.rehearsalLeft then t else State.rehearse f t

/-- Bring every context and UPDATE as far as it goes: two rounds, since a reduction's drain lets its NORM go on, and the turns of the
Rehearsal contexts. While frozen, or before the resume time, everything stands still (R411, R415). -/
def State.settleAll (s : State) : State :=
  if s.frozenNow ∨ s.intm.state = .restore then s
  else
    let t := s.joinUpdates.settleRound.settleRound
    (State.rehearse (if t.rehearsals = 0 then 0 else t.rehearsalLeft) t).finishUpdates

/-- UPDATE_SEGMENT (R372): one unit of work of the UPDATE at a place of the queue, where it holds a run place. -/
def execUpdateSegment (u : Fin 64) (s : State) : Host.Outcome State Fault Refusal :=
  if ! s.running then .next s else
  match s.upd.queue[u.val]? with
  | none => .next s
  | some x => .next (if s.runPlaces.any fun y => sameUpdate y x then (s.updateUnit x).settleAll else s)

/-- UPDATE_CONTEXT_TIMEOUT (R374): no context of its instance within the context timeout. -/
def execUpdateContextTimeout (u : Fin 64) (s : State) : Host.Outcome State Fault Refusal :=
  if ! s.running then .next s else
  match s.upd.queue[u.val]? with
  | none => .next s
  | some x =>
    .next (if x.gsrc = 0 ∧ x.ctx.isNone ∧ ! x.ended ∧ s.mayGrant ∧ x.since + s.ctxTimeout ≤ s.now then s.endUpdate x ⟨2, 40⟩ 0 else s)

/-- UPDATE_GATE_TIMEOUT (R378): no NORM of its instance within the context timeout. -/
def execUpdateGateTimeout (u : Fin 64) (s : State) : Host.Outcome State Fault Refusal :=
  if ! s.running then .next s else
  match s.upd.queue[u.val]? with
  | none => .next s
  | some x =>
    let named (d : Line) : Bool := dOp d == 0x26 && dPart d == x.part && cGroup d == x.group && cInst d == x.normInst
    let exists0 := (s.col.ctxs.any fun e => named e.2.desc) || s.col.queue.any fun w => named w.issue.desc
    .next (if ! x.gateOpen ∧ ! exists0 ∧ s.mayGrant ∧ x.since + s.ctxTimeout ≤ s.now then
        (((s.raiseFault 58 0xFFFF 1 0).endUpdate x ⟨2, 51⟩ 0)).settleAll
      else s)

/-- SWEEP_RX (R81). -/
def execSweepRx (c : Cell) (s : State) : Host.Outcome State Fault Refusal :=
  if ! s.running then .next s else
  if cellIs c 0x34 then .next ((s.takeEjected c).takeSweep c).settleAll else .fault .illFormed

/-- CONTRIB_RX (R296). -/
def execContribRx (c : Cell) (s : State) : Host.Outcome State Fault Refusal :=
  if ! s.running then .next s else
  if cellIs c 0x18 then .next (s.takeContrib c).settleAll else .fault .illFormed

/-- PARTIAL_CF_RX (R296). -/
def execPartialCfRx (c : Cell) (s : State) : Host.Outcome State Fault Refusal :=
  if ! s.running then .next s else
  if cellIs c 0x19 then .next (s.takeContrib c).settleAll else .fault .illFormed

/-- A2A_COUNTS_RX (R314). -/
def execA2aCountsRx (c : Cell) (s : State) : Host.Outcome State Fault Refusal :=
  if ! s.running then .next s else
  if cellIs c 0x1C then .next ((s.takeEjected c).takeCounts c).settleAll else .fault .illFormed

/-- A2A_DATA_RX (R314). -/
def execA2aDataRx (c : Cell) (s : State) : Host.Outcome State Fault Refusal :=
  if ! s.running then .next s else
  if cellIs c 0x1B then .next ((s.takeEjected c).takeItems c).settleAll else .fault .illFormed

/-- GATHER_DATA_RX (R311): a piece down its tree, or one that was sent again to this node alone. -/
def execGatherDataRx (c : Cell) (s : State) : Host.Outcome State Fault Refusal :=
  if ! s.running then .next s else
  if cellIs c 0x1A then
    let s1 := s.takeEjected c
    .next (if c.mcast then s1.gatherCell s.nodeId c else s1.unicastPiece c).settleAll
  else .fault .illFormed

end Sys2Proof.Machine
end

