-- ==== Sys2Proof/Machine/Admission.lean ====
section
/-! DEFINITION. Admission of OPENs (R289, R290, R317), joining of MEMBER descriptors and consumers (R291, R300, R310), replay passes
(R354), the barrier's release (R466), timeouts (R294, R303) and abort (R318, R319) of contexts. -/

namespace Sys2Proof.Machine

/-! ## The admission queue (R290, R317) -/

/-- A Rehearsal descriptor. -/
def rehearsalOf (d : Line) : Bool := [0x20, 0x22, 0x23, 0x25].contains (dOp d) && cRehearsal d

/-- The queue's order: the step-1 stamp, then GROUP, then INST. -/
def queuedBefore (a b : Waiting) : Bool :=
  decide (a.stamp < b.stamp ∨ (a.stamp = b.stamp ∧ (cGroup a.issue.desc < cGroup b.issue.desc ∨
    (cGroup a.issue.desc = cGroup b.issue.desc ∧ cInst a.issue.desc ≤ cInst b.issue.desc))))

/-- Put an OPEN into the queue. -/
def insertQueued : List Waiting → Waiting → List Waiting
  | [], w => [w]
  | x :: t, w => if queuedBefore x w then x :: insertQueued t w else w :: x :: t

/-- The lowest free context slot. -/
def State.freeSlotCtx (s : State) : Option Nat := (List.range 64).find? fun k => (s.ctx k).isNone

/-- An OPEN may be admitted now. -/
def State.admissible (s : State) (w : Waiting) : Bool :=
  let d := w.issue.desc
  (s.ctxOfInst (dPart d) (cGroup d) (cInst d)).isSome ||
    (s.freeSlotCtx.isSome && ((dOp d != 0x20 && dOp d != 0x26) || decide (4096 ≤ s.narrowFree)) &&
      (!rehearsalOf d || decide (s.rehearsals < 16)))

/-- The Rehearsal OPEN whose turn it is: the next GROUP after the one last admitted, round robin. -/
def State.nextRehearsal (s : State) : Option Waiting :=
  let l := s.col.queue.filter fun w => rehearsalOf w.issue.desc
  let ahead (w : Waiting) : Nat := (cGroup w.issue.desc + 4096 - s.col.turn - 1) % 4096
  l.foldl (fun a w => match a with
    | some b => if ahead w < ahead b then some w else some b
    | none => some w) none

/-- The OPEN to admit: a normal one only where it is the first normal one of the queue. -/
def State.nextOpen (s : State) : Option Waiting :=
  let normal := (s.col.queue.find? fun w => !rehearsalOf w.issue.desc).filter s.admissible
  let rehearsal := s.nextRehearsal.filter s.admissible
  match normal, rehearsal with
  | some a, some b => if queuedBefore a b then some a else some b
  | some a, none => some a
  | none, b => b

/-- The segments that a reduction's pass reserves. -/
def State.passSize (s : State) (d : Line) : Nat :=
  let g := segCount (cElems d)
  let w := if cWant d = 0 then g else min (cWant d) g
  if g ≤ 4 then g
  else if rehearsalOf d then min w (max 4 (s.narrowFree / 16 / 1024))
  else min w (s.narrowFree / 1024)

/-- A context as admitted. -/
def State.ctxBlank (s : State) (k : Nat) (w : Waiting) (v : PlateV) : Ctx where
  gen := tabGet 0 s.col.gens k
  state := .active
  issue := w.issue
  joined := []
  version := v.state
  epoch := v.epoch
  rehearsal := rehearsalOf w.issue.desc
  stamp := w.stamp
  admitted := s.now
  passAt := s.now
  passFrom := 0
  passLen := 0
  reserved := if dOp w.issue.desc = 0x20 then s.passSize w.issue.desc else 0
  passes := 0
  segs := []
  recv := []
  send := []
  missing := []
  miss := []
  members := []
  tray := []
  norm := 0
  normBad := false
  values := []
  own := none
  result := none
  release := none
  roots := []
  runs := []
  swept := []
  sweeps := []
  replaying := none
  consumer := none
  byUpdate := false
  offered := []
  outs := []
  outFail := none
  fail := none

/-! ## Joining -/

/-- The endpoint that a MEMBER descriptor speaks for: the node for a host window, the seat for a seat. -/
def State.memberEp (s : State) (who : Submitter) : Nat :=
  match who with
  | .window _ => s.nodeId
  | .seat k => s.seatEp k

/-- A root of an endpoint already runs in a tree (R310). -/
def State.treeBusy (s : State) (ep tree : Nat) : Bool :=
  s.col.ctxs.any fun e => (e.2.code == 0x22 || e.2.code == 0x25) && e.2.roots.any fun r =>
    r.ep == ep && r.tree == tree && (e.2.members.any fun m => m.index == r.index && !m.closed)

/-- The answer of a descriptor that does not go into a context. -/
def State.refuseJoin (s : State) (i : Issue) (a : Answer) : State := s.completeAt i a.comp s.now

/-- A MEMBER descriptor joins a context (R287, R291, R310). -/
def State.joinMember (s : State) (k : Nat) (c : Ctx) (w : Waiting) : State :=
  let i := w.issue
  let h := s.shape c
  let ep := s.memberEp i.who
  match h.indexOf ep with
  | none => s.refuseJoin i ⟨9, 39⟩
  | some index =>
    if ! c.live then s.refuseJoin i (match c.result with
      | some v => s.barrierAnswer c v
      | none => ⟨0, 0⟩)
    else if ! agrees c.desc i.desc ∨ c.members.any (fun m => m.index == index) then s.refuseJoin i ⟨11, 41⟩
    else
      let root := c.roots.any fun r => r.index == index
      if root && s.treeBusy ep (cTree i.desc) then s.refuseJoin i ⟨12, 43⟩
      else
        let m : CMember := { issue := i, index := index, ep := ep, stamp := w.stamp, counts := [], lost := [], bytes := 0, xor := 0
                             fail := none, closed := false }
        let roots := c.roots.map fun r => if r.index = index then { r with tree := cTree i.desc, total := c.pieceTotal } else r
        let s1 := s.setCtx k { c with members := c.members ++ [m], roots := roots }
        if c.code = 0x22 ∨ c.code = 0x25 then s1.keptPieces else s1

/-- Join the waiting MEMBER descriptors and the RED_OUT of a context's instance, and before a RED_OUT the UPDATEs that wait longer:
the earlier consumer takes the context (R374). -/
def State.joinWaiting (s : State) (k : Nat) : State :=
  match s.ctx k with
  | none => s
  | some c =>
    let mine (w : Waiting) : Bool := sameInstance w.issue.desc c.desc
    let ms := s.col.waiting.filter mine
    let os := s.col.outs.filter mine
    let s1 := s.setCol { s.col with waiting := s.col.waiting.filter fun w => !mine w, outs := s.col.outs.filter fun w => !mine w }
    let s2 := ms.foldl (fun t w => match t.ctx k with
      | some x => t.joinMember k x w
      | none => t) s1
    os.foldl (fun t w =>
      let t1 := (t.upd.queue.filter fun u => decide (u.stamp ≤ w.stamp)).foldl (fun x u => x.joinUpdate u) t
      match t1.ctx k with
      | some x => t1.attachOut k x w.issue
      | none => t1) s2

/-- A MEMBER descriptor at its node: it joins its context, or waits for it. -/
def State.submitMember (s : State) (i : Issue) (stamp : Nat) : State :=
  match s.ctxOfInst (dPart i.desc) (cGroup i.desc) (cInst i.desc) with
  | some (k, c) => s.joinMember k c { issue := i, stamp := stamp, since := s.now }
  | none => s.setCol { s.col with waiting := s.col.waiting ++ [{ issue := i, stamp := stamp, since := s.now }] }

/-- A RED_OUT at its node. -/
def State.submitOut (s : State) (i : Issue) (stamp : Nat) : State :=
  match s.ctxOfInst (dPart i.desc) (cGroup i.desc) (cInst i.desc) with
  | some (k, c) => s.attachOut k c i
  | none => s.setCol { s.col with outs := s.col.outs ++ [{ issue := i, stamp := stamp, since := s.now }] }

/-- An OPEN joins the context that its instance still holds ("Registers" of chapter 10). -/
def State.joinOpen (s : State) (k : Nat) (c : Ctx) (i : Issue) : State :=
  if agrees c.desc i.desc then s.setCtx k { c with joined := c.joined ++ [i] } else s.refuseJoin i ⟨11, 41⟩

/-- An OPEN at its node: it joins the instance's context, or waits for admission. -/
def State.submitOpen (s : State) (i : Issue) (stamp : Nat) : State :=
  match s.ctxOfInst (dPart i.desc) (cGroup i.desc) (cInst i.desc) with
  | some (k, c) => s.joinOpen k c i
  | none => s.setCol { s.col with queue := insertQueued s.col.queue { issue := i, stamp := stamp, since := s.now } }

/-! ## Admission -/

/-- Admit one OPEN: the ERU wakes (R40), and its context pins the active version; a group that the version no longer holds refuses it (R319). -/
def State.admitOpen (s : State) (w : Waiting) : State :=
  let d := w.issue.desc
  let s0 := s.setCol { s.col with queue := dropFirst (fun x => decide (x = w)) s.col.queue
                                  turn := if rehearsalOf d then cGroup d else s.col.turn }
  match s.ctxOfInst (dPart d) (cGroup d) (cInst d), s.plt.active, s.freeSlotCtx with
  | some (k, c), _, _ => s0.joinOpen k c w.issue
  | none, some v, some k =>
    if (v.group (cGroup d)).isNone then s0.refuseJoin w.issue ⟨9, 27⟩
    else
      let c := s.ctxBlank k w v
      let h := s.shape c
      let c1 := if c.code = 0x22 ∨ c.code = 0x25 then c.withRoots h s.nodeId else c
      let s1 := s0.wakeEru.setCtx k c1
      let s2 := if c.code = 0x20 then s1.beginPass k else s1
      s2.joinWaiting k
  | none, _, _ => s0.refuseJoin w.issue ⟨9, 27⟩

/-- CONTEXT_ADMIT (R290). -/
def execContextAdmit (s : State) : Host.Outcome State Fault Refusal :=
  if ! s.running then .next s else
  match (if s.mayGrant then s.nextOpen else none) with
  | some w => .next (s.admitOpen w).settleAll
  | none => .next s

/-- MEMBER_WAIT_TIMEOUT (R291). -/
def execMemberWaitTimeout (s : State) : Host.Outcome State Fault Refusal :=
  if ! s.running then .next s else
  if ! s.mayGrant then .next s else
  let late (w : Waiting) : Bool := decide (w.since + s.ctxTimeout ≤ s.now)
  let s1 := s.setCol { s.col with waiting := s.col.waiting.filter fun w => !late w }
  .next ((s.col.waiting.filter late).foldl (fun t w => t.refuseJoin w.issue ⟨2, 40⟩) s1)

/-! ## Replay passes (R354) -/

/-- Ask every expected sender of a segment for it again. -/
def State.replaySenders (s : State) (k n : Nat) : State :=
  match s.ctx k with
  | none => s
  | some c =>
    match c.seg n with
    | none => s
    | some x =>
      let ask := ((s.shape c).fate s.nodeId c.segTotal n).expect.filter fun e =>
        !c.missing.contains e.2 && (stageOfBit e.1 != 0 || seatEndpoint e.2)
      ask.foldl (fun t e => match t.ctx k with
        | none => t
        | some d =>
          let st := stageOfBit e.1
          let d1 := if (d.recvOf e.2 st n).isSome then d.mapRecv (fun r => r.sender == e.2 && r.stage == st && r.number == n) fun r => { r with last := t.now, gen := x.gen }
            else { d with recv := d.recv ++ [recvBlank e.2 st n 0 t.now x.gen] }
          (t.setCtx k d1).sendReplay k d1 e.2 st x.gen n 0) s

/-- REPLAY_PASS (R354): the head of the deferral queue, once its pass has drained and no other segment is replayed here. -/
def execReplayPass (k : CtxIx) (s : State) : Host.Outcome State Fault Refusal :=
  if ! s.running then .next s else
  match s.col.defers, s.ctx k with
  | (j, n) :: rest, some c =>
    if j ≠ k ∨ c.state ≠ .active ∨ ! c.liveSegs.isEmpty ∨ ! s.mayGrant ∨ s.col.ctxs.any (fun e => e.2.replaying.isSome) then .next s
    else match c.seg n with
      | none => .next (s.setCol { s.col with defers := rest })
      | some x =>
        let s1 := s.setCol { s.col with defers := rest }
        let s2 := s1.setCtx k { c.putSeg n { x with sstate := 3 } with replaying := some n }
        .next ((s2.replaySenders k n).settleAll)
  | _, _ => .next s

/-- BARRIER_RELEASE (R464, R466). -/
def execBarrierRelease (k : CtxIx) (s : State) : Host.Outcome State Fault Refusal :=
  if ! s.running then .next s else
  .next (s.releaseBarrier k)

/-! ## REGRANT (R294, R340) -/

/-- Re-grant what a reduction or a value still lacks, put off resets that are due, and repeat DONE; `every` at the end of a freeze
(R415). -/
def State.regrantRed (s : State) (k : Nat) (c : Ctx) (every : Bool) : State :=
  let due (r : CRecv) : Bool := !c.missing.contains r.sender && (every || decide (r.last + s.regrantTime ≤ s.now))
  let open0 (r : CRecv) : Bool := !r.counted && (c.code != 0x20 || (c.seg r.number).any Seg.taking)
  let done0 (r : CRecv) : Bool := r.counted && (c.code != 0x20 || match c.seg r.number with
    | some x => x.sstate == 1
    | none => true)
  let again := c.recv.filter fun r => due r && (open0 r || done0 r)
  let c1 := c.mapRecv (fun r => due r && (open0 r || done0 r)) fun r => { r with last := s.now }
  let s1 := again.foldl (fun t r =>
    if r.counted then t.sendDone k c1 r.sender r.stage r.number 0 else t.sendReplay k c1 r.sender r.stage r.gen r.number 0) (s.setCtx k c1)
  let resets := (c.segs.filter fun e => e.2.due && e.2.taking && (e.2.resetAt.any fun t => decide (t + s.opTimeout ≤ s.now))).map fun e => e.1
  resets.foldl (fun t n => ((t.resetSeg k n true).bump (R.colCount 4)).raiseOfCtx k 45) s1

/-- Re-grant what an ALLTOALL still lacks. -/
def State.regrantA2a (s : State) (k : Nat) (c : Ctx) (every : Bool) : State :=
  let h := s.shape c
  let due (r : CRecv) : Bool := !r.counted && !c.missing.contains r.sender && (every || decide (r.last + s.regrantTime ≤ s.now)) &&
    !(match (h.indexOf r.sender).bind fun x => c.runOf x r.member with
      | some u => (u.lost != 0 && !cDrop c.desc) || u.count == some (u.got + u.lost)
      | none => false)
  let c1 := c.mapRecv due fun r => { r with last := s.now }
  (c.recv.filter due).foldl (fun t r => match h.indexOf r.sender with
    | some x => (t.grantA2a k c x r.member r.stage 1 r.number 0 1).bump (R.colCount 2)
    | none => t) (s.setCtx k c1)

/-- The pieces of a root that a receiving member of this node still lacks, lowest first, at most 32. -/
def Ctx.lackedPieces (c : Ctx) (h : Shape) (root : Nat) : List Nat :=
  let ms := c.openMembers.filter fun m => h.receives m.index
  ((List.range c.pieceTotal).filter fun j => ms.any fun m => !m.counts.contains (pieceId root j)).take 32

/-- Re-grant the pieces that an ALLGATHER or a BCAST still lacks. -/
def State.regrantGather (s : State) (k : Nat) (c : Ctx) (every : Bool) : State :=
  let h := s.shape c
  let due (r : CRecv) : Bool := !c.missing.contains r.sender && (every || decide (r.last + s.regrantTime ≤ s.now))
  let c1 := c.mapRecv due fun r => { r with last := s.now }
  (c.recv.filter due).foldl (fun t r => (c.lackedPieces h r.number).foldl (fun u j => u.askPiece k c1 r.number j) t) (s.setCtx k c1)

/-- Re-grant by opcode. -/
def State.regrantCtx (s : State) (k : Nat) (c : Ctx) (every : Bool) : State :=
  match c.code with
  | 0x20 => s.regrantRed k c every
  | 0x24 => s.regrantRed k c every
  | 0x26 => s.regrantRed k c every
  | 0x23 => s.regrantA2a k c every
  | 0x22 => s.regrantGather k c every
  | 0x25 => s.regrantGather k c every
  | _ => s

/-- REGRANT (R294). -/
def execRegrant (k : CtxIx) (s : State) : Host.Outcome State Fault Refusal :=
  if ! s.running then .next s else
  match s.ctx k with
  | none => .next s
  | some c => if ! c.live ∨ ! s.mayGrant then .next s else .next (s.regrantCtx k c false).settleAll

/-! ## The context timeout (R294, R303, R300, R306, R312, R316) -/

/-- Declare a list of senders missing. -/
def State.declareAll (s : State) (k : Nat) (l : List (Nat × Nat)) : State := l.foldl (fun t e => t.declareMissing k e.1 e.2) s

/-- The senders whose oldest incomplete grant is older than the context timeout. -/
def State.lateSenders (s : State) (c : Ctx) : List (Nat × Nat) :=
  (c.recv.filter fun r => !r.counted && decide (r.first + s.ctxTimeout ≤ s.now) && (c.code != 0x20 || (c.seg r.number).any Seg.taking)).map
    fun r => (r.sender, r.stage)

/-- The contributing members of this node that have not joined. -/
def State.unjoined (s : State) (c : Ctx) : List (Nat × Nat) :=
  (((s.shape c).contributors s.nodeId).filter fun x => !c.members.any fun m => m.ep == x.ep).map fun x => (x.ep, 0)

/-- A reduction past its timeout: silent senders, a member of this node itself that never joined, and a pass that no consumer takes. -/
def State.timeoutRed (s : State) (k : Nat) (c : Ctx) : State :=
  let s1 := s.declareAll k (s.lateSenders c)
  if s.now < c.passAt + s.ctxTimeout then s1
  else if c.state = .draining ∧ c.consumer.isNone ∧ ! c.byUpdate ∧ c.outFail.isNone then
    match s1.ctx k with
    | some x => s1.closeRed k { x with fail := some ⟨1, 0⟩ }
    | none => s1
  else s1.declareAll k ((s.unjoined c).filter fun e => ! seatEndpoint e.1)

/-- A NORM or a BARRIER past its timeout. -/
def State.timeoutValue (s : State) (k : Nat) (c : Ctx) : State :=
  let s1 := s.declareAll k (s.lateSenders c)
  if s.now < c.passAt + s.ctxTimeout then s1
  else
    let s2 := if c.code = 0x24 then s1.declareAll k (s.unjoined c) else s1
    let awaited := s.col.ctxs.any (fun e => e.2.code == 0x20 && e.2.part == c.part && e.2.group == c.group && e.2.inst == cRedInst c.desc) ||
      s.col.queue.any fun w => dOp w.issue.desc == 0x20 && dPart w.issue.desc == c.part && cGroup w.issue.desc == c.group &&
        cInst w.issue.desc == cRedInst c.desc
    s2.modCtx k fun x =>
      if x.own.isSome ∨ c.code = 0x24 then { x with fail := some ⟨1, 0⟩ }
      else if awaited then x
      else { x with own := some { sum := 0, tmax := 0, bad := false, covers := 0 }, miss := addOnce x.miss s.nodeId, fail := some ⟨1, 0⟩ }

/-- An ALLGATHER or a BCAST past its timeout: roots not heard from, nodes that did not grant, members that never joined. -/
def State.timeoutGather (s : State) (k : Nat) (c : Ctx) : State :=
  let h := s.shape c
  let short := c.recv.filter fun r => decide (r.first + s.ctxTimeout ≤ s.now) && !(c.lackedPieces h r.number).isEmpty
  let s1 := s.declareAll k (short.map fun r => (r.sender, 0))
  if s.now < c.passAt + s.ctxTimeout then s1
  else
    let ungranted := ((nodesOf h.members).filter fun n => c.roots.any fun r => !r.granted.contains n)
    let unreached := (h.members.filter fun x => ungranted.contains (epNode x.ep)).map fun x => x.ep
    let s2 := s1.modCtx k fun x =>
      { x with missing := ungranted.foldl addOnce x.missing
               roots := x.roots.map fun r => { r with refused := unreached.foldl addOnce r.refused } }
    s2.declareAll k (((c.gatherLocals h s.nodeId).filter fun i => !c.members.any fun m => m.index == i).map fun i => (h.epOf i, 0))

/-- An ALLTOALL past its timeout. -/
def State.timeoutA2a (s : State) (k : Nat) (c : Ctx) : State :=
  let h := s.shape c
  let done (r : CRecv) : Bool := (h.indexOf r.sender).any fun x => c.runOver h r.member x
  let late := c.recv.filter fun r => !r.counted && decide (r.first + s.ctxTimeout ≤ s.now) && !done r
  let s1 := s.declareAll k (late.map fun r => (r.sender, 0))
  if s.now < c.passAt + s.ctxTimeout then s1
  else
    let silent := (h.takers.map h.endpoint).filter fun e => c.openMembers.any fun m =>
      h.sources.contains m.index && !c.send.any fun x => x.member == m.index && x.dest == e
    let s2 := s1.modCtx k fun x => { x with missing := silent.foldl addOnce x.missing }
    s2.declareAll k (((Ctx.a2aLocals h s.nodeId).filter fun i => !c.members.any fun m => m.index == i).map fun i => (h.endpoint i, 0))

/-- A Proof sweep past its timeout: the members that stayed silent. -/
def State.timeoutSweep (s : State) (k : Nat) (c : Ctx) : State :=
  if s.now < c.passAt + s.ctxTimeout then s
  else
    let silent := (s.shape c).valueSenders.filter fun e => (c.gotSweep e.2 e.1).isNone
    (s.declareAll k silent).modCtx k fun x => { x with fail := some ⟨1, 0⟩ }

/-- CONTEXT_TIMEOUT (R303). -/
def execContextTimeout (k : CtxIx) (s : State) : Host.Outcome State Fault Refusal :=
  if ! s.running then .next s else
  match s.ctx k with
  | none => .next s
  | some c =>
    if ! c.live ∨ ! s.mayGrant then .next s
    else match c.code with
      | 0x20 => .next (s.timeoutRed k c).settleAll
      | 0x24 => .next (s.timeoutValue k c).settleAll
      | 0x26 => .next (s.timeoutValue k c).settleAll
      | 0x22 => .next (s.timeoutGather k c).settleAll
      | 0x25 => .next (s.timeoutGather k c).settleAll
      | 0x23 => .next (s.timeoutA2a k c).settleAll
      | 0x50 => .next (s.timeoutSweep k c).settleAll
      | _ => .next s

/-! ## Abort (R318, R319) -/

/-- Abort an instance at this node: its context, its OPENs, MEMBER descriptors and RED_OUTs that wait. A barrier whose release has
come keeps its outcome. The answer says whether there was anything to abort. The ABORT's issue is its arrival (DEDUCED, log entry 115). -/
def State.abortInstance (s : State) (part group inst : Nat) (messages : Bool) : Bool × State :=
  let mine (w : Waiting) : Bool := dPart w.issue.desc == part && cGroup w.issue.desc == group && cInst w.issue.desc == inst
  let s0 := match s.ctxOfInst part group inst with
    | some (k, c) => if c.release.any fun r => decide (r ≤ s.now) then s.releaseBarrier k else s
    | none => s
  let waits := s0.col.queue.filter mine ++ s0.col.waiting.filter mine ++ s0.col.outs.filter mine
  let s1 := s0.setCol { s0.col with queue := s0.col.queue.filter fun w => !mine w, waiting := s0.col.waiting.filter fun w => !mine w
                                    outs := s0.col.outs.filter fun w => !mine w }
  let s2 := waits.foldl (fun t w => t.refuseJoin w.issue ⟨5, 0⟩) s1
  match s2.ctxOfInst part group inst with
  | some (k, c) => (true, s2.abortCtx k c messages)
  | none => (!waits.isEmpty, s2)

/-- COLLECTIVE_ABORT_REQ_RX (R318): this node's context of the named instance is aborted. -/
def execCollectiveAbortReqRx (c : Cell) (s : State) : Host.Outcome State Fault Refusal :=
  if ! s.running then .next s else
  if ! cellIs c 0x07 ∨ ! bit c.payload 13 then .fault .illFormed
  else
    .next (((s.takeEjected c).abortInstance c.pkey.toNat (bytesAt c.payload 48 2 % 4096) (bytesAt c.payload 50 4) true).2).settleAll

end Sys2Proof.Machine
end

