-- ==== Sys2Proof/Machine/MemPort.lean ====
section
/-! DEFINITION. The channel ports: acceptance, responses, heals, poison, readiness and failure (R243 to R253, R535 to R537),
and the end of zeroing and of a scrub (R239, R240). -/

namespace Sys2Proof.Machine

/-- MEM_CFG's times in ns. -/
def State.chanHold (s : State) : Nat := s.fld R.memCfg 0 14 * 1000
def State.rspTimeout (s : State) : Nat := s.fld R.memCfg 24 8 * 10000

/-- The tier line address of a line's key, and its tier. -/
def lineAddr (key : Nat) : Nat := key % 2 ^ 37
def lineFar (key : Nat) : Bool := decide (2 ^ 37 ≤ key)

/-- A request may be issued (R243, R247, R248): its line is not locked, or it holds the lock; a read-modify-write finds a lock
free; and no request to its line waits before it. -/
def Chan.mayIssue (c : Chan) (before : List LineReq) (r : LineReq) : Bool :=
  (decide (r.kind = .mergedWrite) || r.second || !c.locks.contains r.line) &&
    !(decide (r.kind = .lockedRead) && !r.second && decide (32 ≤ c.locks.length)) &&
    (decide (r.kind = .mergedWrite) || r.second || !before.any fun q => q.line == r.line)

/-- The first request that may be issued, and the queue without it. -/
def Chan.next (c : Chan) : List LineReq → List LineReq → Option (LineReq × List LineReq)
  | _, [] => none
  | before, r :: t =>
    if c.mayIssue before r then some (r, before ++ t) else Chan.next c (before ++ [r]) t

/-- The lowest identifier not among the accepted requests, from `i`. -/
def freeId (acc : List Accepted) : Nat → Nat → Nat
  | 0, i => i
  | f + 1, i => if acc.any fun x => x.id == i % 256 then freeId acc f (i + 1) else i % 256

/-- The ready indication of a port in use falls in this cycle. -/
def State.readyFalls (s : State) (p : Nat) : Bool := decide (s.chanState p = 2 ∧ (s.chan p).fellAt = some s.clk.count)

/-- CHANNEL_REQUEST_ACCEPT (R243, R247, R535, R537): the controller takes the next request that may be issued. A locked read takes
its line's lock, and an accepted merged write releases it. The request carries the channel line address (R241), and a write the memory
code of the line as stored (R245). -/
def execChannelRequestAccept (p : Port) (s : State) : Host.Outcome State Fault Refusal :=
  let c := s.chan p
  if ! (s.running ∨ s.kpr.power = .sleeping) ∨ ! (s.chanState p = 1 ∨ s.readyFalls p) ∨ 256 ≤ c.accepted.length then .next s
  else match c.next [] c.queue with
    | none => .next s
    | some (r, rest) =>
      let id := freeId c.accepted 256 c.nextId
      let locks :=
        if r.kind = .lockedRead ∧ ! r.second then c.locks ++ [r.line]
        else if r.kind = .mergedWrite then c.locks.filter fun l => l != r.line
        else c.locks
      let addr := (s.plt.active.map fun v => v.sentAddr r.line).getD 0
      let code := if r.kind = .read ∨ r.kind = .lockedRead then 0 else memoryCode r.data r.line
      let acc := c.accepted ++ [{ id := id, req := r, since := s.now, addr := addr, code := code }]
      let s1 := s.setChan p ({ c with queue := rest, accepted := acc, locks := locks, nextId := (id + 1) % 256 } : Chan).refill
      .next (if r.kind = .heal then (s1.bump (R.memCount 2)).raiseLimited 33 p 0 else s1)

/-- Entry to FAILED (R253): queued requests and unanswered reads deliver nothing, work with a write that was accepted and unanswered is
unknown, and MEM_CHANNEL_DOWN is raised. -/
def State.failChan (s : State) (p : Nat) : State :=
  let c := s.chan p
  let reads (r : LineReq) : Bool := decide (r.kind = .read ∨ r.kind = .lockedRead)
  let dead := c.all ++ (c.accepted.filter fun a => reads a.req).map fun a => a.req
  let lost := (c.accepted.filter fun a => !reads a.req).map fun a => a.req
  let s1 := s.setChan p { c with failed := true, queue := [], waiting := [], accepted := [], locks := [] }
  let s2 := dead.foldl (fun t r => t.lineDone r fun j => j.spoil 32 r.size) s1
  let s3 := lost.foldl (fun t r => t.lineDone r fun j => { j with unknown := true }) s2
  (s3.setArrayBit R.chanFailed p true).raiseFault 36 p 1 0

/-- Poison a line (R250): stored with its poison bit, MEM_LAST_UE and MEM_UE. `check` where the memory code failed twice. -/
def State.poisonLine (s : State) (p key : Nat) (check : Bool) : State :=
  let s1 := (s.setPoison key true).bump (R.memCount 1)
  let s2 := (s1.setReg R.lastUe (BitVec.ofNat 32 (lineAddr key))).setReg (R.lastUe + 4)
    (pack 32 [(0, 5, lineAddr key / 2 ^ 32), (5, 1, b2n (lineFar key)), (6, 1, b2n check)])
  let s2b := s2.cancelHeal p key
  let s3 := s2b.setChan p ((s2b.chan p).enter (bareLine key .poison (s2b.rawLine key)))
  let s4 := s3.raiseFault 34 p 1 0
  if check then s4.raiseFault 35 p 1 0 else s4

/-- A read-modify-write of a line that turned out poisoned ends: its lock is released. -/
def State.unlockLine (s : State) (p key : Nat) : State :=
  let c := s.chan p
  s.setChan p { c with locks := c.locks.filter fun l => l != key }

/-- A later write of a line is queued or unanswered. -/
def Chan.writesLine (c : Chan) (key : Nat) : Bool :=
  let w (r : LineReq) : Bool := r.line == key && decide (r.kind ≠ .read)
  c.all.any w || c.accepted.any fun a => w a.req

/-- The good data of a read: what the controller holds, unless a write of the line is under way; a locked read goes on to its
merged write, and a corrected plain read is healed (R247, R249). The work that waits for a plain read has its line. -/
def State.readGood (s : State) (p : Nat) (r : LineReq) (corrected : Bool) (data : Line) : State :=
  let c := s.chan p
  let s1 := if c.writesLine r.line || decide (r.kind ≠ .read) then s else s.setRawLine r.line data
  if r.kind = .lockedRead then
    s1.setChan p (c.front { r with kind := .mergedWrite, second := false })
  else
    let s2 := s1.lineDone r fun j => { j with got := tabInsert j.got r.line data }
    if corrected ∧ ! c.writesLine r.line then s2.setChan p (c.enter (bareLine r.line .heal data)) else s2

/-- The line of a mapped read turned out poisoned: the host reads all-ones (R497). -/
def State.spoilHost (s : State) (r : LineReq) : State :=
  match r.host with
  | some (w, n) => { s with hostRead := tabSet 0 s.hostRead w (BitVec.ofNat 512 (2 ^ (8 * n) - 1)) }
  | none => s

/-- A read's line is poisoned: its lock is released, and the work and the host that wait for it learn so (R37, Table 08-3). -/
def State.readPoisoned (s : State) (p : Nat) (r : LineReq) : State :=
  ((s.unlockLine p r.line).spoilHost r).lineDone r fun j => j.spoil 31 r.size

/-- A read's response (R246, R249, R250, R536). -/
def State.readResponse (s : State) (p : Nat) (r : LineReq) (stat : Nat) (data : Line) (code : Nat) (poison : Bool) : State :=
  let s0 := if stat = 1 then (s.bump (R.memCount 0)).raiseLimited 32 p 0 else s
  if poison then (s0.setPoison r.line true).readPoisoned p r
  else if 2 ≤ stat then (s0.poisonLine p r.line false).readPoisoned p r
  else if memoryCode data r.line ≠ code then
    let s1 := s0.bump (R.memCount 5)
    if r.second then (s1.poisonLine p r.line true).readPoisoned p r
    else s1.setChan p ((s1.chan p).front { r with second := true })
  else s0.readGood p r (stat == 1) data

/-- A controller's response at a port (R245, R246, R249, R250, R253, R536). -/
def State.channelResponse (s : State) (p : Port) (id : Byte) (stat : BitVec 2) (data : Line) (code : BitVec 16) (poison : Bool) : State :=
  let c := s.chan p
  if ! s.portUsed p ∨ c.failed then s
  else match c.accepted.find? fun a => a.id == id.toNat with
    | none => s.failChan p
    | some a =>
      let s1 := s.setChan p { c with accepted := c.accepted.filter fun x => x.id != id.toNat }
      match a.req.kind with
      | .read | .lockedRead => s1.readResponse p a.req stat.toNat data code.toNat poison
      | _ => s1.lineDone a.req fun j => j

/-- CHANNEL_READY_FALL (R252). -/
def execChannelReadyFall (p : Port) (s : State) : Host.Outcome State Fault Refusal :=
  let c := s.chan p
  .next (if c.ready then s.setChan p { c with ready := false, holdSince := s.now, fellAt := some s.clk.count } else s)

/-- CHANNEL_READY_RISE (R252). -/
def execChannelReadyRise (p : Port) (s : State) : Host.Outcome State Fault Refusal :=
  .next (s.setChan p { s.chan p with ready := true })

/-! ## Zeroing and scrub -/

/-- Write zeros, as stored, to a run of extents, clearing poison. -/
def State.zeroExtents (s : State) (far : Bool) (base len : Nat) : State :=
  let first := lineKey far (base * 32768)
  let inside (key : Nat) : Bool := decide (first ≤ key ∧ key < first + len * 32768)
  { s with memory := s.memory.filter fun c => !inside (c.1 / 64)
           mem := { s.mem with poisoned := s.mem.poisoned.filter fun k => !inside k } }

/-- Write zeros to every line of a region: encrypted zeros where it is encrypted at rest (R240, R438). -/
def State.zeroRegion (s : State) (v : PlateV) (g : Region) : State :=
  match tabFind v.places g.num with
  | none => s
  | some p =>
    let s1 := (s.zeroExtents false p.nearBase p.nearLen).zeroExtents true p.farBase p.farLen
    if g.xts then (List.range (g.size * 32768)).foldl (fun t i => t.writeLine v g (64 * i) 0) s1 else s1

/-- A channel of a tier has FAILED: a write to one line in every set of an extent then has no effect (Table 08-4), since each extent
spreads over all channels of its tier (R241). Log entry 111 (DEDUCED). -/
def State.tierFailed (s : State) (far : Bool) : Bool :=
  (List.range 88).any fun p => decide (64 ≤ p) == far && decide (s.chanState p = 3)

/-- Part of a region lies in a tier with a FAILED channel. -/
def State.placeFailed (s : State) (n : Nat) : Bool :=
  ((s.plt.active.bind fun v => tabFind v.places n).map fun p =>
    (decide (0 < p.nearLen) && s.tierFailed false) || (decide (0 < p.farLen) && s.tierFailed true)).getD false

/-- ZEROING_DONE (R240, R438): every line of the region holds zeros, and the region is READY; on a FAILED channel that never is so. -/
def execZeroingDone (region : BitVec 16) (s : State) : Host.Outcome State Fault Refusal :=
  if ! s.running then .next s else
  let n := region.toNat
  if ! s.mem.zeroing.contains n || s.placeFailed n then .next s
  else
    let s1 : State := { s with mem := { s.mem with zeroing := s.mem.zeroing.filter fun r => r != n } }
    match s.plt.active with
    | none => .next s1
    | some v =>
      match v.region n with
      | some g => .next (s1.zeroRegion v g)
      | none => .next s1

/-- SCRUB_DONE (R239): the oldest run of extents awaiting scrub holds zeros and is free. -/
def execScrubDone (s : State) : Host.Outcome State Fault Refusal :=
  if ! s.running then .next s else
  match s.mem.scrub with
  | [] => .next s
  | e :: t =>
    if s.tierFailed e.far then .next s
    else .next (({ s with mem := { s.mem with scrub := t } } : State).zeroExtents e.far e.base e.len)

end Sys2Proof.Machine
end

