-- ==== Sys2Proof/Machine/Target.lean ====
section
/-! DEFINITION. The target of transfers (chapter 7): duplicates, ordering contexts, chunks as they land, LOADs, FILLs, atomics,
forwarded COPYs, OUTCOME queries and aborts; and the receipt of CUE_ADD. -/

namespace Sys2Proof.Machine

/-! ## Head fields (Table 07-8) -/

def hOp (c : Cell) : Nat := bytesAt c.payload 0 1
def hFlag (c : Cell) (k : Nat) : Bool := bit c.payload (8 + k)
def hLow (c : Cell) : Nat := bytesAt c.payload 2 2
def hChunk (c : Cell) : Nat := bytesAt c.payload 4 4
def hAddr (c : Cell) : Nat := bytesAt c.payload 8 8
def hLen (c : Cell) : Nat := bytesAt c.payload 16 4
def hOrig (c : Cell) : Nat := bytesAt c.payload 20 8
def hFseq (c : Cell) : Nat := bytesAt c.payload 28 4
def hCheck (c : Cell) : BitVec 128 := BitVec.ofNat 128 (bytesAt c.payload 32 16)
def hArg (c : Cell) (k n : Nat) : Nat := bytesAt c.payload (48 + k) n

/-- ORIG_TIME [47:0]. -/
def orig48 (c : Cell) : Nat := hOrig c % 2 ^ 48

/-! ## Records and closures (R225 to R227) -/

/-- The executed-tag records of an operation. -/
def State.recordsOf (s : State) (src tag orig : Nat) : List (Nat × Exec) :=
  s.xfr.execs.filter fun e => e.2.src == src && e.2.tag == tag && e.2.orig == orig

/-- The record of a request's chunk, if it was executed. -/
def State.recordFor (s : State) (c : Cell) (chunk : Nat) : Option Exec :=
  ((s.recordsOf c.src.toNat c.tag.toNat (orig48 c)).find? fun e => e.2.chunk == chunk).map fun e => e.2

/-- The operation is closed here (R227). -/
def State.closed (s : State) (src tag orig : Nat) : Bool :=
  s.xfr.closures.any fun k => k.src == src && k.tag == tag && k.orig == orig

/-- Work under way that will take an executed-tag record. -/
def Job.records (j : Job) : Bool :=
  match j.use with
  | .chunk | .fill _ _ | .atomic _ _ _ => true
  | _ => false

/-- The executed-tag memory has no room for another record (R214, R226). -/
def State.execFull (s : State) : Bool :=
  decide (65536 ≤ s.xfr.execs.length + (s.xfr.jobs.filter fun e => e.2.records).length)

/-- An executed-tag record of a request answered OK, or of one whose fate is unknown (R226, R253). -/
def State.execOf (s : State) (c : Cell) (chunk : Nat) (atomic : Bool) (value : Nat) (unknown : Bool) : Exec :=
  { src := c.src.toNat, tag := c.tag.toNat, orig := orig48 c, chunk := chunk, status := 0, reason := 0, atomic := atomic
    value := value, unknown := unknown, since := s.now }

/-- Take an executed-tag record under a number. -/
def State.record (s : State) (number : Nat) (e : Exec) : State := s.setXfr { s.xfr with execs := tabInsert s.xfr.execs number e }

/-- A new record number. -/
def State.newNumber (s : State) : Nat × State := (s.xfr.execNo, s.setXfr { s.xfr with execNo := s.xfr.execNo + 1 })

/-- The channel port of the first poisoned line of a request; 0xFFFF where there is none. -/
def State.poisonPort (s : State) (c : Cell) : Nat :=
  match s.regionVersion (regionOf (hAddr c)) with
  | none => 0xFFFF
  | some (v, g) =>
    match (linesOf (offsetOf (hAddr c)) (max 1 (hLen c))).find? fun o => s.poisoned (v.lineAt g.num o) with
    | some o => v.portOf (v.lineAt g.num o)
    | none => 0xFFFF

/-- Count an answer of the memory port (Table 08-5, Table 08-7); an exact cell's is none. -/
def State.countAnswer (s : State) (c : Cell) (a : Answer) : State :=
  if cellIs c 0x03 && hOp c == 0x13 then s
  else if a.status = 8 then
    let s1 := s.bump (R.memCount 4)
    if a.reason = 31 ∧ ! cellIs c 0x01 then s1.raiseFault 37 (s.poisonPort c) 1 0 else s1
  else if a.status = 12 ∧ (a.reason = 21 ∨ a.reason = 33) then s.bump (R.memCount 7)
  else s

/-- Answer a request: a COMPLETION of kind CHUNK, an ATOMIC_RSP, or for CUE_ADD a COMPLETION of kind ATOMIC. -/
def State.respond (s : State) (c : Cell) (chunk : Nat) (a : Answer) (more : List (Nat × Nat × Nat)) : State :=
  let typ := if cellIs c 0x03 then 0x12 else 0x11
  let kind := if cellIs c 0x03 || cellIs c 0x28 then 2 else 0
  (s.countAnswer c a).injectCell (altCell (s.answerCell typ kind c.src.toNat c.pkey.toNat c.tag.toNat a 0 chunk (hOrig c) more) c.alt)

/-- Answer a duplicate with what was recorded (R225); a record kept as unknown draws no answer (R253). -/
def State.respondRecorded (s : State) (c : Cell) (e : Exec) : State :=
  let s1 := s.bump (R.xfrCount 5)
  if e.unknown then s1
  else s1.respond c e.chunk ⟨e.status, e.reason⟩ (if e.atomic then [(32, 8, e.value)] else [])

/-! ## Chunks as they land (R208, R211, R212) -/

/-- The chunk's INDEX slot. -/
def Inbound.slot (i : Inbound) : Nat := hChunk i.head % 64

/-- The chunk's cells. -/
def Inbound.total (i : Inbound) : Nat := cellCount (hLen i.head)

/-- The inbound chunk that a data cell belongs to. -/
def State.inboundFor (s : State) (src tag slot : Nat) : Option Inbound :=
  s.xfr.inbound.find? fun i => i.head.src.toNat == src && i.head.tag.toNat == tag && i.slot == slot

/-- Replace an inbound chunk, or remove it. -/
def State.putInbound (s : State) (i : Inbound) (new : Option Inbound) : State :=
  let rest := s.xfr.inbound.filter fun j =>
    !(j.head.src == i.head.src && j.head.tag == i.head.tag && j.slot == i.slot)
  s.setXfr { s.xfr with inbound := rest ++ new.toList }

/-- How a chunk's check is made: sealed under K_link, or CRC-64. -/
def State.chunkCheck (s : State) (c : Cell) : CheckBy :=
  if s.sealedKey c.pkey.toNat then
    s.linkCheck c.pkey.toNat 0x02 c.src.toNat c.tag.toNat c.time.toNat (hChunk c) (hOrig c) s.nodeId (hAddr c)
      (BitVec.ofNat 96 (hArg c 0 12))
  else .crc

/-- The chunk's bytes from a position, once their cells have arrived. -/
def Inbound.plain (i : Inbound) (by0 : CheckBy) (k n : Nat) : List Byte :=
  let from0 := k / 64
  let last := (k + n - 1) / 64
  let b := (List.range (last + 1 - from0)).flatMap fun j =>
    cellPlain by0 (from0 + j) (toBytes ((tabFind i.cells (from0 + j)).getD 0) 64)
  (b.drop (k - 64 * from0)).take n

/-- Write the lines that the arrival of cell `k` makes whole; a poisoned line covered in part stays unchanged and its bytes
count as short. -/
def State.landLines (s : State) (v : PlateV) (g : Region) (i : Inbound) (by0 : CheckBy) (k : Nat) : State :=
  let off := offsetOf (hAddr i.head)
  let n := hLen i.head
  let touched := linesOf (off + 64 * k) (min 64 (n - 64 * k))
  touched.foldl (fun t o =>
    let sp := lineSpan off n o
    let need := (List.range ((sp.1 + sp.2 - 1) / 64 + 1 - sp.1 / 64)).map fun j => sp.1 / 64 + j
    if need.any fun c => (tabFind i.cells c).isNone then t
    else (t.writeBytes v g (off + sp.1) (i.plain by0 sp.1 sp.2)).queueWrite v g off n (some i.number) o) s

/-- The check over a chunk whose cells have all arrived. -/
def Inbound.checks (i : Inbound) (by0 : CheckBy) : Bool :=
  let b := ((List.range i.total).flatMap fun k => toBytes ((tabFind i.cells k).getD 0) 64).take (hLen i.head)
  (openChunk by0 b (hCheck i.head)).isSome

/-! ## Ordering contexts (R217 to R219) -/

/-- A requester's ordering context here. -/
def State.rflowOf (s : State) (node flow : Nat) : Option (Nat × RFlow) :=
  s.xfr.rflows.find? fun f => f.2.node == node && f.2.flow == flow

def State.setRflow (s : State) (n : Nat) (f : RFlow) : State := s.setXfr { s.xfr with rflows := tabInsert s.xfr.rflows n f }

/-- The lowest free ordering-context number. -/
def freeRflow (t : Tab RFlow) : Nat → Nat → Option Nat
  | 0, _ => none
  | f + 1, n => if (tabFind t n).isNone then some n else freeRflow t f (n + 1)

/-- A request's turn: run it now (in a context or in none), hold it in a context, refuse it, or discard a copy of one that is held. -/
inductive Turn where
  | now (ctx : Option Nat)
  | held (ctx : Nat)
  | refused (a : Answer)
  | copy
deriving DecidableEq, Repr

/-- The cells of a request message: a STORE chunk's head and data. -/
def messageCells (c : Cell) : Nat := if cellIs c 0x02 then 1 + cellCount (hLen c) else 1

/-- Where a message ends in a context's reorder window: after the messages held ahead of it, and a cell at least for each one missing.
A missing message counts as one cell (DEDUCED, log entry 108). -/
def RFlow.reach (f : RFlow) (c : Cell) : Nat :=
  let before := f.held.filter fun d => decide (hFseq d < hFseq c)
  (before.map messageCells).sum + (hFseq c - f.next - before.length) + messageCells c

/-- What names a message of an operation: TAG, ORIG_TIME and CHUNK (R210). -/
def messageName (c : Cell) : Nat × Nat × Nat := (c.tag.toNat, orig48 c, hChunk c)

/-- Give a request its turn (R217 to R219, R225). A FIRST message begins its flow again, unless it is the one that began it, sent again. The
4,096 ordering contexts serve both roles (DEDUCED: XFR_CTX_USED; see the log). -/
def State.turnOf (s : State) (c : Cell) : Turn × State :=
  if ! hFlag c 0 then (.now none, s)
  else
    let node := c.src.toNat
    let flow := hLow c % 4096
    let fresh : RFlow := { node := node, flow := flow, first := messageName c, next := 0, held := [], data := [], last := s.now }
    match s.rflowOf node flow with
    | none =>
      if ! hFlag c 1 then (.refused ⟨11, 26⟩, s)
      else if 4096 ≤ s.xfr.flows.length + s.xfr.rflows.length then (.refused ⟨12, 25⟩, s)
      else match freeRflow s.xfr.rflows 4096 0 with
        | none => (.refused ⟨12, 25⟩, s)
        | some n => (.now (some n), s.setRflow n fresh)
    | some (n, f) =>
      if hFlag c 1 ∧ ! hFlag c 2 ∧ f.first ≠ messageName c then (.now (some n), s.setRflow n fresh)
      else if hFseq c < f.next then (.now none, s)
      else if hFseq c = f.next then (.now (some n), s)
      else if f.held.any fun d => hFseq d == hFseq c && messageName d == messageName c then (.copy, s)
      else if 256 < f.reach c then (.refused ⟨11, 26⟩, s)
      else (.held n, s.setRflow n { f with held := f.held ++ [c] })

/-! ## Executing requests -/

/-- A range that a request names, or why it is refused (R200, R206, R240, R445, R490). -/
def State.requested (s : State) (c : Cell) (n : Nat) (wr : Bool) : Except Answer (PlateV × Region) :=
  if badAddress (hAddr c) then .error ⟨11, 67⟩
  else if seatMem (hAddr c) then .error ⟨9, 17⟩
  else s.regionFor c.pkey.toNat (hAddr c) n wr

/-- The work on a write ends once the controllers have answered its lines (R212, R226, R250, R253): recorded and answered OK where it was
applied, answered POISONED with the bytes applied where lines were refused, and unknown, with no answer, where its channel failed. -/
def State.endWrite (s : State) (n : Nat) (j : Job) (c : Cell) (atomic : Bool) (value : Nat) : State :=
  let chunk := if atomic then 0 else hChunk c
  if j.unknown then s.record n (s.execOf c chunk atomic value true)
  else match j.bad with
    | some r => s.respond c chunk ⟨8, r⟩ (if atomic then [] else [(32, 8, value - j.short)])
    | none => (s.record n (s.execOf c chunk atomic value false)).respond c chunk ⟨0, 0⟩ (if atomic then [(32, 8, value)] else [])

/-- A chunk whose cells are all written is checked (R212), answered, and its context's next message may run. -/
def State.endChunk (s : State) (i : Inbound) (j : Job) : State :=
  let c := i.head
  let by0 := s.chunkCheck c
  let s1 := s.putInbound i none
  (if ! j.unknown && (hFlag c 3 != s.sealedKey c.pkey.toNat || ! i.checks by0) then
    let t := s1.bump (R.xfrCount 6)
    (if hFlag c 3 && s.sealedKey c.pkey.toNat then t.gcmFailed c.pkey.toNat else t).respond c (hChunk c) ⟨11, 22⟩ []
  else s1.endWrite i.number j c false (hLen c)).advanceCtx i.ctx

/-- A data cell for a chunk whose head is here: written as it arrives (R212). -/
def State.landCell (s : State) (i : Inbound) (k : Nat) (p : Line) : State :=
  if (tabFind i.cells k).isSome ∨ i.total ≤ k then s.bump (R.xfrCount 5)
  else
    let i1 := { i with cells := tabInsert i.cells k p }
    let full := decide (i.total ≤ i1.cells.length)
    if i.refuse then s.putInbound i (if full then none else some i1)
    else
      let by0 := s.chunkCheck i.head
      let n := hLen i.head
      match s.requested i.head n true with
      | .error a =>
        (((s.dropJob i.number).putInbound i (if full then none else some { i1 with refuse := true, ctx := none })).respond i.head
          (hChunk i.head) a []).advanceCtx i.ctx
      | .ok (v, g) => ((s.landLines v g i1 by0 k).putInbound i (some i1)).modJob i.number fun j => { j with closed := full }

/-- Take the cells that wait for a chunk's head, those that landed before it and those that waited with it for its turn. -/
def State.takeLanded (s : State) (i : Inbound) : State :=
  let mine (c : Cell) : Bool := c.src == i.head.src && c.tag == i.head.tag && c.index.toNat / 64 == i.slot
  let s1 := s.setXfr { s.xfr with
    landing := s.xfr.landing.filter fun c => !mine c
    rflows := s.xfr.rflows.map fun f => (f.1, { f.2 with data := f.2.data.filter fun c => !mine c }) }
  ((s.xfr.landing ++ s.xfr.rflows.flatMap fun f => f.2.data).filter mine).foldl (fun u c =>
    match u.inboundFor c.src.toNat c.tag.toNat i.slot with
    | some j => u.landCell j (c.index.toNat % 64) c.payload
    | none => u) s1

/-- Refuse a STORE chunk: answered, and its data cells are swallowed. -/
def State.refuseStore (s : State) (c : Cell) (ctx : Option Nat) (a : Answer) : State :=
  let i : Inbound := { head := c, cells := [], refuse := true, ctx := none, number := 0 }
  (((s.respond c (hChunk c) a []).putInbound i (some i)).takeLanded i).advanceCtx ctx

/-- A chunk left unfinished by an earlier operation under a TAG that is used again ends unanswered (R210). -/
def State.supersede (s : State) (c : Cell) : State :=
  match s.inboundFor c.src.toNat c.tag.toNat (hChunk c % 64) with
  | some i => ((s.putInbound i none).dropJob i.number).advanceCtx i.ctx
  | none => s

/-- A STORE_DATA head whose turn it is. A chunk of which R211 discarded a cell is answered as a check mismatch. -/
def State.runStore (s0 : State) (c : Cell) (ctx : Option Nat) : State :=
  let s := s0.supersede c
  let key := (c.src.toNat, c.tag.toNat, hChunk c % 64)
  if s.xfr.dropped.contains key then
    ((s.setXfr { s.xfr with dropped := s.xfr.dropped.filter fun k => k != key }).bump (R.xfrCount 6)).refuseStore c ctx ⟨11, 22⟩
  else
    match s.requested c (hLen c) true with
    | .error a => s.refuseStore c ctx a
    | .ok (v, g) =>
      if s.execFull then s.refuseStore c ctx ⟨12, 24⟩
      else match s.channelAnswer v g (linesOf (offsetOf (hAddr c)) (hLen c)) with
        | some a => s.refuseStore c ctx a
        | none =>
          let r := s.newJob .chunk false
          let i : Inbound := { head := c, cells := [], refuse := false, ctx := ctx, number := r.1 }
          (r.2.putInbound i (some i)).takeLanded i

/-- Read one chunk of a LOAD for its data cells, or say why it delivers none (R213, Table 08-3). -/
def State.serveChunk (s : State) (c : Cell) (ctx : Option Nat) (v : PlateV) (g : Region) (j total : Nat) : State :=
  let n := min 4096 (hLen c - 4096 * j)
  let off := offsetOf (hAddr c) + 4096 * j
  let k := hChunk c + j
  if s.rangePoisoned v g off n then s.respond c k ⟨8, 31⟩ []
  else if s.channelFailed v g (linesOf off n) then s.respond c k ⟨8, 32⟩ []
  else
    let r := s.newJob (.load c j total ctx) true
    r.2.queueReads v g off n (some r.1)

/-- A LOAD is done here once no chunk of it is being read: its context's next message may run. -/
def State.passLoad (s : State) (c : Cell) (ctx : Option Nat) : State :=
  let reads (j : Job) : Bool := match j.use with
    | .load d _ _ _ => decide (d = c)
    | _ => false
  if s.xfr.jobs.any fun e => reads e.2 then s else s.advanceCtx ctx

/-- A LOAD_REQ whose turn it is: every chunk it covers. -/
def State.runLoad (s : State) (c : Cell) (ctx : Option Nat) : State :=
  (match s.requested c (hLen c) false with
  | .error a => s.respond c (hChunk c) a []
  | .ok (v, g) =>
    match s.channelAnswer v g (linesOf (offsetOf (hAddr c)) (hLen c)) with
    | some ⟨12, r⟩ => s.respond c (hChunk c) ⟨12, r⟩ []
    | _ =>
      let total := (hLen c + 4095) / 4096
      (List.range total).foldl (fun u j => u.serveChunk c ctx v g j total) s).passLoad c ctx

/-- The reads of chunk `j` of a LOAD are all answered (R37, R213): its data cells and its COMPLETION, or POISONED where a line failed. -/
def State.endLoad (s : State) (b : Job) (c : Cell) (j total : Nat) (ctx : Option Nat) : State :=
  let n := min 4096 (hLen c - 4096 * j)
  let off := offsetOf (hAddr c) + 4096 * j
  let k := hChunk c + j
  (match b.bad, s.requested c (hLen c) false with
  | some r, _ => s.respond c k ⟨8, r⟩ []
  | none, .error a => s.respond c k a []
  | none, .ok (v, g) =>
    let wrap := s.sealedKey c.pkey.toNat
    let iv := if wrap then s.takeIv c.pkey.toNat 0 1 else (0, s)
    let by0 := if wrap then
        s.linkCheck c.pkey.toNat 0x01 c.src.toNat c.tag.toNat c.time.toNat k (hOrig c) s.nodeId (hAddr c) iv.1
      else .crc
    let e := sealChunk by0 (s.gotBytes v g off n b.got)
    let ds := dataCells e.1
    let s1 := (ds.zipIdx).foldl (fun (u : State) (d : Line × Nat) =>
      u.injectCell (placed (u.mkCell 0x10 c.src.toNat c.pkey.toNat c.tag.toNat d.1) ((k % 64) * 64 + d.2)
        (j + 1 == total && d.2 + 1 == ds.length) c.alt)) iv.2
    s1.respond c k ⟨0, 0⟩ [(16, 16, e.2.toNat), (40, 12, if wrap then iv.1.toNat else 0)]).passLoad c ctx

/-- A FILL_REQ whose turn it is (R200, Table 08-3, R439). -/
def State.runFill (s : State) (c : Cell) (ctx : Option Nat) : State :=
  let n := hLen c
  let off := offsetOf (hAddr c)
  let refuse (a : Answer) : State := (s.respond c (hChunk c) a []).advanceCtx ctx
  if badAddress (hAddr c) then refuse ⟨11, 67⟩
  else if s.sealedKey c.pkey.toNat then refuse ⟨9, 59⟩
  else match s.requested c n true with
    | .error a => refuse a
    | .ok (v, g) =>
      if s.execFull then refuse ⟨12, 24⟩
      else match s.channelAnswer v g (linesOf off n) with
        | some a => refuse a
        | none =>
          let r := s.newJob (.fill c ctx) true
          (r.2.writeBytes v g off (fillBytes (hArg c 0 8) off n)).queueWrites v g off n (some r.1)

/-- The new value of an atomic's operand, from the old (R200). -/
def atomResult (op mod fmt old : Nat) (c : Cell) : Nat :=
  let w := if mod.testBit 12 then 64 else 32
  match op with
  | 0x10 => (old + hArg c 0 8) % 2 ^ w
  | 0x11 => if old = hArg c 0 8 % 2 ^ w then hArg c 8 8 % 2 ^ w else old
  | 0x12 => hArg c 0 8 % 2 ^ w
  | _ => addFloat fmt old (hArg c 0 8 % 2 ^ elemBits fmt)

/-- The formats of ATOM_FADD_F. -/
def faddFormat (fmt : Nat) : Bool := fmt == 1 || fmt == 2 || fmt == 3

/-- An atomic executed at once: recorded and answered with the old value. -/
def State.answerAtomic (s : State) (c : Cell) (old : Nat) : State :=
  let t := s.newNumber
  (t.2.record t.1 (t.2.execOf c 0 true old false)).respond c 0 ⟨0, 0⟩ [(32, 8, old)]

/-- An ATOMIC_REQ whose turn it is: executed once, indivisibly, and answered when its merged write is (R226, R247, R357). An ATOM_FADD_X
wakes the ERU (R40). -/
def State.runAtomic (s : State) (c : Cell) (ctx : Option Nat) : State :=
  let op := hOp c
  let fmt := hArg c 8 1
  let refuse (a : Answer) : State := (s.respond c 0 a []).advanceCtx ctx
  if badAddress (hAddr c) then refuse ⟨11, 67⟩
  else if s.execFull then refuse ⟨12, 24⟩
  else if op = 0x13 then
    let r := s.wakeEru.cellAtomic c.pkey.toNat (hAddr c) (hLow c / 4096) fmt (hArg c 0 8)
    (if r.1.status = 0 then r.2.2.answerAtomic c r.2.1 else r.2.2.respond c 0 r.1 []).advanceCtx ctx
  else if ! (0x10 ≤ op ∧ op ≤ 0x12) ∧ ! (op = 0x14 ∧ faddFormat fmt) then refuse ⟨11, if op = 0x14 then 44 else 20⟩
  else
    let w := if op = 0x14 then elemBits fmt / 8 else if (hLow c).testBit 12 then 8 else 4
    match s.requested c w true with
    | .error a => refuse a
    | .ok (v, g) =>
      let off := offsetOf (hAddr c)
      let key := v.lineAt g.num off
      if off % w ≠ 0 then refuse ⟨11, 19⟩
      else match s.channelAnswer v g [off] with
        | some a => refuse a
        | none =>
          if s.poisoned key then refuse ⟨8, 31⟩
          else
            let old := ofBytes (s.readBytes v g off w)
            let t := s.newJob (.atomic c ctx old) true
            (t.2.writeBytes v g off (natBytes (atomResult op (hLow c) fmt old c) w)).queueLine v key .lockedRead (some t.1) w

/-! ## A forwarded COPY (R215) -/

/-- An operation before its tag is taken. -/
def opBlank (i : Issue) (kind : OpKind) (orig : Nat) : Op where
  issue := i
  kind := kind
  relay := none
  gen := 0
  orig := orig
  order := 0
  target := 0
  src := dSrc i.desc
  dst := dDst i.desc
  length := dLen i.desc
  next := 0
  msgs := []
  relayed := []
  bytes := 0
  xor := 0
  fail := none
  handle := 0
  sent := false
  lastSent := 0
  flow := none
  abortAt := none
  fixed := none
  dirty := false
  trailers := []
  fetched := []
  reissued := false

/-- Give an operation a tag and start it. -/
def State.startOp (s : State) (t : Nat) (o : Op) : State :=
  let o1 := { o with gen := tabGet 0 s.xfr.gens t, order := s.xfr.order }
  (s.setXfr { s.xfr with ops := tabInsert s.xfr.ops t o1, order := s.xfr.order + 1 }).advanceAll t

/-- The descriptor that a forwarded COPY runs as at its source. -/
def forwardDesc (c : Cell) : Line :=
  packBytes 512 [(0, 1, 0x04), (1, 1, 32 * b2n c.alt), (2, 2, c.pkey.toNat), (4, 2, 0xFFFF), (6, 2, 0xFFFF), (8, 8, hAddr c),
    (16, 8, hArg c 8 8), (24, 5, hArg c 2 5)]

/-- A COPY_FWD whose turn it is: this node runs the copy as its own requester. -/
def State.runForward (s : State) (c : Cell) (ctx : Option Nat) : State :=
  let n := hArg c 2 5
  let refuse (a : Answer) : State := (s.respond c 0 a []).advanceCtx ctx
  let known := (s.xfr.ops.any fun e => (e.2.relay.map fun r => (r.src, r.tag, r.orig % 2 ^ 48)) == some (c.src.toNat, c.tag.toNat, orig48 c)) ||
    s.xfr.kept.any fun k => k.from0 == some (c.src.toNat, c.tag.toNat, orig48 c)
  if known then s.bump (R.xfrCount 5)
  else if badAddress (hArg c 8 8) then refuse ⟨11, 67⟩
  else match s.requested c n false with
    | .error a => refuse a
    | .ok _ =>
      match s.freeTag with
      | none => refuse ⟨12, 23⟩
      | some t =>
        let i : Issue := { who := .window 0, cue := false, tag := 0, time := 0, desc := forwardDesc c }
        let r : Relay := { src := c.src.toNat, tag := c.tag.toNat, orig := hOrig c, ctx := ctx, abort := false }
        s.startOp t { opBlank i .store s.now with relay := some r, target := epNode (hArg c 0 2) }

/-! ## Taking a request -/

/-- Discard the data cells of a STORE chunk whose head is not run. -/
def State.swallow (s : State) (c : Cell) : State :=
  if cellIs c 0x02 then
    let i : Inbound := { head := c, cells := [], refuse := true, ctx := none, number := 0 }
    match s.inboundFor c.src.toNat c.tag.toNat i.slot with
    | some _ => s
    | none => (s.putInbound i (some i)).takeLanded i
  else s

/-- Run a request whose turn it is. It passes its turn on when it has been applied or refused (R218). -/
def State.runHead (s : State) (c : Cell) (ctx : Option Nat) : State :=
  if cellIs c 0x02 then s.runStore c ctx
  else if cellIs c 0x04 then s.runForward c ctx
  else if cellIs c 0x01 then s.runLoad c ctx
  else if cellIs c 0x05 then s.runFill c ctx
  else s.runAtomic c ctx

/-- Run, hold or refuse a request by its ordering context. -/
def State.inTurn (s : State) (c : Cell) : State :=
  let r := s.turnOf c
  match r.1 with
  | .now ctx => r.2.runHead c ctx
  | .held _ => r.2
  | .refused a => (r.2.swallow c).respond c (hChunk c) a []
  | .copy => r.2.bump (R.xfrCount 5)

/-- A held request whose turn has come. -/
def State.heldNext (s : State) : Option (Nat × RFlow × Cell) :=
  s.xfr.rflows.findSome? fun e => (e.2.held.find? fun c => hFseq c == e.2.next).map fun c => (e.1, e.2, c)

/-- Run the held requests whose turn has come; `fuel` bounds them. -/
def State.runHeld : Nat → State → State
  | 0, s => s
  | f + 1, s =>
    match s.heldNext with
    | none => s
    | some (n, x, c) =>
      State.runHeld f ((s.setRflow n { x with held := x.held.filter fun d => decide (d ≠ c) }).runHead c (some n))

/-- Work whose lines are all answered ends. -/
def State.endJob (s0 : State) (n : Nat) (j : Job) : State :=
  let s := s0.dropJob n
  match j.use with
  | .load c k total ctx => s.endLoad j c k total ctx
  | .source tag k => s.endSource tag k j
  | .chunk =>
    match s.xfr.inbound.find? fun i => !i.refuse && i.number == n with
    | some i => s.endChunk i j
    | none => s
  | .fill c ctx => (s.endWrite n j c false (hLen c)).advanceCtx ctx
  | .atomic c ctx old => (s.endWrite n j c true old).advanceCtx ctx

/-- End the work whose lines are all answered, and run the held requests whose turn has come; `fuel` bounds both. -/
def State.endJobs : Nat → State → State
  | 0, s => s
  | f + 1, s0 =>
    let s := State.runHeld (s0.xfr.rflows.map fun e => e.2.held.length).sum s0
    match s.xfr.jobs.find? fun e => e.2.closed && e.2.left == 0 with
    | some (n, j) => State.endJobs f (s.endJob n j)
    | none => s

/-- End what is done and run every held request whose turn has come. -/
def State.runTurns (s : State) : State :=
  State.endJobs (s.xfr.jobs.length + (s.xfr.rflows.map fun e => e.2.held.length).sum + 1) s

/-- The same request is being executed here (R225). -/
def State.underWay (s : State) (c : Cell) (chunk : Nat) : Bool :=
  let same (d : Cell) : Bool := d.src == c.src && d.typ == c.typ && d.tag == c.tag && orig48 d == orig48 c
  (s.xfr.inbound.any fun i => !i.refuse && same i.head && hChunk i.head == chunk) ||
    s.xfr.jobs.any fun e => match e.2.use with
      | .load d j _ _ => same d && hChunk d + j == chunk
      | .fill d _ => same d && hChunk d == chunk
      | .atomic d _ _ => same d
      | _ => false

/-- Take a request head (R225 to R227, R443): discarded where its operation is closed or the same request is being executed, answered as
recorded where it was executed, refused where it is sealed and stale; otherwise run. -/
def State.takeHead (s : State) (c : Cell) (chunk : Nat) (run : State → State) : State :=
  let s0 := s.takeEjected c
  if s0.closed c.src.toNat c.tag.toNat (orig48 c) then s0.swallow c
  else if s0.underWay c chunk then s0.bump (R.xfrCount 5)
  else match s0.recordFor c chunk with
    | some e => (s0.swallow c).respondRecorded c e
    | none =>
      if hFlag c 3 && s0.stale c.time.toNat then ((s0.staleHead c.pkey.toNat).swallow c).respond c chunk ⟨11, 60⟩ []
      else (run s0).runTurns

/-- LOAD_REQ_RX (R206, R213, R225). -/
def execLoadReqRx (c : Cell) (s : State) : Host.Outcome State Fault Refusal :=
  if ! s.running then .next s else
  if ! cellIs c 0x01 then .fault .illFormed else .next (s.takeHead c (hChunk c) fun t => t.inTurn c)

/-- STORE_DATA_RX (R210, R212, R214). -/
def execStoreDataRx (c : Cell) (s : State) : Host.Outcome State Fault Refusal :=
  if ! s.running then .next s else
  if ! cellIs c 0x02 then .fault .illFormed else .next (s.takeHead c (hChunk c) fun t => t.inTurn c)

/-- ATOMIC_REQ_RX (R225, R226, R247, R248, R357). -/
def execAtomicReqRx (c : Cell) (s : State) : Host.Outcome State Fault Refusal :=
  if ! s.running then .next s else
  if ! cellIs c 0x03 then .fault .illFormed else .next (s.takeHead c 0 fun t => t.inTurn c)

/-- COPY_FWD_RX (R215). -/
def execCopyFwdRx (c : Cell) (s : State) : Host.Outcome State Fault Refusal :=
  if ! s.running then .next s else
  if ! cellIs c 0x04 then .fault .illFormed else .next (s.takeHead c 0 fun t => t.inTurn c)

/-- FILL_REQ_RX (R200, R209). -/
def execFillReqRx (c : Cell) (s : State) : Host.Outcome State Fault Refusal :=
  if ! s.running then .next s else
  if ! cellIs c 0x05 then .fault .illFormed else .next (s.takeHead c (hChunk c) fun t => t.inTurn c)

/-! ## Data cells (R211, R212, R215) -/

/-- The operation that relays a seat's data under a TAG. -/
def State.relayFor (s : State) (ep tag : Nat) : Option (Nat × Op) :=
  s.xfr.ops.find? fun e => match e.2.issue.who with
    | .seat q => decide (e.2.relay.isNone ∧ e.2.kind = .store ∧ s.seatEp q = ep) && seatMem e.2.src && e.2.issue.tag.toNat == tag
    | .window _ => false

/-- Land a data cell whose head, or whose descriptor, is not here yet. -/
def State.land (s : State) (c : Cell) (slot : Nat) : State :=
  let others := s.xfr.landing.filter fun d => !(d.src == c.src && d.tag == c.tag && d.index == c.index)
  if 2048 ≤ others.length then
    (s.setXfr { s.xfr with dropped := (c.src.toNat, c.tag.toNat, slot) ::
                  s.xfr.dropped.filter fun k => k != (c.src.toNat, c.tag.toNat, slot) }).bump (R.xfrCount 7)
  else s.setXfr { s.xfr with landing := others ++ [c] }

/-- The ordering context in which the head of a data cell's chunk waits for its turn. -/
def State.heldHead (s : State) (c : Cell) : Option (Nat × RFlow) :=
  s.xfr.rflows.find? fun f => f.2.held.any fun d =>
    cellIs d 0x02 && d.src == c.src && d.tag == c.tag && hChunk d % 64 == c.index.toNat / 64

/-- BULK_DATA_RX (R208, R211, R212, R215): a data cell of a chunk, or of a seat's relayed data. One whose head waits for its turn waits
with it, in the reorder window. -/
def execBulkDataRx (c : Cell) (s : State) : Host.Outcome State Fault Refusal :=
  if ! s.running then .next s else
  if ! cellIs c 0x20 then .fault .illFormed
  else
    let s0 := s.takeEjected c
    let src := c.src.toNat
    let tag := c.tag.toNat
    let slot := c.index.toNat / 64
    if 0x4000 ≤ src ∧ epNode src = s0.nodeId then
      match s0.relayFor src tag with
      | some (t, o) => .next ((s0.setOp t { o with relayed := tabInsert o.relayed c.index.toNat c.payload }).advanceAll t)
      | none => .next (s0.land c slot)
    else match s0.inboundFor src tag slot with
      | some i => .next ((s0.landCell i (c.index.toNat % 64) c.payload).runTurns)
      | none =>
        match s0.heldHead c with
        | some (n, f) => .next (s0.setRflow n { f with data := (f.data.filter fun d => !(d.src == c.src && d.tag == c.tag && d.index == c.index)) ++ [c] })
        | none => if s0.xfr.closures.any fun k => k.src == src && k.tag == tag then .next s0 else .next (s0.land c slot)

/-! ## OUTCOME and ABORT at the target (R227, R228) -/

/-- The chunks that a record covers: a FILL window's record, several. -/
def Exec.cover (e : Exec) : Nat := if e.atomic then 1 else (e.value + 4095) / 4096

/-- ALL, SOME or NONE of `n` chunks (0: the count is not known), and VALUE, from the records of an operation. -/
def outcomeOf (recs : List (Nat × Exec)) (n : Nat) : Nat × Nat :=
  let done := (recs.map fun e => e.2.cover).sum
  let value := if recs.any fun e => e.2.atomic then ((recs.head?.map fun e => e.2.value).getD 0) else (recs.map fun e => e.2.value).sum
  (if done = 0 then 0 else if n = 0 ∨ done < n then 2 else 1, value)

/-- A forwarded COPY of this node by its requester's name, or by this node's own handle. -/
def Op.relayNamed (o : Op) (t src tag orig : Nat) : Bool :=
  match o.relay with
  | some r => decide (r.src = src ∧ r.tag = tag ∧ r.orig % 2 ^ 48 = orig) || (opTag t o == tag && decide (o.orig % 2 ^ 48 = orig))
  | none => false

/-- A head belongs to an operation. -/
def headOf (src tag orig : Nat) (c : Cell) : Bool := c.src.toNat == src && c.tag.toNat == tag && orig48 c == orig

/-- The head of a request that is being served or written. -/
def Job.head (j : Job) : Option Cell :=
  match j.use with
  | .load c _ _ _ | .fill c _ | .atomic c _ _ => some c
  | _ => none

/-- An operation is being executed here. -/
def State.inProgress (s : State) (src tag orig : Nat) : Bool :=
  (s.xfr.inbound.any fun i => !i.refuse && headOf src tag orig i.head) ||
    (s.xfr.jobs.any fun e => e.2.head.any (headOf src tag orig)) ||
    (s.xfr.ops.any fun e => e.2.relayNamed e.1 src tag orig) ||
    s.xfr.rflows.any fun f => f.2.held.any (headOf src tag orig)

/-- The writes of an operation that are all made and not yet answered: executed, so far as an ABORT is concerned. -/
def State.made (s : State) (src tag orig : Nat) : List (Nat × Exec) :=
  s.xfr.jobs.filterMap fun e =>
    if ! e.2.closed then none
    else match e.2.use with
      | .fill c _ => if headOf src tag orig c then some (e.1, s.execOf c (hChunk c) false (hLen c - e.2.short) false) else none
      | .atomic c _ old => if headOf src tag orig c ∧ e.2.bad.isNone then some (e.1, s.execOf c 0 true old false) else none
      | .chunk =>
        match s.xfr.inbound.find? fun i => !i.refuse && i.number == e.1 && headOf src tag orig i.head with
        | some i => some (e.1, s.execOf i.head (hChunk i.head) false (hLen i.head - e.2.short) false)
        | none => none
      | _ => none

/-- The answer to an OUTCOME query: OUTCOME and VALUE. -/
def State.outcomeAnswer (s : State) (src tag orig n last : Nat) : Nat × Nat :=
  let recs := s.recordsOf src tag orig
  if s.extend last + 1000000 < s.now then (4, 0)
  else match s.xfr.kept.find? fun k => k.from0.isSome && (k.from0 == some (src, tag, orig) || k.handle == tag + orig * 65536) with
    | some k => (if k.done = 0 then 0 else if n = 0 ∨ k.done < k.chunks then 2 else 1, k.bytes)
    | none =>
      if s.inProgress src tag orig then (3, (outcomeOf recs n).2)
      else if recs.any fun e => e.2.unknown then (4, 0)
      else outcomeOf recs n

/-- Close an operation here: its unfinished chunks, its LOADs, its held requests and its landed cells are discarded; writes that are all
made end as they would. -/
def State.closeHere (s : State) (src tag orig : Nat) : State :=
  let made := (s.made src tag orig).map fun e => e.1
  let gone (i : Inbound) : Bool := headOf src tag orig i.head && ! made.contains i.number
  let ended := s.xfr.inbound.filter gone
  let loads (j : Job) : Bool := match j.use with
    | .load c _ _ _ => headOf src tag orig c
    | _ => false
  let turns := (s.xfr.jobs.filterMap fun e => match e.2.use with
    | .load c _ _ ctx => if headOf src tag orig c then ctx else none
    | _ => none).eraseDups
  let other (c : Cell) : Bool := !(c.src.toNat == src && c.tag.toNat == tag)
  let s1 := s.setXfr { s.xfr with
    inbound := s.xfr.inbound.filter fun i => !gone i
    jobs := s.xfr.jobs.filter fun e => ! loads e.2 && ! ended.any fun i => ! i.refuse && i.number == e.1
    landing := s.xfr.landing.filter other
    rflows := s.xfr.rflows.map fun f => (f.1, { f.2 with held := f.2.held.filter fun c => ! headOf src tag orig c
                                                         data := f.2.data.filter other })
    closures := s.xfr.closures.filter (fun k => !(k.src == src && k.tag == tag && k.orig == orig)) ++
      [{ src := src, tag := tag, orig := orig, since := s.now }] }
  turns.foldl (fun t n => t.advanceCtx (some n)) (ended.foldl (fun t i => t.advanceCtx i.ctx) s1)

/-- Answer an OUTCOME_REQ or an ABORT_REQ. -/
def State.respondOutcome (s : State) (c : Cell) (outcome value : Nat) : State :=
  s.injectCell (altCell (s.answerCell 0x13 3 c.src.toNat c.pkey.toNat c.tag.toNat ⟨0, 0⟩ outcome 0 (hOrig c) [(32, 8, value)]) c.alt)

/-- OUTCOME_REQ_RX (R227). -/
def execOutcomeReqRx (c : Cell) (s : State) : Host.Outcome State Fault Refusal :=
  if ! s.running then .next s else
  if ! cellIs c 0x06 then .fault .illFormed
  else
    let s0 := s.takeEjected c
    let src := c.src.toNat
    let tag := hArg c 0 2
    let orig := hArg c 2 6
    let r := s0.outcomeAnswer src tag orig (hArg c 8 4) (hArg c 12 4)
    let s1 := if r.1 = 0 ∨ r.1 = 2 then s0.closeHere src tag orig else s0
    .next ((s1.respondOutcome c r.1 r.2).runTurns)

/-- ABORT_REQ_RX (R228): the operation is closed here; a forwarded COPY stops as its requester asks. A COLLECTIVE request is another row's. -/
def execAbortReqRx (c : Cell) (s : State) : Host.Outcome State Fault Refusal :=
  if ! s.running then .next s else
  if ! cellIs c 0x07 ∨ bit c.payload 13 then .fault .illFormed
  else
    let s0 := s.takeEjected c
    let src := c.src.toNat
    let tag := hArg c 0 2
    let orig := hArg c 2 6
    match s0.xfr.ops.find? fun e => e.2.relayNamed e.1 src tag orig with
    | some (t, o) =>
      .next (((s0.setOp t { o with relay := o.relay.map fun r => { r with abort := true } }).stopOp t).runTurns)
    | none =>
      let r := outcomeOf (s0.recordsOf src tag orig ++ s0.made src tag orig) (hArg c 8 4)
      .next (((s0.closeHere src tag orig).respondOutcome c r.1 r.2).runTurns)

/-! ## CUE_ADD (R260, R273) -/

/-- CUE_ADD_RX (R258, R260, R273, R411): checked, applied, recorded and answered with the old value. -/
def execCueAddRx (c : Cell) (s : State) : Host.Outcome State Fault Refusal :=
  if ! s.running then .next s else
  if ! cellIs c 0x28 then .fault .illFormed
  else
    .next (s.takeHead c 0 fun t =>
      let k := hLow c
      if t.intm.state = .save ∨ t.intm.state = .frozen then t.respond c 0 ⟨12, 52⟩ []
      else if ! t.ctrDenied k c.pkey.toNat ∧ t.execFull then t.respond c 0 ⟨12, 24⟩ []
      else
        let r := t.updateCtr k c.pkey.toNat (hAddr c % 2 == 1) false (hChunk c) (0x10000 + c.src.toNat)
        match r.2 with
        | some old => r.1.answerAtomic c old.toNat
        | none => r.1.respond c 0 ⟨9, 35⟩ [])

/-! ## Answers and timers that may pass a turn on -/

/-- CHANNEL_RESPONSE (R37, R245, R246, R249, R250, R253, R536): the work that waited for the line goes on. -/
def execChannelResponse (p : Port) (id : Byte) (_wr : Bool) (stat : BitVec 2) (data : Line) (code : BitVec 16)
    (poison : Bool) (s : State) : Host.Outcome State Fault Refusal :=
  .next (s.channelResponse p id stat data code poison).runTurns

/-- CHAN_HOLD (R252, R253): the hold of a used channel has lasted CHAN_HOLD. -/
def execChanHold (p : Port) (s : State) : Host.Outcome State Fault Refusal :=
  if s.memRuns ∧ s.chanState p = 2 ∧ (s.chan p).holdSince + s.chanHold ≤ s.now then .next (s.failChan p).runTurns else .next s

/-- RSP_TIMEOUT (R252, R253): an accepted request has had no answer for RSP_TIMEOUT; a response in the cycle of the expiry wins, so that the
port fails after it (R536). Log entry 122 (DEDUCED). -/
def execRspTimeout (p : Port) (s : State) : Host.Outcome State Fault Refusal :=
  if s.memRuns ∧ (s.chanState p = 1 ∨ s.chanState p = 2) ∧ (s.chan p).accepted.any (fun a => decide (a.since + s.rspTimeout < s.now)) then
    .next (s.failChan p).runTurns
  else .next s

/-- COMPLETION_CHUNK_RX (R212 to R215, R220 to R225, R259, R270, R273). A COMPLETION of KIND 4 is a GRANT_RX or a DONE_RX. -/
def execCompletionChunkRx (c : Cell) (s : State) : Host.Outcome State Fault Refusal :=
  if ! s.running then .next s else
  if ! cellIs c 0x11 ∨ bytesAt c.payload 0 1 = 4 then .fault .illFormed else .next ((s.completionRx c).runTurns)

/-- OPERATION_TIMEOUT (R224). -/
def execOperationTimeout (tag : Fin 16384) (s : State) : Host.Outcome State Fault Refusal :=
  if ! s.running then .next s else
  .next ((s.opTimeoutDue tag).runTurns)

/-- EXECUTED_TAG_RECORD_EXPIRE (R226): the records older than 1 ms. -/
def execExecutedTagRecordExpire (s : State) : Host.Outcome State Fault Refusal :=
  if ! s.running then .next s else
  .next (s.setXfr { s.xfr with execs := s.xfr.execs.filter fun e => decide (s.now < e.2.since + 1000000) })

/-- OUTCOME_CLOSURE_EXPIRE (R227): the closures older than one operation timeout. -/
def execOutcomeClosureExpire (s : State) : Host.Outcome State Fault Refusal :=
  if ! s.running then .next s else
  .next (s.setXfr { s.xfr with closures := s.xfr.closures.filter fun k => decide (s.now < k.since + s.opTimeout) })

/-- A message of an ordering context is under way. -/
def State.ctxBusy (s : State) (n : Nat) : Bool :=
  (s.xfr.inbound.any fun i => i.ctx == some n) ||
    (s.xfr.jobs.any fun e => match e.2.use with
      | .load _ _ _ c | .fill _ c | .atomic _ c _ => c == some n
      | _ => false) ||
    s.xfr.ops.any fun e => match e.2.relay with
      | some r => r.ctx == some n
      | none => false

/-- ORDERING_CONTEXT_RELEASE (R219): one operation timeout after its last message was applied and answered. -/
def execOrderingContextRelease (k : Fin 4096) (s : State) : Host.Outcome State Fault Refusal :=
  if ! s.running then .next s else
  match tabFind s.xfr.rflows k with
  | none => .next s
  | some f =>
    if f.held.isEmpty ∧ ! s.ctxBusy k ∧ f.last + s.opTimeout ≤ s.now then
      .next (s.setXfr { s.xfr with rflows := tabErase s.xfr.rflows k })
    else .next s

end Sys2Proof.Machine
end

