-- ==== Sys2Proof/Machine/CollectiveRx.lean ====
section
/-! DEFINITION. GRANTs, DONE notices and NOTICEs as they arrive (R293, R294, R302, R303, R311 to R316, R340, R554). -/

namespace Sys2Proof.Machine

/-- A GRANT's fields (Table 10-5). -/
structure Grant where
  src    : Nat
  tag    : Nat
  replay : Bool
  close  : Bool
  gen    : Bool
  handle : Nat
  stage  : Nat
  first  : Nat
  count  : Nat
  mask   : Nat
deriving DecidableEq, Repr

/-- Read a GRANT. -/
def grantOf (c : Cell) : Grant where
  src := c.src.toNat
  tag := c.tag.toNat
  replay := bit c.payload 8
  close := bit c.payload 9
  gen := bit c.payload 10
  handle := bytesAt c.payload 8 1
  stage := bytesAt c.payload 9 1
  first := bytesAt c.payload 12 4
  count := min (bytesAt c.payload 16 4) 256
  mask := bytesAt c.payload 20 4

/-- A COMPLETION cell of kind GRANT, and one that is a DONE notice. -/
def isGrant (c : Cell) : Bool := cellIs c 0x11 && bytesAt c.payload 0 1 == 4
def Grant.isDone (g : Grant) : Bool := !g.replay && !g.close && g.count == 0

/-- The numbers that MASK names. -/
def Grant.masked (g : Grant) : List Nat := ((List.range 32).filter fun n => g.mask.testBit n).map fun n => g.first + n

/-- The numbers that a GRANT lets go. -/
def Grant.numbers (g : Grant) : List Nat := if g.replay then g.masked else (List.range g.count).map fun n => g.first + n

/-- A context at a peer has ended (CLOSE): nothing more is sent to it, and its own contributions are missing. -/
def State.closePeer (s : State) (k : Nat) (c : Ctx) (ep : Nat) : State :=
  match c.recv.find? fun r => r.sender == ep with
  | some r => s.declareMissing k ep r.stage
  | none =>
    if c.missing.contains ep then s
    else (s.setCtx k { c with missing := c.missing ++ [ep] }).eventMissing c ep

/-- The outgoing message that a GRANT of a reduction or a value lets go, where this node sends one there. -/
def State.sendsTo (s : State) (c : Ctx) (g : Grant) (n : Nat) : Bool :=
  if c.code = 0x20 then
    (((s.shape c).fate s.nodeId c.segTotal n).send == some (g.stage, g.src)) && decide (n < c.segTotal) &&
      (decide (c.passFrom + c.passLen ≤ n) || (c.seg n).isSome)
  else (s.shape c).valueSenders.contains (g.src, g.stage) && n == 0

/-- Apply a GRANT to an outgoing message: a REPLAY, another context handle or another generation asks for it again. -/
def CSend.granted (x : CSend) (g : Grant) : CSend :=
  let again := g.replay || x.handle.any (fun h => h != g.handle) || (x.handle.isSome && x.gen != g.gen)
  { x with handle := some g.handle, gen := g.gen, sent := x.sent && !again, done := x.done && !again }

/-- A GRANT of a reduction or of a value. -/
def State.grantPartials (s : State) (k : Nat) (c : Ctx) (g : Grant) : State :=
  (g.numbers.filter (s.sendsTo c g)).foldl (fun t n => t.modCtx k fun d =>
    (d.ensureSend g.src g.stage n).mapSend (fun x => x.dest == g.src && x.stage == g.stage && x.number == n) fun x => x.granted g) s

/-- A GRANT of an ALLTOALL: TAG is the source's member index, SRC the receiving member. -/
def State.grantSource (s : State) (k : Nat) (g : Grant) : State :=
  g.numbers.foldl (fun t n => t.modCtx k fun d =>
    let mine (x : CSend) : Bool := x.dest == g.src && x.stage == g.stage && x.number == n && x.member == g.tag
    let d1 := if d.send.any mine then d else { d with send := d.send ++ [sendBlank g.src g.stage n g.tag] }
    d1.mapSend mine fun x => { x.granted g with again := x.again || g.replay }) s

/-- A GRANT to a root of this node: TAG is the root's member index. A REPLAY asks for pieces again, for the granting node alone. -/
def State.grantRoot (s : State) (k : Nat) (c : Ctx) (g : Grant) : State :=
  let s1 := s.modCtx k fun d => { d with roots := d.roots.map fun r => if r.index = g.tag then { r with granted := addOnce r.granted g.src } else r }
  if ! g.replay then s1
  else match c.roots.find? (fun r => r.index == g.tag), c.memberAt g.tag with
    | some r, some m =>
      (g.masked.filter fun n => decide (n < r.next)).foldl (fun t n =>
        if m.localSource then t.sendPiece k m r n (some g.src) false
        else t.injectCell (t.grantCell k c r.ep g.src 0 1 n 0 1 g.tag)) s1
    | _, _ => s1

/-- Take a GRANT (R293, R294, R303). -/
def State.takeGrant (s : State) (part group inst : Nat) (g : Grant) : State :=
  match s.ctxOfInst part group inst with
  | none => s.bump (R.colCount 7)
  | some (k, c) =>
    if s.frozenNow ∨ ! c.live then s.bump (R.colCount 7)
    else if g.close then s.closePeer k c g.src
    else match c.code with
      | 0x20 => s.grantPartials k c g
      | 0x24 => s.grantPartials k c g
      | 0x26 => s.grantPartials k c g
      | 0x22 => s.grantRoot k c g
      | 0x25 => s.grantRoot k c g
      | 0x23 => s.grantSource k g
      | _ => s.bump (R.colCount 7)

/-- Take a DONE notice (R340): the messages it names were counted at the receiver. -/
def State.takeDone (s : State) (part group inst : Nat) (g : Grant) : State :=
  match s.ctxOfInst part group inst with
  | none => s.bump (R.colCount 7)
  | some (k, c) =>
    if s.frozenNow then s.bump (R.colCount 7)
    else
      let mine (x : CSend) : Bool := x.dest == g.src && x.stage == g.stage && g.masked.contains x.number && (c.code != 0x23 || x.member == g.tag)
      s.setCtx k (c.mapSend mine fun x => { x with done := true })

/-- GRANT_RX (R293). -/
def execGrantRx (c : Cell) (s : State) : Host.Outcome State Fault Refusal :=
  if ! s.running then .next s else
  if ! isGrant c ∨ (grantOf c).isDone then .fault .illFormed
  else .next ((s.takeEjected c).takeGrant c.pkey.toNat (bytesAt c.payload 2 2 % 4096) (bytesAt c.payload 4 4) (grantOf c)).settleAll

/-- DONE_RX (R340). -/
def execDoneRx (c : Cell) (s : State) : Host.Outcome State Fault Refusal :=
  if ! s.running then .next s else
  if ! isGrant c ∨ ! (grantOf c).isDone then .fault .illFormed
  else .next ((s.takeEjected c).takeDone c.pkey.toNat (bytesAt c.payload 2 2 % 4096) (bytesAt c.payload 4 4) (grantOf c)).settleAll

/-! ## NOTICE (R302, R303, R312, R554) -/

/-- The context that sends the message a NOTICE names: to the node of its DEST, under the handle in its TAG. -/
def State.noticeCtx (s : State) (pkey tag dest : Nat) : Option (Nat × Ctx × CSend) :=
  s.col.ctxs.findSome? fun e =>
    if e.2.part ≠ pkey then none
    else (e.2.send.find? fun x => epNode x.dest == epNode dest && x.handle == some (tag % 256) && x.number % 256 == tag / 256).map
      fun x => (e.1, e.2, x)

/-- The root run of this node that a NOTICE of GATHER_DATA names. -/
def State.noticeRoot (s : State) (pkey tree tag : Nat) : Option (Nat × Ctx × RootRun) :=
  s.col.ctxs.findSome? fun e =>
    if e.2.part ≠ pkey ∨ (e.2.code ≠ 0x22 ∧ e.2.code ≠ 0x25) then none
    else (e.2.roots.find? fun r => r.tree == tree && decide (tag < r.next)).map fun r => (e.1, e.2, r)

/-- The members that an endpoint not reached stands for: itself, or a node's members. -/
def Shape.unreached (h : Shape) (ep : Nat) : List Nat :=
  if (h.indexOf ep).isSome then [ep] else (h.members.filter fun x => epNode x.ep == epNode ep).map fun x => x.ep

/-- A NOTICE of a C2 cell: a lost message is sent once more with ALT_ROUTE; a refused one makes its receiver missing. -/
def State.colNotice (s : State) (c : Cell) : State :=
  let p := c.payload
  let status := bytesAt p 0 1
  let tag := bytesAt p 4 2
  let pkey := bytesAt p 10 2
  if bits p 128 6 = 0x1A then
    match s.noticeRoot pkey (bits p 62 2) tag with
    | none => s.bump (R.colCount 7)
    | some (k, x, r) =>
      if status = 3 then s
      else s.setCtx k { x with roots := x.roots.map fun y =>
        if y.index = r.index then { y with refused := ((s.shape x).unreached (bytesAt p 2 2 % 32768)).foldl addOnce y.refused } else y }
  else match s.noticeCtx pkey tag (bytesAt p 8 2 % 32768) with
    | none => s.bump (R.colCount 7)
    | some (k, x, m) =>
      let same (y : CSend) : Bool := y.dest == m.dest && y.stage == m.stage && y.number == m.number && y.member == m.member
      if status ≠ 3 then s.closePeer k x m.dest
      else if m.again ∨ ! m.sent ∨ m.done then s
      else (s.setCtx k (x.mapSend same fun y => { y with sent := false, again := true })).bump (R.colCount 5)

/-- NOTICE_RX (R554): C2 types go to their context, any other type to the transfer tag. -/
def execNoticeRx (c : Cell) (s : State) : Host.Outcome State Fault Refusal :=
  if ! s.running then .next s else
  if ! cellIs c 0x14 then .fault .illFormed
  else
    let unsent := (s.ejectedEntry c).any fun e => e.neverSent
    let s0 := s.takeEjected c
    let typ := bits c.payload 128 6
    if 0x18 ≤ typ ∧ typ ≤ 0x1C then .next (s0.colNotice c).settleAll else .next (s0.xfrNotice c unsent).runTurns

end Sys2Proof.Machine
end

