-- ==== Sys2Proof/Machine/Cq.lean ====
section
/-! DEFINITION. The registers of the completion queues (R221, R229, R522): base, configuration and head. -/

namespace Sys2Proof.Machine

/-- The source may write the registers of a queue: a fabric manager, or the present window that owns it (Table 18-2). -/
def State.mayWriteCq (s : State) (a q : Nat) : Bool := s.srcFm a || (s.winPresent a && s.cqOwner q == a)

/-- A ring of 2^log records at a base lies whole in a region of this node. -/
def State.ringFits (s : State) (base log : Nat) : Bool :=
  !seatMem base && !badAddress base && match s.regionVersion (regionOf base) with
    | some (_, g) => decide (offsetOf base + 32 * 2 ^ log ≤ g.size * extentBytes)
    | none => false

/-- A write of XFR_CQ_BASE (its low or its high word): ignored while the queue is enabled. -/
def State.cqBaseWrite (s : State) (a q : Nat) (high : Bool) (value : Word) : State :=
  let off := R.cqBase q + (if high then 4 else 0)
  if ! s.mayWriteCq a q then s.violation a 4 true off
  else if s.cqEnabled q ∨ (! high ∧ bits value 0 5 ≠ 0) then s
  else s.lastWins a off fun t => t.setReg off value

/-- A write of XFR_CQ_CFG (R221, R229). LOG2_SIZE keeps its value while ENABLE is 1; ENABLE = 1 on a ring that lies nowhere is
ignored and recorded, and so is a write with LOG2_SIZE out of range, unrecorded. The end of ENABLE starts the queue's drain deadline. -/
def State.cqCfgWrite (s : State) (a q : Nat) (value : Word) : State :=
  let off := R.cqCfg q
  let on := s.cqEnabled q
  let want := bit value 5
  let log := if on then s.fld off 0 5 else bits value 0 5
  let inRange := decide (6 ≤ log) && decide (log ≤ 16)
  if ! s.mayWriteCq a q || (! s.srcFm a && bits value 6 4 != s.cqOwner q) then s.violation a 4 true off
  else if want && !on && !(inRange && s.ringFits (s.reg64 (R.cqBase q)) log) then s.violation a 1 true off
  else if !on && !inRange then s
  else s.lastWins a off fun r => r.unlessHeld a off value fun t =>
    let t1 := (t.journalReg a off value).setReg off (pack 32 [(0, 5, log), (5, 1, b2n want), (6, 4, bits value 6 4)])
    let d : Drain := .queue (Fin.ofNat 256 q)
    if on && !want then t1.setXfr { t1.xfr with drains := (t1.xfr.drains.filter fun e => decide (e.1 ≠ d)) ++ [(d, t1.now, t1.now + t1.timer 2 * 1000)] }
    else t1

/-- A write of XFR_CQ_HEAD: places free, and the records that waited for one are written. -/
def State.cqHeadSet (s : State) (a q : Nat) (value : Word) : State :=
  if ! s.mayWriteCq a q then s.violation a 4 true (R.cqHead q)
  else
    s.lastWins a (R.cqHead q) fun t =>
    let h := bits value 0 16
    let c := t.cq q
    let s1 := (t.setReg (R.cqHead q) (BitVec.ofNat 32 h)).setCq q { c with consumed := consumedTo c.written c.consumed h }
    s1.drainWaiting q (s1.cq q).waiting.length

/-- CQ_HEAD_WRITE (R221). -/
def execCqHeadWrite (a : Source) (q : Fin 256) (value : Word) (s : State) : Host.Outcome State Fault Refusal :=
  .next (s.cqHeadSet a q value)

/-- CQ_ENABLE (R221). -/
def execCqEnable (a : Source) (q : Fin 256) (value : Word) (s : State) : Host.Outcome State Fault Refusal :=
  .next (s.cqCfgWrite a q value)

/-- CQ_DISABLE (R229). -/
def execCqDisable (a : Source) (q : Fin 256) (value : Word) (s : State) : Host.Outcome State Fault Refusal :=
  .next (s.cqCfgWrite a q value)

end Sys2Proof.Machine
end

