-- ==== Sys2Proof/Machine/Holdup.lean ====
section
/-! DEFINITION. Hold-up energy before persistent stores (R492, R493) and COMMIT (R494, Tables 16-7 and 16-8). -/

namespace Sys2Proof.Machine

/-! ## The hold-up check -/

/-- The hold-up need in mJ, rounded up, where the record written last has `last` bytes (R493). -/
def State.holdupNeed (s : State) (last : Nat) : Nat :=
  let w := s.fld R.holdupCfg 0 10
  let t := s.fld R.holdupCfg 16 10
  (w * t * 1080000 + w * (s.farQueued + last) + 1079999999) / 1080000000

/-- The energy last reported; an invalid value counts as 0 (R492). -/
def State.holdupEnergy (s : State) : Nat := if bit (s.reg R.holdup) 16 then s.fld R.holdup 0 16 else 0

/-- The check passes. -/
def State.holdupOk (s : State) (last : Nat) : Bool := decide (s.holdupNeed last ≤ s.holdupEnergy)

/-- Show the need computed. -/
def State.showNeed (s : State) (last : Nat) : State := s.setFld R.holdupNeed 0 16 (s.holdupNeed last)

/-- A failed check: HOLDUP_REFUSED carries the need (Table 16-3). -/
def State.holdupLow (s : State) (last : Nat) : State := (s.showNeed last).raiseFault 84 0xFFFF 1 (s.holdupNeed last)

/-- A region lies wholly in the far tier. -/
def PlateV.farOnly (v : PlateV) (g : Region) : Bool :=
  match tabFind v.places g.num with
  | some p => p.nearLen == 0
  | none => false

/-- Bytes [a, a + n) and [b, b + m) overlap. -/
def rangesMeet (a n b m : Nat) : Bool := decide (a < b + m ∧ b < a + n)

/-! ## COMMIT -/

/-- The fields of a COMMIT. -/
def mBlock (d : Line) : Nat := dArg d 0 8
def mStep (d : Line) : Nat := dArg d 8 4

/-- A commit block slot is valid: its MAGIC and CRC-64 match (Table 16-8). -/
def slotValid (b : List Byte) : Bool :=
  ofBytes (b.take 4) == 0x544D435A && ofBytes ((b.drop 96).take 8) == crc64 (b.take 96)

/-- A field of a slot. -/
def slotField (b : List Byte) (k n : Nat) : Nat := ofBytes ((b.drop k).take n)

/-- The valid slots of a block area, one with a poisoned line left out. -/
def State.commitSlots (s : State) (v : PlateV) (g : Region) (addr : Nat) : List (List Byte) :=
  ((List.range 2).filterMap fun k =>
    let off := offsetOf addr + 128 * k
    if s.rangePoisoned v g off 128 then none else some (s.readBytes v g off 128)).filter slotValid

/-- The valid slot with the higher SEQ. -/
def latestSlot (l : List (List Byte)) : Option (List Byte) :=
  l.foldl (fun a b => match a with
    | some x => if slotField x 8 8 < slotField b 8 8 then some b else some x
    | none => some b) none

/-- A commit block slot's bytes. -/
def State.slotBytes (s : State) (d : Line) (seq : Nat) (digest : BitVec 384) : List Byte :=
  let b := natBytes 0x544D435A 4 ++ natBytes (mStep d) 4 ++ natBytes seq 8 ++ natBytes s.now 8 ++ natBytes (dSrc d) 8 ++
    natBytes (dDst d) 8 ++ natBytes (dLen d) 5 ++ natBytes 0 3 ++ toBytes digest 48
  b ++ natBytes (crc64 b) 8 ++ natBytes 0 24

/-- Remove a COMMIT under way. -/
def State.dropCommit (s : State) (c : Commit) : State := { s with commits := s.commits.filter fun x => decide (x ≠ c) }

/-- A COMMIT ends without its block. -/
def State.failCommit (s : State) (c : Commit) (a : Answer) : State := (s.dropCommit c).complete c.issue a.comp

/-- A DIGEST VERIFY under way ends without its digest. -/
def State.dropVerify (s : State) (c : Verify) (a : Answer) : State :=
  ({ s with verifies := s.verifies.filter fun x => decide (x ≠ c) } : State).complete c.issue a.comp

/-- A range that lies wholly in the far tier, or why it is refused. -/
def State.farRange (s : State) (part addr n : Nat) (wr : Bool) : Except Answer (PlateV × Region) :=
  match s.regionFor part addr n wr with
  | .error a => .error a
  | .ok (v, g) => if v.farOnly g then .ok (v, g) else .error ⟨9, 17⟩

/-- COMMIT (R494): steps 1 to 4 of Table 16-7. -/
def State.submitCommit (s : State) (i : Issue) : State :=
  let d := i.desc
  let p := dPart d
  let n := dLen d
  match s.regionFor p (dSrc d) n false, s.farRange p (dDst d) n true, s.farRange p (mBlock d) 256 true with
  | .error a, _, _ => s.complete i a.comp
  | .ok _, .error a, _ => s.complete i a.comp
  | .ok _, .ok _, .error a => s.complete i a.comp
  | .ok (v, g), .ok (v1, h), .ok (v2, b) =>
    if ! s.holdupOk 128 then (s.holdupLow 128).complete i { okComp with status := 13 }
    else
      let s1 := s.showNeed 128
      let old := latestSlot (s1.commitSlots v2 b (mBlock d))
      let clash : Bool := match old with
        | some x => rangesMeet (dDst d) n (slotField x 32 8) (slotField x 40 5)
        | none => false
      if clash || rangesMeet (dSrc d) n (dDst d) n || rangesMeet (dSrc d) n (mBlock d) 256 || rangesMeet (dDst d) n (mBlock d) 256 then
        s1.complete i { okComp with status := 11, reason := 66 }
      else if s1.rangePoisoned v g (offsetOf (dSrc d)) n then s1.complete i { okComp with status := 8, reason := 31 }
      else match firstAnswer [s1.channelAnswer v g (linesOf (offsetOf (dSrc d)) n), s1.channelAnswer v1 h (linesOf (offsetOf (dDst d)) n)] with
        | some a => s1.complete i a.comp
        | none =>
          let data := s1.readBytes v g (offsetOf (dSrc d)) n
          let s2 := (s1.queueReads v g (offsetOf (dSrc d)) n none).writeBytes v1 h (offsetOf (dDst d)) data
          let s3 := s2.queueWrites v1 h (offsetOf (dDst d)) n none
          { s3 with commits := s3.commits ++
              [{ issue := i, seq := (old.map fun x => slotField x 8 8).getD 0, digest := sha384 data, since := s3.now, slot := false }] }

/-- The controllers have accepted every write of a range. -/
def State.linesAccepted (s : State) (addr n : Nat) : Bool :=
  match s.regionVersion (regionOf addr) with
  | none => true
  | some (v, g) => (linesOf (offsetOf addr) n).all fun o =>
      let key := v.lineAt g.num o
      !(s.chan (v.portOf key)).all.any fun r => r.line == key && decide (r.kind ≠ .read)

/-- The controllers have accepted every data line of a COMMIT. -/
def State.commitAccepted (s : State) (c : Commit) : Bool := s.linesAccepted (dDst c.issue.desc) (dLen c.issue.desc)

/-- A channel that a range of a region lies on has FAILED. -/
def State.rangeFailed (s : State) (addr n : Nat) : Bool :=
  match s.regionVersion (regionOf addr) with
  | none => false
  | some (v, g) => s.channelFailed v g (linesOf (offsetOf addr) n)

/-- The address of the slot that a COMMIT writes. -/
def Commit.slotAt (c : Commit) : Nat := mBlock c.issue.desc + 128 * ((c.seq + 1) % 2)

/-- COMMIT_SLOT_WRITE (R494): step 5 of Table 16-7 for the oldest COMMIT whose data lines are all accepted. -/
def execCommitSlotWrite (s : State) : Host.Outcome State Fault Refusal :=
  if ! s.running then .next s else
  match s.commits.find? fun c => !c.slot && s.commitAccepted c with
  | none => .next s
  | some c =>
    let d := c.issue.desc
    if s.rangeFailed (dDst d) (dLen d) || s.rangeFailed c.slotAt 128 then .next (s.failCommit c ⟨8, 32⟩)
    else if ! s.holdupOk 128 then .next ((s.holdupLow 128).failCommit c ⟨13, 0⟩)
    else
      let s1 := (s.showNeed 128).writeAt c.slotAt (s.slotBytes d (c.seq + 1) c.digest)
      .next { s1 with commits := s1.commits.map fun x => if x = c then { c with slot := true } else x }

/-- Step 6 of Table 16-7: a COMMIT whose slot's lines are accepted completes. -/
def State.endCommit (s : State) (c : Commit) : State :=
  if ! c.slot ∨ ! s.linesAccepted c.slotAt 128 then s
  else if s.rangeFailed c.slotAt 128 then s.failCommit c ⟨8, 32⟩
  else (s.dropCommit c).complete c.issue { okComp with bytes := dLen c.issue.desc, value := c.digest.toNat % 2 ^ 64 }

/-- Every COMMIT whose slot is in place ends with the cycle (log entry 81). -/
def State.endCommits (s : State) : State := if s.running then s.commits.foldl State.endCommit s else s

end Sys2Proof.Machine
end

