-- ==== Sys2Proof/Machine/Intermission.lean ====
section
/-! DEFINITION. Intermission (R405 to R416, R440, R495): the freeze, the hush, the image, and RESUME; and what a context makes of a lost
node (R303, R485). -/

namespace Sys2Proof.Machine

/-- Replace the Intermission state. -/
def State.setIntm (s : State) (x : Intm) : State := { s with intm := x }

/-! ## A lost node's contributions (R303) -/

/-- A context still waits for something from a direct sender. -/
def State.awaits (s : State) (c : Ctx) (ep stage : Nat) : Bool :=
  let h := s.shape c
  match c.code with
  | 0x20 => decide (c.passFrom + c.passLen < c.segTotal) || c.segs.any fun e =>
      (h.fate s.nodeId c.segTotal e.1).expect.any fun x => x.2 == ep && stageOfBit x.1 == stage && !e.2.got.testBit x.1
  | 0x24 => (c.gotValue stage ep).isNone
  | 0x26 => (c.gotValue stage ep).isNone
  | 0x50 => (c.gotSweep stage ep).isNone
  | 0x23 => match h.indexOf ep with
      | some x => h.sources.contains x && c.openMembers.any fun m => !c.runOver h m.index x
      | none => false
  | _ => c.roots.any fun r => r.ep == ep && !(c.lackedPieces h r.index).isEmpty

/-- The senders that reach this node directly, with their stages. -/
def State.directSenders (s : State) (c : Ctx) : List (Nat × Nat) :=
  let h := s.shape c
  match c.code with
  | 0x20 => h.valueSenders.filter fun e => e.2 != 9 || decide (h.i < h.p2)
  | 0x24 => h.valueSenders
  | 0x26 => h.valueSenders
  | 0x50 => h.valueSenders
  | _ => h.members.map fun x => (x.ep, 0)

/-- A context declares a node and its seats missing. -/
def State.ctxLoseNode (s : State) (k n : Nat) : State :=
  match s.ctx k with
  | none => s
  | some c =>
    if ! c.live then s
    else
      let h := s.shape c
      let eps := n :: (h.members.filter fun x => epNode x.ep == n).map fun x => x.ep
      let lost := (s.directSenders c).filter fun e => epNode e.1 == n && s.awaits c e.1 e.2
      (s.declareAll k lost).modCtx k fun x =>
        { x with missing := eps.foldl addOnce x.missing
                 roots := x.roots.map fun r => if r.placed < r.total then { r with refused := eps.foldl addOnce r.refused } else r }

/-- Apply a node's loss to every context, or keep it until the resume time (R411). -/
def State.ctxsLoseNode (s : State) (n : Nat) : State :=
  if s.mayGrant then ((s.col.ctxs.map fun e => e.1).foldl (fun t k => t.ctxLoseNode k n) s).settleAll
  else s.setIntm { s.intm with lost := addOnce s.intm.lost n }

/-! ## Accepting an INTERMISSION (R405, R407) -/

/-- The fields of Table 13-4. -/
def iTime (d : Line) : Nat := dArg d 0 8
def iLimit (d : Line) : Nat := dArg d 8 4
def iSave (d : Line) : Bool := (dMod d).testBit 0

/-- The image area, or the image, lies whole in a far-only region of partition 0x0000. -/
def State.imageRange (s : State) (addr n : Nat) (wr : Bool) : Option Answer :=
  match s.farRange 0 addr n wr with
  | .error a => some a
  | .ok _ => none

/-! ## The image (R412, R440) -/

/-- A record before it is encrypted: type, key, State and signature of its pinned version, body. -/
structure ImgRec where
  typ   : Nat
  pkey  : Nat
  state : Nat
  arith : Nat
  body  : List Byte
deriving DecidableEq, Repr

/-- Zero-fill to whole lines. -/
def padLines (b : List Byte) : List Byte := b ++ List.replicate ((64 - b.length % 64) % 64) 0#8

/-- A narrow slot (Table 11-3); a PROMOTED one names its wide slot. -/
def narrowWord (x : ASlot) (wide : Nat) : Nat :=
  let window := match x.st with
    | .empty => 0
    | .narrow => (x.value / (256 ^ x.w : Nat)) % (2 ^ 104 : Nat) |>.toNat
    | .promoted => wide
    | .special => x.flags % 16
  let code := match x.st with
    | .empty => 0
    | .narrow => 1
    | .promoted => 2
    | .special => 3
  window + code * 2 ^ 104 + (if x.st = .narrow then x.w else 0) * 2 ^ 106 + x.count * 2 ^ 112

/-- A wide slot (Table 11-5). -/
def wideWord (x : ASlot) (owner : Nat) : Nat :=
  ((x.value % (2 ^ 320 : Nat)).toNat) + x.flags % 8 * 2 ^ 320 + owner * 2 ^ 323 + 2 ^ 346

/-- Narrow slots, then the wide slots that they own, numbered within the record. -/
def slotTables (xs : List ASlot) : List Byte :=
  let r := xs.zipIdx.foldl (fun (acc : Nat × List Byte × List Byte) e =>
    let up := decide (e.1.st = .promoted)
    (acc.1 + b2n up, acc.2.1 ++ natBytes (narrowWord e.1 acc.1) 16, if up then acc.2.2 ++ natBytes (wideWord e.1 e.2) 64 else acc.2.2))
    (0, [], [])
  r.2.1 ++ r.2.2

/-- A segment record (Table 11-9). -/
def Seg.word (x : Seg) : Nat :=
  x.got % 2 ^ 33 + b2n x.gen * 2 ^ 33 + x.sstate % 4 * 2 ^ 34 + x.count % 2 ^ 16 * 2 ^ 36 + x.expect % 2 ^ 33 * 2 ^ 64

/-- Bytes that the spec leaves to Zildin's own use. -/
def State.freeBytes (s : State) (n : Nat) : List Byte × State := (natBytes (s.freshVal (8 * n)) n, s.tookFree)

/-- `n` blocks of free bytes, each followed by given bytes. -/
def State.freeBlocks (n : Nat) : List (List Byte) → State → List Byte × State
  | [], s => ([], s)
  | b :: t, s =>
    let f := s.freeBytes n
    let r := State.freeBlocks n t f.2
    (f.1 ++ b ++ r.1, r.2)

/-- The pinned version's State and signature of a record. -/
def State.pinned (s : State) (st : Word) : Nat × Nat :=
  (st.toNat, ((s.versionNamed st).map fun v => bytesAt v.arithSig 0 16).getD 0)

/-- A CONTEXT record. -/
def State.ctxRecord (s : State) (c : Ctx) : ImgRec × State :=
  let slots := c.segs.flatMap fun e => (List.range 1024).map fun i => tabGet ASlot.reset e.2.slots i
  let body := (c.segs.flatMap fun e => natBytes e.2.word 16) ++ slotTables slots
  let f := s.freeBlocks 1024 [body]
  let g := if c.code = 0x26 then f.2.freeBytes 192 else ([], f.2)
  let p := s.pinned c.version
  ({ typ := 1, pkey := c.part, state := p.1, arith := p.2, body := padLines (f.1 ++ g.1) }, g.2)

/-- A record of one descriptor behind 64 free bytes. -/
def State.descRecord (s : State) (typ : Nat) (i : Issue) : ImgRec × State :=
  let f := s.freeBlocks 64 [toBytes i.desc 64]
  ({ typ := typ, pkey := dPart i.desc, state := 0, arith := 0, body := f.1 }, f.2)

/-- The distinct keys of a list, rising. -/
def keysOf (l : List Nat) : List Nat := l.foldl insertNat []

/-- One record per partition of descriptors, each behind 64 free bytes. -/
def State.groupRecords (typ : Nat) (ds : List Line) : List Nat → State → List ImgRec × State
  | [], s => ([], s)
  | k :: t, s =>
    let f := s.freeBlocks 64 ((ds.filter fun d => dPart d == k).map fun d => toBytes d 64)
    let r := State.groupRecords typ ds t f.2
    ({ typ := typ, pkey := k, state := 0, arith := 0, body := f.1 } :: r.1, r.2)

/-- Run a maker of records over a list. -/
def recordsFrom {α : Type} (f : State → α → ImgRec × State) : List α → State → List ImgRec × State
  | [], s => ([], s)
  | a :: t, s =>
    let r := f s a
    let q := recordsFrom f t r.2
    (r.1 :: q.1, q.2)

/-- Words 0 and 1 of an arrival channel (PRM_ARR_CFG0, PRM_ARR_CFG1). -/
def Arr.cfg0 (a : Arr) : Nat := a.group + 2 ^ 12 + b2n a.pool * 2 ^ 13 + b2n a.count * 2 ^ 14 + a.log2 * 2 ^ 15
def Arr.cfg1 (a : Arr) : Nat := a.ep + a.counter * 2 ^ 16

/-- A channel's line of an ARRIVAL record: CFG0, CFG1, BASE, HEAD, TAIL, SEQ. -/
def State.arrLine (s : State) (ch : Nat) (a : Arr) : List Byte :=
  padLines (natBytes a.cfg0 4 ++ natBytes a.cfg1 4 ++ natBytes a.base 8 ++ natBytes (s.fld (R.arr ch + 0x10) 0 16) 4 ++
    natBytes (a.written % 65536) 4 ++ natBytes a.seq 4)

/-- An UPDATE record. -/
def State.updateRecord (s : State) (u : Update) : ImgRec × State :=
  let f := s.freeBytes 192
  let g := State.freeBlocks 192 (u.accs.map fun _ => []) f.2
  let v := s.versionOf u.epoch
  ({ typ := 8, pkey := u.part, state := (v.map fun x => x.state.toNat).getD 0, arith := (v.map fun x => bytesAt x.arithSig 0 16).getD 0
     body := toBytes u.issue.desc 64 ++ toBytes u.block 256 ++ f.1 ++ g.1 }, g.2)

/-- The blocks of 64 counters, or of 64 exact cells, that a key owns. -/
def State.ownedCounters (s : State) : List (Nat × Nat) :=
  ((List.range 1024).map fun b => (b, s.fld (R.ctrKey b) 0 16)).filter fun e => e.2 != 0xFFFF
def State.ownedCells (s : State) : List (Nat × Nat) :=
  ((List.range (min s.cellBlocks 1024)).map fun b => (b, s.fld (R.cellKey b) 0 16)).filter fun e => e.2 != 0xFFFF

/-- The descriptors held in a cue queue, or past step 1. -/
def State.heldDescs (s : State) : List Issue :=
  s.xfr.queues.flatMap fun q => (q.2.filter fun x => decide (32 ≤ q.1) || x.stamp.isSome).map fun x => x.issue

/-- The image's records in the order of Table 13-7, END apart. -/
def State.imageRecords (s : State) : List ImgRec × State :=
  let r1 := recordsFrom State.ctxRecord (s.col.ctxs.map fun e => e.2) s
  let r2 := recordsFrom (fun t i => t.descRecord 2 i) ((s.col.queue ++ s.col.waiting ++ s.col.outs).map fun w => w.issue) r1.2
  let ctrs := s.ownedCounters.map fun e => ({ typ := 3, pkey := e.2, state := 0, arith := 0
                                              body := (List.range 64).flatMap fun i => toBytes (s.ctr (64 * e.1 + i)) 4 } : ImgRec)
  let cells := s.ownedCells.map fun e => ({ typ := 4, pkey := e.2, state := 0, arith := 0
                                            body := slotTables ((List.range 64).map fun i => s.cell (64 * e.1 + i)) } : ImgRec)
  let cues := s.prm.cues.map fun e => e.2.desc
  let r5 := State.groupRecords 5 cues (keysOf (cues.map dPart)) r2.2
  let held := s.heldDescs.map fun i => i.desc
  let r6 := State.groupRecords 6 held (keysOf (held.map dPart)) r5.2
  let arrs := (keysOf (s.prm.arrs.map fun e => e.2.pkey)).map fun k =>
    ({ typ := 7, pkey := k, state := 0, arith := 0
       body := (s.prm.arrs.filter fun e => e.2.pkey == k).flatMap fun e => s.arrLine e.1 e.2 } : ImgRec)
  let r8 := recordsFrom State.updateRecord s.upd.queue r6.2
  (r1.1 ++ r2.1 ++ ctrs ++ cells ++ r5.1 ++ r6.1 ++ arrs ++ r8.1, r8.2)

/-- A record of this key is encrypted and tagged. -/
def State.imageSealed (s : State) (k : Nat) : Bool :=
  match s.plt.active with
  | some v => v.mode k != 0
  | none => false

/-- A record head (Table 13-8). -/
def recHead (r : ImgRec) (len : Nat) : List Byte :=
  natBytes r.typ 2 ++ natBytes r.pkey 2 ++ natBytes r.state 4 ++ natBytes len 8 ++ natBytes r.arith 16 ++ natBytes 0 32

/-- The IV of a record (R440). -/
def imageIv (node index freeze : Nat) : List Byte := natBytes node 2 ++ natBytes index 2 ++ natBytes freeze 8

/-- A record as stored. -/
def State.storedRecord (s : State) (freeze : Nat) (r : ImgRec) (index : Nat) : List Byte :=
  if s.imageSealed r.pkey then
    let head := recHead r (r.body.length + 64)
    let x := gcmSeal (s.imgKey r.pkey) (imageIv s.nodeId index freeze) head r.body
    head ++ x.1 ++ x.2 ++ List.replicate 48 0#8
  else recHead r r.body.length ++ r.body

/-- The END record. -/
def imageEnd : ImgRec := { typ := 15, pkey := 0, state := 0, arith := 0, body := [] }

/-- The stored size of an image. -/
def State.imageSize (s : State) (rs : List ImgRec) : Nat :=
  256 + ((rs ++ [imageEnd]).map fun r => 64 + r.body.length + (if s.imageSealed r.pkey then 64 else 0)).sum

/-- The header with its DIGEST field (Table 13-6). -/
def State.imageHeader (s : State) (records len : Nat) (digest : List Byte) : List Byte :=
  natBytes 0x4D544E49 4 ++ natBytes 1 2 ++ natBytes s.nodeId 2 ++ natBytes s.intm.freeze 8 ++ natBytes records 4 ++ natBytes 0 4 ++
    natBytes len 8 ++ toBytes s.intm.seqAt 4 ++ toBytes s.intm.stateAt 4 ++ toBytes (s.reg R.kprId) 4 ++ natBytes 0 4 ++ digest ++
    natBytes 0 160

/-- The stored image: its header, its records and its digest. -/
def State.image (s : State) (rs : List ImgRec) : List Byte × List Byte × BitVec 384 :=
  let body := ((rs ++ [imageEnd]).zipIdx).flatMap fun e => s.storedRecord s.intm.freeze e.1 e.2
  let len := 256 + body.length
  let digest := sha384 (s.imageHeader (rs.length + 1) len (natBytes 0 48) ++ body)
  (s.imageHeader (rs.length + 1) len (toBytes digest 48), body, digest)

/-- What an image holds. -/
def State.snapshot (s : State) (digest : BitVec 384) : Snapshot where
  digest := digest
  freeze := s.intm.freeze
  counters := s.prm.counters.filter fun e => s.ownedCounters.any fun b => b.1 == e.1 / 64
  cues := s.prm.cues
  arrs := s.prm.arrs
  heads := s.prm.arrs.map fun e => (e.1, s.fld (R.arr e.1 + 0x10) 0 16)
  cells := s.eru.cells.filter fun e => s.ownedCells.any fun b => b.1 == e.1 / 64
  queues := s.xfr.queues.map fun q => (q.1, q.2.filter fun x => decide (32 ≤ q.1) || x.stamp.isSome)
  keys := s.ownedCounters
  cellKeys := s.ownedCells
  col := s.col
  upd := s.upd

/-! ## States (Table 13-5) -/

/-- The INTERMISSION under way ends with an outcome; the node is FROZEN with its state on chip. -/
def State.endIntm (s : State) (c : Comp) : State :=
  let s1 := s.setIntm { s.intm with state := .frozen, onChip := true, issue := none }
  match s.intm.issue with
  | some i => s1.complete i c
  | none => s1

/-- Enter SAVE (R413): the size is shown, and an area that is too small ends the INTERMISSION. -/
def State.enterSave (s : State) (i : Issue) : State :=
  let need := s.imageSize s.imageRecords.1
  let s1 := (s.setReg64 R.intmNeed need).setIntm { s.intm with state := .save, onChip := true, imageOk := false, issue := some i }
  if dLen i.desc < need then s1.endIntm { okComp with status := 10, reason := 56 } else s1

/-- INTERMISSION (R405, R407), whose step-1 stamp is `stamp`. A hush limit outside its range acts as some limit within it. -/
def State.submitIntermission (s : State) (i : Issue) (stamp : Nat) : State :=
  let d := i.desc
  let area := if iSave d then s.imageRange (dDst d) (dLen d) true else none
  let again := decide (s.intm.state = .frozen) && iSave d
  match area with
  | some a => s.complete i a.comp
  | none =>
    if s.intm.state ≠ .running ∧ ! again then s.complete i { okComp with status := 11, reason := 52 }
    else if ! again ∧ iTime d < stamp + 100000 then s.complete i { okComp with status := 9, reason := 55 }
    else if iSave d ∧ ! s.holdupOk 256 then (s.holdupLow 256).complete i { okComp with status := 13 }
    else
      let s1 := if iSave d then s.showNeed 256 else s
      let named := iLimit d = 0 ∨ (50 ≤ iLimit d ∧ iLimit d ≤ 10000)
      let hush := if iLimit d = 0 then 500 else if named then iLimit d else 50 + s1.freshVal 14 % 9951
      let s2 := if named then s1 else s1.tookFree
      if again then s1.enterSave i
      else (s2.setReg64 R.intmFreeze (iTime d)).setIntm
        { s2.intm with state := .armed, pinned := (s2.plt.active.map fun v => v.state).getD 0, freeze := iTime d, limit := hush * 1000, issue := some i
                       imageOk := if iSave d then false else s2.intm.imageOk }

/-- The ARMED INTERMISSION is cancelled (R408). -/
def State.cancelIntm (s : State) : State :=
  let s1 := s.setIntm { s.intm with state := .running, issue := none }
  match s.intm.issue with
  | some i => s1.complete i { okComp with status := 5 }
  | none => s1

/-- FREEZE (R409). -/
def execFreeze (s : State) : Host.Outcome State Fault Refusal :=
  if ! s.running then .next s else
  if s.intm.state = .armed ∧ s.intm.freeze ≤ s.now then
    .next (s.setIntm { s.intm with state := .hush, seqAt := s.reg R.scriptSeq
                                   stateAt := (s.plt.active.map fun v => v.state).getD 0 })
  else .next s

/-- A message of a context is partly received. -/
def Ctx.partly (c : Ctx) : Bool := c.recv.any fun r => !r.counted && (r.head.isSome || !r.cells.isEmpty)

/-- The node is quiet (R410). -/
def State.quiet (s : State) : Bool :=
  s.xfr.ops.isEmpty && !(s.col.ctxs.any fun e => e.2.partly) && s.prm.trackers.isEmpty

/-- Leave HUSH for SAVE or FROZEN (R406, R413). -/
def State.leaveHush (s : State) : State :=
  match s.intm.issue with
  | some i => if iSave i.desc then s.enterSave i else s.endIntm okComp
  | none => s.endIntm okComp

/-- HUSH_QUIET (R410). -/
def execHushQuiet (s : State) : Host.Outcome State Fault Refusal :=
  if ! s.running then .next s else
  .next (if s.intm.state = .hush ∧ s.quiet then s.leaveHush else s)

/-- Drop what has arrived in part of a context's messages; a reduction's segments are reset, without a grant until the resume time. -/
def State.hushCtx (s : State) (k : Nat) : State :=
  match s.ctx k with
  | none => s
  | some c =>
    let bad (r : CRecv) : Bool := !r.counted && (r.head.isSome || !r.cells.isEmpty)
    if c.code = 0x20 then
      let ns := keysOf ((c.recv.filter bad).map fun r => r.number)
      ns.foldl (fun t n => match t.ctx k with
        | none => t
        | some x => match x.seg n with
          | none => t
          | some g =>
            let y : Seg := { g.cleared with resetAt := some t.now, due := false }
            (t.setCtx k (((x.putSeg n y).clearRecv n y.gen).uncount n)).bump R.intmResets) s
    else s.setCtx k (c.mapRecv bad fun r => { r with cells := [], head := none })

/-- HUSH_LIMIT (R410). -/
def execHushLimit (s : State) : Host.Outcome State Fault Refusal :=
  if ! s.running then .next s else
  if s.intm.state ≠ .hush ∨ s.now < s.intm.freeze + s.intm.limit then .next s
  else
    let live := s.xfr.ops.filter fun o => o.2.abortAt.isNone && o.2.fixed.isNone
    let acted := !live.isEmpty || (s.col.ctxs.any fun e => e.2.partly) || !s.prm.trackers.isEmpty
    let s1 := live.foldl (fun t o => (t.stopOp o.1).bump R.intmStopped) s
    let s2 := (s1.col.ctxs.map fun e => e.1).foldl (fun t k => t.hushCtx k) s1
    let s3 := s2.setPrm { s2.prm with trackers := [] }
    let s4 := if acted then s3.raiseFault 60 0xFFFF 1 0 else s3
    .next (if s4.quiet then s4.leaveHush else s4)

/-- IMAGE_WRITTEN (R413, R495): the hold-up check once more, then the header. -/
def execImageWritten (s : State) : Host.Outcome State Fault Refusal :=
  if ! s.running then .next s else
  match s.intm.state, s.intm.issue with
  | .save, some i =>
    let r := s.imageRecords
    let img := r.2.image r.1
    match r.2.putBytes 0 (dDst i.desc + 256) img.2.1 with
    | .error a => .next (s.endIntm a.comp)
    | .ok s1 =>
      if ! s1.holdupOk 256 then .next ((s1.holdupLow 256).endIntm { okComp with status := 13 })
      else match (s1.showNeed 256).putBytes 0 (dDst i.desc) img.1 with
        | .error a => .next (s1.endIntm a.comp)
        | .ok s2 =>
          let h := img.2.2
          let s3 := (List.range 12).foldl (fun t k => t.setReg (R.intmDigest + 4 * k) (BitVec.ofNat 32 (bytesAt h (4 * k) 4))) s2
          let s4 := s3.setIntm { s3.intm with imageOk := true, images := s.snapshot h :: s3.intm.images }
          .next (s4.endIntm { okComp with value := h.toNat % 2 ^ 64 })
  | _, _ => .next s

/-- HOLDUP_RECHECK (R493): once in each 10 µs, every COMMIT that has not issued its slot and the SAVE under way are checked again. -/
def execHoldupRecheck (s : State) : Host.Outcome State Fault Refusal :=
  let period := s.now / 10000 + 1
  if s.kpr.recheckAt = period then .next s else
  let s0 : State := { s with kpr := { s.kpr with recheckAt := period } }
  let s1 := (s0.commits.filter fun c => !c.slot).foldl (fun t c => if t.holdupOk 128 then t.showNeed 128 else (t.holdupLow 128).failCommit c ⟨13, 0⟩) s0
  .next (if s1.intm.state = .save then
      if s1.holdupOk 256 then s1.showNeed 256 else (s1.holdupLow 256).endIntm { okComp with status := 13 }
    else s1)

/-! ## RESUME (R414, R415) -/

/-- The records of stored bytes: head and body each; none where the layout is wrong. -/
def splitRecords : Nat → List Byte → Option (List (List Byte × List Byte))
  | 0, _ => none
  | f + 1, b =>
    let head := b.take 64
    let len := slotField head 8 8
    let typ := slotField head 0 2
    if head.length < 64 ∨ len % 64 ≠ 0 ∨ (b.drop 64).length < len ∨ ! zeroBytes head 32 32 then none
    else if typ = 15 then (if len = 0 ∧ b.length = 64 ∧ slotField head 2 2 = 0 then some [] else none)
    else if typ = 0 ∨ 8 < typ then none
    else match splitRecords f (b.drop (64 + len)) with
      | some t => if t.all fun x => decide (typ ≤ slotField x.1 0 2) then some ((head, (b.drop 64).take len) :: t) else none
      | none => none

/-- A record's tag, or why it fails (R440). -/
def State.recordTag (s : State) (freeze : Nat) (r : List Byte × List Byte) (index : Nat) : Option Answer :=
  let k := slotField r.1 2 2
  if ! s.imageSealed k then none
  else if ! s.keyOpen k then some ⟨9, 58⟩
  else
    let n := r.2.length - 64
    if r.2.length < 64 then some ⟨11, 53⟩
    else match gcmOpen (s.imgKey k) (imageIv s.nodeId index freeze) r.1 (r.2.take n) ((r.2.drop n).take 16) with
      | some _ => none
      | none => some ⟨11, 53⟩

/-- A record's pinned State is held with an equal arithmetic signature (Table 13-9, check 4). -/
def State.recordState (s : State) (r : List Byte × List Byte) : Option Answer :=
  let st := slotField r.1 4 4
  let held := s.plt.active.toList ++ s.plt.retiring.toList ++ (if s.plt.armed then s.plt.standby.toList else [])
  if st = 0 then none
  else if held.any fun v => v.state.toNat == st && bytesAt v.arithSig 0 16 == slotField r.1 16 16 then none
  else some ⟨14, 54⟩

/-- A snapshot put into this node's state. -/
def State.restored (s : State) (x : Snapshot) : State :=
  let fresh0 := decide (s.intm.state = .frozen)
  let inKeys (l : Tab Nat) (k : Nat) : Bool := l.any fun b => b.1 == k / 64
  let counters := (s.prm.counters.filter fun e => !inKeys x.keys e.1) ++ x.counters
  let cells := (s.eru.cells.filter fun e => !inKeys x.cellKeys e.1) ++ x.cells
  let arrs := x.arrs.foldl (fun t e => tabInsert t e.1 e.2) (if fresh0 then [] else s.prm.arrs)
  let queues := x.queues.foldl (fun t e => tabSet [] t e.1 (e.2 ++ if fresh0 then (tabGet [] t e.1).filter fun q => !decide (32 ≤ e.1) && q.stamp.isNone
    else tabGet [] t e.1)) (if fresh0 then s.xfr.queues.map fun q => (q.1, q.2.filter fun y => !decide (32 ≤ q.1) && y.stamp.isNone) else s.xfr.queues)
  let s0 := s.setPrm { s.prm with counters := counters.foldl (fun t e => tabSet 0 t e.1 e.2) [], arrs := arrs }
  let look (q : Cue) : Cue :=
    { q with ready := if q.ready.isSome || cueReached q.desc (s0.ctr (dWaitCtr q.desc)) then some s0.prm.cycle else none }
  let s1 := (s0.setPrm { s0.prm with cues := x.cues.map fun e => (e.1, look e.2) }).nextCycle
  let s2 := s1.setEru { s1.eru with cells := cells.foldl (fun t e => tabSet ASlot.reset t e.1 e.2) [] }
  let s3 := s2.setCol { s2.col with ctxs := x.col.ctxs, queue := x.col.queue, waiting := x.col.waiting, outs := x.col.outs
                                    defers := x.col.defers, turn := x.col.turn }
  let s4 := (s3.setXfr { s3.xfr with queues := queues }).setUpd x.upd
  x.heads.foldl (fun t e => t.setFld (R.arr e.1 + 0x10) 0 16 e.2) s4

/-- Whether a snapshot's items fit (Table 13-9, check 6). -/
def State.restoreFits (s : State) (x : Snapshot) : Bool :=
  let t := s.restored x
  let clash := decide (s.intm.state ≠ .frozen) && x.arrs.any fun e => (tabFind s.prm.arrs e.1).isSome
  !clash && decide ((t.col.ctxs.map fun e => 1024 * e.2.reserved).sum ≤ t.storeSlots) && decide (t.promoted ≤ 131072) &&
    decide (t.upd.queue.length ≤ 64) && x.cellKeys.all fun b => decide (b.1 < t.cellBlocks)

/-- A context, cue or UPDATE is in use. -/
def State.hasWork (s : State) : Bool := !s.col.ctxs.isEmpty || !s.prm.cues.isEmpty || !s.upd.queue.isEmpty

/-- The bytes of the image at an address: check 2's LENGTH and place. -/
def State.imageAt (s : State) (addr : Nat) : Except Answer (List Byte) :=
  match s.farRange 0 addr 256 false with
  | .error a => .error a
  | .ok _ => match s.getBytes 0 addr 256 with
    | .error a => .error a
    | .ok h =>
      let len := slotField h 24 8
      if slotField h 0 4 ≠ 0x4D544E49 ∨ slotField h 4 2 ≠ 1 ∨ slotField h 6 2 ≠ s.nodeId ∨ len < 320 ∨ len % 64 ≠ 0 then .error ⟨11, 53⟩
      else match s.imageRange addr len false with
        | some a => .error a
        | none => s.getBytes 0 addr len

/-- What an image holds that another part wrote (R416), by its digest; none for bytes that no part wrote. Its context blocks and
progress fields are internal to Zildin (Table 13-7), and no record names its block, cue or channel: a free value (log entry 80). -/
opaque foreignImage : BitVec 384 → Option Snapshot

/-- What the image of a digest holds: one that this node wrote, or another part's. -/
def State.imageContents (s : State) (digest : BitVec 384) : Option Snapshot :=
  match s.intm.images.find? fun x => decide (x.digest = digest) with
  | some x => some x
  | none => foreignImage digest

/-- Checks 2 to 6 of Table 13-9 over an image's bytes: the snapshot, or the answer and whether the digest failed. -/
def State.checkImage (s : State) (b : List Byte) : Except (Answer × Bool) Snapshot :=
  let digest := BitVec.ofNat 384 (slotField b 48 48)
  match splitRecords (b.length / 64) (b.drop 256) with
  | none => .error (⟨11, 53⟩, false)
  | some rs =>
    if slotField b 16 4 ≠ rs.length + 1 then .error (⟨11, 53⟩, false)
    else if sha384 (b.take 48 ++ natBytes 0 48 ++ b.drop 96) ≠ digest then .error (⟨11, 53⟩, true)
    else match firstAnswer ((rs.zipIdx).map fun e => s.recordTag (slotField b 8 8) e.1 e.2) with
      | some a => .error (a, false)
      | none => match firstAnswer (rs.map s.recordState), s.imageContents digest with
        | some a, _ => .error (a, false)
        | none, none => .error (⟨11, 53⟩, false)
        | none, some x =>
          if (x.keys.any fun e => s.fld (R.ctrKey e.1) 0 16 != e.2) || (x.cellKeys.any fun e => s.fld (R.cellKey e.1) 0 16 != e.2) then
            .error (⟨9, 35⟩, false)
          else if ! s.restoreFits x then .error (⟨10, 57⟩, false)
          else .ok x

/-- Accept a RESUME: RESTORE until its resume time. It wakes the ERU (R40). -/
def State.startRestore (s : State) (i : Issue) : State :=
  (s.setIntm { s.intm with state := .restore, resume := some i, resumeAt := iTime i.desc, onChip := true }).wakeEru

/-- RESUME (R414). -/
def State.submitResume (s : State) (i : Issue) : State :=
  let image := (dMod i.desc).testBit 0
  let frozen0 := decide (s.intm.state = .frozen)
  let ok := (frozen0 && (image || s.intm.onChip)) || (image && decide (s.intm.state = .running) && !s.hasWork)
  if ! ok then s.complete i { okComp with status := 11, reason := 52 }
  else if ! image then s.startRestore i
  else match s.imageAt (dSrc i.desc) with
    | .error a => s.complete i a.comp
    | .ok b => match s.checkImage b with
      | .error (a, bad) => (if bad then s.raiseFault 61 0xFFFF 1 0 else s).complete i a.comp
      | .ok x => (s.restored x).startRestore i

/-- The timers of every saved item start again (R411). -/
def State.restartTimers (s : State) : State :=
  let now := s.now
  let w (l : List Waiting) : List Waiting := l.map fun x => { x with since := now }
  let ctxs := s.col.ctxs.map fun e => (e.1, { e.2 with
    passAt := now, recv := e.2.recv.map (fun r => { r with first := now, last := now })
    segs := e.2.segs.map fun g => (g.1, { g.2 with resetAt := g.2.resetAt.map fun _ => now }) })
  let s1 := s.setCol { s.col with ctxs := ctxs, queue := w s.col.queue, waiting := w s.col.waiting, outs := w s.col.outs }
  s1.setUpd { queue := s1.upd.queue.map fun u => { u with since := now } }

/-- RESUME_TIME (R415). -/
def execResumeTime (s : State) : Host.Outcome State Fault Refusal :=
  if ! s.running then .next s else
  if s.intm.state ≠ .restore ∨ s.now < s.intm.resumeAt then .next s
  else
    let lost := s.intm.lost
    let s1 := (s.setIntm { s.intm with state := .running, resume := none, onChip := false, lost := [] }).restartTimers
    let s2 := (s1.col.ctxs.map fun e => e.1).foldl (fun t k => match t.ctx k with
      | some c => if c.live then t.regrantCtx k c true else t
      | none => t) s1
    let s3 := lost.foldl (fun t n => t.ctxsLoseNode n) s2
    let s4 := s3.settleAll
    .next (match s.intm.resume with
      | some i => s4.complete i okComp
      | none => s4)

end Sys2Proof.Machine
end

