-- ==== Sys2Proof/Machine/Drain.lean ====
section
/-! DEFINITION. The drain deadline of a disabled function (R229, R319). -/

namespace Sys2Proof.Machine

/-- An operation, submitted at a time, is work of a disabled function that was in flight when that was disabled (R229).
Only work submitted by then (DEDUCED, log entry 109). -/
def drainHits (d : Drain) (from0 : Nat) (i : Issue) (time : Nat) : Bool :=
  decide (time ≤ from0) && match d with
  | .partition k => dPart i.desc == k.toNat
  | .group g => ((decide (0x20 ≤ dOp i.desc ∧ dOp i.desc ≤ 0x26)) || dOp i.desc == 0x30) && cGroup i.desc == g.val
  | .window w => decide (i.who = .window w)
  | .queue q => !dSeatQ i.desc && !dNoRecord i.desc && dQueue i.desc == q.val

/-- Start a drain; a disabled function that is disabled again keeps one deadline. -/
def State.drainAtDeadline (s : State) (d : Drain) : State :=
  s.setXfr { s.xfr with drains := (s.xfr.drains.filter fun e => decide (e.1 ≠ d)) ++ [(d, s.now, s.now + s.timer 2 * 1000)] }

/-- Abort a live context of a disabled function, with no message to a peer. -/
def State.drainCtx (s : State) (k : Nat) : State :=
  match s.ctx k with
  | some c => if c.live then s.abortCtx k c false else s
  | none => s

/-- Stop the descriptors that wait at issue, fired ones and those past step 7 (R228): each completes ABORTED. The flag says whether there
was one. -/
def State.stopWaiting (s : State) (hit : Issue → Nat → Bool) : Bool × State :=
  let stops (q : Queued) : Bool := hit q.issue (q.stamp.getD 0) && (q.issue.cue || q.stamp.isSome)
  let gone := (s.xfr.queues.flatMap fun e => e.2).filter stops
  let kept := (s.xfr.queues.map fun e => (e.1, e.2.filter fun q => ! stops q)).filter fun e => ! e.2.isEmpty
  let again (w : Nat) : Bool := (tabGet [] s.xfr.queues (w + 32)).head?.all fun q => ! stops q
  let s1 := (s.setXfr { s.xfr with queues := kept }).setPrm { s.prm with retries := s.prm.retries.filter fun r => again r.1 }
  (! gone.isEmpty, gone.foldl (fun t q => t.completeEarly q.issue { okComp with status := 5 }) s1)

/-- Stop what is left of a disabled function's work, as by ABORT; its armed cues end with it (R268). A COPY that this node forwards is
work of its partition (R215), and `relays` says whether those are stopped. -/
def State.stopWork (s : State) (hit : Issue → Nat → Bool) (relays : Bool) : State :=
  let ops := (s.xfr.ops.filter fun o => hit o.2.issue o.2.orig && (relays || o.2.relay.isNone)).map fun o => o.1
  let s1 := (ops.foldl (fun t k => t.stopOp k) s).stopWaiting hit |>.2
  let ctxs := (s1.col.ctxs.filter fun e => hit e.2.issue e.2.stamp).map fun e => e.1
  let s2 := ctxs.foldl (fun t k => t.drainCtx k) s1
  let hits (w : Waiting) : Bool := hit w.issue w.stamp
  let gone := (s2.col.queue ++ s2.col.waiting ++ s2.col.outs).filter hits
  let s3 := s2.setCol { s2.col with queue := s2.col.queue.filter fun w => !hits w, waiting := s2.col.waiting.filter fun w => !hits w
                                    outs := s2.col.outs.filter fun w => !hits w }
  let s4 := gone.foldl (fun t w => t.refuseJoin w.issue ⟨5, 0⟩) s3
  let s5 := (s4.upd.queue.filter fun u => hit u.issue u.stamp).foldl (fun t u => t.abortUpdate u) s4
  let s6 := (s5.commits.filter fun c => !c.slot && hit c.issue c.since).foldl (fun t c => t.failCommit c ⟨5, 0⟩) s5
  let s7 := (s6.verifies.filter fun c => hit c.issue c.since).foldl (fun t c => t.dropVerify c ⟨5, 0⟩) s6
  (s7.prm.cues.filter fun e => hit (e.2.issue e.1) e.2.since).foldl (fun t e => t.cancelCue e.1 e.2) s7

/-- DRAIN_DEADLINE (R229, R319). -/
def execDrainDeadline (d : Drain) (s : State) : Host.Outcome State Fault Refusal :=
  if ! s.running then .next s else
  match s.xfr.drains.find? fun e => decide (e.1 = d) with
  | none => .next s
  | some e =>
    if s.now < e.2.2 then .next s
    else
      let s1 := s.setXfr { s.xfr with drains := s.xfr.drains.filter fun x => decide (x.1 ≠ d) }
      let relays : Bool := match d with
        | .partition _ => true
        | _ => false
      .next (s1.stopWork (drainHits d e.2.1) relays).settleAll

end Sys2Proof.Machine
end

