-- ==== Sys2Proof/Machine/Engrave.lean ====
section
/-! DEFINITION. The engraving window and the step control (R59 to R67, R73, R75, R555): OPEN, the words, CLOSE, CANCEL,
ARM and DISARM. -/

namespace Sys2Proof.Machine

/-- Set PLT_ERROR (Table 03-13). DETAIL keeps the low 16 bits (DESIGN CHOICE, log entry 86). -/
def State.pltErr (s : State) (code detail : Nat) : State :=
  s.setReg R.pltError (pack 32 [(0, 5, code), (16, 16, detail)])

/-- Replace the Plate controller's state. -/
def State.setPlt (s : State) (p : Plt) : State := { s with plt := p }

/-- The controller after a load that failed (R64): both banks unchanged. -/
def Plt.failed (p : Plt) : Plt := { p with eng := .failed, owned := false, words := [] }

/-- The controller after a load, or a verified version, was discarded (R65, R66). -/
def Plt.discarded (p : Plt) : Plt := { p with eng := .idle, owned := false, words := [], standby := none, cancelledAt := none }

/-- The window owns the load. -/
def State.ownsLoad (s : State) (w : Nat) : Bool := s.plt.owned && s.plt.owner.toNat == w

/-- OPEN (R59, R60, R66, R72). The owner's own OPEN is refused too (DESIGN CHOICE, log entry 85). -/
def execOpenEng (w : Win) (s : State) : Host.Outcome State Fault Refusal :=
  if ! s.winFm w ∨ s.plt.owned then .next (s.pltErr 13 0)
  else if s.plt.armed ∨ s.plt.retiring.isSome then .next (s.pltErr 12 0)
  else
    .next ((s.setPlt { s.plt.discarded with eng := .loading, owned := true, owner := BitVec.ofNat 4 w
                                            count := 0 }).pltErr 0 0)

/-- PLT_ENG_LEN_WRITE (R63): only from the owner while LOADING; a value out of range ends the load. -/
def execPltEngLenWrite (w : Win) (value : Word) (s : State) : Host.Outcome State Fault Refusal :=
  if s.ownsLoad w ∧ s.plt.eng = .loading then
    if 96 ≤ value.toNat ∧ value.toNat ≤ 2097152 then .next (s.setReg R.pltEngLen value)
    else .next ((s.setPlt s.plt.failed).pltErr 3 s.plt.count)
  else .next s

/-- A word written to the engraving window at an offset (R61): appended, or ignored and recorded. -/
def State.engrave (s : State) (w off : Nat) (value : Word) : State :=
  if s.ownsLoad w ∧ s.plt.eng = .loading then
    s.setPlt { s.plt with words := value :: s.plt.words, count := s.plt.count + 1 }
  else s.violation w 2 true off

/-- ENGRAVE_WORD (R61). -/
def execEngraveWord (w : Win) (value : Word) (s : State) : Host.Outcome State Fault Refusal :=
  .next (s.engrave w R.pltEngData value)

/-- CLOSE (R62, R555). -/
def execCloseEng (w : Win) (s : State) : Host.Outcome State Fault Refusal :=
  if ! s.ownsLoad w then .next (s.violation w 2 true R.pltEngCtl)
  else if s.plt.eng = .loading then .next (s.setPlt { s.plt with eng := .verifying })
  else .next s

/-- The controller after a CANCEL stopped its load (R65). Of a verification the words stay until the cycle ends: should it end in the
same cycle, its end wins. -/
def Plt.stopped (p : Plt) (at0 : Nat) : Plt :=
  if p.eng = .verifying then { p with eng := .idle, owned := false, cancelledAt := some at0 }
  else { p with eng := .idle, owned := false, words := [] }

/-- The verification ended in this cycle (R65). -/
def State.verifiedNow (s : State) : Bool := s.plt.cancelledAt == some s.clk.count && decide (s.plt.eng = .ready ∨ s.plt.eng = .failed)

/-- CANCEL (R65, R66, R555). -/
def execCancel (w : Win) (s : State) : Host.Outcome State Fault Refusal :=
  match s.plt.eng with
  | .idle => .next s
  | .loading | .verifying =>
    if s.ownsLoad w then .next (s.setPlt (s.plt.stopped s.clk.count))
    else .next (s.violation w 2 true R.pltEngCtl)
  | .ready | .failed =>
    if ! s.winFm w then .next (s.violation w 2 true R.pltEngCtl)
    else if s.verifiedNow then .next s
    else if s.plt.armed then .next (s.pltErr 12 0)
    else .next (s.setPlt s.plt.discarded)

/-- The standby bank holds a READY step. -/
def State.stepReady (s : State) : Bool :=
  decide (s.plt.eng = .ready) && (s.plt.standby.any fun v => ! v.full)

/-- ARM (R73, R555): BANK_PINNED, NOT_READY, LATE in that order. -/
def execArm (a : Source) (s : State) : Host.Outcome State Fault Refusal :=
  if ! s.srcFm a then .next (s.violation a 2 true R.pltStepCtl)
  else if s.plt.armed then .next (s.pltErr 12 0)
  else if ! s.stepReady then .next (s.pltErr 17 0)
  else if s.reg64 R.pltStepTime < s.now + 100000 then .next (s.pltErr 15 0)
  else .next ((s.setPlt { s.plt with armed := true, flipTime := s.reg64 R.pltStepTime }).pltErr 0 0)

/-- DISARM (R73, R75, R555): before the flip time it clears ARMED; in the flip's cycle, before or behind it, the flip wins. -/
def execDisarm (a : Source) (s : State) : Host.Outcome State Fault Refusal :=
  if ! s.srcFm a then .next (s.violation a 2 true R.pltStepCtl)
  else if ! s.plt.armed then .next (if s.plt.flippedAt = some s.clk.count then s.pltErr 15 0 else s)
  else if s.plt.flipTime ≤ s.now then .next (s.pltErr 15 0)
  else .next ((s.setPlt { s.plt with armed := false }).pltErr 0 0)

end Sys2Proof.Machine
end

