-- ==== Sys2Proof/Machine/Records.lean ====
section
/-! DEFINITION. Digests of regions, signed result records and their verification (R446 to R448). -/

namespace Sys2Proof.Machine

/-- DIGEST REGION (R446). -/
def State.submitDigest (s : State) (i : Issue) : State :=
  let d := i.desc
  match s.getBytes (dPart d) (dSrc d) (dLen d) with
  | .error a => s.complete i a.comp
  | .ok b =>
    let h := sha384 b
    match (s.tellReads (dPart d) (dSrc d) (dLen d)).putBytes (dPart d) (dDst d) (toBytes h 48) with
    | .error a => s.complete i a.comp
    | .ok s1 => s1.complete i { okComp with bytes := dLen d, value := h.toNat % 2 ^ 64 }

/-- The plaintext of a range that lies in a region not yet verified (R447): every check of a read but that one. -/
def State.unverifiedBytes (s : State) (v : PlateV) (g : Region) (n : Nat) : Except Answer (List Byte) :=
  match s.regionAnswer g false with
  | some ⟨9, 61⟩ | none =>
    if s.rangePoisoned v g 0 n then .error ⟨8, 31⟩
    else if s.channelFailed v g (linesOf 0 n) then .error ⟨8, 32⟩
    else .ok (s.readBytes v g 0 n)
  | some a => .error a

/-- A key has members, so that it has a K_rec (R431, R436). -/
def State.hasRecKey (s : State) (k : Nat) : Bool :=
  match s.plt.active with
  | some v => v.mode k != 0 && (s.slotOf k).isSome
  | none => false

/-- The record's MAC is this partition's, and its PKEY and MAGIC are right. -/
def State.recordMine (s : State) (part : Nat) (b : List Byte) : Bool :=
  s.hasRecKey part && ofBytes ((b.drop 12).take 2) == part &&
    hmac384 (s.recKey part) (b.take 832) == BitVec.ofNat 384 (ofBytes ((b.drop 832).take 48))

/-- The region that claim `c` of a record names whole, in this partition (R447). -/
def State.claimRegion (s : State) (part c : Nat) (b : List Byte) : Option (PlateV × Region) :=
  let f (k n : Nat) : Nat := ofBytes ((b.drop (320 + 64 * c + k)).take n)
  match s.regionVersion (f 0 2) with
  | none => none
  | some (v, g) => if g.pkey = part ∧ f 4 5 = 0 ∧ f 9 5 = g.size * extentBytes ∧ c < 8 then some (v, g) else none

/-- DIGEST VERIFY (R447): the record's checks, then the region's lines are read. -/
def State.submitVerify (s : State) (i : Issue) : State :=
  let d := i.desc
  let p := dPart d
  let c := dArg d 0 1
  match s.getBytes 0 (dSrc d) 1024 with
  | .error a => s.complete i a.comp
  | .ok b =>
    if ! s.recordMine p b then s.complete i { okComp with status := 9, reason := 62 }
    else match s.claimRegion p c b with
      | none => s.complete i { okComp with status := 9, reason := 62 }
      | some (v, g) =>
        match s.unverifiedBytes v g (g.size * extentBytes) with
        | .error a => s.complete i a.comp
        | .ok _ =>
          let s1 := (s.tellReads 0 (dSrc d) 1024).queueReads v g 0 (g.size * extentBytes) none
          { s1 with verifies := s1.verifies ++ [{ issue := i, region := g.num, since := s1.now, dirty := false }] }

/-- A VERIFY whose region has been read ends (R445, R447). -/
def State.endVerify (s : State) (x : Verify) : State :=
  let d := x.issue.desc
  let p := dPart d
  let c := dArg d 0 1
  let s0 : State := { s with verifies := s.verifies.filter fun y => decide (y ≠ x) }
  if x.dirty then s0.complete x.issue { okComp with status := 9, reason := 61 }
  else match s0.getBytes 0 (dSrc d) 1024 with
  | .error a => s0.complete x.issue a.comp
  | .ok b => match s0.claimRegion p c b with
    | none => s0.complete x.issue { okComp with status := 9, reason := 62 }
    | some (v, g) => match s0.unverifiedBytes v g (g.size * extentBytes) with
      | .error a => s0.complete x.issue a.comp
      | .ok m =>
        if ! s0.recordMine p b then s0.complete x.issue { okComp with status := 9, reason := 62 }
        else if sha384 m ≠ BitVec.ofNat 384 (ofBytes ((b.drop (336 + 64 * c)).take 48)) then
          s0.complete x.issue { okComp with status := 9, reason := 63 }
        else
          let s1 : State := { s0 with mem := { s0.mem with unverified := s0.mem.unverified.filter fun r => r != g.num } }
          let s2 := match s1.slotOf p with
            | some (k, y) => s1.setSlot k { y with restored := sha384 b }
            | none => s1
          s2.complete x.issue okComp

/-- Every VERIFY under way at a running node ends with the cycle, whatever reached its region before (log entry 81). -/
def State.endVerifies (s : State) : State := if s.running then s.verifies.foldl State.endVerify s else s

/-! ## SEAL_RECORD (Table 14-14) -/

/-- The entries of a claim list; none where it is malformed. -/
def claimList (b : List Byte) (n : Nat) : Option (List (Nat × Nat)) :=
  let f (k o m : Nat) : Nat := ofBytes ((b.drop (16 * k + o)).take m)
  let ok := (List.range n).all fun k => f k 13 3 == 0 && !seatMem (f k 0 8) && !badAddress (f k 0 8)
  if ok then some ((List.range n).map fun k => (f k 0 8, f k 8 5)) else none

/-- The claims' bytes of a record, or why a claim is refused. -/
def State.claims (s : State) (part : Nat) : List (Nat × Nat) → Except Answer (List Byte)
  | [] => .ok []
  | (a, n) :: t =>
    let look := match s.rangeAnswer part a n false with
      | some e => Except.error e
      | none => if (s.regionVersion (regionOf a)).isNone then .error ⟨9, 17⟩ else s.getBytes part a n
    match look, s.claims part t with
    | .error e, _ => .error e
    | .ok _, .error e => .error e
    | .ok b, .ok r =>
      .ok (natBytes (regionOf a) 2 ++ natBytes 0 2 ++ natBytes (offsetOf a) 5 ++ natBytes n 5 ++ natBytes 0 2 ++ toBytes (sha384 b) 48 ++ r)

/-- SEQ, PREV and RESTORED of a partition's next record. -/
def State.chainOf (s : State) (part : Nat) : Nat × BitVec 384 × BitVec 384 :=
  match s.slotOf part with
  | some (_, x) => (x.recSeq, x.recPrev, x.restored)
  | none => (s.sec.zeroSeq, s.sec.zeroPrev, 0)

/-- Advance a partition's chain, and put the record into the ring of 64. -/
def State.keepRecord (s : State) (part : Nat) (r : BitVec 8192) (h : BitVec 384) : State :=
  let s1 := match s.slotOf part with
    | some (k, x) => s.setSlot k { x with recSeq := x.recSeq + 1, recPrev := h }
    | none => s.setSec { s.sec with zeroSeq := s.sec.zeroSeq + 1, zeroPrev := h }
  (s1.setSec { s1.sec with records := (r :: s1.sec.records).take 64 }).bump (R.secCount 3)

/-- Bytes 0 to 831 of a record. -/
def State.recordBody (s : State) (d : Line) (v : PlateV) (n : Nat) (digest : BitVec 384) (claims : List Byte) : List Byte :=
  let p := dPart d
  let chain := s.chainOf p
  natBytes 0x4345525A 4 ++ natBytes 1 2 ++ natBytes s.nodeId 2 ++ toBytes (s.reg R.kprId) 4 ++ natBytes p 2 ++ natBytes n 1 ++
    natBytes 0 1 ++ natBytes chain.1 8 ++ natBytes s.now 8 ++ toBytes v.state 4 ++ natBytes (dArg d 0 4) 4 ++ natBytes (dArg d 4 8) 8 ++
    toBytes v.proof 48 ++ toBytes v.arithSig 48 ++ toBytes digest 48 ++ toBytes chain.2.1 48 ++ toBytes chain.2.2 48 ++
    natBytes 0 32 ++ claims ++ List.replicate (512 - claims.length) 0#8

/-- SEAL_RECORD (R448). A partition without members has no K_rec, and key 0x0000 has no partition entry: the MAC, and its PART_DIGEST,
are then values the spec does not state. -/
def State.submitRecord (s : State) (i : Issue) : State :=
  let d := i.desc
  let p := dPart d
  let n := dLen d / 16
  if dLen d % 16 ≠ 0 ∨ 8 < n then s.complete i { okComp with status := 11, reason := 62 }
  else match s.getBytes p (dSrc d) (dLen d) with
    | .error a => s.complete i a.comp
    | .ok b =>
      match claimList b n, s.plt.active with
      | some l, some v =>
        match s.claims p l, s.rangeAnswer p (dDst d) 1024 true with
        | .error a, _ => s.complete i a.comp
        | .ok _, some a => s.complete i a.comp
        | .ok cs, none =>
          let fresh0 := BitVec.ofNat 384 (s.freshVal 384)
          let s1 := if p = 0 then s.tookFree else s
          let body := s1.recordBody d v n (if p = 0 then fresh0 else v.partDigest p) cs
          let mac := if s1.hasRecKey p then hmac384 (s1.recKey p) body else BitVec.ofNat 384 (s1.freshVal 384)
          let s2 := if s1.hasRecKey p then s1 else s1.tookFree
          let sig := s2.aliasSign (body ++ toBytes mac 48)
          let bytes := body ++ toBytes mac 48 ++ sig.1 ++ natBytes 0 48
          let h := sha384 bytes
          let told := l.foldl (fun t e => t.tellReads p e.1 e.2) (sig.2.tellReads p (dSrc d) (dLen d))
          match told.putBytes p (dDst d) bytes with
          | .error a => s.complete i a.comp
          | .ok s3 =>
            (s3.keepRecord p (BitVec.ofNat 8192 (ofBytes bytes)) h).complete i { okComp with bytes := 1024, value := h.toNat % 2 ^ 64 }
      | _, _ => s.complete i { okComp with status := 11, reason := 62 }

end Sys2Proof.Machine
end

