-- ==== Sys2Proof/Machine/IssueSteps.lean ====
section
/-! DEFINITION. Steps 1 to 7 of Table 07-5 for every opcode, with what the chapters of the collectives, cues, updates and records refuse at
issue (R201, R230, R260, R263, R275, R285 to R290, R344, R351, R366, R405, R446). -/

namespace Sys2Proof.Machine

/-! ## What a descriptor names -/

/-- An opcode that moves data by chunks, and an atomic. -/
def movesData (d : Line) : Bool := decide (0x01 ≤ dOp d ∧ dOp d ≤ 0x05)
def isAtomic (d : Line) : Bool := decide (0x10 ≤ dOp d ∧ dOp d ≤ 0x14)

/-- A MEMBER descriptor of a collective: RED_OUT, UPDATE and the sweep have no ROLE. -/
def isMember (d : Line) : Bool := decide (0x20 ≤ dOp d ∧ dOp d ≤ 0x26 ∧ dOp d ≠ 0x21) && ! cOpen d

/-- KIND of a CUE_ARM (Table 09-2). -/
def armKind (d : Line) : Nat := dMod d % 4

/-- ARGS of a CUE_ARM of KIND ARRIVAL or DISARM (Table 09-2). -/
def armEp (d : Line) : Nat := dArg d 0 2
def armChan (d : Line) : Nat := dArg d 2 1
def armLog2 (d : Line) : Nat := dArg d 3 1
def armCounter (d : Line) : Nat := dArg d 4 2
def armCounts (d : Line) : Bool := dArg d 6 1 % 2 == 1

/-- The addresses that a descriptor gives (Tables 07-4, 09-2, 10-3, 12-2, 13-4, 16-6). -/
def usedAddrs (d : Line) : List Nat :=
  match dOp d with
  | 0x01 | 0x02 | 0x03 | 0x04 | 0x51 => [dSrc d, dDst d]
  | 0x05 | 0x10 | 0x11 | 0x12 | 0x13 | 0x14 | 0x21 => [dDst d]
  | 0x20 => if cOpen d then [] else [dSrc d]
  | 0x22 | 0x25 => if cOpen d then [] else [dSrc d, dDst d]
  | 0x23 => if cOpen d then [] else [dSrc d, dDst d, cTable d]
  | 0x26 => [dDst d]
  | 0x30 => [dSrc d]
  | 0x41 => if armKind d = 0 then [dSrc d] else []
  | 0x50 => if dMod d = 1 then [dDst d] else if dMod d = 2 then [dSrc d, dDst d] else [dSrc d]
  | 0x60 => if iSave d then [dDst d] else []
  | 0x61 => if dMod d % 2 = 1 then [dSrc d] else []
  | 0x62 => [dSrc d, dDst d, mBlock d]
  | _ => []

/-! ## Step 1 -/

/-- Step 1: the opcode, and the ROLE and the DIGEST modifier that belong to it (R286, R446). -/
def State.opStep (s : State) (i : Issue) : Option Answer :=
  let d := i.desc
  let seat : Bool := match i.who with
    | .seat _ => true
    | .window _ => false
  let opened := seat && decide (0x20 ≤ dOp d ∧ dOp d ≤ 0x26 ∧ dOp d ≠ 0x21) && cOpen d
  let digest := decide (dOp d = 0x50) && ! decide (1 ≤ dMod d ∧ dMod d ≤ 3)
  if ! s.mayIssue i.who (dOp d) || opened || digest then some ⟨11, 20⟩ else none

/-! ## Step 3 -/

/-- A CUE_ADD of this node whose counter belongs to another key (R260). -/
def State.counterStep (s : State) (d : Line) : Option Answer :=
  if dOp d = 0x40 ∧ dRank d = 0xFFFF ∧ s.ctrDenied (dArg d 0 2) (dPart d) then some ⟨9, 35⟩ else none

/-! ## Step 4 -/

/-- The version, active or retiring, that has a descriptor's group under its key. -/
def State.groupHere (s : State) (d : Line) : Option PlateV :=
  (s.plt.active.toList ++ s.plt.retiring.toList).find? fun v => (v.group (cGroup d)).any fun g => g.pkey == dPart d

/-- A member that may submit its opcode (R285). -/
def Shape.maySubmit (h : Shape) (ep : Nat) (op : Nat) : Bool :=
  match h.indexOf ep with
  | none => false
  | some m => (h.member m).any fun x => x.contributes || op == 0x23 || op == 0x25

/-- GROUP in place of RANK: the group exists under the key; an OPEN, a consumer and a sweep stand at a context node, and a MEMBER
descriptor speaks for a member (R284 to R286, R366, R80). -/
def State.groupStep (s : State) (i : Issue) : Option Answer :=
  let d := i.desc
  match s.groupHere d with
  | none => some ⟨9, 16⟩
  | some v =>
    let h := s.shapeIn (some v) (cGroup d)
    if isMember d then if h.maySubmit (s.memberEp i.who) (dOp d) then none else some ⟨9, 39⟩
    else if ! (nodesOf h.members).contains s.nodeId ∨ (dOp d = 0x50 ∧ dPart d ≠ 0) then some ⟨9, 16⟩
    else none

/-- The refusals of a CUE_ARM of KIND ARRIVAL or DISARM that R275 names before its ring. A channel of another key is not disarmed. -/
def State.arrivalStep (s : State) (d : Line) : Option Answer :=
  let armed := tabFind s.prm.arrs (armChan d)
  if armKind d = 1 then
    let group : Bool := match s.plt.active with
      | some v => (v.group (cGroup d)).any fun g => g.pkey == dPart d
      | none => false
    let ep := armEp d
    let here := decide (ep = s.nodeId) || decide (0x4000 ≤ ep ∧ epNode ep = s.nodeId)
    if armed.isSome ∨ 64 ≤ armChan d then some ⟨9, 38⟩
    else if ! group ∨ ! here then some ⟨9, 16⟩
    else if armCounts d ∧ s.ctrDenied (armCounter d) (dPart d) then some ⟨9, 35⟩
    else none
  else if armKind d = 2 ∧ (64 ≤ armChan d ∨ armed.any fun a => a.pkey != dPart d) then some ⟨9, 38⟩
  else none

/-- Step 4 (R205, R272). -/
def State.rankStep (s : State) (i : Issue) : Option Answer :=
  let d := i.desc
  let ep (r : Nat) : Option Nat := s.rankEp (dPart d) r
  if usesGroup d then s.groupStep i
  else if dOp d = 0x41 then s.arrivalStep d
  else if movesData d ∨ isAtomic d ∨ dOp d = 0x38 ∨ dOp d = 0x40 then
    if (ep (dRank d)).isNone ∨ (dOp d = 0x04 ∧ (ep (dArg d 0 2)).isNone) then some ⟨9, 16⟩
    else if dOp d = 0x40 ∧ (ep (dRank d)).any fun e => decide (0x4000 ≤ e) then some ⟨9, 16⟩
    else none
  else none

/-! ## Step 5 -/

/-- Step 5, with the shorter limit of a seat's transfer in a SEALED partition (R442). The limit is that of the relayed transfers. -/
def State.seatMemStep (s : State) (i : Issue) : Option Answer :=
  let d := i.desc
  let any0 := (usedAddrs d).any seatMem
  match i.who with
  | .window _ => if any0 then some ⟨11, 28⟩ else none
  | .seat _ =>
    if any0 ∧ movesData d ∧ (262144 < dLen d ∨ (258048 < dLen d ∧ s.sealedKey (dPart d))) then some ⟨11, 30⟩ else none

/-! ## Step 6 -/

/-- A range of this node for a key: its region and its bounds alone (R206), by the version that `regionFor` would use. -/
def State.localAnswer (s : State) (part addr n : Nat) : Option Answer :=
  let look (v : PlateV) : Option Answer := match v.findRegion part addr n with
    | .error a => some a
    | .ok _ => none
  match s.plt.active, s.plt.retiring with
  | none, _ => some ⟨9, 17⟩
  | some v, none => look v
  | some v, some r => if (v.region (regionOf addr)).isSome then look v else look r

/-- A control structure's range: in the partition or in partition 0x0000 (R364). -/
def State.controlRange (s : State) (part addr n : Nat) : Option Answer :=
  match s.localAnswer part addr n with
  | some ⟨9, 17⟩ => s.localAnswer 0 addr n
  | r => r

/-- The local ranges of a descriptor of this node's own memory, its target's too where that is this node (step 6). A seat's RED_IN reads
none (R293). -/
def State.localRanges (s : State) (i : Issue) : List (Nat × Nat) :=
  let d := i.desc
  let h := s.shapeIn (s.groupHere d) (cGroup d)
  let me := (h.indexOf (s.memberEp i.who)).getD 0
  let takes : Bool := (h.member me).any fun x => ! x.noRecv
  let local0 (rank addr n : Nat) : List (Nat × Nat) :=
    if ((s.rankEp (dPart d) rank).map epNode) = some s.nodeId then [(addr, n)] else []
  let all : List (Nat × Nat) := match dOp d with
    | 0x01 => (dDst d, dLen d) :: local0 (dRank d) (dSrc d) (dLen d)
    | 0x02 | 0x03 => (dSrc d, dLen d) :: local0 (dRank d) (dDst d) (dLen d)
    | 0x04 => local0 (dRank d) (dSrc d) (dLen d) ++ local0 (dArg d 0 2) (dDst d) (dLen d)
    | 0x05 => local0 (dRank d) (dDst d) (dLen d)
    | 0x10 | 0x11 | 0x12 | 0x14 => local0 (dRank d) (dDst d) (atomWidth d)
    | 0x20 =>
      match i.who with
      | .window _ => if cOpen d then [] else [(dSrc d, dLen d)]
      | .seat _ => []
    | 0x21 => [(dDst d, 0)]
    | 0x22 =>
      if cOpen d then [] else (dSrc d, dLen d) :: if takes then [(dDst d, (h.contributing.getLast?.getD 0 + 1) * dLen d)] else []
    | 0x25 =>
      if cOpen d then [] else (if cRoot d = me then [(dSrc d, dLen d)] else []) ++ if takes then [(dDst d, dLen d)] else []
    | 0x23 => if cOpen d ∨ ! takes then [] else [(dDst d, dLen d)]
    | 0x26 => [(dDst d, if dFormat d = 0x1F then 192 else 64)]
    | _ => []
  all.filter fun r => ! seatMem r.1

/-- The element formats of Table 11-1. -/
def elementFormat (f : Nat) : Bool := [1, 2, 3, 4, 5, 8, 9, 10, 11, 12, 13, 0x10, 0x11, 0x1F].contains f

/-- A RED_OUT's ROUND names a mode that the ARITH section does not permit (R344). -/
def State.roundBad (s : State) (d : Line) : Bool :=
  match s.plt.active with
  | some v => decide (dMod d % 4 ≠ 0) && ! bit (v.word 5 1) (dMod d % 4 - 1)
  | none => false

/-- The format and the shape of a collective descriptor (R285, R288, R309, R313, R344, R351). -/
def State.shapeStep (s : State) (i : Issue) : Option Answer :=
  let d := i.desc
  match dOp d with
  | 0x20 =>
    if ! elementFormat (dFormat d) then some ⟨11, 44⟩
    else if cElems d = 0 ∨ (isMember d ∧ dLen d ≠ reductionBytes (dFormat d) (cElems d)) then some ⟨11, 41⟩
    else none
  | 0x21 => if ! elementFormat (dFormat d) then some ⟨11, 44⟩ else if s.roundBad d then some ⟨11, 47⟩ else none
  | 0x22 => if 0x10000000 < dLen d then some ⟨11, 41⟩ else none
  | 0x23 => if cItem d = 0 ∨ 4096 < cItem d then some ⟨11, 41⟩ else none
  | 0x25 =>
    if ((s.shapeIn (s.groupHere d) (cGroup d)).member (cRoot d)).any (fun x => x.contributes) then none else some ⟨9, 39⟩
  | 0x26 => if dFormat d = 0x01 ∨ dFormat d = 0x1F then none else some ⟨11, 44⟩
  | _ => none

/-- The ring of a CUE_ARM of KIND ARRIVAL for this node (R275): 32-byte aligned, 2^LOG2 entries, in a region of this node. -/
def State.arrRingStep (s : State) (d : Line) : Option Answer :=
  if dOp d = 0x41 ∧ armKind d = 1 ∧ armEp d = s.nodeId then
    if badAddress (dDst d) then some ⟨11, 67⟩
    else if seatMem (dDst d) ∨ dDst d % 32 ≠ 0 ∨ armLog2 d < 6 ∨ 16 < armLog2 d then some ⟨9, 17⟩
    else s.localAnswer (dPart d) (dDst d) (32 * 2 ^ armLog2 d)
  else none

/-- Step 6, in its order: malformed addresses, formats, alignment, and local regions. -/
def State.addressStep (s : State) (i : Issue) : Option Answer :=
  let d := i.desc
  if (usedAddrs d).any badAddress then some ⟨11, 67⟩
  else if dOp d = 0x14 ∧ ! faddFormat (dFormat d) then some ⟨11, 44⟩
  else if isAtomic d ∧ dOp d ≠ 0x13 ∧ dDst d % atomWidth d ≠ 0 then some ⟨11, 19⟩
  else if dOp d = 0x05 ∧ s.sealedKey (dPart d) then some ⟨9, 59⟩
  else if dOp d = 0x41 ∧ armKind d = 3 then some ⟨11, 37⟩
  else
    let list := if dOp d = 0x41 ∧ armKind d = 0 then s.controlRange (dPart d) (dSrc d) (dLen d) else none
    firstAnswer ([s.shapeStep i, list, s.arrRingStep d] ++ (s.localRanges i).map fun r => s.localAnswer (dPart d) r.1 r.2)

/-! ## Step 7 and the steps together -/

/-- Step 7 for a descriptor, with a group that a step removed (R319). -/
def State.disabledStep (s : State) (d : Line) : Option Answer :=
  let gone : Bool := usesGroup d && match s.plt.active with
    | some v => ! (v.group (cGroup d)).any fun g => g.pkey == dPart d
    | none => true
  match s.drainStep d with
  | some a => some a
  | none => if gone then some ⟨9, 27⟩ else none

/-- Step 2's refusal: PROTOCOL, reason CQ, which no other step gives. -/
def cqRefusal : Answer := ⟨11, 68⟩

/-- The first refusal of steps 1 to 7. -/
def State.preCheck (s : State) (i : Issue) : Option Answer :=
  let d := i.desc
  firstAnswer [s.opStep i, if s.queueRefused i.who d then some cqRefusal else none, s.keyStep i.who d, s.counterStep d, s.rankStep i,
    s.seatMemStep i, s.addressStep i, s.disabledStep d]

end Sys2Proof.Machine
end

