-- ==== Sys2Proof/Machine/Script.lean ====
section
/-! DEFINITION. The Script journal's ring and registers (R52, R417 to R419): enabling, the drain into the ring, and runs of host data. -/

namespace Sys2Proof.Machine

/-- The ring lies whole in a far-tier region of partition 0x0000, at an aligned base (R417). -/
def State.scriptRingOk (s : State) (base size : Nat) : Bool :=
  base % 64 == 0 && match s.farRange 0 base size true with
    | .ok _ => true
    | .error _ => false

/-- Free bytes of the ring. -/
def State.ringRoom (s : State) : Nat := s.scriptSize - (s.reg64 R.scriptTail + 2 ^ 40 - s.reg64 R.scriptHead % 2 ^ 40) % 2 ^ 40

/-- Write the entries that the ring has room for; `fuel` bounds them. -/
def State.drainRing : Nat → State → State
  | 0, s => s
  | f + 1, s =>
    match s.script.buffer with
    | [] => s
    | e :: t =>
      if s.ringRoom < e.length then s
      else
        let tail := s.reg64 R.scriptTail
        let s1 := s.writeAt (s.reg64 R.scriptBase + tail % s.scriptSize) e
        State.drainRing f ((s1.setScript { s1.script with buffer := t }).setReg64 R.scriptTail ((tail + e.length) % 2 ^ 40))

/-- Drain the journal's buffer into its ring while the node runs (R52). -/
def State.drainScript (s : State) : State := if s.scriptOn ∧ (s.running ∨ s.kpr.power = .sleeping) then State.drainRing s.script.buffer.length s else s

/-- One cycle without a command: the stage clock counts, the records of a millisecond that ends are raised (R186),
the journal drains, what works is noted (R40), the cycles of the Prompter (R261) and the ERU (R352, R355) end, and with
them a VERIFY (R447) and a COMMIT whose slot is in place (R494). Log entry 1 (DESIGN CHOICE). -/
def State.idle (s : State) : State := s.tick.flushRaised.drainScript.noteBusy.nextCycle.eruCycle.endVerifies.endCommits

/-- A write of CLK_SCRIPT_CFG (R417, R421): SCRIPT_ON precedes everything, and a ring that lies nowhere is refused. -/
def State.scriptCfgSet (s : State) (a : Nat) (value : Word) : State :=
  let off := R.scriptCfg
  let on := bit value 0
  let log := bits value 8 6
  let log1 := if s.scriptOn then s.fld off 8 6 else log
  let inRange := decide (20 ≤ log1) && decide (log1 ≤ 40)
  let set (t : State) : State := (((t.setFld off 0 1 (b2n on)).setFld off 1 1 (bits value 1 1)).setFld off 2 1 (bits value 2 1)).setFld off 8 6 log1
  if on ∧ ! s.scriptOn then
    if ! inRange || ! s.scriptRingOk (s.reg64 R.scriptBase) (2 ^ log1) then s.violation a 6 true off
    else ((set s).journal 8 32 (natBytes s.script.lastOff 8 ++ natBytes 0 8)).journalReg a off value
  else if s.scriptOn ∧ ! on then set (s.setScript { s.script with lastOff := s.now })
  else if ! s.scriptOn && ! inRange then s
  else set s

/-- A write of CLK_SCRIPT_CFG by a source: a fabric manager's register, journalled. -/
def State.scriptCfgWrite (s : State) (a : Nat) (value : Word) : State := s.fmRw a R.scriptCfg value fun t => t.scriptCfgSet a value

/-- SCRIPT_ENABLE (R417): a write with ENABLE = 1. -/
def execScriptEnable (a : Source) (value : Word) (s : State) : Host.Outcome State Fault Refusal :=
  .next (if bit value 0 then s.scriptCfgWrite a value else s)

/-! ## Host data (Table 13-12) -/

/-- Close the run of mapped writes: its HOST_DATA entry. -/
def State.closeRun (s : State) : State :=
  match s.script.run with
  | none => s
  | some r =>
    let b := r.bytes.map fun e => e.2
    let s1 := s.setScript { s.script with run := none }
    if s1.scriptHost then
      s1.journal 6 r.win (natBytes r.region 2 ++ natBytes r.off 5 ++ natBytes 0 1 ++ natBytes b.length 4 ++ natBytes 0 4 ++
        natBytes (crc64 b) 8 ++ natBytes 0 8)
    else s1

/-- Add a mapped write to the run: a write to another 4 KiB page, or from another window, or 1 µs after the last one,
closes the old one first. -/
def State.addRun (s : State) (w region off : Nat) (d : List Byte) : State :=
  let same := match s.script.run with
    | some r => r.win == w && r.region == region && r.off / 4096 == off / 4096 && decide (s.now < r.last + 1000)
    | none => false
  let s1 := if same then s else s.closeRun
  let put (t : Tab Byte) : Tab Byte := (d.zipIdx).foldl (fun u e => tabInsert u (off + e.2) e.1) t
  match s1.script.run with
  | some r => s1.setScript { s1.script with run := some { r with off := min r.off off, bytes := put r.bytes, last := s.now } }
  | none => s1.setScript { s1.script with run := some { win := w, region := region, off := off, bytes := put [], last := s.now } }

/-- HOST_DATA_CLOSE (R417): 1 µs after the run's last write. -/
def execHostDataClose (s : State) : Host.Outcome State Fault Refusal :=
  match s.script.run with
  | some r => .next (if r.last + 1000 ≤ s.now then s.closeRun else s)
  | none => .next s

end Sys2Proof.Machine
end

