-- ==== Sys2Proof/Machine/Issue.lean ====
section
/-! DEFINITION. Issue (R196 to R205): the queues of the submitters, the waits and refusals of steps 8 to 12, what each opcode starts,
ABORT (R228, R268, R318, R387, R408), cues (R262 to R269) and arrival channels (R275). -/

namespace Sys2Proof.Machine

/-! ## Queues -/

/-- A submitter's queue: its ring or DESC stream, or its cue queue (R265). -/
def queueOf (who : Submitter) (cue : Bool) : Nat := whoIdx who + (if cue then 32 else 0)

def State.waitingAt (s : State) (k : Nat) : List Queued := tabGet [] s.xfr.queues k
def State.setWaitingAt (s : State) (k : Nat) (l : List Queued) : State := s.setXfr { s.xfr with queues := tabSet [] s.xfr.queues k l }

/-- A descriptor as it enters a queue. -/
def queuedBlank (i : Issue) : Queued := { issue := i, stamp := none, ep := 0, dest := 0 }

/-- Put an issue at the end of its queue. -/
def State.enqueue (s : State) (i : Issue) : State := s.setWaitingAt (queueOf i.who i.cue) (s.waitingAt (queueOf i.who i.cue) ++ [(queuedBlank i)])

/-- Drop the head of a queue. -/
def State.dropHead (s : State) (k : Nat) : State := s.setWaitingAt k (s.waitingAt k).tail

/-! ## Step 1 to step 7 -/

/-- From T on a descriptor may pass step 1 only where R409 excepts it. -/
def State.waitsFreeze (s : State) (i : Issue) : Bool :=
  let d := i.desc
  let fm : Bool := match i.who with
    | .window w => s.winFm w
    | .seat _ => false
  let excepted := [0x60, 0x61, 0x3A, 0x50, 0x62].contains (dOp d) || (dPart d == 0 && [0x01, 0x02, 0x04, 0x05].contains (dOp d))
  ! s.mayGrant && ! (fm && excepted)

/-- The journal's entry of a descriptor that passes step 1 (Table 13-12). -/
def State.journalDesc (s : State) (i : Issue) : State :=
  if i.cue then s
  else match i.who with
    | .window w => s.journal 1 w (toBytes i.desc 64)
    | .seat k => s.journal 2 (16 + k) (toBytes i.tag 2 ++ natBytes 0 14 ++ toBytes i.desc 64)

/-- The record of a refusal: a CUE_ARM of KIND CUES refused before its list names no descriptor (R263). -/
def refusalComp (i : Issue) (a : Answer) : Comp :=
  if dOp i.desc = 0x41 ∧ armKind i.desc = 0 then { a.comp with value := 2 ^ 64 - 1 } else a.comp

/-- What every refusal counts (R260, R266, Table 07-14). -/
def State.countRefusal (s : State) (i : Issue) (a : Answer) : State :=
  let s1 := if a.reason = 35 then s.denyCtr else s
  let s2 := if i.cue then s1.bump (R.prmCount 4) else s1
  if a.status = 12 then s2.bump (R.xfrCount 0) else s2

/-- A refusal at steps 1 to 7. Step 2 writes no record; a seat still has its one answer. -/
def State.refuseIssue (s : State) (i : Issue) (a : Answer) : State :=
  let s1 := s.countRefusal i a
  if a = cqRefusal then (s1.bump (R.xfrCount 10)).answerSeat i a.comp s1.now else s1.completeEarly i (refusalComp i a)

/-- The endpoints of a descriptor's RANK and of its destination rank (R203, R204). -/
def State.translated (s : State) (q : Queued) : Queued :=
  let d := q.issue.desc
  { q with stamp := some s.now, ep := (s.rankEp (dPart d) (dRank d)).getD s.nodeId
           dest := (s.rankEp (dPart d) (dArg d 0 2)).getD s.nodeId }

/-! ## Steps 8 to 12 -/

/-- An earlier operation of the submitter is not complete (R265): FENCE waits. -/
def State.hasOutstanding (s : State) (who : Submitter) : Bool :=
  let mine (i : Issue) : Bool := decide (i.who = who)
  let theirs (w : Waiting) : Bool := mine w.issue
  (s.xfr.ops.any fun e => e.2.relay.isNone && mine e.2.issue) ||
  (s.col.ctxs.any fun e => e.2.live && (mine e.2.issue || e.2.joined.any mine || e.2.consumer.any mine ||
    e.2.members.any fun m => ! m.closed && mine m.issue)) ||
  s.col.queue.any theirs || s.col.waiting.any theirs || s.col.outs.any theirs ||
  (s.upd.queue.any fun u => mine u.issue) || (s.commits.any fun c => mine c.issue) || (s.verifies.any fun c => mine c.issue) || s.intm.issue.any mine || s.intm.resume.any mine

/-- Step 8. A fired descriptor skips WAIT (R265). -/
def State.stepWaits (s : State) (i : Issue) : Bool :=
  let d := i.desc
  (dFence d && s.hasOutstanding i.who) || (dWait d && ! i.cue && decide ((s.ctr (dWaitCtr d)).toNat < dThreshold d))

/-- An outcome takes a place of a completion queue. -/
def needsPlace (d : Line) : Bool := ! dSeatQ d && ! dNoRecord d

/-- Step 9: reserve the place of the record. -/
def State.reserve (s : State) (d : Line) : State :=
  if needsPlace d then
    let c := s.cq (dQueue d)
    s.setCq (dQueue d) { c with reserved := c.reserved + 1 }
  else s

/-- An operation that takes a tag. -/
def takesTag (d : Line) : Bool := movesData d || isAtomic d || dOp d == 0x38 || (dOp d == 0x40 && dRank d != 0xFFFF)

/-- What an OUTCOME asks (R227): the handle, the chunks and the last injection time that this node kept, or 0 and the handle's own time. -/
def State.outcomeQuery (s : State) (d : Line) : Nat :=
  let handle := dArg d 0 8
  match s.xfr.kept.find? fun k => k.handle == handle && decide (s.now ≤ k.until_) with
  | some k => handle + k.chunks % 2 ^ 32 * 2 ^ 64 + k.last % 2 ^ 32 * 2 ^ 96
  | none => handle + handle / 2 ^ 16 % 2 ^ 32 * 2 ^ 96

/-- The operation that a descriptor starts, before its tag (R203, R215, R217). -/
def State.opFor (s : State) (q : Queued) : Op :=
  let d := q.issue.desc
  let target := epNode q.ep
  let from0 (kind : OpKind) (node : Nat) : Op :=
    { opBlank q.issue kind s.now with target := node, flow := if dOrdered d then some (dFlow d + 4096 * node) else none }
  match dOp d with
  | 0x01 => from0 .load target
  | 0x05 => from0 .fill target
  | 0x04 => if target = s.nodeId then from0 .store (epNode q.dest) else { from0 .forward target with handle := q.dest }
  | 0x38 => { opBlank q.issue .query s.now with target := target, src := s.outcomeQuery d }
  | 0x40 => { opBlank q.issue .cueAdd s.now with target := target }
  | _ => if isAtomic d then from0 .atom target else from0 .store target

/-- Steps 10 and 11. -/
def State.tagStep (s : State) (o : Op) : Option Answer :=
  let full := decide (4096 ≤ s.xfr.flows.length + s.xfr.rflows.length)
  let fresh : Bool := match o.flow with
    | some key => (tabFind s.xfr.flows key).isNone
    | none => false
  if s.freeTag.isNone then some ⟨12, 23⟩ else if fresh && full then some ⟨12, 25⟩ else none

/-- Step 12. -/
def State.spaceWaits (s : State) (o : Op) : Bool := decide (o.kind = .load) && decide (rspSpace < s.rspUsed + o.windowCells 0)

/-- Start an operation: the seat's data that landed before it is its own (R215). -/
def State.startIssue (s : State) (o : Op) : State :=
  if movesData o.issue.desc ∧ o.length = 0 then s.complete o.issue okComp
  else
    let mine (c : Cell) : Bool := match o.issue.who with
      | .seat k => decide (o.kind = .store) && seatMem o.src && c.src.toNat == s.seatEp k && c.tag == o.issue.tag
      | .window _ => false
    let got := s.xfr.landing.filter mine
    let s1 := s.setXfr { s.xfr with landing := s.xfr.landing.filter fun c => ! mine c }
    let o1 := { o with relayed := got.foldl (fun t c => tabInsert t c.index.toNat c.payload) o.relayed }
    match s1.freeTag with
    | some t => s1.startOp t o1
    | none => s1

/-! ## ABORT -/

/-- ABORT of the operations with a SW_TAG (R228, R268, R387, R408); `stamp` is its own step-1 stamp. -/
def State.abortTagged (s : State) (i : Issue) (stamp : Nat) : State :=
  let named (x : Issue) : Bool := decide (x.who = i.who) && dSwTag x.desc == dArg i.desc 0 2
  let chapter (x : Issue) : Bool := named x && decide (opcodeGroup (dOp x.desc) = some 0)
  let ops := s.xfr.ops.filter fun e => e.2.relay.isNone && e.2.abortAt.isNone && e.2.fixed.isNone && chapter e.2.issue
  let s1 := ops.foldl (fun t e => t.stopOp e.1) s
  let r := s1.stopWaiting fun x _ => chapter x
  let s3 := r.2
  let cues := s3.prm.cues.filter fun e => named (e.2.issue e.1)
  let s4 := cues.foldl (fun t e => t.cancelCue e.1 e.2) s3
  let ups := s4.upd.queue.filter fun u => named u.issue
  let s5 := ups.foldl (fun t u => t.abortUpdate u) s4
  let intm := decide (s5.intm.state = .armed) && s5.intm.issue.any named && decide (stamp < s5.intm.freeze)
  let s6 := if intm then s5.cancelIntm else s5
  let hit := intm || r.1 || ! ops.isEmpty || ! cues.isEmpty || ! ups.isEmpty
  s6.complete i { okComp with status := if hit then 0 else 6 }

/-- The ABORT_REQ of a collective to another context node (R318). -/
def State.abortRequest (s : State) (d : Line) (node : Nat) : Cell :=
  let hflags := 32 + 8 * b2n (s.sealedKey (dPart d))
  s.mkCell 0x07 node (dPart d) 0 (headLine 0x3A hflags 0 0 0 0 s.now 0 0 (dArg d 0 2 + dArg d 2 4 * 2 ^ 16))

/-- ABORT of a context (R318): the other context nodes are those of the version that the context pins (R83). -/
def State.abortNamed (s : State) (i : Issue) : State :=
  let d := i.desc
  let group := dArg d 0 2 % 4096
  let h := match s.ctxOfInst (dPart d) group (dArg d 2 4) with
    | some (_, c) => s.shape c
    | none => s.shapeIn s.plt.active group
  let nodes := (nodesOf h.members).filter fun n => n != s.nodeId
  let s1 := if (dMod d).testBit 1 then nodes.foldl (fun t n => t.injectCell (t.abortRequest d n)) s else s
  let r := s1.abortInstance (dPart d) group (dArg d 2 4) true
  r.2.complete i { okComp with status := if r.1 then 0 else 6 }

/-! ## Cues and channels -/

/-- CUE_ADD at this node (R272). -/
def State.addHere (s : State) (i : Issue) : State :=
  let d := i.desc
  let r := s.updateCtr (dArg d 0 2) (dPart d) (dMod d % 2 == 1) false (dArg d 4 4) (whoIdx i.who)
  match r.2 with
  | some old => r.1.complete i { okComp with value := old.toNat }
  | none => r.1.complete i { okComp with status := 9, reason := 35 }

/-- The issue of cue `id` while its list is checked. -/
def listIssue (i : Issue) (id : Nat) (d : Line) : Issue :=
  { who := i.who, cue := true, tag := BitVec.ofNat 16 (0xC000 + id), time := i.time, desc := d }

/-- The first refusal of a cue list's descriptors and its index (R263, checks 4 and 5). -/
def State.listRefusal (s : State) (i : Issue) (ds : List Line) : Option (Answer × Nat) :=
  let one (e : Line × Nat) : Option (Answer × Nat) :=
    (s.preCheck (listIssue i (dCueId i.desc + e.2) e.1)).map fun a => (if a = cqRefusal then ⟨11, 37⟩ else a, e.2)
  match ds.zipIdx.findSome? one with
  | some r => some r
  | none => (ds.zipIdx.find? fun e => dOp e.1 == 0x41).map fun e => (⟨11, 37⟩, e.2)

/-- CUE_ARM of KIND CUES (R262, R263). -/
def State.armCues (s : State) (i : Issue) : State :=
  let d := i.desc
  let n := dLen d / 64
  let refuse (t : State) (a : Answer) (v : Nat) : State := (if a.reason = 35 then t.denyCtr else t).complete i { a.comp with value := v }
  let none64 := 2 ^ 64 - 1
  let taken := (List.range n).any fun k => decide (16384 ≤ dCueId d + k) || (tabFind s.prm.cues (dCueId d + k)).isSome
  if dLen d % 64 ≠ 0 ∨ n = 0 ∨ 256 < n then refuse s ⟨11, 37⟩ none64
  else if taken then refuse s ⟨9, 36⟩ none64
  else match s.controlBytes (dPart d) (dSrc d) (dLen d) with
    | .error a => refuse s (if a.status = 8 then ⟨8, 31⟩ else a) none64
    | .ok b =>
      let ds := (List.range n).map fun k => BitVec.ofNat 512 (ofBytes ((b.drop (64 * k)).take 64))
      match s.listRefusal i ds with
      | some (a, k) => refuse s a k
      | none =>
        let ready (e : Line) : Option Nat := if cueReached e (s.ctr (dWaitCtr e)) then some s.prm.cycle else none
        let put (t : Tab Cue) (e : Line × Nat) : Tab Cue :=
          tabInsert t (dCueId d + e.2) { who := i.who, time := i.time, desc := e.1, since := s.now, ready := ready e.1 }
        (s.setPrm { s.prm with cues := ds.zipIdx.foldl put s.prm.cues }).complete i { okComp with bytes := dLen d }

/-- CUE_ARM of KIND ARRIVAL (R275): the channel's sequence starts at 0. -/
def State.armArrival (s : State) (i : Issue) : State :=
  let d := i.desc
  let a : Arr :=
    { owner := whoIdx i.who, pkey := dPart d, group := cGroup d, ep := armEp d, pool := decide (armEp d = s.nodeId), log2 := armLog2 d
      base := dDst d, count := armCounts d, counter := armCounter d, seq := 0, written := 0, consumed := 0 }
  ((s.setPrm { s.prm with arrs := tabInsert s.prm.arrs (armChan d) a }).setFld (R.arr (armChan d) + 0x10) 0 16 0).complete i okComp

/-- CUE_ARM of KIND DISARM (R275): the channel ends, with its trackers. -/
def State.disarm (s : State) (i : Issue) : State :=
  let ch := armChan i.desc
  (s.setPrm { s.prm with arrs := tabErase s.prm.arrs ch, trackers := s.prm.trackers.filter fun e => e.2.chan != ch }).complete i okComp

/-! ## The head of a queue -/

/-- An OPEN, or a sweep: a full admission queue refuses it BUSY (R290). -/
def State.openIssue (s : State) (i : Issue) (stamp : Nat) : State :=
  let d := i.desc
  if (s.ctxOfInst (dPart d) (cGroup d) (cInst d)).isNone ∧ 256 ≤ s.col.queue.length then s.refuseJoin i ⟨12, 42⟩
  else s.submitOpen i stamp

/-- A descriptor that takes no tag passes its last step: what it starts. -/
def State.runOther (s : State) (i : Issue) (stamp : Nat) : State :=
  let d := i.desc
  match dOp d with
  | 0x3A => if dMod d % 2 = 1 then s.abortNamed i else s.abortTagged i stamp
  | 0x40 => s.addHere i
  | 0x41 => if armKind d = 0 then s.armCues i else if armKind d = 1 then s.armArrival i else s.disarm i
  | 0x21 => s.submitOut i stamp
  | 0x30 => s.submitUpdate i stamp
  | 0x50 => if dMod d = 1 then s.openIssue i stamp else if dMod d = 2 then s.submitDigest i else s.submitVerify i
  | 0x51 => s.submitRecord i
  | 0x60 => s.submitIntermission i stamp
  | 0x61 => s.submitResume i
  | 0x62 => s.submitCommit i
  | _ => if isMember d then s.submitMember i stamp else s.openIssue i stamp

/-- A refusal at step 10 or 11. A fired descriptor is offered again, while it has retries (R266). The flag says whether the queue goes on. -/
def State.refuseTag (s : State) (k : Nat) (i : Issue) (a : Answer) : Bool × State :=
  let w := whoIdx i.who
  let tries := ((tabFind s.prm.retries w).map fun r => r.2).getD 0
  let s1 := s.countRefusal i a
  if i.cue ∧ tries < s.fld R.xfrCfg 12 4 then
    (false, s1.setPrm { s1.prm with retries := tabInsert s1.prm.retries w (s.now + s.fld R.xfrCfg 0 8 * 100, tries + 1) })
  else
    let s2 := if i.cue then s1.setPrm { s1.prm with retries := tabErase s1.prm.retries w } else s1
    (true, ((s2.dropHead k).reserve i.desc).complete i a.comp)

/-- Bring the head of a queue one step further. The flag says whether the queue may go on; a head that waits stops it. -/
def State.issueHead (s : State) (k : Nat) : Bool × State :=
  match s.waitingAt k with
  | [] => (false, s)
  | q :: rest =>
    let i := q.issue
    match q.stamp with
    | none =>
      if s.waitsFreeze i then (false, s)
      else match s.opStep i with
        | some a => (true, (s.dropHead k).refuseIssue i a)
        | none =>
          let s1 := s.journalDesc i
          match s1.preCheck i with
          | some a => (true, (s1.dropHead k).refuseIssue i a)
          | none => (true, s1.setWaitingAt k (s1.translated q :: rest))
    | some stamp =>
      let later : Bool := i.cue && (tabFind s.prm.retries (whoIdx i.who)).any fun r => decide (s.now < r.1)
      if later ∨ s.stepWaits i ∨ (needsPlace i.desc ∧ ! s.cqFree (dQueue i.desc)) then (false, s)
      else if takesTag i.desc then
        let o := s.opFor q
        match s.tagStep o with
        | some a => s.refuseTag k i a
        | none =>
          if s.spaceWaits o then (false, s)
          else
            let s1 := if i.cue then s.setPrm { s.prm with retries := tabErase s.prm.retries (whoIdx i.who) } else s
            (true, ((s1.dropHead k).reserve i.desc).startIssue o)
      else (true, ((s.dropHead k).reserve i.desc).runOther i stamp)

/-- Run a queue until its head waits; `fuel` bounds the steps. -/
def State.runQueueFor (k : Nat) : Nat → State → State
  | 0, s => s
  | f + 1, s =>
    let r := s.issueHead k
    if r.1 then State.runQueueFor k f r.2 else r.2

/-- Run a queue until its head waits. -/
def State.runQueue (s : State) (k : Nat) : State := if s.running then State.runQueueFor k (2 * (s.waitingAt k).length + 2) s else s

/-! ## The rings (R196) -/

/-- The slot of a window's ring. -/
def State.ringSlot (s : State) (w n : Nat) : Line :=
  (List.range 16).foldl (fun d j => setBits d (32 * j) 32 (s.winReg w (64 * (n % 256) + 4 * j)).toNat) 0

/-- Fetch descriptors from a ring and issue them; one that R409 holds stays in the ring. `fuel` bounds them. -/
def State.fetchRingFor (w : Win) : Nat → State → State
  | 0, s => s
  | f + 1, s =>
    let head := bits (s.winReg w R.sqHead) 0 16
    let tail := bits (s.winReg w R.sqTail) 0 16
    let i : Issue := { who := .window w, cue := false, tag := 0, time := 0, desc := s.ringSlot w head }
    let k := queueOf (.window w) false
    if ! (s.waitingAt k).isEmpty ∨ head = tail ∨ s.waitsFreeze i then s
    else
      let s1 := s.setWinReg w R.sqHead (setBits (s.winReg w R.sqHead) 0 16 ((head + 1) % 65536))
      State.fetchRingFor w f ((s1.enqueue i).runQueue k)

/-- Issue what a submitter's ring holds. -/
def State.fetchRing (s : State) (w : Win) : State := if s.running then State.fetchRingFor w 257 s else s

/-- Run a submitter's ring or DESC stream, and then its cue queue. -/
def State.resumeIssue (s : State) (who : Submitter) : State :=
  let s1 := s.runQueue (queueOf who false)
  let s2 := match who with
    | .window w => s1.fetchRing w
    | .seat _ => s1
  (s2.runQueue (queueOf who true)).settleAll

/-- A write of a window's SQ_TAIL (R52, R196, R498): it wakes the node, waits for the journal, or starts the fetch. -/
def State.ringBell (s : State) (w : Win) (value : Word) : State :=
  let tail := bits value 0 16
  let head := bits (s.winReg w R.sqHead) 0 16
  if 256 < (tail + 65536 - head) % 65536 then s.violation w 3 true (R.win w + R.sqTail)
  else
    let s1 := s.setWinReg w R.sqTail (setBits (s.winReg w R.sqTail) 0 16 tail)
    if s1.running then (s1.fetchRing w).settleAll else s1.autoWake

/-- DOORBELL (R52, R196, R522): held, in the order of writing, while the journal's buffer is too full. -/
def execDoorbell (w : Win) (value : Word) (s : State) : Host.Outcome State Fault Refusal :=
  if ! s.winPresent w && ! s.winFm w then .next (s.violation w 4 true (R.win w + R.sqTail))
  else if s.script.holdBells then
    .next ((s.setScript { s.script with bells := s.script.bells ++ [(w.val, value)] }).bump R.scriptHeld)
  else .next (s.ringBell w value)

/-- DOORBELL_RELEASE (R52): below 50 % of the buffer, the held doorbells proceed. -/
def execDoorbellRelease (s : State) : Host.Outcome State Fault Refusal :=
  if s.script.holdBells ∧ 2 * s.script.fill < scriptBuffer then
    .next (s.script.bells.foldl (fun t e => t.ringBell (Fin.ofNat 16 e.1) e.2) (s.setScript { s.script with holdBells := false, bells := [] }))
  else .next s

/-! ## Other rows -/

/-- DESC_RX (R197, R409, R509): a seat's descriptor. A node that sleeps, or that a freeze holds, answers it BUSY. -/
def execDescRx (c : Cell) (s : State) : Host.Outcome State Fault Refusal :=
  if ! s.running ∧ s.kpr.power ≠ .sleeping then .next s
  else if ! cellIs c 0x08 ∨ ! (0x4000 ≤ c.src.toNat ∧ epNode c.src.toNat = s.nodeId) then .fault .illFormed
  else
    let s0 := s.takeEjected c
    let i : Issue := { who := .seat (Fin.ofNat 16 c.src.toNat), cue := false, tag := c.tag, time := c.time, desc := c.payload }
    if s.kpr.power = .sleeping ∨ ! s.mayGrant then .next (s0.answerSeat i ⟨12, 52, 0, 0, 0, 0⟩ s0.now)
    else .next ((s0.enqueue i).runQueue (queueOf i.who i.cue)).settleAll

/-- ISSUE_RESUME (R201): a submitter's queues go on where their heads no longer wait. -/
def execIssueResume (who : Submitter) (s : State) : Host.Outcome State Fault Refusal :=
  if ! s.running then .next s else .next (s.resumeIssue who)

/-- BUSY_BACKOFF (R214, R266): the messages of one operation whose backoff has passed, and the fired descriptors. -/
def execBusyBackoff (tag : Fin 16384) (s : State) : Host.Outcome State Fault Refusal :=
  if ! s.running then .next s else
  let s1 := s.retryBusy tag.val
  let due := s1.prm.retries.filter fun r => decide (r.2.1 ≤ s1.now)
  .next (due.foldl (fun t r => t.runQueue (r.1 + 32)) s1).runTurns.settleAll

/-- The place that a fired cue needs: a submitter's cue queue holds 1,024 (R265). -/
def State.cueRoom (s : State) (c : Cue) : Bool := decide ((s.waitingAt (queueOf c.who true)).length < 1024)

/-- An eligible cue goes before another of its pipeline: it became eligible in the same cycle, with a lower ID (R269). -/
def State.cueBehind (s : State) (id : Nat) (c : Cue) : Bool :=
  s.prm.cues.any fun e => decide (e.1 < id) && e.1 % 8 == id % 8 && e.2.ready == c.ready && s.cueRoom e.2

/-- The cycle in which a cue fires: after the one whose updates made it eligible (R264), one a pipeline, in ascending ID (R269). -/
def State.cycleToFire (s : State) (id : Nat) (c : Cue) : State :=
  if c.ready = some s.prm.cycle ∨ s.prm.fired.any (fun f => f % 8 == id % 8 || decide (id < f)) then s.nextCycle else s

/-- PAUSE stops firing, after the cycle in which it was written (R271). -/
def State.paused (s : State) : Bool := bit (s.reg R.prmCfg) 0 && s.prm.cycle != s.prm.pausedAt

/-- CUE_FIRE (R264, R265, R269, R271): the ID is free and the descriptor enters its submitter's cue queue, unless that is full. -/
def execCueFire (cue : Fin 16384) (s : State) : Host.Outcome State Fault Refusal :=
  if ! s.running then .next s else
  match tabFind s.prm.cues cue.val with
  | none => .next s
  | some c =>
    let i := c.issue cue.val
    let t := s.cycleToFire cue c
    if s.firingFrozen ∨ t.paused ∨ c.ready.isNone ∨ s.cueBehind cue c ∨ ! s.cueRoom c then .next s
    else
      let s1 := (t.setPrm { t.prm with cues := tabErase t.prm.cues cue.val, fired := t.prm.fired ++ [cue.val] }).bump (R.prmCount 0)
      .next ((s1.enqueue i).runQueue (queueOf i.who i.cue)).settleAll

end Sys2Proof.Machine
end

