-- ==== Sys2Proof/Machine/Loss.lean ====
section
/-! DEFINITION. Node loss (R480, R483 to R486), the curtain (R488 to R491), received fault records (R478), the DOWN
cell, and the requester's side of remote access (R499). -/

namespace Sys2Proof.Machine

/-! ## Floods (R484) -/

/-- A FAULT_REC payload of kind LOST (2) or BEACON (3). -/
def floodPayload (kind node seq time origin : Nat) : Line :=
  packBytes 512 [(0, 2, node), (4, 4, seq), (8, 8, time), (32, 1, kind), (34, 2, origin)]

/-- A received FAULT_REC of a kind. -/
def faultRecKind (c : Cell) (kind : Nat) : Bool := cellIs c 0x33 && bytesAt c.payload 32 1 == kind

/-- Put a flooded cell into the C5 queue of each link that is UP and not SEAT, except one; where the queue is full it waits at the link
for a place (R130, R484). A peer with a reserved endpoint is sent nothing (R18). Log entry 45 (DEDUCED). -/
def State.floodOn (s : State) (c : Cell) (except : Option Nat) : State :=
  (List.range 32).foldl (fun t n =>
    let x := t.link n
    if x.state = .up ∧ t.role n ≠ 1 ∧ except ≠ some n ∧ ! epReserved (t.fld (R.link n + 0x14) 0 15) then
      let y := withCheck { c with dest := BitVec.ofNat 15 (t.fld (R.link n + 0x14) 0 15), cls := 5 }
      t.setLink n ({ x with floods := x.floods ++ [y] }).admitFlood
    else t) s

/-- The SEQ of a flood is newer than the last held for its ORIGIN. -/
def newerSeq (held : Tab Word) (c : Cell) : Bool :=
  match tabFind held (bytesAt c.payload 34 2) with
  | some q => decide (0 < signed32 (bytesAt c.payload 4 4 + 2 ^ 32 - q.toNat))
  | none => true

/-! ## The lost set (R483 to R486) -/

/-- Add a node to the lost set, with the effects of R485. -/
def State.addLost (s : State) (node : Nat) : State :=
  if s.isLost node then s
  else
    let s1 := ((s.setArrayBit R.kprLost node true).events s.fmWindows 2).clearSuspect node
    let s2 := s1.ctxsLoseNode node
    let ops := (s2.xfr.ops.filter fun o => epNode o.2.target == node && o.2.fixed.isNone).map fun o => o.1
    (ops.foldl (fun t k => match t.op k with
      | some o => t.expireOp k o 65
      | none => t) s2).runTurns

/-- Declare a node lost: record, lost set, flood. -/
def State.declareLost (s : State) (node : Nat) : State :=
  if s.isLost node then s
  else
    let s1 := (s.raiseFault 80 node 1 0).addLost node
    let q := s1.kpr.myLostSeq
    let s2 := { s1 with kpr := { s1.kpr with myLostSeq := q + 1, lostSeq := tabInsert s1.kpr.lostSeq s1.nodeId q } }
    s2.floodOn (s2.mkCell 0x33 0 0 0 (floodPayload 2 node q.toNat s2.now s2.nodeId)) none

/-- A neighbour: a non-SEAT link's role names the node (R483). -/
def State.neighbour (s : State) (node : Nat) : Bool :=
  (List.range 32).any fun n => decide (2 ≤ s.role n) && s.rolePeer n == node

/-- NODE_SILENCE (R483). A node that has sent no SYNC since this one runs is not silent yet. -/
def execNodeSilence (node : Fin 1024) (s : State) : Host.Outcome State Fault Refusal :=
  match tabFind s.kpr.lastSync node with
  | some t => if s.running ∧ s.neighbour node ∧ t + s.nodeSilence ≤ s.now then .next (s.suspect node) else .next s
  | none => .next s

/-- An answer to the PING of a suspicion, or a SYNC of the node on an UP link, has arrived in this cycle. -/
def State.answered (s : State) (node : Nat) (x : Suspect) : Bool :=
  s.csw.ejected.any fun e =>
    e.cell.src.toNat == node &&
      ((cellIs e.cell 0x32 && bytesAt e.cell.payload 12 4 == x.reqId.toNat) ||
        (cellIs e.cell 0x30 && decide ((s.link e.input).state = .up)))

/-- PROBE (R483): the suspect is declared lost; an answer in the cycle of expiry wins. -/
def execProbe (node : Fin 1024) (s : State) : Host.Outcome State Fault Refusal :=
  if ! s.running then .next s else
  match tabFind s.kpr.suspects node with
  | none => .next s
  | some x =>
    if s.now < x.since + s.probeTime then .next s
    else if s.answered node x then .next s
    else .next (s.declareLost node)

/-- LOST_RX (R484 to R486). -/
def execLostRx (n : LinkIx) (c : Cell) (s : State) : Host.Outcome State Fault Refusal :=
  if ! s.running then .next s else
  if ! faultRecKind c 2 then .fault .illFormed
  else
    let s0 := s.takeEjected c
    if newerSeq s0.kpr.lostSeq c then
      let node := bytesAt c.payload 0 2 % 1024
      let s1 := { s0 with kpr := { s0.kpr with
        lostSeq := tabInsert s0.kpr.lostSeq (bytesAt c.payload 34 2) (BitVec.ofNat 32 (bytesAt c.payload 4 4)) } }
      let s2 := if node = s1.nodeId then s1.raiseFault 81 0xFFFF 1 0 else s1.addLost node
      .next (s2.floodOn c (some n))
    else .next s0

/-- What a DOWN cell does to its link and to its sender. -/
def State.downReceived (s : State) (n : Nat) (c : Cell) : State :=
  let peer := if s.isSealed then s.rolePeer n else s.fld (R.link n + 0x14) 0 15
  if bytesAt c.payload 0 1 = 6 ∧ s.role n ≠ 1 ∧ peer < 0x400 ∧ ¬ s.isLost peer then
    -- The link goes down under the lost mark, so that no PING is sent (R480).
    let s1 := ((s.setArrayBit R.kprLost peer true).goDown n 4).setArrayBit R.kprLost peer false
    s1.declareLost peer
  else s.goDown n 4

/-- DOWN_CELL_RX (R139, R156, R480): the cell's own ACK acts first; the link goes DOWN with PEER, and cause FATAL declares the sender lost
with no probe. A link that went down in an earlier cycle has no slots. -/
def execDownCellRx (n : LinkIx) (c : Cell) (s : State) : Host.Outcome State Fault Refusal :=
  let x := s.link n
  if ! cellIs c 0x3D then .fault .illFormed
  else if x.state = .disabled ∨ (x.state = .down ∧ x.downAt ≠ some s.clk.count) then .next s
  else
    let r := if x.readsSlots then s.localRx n c else (true, s)
    .next (if r.1 then r.2.downReceived n c else r.2)

/-! ## The curtain (R488 to R491) -/

/-- The curtain timeout in ns. -/
def State.curtainTimeout (s : State) : Nat := s.timer 3 * 1000

/-- The anchor of a key in a version. -/
def PlateV.anchor (v : PlateV) (k : Nat) : Option Nat := (v.part k).map fun p => p.anchor

/-- This node anchors a partition of the active version. -/
def State.isAnchor (s : State) : Bool :=
  match s.plt.active with
  | some v => v.parts.any fun p => p.anchor == s.nodeId
  | none => false

/-- BEACON (R488): every eighth of the curtain timeout. -/
def execBeacon (s : State) : Host.Outcome State Fault Refusal :=
  let due : Bool := match tabFind s.kpr.lastBeacon s.nodeId with
    | some t => decide (t + s.curtainTimeout / 8 ≤ s.now)
    | none => true
  if s.running ∧ s.isAnchor ∧ due then
    let q := s.kpr.myBeaconSeq
    let s1 := { s with kpr := { s.kpr with myBeaconSeq := q + 1, beaconSeq := tabInsert s.kpr.beaconSeq s.nodeId q
                                           lastBeacon := tabInsert s.kpr.lastBeacon s.nodeId s.now } }
    .next (s1.floodOn (s1.mkCell 0x33 0 0 0 (floodPayload 3 s1.nodeId q.toNat s1.now s1.nodeId)) none)
  else .next s

/-- BEACON_RX (R488). -/
def execBeaconRx (n : LinkIx) (c : Cell) (s : State) : Host.Outcome State Fault Refusal :=
  if ! s.running then .next s else
  if ! faultRecKind c 3 then .fault .illFormed
  else
    let s0 := s.takeEjected c
    if newerSeq s0.kpr.beaconSeq c then
      let origin := bytesAt c.payload 34 2
      let s1 := { s0 with kpr := { s0.kpr with
        beaconSeq := tabInsert s0.kpr.beaconSeq origin (BitVec.ofNat 32 (bytesAt c.payload 4 4))
        lastBeacon := tabInsert s0.kpr.lastBeacon (bytesAt c.payload 0 2) s0.now } }
      .next (s1.floodOn c (some n))
    else .next s0

/-- A beacon of an anchor arrived within the curtain timeout. -/
def State.anchorSeen (s : State) (a : Nat) : Bool :=
  match tabFind s.kpr.lastBeacon a with
  | some t => decide (s.now ≤ t + s.curtainTimeout)
  | none => false

/-- The curtain timeout of a slot's anchor has passed, counted from its last beacon, or from the time the slot took this anchor. -/
def State.anchorSilent (s : State) (slot a : Nat) : Bool :=
  decide (max (tabGet 0 s.kpr.lastBeacon a) (tabGet 0 s.kpr.anchorFrom slot) + s.curtainTimeout ≤ s.now)

/-- A beacon of an anchor has arrived in this cycle. -/
def State.beaconWaits (s : State) (a : Nat) : Bool :=
  s.csw.ejected.any fun e =>
    faultRecKind e.cell 3 && bytesAt e.cell.payload 0 2 == a && newerSeq s.kpr.beaconSeq e.cell

/-- Number of the lowered curtains. -/
def State.curtainsLowered (s : State) : Nat := (s.sec.slots.filter fun e => e.2.lowered).length

/-- The windows that a curtain or a fault of a key tells: the bound ones and the fabric manager's. -/
def State.curtainWindows (s : State) (k : Nat) : List Nat :=
  (List.range 16).filter fun w => s.winFm w || (s.bindingsHere k).any fun b => b.windows.testBit w

/-- Stop the collective work, the UPDATEs and the COMMITs of a key under its curtain (R490). -/
def State.curtainStops (s : State) (k : Nat) : State :=
  let hit (i : Issue) : Bool := dPart i.desc == k
  let s1 := ((s.col.ctxs.filter fun e => hit e.2.issue).map fun e => e.1).foldl (fun t j => match t.ctx j with
    | some c => if c.live then t.abortCtxWith j c false 64 else t
    | none => t) s
  let gone := (s1.col.queue ++ s1.col.waiting ++ s1.col.outs).filter fun w => hit w.issue
  let s2 := s1.setCol { s1.col with queue := s1.col.queue.filter fun w => !hit w.issue, waiting := s1.col.waiting.filter fun w => !hit w.issue
                                    outs := s1.col.outs.filter fun w => !hit w.issue }
  let s3 := gone.foldl (fun t w => t.refuseJoin w.issue ⟨5, 64⟩) s2
  let s4 := (s3.upd.queue.filter fun u => hit u.issue).foldl (fun t u => t.abortUpdateWith u 64) s3
  let s5 := (s4.commits.filter fun c => !c.slot && hit c.issue).foldl (fun t c => t.failCommit c ⟨7, 64⟩) s4
  (s5.verifies.filter fun c => hit c.issue).foldl (fun t c => t.dropVerify c ⟨7, 64⟩) s5

/-- Lower the curtain of a slot. -/
def State.lowerCurtain (s : State) (i : Nat) (x : Slot) : State :=
  let s1 := (s.setSlot i { x with lowered := true }).setReg64 R.curtainTime s.now
  let s2 := (s1.raiseFault 82 i 1 x.pkey).events (s1.curtainWindows x.pkey) 3
  (s2.curtainStops x.pkey).settleAll

/-- CURTAIN_LOWERED (R489 to R491). -/
def execCurtainLowered (slot : Fin 4096) (s : State) : Host.Outcome State Fault Refusal :=
  if ! s.running then .next s else
  match tabFind s.sec.slots slot, s.plt.active with
  | some x, some v => (match v.anchor x.pkey with
    | none => .next s
    | some a =>
      let flips := s.plt.armed && decide (s.plt.flipTime ≤ s.now)
      if x.lowered || a == s.nodeId || flips then .next s
      else if s.anchorSilent slot a && ! s.beaconWaits a then .next (s.lowerCurtain slot x)
      else .next s)
  | _, _ => .next s

/-- At a flip, raise every lowered curtain whose new anchor is this node or was heard within the timeout (R491). -/
def State.raiseCurtains (s : State) (v : PlateV) : State :=
  s.sec.slots.foldl (fun t e =>
    if ! e.2.lowered then t
    else match v.anchor e.2.pkey with
      | some a =>
        if a = t.nodeId ∨ t.anchorSeen a then (t.setSlot e.1 { e.2 with lowered := false }).raiseFault 83 e.1 1 e.2.pkey else t
      | none => t) s

/-- At a seal or a flip, the watch of a slot's anchor begins where the slot or its anchor is new. -/
def State.watchAnchors (s : State) (old : Option PlateV) (v : PlateV) : State :=
  s.sec.slots.foldl (fun t e =>
    if (old.bind fun o => o.anchor e.2.pkey) = v.anchor e.2.pkey then t
    else { t with kpr := { t.kpr with anchorFrom := tabInsert t.kpr.anchorFrom e.1 t.now } }) s

/-! ## Received records (R478) -/

/-- FAULT_REC_RX (R478): logged with REMOTE = 1, and FAULT in the fabric-manager windows. -/
def execFaultRecRx (c : Cell) (s : State) : Host.Outcome State Fault Refusal :=
  if ! s.running then .next s else
  if ! faultRecKind c 1 then .fault .illFormed
  else
    let r : BitVec 256 := BitVec.ofNat 256 (bytesAt c.payload 0 32)
    let s1 := (s.takeEjected c).logRecord (setBits r 24 1 1)
    .next (s1.events s1.fmWindows 0)

/-! ## Remote access: the requesting window (R499) -/

/-- Send a window's request: 1 READ, 2 WRITE, 3 PING. A GO while BUSY is ignored. -/
def State.fmGo (s : State) (w op : Nat) : State :=
  if ! s.winFm w then s.violation w 4 true (R.win w + R.fmCtl)
  else if (tabFind s.kpr.fmPending w).isSome then s
  else
    let r := s.kpr.nextReqId
    let s1 := (s.setWinReg w R.fmCtl (setBits (setBits (s.winReg w R.fmCtl) 8 2 1) 10 2 0))
    let s2 := { s1 with kpr := { s1.kpr with nextReqId := r + 1
                                             fmPending := tabInsert s1.kpr.fmPending w { op := BitVec.ofNat 16 op, reqId := r, since := s1.now } } }
    let c := s2.fmReq op (bits (s2.winReg w R.fmTarget) 0 10) (s2.winReg w R.fmOffset).toNat (s2.winReg w R.fmData).toNat r.toNat false
    if s2.running then s2.injectCell c else s2

/-- GO_READ (R499). -/
def execGoRead (w : Win) (s : State) : Host.Outcome State Fault Refusal := .next (s.fmGo w 1)

/-- GO_WRITE (R499). -/
def execGoWrite (w : Win) (s : State) : Host.Outcome State Fault Refusal := .next (s.fmGo w 2)

/-- GO_PING (R499). -/
def execGoPing (w : Win) (s : State) : Host.Outcome State Fault Refusal := .next (s.fmGo w 3)

/-- A window's request ends with a RESULT. -/
def State.fmDone (s : State) (w result : Nat) : State :=
  let s1 := s.setWinReg w R.fmCtl (setBits (setBits (s.winReg w R.fmCtl) 8 2 2) 10 2 result)
  { s1 with kpr := { s1.kpr with fmPending := tabErase s1.kpr.fmPending w } }

/-- FM_REQUEST_TIMEOUT (R499): unanswered for the operation timeout. -/
def execFmRequestTimeout (w : Win) (s : State) : Host.Outcome State Fault Refusal :=
  match tabFind s.kpr.fmPending w with
  | none => .next s
  | some x => if s.now < x.since + s.opTimeout then .next s else .next (s.fmDone w 3)

/-- An FM_RSP to a window's request: one that comes after the operation timeout reads TIMEOUT. -/
def State.fmAnswer (s : State) (w : Nat) (x : FmPending) (c : Cell) : State :=
  if x.since + s.opTimeout < s.now then s.fmDone w 3
  else
    let result := bytesAt c.payload 2 1
    let t := s.setWinReg w R.fmData (BitVec.ofNat 32 (bytesAt c.payload 8 4))
    let s1 : State := if x.op = 1 ∧ result = 0 then { t with kpr := { t.kpr with fmDataAt := tabInsert t.kpr.fmDataAt w s.clk.count } } else s
    s1.fmDone w result

/-- The window whose request has an ID. -/
def State.fmMatch (s : State) (r : Nat) (c : Cell) : State :=
  match s.kpr.fmPending.find? fun e => e.2.reqId.toNat == r with
  | some (w, x) => s.fmAnswer w x c
  | none => s

/-- FM_RSP_RX (R483, R499): an answer clears a suspicion, or ends a window's request. -/
def execFmRspRx (c : Cell) (s : State) : Host.Outcome State Fault Refusal :=
  if ! s.running then .next s else
  if ! cellIs c 0x32 then .fault .illFormed
  else
    let s0 := s.takeEjected c
    let r := bytesAt c.payload 12 4
    let node := c.src.toNat
    match tabFind s0.kpr.suspects node with
    | some x => if x.reqId.toNat = r then .next (s0.clearSuspect node) else .next (s0.fmMatch r c)
    | none => .next (s0.fmMatch r c)

/-! ## Remote access: the target's answer (R499) -/

/-- Answer an FM_REQ: RESULT, and VALUE read or written. -/
def State.fmRespond (s : State) (c : Cell) (result value : Nat) : State :=
  s.injectCell (s.mkCell 0x32 (epNode c.src.toNat) 0 0
    (packBytes 512 [(0, 2, bytesAt c.payload 0 2), (2, 1, result), (4, 4, bytesAt c.payload 4 4), (8, 4, value), (12, 4, bytesAt c.payload 12 4)]))

/-- An answer that neither reads nor writes a value: VALUE is a free value. -/
def State.fmRefuse (s : State) (c : Cell) (result : Nat) : State := (s.fmRespond c result (s.freshVal 32)).tookFree

/-- A received FM_REQ of an operation. -/
def fmReqIs (c : Cell) (op : Nat) : Bool := cellIs c 0x31 && bytesAt c.payload 0 2 == op

/-- FM_PING_RX (R499): always answered. -/
def execFmPingRx (c : Cell) (s : State) : Host.Outcome State Fault Refusal :=
  if ! s.running then .next s else
  if fmReqIs c 3 then .next ((s.takeEjected c).fmRefuse c 0) else .fault .illFormed

end Sys2Proof.Machine
end

