-- ==== Sys2Proof/Machine/Opcodes.lean ====
section
/-! DEFINITION. The opcodes as commands: a descriptor of one opcode enters its submitter's queue and issues as far as it may. Each row
names the opcode, and the role, kind or action, of its descriptor; another descriptor is not a command of that row. -/

namespace Sys2Proof.Machine

/-- ACTION of an ATOM_FADD_X (Table 11-16). -/
def faddAction (d : Line) : Nat := dMod d / 4096 % 4

/-- A descriptor is submitted at a running node: behind those of its submitter that wait, and issued as far as it may (R198, R201). A
seat's is answered BUSY while the node takes on no new work (R409). -/
def State.submit (s : State) (i : Issue) : State :=
  let seat : Bool := match i.who with
    | .seat _ => true
    | .window _ => false
  if ! s.running then s
  else if seat ∧ i.cue = false ∧ ! s.mayGrant then s.answerSeat i ⟨12, 52, 0, 0, 0, 0⟩ s.now
  else ((s.enqueue i).runQueue (queueOf i.who i.cue)).settleAll

/-- LOAD (R213). -/
def execLoad (i : Issue) (s : State) : Host.Outcome State Fault Refusal :=
  if dOp i.desc = 0x01 then .next (s.submit i) else .fault .illFormed

/-- STORE (R212). -/
def execStore (i : Issue) (s : State) : Host.Outcome State Fault Refusal :=
  if dOp i.desc = 0x02 then .next (s.submit i) else .fault .illFormed

/-- STORE_ORD (R218). -/
def execStoreOrd (i : Issue) (s : State) : Host.Outcome State Fault Refusal :=
  if dOp i.desc = 0x03 then .next (s.submit i) else .fault .illFormed

/-- COPY (R215). -/
def execCopy (i : Issue) (s : State) : Host.Outcome State Fault Refusal :=
  if dOp i.desc = 0x04 then .next (s.submit i) else .fault .illFormed

/-- FILL (R209). -/
def execFill (i : Issue) (s : State) : Host.Outcome State Fault Refusal :=
  if dOp i.desc = 0x05 then .next (s.submit i) else .fault .illFormed

/-- ATOM_IADD (R248). -/
def execAtomIadd (i : Issue) (s : State) : Host.Outcome State Fault Refusal :=
  if dOp i.desc = 0x10 then .next (s.submit i) else .fault .illFormed

/-- ATOM_CAS (R248). -/
def execAtomCas (i : Issue) (s : State) : Host.Outcome State Fault Refusal :=
  if dOp i.desc = 0x11 then .next (s.submit i) else .fault .illFormed

/-- ATOM_SWAP (R248). -/
def execAtomSwap (i : Issue) (s : State) : Host.Outcome State Fault Refusal :=
  if dOp i.desc = 0x12 then .next (s.submit i) else .fault .illFormed

/-- ATOM_FADD_F (R248). -/
def execAtomFaddF (i : Issue) (s : State) : Host.Outcome State Fault Refusal :=
  if dOp i.desc = 0x14 then .next (s.submit i) else .fault .illFormed

/-- ATOM_FADD_X with ACTION ADD (R357). -/
def execAtomFaddXAdd (i : Issue) (s : State) : Host.Outcome State Fault Refusal :=
  if dOp i.desc = 0x13 ∧ faddAction i.desc = 0 then .next (s.submit i) else .fault .illFormed

/-- ATOM_FADD_X with ACTION READ (R357). -/
def execAtomFaddXRead (i : Issue) (s : State) : Host.Outcome State Fault Refusal :=
  if dOp i.desc = 0x13 ∧ faddAction i.desc = 1 then .next (s.submit i) else .fault .illFormed

/-- ATOM_FADD_X with ACTION CLEAR (R357). -/
def execAtomFaddXClear (i : Issue) (s : State) : Host.Outcome State Fault Refusal :=
  if dOp i.desc = 0x13 ∧ faddAction i.desc = 2 then .next (s.submit i) else .fault .illFormed

/-- OUTCOME (R227). -/
def execOutcome (i : Issue) (s : State) : Host.Outcome State Fault Refusal :=
  if dOp i.desc = 0x38 then .next (s.submit i) else .fault .illFormed

/-- ABORT of operations (R228). -/
def execAbort (i : Issue) (s : State) : Host.Outcome State Fault Refusal :=
  if dOp i.desc = 0x3A ∧ dMod i.desc % 2 = 0 then .next (s.submit i) else .fault .illFormed

/-- ABORT of a context (R318). -/
def execAbortContext (i : Issue) (s : State) : Host.Outcome State Fault Refusal :=
  if dOp i.desc = 0x3A ∧ dMod i.desc % 2 = 1 then .next (s.submit i) else .fault .illFormed

/-- CUE_ADD (R272, R273). -/
def execCueAdd (i : Issue) (s : State) : Host.Outcome State Fault Refusal :=
  if dOp i.desc = 0x40 then .next (s.submit i) else .fault .illFormed

/-- CUE_ARM of KIND CUES (R263). -/
def execCueArmCues (i : Issue) (s : State) : Host.Outcome State Fault Refusal :=
  if dOp i.desc = 0x41 ∧ armKind i.desc = 0 then .next (s.submit i) else .fault .illFormed

/-- CUE_ARM of KIND ARRIVAL (R275). -/
def execCueArmArrival (i : Issue) (s : State) : Host.Outcome State Fault Refusal :=
  if dOp i.desc = 0x41 ∧ armKind i.desc = 1 then .next (s.submit i) else .fault .illFormed

/-- CUE_ARM of KIND DISARM (R275). -/
def execCueArmDisarm (i : Issue) (s : State) : Host.Outcome State Fault Refusal :=
  if dOp i.desc = 0x41 ∧ armKind i.desc = 2 then .next (s.submit i) else .fault .illFormed

/-- RED_IN with ROLE OPEN (R290). -/
def execRedInOpen (i : Issue) (s : State) : Host.Outcome State Fault Refusal :=
  if dOp i.desc = 0x20 ∧ cOpen i.desc = true then .next (s.submit i) else .fault .illFormed

/-- RED_IN with ROLE MEMBER (R291). -/
def execRedInMember (i : Issue) (s : State) : Host.Outcome State Fault Refusal :=
  if dOp i.desc = 0x20 ∧ cOpen i.desc = false then .next (s.submit i) else .fault .illFormed

/-- RED_OUT (R301). -/
def execRedOut (i : Issue) (s : State) : Host.Outcome State Fault Refusal :=
  if dOp i.desc = 0x21 then .next (s.submit i) else .fault .illFormed

/-- ALLGATHER with ROLE OPEN (R311). -/
def execAllgatherOpen (i : Issue) (s : State) : Host.Outcome State Fault Refusal :=
  if dOp i.desc = 0x22 ∧ cOpen i.desc = true then .next (s.submit i) else .fault .illFormed

/-- ALLGATHER with ROLE MEMBER (R309). -/
def execAllgatherMember (i : Issue) (s : State) : Host.Outcome State Fault Refusal :=
  if dOp i.desc = 0x22 ∧ cOpen i.desc = false then .next (s.submit i) else .fault .illFormed

/-- BCAST with ROLE OPEN (R311). -/
def execBcastOpen (i : Issue) (s : State) : Host.Outcome State Fault Refusal :=
  if dOp i.desc = 0x25 ∧ cOpen i.desc = true then .next (s.submit i) else .fault .illFormed

/-- BCAST with ROLE MEMBER (R309). -/
def execBcastMember (i : Issue) (s : State) : Host.Outcome State Fault Refusal :=
  if dOp i.desc = 0x25 ∧ cOpen i.desc = false then .next (s.submit i) else .fault .illFormed

/-- ALLTOALL with ROLE OPEN (R313). -/
def execAlltoallOpen (i : Issue) (s : State) : Host.Outcome State Fault Refusal :=
  if dOp i.desc = 0x23 ∧ cOpen i.desc = true then .next (s.submit i) else .fault .illFormed

/-- ALLTOALL with ROLE MEMBER (R313). -/
def execAlltoallMember (i : Issue) (s : State) : Host.Outcome State Fault Refusal :=
  if dOp i.desc = 0x23 ∧ cOpen i.desc = false then .next (s.submit i) else .fault .illFormed

/-- BARRIER with ROLE OPEN (R306). -/
def execBarrierOpen (i : Issue) (s : State) : Host.Outcome State Fault Refusal :=
  if dOp i.desc = 0x24 ∧ cOpen i.desc = true then .next (s.submit i) else .fault .illFormed

/-- BARRIER with ROLE MEMBER (R306). -/
def execBarrierMember (i : Issue) (s : State) : Host.Outcome State Fault Refusal :=
  if dOp i.desc = 0x24 ∧ cOpen i.desc = false then .next (s.submit i) else .fault .illFormed

/-- NORM with ROLE OPEN (R308). -/
def execNormOpen (i : Issue) (s : State) : Host.Outcome State Fault Refusal :=
  if dOp i.desc = 0x26 ∧ cOpen i.desc = true then .next (s.submit i) else .fault .illFormed

/-- NORM with ROLE MEMBER (R308). -/
def execNormMember (i : Issue) (s : State) : Host.Outcome State Fault Refusal :=
  if dOp i.desc = 0x26 ∧ cOpen i.desc = false then .next (s.submit i) else .fault .illFormed

/-- UPDATE (R366). -/
def execUpdate (i : Issue) (s : State) : Host.Outcome State Fault Refusal :=
  if dOp i.desc = 0x30 then .next (s.submit i) else .fault .illFormed

/-- PROOF_SWEEP: DIGEST with modifier 0x0001 (R80). -/
def execProofSweep (i : Issue) (s : State) : Host.Outcome State Fault Refusal :=
  if dOp i.desc = 0x50 ∧ dMod i.desc = 1 then .next (s.submit i) else .fault .illFormed

/-- DIGEST REGION (R446). -/
def execDigestRegion (i : Issue) (s : State) : Host.Outcome State Fault Refusal :=
  if dOp i.desc = 0x50 ∧ dMod i.desc = 2 then .next (s.submit i) else .fault .illFormed

/-- DIGEST VERIFY (R447). -/
def execDigestVerify (i : Issue) (s : State) : Host.Outcome State Fault Refusal :=
  if dOp i.desc = 0x50 ∧ dMod i.desc = 3 then .next (s.submit i) else .fault .illFormed

/-- SEAL_RECORD (R448). -/
def execSealRecord (i : Issue) (s : State) : Host.Outcome State Fault Refusal :=
  if dOp i.desc = 0x51 then .next (s.submit i) else .fault .illFormed

/-- INTERMISSION (R407). -/
def execIntermission (i : Issue) (s : State) : Host.Outcome State Fault Refusal :=
  if dOp i.desc = 0x60 then .next (s.submit i) else .fault .illFormed

/-- RESUME (R414). -/
def execResume (i : Issue) (s : State) : Host.Outcome State Fault Refusal :=
  if dOp i.desc = 0x61 then .next (s.submit i) else .fault .illFormed

/-- COMMIT (R494). -/
def execCommit (i : Issue) (s : State) : Host.Outcome State Fault Refusal :=
  if dOp i.desc = 0x62 then .next (s.submit i) else .fault .illFormed

end Sys2Proof.Machine
end

