-- ==== Sys2Proof/Machine/Switch.lean ====
section
/-! DEFINITION. The cell switch (chapter 6): the order of cells, the Usher, the rate limiter and echoes, the choice of an output,
ejection and multicast. -/

namespace Sys2Proof.Machine

/-- Replace the switch's state. -/
def State.setCsw (s : State) (x : Csw) : State := { s with csw := x }

/-! ## Order and age (R176 to R178) -/

/-- HOP_LIMIT, MARK_DEPTH, and the times of CSW_CFG in ns. -/
def State.hopLimit (s : State) : Nat := s.fld R.cswCfg 0 4
def State.markDepth (s : State) : Nat := s.fld R.cswCfg 4 3
def State.echoWaitTime (s : State) : Nat := s.fld R.cswCfg 8 8 * 100
def State.decGap (s : State) : Nat := s.fld R.cswCfg 16 8 * 100
def State.incPeriod (s : State) : Nat := s.fld R.cswCfg 24 8 * 1000

/-- A cell is senior. -/
def State.senior (s : State) (c : Cell) : Bool := decide (s.hopLimit ≤ c.hop.toNat)

/-- A cell goes before another that wants the same place (R177), given each one's input number. -/
def State.goesBefore (s : State) (a b : Nat × Cell) : Bool :=
  let dt := signed32 (a.2.time.toNat + 2 ^ 32 - b.2.time.toNat)
  -- a cell that a link offers again comes by that link
  let input (x : Nat) : Nat := if 64 ≤ x then x - 64 else x
  if s.senior a.2 ≠ s.senior b.2 then s.senior a.2
  else if dt ≠ 0 then decide (dt < 0)
  else if a.2.src ≠ b.2.src then decide (a.2.src.toNat < b.2.src.toNat)
  else if a.2.tag ≠ b.2.tag then decide (a.2.tag.toNat < b.2.tag.toNat)
  else if a.2.index ≠ b.2.index then decide (a.2.index.toNat < b.2.index.toNat)
  else decide (input a.1 < input b.1)

/-- Insert a cell into the order. -/
def State.insertCell (s : State) : List (Nat × Cell) → Nat × Cell → List (Nat × Cell)
  | [], x => [x]
  | y :: t, x => if s.goesBefore x y then x :: y :: t else y :: s.insertCell t x

/-- A cell has lived for 1 s. -/
def State.isAged (s : State) (c : Cell) : Bool := decide (1000000000 ≤ signed32 (s.now + 2 ^ 32 - c.time.toNat))

/-! ## Rates and echoes (R188, R189) -/

/-- The rate of a destination node. -/
def State.rateOf (s : State) (node : Nat) : Nat := tabGet 256 s.csw.rates node

/-- A full bucket: 64 cells. -/
def bucketFull : Nat := 64 * 65536

/-- A node's bucket as it stands now. -/
def State.bucket (s : State) (node : Nat) : Bucket :=
  match tabFind s.csw.buckets node with
  | some b => { credit := min bucketFull (b.credit + (s.now - b.filled) * s.rateOf node * 8650 * 65536 / 1000000), filled := s.now }
  | none => { credit := bucketFull, filled := s.now }

/-- The limiter holds a cell: a C0, C2 or C3 cell from injection or a SEAT port whose node's bucket is short of a cell. -/
def State.limited (s : State) (input : Nat) (c : Cell) : Bool :=
  let cls := c.cls.toNat
  let node := epNode c.dest.toNat
  (cls == 0 || cls == 2 || cls == 3) && (input == 32 || (decide (input < 32) && s.role input == 1)) && decide (s.rateOf node < 256)

/-- Take a cell's credit where the limiter applies to it. -/
def State.takeRate (s : State) (input : Nat) (c : Cell) : State :=
  if s.limited input c then
    let node := epNode c.dest.toNat
    let b := s.bucket node
    s.setCsw { s.csw with buckets := tabInsert s.csw.buckets node { b with credit := b.credit - 65536 } }
  else s

/-- Set a node's rate; its bucket is settled first. -/
def State.setRate (s : State) (node r : Nat) : State :=
  let b := s.bucket node
  s.setCsw { s.csw with rates := tabSet 256 s.csw.rates node r, buckets := tabInsert s.csw.buckets node b }

/-- An echo from a node: its rate falls, at most once per DEC_GAP. -/
def State.applyEcho (s : State) (node : Nat) : State :=
  let s1 := s.setCsw { s.csw with lastEcho := tabInsert s.csw.lastEcho node s.now }
  let soon := match tabFind s.csw.lastDec node with
    | some t => decide (s.now < t + s.decGap)
    | none => false
  if soon then s1.bump R.echoIgnored
  else
    let r := s.rateOf node
    let s2 := (s1.setRate node (max 1 (r - max 1 (r / 8)))).bump R.echoRx
    s2.setCsw { s2.csw with lastDec := tabInsert s2.csw.lastDec node s.now }

/-- ECHO_RX (R189): an ECHO cell, or an ECHO flag that the switch took off a C1 cell. -/
def execEchoRx (c : Cell) (s : State) : Host.Outcome State Fault Refusal :=
  if ! s.running then .next s else
  if ! cellIs c 0x15 then .fault .illFormed else .next ((s.takeEjected c).applyEcho (epNode c.src.toNat))

/-- A pending echo for the node of a marked cell's SRC. -/
def State.owesEcho (s : State) (c : Cell) : State :=
  let node := epNode c.src.toNat
  if c.cm && (tabFind s.csw.echoes node).isNone then s.setCsw { s.csw with echoes := tabInsert s.csw.echoes node s.now } else s

/-- ECHO_WAIT (R188): a pending echo that no C1 cell carried goes as an ECHO cell. -/
def execEchoWait (node : Fin 1024) (s : State) : Host.Outcome State Fault Refusal :=
  match tabFind s.csw.echoes node with
  | some t =>
    if s.running ∧ t + s.echoWaitTime ≤ s.now then
      .next (((s.setCsw { s.csw with echoes := tabErase s.csw.echoes node }).injectCell (s.mkCell 0x15 node 0 0 0)).bump R.echoTx)
    else .next s
  | none => .next s

/-- INC_PERIOD (R189): a period without an echo raises the rate by 8. -/
def execIncPeriod (node : Fin 1024) (s : State) : Host.Outcome State Fault Refusal :=
  if ! s.running then .next s else
  let last := (tabFind s.csw.lastEcho node).getD 0
  if s.rateOf node < 256 ∧ last + s.incPeriod ≤ s.now then
    let s1 := s.setRate node (min 256 (s.rateOf node + 8))
    .next (s1.setCsw { s1.csw with lastEcho := tabInsert s1.csw.lastEcho node s.now })
  else .next s

/-- SEAT_FENCE_WRITE (R185). -/
def execSeatFenceWrite (a : Source) (value : Word) (s : State) : Host.Outcome State Fault Refusal :=
  .next (s.fmRw a R.seatFence value fun t => t.setFld R.seatFence 0 16 (bits value 0 16))

/-! ## The Usher (R183 to R186, R193) -/

/-- A cell may be ejected: 0 yes, else the status of the refusal. -/
def State.mayEject (s : State) (v : PlateV) (c : Cell) : Nat :=
  let cls := c.cls.toNat
  if ! s.keyEjects v c then 9
  else if s.curtainDown c.pkey.toNat && (cls == 2 || cls == 4 || c.mcast) then 7
  else 0

/-! ## Links and ports (R174, R175) -/

/-- What a cycle has done: the inputs that gave up a cell, the links that took one, the cells ejected, and the inputs and classes whose
oldest cell got no output. -/
structure Budget where
  taken   : List Nat
  put     : List Nat
  ejected : Nat
  blocked : List (Nat × Nat)
deriving DecidableEq, Repr

/-- Free places of a class in a link's transmit queue. -/
def State.places (s : State) (n cls : Nat) : Nat := 8 - (s.link n).queued cls

/-- A link takes a cell: credit and state as they stood at the start of the cycle (R179), a free place now, and at most two cells a
cycle; a restricted link takes only C5 cells for its own peer. -/
def State.linkTakes (s0 s : State) (b : Budget) (n : Nat) (c : Cell) : Bool :=
  let x := s0.link n
  let cls := c.cls.toNat
  x.drainAt.isNone && s0.domain (288 + n) != .gated && x.maySend cls && decide (x.replay.length < 4096) &&
    decide (0 < s.places n cls) && decide ((b.put.filter fun m => m == n).length < 2) &&
    s0.linkServes n c

/-- The links of a port that take a cell. -/
def State.takers (s0 s : State) (b : Budget) (p : Nat) (c : Cell) : List Nat := (s0.portLinks p).filter fun n => s0.linkTakes s b n c

/-- The first of a list with the greatest measure. -/
def bestBy (f : Nat → Nat) : List Nat → Option Nat
  | [] => none
  | x :: t => match bestBy f t with
    | some y => if f x < f y then some y else some x
    | none => some x

/-- The link of a port that a cell takes: the most free places, the lowest index among equals. -/
def State.linkOfPort (s0 s : State) (b : Budget) (p : Nat) (c : Cell) : Option Nat :=
  bestBy (fun n => s.places n c.cls.toNat) (s0.takers s b p c)

/-- The port of a list that a cell takes: that whose links in service together have the most free places, the lowest number among
equals. -/
def State.bestPort (s0 s : State) (c : Cell) (ps : List Nat) : Option Nat :=
  bestBy (fun p => (((s0.portLinks p).filter fun n => s0.linkServes n c).map fun n => s.places n c.cls.toNat).sum) ps

/-- The port that R175 yields for a cell, and whether it is deflected; `excluded` is a port that went down (R181). -/
def State.routePort (s0 s : State) (b : Budget) (e : Route) (c : Cell) (excluded : Option Nat) : Option (Nat × Bool) :=
  let open0 := (List.range 32).filter fun p => excluded != some p && !s0.seatPort p && !(s0.takers s b p c).isEmpty
  let productive := open0.filter fun p => bit e.productive p
  let others := productive.filter fun p => p != e.preferred
  let alt := c.alt && epNode c.src.toNat == s.nodeId && !others.isEmpty
  if open0.contains e.preferred ∧ ! alt then some (e.preferred, false)
  else match s0.bestPort s c (if alt then others else productive) with
    | some p => some (p, false)
    | none =>
      if s.senior c then none
      else match s0.bestPort s c (open0.filter fun p => bit e.neutral p) with
        | some p => some (p, true)
        | none => (s0.bestPort s c open0).map fun p => (p, true)

/-- The first cell whose preferred port offers it no credit wakes that port's gated links (R42; a gate entry under way is abandoned, R43).
Of a port with several links the spec does not say which the cell prefers: every gated one wakes (DEDUCED, log entry 76). -/
def State.wakePort (s0 s : State) (b : Budget) (p : Nat) (c : Cell) : State :=
  if (s0.takers s b p c).isEmpty then
    ((s0.portLinks p).filter fun n => decide ((s.link n).state = .up) && s.domain (288 + n) != .running).foldl (fun t n => t.wakeLink n) s
  else s

/-! ## Placement (R177, R187, R188) -/

/-- Place a cell in a link's transmit queue. -/
def State.placeCell (s : State) (n : Nat) (c : Cell) (deflected : Bool) : State :=
  let cls := c.cls.toNat
  let mark := deflected || decide (s.markDepth ≤ (s.link n).queued cls)
  let node := epNode c.dest.toNat
  let echo := cls == 1 && epNode c.src.toNat == s.nodeId && (tabFind s.csw.echoes node).isSome
  let x := withCheck { c with cm := c.cm || mark, deflected := c.deflected || deflected, hop := BitVec.ofNat 4 (min 15 (c.hop.toNat + 1))
                              echo := c.echo || echo }
  let s1 := s.modLink n fun y => { y with txq := y.txq ++ [x] }
  let s2 := if mark && !c.cm then s1.bump R.marked else s1
  let s3 := if deflected then s2.bump R.deflected else s2
  let s4 := if echo then (s3.setCsw { s3.csw with echoes := tabErase s3.csw.echoes node }).bump R.echoTx else s3
  let off := R.portCells + 8 * s.portOf n
  s4.setReg64 off ((s4.reg64 off + 1) % 2 ^ 64)

/-- Take the ECHO flag off a C1 cell that has reached its node: the switch keeps an ECHO of its own to apply. -/
def State.takeFlag (s : State) (input : Nat) (c : Cell) : Cell × State :=
  if c.echo && c.cls == 1 then
    (withCheck { c with echo := false }, s.eject input (withCheck { s.mkCell 0x15 s.nodeId 0 0 0 with src := c.src }) false)
  else (c, s)

/-! ## Ejection (R168, R169, R485) -/

/-- The cells that an input holds, in the order in which it got them: a link's pool, the injection buffer, or the cells that a link offers
again (inputs from 64); a SEAT port's C0 to C3 cells are not taken while the journal has no room (R419). -/
def State.inputCells (s : State) (input : Nat) : List Cell :=
  if input = 32 then s.csw.inject
  else if 64 ≤ input then (s.csw.reroutes.filter fun e => e.1 == input - 64).map fun e => e.2
  else
    let l := (s.link input).passed ++ (s.link input).pool
    if s.script.holdInput && s.role input == 1 then l.filter fun c => decide (4 ≤ c.cls.toNat) else l

/-- Hold a link's C2 cells back: marked while they wait (R187). -/
def State.withhold (s : State) (n : Nat) : State :=
  let mark (c : Cell) : Cell := if c.cls == 2 && !c.cm then withCheck { c with cm := true } else c
  let k := ((s.inputCells n).filter fun c => c.cls == 2 && !c.cm).length
  (s.modLink n fun x => { x with pool := x.pool.map mark, passed := x.passed.map mark }).bumpBy R.marked k

/-- A piece's first cell for this node waits while the node's ring is full (R280). -/
def State.ringWaits (s : State) (c : Cell) : Bool :=
  match s.channelFor s.nodeId c.pkey.toNat (s.pieceGroups c) with
  | some (_, a) => decide (a.size ≤ a.unread) && (s.trackerOf s.nodeId c.src.toNat c.tree.toNat c.tag.toNat).isNone
  | none => false

/-- Eject a cell to its subsystem, discard it, or leave it waiting: whether it is done with, the budget and the state. `replica` marks a
multicast tree's local delivery. At most 40 cells are ejected in a cycle (Table 02-2). -/
def State.ejectTo (b : Budget) (v : PlateV) (s : State) (input : Nat) (c : Cell) (replica : Bool) : Bool × Budget × State :=
  if c.cls ≠ 5 ∧ s.isLost (epNode c.src.toNat) then (true, b, s.bump R.lostDiscard)
  else
    let refusal := s.mayEject v c
    if refusal ≠ 0 then
      (true, b, (if replica then s.bump R.mcastFenced else s).usherRefuse 33 c refusal 2 s.nodeId)
    else if 40 ≤ b.ejected then (false, b, s)
    else if forEru c ∧ s.csw.withheld.contains input then (false, b, s.withhold input)
    else if cellIs c 0x1A ∧ (s.trackerWaits s.nodeId (s.pieceGroups c) c || s.ringWaits c) then (false, b, s.countTrackWait s.nodeId c)
    else
      let r := (s.owesEcho c).takeFlag input c
      (true, { b with ejected := b.ejected + 1 }, r.2.eject input r.1 false)

/-! ## Seats (R19, R172, R193) -/

/-- What follows when a collective cell reaches a seat: arrivals, and the run of an ALLTOALL.
The receiving node's context sees the cells that it delivers to a seat (DEDUCED, log entry 93). -/
def State.seatHook (s : State) (seat : Nat) (c : Cell) : State :=
  if cellIs c 0x1A then (s.gatherCell (s.seatEp seat) c).settleAll
  else if cellIs c 0x1B then (s.takeItems c).settleAll
  else if cellIs c 0x1C then (s.takeCounts c).settleAll
  else s

/-- Deliver a cell to a seat: whether it is done with, the budget and the state. -/
def State.seatTo (s0 : State) (b : Budget) (v : PlateV) (s : State) (input : Nat) (c : Cell) (replica : Bool) : Bool × Budget × State :=
  let k := c.dest.toNat % 16
  let w := v.word 0x101 (34 + k)
  if (cellIs c 0x1B || cellIs c 0x1C) && s.a2aEjects c then
    s.ejectTo b v input c replica
  else if ! bit w 5 then (true, b, (s.bump R.noRoute).sendNotice c 11 3 c.dest.toNat)
  else if ! (s0.portLinks (bits w 0 5)).any fun n => decide ((s0.link n).state = .up) then
    (true, b, (s.bump R.noRoute).sendNotice c 3 5 c.dest.toNat)
  else
    let refusal := s.mayLeave v k c
    if refusal ≠ 0 then
      (true, b, (if replica then s.bump R.mcastFenced else s).usherRefuse (bits w 0 5) c refusal 2 c.dest.toNat)
    else if cellIs c 0x1A ∧ s.trackerWaits (s.seatEp k) (s.pieceGroups c) c then (false, b, s.countTrackWait (s.seatEp k) c)
    else match s0.linkOfPort s b (bits w 0 5) c with
      | none => (false, b, s0.wakePort s b (bits w 0 5) c)
      | some n =>
        let r := s.takeFlag input c
        let s1 := r.2.placeCell n r.1 false
        let s2 := s1.owesEcho ((((s1.link n).txq.getLast?)).getD c)
        (true, { b with put := n :: b.put }, s2.seatHook k c)

/-- Route a cell toward another node: whether it is done with, the budget and the state. -/
def State.routeTo (s0 : State) (b : Budget) (v : PlateV) (s : State) (c : Cell) (excluded : Option Nat) : Bool × Budget × State :=
  let e := routeEntry v (epNode c.dest.toNat)
  if ! e.valid then (true, b, (s.bump R.noRoute).sendNotice c 11 3 c.dest.toNat)
  else
    let s1 := s0.wakePort s b e.preferred c
    match s0.routePort s1 b e c excluded with
    | none => (false, b, s1)
    | some (p, deflected) => match s0.linkOfPort s1 b p c with
      | none => (false, b, s1)
      | some n => (true, { b with put := n :: b.put }, s1.placeCell n c deflected)

/-! ## Multicast (R190 to R193) -/

/-- The replication entry of a tree: its first word's index. -/
def treeEntry (v : PlateV) (root tree : Nat) : Option Nat :=
  ((List.range ((v.body 0x105).length / 6)).map fun i => 6 * i).find? fun k =>
    let w := v.word 0x105 k
    bits w 0 15 == root && bits w 15 2 == tree && bit w 17

/-- The replicas that a tree's entry makes of a cell at this node. -/
def State.replicas (s : State) (v : PlateV) (k : Nat) (c : Cell) : List Cell :=
  let branch (j : Nat) : Nat := bits (v.word 0x105 (k + 2 + j / 2)) (16 * (j % 2)) 16
  let branches := ((List.range 8).filter fun j => decide (0x8000 ≤ branch j)).map fun j =>
    withCheck { c with dest := BitVec.ofNat 15 (branch j % 1024), hop := 0 }
  let seats := ((List.range 16).filter fun q => bit (v.word 0x105 (k + 1)) q).map fun q =>
    withCheck { c with dest := BitVec.ofNat 15 (s.seatEp q), mcast := false }
  branches ++ seats ++ (if bit (v.word 0x105 k) 18 then [c] else [])

/-- Place what is left of a multicast cell's replicas: those still waiting, the budget and the state. -/
def State.placeReplicas (s0 : State) (v : PlateV) (input : Nat) : List Cell → Budget → State → List Cell × Budget × State
  | [], b, s => ([], b, s)
  | x :: t, b, s =>
    let r : Bool × Budget × State :=
      if x.dest.toNat = s.nodeId then
        s.ejectTo b v input x true
      else if 0x4000 ≤ x.dest.toNat then s0.seatTo b v s input x true
      else s0.routeTo b v s x none
    let q := State.placeReplicas s0 v input t r.2.1 r.2.2
    (if r.1 then q.1 else x :: q.1, q.2)

/-! ## One cell's turn (R164 to R173, R191) -/

/-- A cell as it stood, but for a congestion mark that it took while it waited. -/
def sameCell (a c : Cell) : Bool := decide ({ a with cm := c.cm, hchk := c.hchk } = c)

/-- Count a cell that has become senior at this node, once (R176). -/
def State.noteSenior (s : State) (c : Cell) : State :=
  if s.senior c && ! s.csw.seniors.any fun x => sameCell x c then (s.setCsw { s.csw with seniors := s.csw.seniors ++ [c] }).bump R.senior
  else s

/-- Remove a cell from its input: a link's pool, the injection buffer, or the cells offered again. -/
def State.leaveInput (s : State) (input : Nat) (c : Cell) : State :=
  let s1 := s.setCsw { s.csw with seniors := s.csw.seniors.filter fun x => ! sameCell x c
                                  fanouts := s.csw.fanouts.filter fun f => !(f.input == input && decide (f.cell = c)) }
  if input < 32 then
    (s1.modLink input fun x =>
      if x.passed.any (sameCell · c) then { x with passed := dropFirst (sameCell · c) x.passed }
      else ({ x with pool := dropFirst (sameCell · c) x.pool }).freeCell c.cls.toNat).noteChange input
  else if input = 32 then s1.setCsw { s1.csw with inject := dropFirst (fun a => decide (a = c)) s1.csw.inject }
  else s1.setCsw { s1.csw with reroutes := dropFirst (fun a => decide (a = (input - 64, c))) s1.csw.reroutes }

/-- A cell that leaves its input, counted in the cycle's budget. -/
def leaves (b : Budget) (input : Nat) (c : Cell) (s : State) : Budget × State := ({ b with taken := input :: b.taken }, s.leaveInput input c)

/-- The turn of a cell at a node without a Plate (R173). -/
def State.bareTurn (s0 : State) (b : Budget) (input : Nat) (c : Cell) (s : State) : Budget × State :=
  if c.cls ≠ 5 then leaves b input c (s.bump R.noRoute)
  else if c.dest.toNat = s.nodeId then
    if 40 ≤ b.ejected then (b, s) else leaves { b with ejected := b.ejected + 1 } input c (s.eject input c false)
  else
    let links := (List.range 32).filter fun n =>
      decide ((s0.link n).state = .up) && s0.fld (R.link n + 0x14) 0 15 == c.dest.toNat
    if links.isEmpty then leaves b input c (s.bump R.noRoute)
    else match bestBy (fun n => s.places n 5) (links.filter fun n => s0.linkTakes s b n c) with
      | some n => leaves { b with put := n :: b.put } input c (s.placeCell n c false)
      | none => (b, (links.filter fun n => s.domain (288 + n) != .running).foldl (fun t n => t.wakeLink n) s)

/-- The turn of a multicast cell at a node of its tree. -/
def State.treeTurn (s0 : State) (b : Budget) (v : PlateV) (input : Nat) (c : Cell) (s : State) : Budget × State :=
  match treeEntry v c.src.toNat c.tree.toNat with
  | none => leaves b input c ((s.bump R.mcastNoTree).sendNotice c 11 4 s.nodeId)
  | some k =>
    if bits (v.word 0x105 (k + 1)) 16 16 ≠ c.pkey.toNat then
      leaves b input c (s.usherRefuse (s.inputPort input) c 9 1 s.nodeId)
    else
      let old := s.csw.fanouts.find? fun f => f.input == input && decide (f.cell = c)
      let todo := match old with
        | some f => f.left
        | none => s.replicas v k c
      let r := State.placeReplicas s0 v input todo b s
      if r.1.isEmpty then
        let t := if cellIs c 0x1A && c.last && input == 32 && epNode c.src.toNat == s.nodeId then
            (r.2.2.rootPlaced c.src.toNat c.tree.toNat).settleAll else r.2.2
        leaves r.2.1 input c (t.takeRate input c)
      else
        let rest := r.2.2.csw.fanouts.filter fun f => !(f.input == input && decide (f.cell = c))
        (r.2.1, r.2.2.setCsw { r.2.2.csw with fanouts := rest ++ [{ input := input, cell := c, left := r.1 }] })

/-- The turn of a cell that passed every check: tree, ejection, seat or route. -/
def State.resolve (s0 : State) (b : Budget) (v : PlateV) (input : Nat) (c : Cell) (s : State) : Budget × State :=
  let dest := c.dest.toNat
  if c.mcast ∧ dest = s.nodeId then s0.treeTurn b v input c s
  else if dest = s.nodeId then
    let r := s.ejectTo b v input c false
    if r.1 then leaves r.2.1 input c (r.2.2.takeRate input c) else r.2
  else
    let r := if epNode dest = s.nodeId then s0.seatTo b v s input c false
      else s0.routeTo b v s c (if 64 ≤ input then some (s.portOf (input - 64)) else none)
    if r.1 then leaves r.2.1 input c (r.2.2.takeRate input c) else (r.2.1, r.2.2)

/-- The cells that an input may still give up in this cycle (R166, Table 02-2). -/
def inputLimit (input : Nat) : Nat := if input = 32 then 40 else 2

/-- The turn of one presented cell. -/
def State.cellTurn (s0 : State) (b : Budget) (input : Nat) (c : Cell) (s : State) : Budget × State :=
  if inputLimit input ≤ (b.taken.filter fun n => n == input).length then (b, s)
  else if c.hchk ≠ headerCheck c then leaves b input c ((s.bump R.hdrInternal).raiseFault 17 0xFFFF 1 0)
  else if classOfType c.typ.toNat ≠ some c.cls.toNat then leaves b input c (s.bump R.badType)
  else if s.isAged c then leaves b input c (s.bump R.aged)
  else if ! s.isSealed then s0.bareTurn b input c s
  else match s.versionOf c.epoch with
    | none => leaves b input c (s.bump R.pltEpochDiscard)
    | some v =>
      let entered := decide (64 ≤ input) || s.csw.fanouts.any fun f => f.input == input && decide (f.cell = c)
      if epReserved c.dest.toNat || epReserved c.src.toNat then leaves b input c (s.bump R.noRoute)
      else if ! entered && ! s.mayEnter v input c then leaves b input c (s.usherRefuse (s.inputPort input) c 9 1 s.nodeId)
      else if s.limited input c ∧ (s.bucket (epNode c.dest.toNat)).credit < 65536 then (b, s)
      else s0.resolve b v input c (s.noteSenior c)

/-! ## The cycle (R166, R167) -/

/-- The inputs: the links, the injection buffer, and the links' cells offered again (R181). -/
def allInputs : List Nat := List.range 33 ++ (List.range 32).map fun n => 64 + n

/-- The cells that the inputs present: of each class the oldest, unless one of that class waits (R167). -/
def State.presented (s : State) (b : Budget) : List (Nat × Cell) :=
  allInputs.flatMap fun n =>
    if inputLimit n ≤ (b.taken.filter fun x => x == n).length then []
    else (List.range 6).filterMap fun k =>
      if b.blocked.contains (n, k) then none else ((s.inputCells n).find? fun c => c.cls.toNat == k).map fun c => (n, c)

/-- A cell of a reserved class would never be presented: it is discarded when it reaches the switch (R164). -/
def badClass (c : Cell) : Bool := decide (6 ≤ c.cls.toNat)

/-- Discard the cells of a reserved class. -/
def State.dropBadClass (s : State) : State :=
  (List.range 32).foldl (fun t n => (((t.link n).passed ++ (t.link n).pool).filter badClass).foldl (fun u c => (u.leaveInput n c).bump R.badType) t) s

/-- The turn of a presented cell: where it gets no output, its class waits behind it at its input (R167). -/
def State.offerTurn (s0 : State) (a : Budget × State) (x : Nat × Cell) : Budget × State :=
  let r := State.cellTurn s0 a.1 x.1 x.2 a.2
  if r.1.taken.length = a.1.taken.length then ({ r.1 with blocked := (x.1, x.2.cls.toNat) :: r.1.blocked }, r.2) else r

/-- The turns of some cells, in the order of R177. -/
def State.turns (s0 : State) (xs : List (Nat × Cell)) (b : Budget) (s : State) : Budget × State :=
  (xs.foldl s0.insertCell []).foldl (State.offerTurn s0) (b, s)

/-- Rounds of one cycle: the inputs present their oldest cells until no input has one that may still go; `fuel` bounds the rounds by
the cells that the injection buffer may give up. -/
def State.rounds (s0 : State) : Nat → Budget → State → State
  | 0, _, s => s
  | f + 1, b, s =>
    match s.presented b with
    | [] => s
    | xs =>
      let r := State.turns s0 xs b s
      State.rounds s0 f r.1 r.2

/-- A cycle that has done nothing yet. -/
def Budget.fresh : Budget where
  taken := []
  put := []
  ejected := 0
  blocked := []

/-- One cycle of output choice. -/
def State.choose (s : State) : State :=
  let s0 := s.dropBadClass
  State.rounds s0 46 Budget.fresh s0

/-- CELL_OUTPUT_CHOICE (R175): one cycle of the switch. -/
def execCellOutputChoice (s : State) : Host.Outcome State Fault Refusal := .next (if s.running then s.choose else s)

/-- DEFERRED_EJECTION (R169): the oldest C2 cell of a link's pool, where it waits for ejection, is offered to it again. -/
def execDeferredEjection (n : LinkIx) (s : State) : Host.Outcome State Fault Refusal :=
  if ! s.running then .next s
  else match (s.inputCells n).find? fun c => c.cls == 2 with
  | some c => .next (if c.dest.toNat == s.nodeId && (forEru c || cellIs c 0x1A) then (State.cellTurn s Budget.fresh n c s).2 else s)
  | none => .next s

end Sys2Proof.Machine
end

