-- ==== Sys2Proof/Machine/VerifyNode.lean ====
section
/-! DEFINITION. Check 12 of Table 03-4 for the sections that describe the node's wiring: FABRIC (R28), NODE (R21, R29), ROUTES (R170),
REPLICATION (R190) and CHANNELS (R101). Each predicate takes section bodies and this node's ID, and holds where every rule does. -/

namespace Sys2Proof.Machine

/-- Word `k` of a body. -/
def wd (b : List Word) (k : Nat) : Word := b.getD k 0

/-- The bits of word `k` from `lo`, `len` of them, are 0. -/
def zeroField (b : List Word) (k lo len : Nat) : Bool := bits (wd b k) lo len == 0

/-- A word is 0. -/
def zeroWord (b : List Word) (k : Nat) : Bool := wd b k == 0

/-- A number lies in a range. -/
def within (lo hi x : Nat) : Bool := decide (lo ≤ x) && decide (x ≤ hi)

/-- No number repeats. -/
def noRepeats : List Nat → Bool
  | [] => true
  | x :: t => !t.contains x && noRepeats t

/-! ## FABRIC (R28) -/

/-- RACKS and SLOTS of a FABRIC body. -/
def fabricRacks (b : List Word) : Nat := bits (wd b 0) 0 8
def fabricSlots (b : List Word) : Nat := bits (wd b 0) 8 8

/-- A node that the fabric populates. -/
def fabricHas (b : List Word) (node : Nat) : Bool :=
  decide (node / 8 < fabricRacks b) && (fabricSlots b).testBit (node % 8)

/-- The FABRIC rules. -/
def fabricOk (b : List Word) (node : Nat) : Bool :=
  b.length == 8 && within 1 128 (fabricRacks b) && fabricSlots b != 0 && zeroField b 0 16 16 && zeroField b 1 8 24 &&
    (List.range 6).all (fun i => zeroWord b (2 + i)) && fabricHas b node && bits (wd b 1) 4 4 == 1

/-! ## NODE (R21, R29) -/

/-- A link's word: ROLE, PORT, PEER, PEER_LINK, DIM. -/
structure LinkWord where
  role     : Nat
  port     : Nat
  peer     : Nat
  peerLink : Nat
  dim      : Nat
deriving DecidableEq, Repr

/-- The word of link `n` of a NODE body. -/
def linkWord (b : List Word) (n : Nat) : LinkWord :=
  let w := wd b (2 + n)
  { role := bits w 0 3, port := bits w 3 5, peer := bits w 8 15, peerLink := bits w 23 5, dim := bits w 28 4 }

/-- The links in use, with their numbers. -/
def usedLinks (b : List Word) : List LinkWord := ((List.range 32).map (linkWord b)).filter fun x => x.role != 0

/-- The links of a port. -/
def linksOfPort (b : List Word) (p : Nat) : List LinkWord := (usedLinks b).filter fun x => x.port == p

/-- A port that holds links. -/
def portHolds (b : List Word) (p : Nat) : Bool := !(linksOfPort b p).isEmpty

/-- A port's role: that of its links other than EXPRESS; EXPRESS where it has no other. -/
def portRole (b : List Word) (p : Nat) : Nat :=
  match (linksOfPort b p).find? fun x => x.role != 4 with
  | some x => x.role
  | none => if portHolds b p then 4 else 0

/-- The seat words: each VALID seat with its port. -/
def seatPorts (b : List Word) : List (Nat × Nat) :=
  ((List.range 16).filter fun q => bit (wd b (34 + q)) 5).map fun q => (q, bits (wd b (34 + q)) 0 5)

/-- A seat number that the Plate assigns (R19). -/
def seatValid (b : List Word) (q : Nat) : Bool := bit (wd b (34 + q)) 5

/-- The plane neighbour of a rack in a dimension (R25). -/
def planeNeighbour (r d : Nat) : Nat :=
  if d % 2 = 0 then r ^^^ 2 ^ d
  else if parity (r % 2 ^ d) = 0 then r ^^^ (3 * 2 ^ d)
  else r ^^^ 2 ^ d

/-- A link's DIM agrees with Table 01-4, given its port's role. -/
def dimOk (b : List Word) (x : LinkWord) : Bool :=
  if x.role = 3 ∨ (x.role = 4 ∧ portRole b x.port = 3) then decide (x.dim ≤ 6) else x.dim == 15

/-- The rules of R21 for one port that holds links. -/
def portOk (b : List Word) (node p : Nat) : Bool :=
  let ls := linksOfPort b p
  match ls with
  | [] => true
  | x :: _ =>
    let role := portRole b p
    let seats := (seatPorts b).filter fun q => q.2 == p
    decide (ls.length ≤ 8) && ls.all (fun y => y.peer == x.peer && y.dim == x.dim) &&
      ls.all (fun y => y.role == role || (y.role == 4 && (role == 2 || role == 3))) &&
      (match role with
       | 1 => seats.length == 1 && seats.all fun q => x.peer == 0x4000 + node * 16 + q.1
       | 2 => seats.isEmpty && decide (x.peer < 0x400) && x.peer / 8 == node / 8 && x.peer != node
       | 4 => seats.isEmpty && decide (x.peer < 0x400) && x.peer % 8 == node % 8 && x.peer != node &&
           (List.range 7).all fun d => planeNeighbour (node / 8) d != x.peer / 8
       | _ => seats.isEmpty)

/-- No two ports of a role share a measure: a MESH port per slot, a PLANE port per dimension. -/
def portsDistinct (b : List Word) (role : Nat) (f : LinkWord → Nat) : Bool :=
  noRepeats (((List.range 32).filter fun p => portRole b p == role).map fun p => f ((linksOfPort b p).headD ⟨0, 0, 0, 0, 0⟩))

/-- The NODE rules; `fabric` is the FABRIC body. -/
def nodeOk (b fabric : List Word) (node : Nat) : Bool :=
  b.length == 50 && bits (wd b 0) 0 10 == node && zeroField b 0 10 22 && zeroWord b 1 &&
    (List.range 16).all (fun q => zeroField b (34 + q) 6 26) &&
    ((List.range 32).map (linkWord b)).all (fun x =>
      decide (x.role ≤ 4) && (x.role != 0 || (x.port == 0 && x.peer == 0 && x.peerLink == 0 && x.dim == 15)) &&
        (x.role == 0 || dimOk b x) && (x.role != 1 || x.peerLink == 0)) &&
    (seatPorts b).all (fun q => portRole b q.2 == 1) && noRepeats ((seatPorts b).map fun q => q.2) &&
    (List.range 32).all (portOk b node) && portsDistinct b 2 (fun x => x.peer) && portsDistinct b 3 (fun x => x.dim) &&
    ((List.range 32).filter fun p => portRole b p == 2).all
      (fun p => fabricHas fabric ((linksOfPort b p).headD ⟨0, 0, 0, 0, 0⟩).peer)

/-! ## ROUTES (R170) -/

/-- A port mask names only ports that hold links and are not SEAT ports. -/
def maskOk (nodeB : List Word) (m : Word) : Bool :=
  (List.range 32).all fun p => ! bit m p || (portHolds nodeB p && portRole nodeB p != 1)

/-- The ROUTES rules. -/
def routesOk (b nodeB : List Word) (node : Nat) : Bool :=
  b.length == 3072 &&
    (List.range 1024).all fun d =>
      let w := wd b (3 * d)
      let prod := wd b (3 * d + 1)
      let neut := wd b (3 * d + 2)
      zeroField b (3 * d) 9 23 && maskOk nodeB prod && maskOk nodeB neut && prod &&& neut == 0 &&
        (d != node || (bit w 8 && bits w 5 3 == 0 && prod == 0 && neut == 0)) &&
        (! bit w 8 || bits w 5 3 == 0 || bit prod (bits w 0 5))

/-! ## REPLICATION (R190) -/

/-- The branches of an entry: 16 bits each. -/
def branchesOf (b : List Word) (k : Nat) : List Nat :=
  (List.range 8).map fun j => bits (wd b (k + 2 + j / 2)) (16 * (j % 2)) 16

/-- The REPLICATION rules. -/
def replicationOk (b nodeB routes : List Word) (node : Nat) : Bool :=
  b.length % 6 == 0 && decide (b.length ≤ 24576) &&
    noRepeats ((List.range (b.length / 6)).map fun e => bits (wd b (6 * e)) 0 17) &&
    (List.range (b.length / 6)).all fun e =>
      zeroField b (6 * e) 19 13 &&
        (List.range 16).all (fun q => ! bit (wd b (6 * e + 1)) q || seatValid nodeB q) &&
        (branchesOf b (6 * e)).all fun x =>
          x / 1024 % 32 == 0 && (x < 0x8000 || (x % 1024 != node && bit (wd routes (3 * (x % 1024))) 8))

/-! ## CHANNELS (R101) -/

/-- A VALID lane entry's taps, engine and engine lane are in range. -/
def channelOk (b : List Word) (l : Nat) : Bool :=
  let w0 := wd b (2 * l)
  let w1 := wd b (2 * l + 1)
  let taps := (signedBits w0 8 6).natAbs + bits w0 14 6 + (signedBits w0 20 6).natAbs
  zeroField b (2 * l) 3 5 && zeroField b (2 * l) 26 6 && zeroField b (2 * l + 1) 27 5 && decide (taps ≤ 63) &&
    (! bit w0 0 || bit (wd b (576 + bits w1 16 6)) 7)

/-- The CHANNELS rules. -/
def channelsOk (b nodeB : List Word) : Bool :=
  b.length == 640 && (List.range 288).all (channelOk b) &&
    (List.range 64).all (fun e =>
      zeroField b (576 + e) 14 18 && (! bit (wd b (576 + e)) 7 || bits (wd b (576 + e)) 8 4 != 0)) &&
    noRepeats (((List.range 288).filter fun l => bit (wd b (2 * l)) 0).map fun l => bits (wd b (2 * l + 1)) 16 11) &&
    (List.range 288).all fun l => l % 9 == 8 || (linkWord nodeB (l / 9)).role == 0 || bit (wd b (2 * l)) 0

end Sys2Proof.Machine
end

