-- ==== Sys2Proof/Machine/VerifyFabric.lean ====
section
/-! DEFINITION. Checks 11 and 12 of Table 03-4 for the remaining sections: PARTITIONS (R431, R433), RANKS (R202), GROUPS (R283, R284),
ARITH (R82), PROGRAMS (R385, R386), TIMERS (R84), MEMORY (R234 to R238, R241), HOSTS (R496) and FAULT_POLICY (R477). -/

namespace Sys2Proof.Machine

/-! ## PARTITIONS (R431, R433) -/

/-- Key 0x0000, or a key of the PARTITIONS body. -/
def keyNamed (parts : List Part) (k : Nat) : Bool := k == 0 || parts.any fun p => p.pkey == k

/-- A node has a binding for a key; key 0x0000 needs none. -/
def boundNode (bs : List Binding) (k node : Nat) : Bool := k == 0 || bs.any fun b => b.pkey == k && b.node == node

/-- One binding keeps its rules. -/
def bindingOk (parts : List Part) (fabric : List Word) (b : Binding) : Bool :=
  match parts.find? fun p => p.pkey == b.pkey with
  | none => false
  | some p =>
    fabricHas fabric b.node && (b.member == 15 || decide (b.member < p.members)) &&
      (p.mode != 2 || b.seats == 0 || b.member != 15)

/-- No seat of a node is bound twice under one key. -/
def seatsOnce : List Binding → Bool
  | [] => true
  | b :: t => (t.all fun x => x.pkey != b.pkey || x.node != b.node || x.seats &&& b.seats == 0) && seatsOnce t

/-- The keys that each node holds number at most 4,096. -/
def keysFit (bs : List Binding) : Bool :=
  (bs.map fun b => b.node).all fun n =>
    decide (((bs.filter fun b => b.node == n).foldl (fun l b => insertNat l b.pkey) []).length ≤ 4096)

/-- The PARTITIONS rules; `owned` lists the keys of this node's counter and cell blocks. A region or a group of a key that the body does
not name is left to the rule of its own section (R234, Table 10-1). -/
def partitionsOk (b fabric memory groups : List Word) (node : Nat) (owned : List Nat) : Bool :=
  let ps := partsOf b
  let bs := bindingsOf b
  within 0 65534 (bits (wd b 0) 0 17) && zeroField b 0 17 15 && zeroField b 1 20 12 && zeroWord b 2 && zeroWord b 3 &&
    b.length == bindingsStart b + 2 * bits (wd b 1) 0 20 &&
    (ps.all fun p =>
      p.pkey != 0 && p.pkey != 0xFFFF && p.mode != 3 && decide (p.members ≤ 8) && (p.members == 0) == (p.mode == 0) &&
        zeroField b p.first 22 10 && zeroField b (p.first + 1) 10 22 && zeroWord b (p.first + 3)) &&
    noRepeats (ps.map fun p => p.pkey) &&
    (bs.all fun x => bindingOk ps fabric x && zeroField b x.first 30 2) && seatsOnce bs && keysFit bs &&
    ((regionsOf memory).all fun g => ! keyNamed ps g.pkey || boundNode bs g.pkey node) &&
    ((groupsOf groups).all fun g => ! keyNamed ps g.pkey || (nodesOf (membersOf groups g)).all fun n => boundNode bs g.pkey n) &&
    owned.all fun k => boundNode bs k node

/-- A step keeps a kept key's MODE, MEMBERS, member keys and GENERATION (R433). -/
def keysKept (old new : List Word) : Bool :=
  (partsOf old).all fun p =>
    match (partsOf new).find? fun q => q.pkey == p.pkey with
    | none => true
    | some q =>
      p.mode == q.mode && p.members == q.members && p.gen == q.gen &&
        decide ((old.drop (p.first + 4)).take (24 * p.members) = (new.drop (q.first + 4)).take (24 * q.members))

/-! ## RANKS (R202) -/

/-- The rank tables of a body. -/
def ranksOf (b : List Word) : List (Nat × Nat × Nat) := rankTables b b.length 0

/-- The RANKS rules. -/
def ranksOk (b : List Word) (parts : List Part) (bs : List Binding) (node : Nat) : Bool :=
  let ts := ranksOf b
  (match ts.getLast? with
    | some (_, n, k) => b.length == k + (n + 1) / 2
    | none => b.isEmpty) &&
    (ts.all fun t => t.2.1 != 0 && keyNamed parts t.1 && (t.2.1 % 2 == 0 || zeroField b (t.2.2 + t.2.1 / 2) 16 16)) &&
    noRepeats (ts.map fun t => t.1) &&
    decide (((ts.filter fun t => t.1 != 0 && boundNode bs t.1 node).map fun t => t.2.1).sum ≤ 524288)

/-! ## GROUPS (R283, R284) -/

/-- A COMBINED member follows the seat one lower of the same node, which is not COMBINED. -/
def combinedOk : Option GMember → List GMember → Bool
  | _, [] => true
  | prev, x :: t =>
    (! x.combined || (match prev with
      | some p => ! p.combined && decide (0x4000 ≤ p.ep) && decide (0x4000 ≤ x.ep) && epNode p.ep == epNode x.ep && p.ep + 1 == x.ep
      | none => false)) && combinedOk (some x) t

/-- Endpoints strictly ascend. -/
def ascending : List Nat → Bool
  | x :: y :: t => decide (x < y) && ascending (y :: t)
  | _ => true

/-- One group keeps its rules. -/
def groupOk (b ranks : List Word) (parts : List Part) (nm : Nat) (g : Group) : Bool :=
  let ms := membersOf b g
  keyNamed parts g.pkey && within 1 17408 g.m && within 1 128 g.rg && within 1 8 g.sg && decide (g.first + g.m ≤ nm) &&
    (ms.all fun x => ! epReserved x.ep && rankIn ranks g.pkey x.rank == some x.ep) && ascending (ms.map fun x => x.ep) &&
    combinedOk none ms && (racksOf ms).length == g.rg && (slotsOf ms).length == g.sg && (nodesOf ms).length == g.rg * g.sg

/-- Member ranges do not overlap. -/
def rangesApart : List Group → Bool
  | [] => true
  | g :: t => (t.all fun h => decide (g.first + g.m ≤ h.first ∨ h.first + h.m ≤ g.first)) && rangesApart t

/-- The GROUPS rules. -/
def groupsOk (b ranks : List Word) (parts : List Part) : Bool :=
  let ng := groupCount b
  let nm := memberCount b
  b.length == 4 + 4 * ng + 2 * nm && decide (ng ≤ 4096) && decide (nm ≤ 262144) && zeroField b 0 13 19 && zeroField b 1 19 13 &&
    zeroWord b 2 && zeroWord b 3 &&
    (List.range ng).all (fun k =>
      zeroField b (4 + 4 * k) 12 4 && zeroField b (5 + 4 * k) 18 14 && zeroField b (6 + 4 * k) 15 1 && zeroField b (6 + 4 * k) 28 4 &&
        zeroWord b (7 + 4 * k)) &&
    (List.range nm).all (fun k => zeroField b (4 + 4 * ng + 2 * k) 18 14 && zeroField b (5 + 4 * ng + 2 * k) 16 16) &&
    noRepeats ((groupsOf b).map fun g => g.num) && (groupsOf b).all (groupOk b ranks parts nm) && rangesApart (groupsOf b)

/-! ## ARITH (R82) -/

/-- The ARITH rules (check 11). -/
def arithOk (b : List Word) : Bool :=
  b.length == 4 && bits (wd b 0) 0 16 == 1 && zeroField b 0 16 16 && bit (wd b 1) 0 && zeroField b 1 3 29 && zeroField b 2 2 30 &&
    decide (bits (wd b 2) 0 2 < 3) && bit (wd b 1) (bits (wd b 2) 0 2) && zeroWord b 3

/-! ## PROGRAMS (R385, R386) -/

/-- The fields that a micro-operation uses: D, and A, B, C as registers (Table 12-5). -/
structure Uses where
  d    : Bool
  regs : List Nat
  rest : List (Nat × Nat)
deriving DecidableEq, Repr

/-- The uses of a code: a destination, the register operands (0 A, 1 B, 2 C), and the other operands with the greatest value of each;
`none` for a code not in Table 12-5. -/
def usesOf (code : Nat) : Option Uses :=
  if code = 0 then some ⟨false, [], []⟩
  else if [0x01, 0x08, 0x0B, 0x0C, 0x10].contains code then some ⟨true, [0], []⟩
  else if [0x02, 0x03, 0x04, 0x05, 0x09, 0x0A, 0x0D].contains code then some ⟨true, [0, 1], []⟩
  else if [0x06, 0x07, 0x0E].contains code then some ⟨true, [0, 1, 2], []⟩
  else if code = 0x20 then some ⟨true, [], [(0, 7)]⟩
  else if code = 0x21 then some ⟨true, [], []⟩
  else if code = 0x22 then some ⟨false, [1], [(0, 7)]⟩
  else if code = 0x23 then some ⟨true, [], [(0, 15)]⟩
  else if code = 0x24 then some ⟨false, [0], [(1, 1)]⟩
  else if code = 0x25 then some ⟨true, [], [(0, 1)]⟩
  else none

/-- Operand `i` of a micro-operation: 0 A, 1 B, 2 C. -/
def uOperand (w : Word) (i : Nat) : Nat := if i = 0 then uA w else if i = 1 then uB w else uC w

/-- The part of a word's checks that does not depend on where it stands. -/
def uopOk (w : Word) (u : Uses) : Bool :=
  bits w 28 4 == 0 && (u.d || uD w == 0) && (u.rest.all fun r => decide (uOperand w r.1 ≤ r.2)) &&
    (List.range 3).all fun i => u.regs.contains i || (u.rest.any fun r => r.1 == i) || uOperand w i == 0

/-- A prologue word: scalars only, writing s10 to s15. -/
def proOk (w : Word) : Bool :=
  match usesOf (uCode w) with
  | none => false
  | some u =>
    decide (uCode w ≤ 0x10) && uopOk w u && (! u.d || within 26 31 (uD w)) && u.regs.all fun i => decide (16 ≤ uOperand w i)

/-- Body words from a point on, given the element registers written so far. -/
def bodyOk : List Word → List Nat → Bool
  | [], _ => true
  | w :: t, set =>
    match usesOf (uCode w) with
    | none => false
    | some u =>
      uCode w != 0x10 && uopOk w u && (! u.d || decide (uD w < 16)) &&
        (u.regs.all fun i => decide (16 ≤ uOperand w i) || set.contains (uOperand w i)) &&
        bodyOk t (if u.d then uD w :: set else set)

/-- One custom program keeps its rules. -/
def customOk (c : Custom) : Bool :=
  let streams := fun code => (c.prog.body.filter fun w => uCode w == code).map uA
  decide (0x100 ≤ c.id) && bits c.head0 29 3 == 0 && bits c.head1 17 15 == 0 && decide (c.npro ≤ 32) && within 1 64 c.nbody &&
    c.prog.pro.all proOk && bodyOk c.prog.body [] && bits c.head1 0 8 == c.prog.reads && bits c.head1 8 8 == c.prog.writes &&
    bit c.head1 16 == c.prog.grad && noRepeats (streams 0x22) && ! (c.prog.has 0x24 && c.prog.has 0x25) &&
    (! (c.prog.has 0x24 || c.prog.has 0x25) || ! ((streams 0x20).contains 7 || (streams 0x22).contains 7))

/-- The PROGRAMS rules. -/
def programsOk (b : List Word) : Bool :=
  match b with
  | [] => true
  | w :: t =>
    decide (bits w 0 7 ≤ 64) && bits w 7 25 == 0 &&
      (match readCustoms (bits w 0 7) t with
       | none => false
       | some (cs, rest) => rest.isEmpty && cs.all customOk && noRepeats (cs.map fun c => c.id))

/-! ## TIMERS (R84) -/

/-- The TIMERS rules. -/
def timersOk (b : List Word) : Bool :=
  b.length == 7 &&
    ([(100, 1000000), (100, 1000000), (100, 100000), (1000, 1000000), (100, 100000), (1000, 1000000), (1, 65535)].zip b).all
      fun e => within e.1.1 e.1.2 e.2.toNat

/-! ## MEMORY (R234 to R238, R241) -/

/-- Masks from word `k`: `n` used of `m`, each one-to-one in the low `n` bits (R241), with no bit above `top`. -/
def masksOk (b : List Word) (k n m top : Nat) : Bool :=
  (List.range m).all fun i =>
    let x := maskAt b (k + 2 * i)
    if i < n then x % 2 ^ n == 2 ^ i && decide (x < 2 ^ (top + 1)) else x == 0

/-- The MEMORY header's rules. -/
def memoryHeaderOk (b : List Word) : Bool :=
  let nk := nearK b
  let fw := farWays b
  let fk := farK b
  let nears := (List.range (2 ^ nk)).map (byteOf b 4)
  let fars := ((List.range fw).map fun q => (List.range (2 ^ fk)).map fun j => byteOf b 20 (8 * q + j)).flatten
  b.length == 64 + 4 * bits (wd b 3) 0 17 && decide (nk ≤ 6) && zeroField b 0 3 5 && zeroField b 0 10 6 && zeroField b 0 18 14 &&
    (fw != 0 || fk == 0) && within 1 524288 (nearSize b) && zeroField b 1 20 12 && within 0 4194304 (farSize b) &&
    (farSize b == 0) == (fw == 0) && zeroField b 2 23 9 && decide (bits (wd b 3) 0 17 ≤ 65536) && zeroField b 3 17 15 &&
    nears.all (fun p => decide (p < 64)) && noRepeats nears && fars.all (fun p => decide (p < 24)) && noRepeats fars &&
    (List.range 64).all (fun i => i < 2 ^ nk || byteOf b 4 i == 255) &&
    (List.range 24).all (fun i => (decide (i / 8 < fw) && decide (i % 8 < 2 ^ fk)) || byteOf b 20 i == 255) &&
    masksOk b 26 nk 6 33 && masksOk b 38 fk 3 36 && within 1 16 (bits (wd b 44) 0 5) && zeroField b 44 5 27 &&
    within 1 1024 (bits (wd b 45) 0 11) && zeroField b 45 11 21 && (List.range 18).all (fun i => zeroWord b (46 + i)) &&
    decide (nearSize b ≤ 2 ^ nk * bits (wd b 44) 0 5 * 512) && decide (farSize b ≤ fw * 2 ^ fk * bits (wd b 45) 0 11 * 512)

/-- The region entries' rules (R234, R235, R431). -/
def regionsOk (b : List Word) (parts : List Part) : Bool :=
  let rs := regionsOf b
  let mode (k : Nat) : Nat := ((parts.find? fun p => p.pkey == k).map fun p => p.mode).getD 0
  noRepeats (rs.map fun g => g.num) &&
    (rs.all fun g =>
      keyNamed parts g.pkey && within 1 524288 g.size && (g.zero || g.xts) && (mode g.pkey != 0 || ! g.xts) && (mode g.pkey != 2 || g.xts)) &&
    (List.range (bits (wd b 3) 0 17)).all fun i => zeroField b (66 + 4 * i) 2 30 && zeroWord b (67 + 4 * i)

/-- The layout of a tier: its widths, channel list and masks. -/
def nearLayout (b : List Word) : List Nat := nearK b :: ((List.range 28).map fun i => (wd b (if i < 16 then 4 + i else 10 + i)).toNat)
def farLayout (b : List Word) : List Nat :=
  farWays b :: farK b :: ((List.range 12).map fun i => (wd b (if i < 6 then 20 + i else 32 + i)).toNat)

/-- A step keeps the kept regions, the layout of a tier in use, and every occupied extent (R238). -/
def memoryKept (old new : List Word) (places : Tab Place) (occ : Occupied) : Bool :=
  ((regionsOf old).all fun g =>
    match (regionsOf new).find? fun h => h.num == g.num with
    | none => true
    | some h => g.pkey == h.pkey && g.size == h.size && g.tier == h.tier && g.xts == h.xts) &&
    (occ.near.all fun r => decide (r.1 + r.2 ≤ nearSize new)) && (occ.far.all fun r => decide (r.1 + r.2 ≤ farSize new)) &&
    (! (places.any fun p => p.2.nearLen != 0) || nearLayout old == nearLayout new) &&
    (! (places.any fun p => p.2.farLen != 0) || farLayout old == farLayout new)

/-! ## HOSTS and FAULT_POLICY (R496, R477) -/

/-- The HOSTS rules. -/
def hostsOk (b : List Word) : Bool :=
  b.isEmpty || (b.length == 64 && (List.range 16).all fun w => zeroField b (2 * w) 2 30 && zeroField b (2 * w + 1) 6 26)

/-- The FAULT_POLICY rules. -/
def policyOk (b : List Word) : Bool :=
  b.isEmpty ||
    (within 8 136 b.length && decide (bits (wd b 0) 0 2 < 3) && zeroField b 0 2 30 && zeroField b 1 11 5 && zeroField b 1 27 5 &&
      within 100 10000 (wd b 2).toNat && within 20 1000 (wd b 3).toNat && (List.range 4).all (fun i => zeroWord b (4 + i)) &&
      ((b.drop 8).all fun w =>
        codeListed (bits w 0 8) && within (defaultClass (bits w 0 8)) 2 (bits w 8 2) && bits w 12 20 == 0) &&
      noRepeats ((b.drop 8).map fun w => bits w 0 8))

end Sys2Proof.Machine
end

