-- ==== Sys2Proof/Machine/Verify.lean ====
section
/-! DEFINITION. Verification of a loaded Plate: the header and the directory (R54 to R58), the twelve checks of Table 03-4 in order
(R62), the Proof (R76) and the arithmetic signature (R82), and the version that a Plate which passes produces (R64). -/

namespace Sys2Proof.Machine

/-! ## The Plate's words (R53 to R56) -/

/-- A directory entry (Table 03-2). -/
structure Entry where
  index   : Nat
  ty      : Nat
  node    : Nat
  off     : Nat
  len     : Nat
  present : Bool
  extra   : Nat
  digest  : BitVec 384
deriving DecidableEq, Repr

/-- A bit string from `n` words at word `k`, in byte order. -/
def wordsAt (m : Nat) (p : List Word) (k n : Nat) : BitVec m := BitVec.ofNat m (ofBytes (wordBytes ((p.drop k).take n)))

/-- Directory entry `i`. -/
def entryAt (p : List Word) (i : Nat) : Entry :=
  let k := 64 + 16 * i
  { index := i, ty := bits (wd p k) 0 16, node := bits (wd p k) 16 16, off := (wd p (k + 1)).toNat, len := (wd p (k + 2)).toNat
    present := bit (wd p (k + 3)) 0, extra := bits (wd p (k + 3)) 1 31, digest := wordsAt 384 p (k + 4) 12 }

/-- ENTRIES. -/
def entryCount (p : List Word) : Nat := bits (wd p 5) 0 14

/-- The directory. -/
def directory (p : List Word) : List Entry := (List.range (entryCount p)).map (entryAt p)

/-- An entry's body. -/
def Entry.body (e : Entry) (p : List Word) : List Word := (p.drop e.off).take e.len

/-- Fields of the header (Table 03-1). -/
def plateKind (p : List Word) : Nat := bits (wd p 1) 16 8
def plateFull (p : List Word) : Bool := plateKind p == 1

/-- A failed check: PLT_ERROR.CODE and DETAIL. -/
structure Failure where
  code   : Nat
  detail : Nat
deriving DecidableEq, Repr

/-! ## Checks 1 to 6 -/

/-- Check 1. -/
def checkLength (p : List Word) (len : Nat) : Option Failure :=
  let n := entryCount p
  if p.length = len ∧ len = (wd p 4).toNat ∧ within 96 2097152 (wd p 4).toNat ∧ within 1 8192 n ∧ 64 + 16 * n + 24 ≤ (wd p 4).toNat then none
  else some ⟨3, p.length⟩

/-- Check 5: the signature over the header and the directory (R56). -/
def checkSignature (p : List Word) (key : BitVec 768) : Bool :=
  ecdsaVerify key (sha384 (wordBytes (p.take (64 + 16 * entryCount p)))) (wordsAt 768 p (p.length - 24) 24)

/-- Every header bit that no other check covers is 0. -/
def headerZero (p : List Word) : Bool :=
  zeroField p 5 14 18 && zeroWord p 6 && zeroWord p 7 && (List.range 44).all fun i => zeroWord p (20 + i)

/-- The fabric-wide and the node section types of Table 03-3. -/
def fabricTypes : List Nat := [1, 2, 3, 4, 5, 6, 7]
def nodeTypes : List Nat := [0x101, 0x102, 0x103, 0x104, 0x105, 0x106, 0x107]

/-- The directory's order: NODE, then TYPE; fabric-wide entries carry NODE 0xFFFF and stand last. -/
def Entry.key (e : Entry) : Nat := e.node * 65536 + e.ty

/-- Two bodies share no word. -/
def Entry.apart (a b : Entry) : Bool :=
  ! a.present || ! b.present || a.len == 0 || b.len == 0 || decide (a.off + a.len ≤ b.off) || decide (b.off + b.len ≤ a.off)

/-- One entry keeps R55 and R58's types, given the entries before it. -/
def entryOk (p : List Word) (before : List Entry) (e : Entry) : Bool :=
  (if fabricTypes.contains e.ty then e.node == 0xFFFF else nodeTypes.contains e.ty && decide (e.node < 1024)) && e.extra == 0 &&
    (if e.present then decide (64 + 16 * entryCount p ≤ e.off) && decide (e.off + e.len + 24 ≤ p.length) else e.off == 0) &&
    before.all (fun b => decide (b.key < e.key) && b.apart e)

/-- The first entry that breaks the directory rules. -/
def badEntry (p : List Word) : List Entry → List Entry → Option Nat
  | _, [] => none
  | before, e :: t => if entryOk p before e then badEntry p (before ++ [e]) t else some e.index

/-- The entry of a type for a node, or fabric-wide. -/
def findEntry (p : List Word) (ty node : Nat) : Option Entry :=
  (directory p).find? fun e => e.ty == ty && e.node == (if fabricTypes.contains ty then 0xFFFF else node)

/-- A required section of a full Plate that is not present, NODE apart. -/
def missingSection (p : List Word) (node : Nat) : Option Nat :=
  (fabricTypes ++ [0x102, 0x103, 0x104]).find? fun ty => ! (findEntry p ty node).any fun (e : Entry) => e.present

/-- Check 6. -/
def checkDirectory (p : List Word) (node : Nat) : Option Failure :=
  if ! headerZero p then some ⟨4, 0xFFFF⟩
  else match badEntry p [] (directory p) with
    | some i => some ⟨4, i⟩
    | none =>
      if plateFull p then (missingSection p node).map fun ty => ⟨4, 0x8000 + ty⟩
      else none

/-- Check 7. -/
def nodeSection (p : List Word) (node : Nat) : Bool :=
  match findEntry p 0x101 node with
  | some e => e.present || ! plateFull p
  | none => false

/-- Check 8: the first present section whose digest does not match. -/
def badDigest (p : List Word) : Option Nat :=
  ((directory p).find? fun e => e.present && decide (sha384 (wordBytes (e.body p)) ≠ e.digest)).map fun e => e.index

/-! ## Checks 9 and 10 -/

/-- A section of the active version is carried: listed, and present or of an equal digest (R71). -/
def carried (p : List Word) (node : Nat) (x : PSection) : Bool :=
  match findEntry p x.ty node with
  | some e => e.present || decide (e.digest = x.digest)
  | none => false

/-- The sections that a Plate may leave out; an empty one loads exactly as an absent one (R58). -/
def optionalTypes : List Nat := [0x105, 0x106, 0x107]

/-- An absent entry of this node, or fabric-wide, carries an active section; a table that the version has empty carries the digest of an
empty body (R58). -/
def absentCarried (node : Nat) (v : PlateV) (e : Entry) : Bool :=
  e.present || (e.node != 0xFFFF && e.node != node) || (v.sections.any fun x => x.ty == e.ty && decide (x.digest = e.digest)) ||
    (optionalTypes.contains e.ty && ! (v.sections.any fun x => x.ty == e.ty) && decide (e.digest = sha384 []))

/-- Check 9 (R70, R71). -/
def checkBase (p : List Word) (node : Nat) (active : Option PlateV) : Bool :=
  wd p 2 != 0 &&
    match active with
    | none => plateFull p && wd p 3 == 0
    | some v =>
      ! plateFull p && wd p 3 == v.state && wd p 2 == v.state + 1 && v.sections.all (carried p node) &&
        (directory p).all (absentCarried node v)

/-- The sections that the version holds: those present for this node, and those carried over. -/
def newSections (p : List Word) (node : Nat) (active : Option PlateV) : List PSection :=
  (fabricTypes ++ nodeTypes).filterMap fun ty =>
    match findEntry p ty node with
    | some e =>
      if e.present then (if optionalTypes.contains ty && e.len == 0 then none else some { ty := ty, words := e.body p, digest := e.digest })
      else (active.bind fun v => v.sections.find? fun x => x.ty == ty)
    | none => none

/-- A record of R76. -/
def proofRecord (x : PSection) : List Byte := natBytes x.ty 2 ++ natBytes x.words.length 4 ++ toBytes x.digest 48

/-- The digest of the records of some types, in ascending TYPE order. -/
def recordsDigest (xs : List PSection) (tys : List Nat) : BitVec 384 :=
  sha384 ((xs.filter fun x => tys.contains x.ty).flatMap proofRecord)

/-- The Proof (R76) and the arithmetic signature (R82). -/
def proofOf (xs : List PSection) : BitVec 384 := recordsDigest xs fabricTypes
def arithSigOf (xs : List PSection) : BitVec 384 := recordsDigest xs [5, 6]

/-! ## Checks 11 and 12 -/

/-- The version that a Plate produces, before its regions are placed. -/
def versionOfPlate (p : List Word) (node : Nat) (active : Option PlateV) : PlateV :=
  let xs := newSections p node active
  { state := wd p 2, full := plateFull p, proof := proofOf xs, arithSig := arithSigOf xs, sections := xs, places := [] }

/-- The extents that count as occupied: those of the active, the retiring and the armed version, and those awaiting scrub (R239). -/
def State.occupied (s : State) : Occupied :=
  let of (o : Option PlateV) : Tab Place := (o.map fun v => v.places).getD []
  let places := of s.plt.active ++ of s.plt.retiring ++ (if s.plt.armed then of s.plt.standby else [])
  let o := places.foldl (fun a e => a.add e.2) { near := [], far := [] }
  s.mem.scrub.foldl (fun a e => if e.far then a.addFar e.base e.len else a.addNear e.base e.len) o

/-- The keys of this node's counter blocks and exact-cell blocks. -/
def State.ownedKeys (s : State) : List Nat :=
  (((List.range 1024).map fun b => (s.reg (R.ctrKey b)).toNat) ++ (List.range 1024).map fun b => (s.reg (R.cellKey b)).toNat).filter
    fun k => k != 0xFFFF

/-- The placement of a version's regions: kept ones stay, new ones are placed (R236 to R238). -/
def State.placeVersion (s : State) (v : PlateV) : Option (Tab Place) :=
  placement (v.body 0x104) ((s.plt.active.map fun x => x.places).getD []) s.occupied

/-- Check 12: the first section type whose table rules a version breaks, in ascending order of type. -/
def State.badSection (s : State) (v : PlateV) : Option Nat :=
  let node := s.nodeId
  let b (ty : Nat) := v.body ty
  let ps := partsOf (b 2)
  let kept (f : PlateV → Bool) : Bool := (s.plt.active.map f).getD true
  ([(1, fabricOk (b 1) node),
    (2, partitionsOk (b 2) (b 1) (b 0x104) (b 4) node s.ownedKeys && kept fun x => keysKept (x.body 2) (b 2)),
    (3, ranksOk (b 3) ps (bindingsOf (b 2)) node),
    (4, groupsOk (b 4) (b 3) ps),
    (6, programsOk (b 6)),
    (7, timersOk (b 7)),
    (0x101, nodeOk (b 0x101) (b 1) node),
    (0x102, routesOk (b 0x102) (b 0x101) node),
    (0x103, channelsOk (b 0x103) (b 0x101)),
    (0x104, memoryHeaderOk (b 0x104) && regionsOk (b 0x104) ps && (kept fun x => memoryKept (x.body 0x104) (b 0x104) x.places s.occupied) &&
      (s.placeVersion v).isSome),
    (0x105, replicationOk (b 0x105) (b 0x101) (b 0x102) node),
    (0x106, hostsOk (b 0x106)),
    (0x107, policyOk (b 0x107))].find? fun e => ! e.2).map fun e => e.1

/-- The checks of Table 03-4 after check 6, in order: the failure, or the version with its regions placed. -/
def State.checkVersion (s : State) (p : List Word) : Except Failure PlateV :=
  let node := s.nodeId
  let v := versionOfPlate p node s.plt.active
  match badDigest p with
  | some i => .error ⟨5, i⟩
  | none =>
    if ! checkBase p node s.plt.active then .error ⟨8, ((s.plt.active.map fun (x : PlateV) => x.state.toNat).getD 0)⟩
    else if v.proof ≠ wordsAt 384 p 8 12 then .error ⟨9, 0⟩
    else if ! arithOk (v.body 5) then .error ⟨11, bits (v.word 5 0) 0 16⟩
    else match s.badSection v with
      | some ty => .error ⟨10, ty⟩
      | none => .ok { v with places := (s.placeVersion v).getD [] }

/-- Checks 1 to 6 of Table 03-4. -/
def State.checkPlate (s : State) (p : List Word) : Option Failure :=
  let slot := bits (wd p 1) 24 8
  let signer := s.signer slot
  match checkLength p (s.reg R.pltEngLen).toNat with
  | some f => some f
  | none =>
    if wd p 0 ≠ 0x544C505A then some ⟨1, 0⟩
    else if bits (wd p 1) 0 16 ≠ 1 ∨ ! (plateKind p == 1 || plateKind p == 2) then some ⟨2, bits (wd p 1) 0 24⟩
    else if 4 ≤ slot ∨ ! signer.enrolled ∨ signer.revoked then some ⟨16, slot⟩
    else if ! checkSignature p signer.key then some ⟨6, 0⟩
    else checkDirectory p s.nodeId

/-- The load fails: both banks unchanged (R64). -/
def State.loadFails (s : State) (f : Failure) : State := (s.setPlt s.plt.failed).pltErr f.code f.detail

/-- The load becomes READY: its version's tables are in the standby bank (R64). -/
def State.loadReady (s : State) (v : PlateV) : State :=
  s.setPlt { s.plt with eng := .ready, owned := false, words := [], standby := some v }

/-- Check 7 and its KPR_POS.NO_SECTION, then the rest. -/
def State.verify (s : State) : State :=
  let p := s.plt.words.reverse
  match s.checkPlate p with
  | some f => s.loadFails f
  | none =>
    let has := nodeSection p s.nodeId
    let s1 := { s with kpr := { s.kpr with noSection := ! has } }
    if ! has then s1.loadFails ⟨7, s.nodeId⟩
    else match s1.checkVersion p with
      | .error f => s1.loadFails f
      | .ok v => s1.loadReady v

/-- Note that a verification ended in this cycle (R65). -/
def State.endedNow (s : State) : State := s.setPlt { s.plt with cancelledAt := some s.clk.count }

/-- VERIFICATION_DONE (R62, R64, R65): the checks' outcome, within 10 ms of CLOSE. A CANCEL of the same cycle is ignored. -/
def execVerificationDone (s : State) : Host.Outcome State Fault Refusal :=
  if s.plt.eng = .verifying ∨ (s.plt.eng = .idle ∧ s.plt.cancelledAt = some s.clk.count) then
    .next (({ s with plt := { s.plt with eng := .verifying, cancelledAt := none } } : State).verify.endedNow)
  else .next s

end Sys2Proof.Machine
end

