-- ==== Sys2Proof/Machine/Plate.lean ====
section
/-! DEFINITION. A version becomes active and retires: SEAL (R68 to R70), the flip (R74) and the release of the retiring version (R75),
with what each means for links (R144), regions (R239, R240), key slots (R433), curtains (R491) and drains (R229, R319). -/

namespace Sys2Proof.Machine

/-! ## What follows a new active version -/

/-- The regions of a version begin as R240 says, but for those that the old version has: waiting for their key, or zeroing. -/
def State.startRegions (s : State) (old : Option PlateV) (v : PlateV) : State :=
  v.regions.foldl (fun t g =>
    if (old.bind fun o => o.region g.num).isSome then t
    else if v.mode g.pkey ≠ 0 ∧ ! t.keyEverOpen g.pkey then { t with mem := { t.mem with keyWait := t.mem.keyWait ++ [g.num] } }
    else if g.zero then { t with mem := { t.mem with zeroing := t.mem.zeroing ++ [g.num] } }
    else t) s

/-- Each lane's entry and each engine word take the Plate's value (R69, R102). -/
def State.loadChannels (s : State) (v : PlateV) : State :=
  let s1 := (List.range 288).foldl (fun t l =>
    (t.setReg (R.lane l + 8) (v.word 0x103 (2 * l))).setReg (R.lane l + 0xC) (v.word 0x103 (2 * l + 1))) s
  (List.range 64).foldl (fun t e => t.setReg (R.laneEngine + 4 * e) (v.word 0x103 (576 + e))) s1

/-- PIN_CLASS takes the value of a FAULT_POLICY section (R69, R477). -/
def State.loadPinClass (s : State) (v : PlateV) : State :=
  if (v.body 0x107).isEmpty then s else s.setReg R.faultCfg (BitVec.ofNat 32 (bits (v.word 0x107 0) 0 2))

/-- One link under the roles of a version that has just become active (R144): a link without a role drains, an UP link is checked
against its role, any other starts TRAIN. Outside RUN the links wait for the wake (R511). -/
def State.roleLink (s : State) (n : Nat) : State :=
  let x := s.link n
  if ! s.running then s
  else if s.role n = 0 then s.startDrain n
  else if x.state = .up then
    match x.peerIdent with
    | some p => s.checkPeer n p
    | none => s
  else if bit (s.reg (R.link n + 8)) 0 then s
  else s.startTrain n

/-- The links whose LINK_ROLE differs between two versions. -/
def rolesChanged (old v : PlateV) : List Nat := (List.range 32).filter fun n => old.word 0x101 (2 + n) != v.word 0x101 (2 + n)

/-! ## SEAL -/

/-- Everything that the seal of a version sets off, once it is active. -/
def State.sealed (s : State) (v : PlateV) : State :=
  let t : State := { s with plt := { s.plt with sealedAt := some s.clk.count } }
  let s1 := ((t.loadChannels v).loadPinClass v).holdPorts v
  let s2 := ((s1.slotsFollow none v).startRegions none v).watchAnchors none v
  ((List.range 32).foldl (fun t n => t.roleLink n) s2).journalPlate 1 v

/-- SEAL (R68 to R70, R144, R555). -/
def execSealPlate (w : Win) (s : State) : Host.Outcome State Fault Refusal :=
  if ! s.winFm w then .next (s.violation w 2 true R.pltEngCtl)
  else match s.plt.eng, s.plt.standby with
    | .ready, some v =>
      if v.full ∧ ! s.isSealed then .next ((s.setPlt { s.plt with eng := .idle, standby := none, active := some v, cancelledAt := none }).sealed v)
      else .next s
    | _, _ => .next s

/-! ## FLIP -/

/-- The keys of a version that this node holds. -/
def PlateV.keysHeld (v : PlateV) (node : Nat) : List Nat :=
  (v.bindings.filter fun b => b.node == node).foldl (fun l b => insertNat l b.pkey) []

/-- The arrival channels end whose partition or group a step takes from this node (R275). -/
def State.endChannels (s : State) (v : PlateV) : State :=
  let keep (a : Arr) : Bool := (a.pkey == 0 || v.holds a.pkey s.nodeId) && (v.group a.group).any fun g => g.pkey == a.pkey
  let arrs := s.prm.arrs.filter fun e => keep e.2
  { s with prm := { s.prm with arrs := arrs, trackers := s.prm.trackers.filter fun e => (tabFind arrs e.2.chan).isSome } }

/-- The partitions and the groups that a step takes from this node begin their drain (R75, R229, R319). -/
def State.drainRemoved (s : State) (old v : PlateV) : State :=
  let s1 := ((old.keysHeld s.nodeId).filter fun k => ! v.holds k s.nodeId).foldl
    (fun t k => t.drainAtDeadline (.partition (BitVec.ofNat 16 k))) s
  ((groupsOf (old.body 4)).filter fun g => ! (v.group g.num).any fun h => h.pkey == g.pkey).foldl
    (fun t g => t.drainAtDeadline (.group (Fin.ofNat 4096 g.num))) s1

/-- Clear the lost set (R485). -/
def State.clearLost (s : State) : State := (List.range 32).foldl (fun t i => t.setReg (R.kprLost + 4 * i) 0) s

/-- Everything that a flip sets off, once the new version is active. -/
def State.flipped (s : State) (old v : PlateV) : State :=
  let s1 := ((s.loadChannels v).loadPinClass v).holdPorts v
  let s2 := ((s1.clearLost.slotsFollow (some old) v).startRegions (some old) v).watchAnchors (some old) v
  let s3 := ((s2.raiseCurtains v).endChannels v).drainRemoved old v
  ((rolesChanged old v).foldl (fun t n => t.roleLink n) s3).journalPlate 2 v

/-- The controller at the flip: the standby version becomes active, and the active one retires (R74, R75). -/
def Plt.flip (p : Plt) (at0 : Nat) (old v : PlateV) : Plt :=
  { p with eng := .idle, armed := false, flippedAt := some at0, cancelledAt := none, standby := none, active := some v, retiring := some old
           retireAt := p.flipTime + (v.word 7 4).toNat * 1000 }

/-- FLIP (R74): at the flip time of an armed step. -/
def execFlip (s : State) : Host.Outcome State Fault Refusal :=
  match s.plt.active, s.plt.standby with
  | some old, some v =>
    if s.plt.armed ∧ s.plt.flipTime ≤ s.now then .next ((s.setPlt (s.plt.flip s.clk.count old v)).flipped old v) else .next s
  | _, _ => .next s

/-! ## Release -/

/-- A context, an UPDATE or the Intermission pins the retiring version (R75, R83). -/
def State.pinsRetiring (s : State) (old : PlateV) : Bool :=
  (s.col.ctxs.any fun e => e.2.version == old.state) || (s.upd.queue.any fun u => u.epoch == old.epoch) ||
    (decide (s.intm.state ≠ .running) && s.intm.pinned == old.state)

/-- The extents of the regions that a step removed await scrub, and their states end (R239). -/
def State.releaseRegions (s : State) (old v : PlateV) : State :=
  let gone := (old.regions.filter fun g => (v.region g.num).isNone).map fun g => g.num
  let runs := gone.flatMap fun r =>
    match tabFind old.places r with
    | some p =>
      (if p.nearLen = 0 then [] else [{ far := false, base := p.nearBase, len := p.nearLen : Extents }]) ++
        (if p.farLen = 0 then [] else [{ far := true, base := p.farBase, len := p.farLen : Extents }])
    | none => []
  let keep (l : List Nat) : List Nat := l.filter fun r => ! gone.contains r
  { s with mem := { s.mem with zeroing := keep s.mem.zeroing, keyWait := keep s.mem.keyWait, unverified := keep s.mem.unverified
                               scrub := s.mem.scrub ++ runs } }

/-- RETIRE_RELEASE (R75, R239, R435). -/
def execRetireRelease (s : State) : Host.Outcome State Fault Refusal :=
  match s.plt.active, s.plt.retiring with
  | some v, some old =>
    if s.now < s.plt.retireAt ∨ s.pinsRetiring old then .next s
    else
      let s1 := (s.setPlt { s.plt with retiring := none }).releaseRegions old v
      .next ((s1.slotsRelease v).journalPlate 3 old)
  | _, _ => .next s

end Sys2Proof.Machine
end

