-- ==== Sys2Proof/Machine/Power.lean ====
section
/-! DEFINITION. Resets, the firmware boot, the power states and domain gating (R40 to R44, R498, R502 to R512, R526, R544), and the end
of a fuse write (R430). -/

namespace Sys2Proof.Machine

/-- Replace the Keeper's state. -/
def State.setKpr (s : State) (x : Kpr) : State := { s with kpr := x }

/-! ## The resets -/

/-- A fuse write that a power loss cut (R504): an enrolment leaves its slot not ENROLLED and unusable, with key bits the spec does
not give; a revocation may or may not have been programmed. -/
def State.cutFuse (s : State) : State :=
  match s.sec.fuse with
  | none => s
  | some f =>
    let old := s.signer f.slot
    let new : Signer :=
      if f.revoke then { old with revoked := old.revoked || decide (s.freshVal 1 = 1) }
      else if old.enrolled then old
      else { old with cut := true, key := BitVec.ofNat 768 (s.freshVal 768) }
    ({ s with fuses := tabInsert s.fuses f.slot new }).tookFree

/-- KEEPER_POWER_ON_RESET (R14, R502, R503): the whole block. Fuses and what lies in pool memory stay. -/
def execKeeperPowerOnReset (straps : BitVec 10) (s : State) : Host.Outcome State Fault Refusal :=
  let s1 := s.cutFuse
  let r := State.reset
  .next { r with pending := s1.pending, fuses := s1.fuses, memory := s1.memory, free := s1.free
                 kpr := { r.kpr with straps := straps }
                 mem := { r.mem with poisoned := s1.mem.poisoned }
                 sec := { r.sec with draws := s1.sec.draws }
                 intm := { r.intm with images := s1.intm.images } }

/-- A register that the node reset also resets (Table 18-1, R501). -/
def nodeResets (off : Nat) : Bool :=
  decide ((0x240 ≤ off ∧ off < 0x250) ∨ (0x300 ≤ off ∧ off < 0x394) ∨ (0x100000 ≤ off ∧ off < 0x200000) ∨
    (0x1800000 ≤ off ∧ off < 0x2800000) ∨ (0x280000C ≤ off ∧ off < 0x2800024) ∨
    (0x3000000 ≤ off ∧ 0xC010 ≤ off % 0x100000 ∧ off % 0x100000 < 0xC020))

/-- A controller's view of the ports after the memory domain stopped: ready lines as they are, nothing queued.
Accepted lines are forgotten at once (DEDUCED, log entry 124). -/
def idleChans (t : Tab Chan) (failed : Bool) : Tab Chan :=
  (t.map fun e => (e.1, { Chan.reset with ready := e.2.ready, failed := failed && e.2.failed })).filter fun e => decide (e.2 ≠ Chan.reset)

/-- The completion queues without what was outstanding: places reserved and records waiting are lost, records written count. -/
def idleQueues (t : Tab Cq) : Tab Cq :=
  (t.map fun e => (e.1, { e.2 with reserved := 0, waiting := [] })).filter fun e => decide (e.2 ≠ cqBlank)

/-- Work on chip is lost (Table 17-2): what the fast domains hold. -/
def State.loseWork (s : State) : State :=
  { s with csw := { Csw.reset with rates := s.csw.rates }
           xfr := { Xfr.reset with gens := s.xfr.gens, cqs := idleQueues s.xfr.cqs }
           prm := Prm.reset, eru := Eru.reset, col := Col.reset, upd := Upd.reset, commits := [], verifies := []
           script := { s.script with buffer := [], holdBells := false, holdInput := false, bells := [], writes := [], run := none } }

/-- What the node reset clears beside the work on chip: the Plate, its regions' states, the lost set, the curtains, Intermission and the
registers of Table 18-1. -/
def State.clearPlate (s : State) : State :=
  let regs := s.regs.filter fun e => ! nodeResets e.1
  let sels := s.sels.filter fun e => ! nodeResets (e.1 % 2 ^ 26)
  let latches := s.latches.filter fun e => ! nodeResets (e.1 % 2 ^ 26)
  { s with regs := regs, sels := sels, latches := latches, plt := Plt.reset
           mem := { Mem.reset with chans := idleChans s.mem.chans false, poisoned := s.mem.poisoned }
           intm := { Intm.reset with images := s.intm.images, imageOk := s.intm.imageOk } }

/-- The stage clock chooses again with no SYNC heard on any link. -/
def State.loseSync (s : State) : State := ({ s with clk := { s.clk with cands := [] } }).chooseParent

/-- A node reset with its LAST_RESET code (R503, R504): a fuse write under way completes first. -/
def State.resetNode (s : State) (last : Nat) : State :=
  let s1 := match s.sec.fuse with
    | some f => s.finishFuse f
    | none => s
  let s2 := ((s1.eraseKeys.allLinksDown 5 []).loseSync.loseWork).clearPlate
  let power := if s.kpr.power = .boot then PowerState.boot else PowerState.keeper
  s2.setKpr { s2.kpr with power := power, lastReset := BitVec.ofNat 3 last, runHeld := false, memIdle := true
                          suspects := [], anchorFrom := [], lastBeacon := [], lastSync := [], domains := [], resetDue := false }

/-- NODE_RESET (R502, R504, R507): by the pin, low and then released, by a window under the rule of R507, or from another node whose write
has been answered. -/
def execNodeReset (src : ResetBy) (s : State) : Host.Outcome State Fault Refusal :=
  match src with
  | .pin true => .next ((s.resetNode 1).setKpr { (s.resetNode 1).kpr with resetLow := true })
  | .pin false => .next (s.setKpr { s.kpr with resetLow := false })
  | .window w => .next (s.fmWrite w R.kprReset fun t => t.resetNode 2)
  | .remote => .next (if s.kpr.resetDue then s.resetNode 3 else s)

/-- A register of a window that its reset returns to the reset value (R526), by its offset in the window. -/
def windowResets (off : Nat) : Bool :=
  decide (off = R.sqTail ∨ off = R.sqHead ∨ (R.mbxIn ≤ off ∧ off ≤ R.mbxStatus) ∨ (R.mapRegion ≤ off ∧ off < 0xC020) ∨
    (R.fmTarget ≤ off ∧ off ≤ R.fmCtl))

/-- HOST_WINDOW_RESET (R67, R498, R526): the window's registers and selectors return to reset, its work drains, its load fails. -/
def execHostWindowReset (w : Win) (s : State) : Host.Outcome State Fault Refusal :=
  if ! s.winPresent w ∧ ! s.winFm w then .next (s.violation w 4 true (R.win w + R.hwCtl))
  else
    let k : Nat := w.val
    let mine (off : Nat) : Bool := decide (off / 0x100000 = 0x30 + k) && windowResets (off % 0x100000)
    let regs := s.regs.filter fun e => ! mine e.1
    let sels := s.sels.filter fun e => decide (e.1 / 2 ^ 26 ≠ k)
    let latches := s.latches.filter fun e => decide (e.1 / 2 ^ 26 ≠ k)
    let s1 : State := { s with regs := regs, sels := sels, latches := latches }
    let s2 := s1.setKpr { s1.kpr with fmPending := tabErase s1.kpr.fmPending k, heldGo := s1.kpr.heldGo.filter fun x => x != k }
    let s3 := s2.setScript { s2.script with bells := s2.script.bells.filter fun e => e.1 != k }
    let s4 := s3.drainAtDeadline (.window w)
    .next (if s4.ownsLoad w then (s4.setPlt s4.plt.failed).pltErr 14 0 else s4)

/-! ## Firmware boot -/

/-- The boot ROM stops with a CAUSE (R505, R544). -/
def State.bootFails (s : State) (cause : Nat) : State :=
  s.setKpr { s.kpr with boot := .failed, bootCause := BitVec.ofNat 4 cause }

/-- The identity of R423 and R424, derived from the UDS, the boot ROM and the firmware's measurement. -/
def State.deriveIdentity (s : State) (meas : BitVec 384) : State :=
  let cdi0 := toBytes (hmac384 (toBytes Config.uds 48) (toBytes Config.bootRom 48)) 48
  let cdi1 := toBytes (hmac384 cdi0 (toBytes meas 48 ++ toBytes (s.reg R.kprId) 4)) 48
  let device := ecPrivate (hkdfExpand cdi0 (ascii "ZL DEVICEID") 56)
  let own := ecPrivate (hkdfExpand cdi1 (ascii "ZL ALIAS") 56)
  let s1 := s.setWords R.devidPub (bytesWords 24 (toBytes (ecPublic device) 96))
  (s1.setWords R.aliasPub (bytesWords 24 (toBytes (ecPublic own) 96))).setSec { s1.sec with aliasKey := own, ready := true, rngOk := true }

/-- The checked image starts: FW_MEAS, KPR_ID's versions, the identity, and power state KEEPER (R424, R505, R506). -/
def State.startFirmware (s : State) (image : List Byte) (meas : BitVec 384) : State :=
  let s1 := s.setWords R.fwMeas (bytesWords 12 (toBytes meas 48))
  let s2 := ((s1.setFld R.kprId 8 8 (le image 5 1)).setFld R.kprId 16 8 (le image 4 1)).deriveIdentity meas
  s2.setKpr { s2.kpr with boot := .running, bootCause := 0, power := .keeper }

/-- FIRMWARE_BOOT (R505, R544, Table 19-7). A1 supports major version 1. -/
def execFirmwareBoot (image : List Byte) (s : State) : Host.Outcome State Fault Refusal :=
  if s.kpr.power ≠ .boot ∨ s.kpr.boot ≠ .rom then .next s
  else
    let len := le image 8 4
    if le image 0 4 ≠ 0x57464B5A ∨ 0x100000 < len + 160 then .next (s.bootFails 1)
    else
      let meas := sha384 (image.take (64 + len))
      if ! ecdsaVerify Config.firmwareKey meas (BitVec.ofNat 768 (le image (64 + len) 96)) then .next (s.bootFails 2)
      else if le image 5 1 ≠ 1 then .next (s.bootFails 3)
      else .next (s.startFirmware image meas)

/-! ## RUN and SLEEP -/

/-- A refused request shows its reason in REFUSE (R507, R508). -/
def State.refusePower (s : State) (why : Nat) : State := s.setKpr { s.kpr with refuse := BitVec.ofNat 4 why }

/-- RUN (R507, R511, R512): from a window with the right, or by a wake that asks for it; ignored while `zl_rst_n` is low (R504).
The order of two requests of one cycle: log entry 121 (DEDUCED). -/
def execRun (w : Option Win) (s : State) : Host.Outcome State Fault Refusal :=
  let allowed : Bool := match w with
    | some k => s.winFm k
    | none => true
  if ! allowed then
    .next (match w with
      | some k => s.violation k 4 true R.powerCtl
      | none => s)
  else match s.kpr.power with
    | .keeper => .next (if s.kpr.resetLow then s else s.startWake)
    | .sleeping => .next (s.setKpr { s.kpr with runHeld := true, refuse := 0 })
    | _ => .next (s.refusePower 4)

/-- A counter of an assigned block is not 0, or an exact cell is not EMPTY (R508). -/
def State.valuesAtRisk (s : State) : Bool :=
  (s.prm.counters.any fun e => e.2 != 0 && s.fld (R.ctrKey (e.1 / 64)) 0 16 != 0xFFFF) ||
    s.eru.cells.any fun e => decide (e.2.st ≠ .empty)

/-- Work is in use in RUNNING (R508). -/
def State.workAtRisk (s : State) : Bool :=
  ! s.xfr.ops.isEmpty || ! s.xfr.heldTags.isEmpty || ! s.xfr.flows.isEmpty || ! s.xfr.rflows.isEmpty || ! s.col.ctxs.isEmpty ||
    ! s.col.queue.isEmpty || ! s.prm.cues.isEmpty || ! s.prm.arrs.isEmpty || ! s.upd.queue.isEmpty || ! s.commits.isEmpty ||
    ! s.verifies.isEmpty || s.valuesAtRisk

/-- The last image was written in this freeze. -/
def State.imageCurrent (s : State) : Bool :=
  s.intm.imageOk && match s.intm.images with
    | x :: _ => x.freeze == s.intm.freeze
    | [] => false

/-- Condition 1 of R508 holds. -/
def State.sleepLosesWork (s : State) : Bool :=
  match s.intm.state with
  | .running => s.workAtRisk
  | .frozen => ! s.imageCurrent
  | _ => true

/-- The first condition of R508 that refuses a SLEEP, a RUN accepted in the same cycle among them (R512); 0 where none does. -/
def State.sleepRefused (s : State) : Nat :=
  if s.kpr.runAt = some s.clk.count ∨ s.sleepLosesWork then 1
  else if s.plt.armed ∨ s.plt.retiring.isSome ∨ s.plt.owned ∨ s.plt.eng = .verifying then 2
  else if s.sec.fuse.isSome then 3
  else if ! s.running then 4
  else 0

/-- An accepted SLEEP (R509, steps 1 to 3): the journal goes to its ring, and the links go DOWN. -/
def State.startSleep (s : State) : State :=
  let s1 := s.closeRun.drainScript
  (s1.setKpr { s1.kpr with power := .sleeping, refuse := 0 }).allLinksDown 5 []

/-- SLEEP (R507 to R509). -/
def execSleep (w : Win) (s : State) : Host.Outcome State Fault Refusal :=
  if ! s.winFm w then .next (s.violation w 4 true R.powerCtl)
  else if s.sleepRefused = 0 then .next s.startSleep
  else .next (s.refusePower s.sleepRefused)

/-- The engines in ModuleLowPwr: READY, and with it what the bring-up reached, clears (R509). -/
def State.enginesLow (s : State) : State :=
  (List.range 64).foldl (fun t e => t.setFld (R.engineState + 4 * e) 0 4 0) s

/-- A clock that led or followed enters HOLDOVER in the Keeper-only state (R509, Table 17-2). -/
def State.holdClock (s : State) : State := if s.clk.state = .locked ∨ s.clk.state = .root then s.enterHoldover.refreshSync else s

/-- The entry steps of a SLEEP are done: the journal's buffer is in the ring, and the controllers have answered (R509). -/
def State.sleepReady (s : State) : Bool := s.script.buffer.isEmpty && s.mem.chans.all fun e => e.2.accepted.isEmpty

/-- SLEEP_ENTRY_DONE (R503, R509, R512): the fast domains stop; a held RUN is acted on in KEEPER. -/
def execSleepEntryDone (s : State) : Host.Outcome State Fault Refusal :=
  if s.kpr.power ≠ .sleeping ∨ ! s.sleepReady then .next s
  else
    let s1 := s.enginesLow.loseSync.holdClock.loseWork
    let s2 : State := { s1 with intm := { s1.intm with onChip := false }, mem := { s1.mem with chans := idleChans s1.mem.chans true } }
    let s3 := s2.setKpr { s2.kpr with power := .keeper, memIdle := true, domains := [], suspects := [] }
    .next (if s.kpr.runHeld then s3.startWake else s3)

/-! ## Domain gating (R40 to R44) -/

/-- The ERU may gate (R40, R44): nothing for it for ERU_IDLE, and a timer that is not 0. -/
def State.eruMayGate (s : State) : Bool :=
  let t := s.fld R.kprIdle 16 8
  ! s.holdAwake && t != 0 && ! s.eruWorks && decide (s.kpr.eruBusyAt + t * 100000 ≤ s.now)

/-- A domain may enter gating. -/
def State.mayGate (s : State) : Domain → Bool
  | .lane l => s.laneMayGate l
  | .link n => s.linkMayGate n
  | .eru => s.eruMayGate

/-- A domain's gate entry begins, or its clocks stop. -/
def State.gateDomain (s : State) (d : Domain) (stopped : Bool) : State :=
  let s1 := if stopped then s.setDomain (domainKey d) .gated else s.setDomain (domainKey d) .entering
  match d with
  | .lane l => if stopped then s.gateLane l else s1.dozeLane l
  | _ => s1

/-- DOMAIN_GATE (R40, R43): an idle domain enters gating, and after at most 0.5 µs its clocks stop. An entry that meets new work is
abandoned. -/
def execDomainGate (d : Domain) (stopped : Bool) (s : State) : Host.Outcome State Fault Refusal :=
  if ! s.running then .next s
  else
    let now := s.domain (domainKey d)
    if ! s.mayGate d then .next (if now = .entering then s.setDomain (domainKey d) .running else s)
    else if (stopped ∧ now = .entering) ∨ (! stopped ∧ now = .running) then .next (s.gateDomain d stopped)
    else .next s

/-- DOMAIN_WAKE (R41, R43): a request that meets the entry abandons it; otherwise the domain wakes, a lane with its link. -/
def execDomainWake (d : Domain) (s : State) : Host.Outcome State Fault Refusal :=
  if ! s.running ∨ s.domain (domainKey d) = .running then .next s
  else match d with
    | .lane l =>
      let n := l.val / 9
      .next ((if s.domain (288 + n) = .gated then s.wakeLink n else s).wakeLane l)
    | .link n => .next (s.wakeLink n)
    | .eru => .next s.wakeEru

/-! ## Fuses -/

/-- FUSE_WRITE_DONE (R430). -/
def execFuseWriteDone (s : State) : Host.Outcome State Fault Refusal :=
  match s.sec.fuse with
  | some f => .next (s.finishFuse f)
  | none => .next s

end Sys2Proof.Machine
end

