-- ==== Sys2Proof/Machine/RegRead.lean ====
section
/-! DEFINITION. What every register reads (Tables 18-7 to 18-19 and the tables that they name): the access of each offset, the registers of
two words, and the words that show state held elsewhere. -/

namespace Sys2Proof.Machine

/-! ## The map -/

/-- How an offset is accessed: unassigned (R8), read only, a counter that a read clears, or written. -/
inductive RegAccess where
  | unassigned | ro | rc | rw
deriving DecidableEq, Repr

/-- Ranges of offsets outside the arrays of blocks: first and last word, and access. -/
abbrev Ranges := List (Nat × Nat × RegAccess)
def kprRanges : Ranges :=
  [(0x0, 0x4, .ro), (0x40, 0x40, .ro), (0x60, 0x60, .rc), (0x64, 0x64, .ro), (0x68, 0x68, .rw), (0x100, 0x110, .ro), (0x114, 0x118, .rc),
   (0x140, 0x16C, .ro), (0x200, 0x200, .rw), (0x204, 0x204, .ro), (0x208, 0x208, .rc), (0x20C, 0x20C, .ro), (0x210, 0x210, .rw),
   (0x214, 0x230, .ro), (0x240, 0x24C, .rw), (0x250, 0x250, .rc), (0x254, 0x254, .ro), (0x260, 0x260, .ro), (0x264, 0x264, .rw),
   (0x268, 0x268, .ro), (0x26C, 0x26C, .rc), (0x300, 0x37C, .ro), (0x380, 0x380, .rw), (0x384, 0x390, .ro), (0x400, 0x400, .rw),
   (0x404, 0x404, .ro), (0x408, 0x40C, .rw), (0x410, 0x410, .ro), (0x414, 0x414, .rw), (0x418, 0x418, .ro), (0x41C, 0x41C, .rc),
   (0x420, 0x43C, .ro), (0x500, 0x5FC, .ro), (0x600, 0x6FC, .ro)]
def pltRanges : Ranges :=
  [(0x100000, 0x100000, .ro), (0x100004, 0x100008, .rw), (0x10000C, 0x100018, .ro), (0x100020, 0x100028, .rw), (0x100030, 0x100034, .rc),
   (0x100038, 0x100038, .ro), (0x100040, 0x1000A0, .ro), (0x101000, 0x101FFC, .rw)]
def clkRanges : Ranges :=
  [(0x200000, 0x200004, .ro), (0x200008, 0x200008, .rw), (0x20000C, 0x200018, .ro), (0x20001C, 0x20001C, .rc), (0x200020, 0x20002C, .ro),
   (0x200030, 0x200034, .rc), (0x200100, 0x20017C, .rw), (0x200200, 0x20027C, .ro), (0x200400, 0x20047C, .rw), (0x201000, 0x201000, .rw),
   (0x201008, 0x201014, .rw), (0x201018, 0x201024, .ro), (0x201028, 0x20102C, .rc)]
def laneLinkRanges : Ranges :=
  [(0x480000, 0x480008, .rw), (0x48000C, 0x48000C, .ro), (0x480040, 0x480060, .ro), (0x480100, 0x4801FC, .rw), (0x480200, 0x4802FC, .ro),
   (0x880000, 0x880004, .rw), (0x880010, 0x880014, .ro)]
def cswRanges : Ranges :=
  [(0x1000000, 0x1000004, .rw), (0x1000008, 0x1000008, .ro), (0x100000C, 0x100000C, .rw), (0x1000010, 0x1000010, .ro),
   (0x1000020, 0x1000058, .rc), (0x1000100, 0x1000184, .rc), (0x1000200, 0x10002FC, .ro)]
def xfrRanges : Ranges :=
  [(0x1400000, 0x1400000, .rw), (0x1400004, 0x1400010, .ro), (0x1400020, 0x1400048, .rc)]
def prmRanges : Ranges :=
  [(0x1800000, 0x1800000, .rw), (0x1800004, 0x1800004, .ro), (0x1800008, 0x1800008, .rw), (0x180000C, 0x180000C, .ro),
   (0x1800010, 0x1800010, .rw), (0x1800014, 0x1800018, .ro), (0x1800020, 0x1800040, .rc), (0x1801000, 0x1801FFC, .rw),
   (0x1803000, 0x1803000, .rw), (0x1803004, 0x1803004, .ro), (0x1803008, 0x1803008, .rw), (0x180300C, 0x180301C, .ro),
   (0x1803020, 0x1803040, .rc), (0x1803080, 0x1803080, .rw), (0x1803084, 0x1803084, .ro), (0x1804000, 0x180487C, .ro)]
def eruRanges : Ranges :=
  [(0x1C00000, 0x1C00000, .rw), (0x1C00004, 0x1C00018, .ro), (0x1C00020, 0x1C0003C, .rc), (0x1C00040, 0x1C0004C, .ro),
   (0x1C00050, 0x1C00050, .rw), (0x1C00060, 0x1C00060, .rw), (0x1C00064, 0x1C00070, .ro), (0x1C01000, 0x1C01FFC, .rw)]
def updRanges : Ranges :=
  [(0x2000000, 0x2000000, .rw), (0x2000004, 0x2000004, .ro), (0x2000008, 0x2000008, .rw), (0x200000C, 0x2000014, .ro),
   (0x2000020, 0x2000024, .ro), (0x2000028, 0x200003C, .rc), (0x2000040, 0x2000040, .ro), (0x2000100, 0x20001FC, .ro)]
def memRanges : Ranges :=
  [(0x2400000, 0x2400000, .rw), (0x2400004, 0x240000C, .ro), (0x2400010, 0x2400010, .rw), (0x2400014, 0x2400024, .ro),
   (0x2400030, 0x240004C, .rc), (0x2400050, 0x2400054, .ro), (0x2400060, 0x2400068, .ro), (0x2400100, 0x240025C, .ro)]
def secRanges : Ranges :=
  [(0x2800000, 0x2800000, .rw), (0x2800004, 0x2800008, .ro), (0x280000C, 0x280000C, .rw), (0x2800010, 0x2800020, .ro),
   (0x2800030, 0x280003C, .rc), (0x2800300, 0x280035C, .ro), (0x2800380, 0x28003DC, .ro), (0x2800400, 0x280042C, .ro)]

/-- The ranges of every block (Tables 18-7, 18-9 to 18-19). -/
def accessRanges : Ranges :=
  List.flatten [kprRanges, pltRanges, clkRanges, laneLinkRanges, cswRanges, xfrRanges, prmRanges, eruRanges, updRanges, memRanges, secRanges]

/-- A lane block's registers (Table 18-11). -/
def laneAccess (r : Nat) : RegAccess :=
  if r = 0 ∨ r = 0x14 ∨ r = 0x18 ∨ r = 0x28 ∨ r = 0x2C then .ro
  else if r = 0x1C ∨ r = 0x20 ∨ r = 0x24 then .rc
  else if r = 4 ∨ r = 8 ∨ r = 0xC ∨ r = 0x10 then .rw
  else .unassigned

/-- A link block's registers (Table 18-12). -/
def linkAccess (r : Nat) : RegAccess :=
  if r = 4 ∨ r = 8 then .rw
  else if r ≤ 0x20 ∨ r = 0x34 ∨ (0x50 ≤ r ∧ r ≤ 0x5C) then .ro
  else if (0x24 ≤ r ∧ r ≤ 0x30) ∨ (0x38 ≤ r ∧ r ≤ 0x48) then .rc
  else .unassigned

/-- A host window's registers outside its mapping range (Table 18-8). -/
def windowAccess (r : Nat) : RegAccess :=
  if r < 0x4004 ∨ (R.mbxIn ≤ r ∧ r < R.mbxOut) ∨ r = R.mbxCtl ∨ (R.hwEvent ≤ r ∧ r ≤ R.hwCtl) ∨ (R.mapRegion ≤ r ∧ r ≤ R.fmCtl) then .rw
  else if r = R.sqHead ∨ (R.mbxOut ≤ r ∧ r < R.mbxCtl) ∨ r = R.mbxStatus ∨ (R.hwViolLog ≤ r ∧ r ≤ R.hwSelf) then .ro
  else if r = R.hwViol then .rc
  else .unassigned

/-- The window of an offset in the host windows, and the offset within it. -/
def winOf (off : Nat) : Nat := (off - 0x3000000) / 0x100000
def winRel (off : Nat) : Nat := off % 0x100000
def inWindows (off : Nat) : Bool := decide (0x3000000 ≤ off ∧ off < 0x4000000)

/-- How the register at an offset is accessed. -/
def regAccess (off : Nat) : RegAccess :=
  if inWindows off then windowAccess (winRel off)
  else if 0x400000 ≤ off ∧ off < 0x448000 then laneAccess ((off - 0x400000) % 0x400)
  else if 0x800000 ≤ off ∧ off < 0x880000 then linkAccess (off % 0x4000)
  else if 0x1402000 ≤ off ∧ off < 0x1404000 then
    if off % 32 < 0x10 then .rw else if off % 32 = 0x10 then .ro else .unassigned
  else if 0x1802000 ≤ off ∧ off < 0x1802800 then if off % 32 = 0x10 then .rw else .ro
  else if 0x2800100 ≤ off ∧ off < 0x2800300 then if off % 0x80 ≤ 0x60 then .ro else .unassigned
  else ((accessRanges.find? fun r => decide (r.1 ≤ off ∧ off ≤ r.2.1)).map fun r => r.2.2).getD .unassigned

/-- The low words of the registers of two words (R7). -/
def isLowWord (off : Nat) : Bool :=
  [0x104, 0x10C, 0x38C, 0x100020, 0x200000, 0x200020, 0x200028, 0x201008, 0x201010, 0x201018, 0x1C00040, 0x1C00048, 0x2000020,
    0x2400050].contains off ||
  decide ((0x200400 ≤ off ∧ off < 0x200480 ∧ off % 8 = 0) ∨ (0x1000200 ≤ off ∧ off < 0x1000300 ∧ off % 8 = 0) ∨
    (0x800000 ≤ off ∧ off < 0x880000 ∧ (off % 0x4000 = 0x50 ∨ off % 0x4000 = 0x58)) ∨
    (0x1402000 ≤ off ∧ off < 0x1404000 ∧ off % 32 = 0) ∨ (0x1802000 ≤ off ∧ off < 0x1802800 ∧ off % 32 = 8)) ||
  (inWindows off && winRel off == R.mapOffset)

/-! ## KPR -/

/-- The state codes of Tables 17-3, 17-8, 03-11, 13-5 and 10-4. -/
def powerCode : PowerState → Nat
  | .boot => 0 | .keeper => 1 | .waking => 2 | .run => 3 | .sleeping => 4 | .failStop => 5
def bootCode : BootStage → Nat
  | .rom => 0 | .load => 1 | .verify => 2 | .running => 3 | .failed => 4
def engCode : Eng → Nat
  | .idle => 0 | .loading => 1 | .verifying => 2 | .ready => 3 | .failed => 4
def intmCode : IntmState → Nat
  | .running => 0 | .armed => 1 | .hush => 2 | .save => 3 | .frozen => 4 | .restore => 5
def ctxCode : CtxState → Nat
  | .free => 0 | .queued => 1 | .active => 2 | .draining => 3 | .closing => 4 | .aborting => 5

/-- The fast domains run. -/
def State.fastRuns (s : State) : Bool := s.running || decide (s.kpr.power = .sleeping ∨ s.kpr.power = .waking)

/-- A gating domain runs. -/
def State.domainRuns (s : State) (k : Nat) : Bool := s.fastRuns && decide (s.domain k ≠ .gated)

/-- An engine's clock runs: it has work, or had some within the last 64 cycles of 2.0 GHz (Table 02-6). -/
def State.clockRuns (s : State) (works : Bool) (last : Nat) : Bool := s.fastRuns && (works || decide (s.now < last + 32))

/-- KPR_DOMAIN (Table 02-7). Both domains read awake in WAKING (DEDUCED, log entry 103). -/
def State.domainWord (s : State) : Word :=
  pack 32 [(0, 1, b2n s.fastRuns), (1, 1, b2n s.fastRuns), (2, 1, b2n (s.domainRuns (domainKey .eru))),
    (3, 1, b2n (s.clockRuns s.updWorks s.kpr.updBusyAt)), (4, 1, b2n (s.clockRuns s.secWorks s.kpr.secBusyAt)), (8, 16, s.fld R.kprDomain 8 16)]

/-- KPR_LINK_AWAKE (R46). -/
def State.linkAwakeWord (s : State) : Word :=
  pack 32 ((List.range 32).map fun n => (n, 1, b2n (s.domainRuns (288 + n))))

/-- The selected entry of the fault log. -/
def State.logEntry (s : State) (a : Nat) : Option LogEntry := tabFind s.kpr.ring (bits (s.sel a R.faultLogSel) 0 9)

/-- KPR_FAULT_STATUS (Table 16-12). -/
def State.faultStatusWord (s : State) : Word :=
  let set := ((List.range 128).filter fun k => s.arrayBit R.faultActive k).length
  pack 32 [(0, 1, b2n s.faultPin), (1, 1, b2n s.fatalPin), (2, 8, set)]

/-- KPR_CURTAIN_INFO of the selected key slot (Table 16-12). -/
def State.curtainWord (s : State) (a : Nat) : Word :=
  match tabFind s.sec.slots (bits (s.sel a R.curtainSel) 0 12) with
  | none => 0
  | some x =>
    let anchor := s.plt.active.bind fun v => v.anchor x.pkey
    pack 32 [(0, 16, x.pkey), (16, 10, anchor.getD 0), (26, 1, b2n x.lowered), (27, 1, b2n (anchor.any fun k => s.anchorSeen k))]

/-- IN_SERVICE (R513). -/
def State.inService (s : State) : Bool :=
  let open0 := s.plt.armed || s.plt.retiring.isSome
  s.running && s.isSealed && s.boundOk && (List.range 32).all fun n =>
    s.role n == 0 || (decide ((s.link n).state = .up) &&
      decide ((s.link n).restrict = 0 ∨ (open0 = true ∧ (s.link n).restrict = 8)))

/-- A word of the KPR block. A RUN that waits for the end of SLEEPING reads as 1 (R9, R512). -/
def State.kprWord (s : State) (a off : Nat) : Word :=
  let k := s.kpr
  if off = R.kprPos then pack 32 [(0, 10, k.straps.toNat), (10, 10, s.nodeId), (20, 1, b2n k.noSection)]
  else if off = R.kprDomain then s.domainWord
  else if off = R.kprLinkAwake then s.linkAwakeWord
  else if off = R.intmStatus then pack 32 [(0, 3, intmCode s.intm.state), (3, 1, b2n s.intm.onChip), (4, 1, b2n s.intm.imageOk)]
  else if off = R.faultStatus then s.faultStatusWord
  else if off = R.faultLogSel ∨ off = R.curtainSel then s.sel a off
  else if R.faultLog ≤ off ∧ off < R.faultLog + 32 then
    BitVec.ofNat 32 (((s.logEntry a).map fun e => bytesAt e.record (off - R.faultLog) 4).getD 0)
  else if off = R.curtainInfo then s.curtainWord a
  else if off = R.curtainsLowered then pack 32 [(0, 13, s.curtainsLowered)]
  else if off = R.powerCtl then pack 32 [(0, 1, b2n k.runHeld)]
  else if off = R.kprReset then pack 32 [(0, 1, b2n k.resetDue)]
  else if off = R.powerStatus then
    pack 32 [(0, 3, powerCode k.power), (3, 1, b2n s.inService), (4, 4, k.refuse.toNat), (8, 2, k.retained.toNat)]
  else if off = R.kprBoot then pack 32 [(0, 3, bootCode k.boot), (8, 4, k.bootCause.toNat), (16, 3, k.lastReset.toNat)]
  else if off = R.thermalStatus then pack 32 [(0, 3, s.throttleLevel), (3, 3, k.levelAsked.toNat), (8, 3, s.hottest)]
  else s.reg off

/-! ## PLT and CLK -/

/-- A word of the PLT block (Tables 03-8, 03-11). -/
def State.pltWord (s : State) (off : Nat) : Word :=
  let p := s.plt
  let ofActive (f : PlateV → Nat) : Word := BitVec.ofNat 32 ((p.active.map f).getD 0)
  if off = R.pltStatus then
    pack 32 [(0, 3, engCode p.eng), (3, 1, b2n s.isSealed), (4, 1, b2n p.armed), (5, 1, b2n p.retiring.isSome), (6, 1, b2n s.epoch),
      (7, 1, b2n (s.reg R.pltMismatch != 0)), (8, 4, p.owner.toNat), (12, 1, b2n p.owned)]
  else if off = R.pltEngCtl ∨ off = R.pltStepCtl ∨ R.pltEngData ≤ off then 0
  else if off = R.pltEngCount then BitVec.ofNat 32 p.count
  else if off = R.pltStateActive then ofActive fun v => v.state.toNat
  else if off = R.pltStateStandby then BitVec.ofNat 32 (((p.standby.or p.retiring).map fun v => v.state.toNat).getD 0)
  else if R.pltProof ≤ off ∧ off < R.pltArithSig then ofActive fun v => bytesAt v.proof (off - R.pltProof) 4
  else if R.pltArithSig ≤ off ∧ off < R.pltArithRev then ofActive fun v => bytesAt v.arithSig (off - R.pltArithSig) 4
  else if off = R.pltArithRev then ofActive fun v => bits (v.word 5 0) 0 16
  else s.reg off

/-- A word of the CLK block (Tables 13-14, 15-6). -/
def State.clkWord (s : State) (off : Nat) : Word :=
  let c := s.clk
  if off = R.clkNow then BitVec.ofNat 32 s.now
  else if off = R.clkNow + 4 then BitVec.ofNat 32 (s.now / 2 ^ 32)
  else if off = R.clkStatus then
    pack 32 [(0, 3, c.state.code), (3, 1, b2n s.boundOk), (4, 5, c.parent.toNat), (9, 1, b2n c.parentOk), (10, 4, c.depth.toNat),
      (14, 10, c.root.toNat), (24, 8, c.rootPrio.toNat)]
  else if off = R.clkBound then pack 32 [(0, 16, min 0xFFFF s.clkBound)]
  else if off = R.scriptFill then pack 32 [(0, 22, s.script.fill)]
  else s.reg off

/-! ## LANE, LINK and CSW -/

/-- A word of a lane block, or of the lanes' common registers. What a running scan has counted so far is the receiver's: a free value. -/
def State.laneWord (s : State) (off : Nat) : Word :=
  if 0x448000 ≤ off then s.reg off
  else
    let y := s.lane ((off - 0x400000) / 0x400)
    let r := (off - 0x400000) % 0x400
    if r = 0 then
      pack 32 [(0, 3, y.state.code), (3, 1, b2n y.signal), (4, 1, b2n y.rxLock), (5, 1, b2n y.remoteLock), (6, 1, b2n y.txIdle),
        (7, 1, b2n y.rxIdle), (8, 4, y.cause.toNat)]
    else if r = 4 then 0
    else if r = 0x18 ∧ s.scanning ((off - 0x400000) / 0x400) then BitVec.ofNat 32 (s.freshVal 32)
    else if r = 0x28 then pack 32 [(0, 16, y.ppm.toNat)]
    else s.reg off

/-- The link states' codes (Table 05-6). -/
def linkCode : LinkState → Nat
  | .disabled => 0 | .train => 1 | .ident => 2 | .up => 3 | .realign => 4 | .retrain => 5 | .down => 6

/-- The links in a state, as a mask. -/
def State.linkMask (s : State) (p : Link → Bool) : Word := pack 32 ((List.range 32).map fun n => (n, 1, b2n (p (s.link n))))

/-- A word of a link block, or of the links' common registers. -/
def State.linkWord (s : State) (off : Nat) : Word :=
  if off = R.linkDownMask then s.linkMask fun x => decide (x.state = .down)
  else if off = R.linkRestrictMask then s.linkMask fun x => x.restrict != 0
  else if 0x880000 ≤ off then s.reg off
  else
    let n := (off - 0x800000) / 0x4000
    let x := s.link n
    let r := off % 0x4000
    let live : Bool := decide (x.state = .up ∨ x.state = .realign)
    let spare := live && (List.range 9).any fun k => s.laneWorks n k && ! (s.mapped n).contains k
    let beyond := (x.held.filter fun h => h.cell.isSome).length
    if r = 0 then
      pack 32 [(0, 3, linkCode x.state), (3, 2, x.width.toNat), (5, 1, b2n spare), (6, 1, b2n x.leader), (7, 5, x.restrict.toNat),
        (12, 3, x.downCause.toNat), (16, 3, x.lastRetrain.toNat)]
    else if r = 4 then 0
    else if r = 0x10 then s.roleWord n
    else if r = 0x1C then pack 32 [(0, 12, x.pool.length + beyond), (12, 12, beyond)]
    else if r = 0x20 then pack 32 [(0, 13, x.replay.length)]
    else s.reg off

/-- A word of the CSW block (Table 06-10). -/
def State.cswWord (s : State) (a off : Nat) : Word :=
  if off = R.portUp then
    pack 32 ((List.range 32).map fun p => (p, 1, b2n ((s.portLinks p).any fun n => decide ((s.link n).state = .up))))
  else if off = R.rateSel then s.sel a off
  else if off = R.rate then pack 32 [(0, 9, s.rateOf (bits (s.sel a R.rateSel) 0 10))]
  else s.reg off

/-! ## XFR and PRM -/

/-- A word of the XFR block (Table 07-14). -/
def State.xfrWord (s : State) (off : Nat) : Word :=
  if off = R.tagsUsed then BitVec.ofNat 32 s.tagsUsed
  else if off = R.ctxUsed then BitVec.ofNat 32 (s.xfr.flows.length + s.xfr.rflows.length)
  else if off = R.execUsed then BitVec.ofNat 32 s.xfr.execs.length
  else if off = R.rspUsed then BitVec.ofNat 32 s.rspUsed
  else if 0x1402000 ≤ off ∧ off % 32 = 0x10 then pack 32 [(0, 16, (s.cq ((off - 0x1402000) / 32)).written)]
  else s.reg off

/-- A word of an arrival channel (Table 09-9). -/
def State.arrWord (s : State) (off : Nat) : Word :=
  let ch := (off - 0x1802000) / 32
  let r := off % 32
  if r = 0x10 then s.reg off
  else match tabFind s.prm.arrs ch with
  | none => 0
  | some x =>
    if r = 0 then pack 32 [(0, 12, x.group), (12, 1, 1), (13, 1, b2n x.pool), (14, 1, b2n x.count), (15, 5, x.log2)]
    else if r = 4 then pack 32 [(0, 15, x.ep), (16, 16, x.counter)]
    else if r = 8 then BitVec.ofNat 32 x.base
    else if r = 0xC then BitVec.ofNat 32 (x.base / 2 ^ 32)
    else if r = 0x14 then pack 32 [(0, 16, x.written)]
    else if r = 0x18 then BitVec.ofNat 32 x.seq
    else pack 32 [(0, 9, (s.prm.trackers.filter fun e => e.2.chan == ch).length)]

/-- PRM_CUE_INFO and PRM_CUE_THRESH of the selected cue (Table 09-10). -/
def State.cueWord (s : State) (a : Nat) (info : Bool) : Word :=
  match tabFind s.prm.cues (bits (s.sel a R.cueSel) 0 14) with
  | none => 0
  | some c =>
    if info then
      pack 32 [(0, 1, 1), (1, 5, whoIdx c.who), (8, 8, dOp c.desc), (16, 16, if dWait c.desc then dWaitCtr c.desc else 0)]
    else BitVec.ofNat 32 (dThreshold c.desc)

/-- A word of the selected context slot (Table 10-12). -/
def State.ctxWord (s : State) (a off : Nat) : Word :=
  let k := bits (s.sel a R.ctxSel) 0 6
  match s.ctx k with
  | none => if off = R.ctxInfo then pack 32 [(4, 2, tabGet 0 s.col.gens k)] else 0
  | some c =>
    if off = R.ctxInfo then
      pack 32 [(0, 3, ctxCode c.state), (3, 1, b2n c.rehearsal), (4, 2, c.gen), (8, 8, c.code), (16, 12, c.group)]
    else if off = R.ctxInfo + 4 then BitVec.ofNat 32 c.inst
    else if off = R.ctxInfo + 8 then pack 32 [(0, 16, c.passes), (16, 16, c.reserved)]
    else if off = R.ctxInfo + 12 then BitVec.ofNat 32 c.passFrom
    else pack 32 [(0, 15, c.miss.length)]

/-- The missing-member bitmap that a handle names, while its entry still holds it (R321). -/
def State.missMap (s : State) (a : Nat) : Option MissMap :=
  let h := (s.sel a R.missSel).toNat
  (tabFind s.col.maps (h % 256)).filter fun m => m.serial == h / 256

/-- A word of the PRM block (Tables 09-9, 10-12). -/
def State.prmWord (s : State) (a off : Nat) : Word :=
  if 0x1802000 ≤ off ∧ off < 0x1802800 then s.arrWord off
  else if off = R.cuesArmed then BitVec.ofNat 32 s.prm.cues.length
  else if off = R.ctrSel ∨ off = R.cueSel ∨ off = R.ctxSel ∨ off = R.missSel then s.sel a off
  else if off = R.ctrValue then s.ctr (bits (s.sel a R.ctrSel) 0 16)
  else if off = R.cueInfo then s.cueWord a true
  else if off = R.cueThresh then s.cueWord a false
  else if off = R.colCtxUsed then pack 32 [(0, 7, s.col.ctxs.length), (8, 9, s.col.queue.length), (17, 5, s.rehearsals)]
  else if R.ctxInfo ≤ off ∧ off < R.ctxInfo + 20 then s.ctxWord a off
  else if off = R.missStatus then
    match s.missMap a with
    | some m => pack 32 [(0, 1, 1), (16, 15, m.m)]
    | none => 0
  else if R.missData ≤ off then BitVec.ofNat 32 (((s.missMap a).map fun m => m.bits / 2 ^ (8 * (off - R.missData))).getD 0)
  else s.reg off

/-! ## ERU and UPD -/

/-- A segment record (Table 11-9). -/
def segRecord (x : Seg) : BitVec 128 :=
  pack 128 [(0, 33, x.got), (33, 1, b2n x.gen), (34, 2, x.sstate), (36, 16, x.count), (64, 33, x.expect)]

/-- The segment record of a number. Which record a segment takes is open: a free value gives the place of record `k` among the
segments held. -/
def State.segRecordAt (s : State) (k : Nat) : BitVec 128 :=
  let held := s.col.ctxs.flatMap fun e => e.2.segs
  match held[Config.segPlace k]? with
  | some e => if k < 6144 then segRecord e.2 else 0
  | none => 0

/-- A word of the ERU block (Table 11-19). -/
def State.eruWord (s : State) (a off : Nat) : Word :=
  let deferred := ((s.col.ctxs.flatMap fun e => e.2.segs).filter fun g => g.2.sstate == 2).length
  if off = R.eruStatus then
    pack 32 [(0, 1, b2n s.eruOccupied), (1, 1, b2n (s.col.ctxs.any fun e => e.2.replaying.isSome)), (2, 1, b2n (s.wideFree == 0))]
  else if off = R.narrowFree then BitVec.ofNat 32 s.narrowFree
  else if off = R.wideFree then BitVec.ofNat 32 s.wideFree
  else if off = R.promoted then BitVec.ofNat 32 s.promoted
  else if off = R.deferQueue then BitVec.ofNat 32 deferred
  else if off = R.reasmUsed then BitVec.ofNat 32 s.reasmUsed
  else if off = R.segSel then s.sel a off
  else if R.segRec ≤ off ∧ off < R.segRec + 16 then
    BitVec.ofNat 32 (bytesAt (s.segRecordAt (bits (s.sel a R.segSel) 0 13)) (off - R.segRec) 4)
  else s.reg off

/-- UPD_INFO of a running UPDATE (Table 12-11). -/
def State.updInfoWord (s : State) (u : Update) : Word :=
  let handle := (u.ctx.bind fun k => (s.ctx k).map fun c => c.handle k).getD 0
  pack 32 [(0, 1, 1), (1, 1, b2n u.gated), (2, 1, b2n (u.gated && u.gate.isNone)), (3, 2, u.gsrc), (8, 8, handle), (16, 16, u.program)]

/-- A word of the UPD block (Table 12-11). -/
def State.updWord (s : State) (a off : Nat) : Word :=
  let customs := (s.plt.active.map fun v => customsOf (v.body 6)).getD []
  let place := s.runPlaces[bits (s.sel a R.updSel) 0 2]?
  if off = R.updStatus then
    pack 32 [(0, 3, s.runPlaces.length), (3, 7, s.upd.queue.length), (10, 1, b2n (s.upd.queue.any fun u => u.gated && u.gate.isNone))]
  else if off = R.updSel then s.sel a off
  else if off = R.updInfo then (place.map s.updInfoWord).getD 0
  else if off = R.updInfo + 4 then BitVec.ofNat 32 ((place.map fun u => u.applied).getD 0)
  else if off = R.updInfo + 8 then BitVec.ofNat 32 ((place.map fun u => u.segments).getD 0)
  else if off = R.updPrograms then BitVec.ofNat 32 customs.length
  else if R.updProgId ≤ off then
    match customs[(off - R.updProgId) / 4]? with
    | some c => pack 32 [(0, 16, c.id), (16, 6, c.npro), (22, 7, c.nbody)]
    | none => 0
  else s.reg off

/-! ## MEM and SEC -/

/-- The free extents of a tier: near, or far. -/
def State.freeExtents (s : State) (far : Bool) : Nat :=
  match s.plt.active with
  | none => 0
  | some v =>
    let b := v.body 0x104
    let o := s.occupied
    ((if far then freeRuns (farSize b) o.far 0 else freeRuns (nearSize b) o.near 0).map fun r => r.2).sum

/-- The extents awaiting scrub, and those of the regions being zeroed. -/
def State.scrubPendingCount (s : State) : Nat :=
  let zero := s.mem.zeroing.map fun r => match s.regionVersion r with
    | some (v, g) => ((tabFind v.places g.num).map fun p => p.nearLen + p.farLen).getD 0
    | none => 0
  (s.mem.scrub.map fun e => e.len).sum + zero.sum

/-- MEM_REGION_INFO `k` of the selected region (Table 08-7). -/
def State.regionWord (s : State) (a k : Nat) : Word :=
  match s.regionVersion (bits (s.sel a R.regionSel) 0 16) with
  | none => 0
  | some (v, g) =>
    let p := (tabFind v.places g.num).getD { nearBase := 0, nearLen := 0, farBase := 0, farLen := 0 }
    let wait := s.mem.keyWait.contains g.num
    let live : Bool := s.plt.active.any fun x => (x.region g.num).isSome
    let state := if ! live then 3 else if wait || s.mem.zeroing.contains g.num then 1 else 2
    match k with
    | 0 => pack 32 [(0, 2, state), (2, 1, b2n (p.nearLen != 0 && p.farLen != 0)), (3, 1, b2n (p.nearLen == 0)), (4, 1, b2n wait)]
    | 1 => pack 32 [(0, 20, p.nearBase)]
    | 2 => pack 32 [(0, 20, p.nearLen)]
    | 3 => pack 32 [(0, 23, p.farBase)]
    | _ => pack 32 [(0, 20, p.farLen)]

/-- A word of the MEM block (Table 08-7). -/
def State.memWord (s : State) (a off : Nat) : Word :=
  if off = R.nearFree then BitVec.ofNat 32 (s.freeExtents false)
  else if off = R.farFree then BitVec.ofNat 32 (s.freeExtents true)
  else if off = R.scrubPending then pack 32 [(0, 24, s.scrubPendingCount)]
  else if off = R.regionSel then s.sel a off
  else if R.regionInfo ≤ off ∧ off < R.regionInfo + 20 then s.regionWord a ((off - R.regionInfo) / 4)
  else if R.chanState ≤ off then
    let p := (off - R.chanState) / 4
    let c := s.chan p
    pack 32 [(0, 2, s.chanState p), (2, 9, c.queue.length), (11, 6, c.locks.length)]
  else s.reg off

/-- SEC_SLOT_INFO of the selected key slot (Table 14-17). -/
def State.slotWord (s : State) (a : Nat) : Word :=
  match tabFind s.sec.slots (bits (s.sel a R.slotSel) 0 12) with
  | none => 0
  | some x =>
    let mode := (s.plt.active.map fun v => v.mode x.pkey).getD 0
    let unverified := s.mem.unverified.any fun r => (s.regionVersion r).any fun e => e.2.pkey == x.pkey
    pack 32 [(0, 16, x.pkey), (16, 2, mode), (18, 3, x.state.code), (21, 8, s.membersIn x), (29, 1, b2n unverified)]

/-- A word of the SEC block (Table 14-17). -/
def State.secWord (s : State) (a off : Nat) : Word :=
  if off = R.secStatus then
    pack 32 [(0, 1, b2n s.sec.rngOk), (1, 1, b2n s.sec.ready), (2, 1, b2n s.sec.fuse.isSome), (8, 5, s.liveSessions.length)]
  else if off = R.slotsUsed then BitVec.ofNat 32 s.sec.slots.length
  else if off = R.slotSel then s.sel a off
  else if off = R.slotInfo then s.slotWord a
  else if R.slotCheck ≤ off ∧ off < R.slotCheck + 16 then
    match tabFind s.sec.slots (bits (s.sel a R.slotSel) 0 12) with
    | some x => if x.state = .opened then BitVec.ofNat 32 (bytesAt (s.jCheck x) (off - R.slotCheck) 4) else 0
    | none => 0
  else if 0x2800100 ≤ off ∧ off < 0x2800300 then
    let x := s.signer ((off - 0x2800100) / 0x80)
    let r := off % 0x80
    if r = 0 then pack 32 [(0, 1, b2n x.enrolled), (1, 1, b2n x.revoked)] else BitVec.ofNat 32 (bytesAt x.key (r - 4) 4)
  else s.reg off

/-! ## Host windows, and every register -/

/-- The region that a window's mapping reaches: mapping enabled, HOST = 1, and a key that binds the window (R497). -/
def State.mapTarget (s : State) (w : Nat) : Option (PlateV × Region) :=
  match s.regionVersion (bits (s.winReg w R.mapRegion) 0 16) with
  | none => none
  | some (v, g) => if g.host && s.boundTo (.window (Fin.ofNat 16 w)) g.pkey then some (v, g) else none

/-- A word of a host window outside its mapping range (Tables 16-13, 18-3, 18-5). A mailbox GO that waits for the wake reads as 1 (R9).
KPR_HW_CTL.RESET reads as 0 at once: what "done" waits for the spec does not say (DESIGN CHOICE, log entry 77). -/
def State.windowWord (s : State) (off : Nat) : Word :=
  let w := winOf off
  let r := winRel off
  if r = R.mbxCtl then pack 32 [(0, 1, b2n (s.kpr.heldGo.contains w))]
  else if r = R.hwCtl then 0
  else if r = R.mapCtl then
    let on := bit (s.reg off) 0
    pack 32 [(0, 1, b2n on), (1, 1, b2n (on && (s.mapTarget w).isNone))]
  else if r = R.hwSelf then pack 32 [(0, 4, w), (4, 1, b2n (s.winPresent w)), (5, 1, b2n (s.winFm w)), (6, 6, s.winRights w)]
  else s.reg off

/-- What the register at an offset reads for a source: 0 where none stands (R8). -/
def State.regWord (s : State) (a off : Nat) : Word :=
  if regAccess off = .unassigned then 0
  else if off < 0x100000 then s.kprWord a off
  else if off < 0x200000 then s.pltWord off
  else if off < 0x400000 then s.clkWord off
  else if off < 0x800000 then s.laneWord off
  else if off < 0x1000000 then s.linkWord off
  else if off < 0x1400000 then s.cswWord a off
  else if off < 0x1800000 then s.xfrWord off
  else if off < 0x1C00000 then s.prmWord a off
  else if off < 0x2000000 then s.eruWord a off
  else if off < 0x2400000 then s.updWord a off
  else if off < 0x2800000 then s.memWord a off
  else if off < 0x3000000 then s.secWord a off
  else s.windowWord off

end Sys2Proof.Machine
end

