-- ==== Sys2Proof/Machine/Registers.lean ====
section
/-! DEFINITION. Register accesses (R6 to R11, R519 to R528): what a read does beside answering, every write, the mapping range (R444, R497), and
the accesses of another node (R499). -/

namespace Sys2Proof.Machine

/-! ## The mapping range (R444, R497, R527) -/

/-- The line of all ones in the low `n` bytes. -/
def allOnes (n : Nat) : Line := BitVec.ofNat 512 (2 ^ (8 * n) - 1)

/-- The region and the offset in it that an aligned access of `n` bytes at window offset `r` reaches, where the window may map it. -/
def State.mapAccess (s : State) (w r n : Nat) : Option (PlateV × Region × Nat) :=
  match s.mapTarget w with
  | none => none
  | some (v, g) =>
    let o := s.reg64 (R.win w + R.mapOffset) + (r - R.mapRange)
    if bit (s.winReg w R.mapCtl) 0 ∧ r % n = 0 ∧ o + n ≤ g.size * extentBytes then some (v, g, o) else none

/-- No line of a region answers: ZEROING, waiting for its key, fenced by a curtain, or the line's channel FAILED. -/
def State.mapFenced (s : State) (v : PlateV) (g : Region) (o : Nat) : Bool :=
  s.mem.zeroing.contains g.num || s.mem.keyWait.contains g.num || s.curtainDown g.pkey || (s.chan (v.portOf (v.lineAt g.num o))).failed

/-- Name the host window whose last mapped read waits for a line's queued reads, and no other read of that window. -/
def State.tagHost (s : State) (p key w n : Nat) : State :=
  let clear (r : LineReq) : LineReq := if (r.host.map fun h => h.1) = some w then { r with host := none } else r
  let mark (r : LineReq) : LineReq := if r.line = key ∧ r.kind = .read ∧ r.host.isNone then { r with host := some (w, n) } else r
  let s1 : State := { s with mem := { s.mem with chans := s.mem.chans.map fun e => (e.1,
    { e.2 with queue := e.2.queue.map clear, waiting := e.2.waiting.map clear, accepted := e.2.accepted.map fun a => { a with req := clear a.req } }) } }
  let c := s1.chan p
  s1.setChan p { c with queue := c.queue.map mark, waiting := c.waiting.map mark }

/-- A read of `n` bytes in the mapping range. The fast domains serve it; while they are stopped the data is a free value. Log entries 10 and 24. -/
def State.mapRead (s : State) (w r n : Nat) : Line × State :=
  match s.mapAccess w r n with
  | none => (allOnes n, s.violation w 1 false (R.win w + r))
  | some (v, g, o) =>
    if ! s.running then (BitVec.ofNat 512 (s.freshVal (8 * n)), s.tookFree)
    else if s.mapFenced v g o || s.poisoned (v.lineAt g.num o) then (allOnes n, s)
    else
      let l := if v.mode g.pkey = 2 then s.rawLine (v.lineAt g.num o) else s.readLine v g o
      let key := v.lineAt g.num o
      (BitVec.ofNat 512 (bytesAt l (o % 64) n), (s.queueReads v g o n none).tagHost (v.portOf key) key w n)

/-- A raw write to a SEALED region: the line as written, and the region UNVERIFIED (R444), also where a VERIFY has begun (R445). -/
def State.rawWrite (s : State) (v : PlateV) (g : Region) (o : Nat) (d : List Byte) : State :=
  let key := v.lineAt g.num o
  let s1 := s.setRawLine key (mergeLine (s.rawLine key) (o % 64) d)
  let s2 := if d.length = 64 then s1.setPoison key false else s1
  { s2 with mem := { s2.mem with unverified := insertNat s2.mem.unverified g.num }
            verifies := s2.verifies.map fun x => if x.region = g.num then { x with dirty := true } else x }

/-- A write in the mapping range (R247, R444, R497, Table 08-3); it joins the journal's run of host data. -/
def State.mapWrite (s : State) (w r : Nat) (d : List Byte) : State :=
  let n := d.length
  match s.mapAccess w r n with
  | none => s.violation w 1 true (R.win w + r)
  | some (v, g, o) =>
    let isSecret : Bool := v.mode g.pkey == 2
    let key := v.lineAt g.num o
    if g.readOnly || (isSecret && ! s.winFm w) then s.violation w 1 true (R.win w + r)
    else if ! s.running || s.mapFenced v g o then s
    else if s.poisoned key && n != 64 then s.raiseFault 37 (v.portOf key) 1 0
    else
      let s1 := if isSecret then s.rawWrite v g o d else s.writeBytes v g o d
      let s2 := s1.queueWrites v g o n none
      if s2.scriptOn && s2.scriptHost then s2.addRun w g.num o d else s2

/-- Keep the data of a window's last read. -/
def State.answerRead (s : State) (w : Nat) (l : Line) : State := { s with hostRead := tabSet 0 s.hostRead w l }

/-- HOST_MAP_ACCESS (R497, R527). -/
def execHostMapAccess (w : Win) (off : BitVec 26) (acc : MapAccess) (s : State) : Host.Outcome State Fault Refusal :=
  let r := off.toNat
  if r < R.mapRange ∨ 0x100000 ≤ r then .fault .illFormed
  else
    let get (n : Nat) : State :=
      let x := s.mapRead w r n
      x.2.answerRead w x.1
    .next (match acc with
      | .read4 => get 4
      | .read8 => get 8
      | .read64 => get 64
      | .write4 d => s.mapWrite w r (toBytes d 4)
      | .write8 d => s.mapWrite w r (toBytes d 8)
      | .write64 d => s.mapWrite w r (toBytes d 64))

/-! ## Reads -/

/-- The registers whose high word a latch answers. -/
def isHighWord (off : Nat) : Bool := decide (4 ≤ off) && isLowWord (off - 4)

/-- A source's latch of the high word at an offset (R7, R524). Before the first read of the low word it holds 0 (DESIGN CHOICE, log entry 83). -/
def State.latch (s : State) (a off : Nat) : Word := tabGet 0 s.latches (a * 2 ^ 26 + off)

/-- What a read does beside answering: the high word is latched, a fabric manager's read clears a counter, and a read of the fault log marks its
entry read. -/
def State.readEffects (s : State) (a off : Nat) : State :=
  if isLowWord off then { s with latches := tabSet 0 s.latches (a * 2 ^ 26 + off + 4) (s.regWord a (off + 4)) }
  else if R.faultLog ≤ off ∧ off < R.faultLog + 32 then
    match s.logEntry a with
    | some e =>
      let k := bits (s.sel a R.faultLogSel) 0 9
      { s with kpr := { s.kpr with ring := tabInsert s.kpr.ring k { e with seen := true } } }
    | none => s
  else
    let s1 := if regAccess off = .rc ∧ s.srcFm a then s.setReg off 0 else s
    if 0x400000 ≤ off ∧ off < 0x448000 ∧ (off - 0x400000) % 0x400 = 0x18 then s1.tookFree else s1

/-- A read of the register at an offset by a source: 0 to 15 a window, 16 another node. One that is not aligned answers all ones (R6). -/
def State.regRead (s : State) (a off : Nat) : Word × State :=
  if off % 4 ≠ 0 then (BitVec.ofNat 32 0xFFFFFFFF, s.violation a 1 false off)
  else if inWindows off && winOf off != a && (! s.srcFm a || decide (R.mapRange ≤ winRel off)) then (0, s.violation a 5 false off)
  else if inWindows off && decide (R.mapRange ≤ winRel off) then
    let x := s.mapRead a (winRel off) 4
    (BitVec.ofNat 32 x.1.toNat, x.2)
  else if isHighWord off then (s.latch a off, s)
  else (s.regWord a off, s.readEffects a off)

/-- REGISTER_READ (R7, R519 to R524). -/
def execRegisterRead (w : Win) (off : BitVec 26) (s : State) : Host.Outcome State Fault Refusal :=
  let x := s.regRead w off.toNat
  .next (x.2.answerRead w (BitVec.ofNat 512 x.1.toNat))

/-- BAD_SIZE_ACCESS (R6): a read answers all ones, a write does nothing; both are recorded. -/
def execBadSizeAccess (w : Win) (wr : Bool) (off : BitVec 26) (s : State) : Host.Outcome State Fault Refusal :=
  let s1 := s.violation w 1 wr off.toNat
  .next (if wr then s1 else s1.answerRead w (allOnes 64))

/-! ## Fields of plain registers -/

/-- The fields of a register that a write sets, each with its bit offset, width and range. -/
abbrev Fields := List (Nat × Nat × Nat × Nat)

/-- A field of `n` bits that takes every value. -/
def anyField (lo n : Nat) : Nat × Nat × Nat × Nat := (lo, n, 0, 2 ^ n - 1)

/-- A value lies in a field's range. -/
def fits (v : Word) (f : Nat × Nat × Nat × Nat) : Bool :=
  decide (f.2.2.1 ≤ bits v f.1 f.2.1) && decide (bits v f.1 f.2.1 ≤ f.2.2.2)

/-- Set a register's fields from a written value; every other bit keeps what it held. A write of a value outside a field's range is ignored
(R118, R160, R195, R230, R256, R323, R361, R394, R450, R467, R501, R517). -/
def State.writeFields (s : State) (off : Nat) (v : Word) (fs : Fields) : State :=
  if fs.all (fits v) then s.setReg off (fs.foldl (fun x f => setBits x f.1 f.2.1 (bits v f.1 f.2.1)) (s.reg off)) else s

/-- The fields of the registers that a write only sets (RW). -/
def plainFields (off : Nat) : Option Fields :=
  if off = R.kprIdle then some [anyField 0 8, anyField 8 8, anyField 16 8, anyField 24 1]
  else if off = R.holdupCfg then some [(0, 10, 1, 1000), (16, 10, 10, 1000)]
  else if off = R.powerCfg then some [anyField 0 1]
  else if off = R.thermalCfg then some [(0, 8, 85, 115), (8, 4, 1, 15)]
  else if off = R.pltStepTime ∨ off = R.pltStepTime + 4 then some [anyField 0 32]
  else if off = R.clkCfg then some [anyField 0 8, anyField 8 1, (16, 8, 25, 255)]
  else if R.clkAsym ≤ off ∧ off < R.clkAsym + 128 then some [anyField 0 16]
  else if off = R.laneCfg then some [(0, 8, 2, 200), (8, 10, 1, 1023), anyField 18 10]
  else if off = R.cmisCtl then some [(0, 14, 100, 10000), anyField 14 1]
  else if off = R.linkCfg then some [(0, 8, 1, 255), (8, 8, 1, 200), (16, 8, 1, 255), (24, 8, 1, 255)]
  else if off = R.linkCfg2 then some [(0, 8, 10, 255), (8, 8, 10, 255)]
  else if off = R.cswCfg then some [(0, 4, 6, 15), (4, 3, 1, 7), (8, 8, 1, 255), (16, 8, 1, 255), (24, 8, 1, 255)]
  else if off = R.xfrCfg then some [(0, 8, 1, 255), anyField 8 4, anyField 12 4]
  else if off = R.colCfg then some [(0, 8, 1, 255), (8, 8, 4, 255)]
  else if off = R.updCfg then some [(0, 3, 1, 4)]
  else if off = R.memCfg then some [(0, 14, 1, 10000), (16, 4, 1, 8), (24, 8, 1, 255)]
  else if off = R.secCfg then some [(0, 10, 1, 600), (16, 10, 100, 1000)]
  else none

/-- The fields of the RWP registers: KPR_FAULT_CFG, the channel entries (Table 04-6), the engine words (Table 04-7) and ERU_CELL_CFG. -/
def rwpFields (off : Nat) : Option Fields :=
  if off = R.faultCfg then some [anyField 0 2]
  else if 0x400000 ≤ off ∧ off < 0x448000 ∧ (off - 0x400000) % 0x400 = 8 then some [anyField 0 3, anyField 8 18]
  else if 0x400000 ≤ off ∧ off < 0x448000 ∧ (off - 0x400000) % 0x400 = 0xC then some [anyField 0 27]
  else if R.laneEngine ≤ off ∧ off < R.laneEngine + 256 then some [anyField 0 8, (8, 4, 1, 15), anyField 12 2]
  else if off = R.eruCellCfg then some [(0, 11, 0, 1024)]
  else none

/-- The width of a selector (R524). -/
def selectorBits (off : Nat) : Option Nat :=
  if off = R.faultLogSel then some 9
  else if off = R.curtainSel ∨ off = R.slotSel then some 12
  else if off = R.rateSel then some 10
  else if off = R.regionSel ∨ off = R.ctrSel then some 16
  else if off = R.cueSel then some 14
  else if off = R.ctxSel then some 6
  else if off = R.missSel then some 32
  else if off = R.segSel then some 13
  else if off = R.updSel then some 2
  else none

/-- A write of a selector: a source's own copy (R524). ERU_SEG_SEL is 0 to 6,143. -/
def State.selWrite (s : State) (a off n : Nat) (v : Word) : State :=
  let x := bits v 0 n
  if off = R.segSel ∧ 6144 ≤ x then s else s.setSel a off (BitVec.ofNat 32 x)

/-! ## Writes by block -/

/-- The state that a command leaves. -/
def State.after (s : State) (o : Host.Outcome State Fault Refusal) : State :=
  match o with
  | .next t => t
  | _ => s

/-- A write of an RWP register (Table 00-4): after the seal it is ignored and counted. Before it, an entry that makes the lanes of a DISABLED link
VALID starts its training (R144). -/
def State.rwpWrite (s : State) (a off : Nat) (fs : Fields) (v : Word) : State :=
  if s.isSealed then s.bump R.pltRwpIgnored
  else if ! fs.all (fits v) then s
  else if off = R.eruCellCfg then s.fmRw a off v fun t => t.writeFields off v fs
  else s.lastWins a off fun s =>
    let s1 := s.writeFields off v fs
    let n := (off - 0x400000) / 0x2400
    if 0x400000 ≤ off ∧ off < 0x448000 ∧ s1.running ∧ (s1.link n).state = .disabled ∧ ! bit (s1.reg (R.link n + 8)) 0 ∧ s1.mayTrain n then
      s1.startTrain n
    else s1

/-- A write of KPR_POWER_CTL (R507): RUN, else SLEEP; both together leave SLEEP refused. -/
def State.powerWrite (s : State) (a : Nat) (v : Word) : State :=
  let w : Option Win := if a < 16 then some (Fin.ofNat 16 a) else none
  if bit v 0 then
    let s1 := s.after (execRun w s)
    if bit v 1 then s1.refusePower 1 else s1
  else if bit v 1 then
    if s.sleepRefused = 0 then s.startSleep else s.refusePower s.sleepRefused
  else s

/-- A fabric manager's write of a KPR register. A node reset from another node is due: it acts after its answer (R504). -/
def State.kprWrite (s : State) (a off : Nat) (v : Word) : State :=
  if off = R.powerCtl then s.powerWrite a v
  else if off = R.kprReset then
    if ! bit v 0 then s
    else if a < 16 then s.after (execNodeReset (.window (Fin.ofNat 16 a)) s)
    else { s with kpr := { s.kpr with resetDue := true } }
  else if R.faultActive ≤ off ∧ off < R.faultActive + 16 then
    s.after (execFaultActiveClear (Fin.ofNat 17 a) (Fin.ofNat 4 ((off - R.faultActive) / 4)) v s)
  else s

/-- A write of the engraving registers (R59 to R73): their own outcomes, whatever the window's rights. A write of more than one bit of
PLT_ENG_CTL or PLT_STEP_CTL does nothing. -/
def State.engWrite (s : State) (a off : Nat) (v : Word) : State :=
  let w : Win := Fin.ofNat 16 a
  if off = R.pltEngCtl then
    match bits v 0 4 with
    | 1 => s.after (execOpenEng w s)
    | 2 => s.after (execCloseEng w s)
    | 4 => s.after (execSealPlate w s)
    | 8 => s.after (execCancel w s)
    | _ => s
  else if off = R.pltEngLen then s.after (execPltEngLenWrite w v s)
  else if off = R.pltStepCtl then
    match bits v 0 2 with
    | 1 => s.after (execArm (Fin.ofNat 17 a) s)
    | 2 => s.after (execDisarm (Fin.ofNat 17 a) s)
    | _ => s
  else s.engrave w off v

/-- A fabric manager's write of the journal's registers (R417). -/
def State.scriptWrite (s : State) (a off : Nat) (v : Word) : State :=
  if off = R.scriptCfg then s.scriptCfgWrite a v
  else if off = R.scriptBase then if s.scriptOn ∨ bits v 0 6 ≠ 0 then s else s.lastWins a off fun t => t.setReg off v
  else if off = R.scriptBase + 4 then if s.scriptOn then s else s.lastWins a off fun t => t.setReg off v
  else if off = R.scriptHead then s.lastWins a off fun t => (t.setReg off v).drainScript
  else if off = R.scriptHead + 4 then s.lastWins a off fun t => (t.setReg off (BitVec.ofNat 32 (bits v 0 8))).drainScript
  else s

/-- A fabric manager's write of LANE_CTL: each bit set acts, lowest first. -/
def State.laneCtlWrite (s : State) (a l : Nat) (v : Word) : State :=
  s.fmReg a (R.lane l + 4) v fun t =>
    let t1 := if bit v 0 then t.laneForceFail l else t
    let t2 := if bit v 1 then t1.laneClearFail l else t1
    if bit v 2 then t2.linkAskRetrain (l / 9) else t2

/-- A fabric manager's write of a lane block or of the lanes' common registers. START with STOP starts the scan (DESIGN CHOICE, log entry 89). -/
def State.laneWrite (s : State) (a off : Nat) (v : Word) : State :=
  if off = R.cmisRd then
    if bit v 22 then s.after (execCmisReadGo (Fin.ofNat 17 a) v s) else s.writeFields off v [anyField 0 22]
  else
    let l := (off - 0x400000) / 0x400
    let r := (off - 0x400000) % 0x400
    if r = 4 then s.laneCtlWrite a l v
    else if r = 0x10 then
      let src : Source := Fin.ofNat 17 a
      let lane : LaneIx := Fin.ofNat 288 l
      if ! scanFits v then s
      else if bit v 0 then s.after (execScanStart src lane v s)
      else
        let s1 := s.setReg off (scanSettings v)
        if bit v 1 then s1.after (execScanStop src lane s1) else s1
    else s

/-- A fabric manager's write of a link block. -/
def State.linkWrite (s : State) (a off : Nat) (v : Word) : State :=
  let n := (off - 0x800000) / 0x4000
  let link : LinkIx := Fin.ofNat 32 n
  let src : Source := Fin.ofNat 17 a
  if off % 0x4000 = 4 then
    s.fmReg a off v fun t =>
      let t1 := if bit v 0 then t.linkAskRetrain n else t
      let t2 := if bit v 1 then t1.linkRestart n else t1
      let t3 := if bit v 2 then t2.linkForceDown n else t2
      if bit v 3 then t3.linkClearRestrict n else t3
  else if off % 0x4000 = 8 then
    if bit v 0 then s.after (execLinkDisable src link v s) else s.after (execLinkEnable src link v s)
  else s

/-- A fabric manager's write of a register of CSW, PRM or ERU that is more than a plain field. -/
def State.cellWrite (s : State) (a off : Nat) (v : Word) : State :=
  let src : Source := Fin.ofNat 17 a
  if off = R.seatFence then s.after (execSeatFenceWrite src v s)
  else if off = R.prmCfg then s.after (execPause src v s)
  else if 0x1801000 ≤ off ∧ off < 0x1802000 then s.after (execCtrKeyWrite src (Fin.ofNat 1024 ((off - 0x1801000) / 4)) v s)
  else if off = R.eruCfg then
    if s.col.ctxs.isEmpty ∧ fits v (0, 5, 1, 16) then s.lastWins a off fun t => t.writeFields off v [(0, 5, 1, 16)] else s
  else if 0x1C01000 ≤ off ∧ off < 0x1C02000 then s.after (execEruCellKeyWrite src (Fin.ofNat 1024 ((off - 0x1C01000) / 4)) v s)
  else s

/-- A write of a step counter's word: applied before the advances of its own cycle (R464). -/
def State.stepWrite (s : State) (off : Nat) (v : Word) : State :=
  let k := (off - R.clkStep) / 8
  let base := R.clkStep + 8 * k
  let n := s.stepsNow k
  let old := (s.reg64 base + 2 ^ 64 - n % 2 ^ 64) % 2 ^ 64
  let new := if off % 8 = 0 then old / 2 ^ 32 * 2 ^ 32 + v.toNat else old % 2 ^ 32 + v.toNat * 2 ^ 32
  s.setReg64 base ((new + n) % 2 ^ 64)

/-- A fabric manager's write of an RW, W1C or W1S register outside the host windows. -/
def State.fmBlockWrite (s : State) (a off : Nat) (v : Word) : State :=
  match plainFields off, rwpFields off with
  | some fs, _ => if fs.all (fits v) then s.lastWins a off fun t => t.writeFields off v fs else s
  | none, some fs => s.rwpWrite a off fs v
  | none, none =>
    if off < 0x100000 then s.kprWrite a off v
    else if R.clkStep ≤ off ∧ off < R.clkStep + 128 then s.lastWins a off fun t => t.stepWrite off v
    else if off < 0x400000 then s.scriptWrite a off v
    else if off < 0x800000 then s.laneWrite a off v
    else if off < 0x1000000 then s.linkWrite a off v
    else s.cellWrite a off v

/-! ## Writes of host windows -/

/-- GO in a window's mailbox: the message's TYPE says which request runs (Table 14-2); any other TYPE is an ERROR. -/
def State.mbxGo (s : State) (w : Nat) : State :=
  let k : Win := Fin.ofNat 16 w
  match le (s.mbxIn w 2) 0 2 with
  | 1 => s.after (execAttestReq k s)
  | 2 => s.after (execShare k s)
  | 3 => s.after (execCertReq k s)
  | 4 => s.after (execRecordGet k s)
  | 5 => s.after (execEnrol k s)
  | 6 => s.after (execRevoke k s)
  | _ => s.mbxRun w 0x10000 fun _ => s

/-- KPR_FM_CTL: each GO bit set acts, lowest first; one after another is ignored while BUSY. -/
def State.fmCtlWrite (s : State) (w : Nat) (v : Word) : State :=
  let s1 := if bit v 0 then s.fmGo w 1 else s
  let s2 := if bit v 1 then s1.fmGo w 2 else s1
  if bit v 2 then s2.fmGo w 3 else s2

/-- The event bits of a window that were not set in this cycle: W1C clears no other (R9). -/
def State.eventsOld (s : State) (w : Nat) : Word :=
  pack 32 ((List.range 4).map fun k => (k, 1, b2n (decide (tabFind s.kpr.eventAt (4 * w + k) ≠ some s.clk.count))))

/-- A window's write of KPR_HW_EVENT, KPR_HW_EVENT_EN, KPR_HW_CTL and KPR_HW_MAP_*. -/
def State.hwWrite (s : State) (w r : Nat) (v : Word) : State :=
  let off := R.win w + r
  if r = R.hwEvent then s.setReg off (s.reg off &&& ~~~ (v &&& s.eventsOld w))
  else if r = R.hwEventEn then s.setReg off (BitVec.ofNat 32 (bits v 0 4))
  else if r = R.hwCtl then if bit v 0 then s.after (execHostWindowReset (Fin.ofNat 16 w) s) else s
  else if r = R.mapRegion then s.setReg off (BitVec.ofNat 32 (bits v 0 16))
  else if r = R.mapOffset then if bits v 0 19 ≠ 0 then s else s.setReg off v
  else if r = R.mapOffset + 4 then s.setReg off (BitVec.ofNat 32 (bits v 0 8))
  else if r = R.mapCtl then s.setReg off (BitVec.ofNat 32 (bits v 0 1))
  else s

/-- A window's write of its own range (Table 18-2). -/
def State.ownWrite (s : State) (w r : Nat) (v : Word) : State :=
  let off := R.win w + r
  let here : Bool := s.winPresent w || s.winFm w
  if windowAccess r = .unassigned then s
  else if R.mbxIn ≤ r ∧ r < R.mbxOut then s.setReg off v
  else if r = R.mbxCtl then if bit v 0 then s.mbxGo w else s
  else if R.mbxOut ≤ r ∧ r ≤ R.mbxStatus then s
  else if R.hwViol ≤ r ∨ ! here ∨ (R.fmTarget ≤ r ∧ ! s.winFm w) then s.violation w 4 true off
  else if r = R.fmCtl then s.fmCtlWrite w v
  else if r = R.fmTarget then s.setReg off (BitVec.ofNat 32 (bits v 0 10))
  else if r = R.fmData ∧ tabFind s.kpr.fmDataAt w = some s.clk.count then s
  else if R.fmTarget ≤ r ∨ r < R.sqTail then s.setReg off v
  else if r = R.sqTail then s.after (execDoorbell (Fin.ofNat 16 w) v s)
  else s.hwWrite w r v

/-! ## Every write -/

/-- A write to the register of a completion queue. -/
def State.cqRegWrite (s : State) (a off : Nat) (v : Word) : State :=
  let q := (off - 0x1402000) / 32
  match off % 32 with
  | 0 => s.cqBaseWrite a q false v
  | 4 => s.cqBaseWrite a q true v
  | 8 => s.cqCfgWrite a q v
  | 0xC => s.cqHeadSet a q v
  | _ => if s.srcFm a then s else s.violation a 4 true off

/-- A write to the register at an offset by a source, 0 to 15 a window, 16 another node (R522, Table 18-2). One that is not aligned is ignored (R6). -/
def State.regWrite (s : State) (a off : Nat) (v : Word) : State :=
  if off % 4 ≠ 0 then s.violation a 1 true off
  else if inWindows off then
    if winOf off ≠ a then s.violation a 5 true off
    else if R.mapRange ≤ winRel off then s.mapWrite a (winRel off) (toBytes v 4)
    else s.ownWrite a (winRel off) v
  else match regAccess off, selectorBits off with
    | .unassigned, _ => s
    | _, some n => s.selWrite a off n v
    | acc, none =>
      if 0x1402000 ≤ off ∧ off < 0x1404000 then s.cqRegWrite a off v
      else if 0x1802000 ≤ off ∧ off < 0x1802800 ∧ off % 32 = 0x10 then s.arrHeadSet a ((off - 0x1802000) / 32) v
      else if off = R.pltEngCtl ∨ off = R.pltEngLen ∨ off = R.pltStepCtl ∨ (R.pltEngData ≤ off ∧ off < 0x102000) then s.engWrite a off v
      else if ! s.srcFm a then s.violation a 4 true off
      else if acc = .rw then s.fmBlockWrite a off v
      else s

/-- REGISTER_WRITE (R6, R9, R519 to R525). -/
def execRegisterWrite (w : Win) (off : BitVec 26) (value : Word) (s : State) : Host.Outcome State Fault Refusal :=
  .next (s.regWrite w off.toNat value)

/-- SEAT_INPUT_RELEASE (R419): with 64 KiB of the buffer free, seats' cells and the held register writes go on. -/
def execSeatInputRelease (s : State) : Host.Outcome State Fault Refusal :=
  if s.script.holdInput ∧ s.script.fill + 65536 ≤ scriptBuffer then
    .next (s.script.writes.foldl (fun t x => t.regWrite x.src x.off x.value) (s.setScript { s.script with holdInput := false, writes := [] }))
  else .next s

/-! ## Accesses of another node (R499) -/

/-- An offset that a remote access may not name. -/
def remoteBad (wr : Bool) (off : Nat) : Bool :=
  decide ((0x101000 ≤ off ∧ off < 0x102000) ∨ 0x3000000 ≤ off) || (wr && (off == R.pltEngCtl || off == R.pltEngLen))

/-- Why a remote READ or WRITE is refused: 1 DENIED, 2 BAD_OFFSET. -/
def State.remoteRefused (s : State) (wr : Bool) (c : Cell) : Option Nat :=
  if ! s.fmNode (epNode c.src.toNat) then some 1 else if remoteBad wr (bytesAt c.payload 4 4) then some 2 else none

/-- FM_READ_RX (R499, R523): a read of another node clears counters as a fabric manager's does. -/
def execFmReadRx (c : Cell) (s : State) : Host.Outcome State Fault Refusal :=
  if ! s.running then .next s else
  if ! fmReqIs c 1 then .fault .illFormed
  else
    let s0 := s.takeEjected c
    match s0.remoteRefused false c with
    | some k => .next (s0.fmRefuse c k)
    | none =>
      let x := s0.regRead 16 (bytesAt c.payload 4 4)
      .next (x.2.fmRespond c 0 x.1.toNat)

/-- FM_WRITE_RX (R499): a write of another node, as a fabric manager's, answered OK. -/
def execFmWriteRx (c : Cell) (s : State) : Host.Outcome State Fault Refusal :=
  if ! s.running then .next s else
  if ! fmReqIs c 2 then .fault .illFormed
  else
    let s0 := s.takeEjected c
    match s0.remoteRefused true c with
    | some k => .next (s0.fmRefuse c k)
    | none =>
      let v := bytesAt c.payload 8 4
      .next ((s0.regWrite 16 (bytesAt c.payload 4 4) (BitVec.ofNat 32 v)).fmRespond c 0 v)

end Sys2Proof.Machine
end

