-- ==== Sys2Proof/Machine/Wake.lean ====
section
/-! DEFINITION. The end of a wake (R510, R511). -/

namespace Sys2Proof.Machine

/-- A tier that the active version places a region in, but whose controllers no longer retain it (R510). -/
def State.retentionLost (s : State) : Bool :=
  match s.plt.active with
  | none => false
  | some v => v.places.any fun p =>
      (p.2.nearLen != 0 && ! bit s.kpr.retained 0) || (p.2.farLen != 0 && ! bit s.kpr.retained 1)

/-- A wake starts the links that may train (R93, R511, Table 05-6); no node's silence is counted until its next SYNC (R483). -/
def State.wakeLinks (s : State) : State :=
  (List.range 32).foldl (fun t n => if ! bit (t.reg (R.link n + 8)) 0 && t.mayTrain n then t.startTrain n else t)
    { s with kpr := { s.kpr with lastSync := [] } }

/-- The doorbells and mailbox messages that waited for the wake go on, window by window. -/
def State.wakeWindows (s : State) : State :=
  let held := s.kpr.heldGo
  let s1 : State := { s with kpr := { s.kpr with heldGo := [] } }
  let s2 := (List.range 16).foldl (fun t w => t.fetchRing (Fin.ofNat 16 w)) s1
  held.foldl (fun t w => t.mbxGo w) s2

/-- WAKE_TABLES_READY (R510, R511): the tables hold the active version, and the node runs; a tier that was not retained resets the node. -/
def execWakeTablesReady (s : State) : Host.Outcome State Fault Refusal :=
  if s.kpr.power ≠ .waking then .next s
  else if s.retentionLost then .next (s.resetNode 4)
  else .next ((({ s with kpr := { s.kpr with power := .run } } : State).wakeLinks).wakeWindows).settleAll

end Sys2Proof.Machine
end

