-- ==== Sys2Proof/Machine/Dispatch.lean ====
section
/-! DEFINITION. One arm per command: the meaning of each row of spec/opcode_table.json. -/

namespace Sys2Proof.Machine

/-- A command's effect on everything but the queue of waiting commands. -/
def exec (i : Instr) (s : State) : Host.Outcome State Fault Refusal :=
  match i with
  | .keeperPowerOnReset straps => Sys2Proof.Machine.execKeeperPowerOnReset straps s
  | .nodeReset src => Sys2Proof.Machine.execNodeReset src s
  | .hostWindowReset w => Sys2Proof.Machine.execHostWindowReset w s
  | .firmwareBoot image => Sys2Proof.Machine.execFirmwareBoot image s
  | .run w => Sys2Proof.Machine.execRun w s
  | .wakeTablesReady => Sys2Proof.Machine.execWakeTablesReady s
  | .sleep w => Sys2Proof.Machine.execSleep w s
  | .sleepEntryDone => Sys2Proof.Machine.execSleepEntryDone s
  | .faultSourceAssert src t c unit detail => Sys2Proof.Machine.execFaultSourceAssert src t c unit detail s
  | .railBreak src => Sys2Proof.Machine.execRailBreak src s
  | .railTest src first second => Sys2Proof.Machine.execRailTest src first second s
  | .faultActiveClear a word value => Sys2Proof.Machine.execFaultActiveClear a word value s
  | .powerFailWarning => Sys2Proof.Machine.execPowerFailWarning s
  | .refClockLost => Sys2Proof.Machine.execRefClockLost s
  | .tempSample temps => Sys2Proof.Machine.execTempSample temps s
  | .throttleStep => Sys2Proof.Machine.execThrottleStep s
  | .sidebandInput i0 => Sys2Proof.Machine.execSidebandInput i0 s
  | .domainGate d stopped => Sys2Proof.Machine.execDomainGate d stopped s
  | .domainWake d => Sys2Proof.Machine.execDomainWake d s
  | .syncWake n => Sys2Proof.Machine.execSyncWake n s
  | .openEng w => Sys2Proof.Machine.execOpenEng w s
  | .pltEngLenWrite w value => Sys2Proof.Machine.execPltEngLenWrite w value s
  | .engraveWord w value => Sys2Proof.Machine.execEngraveWord w value s
  | .closeEng w => Sys2Proof.Machine.execCloseEng w s
  | .verificationDone => Sys2Proof.Machine.execVerificationDone s
  | .cancel w => Sys2Proof.Machine.execCancel w s
  | .sealPlate w => Sys2Proof.Machine.execSealPlate w s
  | .arm a => Sys2Proof.Machine.execArm a s
  | .disarm a => Sys2Proof.Machine.execDisarm a s
  | .flip => Sys2Proof.Machine.execFlip s
  | .retireRelease => Sys2Proof.Machine.execRetireRelease s
  | .proofSweep i0 => Sys2Proof.Machine.execProofSweep i0 s
  | .sweepRx c => Sys2Proof.Machine.execSweepRx c s
  | .sweepResend k => Sys2Proof.Machine.execSweepResend k s
  | .trainingFrameRx l frame ppm => Sys2Proof.Machine.execTrainingFrameRx l frame ppm s
  | .laneLocked l met => Sys2Proof.Machine.execLaneLocked l met s
  | .trainTimeout l => Sys2Proof.Machine.execTrainTimeout l s
  | .los l => Sys2Proof.Machine.execLos l s
  | .lol l => Sys2Proof.Machine.execLol l s
  | .fecLimit l word more => Sys2Proof.Machine.execFecLimit l word more s
  | .standbyCheck l => Sys2Proof.Machine.execStandbyCheck l s
  | .wakeFailure l => Sys2Proof.Machine.execWakeFailure l s
  | .forceFail a l => Sys2Proof.Machine.execForceFail a l s
  | .clearFail a l => Sys2Proof.Machine.execClearFail a l s
  | .laneRetrain a l => Sys2Proof.Machine.execLaneRetrain a l s
  | .txIdleEnter l => Sys2Proof.Machine.execTxIdleEnter l s
  | .signalDetect l => Sys2Proof.Machine.execSignalDetect l s
  | .engineBringup e revision moduleState activated => Sys2Proof.Machine.execEngineBringup e revision moduleState activated s
  | .enginePoll e flags => Sys2Proof.Machine.execEnginePoll e flags s
  | .engineInterrupt e flags => Sys2Proof.Machine.execEngineInterrupt e flags s
  | .cmisReadGo a value => Sys2Proof.Machine.execCmisReadGo a value s
  | .cmisReadDone b => Sys2Proof.Machine.execCmisReadDone b s
  | .scanStart a l value => Sys2Proof.Machine.execScanStart a l value s
  | .scanStop a l => Sys2Proof.Machine.execScanStop a l s
  | .scanDone l errors => Sys2Proof.Machine.execScanDone l errors s
  | .linkTxSlot n => Sys2Proof.Machine.execLinkTxSlot n s
  | .sequencedCellRx n form parts => Sys2Proof.Machine.execSequencedCellRx n form parts s
  | .nullCellRx n c => Sys2Proof.Machine.execNullCellRx n c s
  | .ackCellRx n c => Sys2Proof.Machine.execAckCellRx n c s
  | .creditCellRx n c => Sys2Proof.Machine.execCreditCellRx n c s
  | .identRx n c => Sys2Proof.Machine.execIdentRx n c s
  | .retrainCellRx n c => Sys2Proof.Machine.execRetrainCellRx n c s
  | .downCellRx n c => Sys2Proof.Machine.execDownCellRx n c s
  | .protestRx n c => Sys2Proof.Machine.execProtestRx n c s
  | .replayTimeout n => Sys2Proof.Machine.execReplayTimeout n s
  | .ackDelay n => Sys2Proof.Machine.execAckDelay n s
  | .trainComplete n => Sys2Proof.Machine.execTrainComplete n s
  | .identLimit n => Sys2Proof.Machine.execIdentLimit n s
  | .retrainLimit n => Sys2Proof.Machine.execRetrainLimit n s
  | .realignDone n words => Sys2Proof.Machine.execRealignDone n words s
  | .realignTimeout n => Sys2Proof.Machine.execRealignTimeout n s
  | .linkRetrain a n => Sys2Proof.Machine.execLinkRetrain a n s
  | .restart a n => Sys2Proof.Machine.execRestart a n s
  | .forceDown a n => Sys2Proof.Machine.execForceDown a n s
  | .clearRestrict a n => Sys2Proof.Machine.execClearRestrict a n s
  | .linkDisable a n value => Sys2Proof.Machine.execLinkDisable a n value s
  | .linkEnable a n value => Sys2Proof.Machine.execLinkEnable a n value s
  | .linkDrainDeadline n => Sys2Proof.Machine.execLinkDrainDeadline n s
  | .cellOutputChoice => Sys2Proof.Machine.execCellOutputChoice s
  | .deferredEjection n => Sys2Proof.Machine.execDeferredEjection n s
  | .echoRx c => Sys2Proof.Machine.execEchoRx c s
  | .echoWait node => Sys2Proof.Machine.execEchoWait node s
  | .incPeriod node => Sys2Proof.Machine.execIncPeriod node s
  | .seatFenceWrite a value => Sys2Proof.Machine.execSeatFenceWrite a value s
  | .doorbell w value => Sys2Proof.Machine.execDoorbell w value s
  | .descRx c => Sys2Proof.Machine.execDescRx c s
  | .issueResume who => Sys2Proof.Machine.execIssueResume who s
  | .load i0 => Sys2Proof.Machine.execLoad i0 s
  | .store i0 => Sys2Proof.Machine.execStore i0 s
  | .storeOrd i0 => Sys2Proof.Machine.execStoreOrd i0 s
  | .copy i0 => Sys2Proof.Machine.execCopy i0 s
  | .fill i0 => Sys2Proof.Machine.execFill i0 s
  | .atomIadd i0 => Sys2Proof.Machine.execAtomIadd i0 s
  | .atomCas i0 => Sys2Proof.Machine.execAtomCas i0 s
  | .atomSwap i0 => Sys2Proof.Machine.execAtomSwap i0 s
  | .atomFaddF i0 => Sys2Proof.Machine.execAtomFaddF i0 s
  | .atomFaddXAdd i0 => Sys2Proof.Machine.execAtomFaddXAdd i0 s
  | .atomFaddXRead i0 => Sys2Proof.Machine.execAtomFaddXRead i0 s
  | .atomFaddXClear i0 => Sys2Proof.Machine.execAtomFaddXClear i0 s
  | .outcome i0 => Sys2Proof.Machine.execOutcome i0 s
  | .abort i0 => Sys2Proof.Machine.execAbort i0 s
  | .abortContext i0 => Sys2Proof.Machine.execAbortContext i0 s
  | .cueAdd i0 => Sys2Proof.Machine.execCueAdd i0 s
  | .cueArmCues i0 => Sys2Proof.Machine.execCueArmCues i0 s
  | .cueArmArrival i0 => Sys2Proof.Machine.execCueArmArrival i0 s
  | .cueArmDisarm i0 => Sys2Proof.Machine.execCueArmDisarm i0 s
  | .redInOpen i0 => Sys2Proof.Machine.execRedInOpen i0 s
  | .redInMember i0 => Sys2Proof.Machine.execRedInMember i0 s
  | .redOut i0 => Sys2Proof.Machine.execRedOut i0 s
  | .allgatherOpen i0 => Sys2Proof.Machine.execAllgatherOpen i0 s
  | .allgatherMember i0 => Sys2Proof.Machine.execAllgatherMember i0 s
  | .bcastOpen i0 => Sys2Proof.Machine.execBcastOpen i0 s
  | .bcastMember i0 => Sys2Proof.Machine.execBcastMember i0 s
  | .alltoallOpen i0 => Sys2Proof.Machine.execAlltoallOpen i0 s
  | .alltoallMember i0 => Sys2Proof.Machine.execAlltoallMember i0 s
  | .barrierOpen i0 => Sys2Proof.Machine.execBarrierOpen i0 s
  | .barrierMember i0 => Sys2Proof.Machine.execBarrierMember i0 s
  | .normOpen i0 => Sys2Proof.Machine.execNormOpen i0 s
  | .normMember i0 => Sys2Proof.Machine.execNormMember i0 s
  | .update i0 => Sys2Proof.Machine.execUpdate i0 s
  | .digestRegion i0 => Sys2Proof.Machine.execDigestRegion i0 s
  | .digestVerify i0 => Sys2Proof.Machine.execDigestVerify i0 s
  | .sealRecord i0 => Sys2Proof.Machine.execSealRecord i0 s
  | .intermission i0 => Sys2Proof.Machine.execIntermission i0 s
  | .resume i0 => Sys2Proof.Machine.execResume i0 s
  | .commit i0 => Sys2Proof.Machine.execCommit i0 s
  | .commitSlotWrite => Sys2Proof.Machine.execCommitSlotWrite s
  | .holdupRecheck => Sys2Proof.Machine.execHoldupRecheck s
  | .loadReqRx c => Sys2Proof.Machine.execLoadReqRx c s
  | .storeDataRx c => Sys2Proof.Machine.execStoreDataRx c s
  | .bulkDataRx c => Sys2Proof.Machine.execBulkDataRx c s
  | .atomicReqRx c => Sys2Proof.Machine.execAtomicReqRx c s
  | .copyFwdRx c => Sys2Proof.Machine.execCopyFwdRx c s
  | .fillReqRx c => Sys2Proof.Machine.execFillReqRx c s
  | .outcomeReqRx c => Sys2Proof.Machine.execOutcomeReqRx c s
  | .abortReqRx c => Sys2Proof.Machine.execAbortReqRx c s
  | .collectiveAbortReqRx c => Sys2Proof.Machine.execCollectiveAbortReqRx c s
  | .loadDataRx c => Sys2Proof.Machine.execLoadDataRx c s
  | .completionChunkRx c => Sys2Proof.Machine.execCompletionChunkRx c s
  | .atomicRspRx c => Sys2Proof.Machine.execAtomicRspRx c s
  | .outcomeRspRx c => Sys2Proof.Machine.execOutcomeRspRx c s
  | .noticeRx c => Sys2Proof.Machine.execNoticeRx c s
  | .operationTimeout tag => Sys2Proof.Machine.execOperationTimeout tag s
  | .busyBackoff tag => Sys2Proof.Machine.execBusyBackoff tag s
  | .tagReuseHold tag => Sys2Proof.Machine.execTagReuseHold tag s
  | .orderingContextRelease k => Sys2Proof.Machine.execOrderingContextRelease k s
  | .cqHeadWrite a q value => Sys2Proof.Machine.execCqHeadWrite a q value s
  | .cqEnable a q value => Sys2Proof.Machine.execCqEnable a q value s
  | .cqDisable a q value => Sys2Proof.Machine.execCqDisable a q value s
  | .drainDeadline d => Sys2Proof.Machine.execDrainDeadline d s
  | .channelResponse p id wr stat data code poison => Sys2Proof.Machine.execChannelResponse p id wr stat data code poison s
  | .channelReadyFall p => Sys2Proof.Machine.execChannelReadyFall p s
  | .channelReadyRise p => Sys2Proof.Machine.execChannelReadyRise p s
  | .chanHold p => Sys2Proof.Machine.execChanHold p s
  | .rspTimeout p => Sys2Proof.Machine.execRspTimeout p s
  | .zeroingDone region => Sys2Proof.Machine.execZeroingDone region s
  | .scrubDone => Sys2Proof.Machine.execScrubDone s
  | .ctrKeyWrite a b value => Sys2Proof.Machine.execCtrKeyWrite a b value s
  | .cueFire cue => Sys2Proof.Machine.execCueFire cue s
  | .pause a value => Sys2Proof.Machine.execPause a value s
  | .cueAddRx c => Sys2Proof.Machine.execCueAddRx c s
  | .gatherDataRx c => Sys2Proof.Machine.execGatherDataRx c s
  | .pieceEntry t => Sys2Proof.Machine.execPieceEntry t s
  | .arrHeadWrite a ch value => Sys2Proof.Machine.execArrHeadWrite a ch value s
  | .contextAdmit => Sys2Proof.Machine.execContextAdmit s
  | .memberWaitTimeout => Sys2Proof.Machine.execMemberWaitTimeout s
  | .grantRx c => Sys2Proof.Machine.execGrantRx c s
  | .doneRx c => Sys2Proof.Machine.execDoneRx c s
  | .regrant k => Sys2Proof.Machine.execRegrant k s
  | .contribRx c => Sys2Proof.Machine.execContribRx c s
  | .partialCfRx c => Sys2Proof.Machine.execPartialCfRx c s
  | .a2aCountsRx c => Sys2Proof.Machine.execA2aCountsRx c s
  | .a2aDataRx c => Sys2Proof.Machine.execA2aDataRx c s
  | .contextTimeout k => Sys2Proof.Machine.execContextTimeout k s
  | .replayPass k => Sys2Proof.Machine.execReplayPass k s
  | .barrierRelease k => Sys2Proof.Machine.execBarrierRelease k s
  | .eruCellKeyWrite a b value => Sys2Proof.Machine.execEruCellKeyWrite a b value s
  | .updateSegment u => Sys2Proof.Machine.execUpdateSegment u s
  | .updateContextTimeout u => Sys2Proof.Machine.execUpdateContextTimeout u s
  | .updateGateTimeout u => Sys2Proof.Machine.execUpdateGateTimeout u s
  | .freeze => Sys2Proof.Machine.execFreeze s
  | .hushQuiet => Sys2Proof.Machine.execHushQuiet s
  | .hushLimit => Sys2Proof.Machine.execHushLimit s
  | .imageWritten => Sys2Proof.Machine.execImageWritten s
  | .resumeTime => Sys2Proof.Machine.execResumeTime s
  | .scriptEnable a value => Sys2Proof.Machine.execScriptEnable a value s
  | .hostDataClose => Sys2Proof.Machine.execHostDataClose s
  | .doorbellRelease => Sys2Proof.Machine.execDoorbellRelease s
  | .seatInputRelease => Sys2Proof.Machine.execSeatInputRelease s
  | .attestReq w => Sys2Proof.Machine.execAttestReq w s
  | .share w => Sys2Proof.Machine.execShare w s
  | .certReq w => Sys2Proof.Machine.execCertReq w s
  | .recordGet w => Sys2Proof.Machine.execRecordGet w s
  | .enrol w => Sys2Proof.Machine.execEnrol w s
  | .revoke w => Sys2Proof.Machine.execRevoke w s
  | .fuseWriteDone => Sys2Proof.Machine.execFuseWriteDone s
  | .sessionExpire x => Sys2Proof.Machine.execSessionExpire x s
  | .rngHealthFail => Sys2Proof.Machine.execRngHealthFail s
  | .syncTx n => Sys2Proof.Machine.execSyncTx n s
  | .syncRx n c => Sys2Proof.Machine.execSyncRx n c s
  | .candidateExpire n => Sys2Proof.Machine.execCandidateExpire n s
  | .clockFreeTimeout => Sys2Proof.Machine.execClockFreeTimeout s
  | .holdoverBound => Sys2Proof.Machine.execHoldoverBound s
  | .nodeSilence node => Sys2Proof.Machine.execNodeSilence node s
  | .probe node => Sys2Proof.Machine.execProbe node s
  | .lostRx n c => Sys2Proof.Machine.execLostRx n c s
  | .beacon => Sys2Proof.Machine.execBeacon s
  | .beaconRx n c => Sys2Proof.Machine.execBeaconRx n c s
  | .curtainLowered slot => Sys2Proof.Machine.execCurtainLowered slot s
  | .faultRecRx c => Sys2Proof.Machine.execFaultRecRx c s
  | .goRead w => Sys2Proof.Machine.execGoRead w s
  | .goWrite w => Sys2Proof.Machine.execGoWrite w s
  | .goPing w => Sys2Proof.Machine.execGoPing w s
  | .fmReadRx c => Sys2Proof.Machine.execFmReadRx c s
  | .fmWriteRx c => Sys2Proof.Machine.execFmWriteRx c s
  | .fmPingRx c => Sys2Proof.Machine.execFmPingRx c s
  | .fmRspRx c => Sys2Proof.Machine.execFmRspRx c s
  | .badSizeAccess w wr off => Sys2Proof.Machine.execBadSizeAccess w wr off s
  | .hostMapAccess w off acc => Sys2Proof.Machine.execHostMapAccess w off acc s
  | .registerWrite w off value => Sys2Proof.Machine.execRegisterWrite w off value s
  | .channelRequestAccept p => Sys2Proof.Machine.execChannelRequestAccept p s
  | .registerRead w off => Sys2Proof.Machine.execRegisterRead w off s
  | .fmRequestTimeout w => Sys2Proof.Machine.execFmRequestTimeout w s
  | .burstRx b => Sys2Proof.Machine.execBurstRx b s
  | .rxIdleEnter l => Sys2Proof.Machine.execRxIdleEnter l s
  | .executedTagRecordExpire => Sys2Proof.Machine.execExecutedTagRecordExpire s
  | .outcomeClosureExpire => Sys2Proof.Machine.execOutcomeClosureExpire s

end Sys2Proof.Machine
end

