-- ==== Sys2Proof/Safety.lean ====
section
/-! DEFINITION. The terms that claims use: the parts of the state, the parts that each command may change, and the invariants
of the Plate controller, of the trust anchors and of memory. -/

namespace Sys2Proof

/-- The descriptor that an opcode row submits. -/
def Instr.issueOf (x : Instr) : Option Issue :=
  match x with
  | .keeperPowerOnReset _ => none
  | .nodeReset _ => none
  | .hostWindowReset _ => none
  | .firmwareBoot _ => none
  | .run _ => none
  | .wakeTablesReady => none
  | .sleep _ => none
  | .sleepEntryDone => none
  | .faultSourceAssert _ _ _ _ _ => none
  | .railBreak _ => none
  | .railTest _ _ _ => none
  | .faultActiveClear _ _ _ => none
  | .powerFailWarning => none
  | .refClockLost => none
  | .tempSample _ => none
  | .throttleStep => none
  | .sidebandInput _ => none
  | .domainGate _ _ => none
  | .domainWake _ => none
  | .syncWake _ => none
  | .openEng _ => none
  | .pltEngLenWrite _ _ => none
  | .engraveWord _ _ => none
  | .closeEng _ => none
  | .verificationDone => none
  | .cancel _ => none
  | .sealPlate _ => none
  | .arm _ => none
  | .disarm _ => none
  | .flip => none
  | .retireRelease => none
  | .proofSweep i => some i
  | .sweepRx _ => none
  | .sweepResend _ => none
  | .trainingFrameRx _ _ _ => none
  | .laneLocked _ _ => none
  | .trainTimeout _ => none
  | .los _ => none
  | .lol _ => none
  | .fecLimit _ _ _ => none
  | .standbyCheck _ => none
  | .wakeFailure _ => none
  | .forceFail _ _ => none
  | .clearFail _ _ => none
  | .laneRetrain _ _ => none
  | .txIdleEnter _ => none
  | .signalDetect _ => none
  | .engineBringup _ _ _ _ => none
  | .enginePoll _ _ => none
  | .engineInterrupt _ _ => none
  | .cmisReadGo _ _ => none
  | .cmisReadDone _ => none
  | .scanStart _ _ _ => none
  | .scanStop _ _ => none
  | .scanDone _ _ => none
  | .linkTxSlot _ => none
  | .sequencedCellRx _ _ _ => none
  | .nullCellRx _ _ => none
  | .ackCellRx _ _ => none
  | .creditCellRx _ _ => none
  | .identRx _ _ => none
  | .retrainCellRx _ _ => none
  | .downCellRx _ _ => none
  | .protestRx _ _ => none
  | .replayTimeout _ => none
  | .ackDelay _ => none
  | .trainComplete _ => none
  | .identLimit _ => none
  | .retrainLimit _ => none
  | .realignDone _ _ => none
  | .realignTimeout _ => none
  | .linkRetrain _ _ => none
  | .restart _ _ => none
  | .forceDown _ _ => none
  | .clearRestrict _ _ => none
  | .linkDisable _ _ _ => none
  | .linkEnable _ _ _ => none
  | .linkDrainDeadline _ => none
  | .cellOutputChoice => none
  | .deferredEjection _ => none
  | .echoRx _ => none
  | .echoWait _ => none
  | .incPeriod _ => none
  | .seatFenceWrite _ _ => none
  | .doorbell _ _ => none
  | .descRx _ => none
  | .issueResume _ => none
  | .load i => some i
  | .store i => some i
  | .storeOrd i => some i
  | .copy i => some i
  | .fill i => some i
  | .atomIadd i => some i
  | .atomCas i => some i
  | .atomSwap i => some i
  | .atomFaddF i => some i
  | .atomFaddXAdd i => some i
  | .atomFaddXRead i => some i
  | .atomFaddXClear i => some i
  | .outcome i => some i
  | .abort i => some i
  | .abortContext i => some i
  | .cueAdd i => some i
  | .cueArmCues i => some i
  | .cueArmArrival i => some i
  | .cueArmDisarm i => some i
  | .redInOpen i => some i
  | .redInMember i => some i
  | .redOut i => some i
  | .allgatherOpen i => some i
  | .allgatherMember i => some i
  | .bcastOpen i => some i
  | .bcastMember i => some i
  | .alltoallOpen i => some i
  | .alltoallMember i => some i
  | .barrierOpen i => some i
  | .barrierMember i => some i
  | .normOpen i => some i
  | .normMember i => some i
  | .update i => some i
  | .digestRegion i => some i
  | .digestVerify i => some i
  | .sealRecord i => some i
  | .intermission i => some i
  | .resume i => some i
  | .commit i => some i
  | .commitSlotWrite => none
  | .holdupRecheck => none
  | .loadReqRx _ => none
  | .storeDataRx _ => none
  | .bulkDataRx _ => none
  | .atomicReqRx _ => none
  | .copyFwdRx _ => none
  | .fillReqRx _ => none
  | .outcomeReqRx _ => none
  | .abortReqRx _ => none
  | .collectiveAbortReqRx _ => none
  | .loadDataRx _ => none
  | .completionChunkRx _ => none
  | .atomicRspRx _ => none
  | .outcomeRspRx _ => none
  | .noticeRx _ => none
  | .operationTimeout _ => none
  | .busyBackoff _ => none
  | .tagReuseHold _ => none
  | .orderingContextRelease _ => none
  | .cqHeadWrite _ _ _ => none
  | .cqEnable _ _ _ => none
  | .cqDisable _ _ _ => none
  | .drainDeadline _ => none
  | .channelResponse _ _ _ _ _ _ _ => none
  | .channelReadyFall _ => none
  | .channelReadyRise _ => none
  | .chanHold _ => none
  | .rspTimeout _ => none
  | .zeroingDone _ => none
  | .scrubDone => none
  | .ctrKeyWrite _ _ _ => none
  | .cueFire _ => none
  | .pause _ _ => none
  | .cueAddRx _ => none
  | .gatherDataRx _ => none
  | .pieceEntry _ => none
  | .arrHeadWrite _ _ _ => none
  | .contextAdmit => none
  | .memberWaitTimeout => none
  | .grantRx _ => none
  | .doneRx _ => none
  | .regrant _ => none
  | .contribRx _ => none
  | .partialCfRx _ => none
  | .a2aCountsRx _ => none
  | .a2aDataRx _ => none
  | .contextTimeout _ => none
  | .replayPass _ => none
  | .barrierRelease _ => none
  | .eruCellKeyWrite _ _ _ => none
  | .updateSegment _ => none
  | .updateContextTimeout _ => none
  | .updateGateTimeout _ => none
  | .freeze => none
  | .hushQuiet => none
  | .hushLimit => none
  | .imageWritten => none
  | .resumeTime => none
  | .scriptEnable _ _ => none
  | .hostDataClose => none
  | .doorbellRelease => none
  | .seatInputRelease => none
  | .attestReq _ => none
  | .share _ => none
  | .certReq _ => none
  | .recordGet _ => none
  | .enrol _ => none
  | .revoke _ => none
  | .fuseWriteDone => none
  | .sessionExpire _ => none
  | .rngHealthFail => none
  | .syncTx _ => none
  | .syncRx _ _ => none
  | .candidateExpire _ => none
  | .clockFreeTimeout => none
  | .holdoverBound => none
  | .nodeSilence _ => none
  | .probe _ => none
  | .lostRx _ _ => none
  | .beacon => none
  | .beaconRx _ _ => none
  | .curtainLowered _ => none
  | .faultRecRx _ => none
  | .goRead _ => none
  | .goWrite _ => none
  | .goPing _ => none
  | .fmReadRx _ => none
  | .fmWriteRx _ => none
  | .fmPingRx _ => none
  | .fmRspRx _ => none
  | .badSizeAccess _ _ _ => none
  | .hostMapAccess _ _ _ => none
  | .registerWrite _ _ _ => none
  | .channelRequestAccept _ => none
  | .registerRead _ _ => none
  | .fmRequestTimeout _ => none
  | .burstRx _ => none
  | .rxIdleEnter _ => none
  | .executedTagRecordExpire => none
  | .outcomeClosureExpire => none

end Sys2Proof

namespace Sys2Proof.Machine

/-- The parts of the state: one for each field of `State`. -/
inductive StateField where
  | pending | regs | sels | latches | fuses | kpr | plt | clk | lanes | links | csw | mem | sec | xfr | prm | script | eru | col | upd
  | intm | commits | verifies | hostRead | memory | free
deriving DecidableEq, Repr

/-- Two states hold the same in one part. -/
def State.agree (p : StateField) (s t : State) : Prop :=
  match p with
  | .pending => t.pending = s.pending
  | .regs => t.regs = s.regs
  | .sels => t.sels = s.sels
  | .latches => t.latches = s.latches
  | .fuses => t.fuses = s.fuses
  | .kpr => t.kpr = s.kpr
  | .plt => t.plt = s.plt
  | .clk => t.clk = s.clk
  | .lanes => t.lanes = s.lanes
  | .links => t.links = s.links
  | .csw => t.csw = s.csw
  | .mem => t.mem = s.mem
  | .sec => t.sec = s.sec
  | .xfr => t.xfr = s.xfr
  | .prm => t.prm = s.prm
  | .script => t.script = s.script
  | .eru => t.eru = s.eru
  | .col => t.col = s.col
  | .upd => t.upd = s.upd
  | .intm => t.intm = s.intm
  | .commits => t.commits = s.commits
  | .verifies => t.verifies = s.verifies
  | .hostRead => t.hostRead = s.hostRead
  | .memory => t.memory = s.memory
  | .free => t.free = s.free

/-- From `s` to `t` a local record of a code was written: the next entry of the ring holds it unread, its KPR_FAULT_ACTIVE bit is set,
and SEQ has advanced (R473 to R475). -/
def State.logged (s t : State) (code unit count detail : Nat) : Prop :=
  tabFind t.kpr.ring (s.kpr.ringNext % 512) = some { record := s.faultRecord code unit count detail, seen := false } ∧
  t.kpr.ringNext = s.kpr.ringNext + 1 ∧ t.arrayBit R.faultActive code = true ∧ t.reg R.faultSeq = s.reg R.faultSeq + 1

/-- No fault of a code below 112 is of class FT after policy (R472, R476). -/
def State.calm (s : State) : Prop := ∀ c, c < 112 → s.classOf c ≠ 2

/-- A good slot that carries nothing new: its ACK is the last one, and it names no cell to resend. -/
def quietAck (x : Link) (c : Cell) : Prop := c.ack = x.lastAck ∧ c.nak = 0

/-- A request whose turn is at once: at a running node with no other work under way, unordered and no ordering context held, its operation not
closed, its chunk neither executed nor being executed, and not sealed and stale (R217, R225 to R227, R443). -/
def State.freshRequest (s : State) (c : Cell) (chunk : Nat) : Prop :=
  s.running = true ∧ hFlag c 0 = false ∧ s.xfr.rflows = [] ∧ s.xfr.jobs = [] ∧ s.underWay c chunk = false ∧
  s.closed c.src.toNat c.tag.toNat (orig48 c) = false ∧ s.recordFor c chunk = none ∧
  (hFlag c 3 = true → s.stale c.time.toNat = false)

/-- The port's controller answers the last line request of the one work under way, whose line was applied or read (R226, R536): the port is in
use, the request `q` is accepted under the identifier, and the work `j`, under the number `n`, waits for nothing else. -/
def State.lastAnswer (s : State) (p : Port) (id : Byte) (q : LineReq) (n : Nat) (j : Job) : Prop :=
  s.portUsed p = true ∧ (s.chan p).failed = false ∧ ((s.chan p).accepted.find? fun a => a.id == id.toNat).map (fun a => a.req) = some q ∧
  q.job = some n ∧ s.xfr.jobs = [(n, j)] ∧ s.xfr.rflows = [] ∧ j.closed = true ∧ j.left = 1 ∧ j.bad = none ∧ j.unknown = false

/-- No source's pair reads equal (R470). -/
def State.railsWhole (s : State) : Prop := ∀ k, k < 2048 → s.arrayBit R.railState k = false

/-! ## Writes of registers -/

/-- No write of a higher source goes before a source's write of a register in this cycle (R520). -/
def State.foremost (s : State) (a off : Nat) : Prop := ∀ c x, tabFind s.kpr.wroteAt off = some (c, x) → c = s.clk.count → x ≤ a

/-- A source's journalled write of a register acts: it is the foremost, and the journal has room for a window's input (R419). -/
def State.writeActs (s : State) (a off : Nat) : Prop := (s.script.holdInput = false ∨ 16 ≤ a) ∧ s.foremost a off

/-- A source may write a fabric manager's register, and its write acts (R522). -/
def State.mayWrite (s : State) (a off : Nat) : Prop := s.srcFm a = true ∧ s.writeActs a off

/-- The state in which such a write takes effect: the source is noted for the cycle, and the write is journalled. -/
def State.taken (s : State) (a off : Nat) (v : Word) : State :=
  ({ s with kpr := { s.kpr with wroteAt := tabInsert s.kpr.wroteAt off (s.clk.count, a) } } : State).journalReg a off v

/-- A link's lanes can all train: none FAILED, each with a valid entry, and no engine that failed (R102, R105). -/
def State.lanesFit (s : State) (n : Nat) : Prop :=
  ∀ k, k < 9 → (s.lane (9 * n + k)).state ≠ .failed ∧ bit (s.reg (R.lane (9 * n + k) + 8)) 0 = true ∧
    bit (s.reg (R.engineState + 4 * bits (s.reg (R.lane (9 * n + k) + 0xC)) 16 6)) 4 = false

/-! ## What each command may change -/

/-- What a fault record may change: its registers and ring, and, where the fault is of class FT, the links, lanes and keys (R479). -/
def faultParts : List StateField := [.regs, .kpr, .lanes, .links, .csw, .sec, .free]

/-- With the script journal. -/
def journalParts : List StateField := faultParts ++ [.script]

/-- With operations, cues and memory. -/
def opParts : List StateField := journalParts ++ [.mem, .xfr, .prm, .memory]

/-- With the contexts and the UPDATEs, which go on as far as they may. -/
def settleParts : List StateField := opParts ++ [.col, .upd]

/-- With everything that issuing a descriptor may start. -/
def issueParts : List StateField := settleParts ++ [.clk, .eru, .intm, .commits, .verifies]

/-- The parts of the state that a command may change. -/
def mayChange (x : Instr) : List StateField :=
  match x with
  | .keeperPowerOnReset _ => issueParts ++ [.sels, .latches, .fuses, .plt, .hostRead]
  | .nodeReset _ => journalParts ++ [.sels, .latches, .fuses, .plt, .clk, .mem, .xfr, .prm, .eru, .col, .upd, .intm, .commits, .verifies]
  | .hostWindowReset _ => [.regs, .sels, .latches, .kpr, .plt, .xfr, .script]
  | .firmwareBoot _ => [.regs, .kpr, .sec]
  | .run _ => [.regs, .kpr, .mem]
  | .wakeTablesReady => issueParts ++ [.sels, .latches, .fuses, .plt]
  | .sleep _ => journalParts ++ [.mem, .xfr, .memory]
  | .sleepEntryDone => journalParts ++ [.clk, .mem, .xfr, .prm, .eru, .col, .upd, .intm, .commits, .verifies]
  | .faultSourceAssert _ _ _ _ _ => faultParts ++ [.eru, .col]
  | .railBreak _ => faultParts
  | .railTest _ _ _ => faultParts
  | .faultActiveClear _ _ _ => [.regs, .kpr]
  | .powerFailWarning => faultParts
  | .refClockLost => faultParts
  | .tempSample _ => faultParts
  | .throttleStep => [.kpr]
  | .sidebandInput _ => [.regs, .kpr]
  | .domainGate _ _ => [.regs, .kpr, .lanes, .free]
  | .domainWake _ => [.regs, .kpr, .lanes, .free]
  | .syncWake _ => [.regs, .kpr, .lanes, .free]
  | .openEng _ => [.regs, .plt]
  | .pltEngLenWrite _ _ => [.regs, .plt]
  | .engraveWord _ _ => [.regs, .kpr, .plt]
  | .closeEng _ => [.regs, .kpr, .plt]
  | .verificationDone => [.regs, .kpr, .plt]
  | .cancel _ => [.regs, .kpr, .plt]
  | .sealPlate _ => journalParts ++ [.plt, .clk, .mem]
  | .arm _ => [.regs, .kpr, .plt]
  | .disarm _ => [.regs, .kpr, .plt]
  | .flip => journalParts ++ [.plt, .clk, .mem, .xfr, .prm]
  | .retireRelease => journalParts ++ [.plt, .mem]
  | .proofSweep _ => issueParts
  | .sweepRx _ => settleParts ++ [.clk, .eru]
  | .sweepResend _ => [.csw, .col]
  | .trainingFrameRx _ _ _ => faultParts ++ [.clk]
  | .laneLocked _ _ => faultParts ++ [.clk]
  | .trainTimeout _ => faultParts ++ [.clk]
  | .los _ => faultParts ++ [.clk]
  | .lol _ => faultParts ++ [.clk]
  | .fecLimit _ _ _ => faultParts ++ [.clk]
  | .standbyCheck _ => faultParts ++ [.clk]
  | .wakeFailure _ => faultParts ++ [.clk]
  | .forceFail _ _ => journalParts ++ [.clk]
  | .clearFail _ _ => journalParts
  | .laneRetrain _ _ => journalParts ++ [.clk]
  | .txIdleEnter _ => [.lanes, .links]
  | .signalDetect _ => [.regs, .kpr, .lanes, .free]
  | .engineBringup _ _ _ _ => faultParts ++ [.clk]
  | .enginePoll _ _ => faultParts ++ [.clk]
  | .engineInterrupt _ _ => faultParts ++ [.clk]
  | .cmisReadGo _ _ => [.regs, .kpr]
  | .cmisReadDone _ => [.regs]
  | .scanStart _ _ _ => [.regs, .kpr, .lanes]
  | .scanStop _ _ => [.regs, .kpr, .free]
  | .scanDone _ _ => [.regs]
  | .linkTxSlot _ => faultParts ++ [.plt, .clk]
  | .sequencedCellRx _ _ _ => faultParts ++ [.clk]
  | .nullCellRx _ _ => faultParts ++ [.clk]
  | .ackCellRx _ _ => faultParts ++ [.clk]
  | .creditCellRx _ _ => faultParts ++ [.clk]
  | .identRx _ _ => faultParts ++ [.plt, .clk]
  | .retrainCellRx _ _ => faultParts ++ [.clk]
  | .downCellRx _ _ => settleParts ++ [.clk, .eru, .intm]
  | .protestRx _ _ => faultParts ++ [.clk]
  | .replayTimeout _ => faultParts ++ [.clk]
  | .ackDelay _ => [.regs, .kpr, .lanes, .links, .free]
  | .trainComplete _ => faultParts ++ [.clk]
  | .identLimit _ => faultParts ++ [.clk]
  | .retrainLimit _ => faultParts ++ [.clk]
  | .realignDone _ _ => faultParts ++ [.clk]
  | .realignTimeout _ => faultParts ++ [.clk]
  | .linkRetrain _ _ => journalParts ++ [.clk]
  | .restart _ _ => journalParts ++ [.clk]
  | .forceDown _ _ => journalParts ++ [.clk]
  | .clearRestrict _ _ => journalParts
  | .linkDisable _ _ _ => journalParts
  | .linkEnable _ _ _ => journalParts ++ [.clk]
  | .linkDrainDeadline _ => faultParts ++ [.clk]
  | .cellOutputChoice => settleParts ++ [.clk, .eru]
  | .deferredEjection _ => settleParts ++ [.clk, .eru]
  | .echoRx _ => [.regs, .csw]
  | .echoWait _ => [.regs, .csw]
  | .incPeriod _ => [.csw]
  | .seatFenceWrite _ _ => journalParts
  | .doorbell _ _ => issueParts
  | .descRx _ => issueParts
  | .issueResume _ => issueParts
  | .load _ => issueParts
  | .store _ => issueParts
  | .storeOrd _ => issueParts
  | .copy _ => issueParts
  | .fill _ => issueParts
  | .atomIadd _ => issueParts
  | .atomCas _ => issueParts
  | .atomSwap _ => issueParts
  | .atomFaddF _ => issueParts
  | .atomFaddXAdd _ => issueParts
  | .atomFaddXRead _ => issueParts
  | .atomFaddXClear _ => issueParts
  | .outcome _ => issueParts
  | .abort _ => issueParts
  | .abortContext _ => issueParts
  | .cueAdd _ => issueParts
  | .cueArmCues _ => issueParts
  | .cueArmArrival _ => issueParts
  | .cueArmDisarm _ => issueParts
  | .redInOpen _ => issueParts
  | .redInMember _ => issueParts
  | .redOut _ => issueParts
  | .allgatherOpen _ => issueParts
  | .allgatherMember _ => issueParts
  | .bcastOpen _ => issueParts
  | .bcastMember _ => issueParts
  | .alltoallOpen _ => issueParts
  | .alltoallMember _ => issueParts
  | .barrierOpen _ => issueParts
  | .barrierMember _ => issueParts
  | .normOpen _ => issueParts
  | .normMember _ => issueParts
  | .update _ => issueParts
  | .digestRegion _ => issueParts
  | .digestVerify _ => issueParts
  | .sealRecord _ => issueParts
  | .intermission _ => issueParts
  | .resume _ => issueParts
  | .commit _ => issueParts
  | .commitSlotWrite => opParts ++ [.commits]
  | .holdupRecheck => opParts ++ [.intm, .commits]
  | .loadReqRx _ => opParts ++ [.eru]
  | .storeDataRx _ => opParts ++ [.eru]
  | .bulkDataRx _ => opParts ++ [.eru]
  | .atomicReqRx _ => opParts ++ [.eru]
  | .copyFwdRx _ => opParts ++ [.eru]
  | .fillReqRx _ => opParts ++ [.eru]
  | .outcomeReqRx _ => opParts ++ [.eru]
  | .abortReqRx _ => opParts ++ [.eru]
  | .collectiveAbortReqRx _ => settleParts ++ [.clk, .eru]
  | .loadDataRx _ => opParts
  | .completionChunkRx _ => opParts ++ [.eru]
  | .atomicRspRx _ => opParts
  | .outcomeRspRx _ => opParts
  | .noticeRx _ => settleParts ++ [.clk, .eru]
  | .operationTimeout _ => opParts ++ [.eru]
  | .busyBackoff _ => issueParts
  | .tagReuseHold _ => [.xfr]
  | .orderingContextRelease _ => [.xfr]
  | .cqHeadWrite _ _ _ => [.regs, .kpr, .mem, .xfr, .memory]
  | .cqEnable _ _ _ => journalParts ++ [.xfr]
  | .cqDisable _ _ _ => journalParts ++ [.xfr]
  | .drainDeadline _ => settleParts ++ [.clk, .eru, .commits, .verifies]
  | .channelResponse _ _ _ _ _ _ _ => opParts ++ [.eru, .hostRead]
  | .channelReadyFall _ => [.mem]
  | .channelReadyRise _ => [.mem]
  | .chanHold _ => opParts ++ [.eru]
  | .rspTimeout _ => opParts ++ [.eru]
  | .zeroingDone _ => [.mem, .memory]
  | .scrubDone => [.mem, .memory]
  | .ctrKeyWrite _ _ _ => opParts
  | .cueFire _ => issueParts
  | .pause _ _ => journalParts ++ [.prm]
  | .cueAddRx _ => opParts ++ [.eru]
  | .gatherDataRx _ => settleParts ++ [.clk, .eru]
  | .pieceEntry _ => faultParts ++ [.mem, .xfr, .prm, .memory]
  | .arrHeadWrite _ _ _ => [.regs, .kpr, .prm]
  | .contextAdmit => settleParts ++ [.clk, .eru]
  | .memberWaitTimeout => opParts ++ [.col]
  | .grantRx _ => settleParts ++ [.clk, .eru]
  | .doneRx _ => settleParts ++ [.clk, .eru]
  | .regrant _ => settleParts ++ [.clk, .eru]
  | .contribRx _ => settleParts ++ [.clk, .eru]
  | .partialCfRx _ => settleParts ++ [.clk, .eru]
  | .a2aCountsRx _ => settleParts ++ [.clk, .eru]
  | .a2aDataRx _ => settleParts ++ [.clk, .eru]
  | .contextTimeout _ => settleParts ++ [.clk, .eru]
  | .replayPass _ => settleParts ++ [.clk, .eru]
  | .barrierRelease _ => opParts ++ [.clk, .col]
  | .eruCellKeyWrite _ _ _ => journalParts ++ [.eru]
  | .updateSegment _ => settleParts ++ [.clk, .eru]
  | .updateContextTimeout _ => settleParts
  | .updateGateTimeout _ => settleParts ++ [.clk, .eru]
  | .freeze => [.intm]
  | .hushQuiet => opParts ++ [.intm]
  | .hushLimit => opParts ++ [.col, .intm]
  | .imageWritten => opParts ++ [.intm]
  | .resumeTime => settleParts ++ [.clk, .eru, .intm]
  | .scriptEnable _ _ => journalParts
  | .hostDataClose => journalParts
  | .doorbellRelease => issueParts
  | .seatInputRelease => issueParts ++ [.sels, .latches, .fuses, .plt]
  | .attestReq _ => [.regs, .kpr, .mem, .sec, .free]
  | .share _ => faultParts ++ [.mem]
  | .certReq _ => [.regs, .kpr, .mem]
  | .recordGet _ => [.regs, .kpr, .mem]
  | .enrol _ => [.regs, .kpr, .mem, .sec]
  | .revoke _ => [.regs, .kpr, .mem, .sec]
  | .fuseWriteDone => [.regs, .fuses, .sec]
  | .sessionExpire _ => [.sec]
  | .rngHealthFail => faultParts
  | .syncTx _ => [.clk, .links]
  | .syncRx _ _ => faultParts ++ [.plt, .clk]
  | .candidateExpire _ => faultParts ++ [.clk]
  | .clockFreeTimeout => faultParts ++ [.clk]
  | .holdoverBound => faultParts ++ [.clk]
  | .nodeSilence _ => [.kpr, .csw]
  | .probe _ => settleParts ++ [.clk, .eru, .intm]
  | .lostRx _ _ => settleParts ++ [.clk, .eru, .intm]
  | .beacon => [.kpr, .links]
  | .beaconRx _ _ => [.kpr, .links, .csw]
  | .curtainLowered _ => settleParts ++ [.clk, .eru, .commits, .verifies]
  | .faultRecRx _ => [.regs, .kpr, .csw]
  | .goRead _ => [.regs, .kpr, .csw]
  | .goWrite _ => [.regs, .kpr, .csw]
  | .goPing _ => [.regs, .kpr, .csw]
  | .fmReadRx _ => [.regs, .latches, .kpr, .csw, .mem, .xfr, .free]
  | .fmWriteRx _ => issueParts ++ [.sels, .latches, .fuses, .plt]
  | .fmPingRx _ => [.csw, .free]
  | .fmRspRx _ => [.regs, .kpr, .csw]
  | .badSizeAccess _ _ _ => [.regs, .kpr, .hostRead]
  | .hostMapAccess _ _ _ => journalParts ++ [.mem, .xfr, .verifies, .hostRead, .memory]
  | .registerWrite _ _ _ => issueParts ++ [.sels, .latches, .fuses, .plt]
  | .channelRequestAccept _ => faultParts ++ [.mem]
  | .registerRead _ _ => [.regs, .latches, .kpr, .mem, .xfr, .hostRead, .free]
  | .fmRequestTimeout _ => [.regs, .kpr]
  | .burstRx _ => [.regs, .lanes]
  | .rxIdleEnter _ => [.lanes]
  | .executedTagRecordExpire => [.xfr]
  | .outcomeClosureExpire => [.xfr]

/-! ## Opcode rows -/

/-- The state in which a descriptor that is alone in its queue has passed step 7 (R198 to R205). -/
def State.passed (s : State) (i : Issue) : State :=
  let u := (s.enqueue i).journalDesc i
  u.setWaitingAt (queueOf i.who i.cue) [u.translated (queuedBlank i)]

/-! ## Addends -/

/-- An addend as the ERU decodes one (R325): a finite one is not 0, and a special one has some of the flags NAN, PINF and NINF. -/
def Addend.proper (a : Addend) : Prop :=
  match a with
  | .finite v => v ≠ 0
  | .special f => 0 < f ∧ f < 8
  | _ => True

/-- What an addend adds to the integer sum. -/
def Addend.int (a : Addend) : Int :=
  match a with
  | .finite v => v
  | _ => 0

/-- The flags of a list of addends together. -/
def addendFlags : List Addend → Nat
  | [] => 0
  | .special f :: t => f ||| addendFlags t
  | _ :: t => addendFlags t

/-! ## Invariants -/

/-- The Plate controller is sound (R60 to R75). Words without an owner are those of a verification that a CANCEL of this cycle stopped. -/
def Plt.sound (p : Plt) : Prop :=
  (p.owned = true ↔ p.eng = .loading ∨ p.eng = .verifying) ∧
  (p.owned = true → p.count = p.words.length) ∧
  (p.owned = false → p.words = [] ∨ (p.eng = .idle ∧ p.cancelledAt.isSome = true)) ∧
  (p.eng = .ready ↔ p.standby.isSome = true) ∧
  (∀ v, p.standby = some v → v.full = false → p.active.isSome = true) ∧
  (p.retiring.isSome = true → p.eng = .idle ∧ p.cancelledAt = none ∧ p.active.isSome = true) ∧
  (p.armed = true → ∃ v, p.standby = some v ∧ v.full = false)

end Sys2Proof.Machine
end

