-- ==== Sys2Proof/WellFormed.lean ====
section
/-! DEFINITION. Which commands are well formed. A cell row takes a cell of its own type (Table 06-3), and where a type carries more
than one command, of its own kind; an opcode row takes a descriptor of its own opcode, and of its role, kind or action; a mapping
access lies in the mapping range (R497). Every other command is well formed with any operands. -/

namespace Sys2Proof

open Sys2Proof.Machine

/-- The command is well formed at the node with this ID: its cell or descriptor is one that its row names. -/
def Instr.wf (node : Nat) (x : Instr) : Bool :=
  match x with
  | .keeperPowerOnReset _ => true
  | .nodeReset _ => true
  | .hostWindowReset _ => true
  | .firmwareBoot _ => true
  | .run _ => true
  | .wakeTablesReady => true
  | .sleep _ => true
  | .sleepEntryDone => true
  | .faultSourceAssert _ _ _ _ _ => true
  | .railBreak _ => true
  | .railTest _ _ _ => true
  | .faultActiveClear _ _ _ => true
  | .powerFailWarning => true
  | .refClockLost => true
  | .tempSample _ => true
  | .throttleStep => true
  | .sidebandInput _ => true
  | .domainGate _ _ => true
  | .domainWake _ => true
  | .syncWake _ => true
  | .openEng _ => true
  | .pltEngLenWrite _ _ => true
  | .engraveWord _ _ => true
  | .closeEng _ => true
  | .verificationDone => true
  | .cancel _ => true
  | .sealPlate _ => true
  | .arm _ => true
  | .disarm _ => true
  | .flip => true
  | .retireRelease => true
  | .proofSweep i => dOp i.desc == 0x50 && dMod i.desc == 1
  | .sweepRx c => cellIs c 0x34
  | .sweepResend _ => true
  | .trainingFrameRx _ _ _ => true
  | .laneLocked _ _ => true
  | .trainTimeout _ => true
  | .los _ => true
  | .lol _ => true
  | .fecLimit _ _ _ => true
  | .standbyCheck _ => true
  | .wakeFailure _ => true
  | .forceFail _ _ => true
  | .clearFail _ _ => true
  | .laneRetrain _ _ => true
  | .txIdleEnter _ => true
  | .signalDetect _ => true
  | .engineBringup _ _ _ _ => true
  | .enginePoll _ _ => true
  | .engineInterrupt _ _ => true
  | .cmisReadGo _ _ => true
  | .cmisReadDone _ => true
  | .scanStart _ _ _ => true
  | .scanStop _ _ => true
  | .scanDone _ _ => true
  | .linkTxSlot _ => true
  | .sequencedCellRx _ _ _ => true
  | .nullCellRx _ c => cellIs c 0x38
  | .ackCellRx _ c => cellIs c 0x39
  | .creditCellRx _ c => cellIs c 0x3A
  | .identRx _ c => cellIs c 0x3B
  | .retrainCellRx _ c => cellIs c 0x3C
  | .downCellRx _ c => cellIs c 0x3D
  | .protestRx _ c => cellIs c 0x3E
  | .replayTimeout _ => true
  | .ackDelay _ => true
  | .trainComplete _ => true
  | .identLimit _ => true
  | .retrainLimit _ => true
  | .realignDone _ _ => true
  | .realignTimeout _ => true
  | .linkRetrain _ _ => true
  | .restart _ _ => true
  | .forceDown _ _ => true
  | .clearRestrict _ _ => true
  | .linkDisable _ _ _ => true
  | .linkEnable _ _ _ => true
  | .linkDrainDeadline _ => true
  | .cellOutputChoice => true
  | .deferredEjection _ => true
  | .echoRx c => cellIs c 0x15
  | .echoWait _ => true
  | .incPeriod _ => true
  | .seatFenceWrite _ _ => true
  | .doorbell _ _ => true
  | .descRx c => cellIs c 0x08 && decide (0x4000 ≤ c.src.toNat) && epNode c.src.toNat == node
  | .issueResume _ => true
  | .load i => dOp i.desc == 0x01
  | .store i => dOp i.desc == 0x02
  | .storeOrd i => dOp i.desc == 0x03
  | .copy i => dOp i.desc == 0x04
  | .fill i => dOp i.desc == 0x05
  | .atomIadd i => dOp i.desc == 0x10
  | .atomCas i => dOp i.desc == 0x11
  | .atomSwap i => dOp i.desc == 0x12
  | .atomFaddF i => dOp i.desc == 0x14
  | .atomFaddXAdd i => dOp i.desc == 0x13 && faddAction i.desc == 0
  | .atomFaddXRead i => dOp i.desc == 0x13 && faddAction i.desc == 1
  | .atomFaddXClear i => dOp i.desc == 0x13 && faddAction i.desc == 2
  | .outcome i => dOp i.desc == 0x38
  | .abort i => dOp i.desc == 0x3A && dMod i.desc % 2 == 0
  | .abortContext i => dOp i.desc == 0x3A && dMod i.desc % 2 == 1
  | .cueAdd i => dOp i.desc == 0x40
  | .cueArmCues i => dOp i.desc == 0x41 && armKind i.desc == 0
  | .cueArmArrival i => dOp i.desc == 0x41 && armKind i.desc == 1
  | .cueArmDisarm i => dOp i.desc == 0x41 && armKind i.desc == 2
  | .redInOpen i => dOp i.desc == 0x20 && cOpen i.desc
  | .redInMember i => dOp i.desc == 0x20 && !cOpen i.desc
  | .redOut i => dOp i.desc == 0x21
  | .allgatherOpen i => dOp i.desc == 0x22 && cOpen i.desc
  | .allgatherMember i => dOp i.desc == 0x22 && !cOpen i.desc
  | .bcastOpen i => dOp i.desc == 0x25 && cOpen i.desc
  | .bcastMember i => dOp i.desc == 0x25 && !cOpen i.desc
  | .alltoallOpen i => dOp i.desc == 0x23 && cOpen i.desc
  | .alltoallMember i => dOp i.desc == 0x23 && !cOpen i.desc
  | .barrierOpen i => dOp i.desc == 0x24 && cOpen i.desc
  | .barrierMember i => dOp i.desc == 0x24 && !cOpen i.desc
  | .normOpen i => dOp i.desc == 0x26 && cOpen i.desc
  | .normMember i => dOp i.desc == 0x26 && !cOpen i.desc
  | .update i => dOp i.desc == 0x30
  | .digestRegion i => dOp i.desc == 0x50 && dMod i.desc == 2
  | .digestVerify i => dOp i.desc == 0x50 && dMod i.desc == 3
  | .sealRecord i => dOp i.desc == 0x51
  | .intermission i => dOp i.desc == 0x60
  | .resume i => dOp i.desc == 0x61
  | .commit i => dOp i.desc == 0x62
  | .commitSlotWrite => true
  | .holdupRecheck => true
  | .loadReqRx c => cellIs c 0x01
  | .storeDataRx c => cellIs c 0x02
  | .bulkDataRx c => cellIs c 0x20
  | .atomicReqRx c => cellIs c 0x03
  | .copyFwdRx c => cellIs c 0x04
  | .fillReqRx c => cellIs c 0x05
  | .outcomeReqRx c => cellIs c 0x06
  | .abortReqRx c => cellIs c 0x07 && !bit c.payload 13
  | .collectiveAbortReqRx c => cellIs c 0x07 && bit c.payload 13
  | .loadDataRx c => cellIs c 0x10
  | .completionChunkRx c => cellIs c 0x11 && bytesAt c.payload 0 1 != 4
  | .atomicRspRx c => cellIs c 0x12
  | .outcomeRspRx c => cellIs c 0x13
  | .noticeRx c => cellIs c 0x14
  | .operationTimeout _ => true
  | .busyBackoff _ => true
  | .tagReuseHold _ => true
  | .orderingContextRelease _ => true
  | .cqHeadWrite _ _ _ => true
  | .cqEnable _ _ _ => true
  | .cqDisable _ _ _ => true
  | .drainDeadline _ => true
  | .channelResponse _ _ _ _ _ _ _ => true
  | .channelReadyFall _ => true
  | .channelReadyRise _ => true
  | .chanHold _ => true
  | .rspTimeout _ => true
  | .zeroingDone _ => true
  | .scrubDone => true
  | .ctrKeyWrite _ _ _ => true
  | .cueFire _ => true
  | .pause _ _ => true
  | .cueAddRx c => cellIs c 0x28
  | .gatherDataRx c => cellIs c 0x1A
  | .pieceEntry _ => true
  | .arrHeadWrite _ _ _ => true
  | .contextAdmit => true
  | .memberWaitTimeout => true
  | .grantRx c => isGrant c && !(grantOf c).isDone
  | .doneRx c => isGrant c && (grantOf c).isDone
  | .regrant _ => true
  | .contribRx c => cellIs c 0x18
  | .partialCfRx c => cellIs c 0x19
  | .a2aCountsRx c => cellIs c 0x1C
  | .a2aDataRx c => cellIs c 0x1B
  | .contextTimeout _ => true
  | .replayPass _ => true
  | .barrierRelease _ => true
  | .eruCellKeyWrite _ _ _ => true
  | .updateSegment _ => true
  | .updateContextTimeout _ => true
  | .updateGateTimeout _ => true
  | .freeze => true
  | .hushQuiet => true
  | .hushLimit => true
  | .imageWritten => true
  | .resumeTime => true
  | .scriptEnable _ _ => true
  | .hostDataClose => true
  | .doorbellRelease => true
  | .seatInputRelease => true
  | .attestReq _ => true
  | .share _ => true
  | .certReq _ => true
  | .recordGet _ => true
  | .enrol _ => true
  | .revoke _ => true
  | .fuseWriteDone => true
  | .sessionExpire _ => true
  | .rngHealthFail => true
  | .syncTx _ => true
  | .syncRx _ c => cellIs c 0x30
  | .candidateExpire _ => true
  | .clockFreeTimeout => true
  | .holdoverBound => true
  | .nodeSilence _ => true
  | .probe _ => true
  | .lostRx _ c => faultRecKind c 2
  | .beacon => true
  | .beaconRx _ c => faultRecKind c 3
  | .curtainLowered _ => true
  | .faultRecRx c => faultRecKind c 1
  | .goRead _ => true
  | .goWrite _ => true
  | .goPing _ => true
  | .fmReadRx c => fmReqIs c 1
  | .fmWriteRx c => fmReqIs c 2
  | .fmPingRx c => fmReqIs c 3
  | .fmRspRx c => cellIs c 0x32
  | .badSizeAccess _ _ _ => true
  | .hostMapAccess _ off _ => decide (R.mapRange ≤ off.toNat) && decide (off.toNat < 0x100000)
  | .registerWrite _ _ _ => true
  | .channelRequestAccept _ => true
  | .registerRead _ _ => true
  | .fmRequestTimeout _ => true
  | .burstRx _ => true
  | .rxIdleEnter _ => true
  | .executedTagRecordExpire => true
  | .outcomeClosureExpire => true

end Sys2Proof
end

