-- ==== Sys2Proof/Certificates/Slice0/Obligations.lean ====
section
/-! DEFINITION. The statements about this model that are to be proved. -/

open Sys2Proof Sys2Proof.Machine

/-! ## The machine -/

/-- A step takes the command at the front of the queue and runs it on the queue's rest. -/
def Obligations.StepRunsFrontCommand : Prop :=
  ∀ (c : Instr) (rest : List Instr) (s : State), s.pending = c :: rest → step s = exec c { s with pending := rest }

/-- On an empty queue a step is one cycle of the stage clock, at half the increment while the rate is halved (R451, R452; that such
a step is a cycle is the model's choice, log entry 1): the count rises, and no command comes to wait. -/
def Obligations.EmptyQueueStepIsOneCycle : Prop :=
  ∀ s : State, s.pending = [] → ∃ t, step s = .next t ∧ t.pending = [] ∧
    t.clk.count = s.clk.count + (if s.clk.halfRate then s.clk.incr / 2 else s.clk.incr)

/-- Right after reset: BOOT in the boot ROM, no Plate and an idle controller, no fuse burnt, every link and lane at its reset state,
no operation, context or cue, the switch empty, memory with nothing listed, and no command waiting. -/
def Obligations.ResetState : Prop :=
  State.reset.kpr.power = .boot ∧ State.reset.kpr.boot = .rom ∧ State.reset.isSealed = false ∧ State.reset.plt.eng = .idle ∧
  State.reset.plt.owned = false ∧ State.reset.fuses = [] ∧ (∀ n, State.reset.link n = Link.reset) ∧ (∀ l, State.reset.lane l = Lane.reset) ∧
  State.reset.xfr.ops = [] ∧ State.reset.col.ctxs = [] ∧ State.reset.prm.cues = [] ∧ State.reset.csw.inject = [] ∧
  State.reset.memory = [] ∧ State.reset.pending = [] ∧ State.reset.reg R.powerCtl = 0 ∧ State.reset.running = false

/-- The state after reset has the invariants that the statements below show every step to keep. -/
def Obligations.ResetMeetsTheInvariants : Prop :=
  State.reset.plt.sound ∧ Memory.wf State.reset.memory = true

/-- Every well-formed command completes, in every state: no state and no operand turns one away. A command is never refused, and a command that is not well formed faults as `illFormed` at a running node. (What such a command
does is the model's choice, log entry 2: the spec gives its rows no such operands.) Row by row: each command with operands that its row may have answers a next state, in every state, and leaves the waiting commands as
they are. -/
def Obligations.CommandsStopOnlyWhereIllFormed : Prop :=
  (
    ∀ (c : Instr) (s : State), c.wf s.nodeId = true → ∃ t, exec c s = .next t) ∧
  (
    ∀ (c : Instr) (s : State), (∀ r, exec c s ≠ .refused r) ∧ (∀ f, exec c s = .fault f → c.wf s.nodeId = false) ∧
      (s.running = true → c.wf s.nodeId = false → exec c s = .fault .illFormed)) ∧
  (
    (∀ (s : State), ∀ c, c ∈ ([
          .wakeTablesReady, .sleepEntryDone, .powerFailWarning, .refClockLost, .throttleStep, .verificationDone, .flip, .retireRelease,
          .cellOutputChoice, .commitSlotWrite, .holdupRecheck, .scrubDone, .contextAdmit, .memberWaitTimeout, .freeze, .hushQuiet,
          .hushLimit, .imageWritten, .resumeTime, .hostDataClose, .doorbellRelease, .seatInputRelease, .fuseWriteDone, .rngHealthFail,
          .clockFreeTimeout, .holdoverBound, .beacon, .executedTagRecordExpire, .outcomeClosureExpire] : List Instr) →
        ∃ t, exec c s = .next t ∧ t.pending = s.pending) ∧
      (∀ (s : State) (w : Win) (n : LinkIx) (v : Word) (a : Source) (k : CtxIx) (l : LaneIx) (p : Port)
        (words : List (Fin 9 × BitVec 2720)), ∀ c, c ∈ ([
          .hostWindowReset w, .sleep w, .syncWake n, .openEng w, .pltEngLenWrite w v, .engraveWord w v, .closeEng w, .cancel w,
          .sealPlate w, .arm a, .disarm a, .sweepResend k, .trainTimeout l, .los l, .lol l, .standbyCheck l, .wakeFailure l,
          .forceFail a l, .clearFail a l, .laneRetrain a l, .txIdleEnter l, .signalDetect l, .cmisReadGo a v, .scanStart a l v,
          .scanStop a l, .scanDone l v, .linkTxSlot n, .replayTimeout n, .ackDelay n, .trainComplete n, .identLimit n, .retrainLimit n,
          .realignDone n words, .realignTimeout n, .linkRetrain a n, .restart a n, .forceDown a n, .clearRestrict a n, .linkDisable a n v,
          .linkEnable a n v, .linkDrainDeadline n, .deferredEjection n, .seatFenceWrite a v, .doorbell w v, .channelReadyFall p,
          .channelReadyRise p, .chanHold p, .rspTimeout p, .pause a v, .regrant k, .contextTimeout k, .replayPass k, .barrierRelease k,
          .scriptEnable a v, .attestReq w, .share w, .certReq w, .recordGet w, .enrol w, .revoke w, .syncTx n, .candidateExpire n,
          .goRead w, .goWrite w, .goPing w, .channelRequestAccept p, .fmRequestTimeout w, .rxIdleEnter l] : List Instr) →
        ∃ t, exec c s = .next t ∧ t.pending = s.pending) ∧
      (∀ (s : State) (b : Fin 1024) (who : Submitter) (g : Fin 16384) (f : Fin 4096) (a : Source) (q : Fin 256) (v : Word) (dr : Drain) (u :
        BitVec 16) (tr : Fin 4352) (e : Fin 64) (ss : Fin 16), ∀ c, c ∈ ([
          .echoWait b, .incPeriod b, .issueResume who, .operationTimeout g, .busyBackoff g, .tagReuseHold g, .orderingContextRelease f,
          .cqHeadWrite a q v, .cqEnable a q v, .cqDisable a q v, .drainDeadline dr, .zeroingDone u, .ctrKeyWrite a b v, .cueFire g,
          .pieceEntry tr, .arrHeadWrite a e v, .eruCellKeyWrite a b v, .updateSegment e, .updateContextTimeout e, .updateGateTimeout e,
          .sessionExpire ss, .nodeSilence b, .probe b, .curtainLowered f] : List Instr) →
        ∃ t, exec c s = .next t ∧ t.pending = s.pending) ∧
      (∀ (s : State) (straps : BitVec 10) (r : ResetBy) (image : List Byte) (o : Option Win) (src : Fin 2048) (b1 b2 : Bool) (u : BitVec 16) (v :
        Word) (x y : BitVec 2) (a : Source) (j : Fin 4) (temps : Vector (BitVec 12) 8) (i : Sideband) (d : Domain) (l : LaneIx) (frame : BitVec
        2048) (word : BitVec 2720) (more : List (BitVec 2720)) (e : Fin 64) (z : Byte) (m : BitVec 3) (flags : Option (BitVec 160)) (ob : Option Byte) (n : LinkIx)
        (parts : List SlotPart) (p : Port) (data : Line) (w : Win) (off : BitVec 26) (ui : Nat), ∀ c, c ∈ ([
          .keeperPowerOnReset straps, .nodeReset r, .firmwareBoot image, .run o, .faultSourceAssert src b1 b2 u v, .railBreak src,
          .railTest src x y, .faultActiveClear a j v, .tempSample temps, .sidebandInput i, .domainGate d b1, .domainWake d,
          .trainingFrameRx l frame u, .laneLocked l b1, .fecLimit l word more, .engineBringup e z m b1, .enginePoll e flags,
          .engineInterrupt e flags, .cmisReadDone ob, .sequencedCellRx n x parts, .channelResponse p z b1 x data u b2,
          .badSizeAccess w b1 off, .registerWrite w off v, .registerRead w off, .burstRx ⟨l, ui⟩] : List Instr) →
        ∃ t, exec c s = .next t ∧ t.pending = s.pending) ∧
      (∀ (s : State) (i : Issue), ∀ x, x ∈ ([
          (.proofSweep i, dOp i.desc == 0x50 && dMod i.desc == 1), (.load i, dOp i.desc == 0x01), (.store i, dOp i.desc == 0x02),
          (.storeOrd i, dOp i.desc == 0x03), (.copy i, dOp i.desc == 0x04), (.fill i, dOp i.desc == 0x05),
          (.atomIadd i, dOp i.desc == 0x10), (.atomCas i, dOp i.desc == 0x11), (.atomSwap i, dOp i.desc == 0x12),
          (.atomFaddF i, dOp i.desc == 0x14), (.atomFaddXAdd i, dOp i.desc == 0x13 && faddAction i.desc == 0),
          (.atomFaddXRead i, dOp i.desc == 0x13 && faddAction i.desc == 1),
          (.atomFaddXClear i, dOp i.desc == 0x13 && faddAction i.desc == 2), (.outcome i, dOp i.desc == 0x38),
          (.abort i, dOp i.desc == 0x3A && dMod i.desc % 2 == 0), (.abortContext i, dOp i.desc == 0x3A && dMod i.desc % 2 == 1),
          (.cueAdd i, dOp i.desc == 0x40), (.cueArmCues i, dOp i.desc == 0x41 && armKind i.desc == 0),
          (.cueArmArrival i, dOp i.desc == 0x41 && armKind i.desc == 1), (.cueArmDisarm i, dOp i.desc == 0x41 && armKind i.desc == 2),
          (.redInOpen i, dOp i.desc == 0x20 && cOpen i.desc), (.redInMember i, dOp i.desc == 0x20 && !cOpen i.desc),
          (.redOut i, dOp i.desc == 0x21), (.allgatherOpen i, dOp i.desc == 0x22 && cOpen i.desc),
          (.allgatherMember i, dOp i.desc == 0x22 && !cOpen i.desc), (.bcastOpen i, dOp i.desc == 0x25 && cOpen i.desc),
          (.bcastMember i, dOp i.desc == 0x25 && !cOpen i.desc), (.alltoallOpen i, dOp i.desc == 0x23 && cOpen i.desc),
          (.alltoallMember i, dOp i.desc == 0x23 && !cOpen i.desc), (.barrierOpen i, dOp i.desc == 0x24 && cOpen i.desc),
          (.barrierMember i, dOp i.desc == 0x24 && !cOpen i.desc), (.normOpen i, dOp i.desc == 0x26 && cOpen i.desc),
          (.normMember i, dOp i.desc == 0x26 && !cOpen i.desc), (.update i, dOp i.desc == 0x30),
          (.digestRegion i, dOp i.desc == 0x50 && dMod i.desc == 2), (.digestVerify i, dOp i.desc == 0x50 && dMod i.desc == 3),
          (.sealRecord i, dOp i.desc == 0x51), (.intermission i, dOp i.desc == 0x60), (.resume i, dOp i.desc == 0x61),
          (.commit i, dOp i.desc == 0x62)] : List (Instr × Bool)) → x.2 = true →
        ∃ t, exec x.1 s = .next t ∧ t.pending = s.pending) ∧
      (∀ (s : State) (n : LinkIx) (c : Cell), ∀ x, x ∈ ([
          (.sweepRx c, cellIs c 0x34), (.nullCellRx n c, cellIs c 0x38), (.ackCellRx n c, cellIs c 0x39),
          (.creditCellRx n c, cellIs c 0x3A), (.identRx n c, cellIs c 0x3B), (.retrainCellRx n c, cellIs c 0x3C),
          (.downCellRx n c, cellIs c 0x3D), (.protestRx n c, cellIs c 0x3E), (.echoRx c, cellIs c 0x15),
          (.descRx c, cellIs c 0x08 && decide (0x4000 ≤ c.src.toNat) && epNode c.src.toNat == s.nodeId), (.loadReqRx c, cellIs c 0x01),
          (.storeDataRx c, cellIs c 0x02), (.bulkDataRx c, cellIs c 0x20), (.atomicReqRx c, cellIs c 0x03),
          (.copyFwdRx c, cellIs c 0x04), (.fillReqRx c, cellIs c 0x05), (.outcomeReqRx c, cellIs c 0x06),
          (.abortReqRx c, cellIs c 0x07 && !bit c.payload 13), (.collectiveAbortReqRx c, cellIs c 0x07 && bit c.payload 13),
          (.loadDataRx c, cellIs c 0x10), (.completionChunkRx c, cellIs c 0x11 && bytesAt c.payload 0 1 != 4),
          (.atomicRspRx c, cellIs c 0x12), (.outcomeRspRx c, cellIs c 0x13), (.noticeRx c, cellIs c 0x14), (.cueAddRx c, cellIs c 0x28),
          (.gatherDataRx c, cellIs c 0x1A), (.grantRx c, isGrant c && !(grantOf c).isDone), (.doneRx c, isGrant c && (grantOf c).isDone),
          (.contribRx c, cellIs c 0x18), (.partialCfRx c, cellIs c 0x19), (.a2aCountsRx c, cellIs c 0x1C), (.a2aDataRx c, cellIs c 0x1B),
          (.syncRx n c, cellIs c 0x30), (.lostRx n c, faultRecKind c 2), (.beaconRx n c, faultRecKind c 3),
          (.faultRecRx c, faultRecKind c 1), (.fmReadRx c, fmReqIs c 1), (.fmWriteRx c, fmReqIs c 2), (.fmPingRx c, fmReqIs c 3),
          (.fmRspRx c, cellIs c 0x32)] : List (Instr × Bool)) → x.2 = true →
        ∃ t, exec x.1 s = .next t ∧ t.pending = s.pending) ∧
      (∀ (s : State) (w : Win) (off : BitVec 26) (acc : MapAccess), R.mapRange ≤ off.toNat → off.toNat < 0x100000 →
        ∃ t, exec (.hostMapAccess w off acc) s = .next t ∧ t.pending = s.pending))

/-- The frame of every command: no part of the state changes but those that `mayChange` lists for its row, and the queue of waiting
commands is never among them. -/
def Obligations.CommandsChangeOnlyTheirParts : Prop :=
  ∀ (c : Instr) (s t : State), exec c s = .next t →
    (∀ p, p ∉ mayChange c → State.agree p s t) ∧ StateField.pending ∉ mayChange c

/-- The trust anchors are write-once (R430): no command takes back ENROLLED, REVOKED or an enrolled key. -/
def Obligations.TrustAnchorsAreWriteOnce : Prop :=
  ∀ (c : Instr) (s t : State) (k : Nat), exec c s = .next t →
    ((s.signer k).enrolled = true → (t.signer k).enrolled = true ∧ (t.signer k).key = (s.signer k).key) ∧
    ((s.signer k).revoked = true → (t.signer k).revoked = true)

/-- Every step keeps memory in its canonical form: rising addresses, and no byte listed that reads as an unlisted one. -/
def Obligations.StepKeepsMemoryCanonical : Prop :=
  ∀ s t : State, Memory.wf s.memory = true → step s = .next t → Memory.wf t.memory = true

/-- Every step keeps the Plate controller sound (R60 to R75): a load is owned exactly while LOADING or VERIFYING and counts its
words, a version stands by exactly while READY, a step stands by only behind an active version, an armed one is such a step,
and while a version retires the window is idle. -/
def Obligations.StepKeepsPlateControllerSound : Prop :=
  ∀ s t : State, s.plt.sound → step s = .next t → t.plt.sound

/-! ## Resets, start-up and power (chapter 17) -/

/-- KEEPER_POWER_ON_RESET latches the straps and returns everything else to reset but fuses, pool memory with its poisoned lines, and
the waiting commands; NODE_RESET clears the Plate, the keys and all work and records its cause, from the pin, from a window that R507
allows and from another node whose write was answered, and the pin's release lets RUN act again; HOST_WINDOW_RESET clears the window's
registers of R526, starts its drain and ends its load (R67, R498). -/
def Obligations.ResetsClearTheirState : Prop :=
  (∀ (x : BitVec 10) (s : State), ∃ t, exec (.keeperPowerOnReset x) s = .next t ∧ t.kpr = { Kpr.reset with straps := x } ∧
    t.plt = Plt.reset ∧ t.regs = [] ∧ t.sels = [] ∧ t.lanes = [] ∧ t.links = [] ∧ t.xfr = Xfr.reset ∧ t.col = Col.reset ∧
    t.prm = Prm.reset ∧ t.csw = Csw.reset ∧ t.commits = [] ∧ t.verifies = [] ∧ t.memory = s.memory ∧ t.mem.poisoned = s.mem.poisoned ∧
    (s.sec.fuse = none → t.fuses = s.fuses) ∧ t.pending = s.pending) ∧
  (∀ (s : State) (src : ResetBy), (∀ w, src = .window w → s.winFm w = true) → (src = .remote → s.kpr.resetDue = true) → src ≠ .pin false →
    ∃ t, exec (.nodeReset src) s = .next t ∧
    t.plt = Plt.reset ∧ t.sec.slots = [] ∧ t.sec.sessions = [] ∧ t.sec.fuse = none ∧ t.xfr.ops = [] ∧ t.col = Col.reset ∧ t.prm = Prm.reset ∧
    t.upd = Upd.reset ∧ t.commits = [] ∧ t.verifies = [] ∧ t.csw.inject = [] ∧ t.memory = s.memory ∧
    t.kpr.lastReset = (match src with | .pin _ => 1 | .window _ => 2 | .remote => 3) ∧
    t.kpr.power = (if s.kpr.power = .boot then .boot else .keeper) ∧ (src = .pin true → t.kpr.resetLow = true)) ∧
  (∀ s : State, ∃ t, exec (.nodeReset (.pin false)) s = .next t ∧ t = { s with kpr := { s.kpr with resetLow := false } }) ∧
  (∀ s : State, s.kpr.resetDue = false → exec (.nodeReset .remote) s = .next s) ∧
  (∀ (s : State) (w : Win), s.winFm w = false →
    exec (.nodeReset (.window w)) s = .next (s.violation w 4 true R.kprReset)) ∧
  (∀ (w : Win) (s : State), s.winPresent w = true ∨ s.winFm w = true → ∃ t, exec (.hostWindowReset w) s = .next t ∧
    (∀ off, windowResets off = true → off < 0x100000 → t.winReg w off = 0) ∧
    tabFind t.kpr.fmPending w = none ∧ t.kpr.heldGo.contains w.val = false ∧
    (Drain.window w, s.now, s.now + s.timer 2 * 1000) ∈ t.xfr.drains ∧
    (s.ownsLoad w = true → t.plt.eng = .failed ∧ t.fld R.pltError 0 5 = 14))

/-- FIRMWARE_BOOT of a sound signed image starts the firmware and enters KEEPER, and any other leaves the boot failed with the cause of
Table 17-8; RUN in KEEPER starts a wake, waits in SLEEPING, is ignored while the reset pin is low and refused elsewhere;
WAKE_TABLES_READY ends it in RUN, or resets the node where a region's memory was not retained; SLEEP is accepted, and takes every link DOWN, or
shows the first condition that refuses it; SLEEP_ENTRY_DONE ends in KEEPER with the work on chip gone, or in the wake of a RUN that waited
(R504 to R512). -/
def Obligations.PowerStatesFollowTheirCommands : Prop :=
  (∀ (image : List Byte) (s : State), s.kpr.power = .boot → s.kpr.boot = .rom → ∃ t, exec (.firmwareBoot image) s = .next t ∧
    (le image 0 4 ≠ 0x57464B5A ∨ 0x100000 < le image 8 4 + 160 → t = s.bootFails 1) ∧
    (le image 0 4 = 0x57464B5A → le image 8 4 + 160 ≤ 0x100000 →
      (ecdsaVerify Config.firmwareKey (sha384 (image.take (64 + le image 8 4))) (BitVec.ofNat 768 (le image (64 + le image 8 4) 96)) = false →
        t = s.bootFails 2) ∧
      (ecdsaVerify Config.firmwareKey (sha384 (image.take (64 + le image 8 4))) (BitVec.ofNat 768 (le image (64 + le image 8 4) 96)) = true →
        (le image 5 1 ≠ 1 → t = s.bootFails 3) ∧
        (le image 5 1 = 1 → t.kpr.boot = .running ∧ t.kpr.power = .keeper ∧ t.sec.ready = true ∧ t.fld R.kprId 8 8 = 1 ∧
          t.memory = s.memory)))) ∧
  (∀ (k : Nat) (s : State), (s.bootFails k).kpr.boot = .failed ∧ (s.bootFails k).kpr.bootCause = BitVec.ofNat 4 k ∧
    (s.bootFails k).kpr.power = s.kpr.power) ∧
  (∀ (o : Option Win) (s : State), (∀ w, o = some w → s.winFm w = true) →
    (s.kpr.power = .keeper → s.kpr.resetLow = false → ∃ t, exec (.run o) s = .next t ∧ t.kpr.power = .waking ∧ t.kpr.refuse = 0 ∧
      t.kpr.runHeld = false ∧ t.memory = s.memory ∧ t.plt = s.plt) ∧
    (s.kpr.power = .keeper → s.kpr.resetLow = true → exec (.run o) s = .next s) ∧
    (s.kpr.power = .sleeping → ∃ t, exec (.run o) s = .next t ∧ t = { s with kpr := { s.kpr with runHeld := true, refuse := 0 } }) ∧
    (s.kpr.power ≠ .keeper → s.kpr.power ≠ .sleeping → ∃ t, exec (.run o) s = .next t ∧ t = { s with kpr := { s.kpr with refuse := 4 } })) ∧
  (∀ s : State, s.kpr.power = .waking → s.retentionLost = true → ∃ t, exec .wakeTablesReady s = .next t ∧ t.kpr.power = .keeper ∧
    t.kpr.lastReset = 4 ∧ t.plt = Plt.reset ∧ t.sec.slots = [] ∧ t.col = Col.reset) ∧
  (∀ s : State, s.kpr.power = .waking → s.retentionLost = false → ∃ t, exec .wakeTablesReady s = .next t ∧
    t = ((({ s with kpr := { s.kpr with power := .run } } : State).wakeLinks).wakeWindows).settleAll) ∧
  (∀ (w : Win) (s : State), s.winFm w = true → ∃ t, exec (.sleep w) s = .next t ∧
    (s.sleepRefused = 0 → t.kpr.power = .sleeping ∧ t.kpr.refuse = 0 ∧ ∀ n, n < 32 → (t.link n).state = .down ∨ (t.link n).state = .disabled) ∧
    (s.sleepRefused ≠ 0 → t = { s with kpr := { s.kpr with refuse := BitVec.ofNat 4 s.sleepRefused } })) ∧
  (∀ s : State, s.kpr.power = .sleeping → s.sleepReady = true → ∃ t, exec .sleepEntryDone s = .next t ∧
    (s.kpr.runHeld = false → t.kpr.power = .keeper) ∧ (s.kpr.runHeld = true → t.kpr.power = .waking) ∧ t.intm.onChip = false ∧
    t.xfr.ops = [] ∧ t.col = Col.reset ∧ t.commits = [] ∧ t.verifies = [] ∧ t.plt = s.plt) ∧
  (∀ s : State, s.kpr.power = .sleeping → s.sleepReady = false → exec .sleepEntryDone s = .next s)

/-- DOMAIN_GATE takes an idle domain to its entry and then stops it, and abandons the entry where work came; DOMAIN_WAKE leaves the domain
running; SYNC_WAKE wakes a gated link and its lanes no more than 2 µs before an exchange falls due (R40 to R43). -/
def Obligations.DomainsGateAndWake : Prop :=
  (∀ (d : Domain) (s : State), s.running = true → s.mayGate d = true → s.domain (domainKey d) = .running →
    ∃ t, exec (.domainGate d false) s = .next t ∧ t.domain (domainKey d) = .entering) ∧
  (∀ (d : Domain) (s : State), s.running = true → s.mayGate d = true → s.domain (domainKey d) = .entering →
    ∃ t, exec (.domainGate d true) s = .next t ∧ t.domain (domainKey d) = .gated) ∧
  (∀ (d : Domain) (s : State) (b : Bool), s.running = true → s.mayGate d = false → s.domain (domainKey d) = .entering →
    ∃ t, exec (.domainGate d b) s = .next t ∧ t.domain (domainKey d) = .running) ∧
  (∀ (d : Domain) (s : State), s.running = true → ∃ t, exec (.domainWake d) s = .next t ∧ t.domain (domainKey d) = .running) ∧
  (∀ (n : LinkIx) (s : State), s.running = true → s.syncSoon n = true → s.domain (288 + n) = .gated → ∃ t, exec (.syncWake n) s = .next t ∧
    t.domain (288 + n) = .running ∧ ∀ k, k < 9 → t.domain (9 * n + k) = .running) ∧
  (∀ (n : LinkIx) (s : State), s.syncSoon n = false → exec (.syncWake n) s = .next s)

/-! ## Faults (chapter 16) -/

/-- A raised fault is recorded (R473 to R475): the ring holds its record, KPR_FAULT_ACTIVE has its bit, SEQ advances; one of class FT
puts the node into fail-stop with its keys erased and every link that is not DISABLED down with cause FATAL (R479). -/
def Obligations.RaisedFaultIsRecorded : Prop :=
  ∀ (s : State) (code unit count detail : Nat), code < 128 → (∀ k, sourceOf code unit = some k → s.arrayBit R.railState k = false) →
    s.logged (s.raiseFault code unit count detail) code unit count detail ∧
    (s.classOf code = 2 → s.kpr.power ≠ .failStop → (s.raiseFault code unit count detail).kpr.power = .failStop ∧
      (s.raiseFault code unit count detail).sec.slots = [] ∧
      ∀ n, n < 32 → (s.link n).state ≠ .disabled → ((s.raiseFault code unit count detail).link n).state = .down ∧
        ((s.raiseFault code unit count detail).link n).downCause = 6) ∧
    (s.classOf code ≠ 2 → (s.raiseFault code unit count detail).kpr.power = s.kpr.power)

/-- FAULT_SOURCE_ASSERT raises its source's code on the first asserting sample, keeps the assertion while it lasts, and clears it on a
quiet one; a store error counts in the ERU's registers as well; the third equal reading in a row breaks the pair, as RAIL_BREAK does: it stands in
for the source and names it; RAIL_TEST, once in a millisecond, reports the rail of a source that does not show both asserting readings and leaves
one that does alone (R359, R469 to R471). -/
def Obligations.FaultSourcesAreSampled : Prop :=
  (∀ (src : Fin 2048) (code : Nat) (u : Option Nat) (unit : BitVec 16) (d : Word) (s : State), sourceCode src = some (code, u) → s.railsWhole →
    s.arrayBit R.srcAssert src = false → ∃ t, exec (.faultSourceAssert src true false unit d) s = .next t ∧
      (code ≠ 49 → code ≠ 50 → t.arrayBit R.srcAssert src = true ∧ t.arrayBit R.faultActive code = true ∧ t.kpr.ringNext = s.kpr.ringNext + 1) ∧
      (code = 49 → t.arrayBit R.srcAssert src = true ∧
        (t.reg (R.eruCount 4)).toNat = min ((s.reg (R.eruCount 4)).toNat + 1) 0xFFFFFFFF) ∧
      (code = 50 → unit = 0xFFFF → t.arrayBit R.srcAssert src = true ∧ t.arrayBit R.faultActive 50 = true ∧
        (t.reg (R.eruCount 5)).toNat = min ((s.reg (R.eruCount 5)).toNat + 1) 0xFFFFFFFF ∧
        (d.toNat < 64 * s.cellBlocks → d.toNat ∈ t.eru.badCells))) ∧
  (∀ (src : Fin 2048) (code : Nat) (u : Option Nat) (unit : BitVec 16) (d : Word) (s : State), sourceCode src = some (code, u) →
    s.arrayBit R.srcAssert src = true → ∃ t, exec (.faultSourceAssert src true false unit d) s = .next t ∧
      t.arrayBit R.srcAssert src = true ∧ t.kpr.ringNext = s.kpr.ringNext) ∧
  (∀ (src : Fin 2048) (code : Nat) (u : Option Nat) (unit : BitVec 16) (d : Word) (s : State), sourceCode src = some (code, u) →
    ∃ t, exec (.faultSourceAssert src false true unit d) s = .next t ∧ t.arrayBit R.srcAssert src = false ∧ t.arrayBit R.railState src = false ∧
      t.kpr.ringNext = s.kpr.ringNext) ∧
  (∀ (src : Fin 2048) (code : Nat) (u : Option Nat) (b : Bool) (unit : BitVec 16) (d : Word) (s : State), sourceCode src = some (code, u) →
    ∃ t, exec (.faultSourceAssert src b b unit d) s = .next t ∧ t.arrayBit R.srcAssert src = false ∧
      (tabGet 0 s.kpr.equalRun src < 2 → t.arrayBit R.railState src = s.arrayBit R.railState src ∧
        tabGet 0 t.kpr.equalRun src = tabGet 0 s.kpr.equalRun src + 1) ∧
      (2 ≤ tabGet 0 s.kpr.equalRun src → t.arrayBit R.railState src = true ∧
        (s.arrayBit R.railState src = false → t.reg R.railLast = BitVec.ofNat 32 src ∧ t.arrayBit R.faultActive 1 = true))) ∧
  (∀ (src : Fin 2048) (x : Nat × Option Nat) (s : State), sourceCode src = some x → ∃ t, exec (.railBreak src) s = .next t ∧
    t.arrayBit R.railState src = true ∧ (s.arrayBit R.railState src = true → t.regs = s.regs) ∧
    (s.arrayBit R.railState src = false → t.arrayBit R.srcAssert src = false ∧ t.reg R.railLast = BitVec.ofNat 32 src ∧
      t.arrayBit R.faultActive 1 = true)) ∧
  (∀ (src : Fin 2048) (x : Nat × Option Nat) (a b : BitVec 2) (s : State), sourceCode src = some x → ∃ t, exec (.railTest src a b) s = .next t ∧
    (tabGet 0 s.kpr.tested src = s.now / 1000000 + 1 → t = s) ∧
    (tabGet 0 s.kpr.tested src ≠ s.now / 1000000 + 1 → (a = 1 → b = 1 → t.regs = s.regs) ∧
      (¬ (a = 1 ∧ b = 1) → t.reg R.railLast = BitVec.ofNat 32 src ∧ t.arrayBit R.faultActive 1 = true)))

/-- POWER_FAIL_WARNING and REF_CLOCK_LOST are FT faults (R541, R546); TEMP_SAMPLE keeps the eight readings, once in 10 µs, and trips at 125 °C
(R515); THROTTLE_STEP moves the level by one against THROTTLE_C and HYST, up at the earliest 100 µs and down 1 ms after the last step (R516);
SIDEBAND_INPUT takes what two samples agree on (R541); FAULT_ACTIVE_CLEAR clears the written bits of the codes that are not FT and that were not
set in the same cycle (R9, R475). -/
def Obligations.FaultInputsAct : Prop :=
  (∀ s : State, s.railsWhole → ∃ t, exec .powerFailWarning s = .next t ∧ s.logged t 116 0xFFFF 1 0 ∧
    (s.classOf 116 = 2 → t.kpr.power = .failStop)) ∧
  (∀ s : State, s.railsWhole → ∃ t, exec .refClockLost s = .next t ∧ s.logged t 113 0xFFFF 1 0 ∧
    (s.classOf 113 = 2 → t.kpr.power = .failStop)) ∧
  (∀ (temps : Vector (BitVec 12) 8) (s : State), s.railsWhole → ∃ t, exec (.tempSample temps) s = .next t ∧
    (s.kpr.tempAt = s.now / 10000 + 1 → t = s) ∧
    (s.kpr.tempAt ≠ s.now / 10000 + 1 →
      (∀ k, k < 8 → t.reg (R.kprTemp + 4 * k) = BitVec.ofNat 32 (temps.toList.getD k 0).toNat) ∧
      ((∃ k, k < 8 ∧ 2000 ≤ (temps.toList.getD k 0).toInt) → t.arrayBit R.faultActive 115 = true) ∧
      ((∀ k, k < 8 → (temps.toList.getD k 0).toInt < 2000) → t.kpr = { s.kpr with tempAt := s.now / 10000 + 1 }))) ∧
  (∀ s : State, ∃ t, exec .throttleStep s = .next t ∧ t = { s with kpr := { s.kpr with level := t.kpr.level, throttleAt := t.kpr.throttleAt } } ∧
    (16 * (s.fld R.thermalCfg 0 8 : Int) < s.tempOf s.hottest → s.kpr.throttleAt + 100000 ≤ s.now →
      t.kpr.level.toNat = min 7 (s.kpr.level.toNat + 1) ∧ t.kpr.throttleAt = s.now) ∧
    (s.tempOf s.hottest < 16 * ((s.fld R.thermalCfg 0 8 : Int) - (s.fld R.thermalCfg 8 4 : Int)) → s.kpr.throttleAt + 1000000 ≤ s.now →
      t.kpr.level.toNat = s.kpr.level.toNat - 1) ∧
    (s.now < s.kpr.throttleAt + 100000 → t = s) ∧
    (s.tempOf s.hottest ≤ 16 * (s.fld R.thermalCfg 0 8 : Int) →
      16 * ((s.fld R.thermalCfg 0 8 : Int) - (s.fld R.thermalCfg 8 4 : Int)) ≤ s.tempOf s.hottest → t = s)) ∧
  (∀ (e : BitVec 16) (v : Bool) (s : State), ∃ t, exec (.sidebandInput (.holdup e e v)) s = .next t ∧
    t.fld R.holdup 0 16 = (if v then e.toNat else 0) ∧ t.fld R.holdup 16 1 = b2n v) ∧
  (∀ (r : BitVec 2) (s : State), exec (.sidebandInput (.retained r r)) s = .next { s with kpr := { s.kpr with retained := r } }) ∧
  (∀ (l : BitVec 3) (s : State), exec (.sidebandInput (.throttle l l)) s = .next { s with kpr := { s.kpr with levelAsked := l } }) ∧
  (∀ (a : Source) (k : Fin 4) (v : Word) (s : State), s.srcFm a = true → ∃ t, exec (.faultActiveClear a k v) s = .next t ∧
    ∀ c, 32 * k.val ≤ c → c < 32 * k.val + 32 → t.arrayBit R.faultActive c =
      (s.arrayBit R.faultActive c && !(bit v (c % 32) && decide (s.classOf c ≠ 2 ∧ tabFind s.kpr.activeAt c ≠ some s.clk.count))))

/-! ## The Plate (chapter 3) -/

/-- R72, with R60: an OPEN that the window may ask for, while the standby bank is ARMED or RETIRING, fails with BANK_PINNED and changes
nothing else. -/
def Obligations.OpenWhilePinnedFails : Prop :=
  ∀ (w : Win) (s : State), s.winFm w = true → s.plt.owned = false → s.plt.armed = true ∨ s.plt.retiring.isSome = true →
    ∃ t, exec (.openEng w) s = .next t ∧ t.fld R.pltError 0 5 = 12 ∧ t.plt = s.plt ∧ (∀ off, off ≠ R.pltError → t.reg off = s.reg off)

/-- R67: a reset of the owning host window during a load ends the load with FAILED and code 14 ABANDONED. -/
def Obligations.ResetOfOwnerAbandonsLoad : Prop :=
  ∀ (w : Win) (s : State), s.winPresent w = true ∨ s.winFm w = true → s.ownsLoad w = true →
    s.plt.eng = .loading ∨ s.plt.eng = .verifying → ∃ t, exec (.hostWindowReset w) s = .next t ∧
      t.plt.eng = .failed ∧ t.plt.owned = false ∧ t.fld R.pltError 0 5 = 14 ∧ t.plt.active = s.plt.active ∧ t.plt.standby = s.plt.standby

/-- The engraving window (R59 to R66): OPEN starts a load that the window owns; the owner's length write is kept in range and ends the
load out of it; each word is appended; CLOSE starts verification, which ends READY with a version or FAILED with both banks as
they were, even behind a CANCEL of the same cycle; CANCEL stops a load of its owner's, discards what is ready and not armed, and is ignored
behind the end of a verification in the same cycle. -/
def Obligations.EngravingWindowLoads : Prop :=
  (∀ (w : Win) (s : State), s.winFm w = true → s.plt.owned = false → s.plt.armed = false → s.plt.retiring = none →
    ∃ t, exec (.openEng w) s = .next t ∧ t.plt = { s.plt with eng := .loading, owned := true, owner := BitVec.ofNat 4 w, count := 0, words := [], standby := none, cancelledAt := none } ∧
      t.fld R.pltError 0 5 = 0) ∧
  (∀ (w : Win) (v : Word) (s : State), s.ownsLoad w = true → s.plt.eng = .loading → ∃ t, exec (.pltEngLenWrite w v) s = .next t ∧
    (96 ≤ v.toNat → v.toNat ≤ 2097152 → t.reg R.pltEngLen = v ∧ t.plt = s.plt) ∧
    (v.toNat < 96 ∨ 2097152 < v.toNat → t.plt = s.plt.failed ∧ t.fld R.pltError 0 5 = 3)) ∧
  (∀ (w : Win) (v : Word) (s : State), s.ownsLoad w = true → s.plt.eng = .loading →
    exec (.engraveWord w v) s = .next { s with plt := { s.plt with words := v :: s.plt.words, count := s.plt.count + 1 } }) ∧
  (∀ (w : Win) (s : State), s.ownsLoad w = true → s.plt.eng = .loading →
    exec (.closeEng w) s = .next { s with plt := { s.plt with eng := .verifying } }) ∧
  (∀ s : State, s.plt.eng = .verifying ∨ (s.plt.eng = .idle ∧ s.plt.cancelledAt = some s.clk.count) → ∃ t, exec .verificationDone s = .next t ∧
    t.plt.owned = false ∧ t.plt.active = s.plt.active ∧ t.plt.words = [] ∧
    (t.plt.eng = .failed ∧ t.plt.standby = s.plt.standby ∨ t.plt.eng = .ready ∧ ∃ v, t.plt.standby = some v)) ∧
  (∀ (w : Win) (s : State), s.ownsLoad w = true →
    (s.plt.eng = .loading → exec (.cancel w) s = .next { s with plt := { s.plt with eng := .idle, owned := false, words := [] } }) ∧
    (s.plt.eng = .verifying →
      exec (.cancel w) s = .next { s with plt := { s.plt with eng := .idle, owned := false, cancelledAt := some s.clk.count } })) ∧
  (∀ (w : Win) (s : State), s.winFm w = true → s.plt.eng = .ready ∨ s.plt.eng = .failed → s.verifiedNow = false → s.plt.armed = false →
    exec (.cancel w) s = .next { s with plt := { s.plt with eng := .idle, owned := false, words := [], standby := none, cancelledAt := none } }) ∧
  (∀ (w : Win) (s : State), s.winFm w = true → s.verifiedNow = true → exec (.cancel w) s = .next s)

/-- A version takes effect (R68, R73 to R75): SEAL makes the READY full Plate the active version; ARM of a READY step, early enough,
sets its flip time; DISARM before that time takes it back; FLIP at that time makes the step active and the old version retiring;
RETIRE_RELEASE frees the retiring version once nothing pins it. -/
def Obligations.VersionsTakeEffect : Prop :=
  (∀ (w : Win) (v : PlateV) (s : State), s.winFm w = true → s.plt.eng = .ready → s.plt.standby = some v → v.full = true → s.isSealed = false →
    ∃ t, exec (.sealPlate w) s = .next t ∧ t.plt.active = some v ∧ t.plt.standby = none ∧ t.plt.eng = .idle) ∧
  (∀ (a : Source) (s : State), s.srcFm a = true → s.plt.armed = false → s.stepReady = true → s.now + 100000 ≤ s.reg64 R.pltStepTime →
    ∃ t, exec (.arm a) s = .next t ∧ t.plt = { s.plt with armed := true, flipTime := s.reg64 R.pltStepTime } ∧ t.fld R.pltError 0 5 = 0) ∧
  (∀ (a : Source) (s : State), s.srcFm a = true → s.plt.armed = true → s.now < s.plt.flipTime →
    ∃ t, exec (.disarm a) s = .next t ∧ t.plt = { s.plt with armed := false }) ∧
  (∀ (old v : PlateV) (s : State), s.plt.active = some old → s.plt.standby = some v → s.plt.armed = true → s.plt.flipTime ≤ s.now →
    ∃ t, exec .flip s = .next t ∧ t.plt.active = some v ∧ t.plt.retiring = some old ∧ t.plt.standby = none ∧ t.plt.armed = false ∧
      t.plt.retireAt = s.plt.flipTime + (v.word 7 4).toNat * 1000) ∧
  (∀ (old v : PlateV) (s : State), s.plt.active = some v → s.plt.retiring = some old → s.plt.retireAt ≤ s.now → s.pinsRetiring old = false →
    ∃ t, exec .retireRelease s = .next t ∧ t.plt = { s.plt with retiring := none } ∧
      ∀ e, e ∈ t.sec.slots → v.holds e.2.pkey s.nodeId = true)

/-- The Plate controller refuses what R59, R73 and R555 refuse: a window without the right opens nothing; an ARM names BANK_PINNED
before NOT_READY before LATE; a step armed past its time stays armed, and a DISARM in the flip's own cycle is LATE. -/
def Obligations.PlateControllerRefuses : Prop :=
  (∀ (w : Win) (s : State), s.winFm w = false ∨ s.plt.owned = true → ∃ t, exec (.openEng w) s = .next t ∧ t.fld R.pltError 0 5 = 13 ∧ t.plt = s.plt) ∧
  (∀ (a : Source) (s : State), s.srcFm a = true → s.plt.armed = true ∨ s.stepReady = false ∨ s.reg64 R.pltStepTime < s.now + 100000 →
    ∃ t, exec (.arm a) s = .next t ∧ t.plt = s.plt ∧
      t.fld R.pltError 0 5 = (if s.plt.armed then 12 else if s.stepReady then 15 else 17)) ∧
  (∀ (a : Source) (s : State), s.srcFm a = false → exec (.arm a) s = .next (s.violation a 2 true R.pltStepCtl) ∧
    exec (.disarm a) s = .next (s.violation a 2 true R.pltStepCtl)) ∧
  (∀ (a : Source) (s : State), s.srcFm a = true → s.plt.armed = true → s.plt.flipTime ≤ s.now → ∃ t, exec (.disarm a) s = .next t ∧
    t.plt = s.plt ∧ t.fld R.pltError 0 5 = 15) ∧
  (∀ (a : Source) (s : State), s.srcFm a = true → s.plt.armed = false → s.plt.flippedAt = some s.clk.count → ∃ t, exec (.disarm a) s = .next t ∧
    t.plt = s.plt ∧ t.fld R.pltError 0 5 = 15)

/-! ## Lanes and optical engines (chapter 4) -/

/-- Training (R88, R91 to R98): a frame whose marker has 56 of its levels and whose header is good is applied: its notice is kept, the run of frames
grows and the frequency estimate follows; one without a marker breaks the run, and so does a bad header; a LOCKED lane that no longer meets
the criteria is TRAINING again; a TRAINING lane that meets them all locks, and with the remote lock becomes ACTIVE, lane 8 STANDBY; the
time limit, counted from the lane's own start, fails a lane that still trains. -/
def Obligations.LanesTrainAndLock : Prop :=
  (∀ (l : LaneIx) (frame : BitVec 2048) (ppm : BitVec 16) (s : State), 56 ≤ markerHits (fromPins (s.rxInvert l) frame) →
    headerGood (frameHeader (fromPins (s.rxInvert l) frame)) = true → (s.lane l).callDone = false → (s.lane l).state = .off → ∃ t,
    exec (.trainingFrameRx l frame ppm) s = .next t ∧
    (t.lane l).lastNotice = BitVec.ofNat 3 (bits (frameHeader (fromPins (s.rxInvert l) frame)) 5 3) ∧ (t.lane l).badHeader = false ∧
    (t.lane l).signal = true ∧ (t.lane l).frameRun = (s.lane l).frameRun + 1 ∧ ((s.lane l).frozen = false → (t.lane l).ppm = ppm) ∧
    (t.lane l).state = .off ∧ ∀ k, k ≠ l.val → t.lane k = s.lane k) ∧
  (∀ (l : LaneIx) (frame : BitVec 2048) (ppm : BitVec 16) (s : State), markerHits (fromPins (s.rxInvert l) frame) < 56 → ∃ t,
    exec (.trainingFrameRx l frame ppm) s = .next t ∧
    ((s.lane l).state = .training → (s.lane l).frames ≠ 0 → (t.lane l).state = .training ∧ (t.lane l).frameRun = 0) ∧
    ((s.lane l).state = .locked → (t.lane l).state = .training ∧ (t.lane l).rxLock = false)) ∧
  (∀ (l : LaneIx) (frame : BitVec 2048) (ppm : BitVec 16) (s : State), 56 ≤ markerHits (fromPins (s.rxInvert l) frame) →
    headerGood (frameHeader (fromPins (s.rxInvert l) frame)) = false → (s.lane l).callDone = false → ∃ t,
    exec (.trainingFrameRx l frame ppm) s = .next t ∧
    ((s.lane l).state = .training → (t.lane l).state = .training ∧ (t.lane l).badHeader = true ∧ (t.lane l).frameRun = 0) ∧
    ((s.lane l).state = .locked → (t.lane l).state = .training ∧ (t.lane l).rxLock = false ∧ (t.lane l).badHeader = true)) ∧
  (∀ (l : LaneIx) (s : State), (s.lane l).state = .training → (s.lane l).signal = true → 4 ≤ (s.lane l).frameRun →
    patternFrames ≤ (s.lane l).frames → (s.lane l).patternSum ≤ 256 → ∃ t, exec (.laneLocked l true) s = .next t ∧ (t.lane l).rxLock = true ∧
    (t.lane l).state = (if (s.lane l).remoteLock then (if l.val % 9 = 8 then .standby else .active) else .locked)) ∧
  (∀ (l : LaneIx) (s : State), (s.lane l).state = .training → ¬ ((s.lane l).signal = true ∧ 4 ≤ (s.lane l).frameRun ∧
    patternFrames ≤ (s.lane l).frames ∧ (s.lane l).patternSum ≤ 256) → ∃ t, exec (.laneLocked l true) s = .next t ∧ (t.lane l).state = .training) ∧
  (∀ (l : LaneIx) (s : State), (s.lane l).state = .locked → ∃ t, exec (.laneLocked l false) s = .next t ∧
    (t.lane l).rxLock = false ∧ (t.lane l).state = .training) ∧
  (∀ (l : LaneIx) (from0 : Nat) (s : State), (s.lane l).state = .training ∨ (s.lane l).state = .locked → s.trainFrom l = some from0 → ∃ t,
    exec (.trainTimeout l) s = .next t ∧
    (from0 + s.fld R.laneCfg 0 8 * 10000 ≤ s.now → (t.lane l).state = .failed ∧ (t.lane l).cause = 2) ∧
    (s.now < from0 + s.fld R.laneCfg 0 8 * 10000 → t = s))

/-- Each failure of Table 04-9 fails its lane with its cause: signal lost without a notice, lock lost while ACTIVE, more uncorrectable
codewords than FEC_LIMIT within 1 ms, a STANDBY lane's check, a wake that brings no signal within 2 µs, and FORCE_FAIL; a corrected codeword only
counts; an announced loss of signal ends a lock and fails nothing; CLEAR_FAIL makes a FAILED lane OFF, but for one that failed in the same cycle
(R95, R112 to R116, R120). -/
def Obligations.LaneFailuresFailTheLane : Prop :=
  (∀ (l : LaneIx) (s : State), (s.lane l).signal = true → (s.lane l).quietAnnounced = false → (s.lane l).rxIdle = false →
    (s.lane l).state ≠ .off → (s.lane l).state ≠ .gated → (s.lane l).state ≠ .failed → ∃ t, exec (.los l) s = .next t ∧
    (t.lane l).state = .failed ∧ (t.lane l).cause = 4) ∧
  (∀ (l : LaneIx) (s : State), (s.lane l).quietAnnounced = true → (s.lane l).state = .locked → ∃ t, exec (.los l) s = .next t ∧
    (t.lane l).state = .training ∧ (t.lane l).rxLock = false ∧ (t.lane l).signal = false) ∧
  (∀ (l : LaneIx) (s : State), (s.lane l).state = .active → ∃ t, exec (.lol l) s = .next t ∧ (t.lane l).state = .failed ∧ (t.lane l).cause = 5) ∧
  (∀ (l : LaneIx) (w : BitVec 2720) (s : State), rsDecode (fromPins (s.rxInvert l) w) = none → ∃ t, exec (.fecLimit l w []) s = .next t ∧
    ((s.lane l).state = .active → s.fld R.laneCfg 8 10 < ((s.lane l).uncorr.filter fun x => decide (s.now < x + 1000000)).length + 1 →
      (t.lane l).state = .failed ∧ (t.lane l).cause = 6) ∧
    ((s.lane l).state ≠ .active ∨ ((s.lane l).uncorr.filter fun x => decide (s.now < x + 1000000)).length + 1 ≤ s.fld R.laneCfg 8 10 →
      (t.lane l).state = (s.lane l).state ∧ (t.reg (R.lane l + 0x20)).toNat = min ((s.reg (R.lane l + 0x20)).toNat + 1) 0xFFFFFFFF ∧
      ∀ k, k ≠ l.val → t.lane k = s.lane k)) ∧
  (∀ (l : LaneIx) (w : BitVec 2720) (r : BitVec 2720 × Nat) (s : State), rsDecode (fromPins (s.rxInvert l) w) = some r → ∃ t,
    exec (.fecLimit l w []) s = .next t ∧ t.lanes = s.lanes ∧
    (t.reg (R.lane l + 0x1C)).toNat = min ((s.reg (R.lane l + 0x1C)).toNat + r.2) 0xFFFFFFFF ∧ t.reg (R.lane l + 0x20) = s.reg (R.lane l + 0x20)) ∧
  (∀ (l : LaneIx) (s : State), (s.lane l).state = .standby → (s.lane l).rxIdle = false → ∃ t, exec (.standbyCheck l) s = .next t ∧
    ((s.lane l).checkFails = true → (t.lane l).state = .failed ∧ (t.lane l).cause = 9) ∧ ((s.lane l).checkFails = false → t = s)) ∧
  (∀ (l : LaneIx) (w : Nat) (s : State), (s.lane l).state = .active ∨ (s.lane l).state = .standby → (s.lane l).wokeAt = some w →
    (s.lane l).signal = false → ∃ t, exec (.wakeFailure l) s = .next t ∧
    (w + 2000 ≤ s.now → (t.lane l).state = .failed ∧ (t.lane l).cause = 8) ∧ (s.now < w + 2000 → t = s)) ∧
  (∀ (a : Source) (l : LaneIx) (s : State), s.srcFm a = true → s.script.holdInput = false → ∃ t, exec (.forceFail a l) s = .next t ∧
    ((s.journalReg a (R.lane l + 4) 1).running = true → (t.lane l).state = .failed ∧
      (((s.journalReg a (R.lane l + 4) 1).lane l).state ≠ .failed → (t.lane l).cause = 11))) ∧
  (∀ (a : Source) (l : LaneIx) (s : State), s.srcFm a = true → s.script.holdInput = false → ∃ t, exec (.clearFail a l) s = .next t ∧
    ((s.journalReg a (R.lane l + 4) 2).running = true → ((s.journalReg a (R.lane l + 4) 2).lane l).state = .failed →
      (((s.journalReg a (R.lane l + 4) 2).lane l).failedAt ≠ some (s.journalReg a (R.lane l + 4) 2).clk.count →
        (t.lane l).state = .off ∧ (t.lane l).cause = 0) ∧
      (((s.journalReg a (R.lane l + 4) 2).lane l).failedAt = some (s.journalReg a (R.lane l + 4) 2).clk.count →
        (t.lane l).state = .failed)))

/-- Electrical idle (R108 to R111, R121, R125): the transmitters of an UP link that sent nothing for TX_IDLE fall quiet together at a codeword
boundary, and not while there is something to send; a detected signal ends the receiver's idle and wakes a gated lane; the burst ends idle at its
UI, shows the link's skew once it is whole, and in a call counts only behind COUNT = 0; a fall of signal after an IDLE or DOZE notice is idle and
no failure, and freezes the loop. -/
def Obligations.LanesIdleAndWake : Prop :=
  (∀ (l : LaneIx) (s : State), (s.lane l).state = .active ∨ (s.lane l).state = .standby → (s.link (l.val / 9)).state = .up →
    s.fld R.laneCfg 18 10 ≠ 0 → (s.link (l.val / 9)).lastSend + s.fld R.laneCfg 18 10 * 10 ≤ s.now → ∃ t, exec (.txIdleEnter l) s = .next t ∧
    ((s.link (l.val / 9)).hasToSend = true → t = s) ∧
    ((s.link (l.val / 9)).hasToSend = false → (t.link (l.val / 9)).txPos = 0 ∧ ∀ k, k < 9 →
      ((s.lane (9 * (l.val / 9) + k)).carriesLink = true → (s.lane (9 * (l.val / 9) + k)).txIdle = false →
        t.lane (9 * (l.val / 9) + k) = { s.lane (9 * (l.val / 9) + k) with txIdle := true, sentNotice := 1, sentCount := 1, idleAt := s.now }) ∧
      ((s.lane (9 * (l.val / 9) + k)).carriesLink = false → t.lane (9 * (l.val / 9) + k) = s.lane (9 * (l.val / 9) + k)))) ∧
  (∀ (l : LaneIx) (s : State), ∃ t, exec (.signalDetect l) s = .next t ∧ (t.lane l).signal = true ∧ (t.lane l).rxIdle = false ∧
    t.domain l = .running) ∧
  (∀ (l : LaneIx) (ui : Nat) (s : State), (s.lane l).state = .active ∨ (s.lane l).state = .standby ∨ (s.lane l).state = .locked → ∃ t,
    exec (.burstRx ⟨l, ui⟩) s = .next t ∧
    ((s.lane l).lastNotice = 3 → (s.lane l).callDone = false → t = s) ∧
    ((s.lane l).lastNotice ≠ 3 ∨ (s.lane l).callDone = true → t.lane l = ((s.lane l).hasSignal s.now).burst ui ∧
      ∀ skew, (s.link (l.val / 9)).state = .up → t.skewOf (l.val / 9) (t.mapped (l.val / 9)) = some skew → skew ≤ 4096 →
        t.reg (R.link (l.val / 9) + 0x18) = BitVec.ofNat 32 skew)) ∧
  (∀ (l : LaneIx) (frame : BitVec 2048) (ppm : BitVec 16) (s : State), 56 ≤ markerHits (fromPins (s.rxInvert l) frame) →
    (s.lane l).callDone = true → ∃ t, exec (.trainingFrameRx l frame ppm) s = .next t ∧ t.lane l = ((s.lane l).hasSignal s.now).burst 64) ∧
  (∀ (l : LaneIx) (s : State), (s.lane l).lastNotice = 1 ∨ (s.lane l).lastNotice = 2 → (s.lane l).state = .active ∨ (s.lane l).state = .standby →
    ∃ t, exec (.rxIdleEnter l) s = .next t ∧
    t.lane l = { s.lane l with signal := false, rxIdle := true, frozen := true, burstAt := none, idleAt := s.now } ∧ t.regs = s.regs)

/-- Eye scans (R117) and module reads (R107, R533): a scan starts on a lane that carries signal and ends LANE_CHANGED elsewhere, stops on
request, and ends with its count once 2^DWELL UI have passed; LANE_CMIS_RD starts a read that ends with DONE and the byte or with ERROR. Optical engines (R103, R105, R106, R533): a PRESENT engine of CMIS revision 5 that reaches ModuleReady and is activated is up, and its lanes run
with the application that LANE_ENGINE selects; any other has failed, and its lanes with it; reading an engine that is up, once in each POLL,
clears its misses and fails a flagged lane, and the third miss in a row fails the engine. -/
def Obligations.EnginesScansAndModuleReads : Prop :=
  (
    (∀ (a : Source) (l : LaneIx) (v : Word) (s : State), s.srcFm a = true → s.running = true → scanFits v = true → ∃ t,
      exec (.scanStart a l v) s = .next t ∧ t.reg (R.lane l + 0x10) = scanSettings v ∧
      ((s.lane l).state = .active ∨ (s.lane l).state = .standby ∨ (s.lane l).state = .gated → t.reg (R.lane l + 0x14) = 1 ∧ t.reg (R.lane l + 0x18) = 0 ∧
        (t.lane l).scanAt = s.now) ∧
      ((s.lane l).state ≠ .active → (s.lane l).state ≠ .standby → (s.lane l).state ≠ .gated → t.reg (R.lane l + 0x14) = 4)) ∧
    (∀ (a : Source) (l : LaneIx) (v : Word) (s : State), s.srcFm a = true → scanFits v = false → exec (.scanStart a l v) s = .next s) ∧
    (∀ (a : Source) (l : LaneIx) (s : State), s.srcFm a = true → s.running = true → s.scanning l = true → ∃ t, exec (.scanStop a l) s = .next t ∧
      t.reg (R.lane l + 0x14) = 3 ∧ ∀ off, off ≠ R.lane l + 0x14 → off ≠ R.lane l + 0x18 → t.reg off = s.reg off) ∧
    (∀ (l : LaneIx) (e : Word) (s : State), s.scanning l = true → (s.lane l).carriesLink = true → ∃ t, exec (.scanDone l e) s = .next t ∧
      (s.scanDue l = true → t.reg (R.lane l + 0x14) = 2 ∧ t.reg (R.lane l + 0x18) = e) ∧ (s.scanDue l = false → t = s)) ∧
    (∀ (a : Source) (v : Word) (s : State), s.srcFm a = true → s.running = true → ∃ t, exec (.cmisReadGo a v) s = .next t ∧
      t.fld R.cmisRd 0 22 = bits v 0 22 ∧ t.fld R.cmisRd 22 1 = 1 ∧ t.fld R.cmisRd 23 2 = 0) ∧
    (∀ (b : Byte) (s : State), bit (s.reg R.cmisRd) 22 = true → ∃ t, exec (.cmisReadDone (some b)) s = .next t ∧
      t.fld R.cmisRd 22 2 = 2 ∧ t.reg R.cmisRdata = BitVec.ofNat 32 b.toNat) ∧
    (∀ s : State, bit (s.reg R.cmisRd) 22 = true → ∃ t, exec (.cmisReadDone none) s = .next t ∧ t.fld R.cmisRd 22 1 = 0 ∧ t.fld R.cmisRd 24 1 = 1 ∧
      t.reg R.cmisRdata = s.reg R.cmisRdata)) ∧
  (
    (∀ (e : Fin 64) (r : Byte) (s : State), bits r 4 4 = 5 → bit (s.reg (R.laneEngine + 4 * e)) 7 = true → ∃ t,
      exec (.engineBringup e r moduleReady true) s = .next t ∧
      t.fld (R.engineState + 4 * e) 0 5 = 11 ∧ t.fld (R.engineState + 4 * e) 8 8 = r.toNat ∧
      ∀ l, l ∈ s.engineLanes e → (t.lane l).app = BitVec.ofNat 4 (s.fld (R.laneEngine + 4 * e) 8 4)) ∧
    (∀ (e : Fin 64) (r : Byte) (m : BitVec 3) (d : Bool) (s : State),
      ¬ (bits r 4 4 = 5 ∧ m = moduleReady ∧ d = true ∧ bit (s.reg (R.laneEngine + 4 * e)) 7 = true) → ∃ t,
      exec (.engineBringup e r m d) s = .next t ∧
      (s.engineLanes e = [] → t.fld (R.engineState + 4 * e) 0 5 = 16 + m.toNat) ∧ ∀ l, l ∈ s.engineLanes e → (t.lane l).state = .failed) ∧
    (∀ (e : Fin 64) (f : BitVec 160) (s : State), bit (s.reg (R.engineState + 4 * e)) 3 = true →
      (s.engineLanes e = [] → ∃ t, exec (.engineInterrupt e (some f)) s = .next t ∧ tabGet 0 t.kpr.engineMiss e = 0 ∧ t.regs = s.regs) ∧
      (∀ l, s.engineLanes e = [l] → engineFlagsOf f (bits (s.entry l).2 22 5) ≠ 0 → (s.lane l).state ≠ .off → (s.lane l).state ≠ .failed → ∃ t,
        exec (.engineInterrupt e (some f)) s = .next t ∧ (t.lane l).state = .failed ∧ (t.lane l).cause = 7)) ∧
    (∀ (e : Fin 64) (s : State), bit (s.reg (R.engineState + 4 * e)) 3 = true → ∃ t, exec (.engineInterrupt e none) s = .next t ∧
      (tabGet 0 s.kpr.engineMiss e < 2 → tabGet 0 t.kpr.engineMiss e = tabGet 0 s.kpr.engineMiss e + 1 ∧ t.regs = s.regs) ∧
      (2 ≤ tabGet 0 s.kpr.engineMiss e → ∀ l, l ∈ s.engineLanes e → (t.lane l).state = .failed)) ∧
    (∀ (e : Fin 64) (f : Option (BitVec 160)) (s : State),
      (tabGet 0 s.kpr.enginePolled e + s.fld R.cmisCtl 0 14 * 1000 ≤ s.now → ∃ t, exec (.enginePoll e f) s = .next t ∧
        exec (.engineInterrupt e f) { s with kpr := { s.kpr with enginePolled := tabSet 0 s.kpr.enginePolled e s.now } } = .next t) ∧
      (s.now < tabGet 0 s.kpr.enginePolled e + s.fld R.cmisCtl 0 14 * 1000 → exec (.enginePoll e f) s = .next s)))

/-! ## Links (chapter 5) -/

/-- The link states (Table 05-6, R121, R142, R143, R153): with every lane ready a training link enters IDENT, or DOWN with fewer than 4
working lanes; an IDENT or RETRAIN that lasts its limit starts the next attempt, and the third within 1 s ends DOWN, while one within its limit goes
on; a REALIGN ends UP with its skew shown, in RETRAIN where the skew passes 4,096 UI, or in RETRAIN after 20 µs. -/
def Obligations.LinkStatesFollowTable56 : Prop :=
  (∀ (n : LinkIx) (s : State), s.calm → (s.link n).state = .train ∨ (s.link n).state = .retrain →
    (∀ k, k < 9 → (s.lane (9 * n + k)).state = .active ∨ (s.lane (9 * n + k)).state = .standby ∨ (s.lane (9 * n + k)).state = .failed) →
    ∃ t, exec (.trainComplete n) s = .next t ∧
      (4 ≤ (s.workingLanes n).length → (t.link n).state = .ident ∧ (t.link n).width = 3 ∧ (t.link n).identSent = 0 ∧
        (t.link n).replay = (s.link n).replay ∧ ∀ m, m ≠ n.val → t.link m = s.link m) ∧
      ((s.workingLanes n).length < 4 → (t.link n).state = .down ∧ (t.link n).downCause = 3)) ∧
  (∀ (n : LinkIx) (s : State), s.calm → (s.link n).state = .ident → ∃ t, exec (.identLimit n) s = .next t ∧
    (s.now < (s.link n).enteredAt + s.fld R.linkCfg2 8 8 * 1000 → t = s) ∧
    ((s.link n).enteredAt + s.fld R.linkCfg2 8 8 * 1000 ≤ s.now →
      (((s.link n).attempts.filter fun a => decide (s.now < a + 1000000000)).length < 2 →
        (t.link n).state = .retrain ∧ (t.link n).lastRetrain = 5 ∧ (t.link n).replay = (s.link n).replay) ∧
      (2 ≤ ((s.link n).attempts.filter fun a => decide (s.now < a + 1000000000)).length →
        (t.link n).state = .down ∧ (t.link n).downCause = 2))) ∧
  (∀ (n : LinkIx) (s : State), s.calm → (s.link n).state = .retrain → ∃ t, exec (.retrainLimit n) s = .next t ∧
    (s.now < (s.link n).enteredAt + s.fld R.linkCfg2 0 8 * 10000 → t = s) ∧
    ((s.link n).enteredAt + s.fld R.linkCfg2 0 8 * 10000 ≤ s.now →
      (((s.link n).attempts.filter fun a => decide (s.now < a + 1000000000)).length < 2 →
        (t.link n).state = .retrain ∧ (t.link n).lastRetrain = (s.link n).lastRetrain) ∧
      (2 ≤ ((s.link n).attempts.filter fun a => decide (s.now < a + 1000000000)).length →
        (t.link n).state = .down ∧ (t.link n).downCause = 2))) ∧
  (∀ (n : LinkIx) (words : List (Fin 9 × BitVec 2720)) (skew : Nat) (s : State), (s.link n).state = .realign →
    s.goodWords n words = true → s.skewOf n (s.mapped n) = some skew → ∃ t,
    exec (.realignDone n words) s = .next t ∧
    (skew ≤ 4096 → t.link n = { s.link n with state := .up } ∧ t.reg (R.link n + 0x18) = BitVec.ofNat 32 skew) ∧
    (4096 < skew → (t.link n).state = .retrain ∧ (t.link n).lastRetrain = 3)) ∧
  (∀ (n : LinkIx) (s : State), (s.link n).state = .realign → (s.link n).realignAt + 20000 ≤ s.now → ∃ t,
    exec (.realignTimeout n) s = .next t ∧ (t.link n).state = .retrain ∧ (t.link n).lastRetrain = 3)

/-- IDENT_RX in IDENT (R121, R145 to R149, R154): LINK_PEER shows the peer's fields; an IDENT of this end's own makes it draw its nonce anew; a map
that nobody can build ends DOWN with LANES; the peer's IDENTs before the end of the exchange are kept; the last one brings the link UP, once
the mapped lanes are within 4,096 UI; and one that breaks a rule of Table 05-10 is a violation of its code. -/
def Obligations.IdentExchangeCompletes : Prop :=
  (∀ (n : LinkIx) (c : Cell) (s : State), (s.link n).state = .ident → cellIs c 0x3B = true → s.identFault c = none → quietAck (s.link n) c →
    bytesAt c.payload 0 2 % 2 ^ 15 = s.nodeId → bits c.payload 16 5 = n.val → bytesAt c.payload 56 4 = (s.link n).nonce.toNat →
    ∃ t, exec (.identRx n c) s = .next t ∧ (t.link n).state = .ident ∧ (t.link n).peerIdent = none ∧ (t.link n).identSent = 0 ∧
      t.fld (R.link n + 0x14) 0 15 = s.nodeId % 2 ^ 15 ∧ t.free = s.free + 1) ∧
  (∀ (n : LinkIx) (c : Cell) (s : State), s.calm → (s.link n).state = .ident → cellIs c 0x3B = true → s.identFault c = none →
    quietAck (s.link n) c →
    ¬ (bytesAt c.payload 0 2 % 2 ^ 15 = s.nodeId ∧ bits c.payload 16 5 = n.val ∧ bytesAt c.payload 56 4 = (s.link n).nonce.toNat) →
    ∃ t, exec (.identRx n c) s = .next t ∧
      (s.agreedMap n c.payload = none → (t.link n).state = .down ∧ (t.link n).downCause = 3) ∧
      (s.agreedMap n c.payload ≠ none → (s.link n).identSent < 8 ∨ ((s.link n).peerFinal = false ∧ bit c.payload 65 = false) →
        ∃ top, t.link n = { s.link n with peerIdent := some c.payload, peerFinal := (s.link n).peerFinal || bit c.payload 65, top := top }) ∧
      (∀ w ks skew, s.agreedMap n c.payload = some (w, ks) → 8 ≤ (s.link n).identSent → bit c.payload 65 = true →
        s.skewOf n ks = some skew → skew ≤ 4096 →
        (t.link n).state = .up ∧ (t.link n).peerIdent = some c.payload ∧ (t.link n).width = w ∧ (t.link n).known = true ∧
          t.reg (R.link n + 0x18) = BitVec.ofNat 32 skew)) ∧
  (∀ (n : LinkIx) (c : Cell) (k : Nat) (s : State), (s.link n).state = .ident → cellIs c 0x3B = true → s.identFault c = some k → ∃ t,
    exec (.identRx n c) s = .next t ∧ (t.link n).peerIdent = (s.link n).peerIdent ∧
    (t.reg (R.link n + 0x30)).toNat = min ((s.reg (R.link n + 0x30)).toNat + 1) 0xFFFFFFFF)

/-- Software's requests on a link (R21, R142, R144, R155, R156, R158): LINK_CTL.RETRAIN and LANE_CTL.RETRAIN retrain it, RESTART trains it from
DOWN where it may train, FORCE_DOWN takes it DOWN, CLEAR_RESTRICT lifts the restriction that violations set, but for one of the same cycle, DISABLE
starts the drain, enabling ends a drain or trains, and at the deadline a draining link is DISABLED and empty. -/
def Obligations.LinkRequestsAct : Prop :=
  (∀ (a : Source) (n : LinkIx) (s : State), s.calm → s.srcFm a = true → s.script.holdInput = false → s.running = true →
    (s.link n).state = .up ∨ (s.link n).state = .realign → ∃ t, exec (.linkRetrain a n) s = .next t ∧
    (t.link n).state = .retrain ∧ (t.link n).lastRetrain = 1) ∧
  (∀ (a : Source) (l : LaneIx) (s : State), s.calm → s.srcFm a = true → s.script.holdInput = false → s.running = true →
    (s.link (l.val / 9)).state = .up ∨ (s.link (l.val / 9)).state = .realign → ∃ t, exec (.laneRetrain a l) s = .next t ∧
    (t.link (l.val / 9)).state = .retrain ∧ (t.link (l.val / 9)).lastRetrain = 1) ∧
  (∀ (a : Source) (n : LinkIx) (s : State), s.calm → s.srcFm a = true → s.script.holdInput = false → s.running = true →
    (s.link n).state = .down → ∃ t, exec (.restart a n) s = .next t ∧
    (s.mayTrain n = true → s.lanesFit n → (t.link n).state = .train ∧ (t.link n).session ≠ 0 ∧ (t.link n).pool = [] ∧ (t.link n).replay = []) ∧
    (s.mayTrain n = false → t.link n = s.link n)) ∧
  (∀ (a : Source) (n : LinkIx) (s : State), s.calm → s.srcFm a = true → s.script.holdInput = false → s.running = true →
    (s.link n).state ≠ .down → (s.link n).state ≠ .disabled → ∃ t, exec (.forceDown a n) s = .next t ∧ (t.link n).state = .down ∧
    (t.link n).downCause = 5) ∧
  (∀ (a : Source) (n : LinkIx) (s : State), s.calm → s.srcFm a = true → s.script.holdInput = false → s.running = true →
    ∃ t, exec (.clearRestrict a n) s = .next t ∧
    ((s.link n).violAt ≠ some s.clk.count → bit (t.link n).restrict 2 = false ∧ ∀ k, k ≠ 2 → bit (t.link n).restrict k = bit (s.link n).restrict k) ∧
    ((s.link n).violAt = some s.clk.count → t.link n = s.link n)) ∧
  (∀ (a : Source) (n : LinkIx) (v : Word) (s : State), s.calm → s.mayWrite a (R.link n + 8) →
    (s.link n).state ≠ .disabled → (s.link n).drainAt = none → ∃ t, exec (.linkDisable a n v) s = .next t ∧
    t.link n = { s.link n with drainAt := some (s.now + s.timer 2 * 1000) } ∧ t.fld (R.link n + 8) 0 1 = 1) ∧
  (∀ (a : Source) (n : LinkIx) (v : Word) (s : State), s.calm → s.mayWrite a (R.link n + 8) →
    ∃ t, exec (.linkEnable a n v) s = .next t ∧ t.fld (R.link n + 8) 0 1 = 0 ∧
    ((s.link n).state = .disabled → s.running = true → s.mayTrain n = true → s.lanesFit n → (t.link n).state = .train) ∧
    ((s.link n).state ≠ .disabled → s.isSealed = false ∨ s.role n ≠ 0 → t.link n = { s.link n with drainAt := none }) ∧
    ((s.link n).state ≠ .disabled → s.isSealed = true → s.role n = 0 → t.link n = s.link n)) ∧
  (∀ (n : LinkIx) (due : Nat) (s : State), s.calm → (s.link n).drainAt = some due → due ≤ s.now → ∃ t,
    exec (.linkDrainDeadline n) s = .next t ∧ (t.link n).state = .disabled ∧ (t.link n).txq = [] ∧ (t.link n).replay = [] ∧
    (t.link n).held = [] ∧ (t.link n).floods = [] ∧ (t.link n).drainAt = none)

/-- Receipt on a link (R18, R126, R128, R129, R133, R135, R141, R154): on an UP link a slot whose cell has the next number enters the pool; in IDENT
and UP an ACK number releases the cells up to it from the replay buffer, and an ACK or CREDIT cell renews the freed counts; on an UP link a
RETRAIN cell retrains with reason PEER and a PROTEST is counted; an errored slot is counted and nothing of it taken. -/
def Obligations.LinkReceiptActs : Prop :=
  (∀ (n : LinkIx) (form : BitVec 2) (parts : List SlotPart) (c : Cell) (s : State), (s.link n).state = .up → form = (s.link n).width → form ≠ 3 →
    (s.readSlot n form.toNat parts).cut = false →
    slotErrored (s.readSlot n form.toNat parts).slot (s.readSlot n form.toNat parts).decoded = false →
    (∀ e, e ∈ (s.readSlot n form.toNat parts).ended → e.2.isSome = true) → slotCell (s.readSlot n form.toNat parts).slot = c →
    c.typ.toNat < 0x38 → quietAck (s.link n) c → (s.link n).overResent (s.fld R.linkCfg 24 8) = false → c.seq = (s.link n).expect →
    (s.link n).held = [] → (s.link n).restrict = 0 → s.arrivalFault n c = none → linkBound c = false → ∃ t,
    exec (.sequencedCellRx n form parts) s = .next t ∧
    (t.link n).pool = (s.link n).pool ++ [c] ∧ (t.link n).expect = (s.link n).expect + 1 ∧ (t.link n).held = [] ∧
    t.reg64 (R.link n + 0x58) = (s.reg64 (R.link n + 0x58) + 1) % 2 ^ 64) ∧
  (∀ (n : LinkIx) (form : BitVec 2) (parts : List SlotPart) (s : State), s.calm → (s.link n).readsSlots = true →
    (s.readSlot n form.toNat parts).cut = false → (s.readSlot n form.toNat parts).ended = [] →
    slotErrored (s.readSlot n form.toNat parts).slot (s.readSlot n form.toNat parts).decoded = true → ∃ t,
    exec (.sequencedCellRx n form parts) s = .next t ∧ (t.link n).pool = (s.link n).pool ∧ (t.link n).expect = (s.link n).expect ∧
    (t.reg (R.link n + 0x24)).toNat = min ((s.reg (R.link n + 0x24)).toNat + 1) 0xFFFFFFFF) ∧
  (∀ (n : LinkIx) (c : Cell) (s : State), (s.link n).readsSlots = true → cellIs c 0x38 = true → s.localFault c = none → c.nak = 0 →
    (s.link n).overResent (s.fld R.linkCfg 24 8) = false →
    (c.ack - (s.link n).lastAck).toNat ≤ ((s.link n).nextSeq - 1 - (s.link n).lastAck).toNat → ∃ t, exec (.nullCellRx n c) s = .next t ∧
    (t.link n).lastAck = c.ack ∧ (∀ r, r ∈ (t.link n).replay ↔ r ∈ (s.link n).replay ∧
      (c.ack = (s.link n).lastAck ∨ (c.ack - (s.link n).lastAck).toNat < (r.seq - (s.link n).lastAck).toNat)) ∧ t.regs = s.regs) ∧
  (∀ (n : LinkIx) (c : Cell) (s : State), (s.link n).readsSlots = true → quietAck (s.link n) c → s.localFault c = none →
    (s.link n).overResent (s.fld R.linkCfg 24 8) = false →
    (∀ k, k < 6 → (tabGet 0 (s.link n).sent k + 65536 - bytesAt c.payload (2 * k) 2) % 65536 < 32768) →
    (cellIs c 0x39 = true → ∃ t, exec (.ackCellRx n c) s = .next t ∧
      ∀ k, k < 6 → tabGet 0 (t.link n).peerFreed k = bytesAt c.payload (2 * k) 2) ∧
    (cellIs c 0x3A = true → ∃ t, exec (.creditCellRx n c) s = .next t ∧
      ∀ k, k < 6 → tabGet 0 (t.link n).peerFreed k = bytesAt c.payload (2 * k) 2)) ∧
  (∀ (n : LinkIx) (c : Cell) (s : State), s.calm → (s.link n).state = .up → cellIs c 0x3C = true → quietAck (s.link n) c →
    s.localFault c = none → (s.link n).overResent (s.fld R.linkCfg 24 8) = false → ∃ t,
    exec (.retrainCellRx n c) s = .next t ∧ (t.link n).state = .retrain ∧ (t.link n).lastRetrain = 2) ∧
  (∀ (n : LinkIx) (c : Cell) (s : State), (s.link n).state = .up → cellIs c 0x3E = true → quietAck (s.link n) c →
    s.localFault c = none → (s.link n).overResent (s.fld R.linkCfg 24 8) = false → ∃ t,
    exec (.protestRx n c) s = .next t ∧ (t.link n).state = .up ∧
    (t.reg (R.link n + 0x38)).toNat = min ((s.reg (R.link n + 0x38)).toNat + 1) 0xFFFFFFFF)

/-- Sending on an UP link (R110, R131, R132, R136 to R138): a CREDIT cell at least every 128 slots; then the oldest cell due for resend, under its
own number; then a new cell with credit, which takes the next number and enters the replay buffer; then a NULL, and nothing in electrical idle.
The replay timeout makes the oldest unacknowledged cell due, or retrains the link once it was resent REPLAY_LIMIT times; an idle link whose
acknowledgement went unreported for ACK_DELAY sends it. -/
def Obligations.LinkSendingActs : Prop :=
  (∀ (n : LinkIx) (s : State), (s.link n).state = .up → s.domain (288 + n) ≠ .gated → ∃ t, exec (.linkTxSlot n) s = .next t ∧
    (127 ≤ (s.link n).sinceCredit → (t.link n).sinceCredit = 0 ∧ (t.link n).reported = (s.link n).report ∧ (t.link n).txq = (s.link n).txq) ∧
    (∀ r, (s.link n).sinceCredit < 127 → (s.link n).ctl = [] → (s.link n).replay.find? (fun r => r.due) = some r →
      (t.link n).nextSeq = (s.link n).nextSeq ∧ ∃ c, (t.link n).txSlot = some ((s.link n).stamp c r.seq)) ∧
    (∀ k c, (s.link n).sinceCredit < 127 → (s.link n).ctl = [] → (s.link n).replay.find? (fun r => r.due) = none → (s.link n).floods = [] →
      (s.link n).nextClass = some k → (s.link n).txq.find? (fun y => y.cls.toNat == k) = some c →
      (t.link n).txq = (s.link n).txq.erase c ∧ (t.link n).nextSeq = (s.link n).nextSeq + 1 ∧
      ∃ r, (t.link n).replay = (s.link n).replay ++ [r] ∧ r.seq = (s.link n).nextSeq ∧ r.resent = 0 ∧ r.lastTx = s.now) ∧
    ((s.link n).sinceCredit < 127 → (s.link n).ctl = [] → (s.link n).replay.find? (fun r => r.due) = none → (s.link n).nextClass = none →
      (s.link n).report = (s.link n).reported → (t.link n).replay = (s.link n).replay ∧
      (s.linkQuiet n = false → (t.link n).txSlot = some ((s.link n).stamp (s.linkCell n 0x38 0) (s.link n).nextSeq)) ∧
      (s.linkQuiet n = true → (t.link n).txSlot = none))) ∧
  (∀ (n : LinkIx) (s : State), s.domain (288 + n) = .gated → exec (.linkTxSlot n) s = .next s) ∧
  (∀ (n : LinkIx) (r : Replay) (rs : List Replay) (s : State), (s.link n).state = .up → (s.link n).replay = r :: rs → ∃ t,
    exec (.replayTimeout n) s = .next t ∧ (s.now < r.lastTx + s.fld R.linkCfg 0 8 * 100 → t = s) ∧
    (r.lastTx + s.fld R.linkCfg 0 8 * 100 ≤ s.now →
      (r.resent < s.fld R.linkCfg 24 8 → t.link n = { s.link n with replay := { r with due := true, lastTx := s.now } :: rs }) ∧
      (s.calm → s.fld R.linkCfg 24 8 ≤ r.resent → (t.link n).state = .retrain ∧ (t.link n).lastRetrain = 4))) ∧
  (∀ (n : LinkIx) (since : Nat) (s : State), (s.link n).state = .up → s.linkQuiet n = true → (s.link n).report ≠ (s.link n).reported →
    (s.link n).changedAt = some since → ∃ t, exec (.ackDelay n) s = .next t ∧
    (s.now < since + s.fld R.linkCfg 16 8 * 20 → t = s) ∧
    (since + s.fld R.linkCfg 16 8 * 20 ≤ s.now → (t.link n).reported = (s.link n).report ∧
      (t.link n).txSlot = some ((s.link n).stamp (s.linkCell n 0x39 (s.link n).freedPayload) (s.link n).nextSeq)))

/-! ## The cell switch (chapter 6) -/

/-- R175: a cell that routes leaves by its preferred port where that is open and the cell does not ask for another path; a port that is
not a deflection is the preferred one or productive; a senior cell is never deflected; a cell is deflected only where no productive
port is open; and the port that is taken is open: no SEAT port, not the excluded one, and with a link that takes the cell. -/
def Obligations.RoutingFollowsR175 : Prop :=
  ∀ (s0 s : State) (b : Budget) (e : Route) (c : Cell) (x : Option Nat),
    (e.preferred < 32 → s0.takers s b e.preferred c ≠ [] → s0.seatPort e.preferred = false → x ≠ some e.preferred →
      c.alt = false ∨ epNode c.src.toNat ≠ s.nodeId → s0.routePort s b e c x = some (e.preferred, false)) ∧
    ∀ p d, s0.routePort s b e c x = some (p, d) →
      p < 32 ∧ s0.takers s b p c ≠ [] ∧ s0.seatPort p = false ∧ x ≠ some p ∧
      (d = false → p = e.preferred ∨ bit e.productive p = true) ∧
      (d = true → s.senior c = false ∧ ∀ q, q < 32 → bit e.productive q = true → s0.takers s b q c = [] ∨ s0.seatPort q = true ∨ x = some q)

/-- One cell in the switch (R166 to R169, R175, R177, R187): a C5 cell for this node, alone in the injection buffer of a node without a
Plate, is ejected; one for another node that every check passes, its port chosen and a link of it free, enters that link's transmit queue
with HOP one higher, and a deflection is marked; a link's C2 cell for the ERU that no backlog holds back is ejected when it is offered again,
and one that a backlog holds back stays. -/
def Obligations.SwitchMovesCells : Prop :=
  (∀ (c : Cell) (s : State), s.running = true → s.csw.inject = [c] → (∀ n, (s.link n).pool = [] ∧ (s.link n).passed = []) →
    s.csw.reroutes = [] → s.csw.fanouts = [] →
    c.hchk = headerCheck c → classOfType c.typ.toNat = some c.cls.toNat → s.isAged c = false →
    (s.isSealed = false → c.cls = 5 → c.dest.toNat = s.nodeId → ∃ t, exec .cellOutputChoice s = .next t ∧ t.csw.inject = [] ∧
      t.csw.ejected = s.csw.ejected ++ [{ input := 32, cell := c, neverSent := false }] ∧ t.links = s.links) ∧
    (∀ v p n d, s.isSealed = true → s.versionOf c.epoch = some v → epReserved c.dest.toNat = false → epReserved c.src.toNat = false →
      s.mayEnter v 32 c = true → s.limited 32 c = false → epNode c.dest.toNat ≠ s.nodeId → s.senior c = false →
      (routeEntry v (epNode c.dest.toNat)).valid = true →
      s.takers s Budget.fresh (routeEntry v (epNode c.dest.toNat)).preferred c ≠ [] →
      s.routePort s Budget.fresh (routeEntry v (epNode c.dest.toNat)) c none = some (p, d) → s.linkOfPort s Budget.fresh p c = some n →
      ∃ t y, exec .cellOutputChoice s = .next t ∧ t.csw.inject = [] ∧ (t.link n).txq = (s.link n).txq ++ [y] ∧ y.dest = c.dest ∧ y.tag = c.tag ∧
        y.payload = c.payload ∧ y.hop.toNat = min 15 (c.hop.toNat + 1) ∧ (d = true → y.cm = true ∧ y.deflected = true))) ∧
  (∀ (n : LinkIx) (v : PlateV) (c : Cell) (s : State), s.running = true →
    (s.inputCells n).find? (fun y => y.cls == 2) = some c → c.hchk = headerCheck c → classOfType c.typ.toNat = some c.cls.toNat →
    s.isAged c = false → s.isSealed = true → s.versionOf c.epoch = some v → epReserved c.dest.toNat = false → epReserved c.src.toNat = false →
    s.mayEnter v n c = true → s.limited n c = false → c.mcast = false → c.dest.toNat = s.nodeId → forEru c = true →
    (s.noteSenior c).isLost (epNode c.src.toNat) = false → (s.noteSenior c).mayEject v c = 0 →
    ∃ t, exec (.deferredEjection n) s = .next t ∧
      (s.csw.withheld.contains n.val = false → t.csw.ejected = s.csw.ejected ++ [{ input := n, cell := c, neverSent := false }]) ∧
      (s.csw.withheld.contains n.val = true → t.csw.ejected = s.csw.ejected ∧ t.csw.inject = s.csw.inject)) ∧
  (∀ s : State, s.running = false → exec .cellOutputChoice s = .next s ∧ ∀ n, exec (.deferredEjection n) s = .next s)

/-- Rates, echoes and the seat fence (R185, R188, R189): an ECHO lowers its node's rate by an eighth, at least by one, at most once per
DEC_GAP; a period without one raises it by 8 up to 256; an echo that waited long enough goes out as a cell; SEAT_FENCE takes the seats written. -/
def Obligations.RatesFollowEchoes : Prop :=
  (∀ (c : Cell) (s : State), s.running = true → cellIs c 0x15 = true → ∃ t, exec (.echoRx c) s = .next t ∧
    ((∀ u, tabFind s.csw.lastDec (epNode c.src.toNat) = some u → u + s.decGap ≤ s.now) →
      t.rateOf (epNode c.src.toNat) = max 1 (s.rateOf (epNode c.src.toNat) - max 1 (s.rateOf (epNode c.src.toNat) / 8))) ∧
    (∀ u, tabFind s.csw.lastDec (epNode c.src.toNat) = some u → s.now < u + s.decGap →
      t.csw.rates = s.csw.rates ∧ (t.reg R.echoIgnored).toNat = min ((s.reg R.echoIgnored).toNat + 1) 0xFFFFFFFF) ∧
    ∀ node, node ≠ epNode c.src.toNat → t.rateOf node = s.rateOf node) ∧
  (∀ (node : Fin 1024) (since : Nat) (s : State), s.running = true → tabFind s.csw.echoes node = some since → since + s.echoWaitTime ≤ s.now →
    ∃ t, exec (.echoWait node) s = .next t ∧ tabFind t.csw.echoes node = none ∧ t.csw.inject = s.csw.inject ++ [s.mkCell 0x15 node 0 0 0]) ∧
  (∀ (node : Fin 1024) (s : State), s.running = true → s.rateOf node < 256 → (tabFind s.csw.lastEcho node).getD 0 + s.incPeriod ≤ s.now →
    ∃ t, exec (.incPeriod node) s = .next t ∧ t.rateOf node = min 256 (s.rateOf node + 8) ∧
    ∀ k, k ≠ node.val → t.rateOf k = s.rateOf k) ∧
  (∀ (a : Source) (v : Word) (s : State), s.mayWrite a R.seatFence → ∃ t, exec (.seatFenceWrite a v) s = .next t ∧
    t.fld R.seatFence 0 16 = bits v 0 16 ∧ t.fld R.seatFence 16 16 = s.fld R.seatFence 16 16)

/-! ## Issue (chapters 7 to 14) -/

/-- Every opcode row whose descriptor is alone in its queue, is not refused at steps 1 to 7 and waits for nothing (R198 to R205): it leaves the
queue, its completion place is reserved, and it starts: an operation with a tag where its opcode takes one, and otherwise what its
opcode does. What then waits behind it runs. -/
def Obligations.OpcodeRowsStart : Prop :=
  ∀ (c : Instr) (i : Issue) (s : State), c.issueOf = some i → c.wf s.nodeId = true → s.running = true → i.cue = false →
    s.mayGrant = true ∨ (∃ w, i.who = .window w) →
    s.waitingAt (queueOf i.who i.cue) = [] → (s.enqueue i).waitsFreeze i = false → (s.enqueue i).opStep i = none →
    ((s.enqueue i).journalDesc i).preCheck i = none → (s.passed i).stepWaits i = false →
    needsPlace i.desc = false ∨ (s.passed i).cqFree (dQueue i.desc) = true →
    (takesTag i.desc = false → ∃ m stamp, exec c s = .next ((State.runQueueFor (queueOf i.who i.cue) m
      ((((s.passed i).dropHead (queueOf i.who i.cue)).reserve i.desc).runOther i stamp)).settleAll)) ∧
    (takesTag i.desc = true → ∀ q, s.passed i = ((s.enqueue i).journalDesc i).setWaitingAt (queueOf i.who i.cue) [q] →
      (s.passed i).tagStep ((s.passed i).opFor q) = none → (s.passed i).spaceWaits ((s.passed i).opFor q) = false →
      ∃ m, exec c s = .next ((State.runQueueFor (queueOf i.who i.cue) m
        ((((s.passed i).dropHead (queueOf i.who i.cue)).reserve i.desc).startIssue ((s.passed i).opFor q))).settleAll))

/-- The issue sources: a window's DOORBELL moves its SQ_TAIL and issues what its ring holds, and one that would overrun the ring is a
violation (R52, R196); a held DOORBELL is kept in the order of writing, and released below half the journal's buffer; a seat's DESC joins its
queue, and is answered BUSY by a node that takes no new work or sleeps (R197, R409, R509); a queue whose head waits no more goes on (R201); a
message whose backoff has passed is sent again (R214); a cue that an earlier cycle made eligible leaves the table and joins its submitter's
cue queue (R264, R265, R269). -/
def Obligations.IssueSourcesAct : Prop :=
  (∀ (w : Win) (v : Word) (s : State), s.winPresent w = true ∨ s.winFm w = true → s.script.holdBells = false →
    ∃ t, exec (.doorbell w v) s = .next t ∧
    (256 < (bits v 0 16 + 65536 - bits (s.winReg w R.sqHead) 0 16) % 65536 → t = s.violation w 3 true (R.win w + R.sqTail)) ∧
    ((bits v 0 16 + 65536 - bits (s.winReg w R.sqHead) 0 16) % 65536 ≤ 256 → s.running = true →
      t = ((s.setWinReg w R.sqTail (setBits (s.winReg w R.sqTail) 0 16 (bits v 0 16))).fetchRing w).settleAll)) ∧
  (∀ (w : Win) (v : Word) (s : State), s.winPresent w = true ∨ s.winFm w = true → s.script.holdBells = true →
    ∃ t, exec (.doorbell w v) s = .next t ∧ t.script.bells = s.script.bells ++ [(w.val, v)] ∧ t.xfr = s.xfr ∧
    (t.reg R.scriptHeld).toNat = min ((s.reg R.scriptHeld).toNat + 1) 0xFFFFFFFF) ∧
  (∀ (w : Win) (v : Word) (s : State), s.winPresent w = false → s.winFm w = false →
    exec (.doorbell w v) s = .next (s.violation w 4 true (R.win w + R.sqTail))) ∧
  (∀ s : State, s.script.holdBells = true → 2 * s.script.fill < scriptBuffer → exec .doorbellRelease s = .next
    (s.script.bells.foldl (fun t e => t.ringBell (Fin.ofNat 16 e.1) e.2) (s.setScript { s.script with holdBells := false, bells := [] }))) ∧
  (∀ (c : Cell) (s : State), s.running = true ∨ s.kpr.power = .sleeping → cellIs c 0x08 = true → 0x4000 ≤ c.src.toNat →
    epNode c.src.toNat = s.nodeId → ∀ i : Issue,
    i = { who := .seat (Fin.ofNat 16 c.src.toNat), cue := false, tag := c.tag, time := c.time, desc := c.payload } →
    (s.running = true → s.mayGrant = true → exec (.descRx c) s = .next ((((s.takeEjected c).enqueue i).runQueue (queueOf i.who false)).settleAll)) ∧
    (s.kpr.power = .sleeping ∨ s.mayGrant = false → exec (.descRx c) s = .next ((s.takeEjected c).answerSeat i ⟨12, 52, 0, 0, 0, 0⟩ s.now))) ∧
  (∀ (q : Queued) (stamp : Nat) (s : State), s.running = true → q.stamp = some stamp → q.issue.cue = false →
    s.waitingAt (queueOf q.issue.who false) = [q] → s.stepWaits q.issue = false → needsPlace q.issue.desc = false ∨ s.cqFree (dQueue q.issue.desc) = true →
    takesTag q.issue.desc = false → ∃ m, exec (.issueResume q.issue.who) s = .next (((
      (fun u : State => match q.issue.who with
        | .window w => u.fetchRing w
        | .seat _ => u) (State.runQueueFor (queueOf q.issue.who false) m
        (((s.dropHead (queueOf q.issue.who false)).reserve q.issue.desc).runOther q.issue stamp))).runQueue (queueOf q.issue.who true)).settleAll)) ∧
  (∀ (tag : Fin 16384) (o : Op) (k : Nat) (m : Msg) (b : Nat) (s : State), s.running = true → s.op tag = some o → o.abortAt = none →
    o.msgs = [(k, m)] → m.req = k → m.backoff = some b → b ≤ s.now →
    (s.resendMsg tag k (if o.kind = .load then o.requestLen k else m.len)).prm.retries = [] →
    exec (.busyBackoff tag) s = .next (s.resendMsg tag k (if o.kind = .load then o.requestLen k else m.len)).runTurns.settleAll) ∧
  (∀ (cue : Fin 16384) (x : Cue) (s t : State), s.running = true → tabFind s.prm.cues cue.val = some x → t = s.cycleToFire cue x →
    s.mayGrant = true → t.paused = false → x.ready.isSome = true → s.cueBehind cue x = false → s.cueRoom x = true →
    exec (.cueFire cue) s = .next ((((((t.setPrm { t.prm with cues := tabErase t.prm.cues cue.val, fired := t.prm.fired ++ [cue.val] }).bump
      (R.prmCount 0)).enqueue (x.issue cue.val)).runQueue (queueOf x.who true)).settleAll)))

/-! ## Transfers and memory (chapters 7 and 8) -/

/-- A request that its target has executed is answered as recorded and executed no more (R225): no byte of memory and no counter changes, and
the answer carries the recorded status and reason. -/
def Obligations.DuplicatesAreAnsweredAsRecorded : Prop :=
  ∀ (c : Cell) (e : Exec) (s : State) (x : Instr), s.running = true → s.closed c.src.toNat c.tag.toNat (orig48 c) = false → e.unknown = false → e.status ≠ 8 →
    (x = .atomicReqRx c ∧ cellIs c 0x03 = true ∧ s.underWay c 0 = false ∧ s.recordFor c 0 = some e) ∨
    (x = .fillReqRx c ∧ cellIs c 0x05 = true ∧ s.underWay c (hChunk c) = false ∧ s.recordFor c (hChunk c) = some e) ∨
    (x = .cueAddRx c ∧ cellIs c 0x28 = true ∧ s.underWay c 0 = false ∧ s.recordFor c 0 = some e) →
    ∃ t y, exec x s = .next t ∧ t.memory = s.memory ∧ t.prm = s.prm ∧ t.xfr = s.xfr ∧ t.csw.inject = s.csw.inject ++ [y] ∧
      bytesAt y.payload 1 1 = e.status % 256 ∧ bytesAt y.payload 2 1 = e.reason % 256 ∧ y.tag = c.tag

/-- An atomic is one read and one write (R226, R247): when it is taken the operand holds the new value and every other byte of memory is as
before, and its work waits for the controller; when the merged write is answered it is recorded as executed, and the answer carries the
old value. -/
def Obligations.AtomicsReadModifyWrite : Prop :=
  (∀ (c : Cell) (v : PlateV) (g : Region) (w : Nat) (s : State), Memory.wf s.memory = true → cellIs c 0x03 = true → s.freshRequest c 0 →
    0x10 ≤ hOp c → hOp c ≤ 0x12 → w = (if (hLow c).testBit 12 then 8 else 4) → s.execFull = false → s.requested c w true = .ok (v, g) →
    offsetOf (hAddr c) % w = 0 → s.channelAnswer v g [offsetOf (hAddr c)] = none →
    s.poisoned (v.lineAt g.num (offsetOf (hAddr c))) = false → ∃ t j, exec (.atomicReqRx c) s = .next t ∧
    (g.xts = false → ofBytes (t.readBytes v g (offsetOf (hAddr c)) w) =
      atomResult (hOp c) (hLow c) (hArg c 8 1) (ofBytes (s.readBytes v g (offsetOf (hAddr c)) w)) c % 2 ^ (8 * w)) ∧
    (∀ a, a / 64 ≠ v.lineAt g.num (offsetOf (hAddr c)) ∨ (g.xts = false ∧
        (a % 64 < offsetOf (hAddr c) % 64 ∨ offsetOf (hAddr c) % 64 + w ≤ a % 64)) →
      Memory.get t.memory a = Memory.get s.memory a) ∧
    t.xfr.jobs = [(s.xfr.execNo, j)] ∧ j.use = .atomic c none (ofBytes (s.readBytes v g (offsetOf (hAddr c)) w)) ∧ j.left = 1 ∧
    t.xfr.execs = s.xfr.execs ∧ t.csw.inject = s.csw.inject) ∧
  (∀ (p : Port) (id : Byte) (wr : Bool) (stat : BitVec 2) (data : Line) (code : BitVec 16) (poison : Bool) (q : LineReq) (n old : Nat) (c : Cell)
    (j : Job) (s : State), s.lastAnswer p id q n j → q.kind = .mergedWrite → j.use = .atomic c none old → cellIs c 0x03 = true →
    s.recordFor c 0 = none → s.xfr.inbound = [] → ∃ t e y, exec (.channelResponse p id wr stat data code poison) s = .next t ∧
    t.recordFor c 0 = some e ∧ e.status = 0 ∧ e.value = old ∧ t.xfr.jobs = [] ∧ t.memory = s.memory ∧
    t.csw.inject = s.csw.inject ++ [y] ∧ cellIs y 0x12 = true ∧ y.tag = c.tag ∧ bytesAt y.payload 1 1 = 0 ∧
    bytesAt y.payload 32 8 = old % 2 ^ 64)

/-- Requests that a target executes for the first time. A LOAD of one chunk queues the reads of its lines and changes no byte of memory; with
the last of them answered it sends the chunk's data cells and a COMPLETION (R213). A STORE's head waits for its data cells (R212); a data cell
joins the chunk whose head is here and otherwise waits for it (R211). A FILL writes its window, and is recorded and answered when the last of
its lines is (R209, R226). A COPY_FWD starts an operation of this node's own (R215). -/
def Obligations.TargetsExecuteRequests : Prop :=
  (∀ (c : Cell) (v : PlateV) (g : Region) (s : State), cellIs c 0x01 = true → s.freshRequest c (hChunk c) → 0 < hLen c → hLen c ≤ 4096 →
    s.requested c (hLen c) false = .ok (v, g) → s.channelAnswer v g (linesOf (offsetOf (hAddr c)) (hLen c)) = none →
    s.rangePoisoned v g (offsetOf (hAddr c)) (hLen c) = false →
    ∃ t j, exec (.loadReqRx c) s = .next t ∧ t.memory = s.memory ∧ t.csw.inject = s.csw.inject ∧ t.xfr.jobs = [(s.xfr.execNo, j)] ∧
      j.use = .load c 0 1 none ∧ j.left = (linesOf (offsetOf (hAddr c)) (hLen c)).length) ∧
  (∀ (p : Port) (id : Byte) (wr : Bool) (data : Line) (code : BitVec 16) (q : LineReq) (n : Nat) (c : Cell) (v : PlateV) (g : Region) (j : Job)
    (s : State), code.toNat = memoryCode data q.line →
    s.lastAnswer p id q n j → q.kind = .read → j.use = .load c 0 1 none → cellIs c 0x01 = true → 0 < hLen c → hLen c ≤ 4096 →
    s.requested c (hLen c) false = .ok (v, g) → s.sealedKey c.pkey.toNat = false → ∃ t cs y,
    exec (.channelResponse p id wr 0 data code false) s = .next t ∧ t.xfr.jobs = [] ∧
    t.csw.inject = s.csw.inject ++ cs ++ [y] ∧
    cs.map (fun z => z.payload) = dataCells (t.gotBytes v g (offsetOf (hAddr c)) (hLen c) (tabInsert j.got q.line data)) ∧
    (∀ z, z ∈ cs → cellIs z 0x10 = true ∧ z.dest.toNat = c.src.toNat ∧ z.tag = c.tag) ∧ cellIs y 0x11 = true ∧ bytesAt y.payload 1 1 = 0) ∧
  (∀ (c : Cell) (v : PlateV) (g : Region) (s : State), cellIs c 0x02 = true → s.freshRequest c (hChunk c) →
    s.inboundFor c.src.toNat c.tag.toNat (hChunk c % 64) = none → s.xfr.dropped = [] → s.xfr.landing = [] →
    s.requested c (hLen c) true = .ok (v, g) → s.execFull = false → s.channelAnswer v g (linesOf (offsetOf (hAddr c)) (hLen c)) = none →
    ∃ t i, exec (.storeDataRx c) s = .next t ∧ t.inboundFor c.src.toNat c.tag.toNat (hChunk c % 64) = some i ∧ i.head = c ∧ i.refuse = false ∧
      i.cells = [] ∧ t.memory = s.memory) ∧
  (∀ (c : Cell) (s : State), s.running = true → cellIs c 0x20 = true → ¬ (0x4000 ≤ c.src.toNat ∧ epNode c.src.toNat = s.nodeId) →
    s.inboundFor c.src.toNat c.tag.toNat (c.index.toNat / 64) = none → s.xfr.rflows = [] → s.xfr.closures = [] → s.xfr.landing = [] →
    ∃ t, exec (.bulkDataRx c) s = .next t ∧ t.xfr.landing = [c] ∧ t.memory = s.memory) ∧
  (∀ (c : Cell) (i : Inbound) (j : Job) (v : PlateV) (g : Region) (s : State), s.running = true → cellIs c 0x20 = true →
    ¬ (0x4000 ≤ c.src.toNat ∧ epNode c.src.toNat = s.nodeId) → s.inboundFor c.src.toNat c.tag.toNat (c.index.toNat / 64) = some i → i.refuse = false →
    s.xfr.rflows = [] → s.xfr.jobs = [(i.number, j)] → j.closed = false → s.requested i.head (hLen i.head) true = .ok (v, g) →
    tabFind i.cells (c.index.toNat % 64) = none → c.index.toNat % 64 < i.total → i.cells.length + 1 < i.total →
    ∃ t k, exec (.bulkDataRx c) s = .next t ∧
    t.inboundFor c.src.toNat c.tag.toNat (c.index.toNat / 64) = some k ∧ k.head = i.head ∧ tabFind k.cells (c.index.toNat % 64) = some c.payload) ∧
  (∀ (c : Cell) (v : PlateV) (g : Region) (s : State), cellIs c 0x05 = true → s.freshRequest c (hChunk c) → s.sealedKey c.pkey.toNat = false →
    0 < hLen c → s.requested c (hLen c) true = .ok (v, g) → s.execFull = false →
    s.channelAnswer v g (linesOf (offsetOf (hAddr c)) (hLen c)) = none → (∀ o, s.poisoned (v.lineAt g.num o) = false) →
    ∃ t j, exec (.fillReqRx c) s = .next t ∧
    t.memory = (s.writeBytes v g (offsetOf (hAddr c)) (fillBytes (hArg c 0 8) (offsetOf (hAddr c)) (hLen c))).memory ∧
    t.xfr.jobs = [(s.xfr.execNo, j)] ∧ j.use = .fill c none ∧ j.left = (linesOf (offsetOf (hAddr c)) (hLen c)).length ∧
    t.csw.inject = s.csw.inject) ∧
  (∀ (p : Port) (id : Byte) (wr : Bool) (stat : BitVec 2) (data : Line) (code : BitVec 16) (poison : Bool) (q : LineReq) (n : Nat) (c : Cell)
    (j : Job) (s : State), s.lastAnswer p id q n j → q.kind = .mergedWrite ∨ q.kind = .write → j.use = .fill c none → cellIs c 0x05 = true →
    s.recordFor c (hChunk c) = none → s.xfr.inbound = [] → ∃ t e y, exec (.channelResponse p id wr stat data code poison) s = .next t ∧
    t.recordFor c (hChunk c) = some e ∧ e.status = 0 ∧ e.value = hLen c ∧ t.xfr.jobs = [] ∧ t.memory = s.memory ∧
    t.csw.inject = s.csw.inject ++ [y] ∧ cellIs y 0x11 = true ∧ y.tag = c.tag ∧ bytesAt y.payload 1 1 = 0) ∧
  (∀ (c : Cell) (v : PlateV) (g : Region) (tag : Nat) (s : State), cellIs c 0x04 = true → s.freshRequest c 0 → s.xfr.ops = [] → s.xfr.kept = [] →
    badAddress (hArg c 8 8) = false → s.requested c (hArg c 2 5) false = .ok (v, g) → s.freeTag = some tag →
    ∃ o, o.kind = .store ∧ o.target = epNode (hArg c 0 2) ∧ o.src = hAddr c ∧ o.dst = hArg c 8 8 ∧ o.length = hArg c 2 5 ∧
      o.relay = some { src := c.src.toNat, tag := c.tag.toNat, orig := hOrig c, ctx := none, abort := false } ∧
      exec (.copyFwdRx c) s = .next ((s.takeEjected c).startOp tag o).runTurns)

/-- Queries, aborts and counters at the target: an OUTCOME is answered, and closes the operation where the answer says that it can do no more
(R227); an ABORT_REQ closes its operation and is answered (R228); a CUE_ADD from another node updates the counter, the SET of a cycle before its
ADDs, is recorded, and is answered with the old value (R261, R273), one that the counter's key does not match changes no counter (R260), and one
in a freeze is answered BUSY (R411). -/
def Obligations.TargetsAnswerQueriesAndCues : Prop :=
  (∀ (c : Cell) (s : State), s.running = true → cellIs c 0x06 = true → s.xfr.rflows = [] → s.xfr.jobs = [] →
    ∃ t y, exec (.outcomeReqRx c) s = .next t ∧ t.csw.inject = s.csw.inject ++ [y] ∧ cellIs y 0x13 = true ∧ y.tag = c.tag ∧
    bytesAt y.payload 3 1 = (s.outcomeAnswer c.src.toNat (hArg c 0 2) (hArg c 2 6) (hArg c 8 4) (hArg c 12 4)).1 ∧
    ((s.outcomeAnswer c.src.toNat (hArg c 0 2) (hArg c 2 6) (hArg c 8 4) (hArg c 12 4)).1 = 0 →
      t.closed c.src.toNat (hArg c 0 2) (hArg c 2 6) = true)) ∧
  (∀ (c : Cell) (s : State), s.running = true → cellIs c 0x07 = true → bit c.payload 13 = false → s.xfr.rflows = [] → s.xfr.jobs = [] →
    (s.xfr.ops.find? fun e => e.2.relayNamed e.1 c.src.toNat (hArg c 0 2) (hArg c 2 6)) = none →
    ∃ t y, exec (.abortReqRx c) s = .next t ∧ t.closed c.src.toNat (hArg c 0 2) (hArg c 2 6) = true ∧ t.csw.inject = s.csw.inject ++ [y] ∧
    cellIs y 0x13 = true ∧ t.memory = s.memory) ∧
  (∀ (c : Cell) (s u : State), cellIs c 0x28 = true → s.freshRequest c 0 → s.execFull = false →
    u = s.cycleFor (hLow c) (hAddr c % 2 == 1) false (0x10000 + c.src.toNat) →
    ∃ t y, exec (.cueAddRx c) s = .next t ∧ t.csw.inject.getLast? = some y ∧
    (s.intm.state = .save ∨ s.intm.state = .frozen → t.prm = s.prm ∧ bytesAt y.payload 1 1 = 12 ∧ bytesAt y.payload 2 1 = 52) ∧
    (s.intm.state ≠ .save → s.intm.state ≠ .frozen → u.prm.keyed.contains (hLow c / 64) = true ∨ s.ctrDenied (hLow c) c.pkey.toNat = true →
      t.prm = u.prm ∧ t.prm.counters = s.prm.counters ∧ bytesAt y.payload 1 1 = 9 ∧ bytesAt y.payload 2 1 = 35) ∧
    (s.intm.state ≠ .save → s.intm.state ≠ .frozen → u.prm.keyed.contains (hLow c / 64) = false → s.ctrDenied (hLow c) c.pkey.toNat = false →
      (t.ctr (hLow c)).toNat =
        min (((u.newsOf (hLow c)).take (hAddr c % 2 == 1) (hChunk c) (0x10000 + c.src.toNat)).sum) 0xFFFFFFFF ∧
      (∀ k, k ≠ hLow c → t.ctr k = s.ctr k) ∧ bytesAt y.payload 1 1 = 0 ∧
      bytesAt y.payload 32 8 = (if hAddr c % 2 = 1 then (u.newsOf (hLow c)).base else s.ctr (hLow c)).toNat))

/-- Answers at the requester (R213, R214, R220, R227): a LOAD's data cell joins its chunk; a COMPLETION that settles a chunk counts its
bytes, and one that says BUSY starts the backoff; an ATOMIC_RSP and an OUTCOME_RSP fix their operation's outcome; an answer to a tag
that no operation holds is counted and changes nothing else. -/
def Obligations.AnswersReachTheirOperations : Prop :=
  (∀ (c : Cell) (t : Nat) (o : Op) (k : Nat) (m : Msg) (s : State), s.running = true → cellIs c 0x10 = true → s.opByTag c.tag.toNat = some (t, o) →
    o.kind = .load → o.abortAt = none → o.chunkAt (c.index.toNat / 64) = some (k, m) → tabFind m.got (c.index.toNat % 64) = none →
    m.answer = none → tabFind o.msgs k = some m →
    ∀ u, u = (s.takeEjected c).setMsg t k { m with got := tabInsert m.got (c.index.toNat % 64) c.payload } →
    (seatMem o.dst = true ∨ s.sealedKey o.part = true → exec (.loadDataRx c) s = .next u ∧ u.memory = s.memory) ∧
    (seatMem o.dst = false → s.sealedKey o.part = false → ∀ x, u.putBytes o.part (o.dst + (4096 * k + 64 * (c.index.toNat % 64)))
      ((toBytes c.payload 64).take (m.len - 64 * (c.index.toNat % 64))) = .ok x → exec (.loadDataRx c) s = .next x)) ∧
  (∀ (c : Cell) (t : Nat) (o : Op) (m : Msg) (s : State), s.running = true → cellIs c 0x11 = true → bytesAt c.payload 0 1 = 0 →
    s.opByTag c.tag.toNat = some (t, o) → o.kind = .store → o.abortAt = none → tabFind o.msgs (bytesAt c.payload 4 4) = some m →
    s.xfr.rflows = [] → s.xfr.jobs = [] →
    (bytesAt c.payload 1 1 = 0 → exec (.completionChunkRx c) s = .next ((s.takeEjected c).doneMsg t (bytesAt c.payload 4 4) ⟨0, bytesAt c.payload 2 1⟩ m.len
      (o.msgXor (bytesAt c.payload 4 4) m)).runTurns) ∧
    (bytesAt c.payload 1 1 = 12 → m.busyTries < s.fld R.xfrCfg 12 4 → ∃ u, exec (.completionChunkRx c) s = .next u ∧
      u.op t = some (o.mapReq m fun x => { x with busyTries := m.busyTries + 1, backoff := some (s.now + s.fld R.xfrCfg 0 8 * 100) }))) ∧
  (∀ (c : Cell) (t : Nat) (o : Op) (m : Msg) (s : State), s.running = true → cellIs c 0x12 = true → s.opByTag c.tag.toNat = some (t, o) →
    o.kind = .atom → o.abortAt = none → tabFind o.msgs 0 = some m → bytesAt c.payload 1 1 = 0 → o.flow = none →
    exec (.atomicRspRx c) s = .next ((s.takeEjected c).closeOp t o
      { okComp with reason := bytesAt c.payload 2 1, bytes := atomWidth o.issue.desc, value := bytesAt c.payload 32 8 } s.now)) ∧
  (∀ (c : Cell) (t : Nat) (o : Op) (s : State), s.running = true → cellIs c 0x13 = true → s.opByTag c.tag.toNat = some (t, o) →
    o.kind = .query → o.abortAt = none → o.flow = none → bytesAt c.payload 1 1 ≠ 12 →
    exec (.outcomeRspRx c) s = .next ((s.takeEjected c).closeOp t o
      { okComp with status := bytesAt c.payload 1 1, reason := bytesAt c.payload 2 1, outcome := bytesAt c.payload 3 1
                    value := bytesAt c.payload 32 8 } s.now)) ∧
  (∀ (c : Cell) (x : Instr) (s : State), s.running = true → s.opByTag c.tag.toNat = none → s.xfr.rflows = [] → s.xfr.jobs = [] →
    (x = .loadDataRx c ∧ cellIs c 0x10 = true) ∨ (x = .completionChunkRx c ∧ cellIs c 0x11 = true ∧ bytesAt c.payload 0 1 ≠ 4) ∨
    (x = .atomicRspRx c ∧ cellIs c 0x12 = true) ∨ (x = .outcomeRspRx c ∧ cellIs c 0x13 = true) →
    exec x s = .next ((s.takeEjected c).bump (R.xfrCount 8)))

/-- The timers of transfers (R207, R219, R224, R226, R227, R229): what is due ends, and what is not stays. An operation whose outcome is written has released its tag (R207): the tag's next use has the next generation, and the tag rests for one
operation timeout where a cell of it may still come. -/
def Obligations.TransferTimersEndWhatIsDue : Prop :=
  (
    (∀ (tag : Fin 16384) (o : Op) (k : Nat) (m : Msg) (s : State), s.running = true → s.op tag = some o → o.abortAt = none → o.kind = .atom →
      o.msgs = [(k, m)] → m.backoff = none → m.pend = false → s.xfr.rflows = [] → s.xfr.jobs = [] →
      (m.lastIssue + s.opTimeout ≤ s.now → exec (.operationTimeout tag) s =
        .next ((s.setOp tag { o with dirty := true }).endOp tag ⟨4, 29⟩).runTurns) ∧
      (s.now < m.lastIssue + s.opTimeout → exec (.operationTimeout tag) s = .next s)) ∧
    (∀ (tag : Fin 16384) (d : Nat) (s : State), s.running = true → tabFind s.xfr.heldTags tag = some d → ∃ t, exec (.tagReuseHold tag) s = .next t ∧
      (d ≤ s.now → tabFind t.xfr.heldTags tag = none ∧ ∀ k, k ≠ tag.val → tabFind t.xfr.heldTags k = tabFind s.xfr.heldTags k) ∧
      (s.now < d → t = s)) ∧
    (∀ s : State, s.running = true → ∃ t, exec .executedTagRecordExpire s = .next t ∧
      (∀ e, e ∈ t.xfr.execs ↔ e ∈ s.xfr.execs ∧ s.now < e.2.since + 1000000) ∧ t.memory = s.memory) ∧
    (∀ s : State, s.running = true → ∃ t, exec .outcomeClosureExpire s = .next t ∧
      (∀ k, k ∈ t.xfr.closures ↔ k ∈ s.xfr.closures ∧ s.now < k.since + s.opTimeout) ∧ t.memory = s.memory) ∧
    (∀ (n : Fin 4096) (f : RFlow) (s : State), s.running = true → tabFind s.xfr.rflows n = some f → f.held = [] → s.ctxBusy n = false →
      ∃ t, exec (.orderingContextRelease n) s = .next t ∧ (f.last + s.opTimeout ≤ s.now → tabFind t.xfr.rflows n = none) ∧
      (s.now < f.last + s.opTimeout → t = s)) ∧
    (∀ (d : Drain) (from0 due : Nat) (relays : Bool) (s : State), s.running = true →
      (s.xfr.drains.find? fun e => decide (e.1 = d)) = some (d, from0, due) → (relays = true ↔ ∃ k, d = .partition k) →
      ∃ t, exec (.drainDeadline d) s = .next t ∧ (s.now < due → t = s) ∧
      (due ≤ s.now → t = ((s.setXfr { s.xfr with drains := s.xfr.drains.filter fun x => decide (x.1 ≠ d) }).stopWork (drainHits d from0) relays).settleAll))) ∧
  (
    ∀ (s : State) (t : Nat) (o : Op) (c : Comp) (time : Nat), (s.closeOp t o c time).op t = none ∧
      tabGet 0 (s.closeOp t o c time).xfr.gens t = (o.gen + 1) % 4 ∧
      (o.dirty = true → tabFind (s.closeOp t o c time).xfr.heldTags t = some (s.now + s.opTimeout)) ∧
      ∀ k, k ≠ t → (s.closeOp t o c time).op k = s.op k)

/-- Completion queues (R221, R229, R230, R522): the owner's HEAD moves, counting the records it passes; enabling takes LOG2_SIZE and the owner;
disabling keeps LOG2_SIZE and starts the drain; a window that does not own the queue, or gives it away, changes nothing but its own violation. -/
def Obligations.CompletionQueuesFollowTheirOwner : Prop :=
  (∀ (a : Source) (q : Fin 256) (v : Word) (s : State), s.mayWriteCq a q = true → s.foremost a (R.cqHead q) → (s.cq q).waiting = [] →
    ∃ t, exec (.cqHeadWrite a q v) s = .next t ∧ t.fld (R.cqHead q) 0 16 = bits v 0 16 ∧ t.memory = s.memory ∧
    t.cq q = { s.cq q with consumed := consumedTo (s.cq q).written (s.cq q).consumed (bits v 0 16) }) ∧
  (∀ (a : Source) (q : Fin 256) (v : Word) (s : State), s.mayWriteCq a q = true → s.srcFm a = true ∨ bits v 6 4 = s.cqOwner q →
    s.writeActs a (R.cqCfg q) → s.cqEnabled q = false → bit v 5 = true → 6 ≤ bits v 0 5 → bits v 0 5 ≤ 16 →
    s.ringFits (s.reg64 (R.cqBase q)) (bits v 0 5) = true →
    ∃ t, exec (.cqEnable a q v) s = .next t ∧ t.cqEnabled q = true ∧ t.fld (R.cqCfg q) 0 5 = bits v 0 5 ∧ t.cqOwner q = bits v 6 4) ∧
  (∀ (a : Source) (q : Fin 256) (v : Word) (s : State), s.calm → s.mayWriteCq a q = true → s.srcFm a = true ∨ bits v 6 4 = s.cqOwner q →
    s.writeActs a (R.cqCfg q) → s.cqEnabled q = true → bit v 5 = false → ∃ t, exec (.cqDisable a q v) s = .next t ∧ t.cqEnabled q = false ∧
    t.fld (R.cqCfg q) 0 5 = s.fld (R.cqCfg q) 0 5 ∧ (Drain.queue (Fin.ofNat 256 q), s.now, s.now + s.timer 2 * 1000) ∈ t.xfr.drains) ∧
  (∀ (a : Source) (q : Fin 256) (v : Word) (s : State), s.mayWriteCq a q = false ∨ (s.srcFm a = false ∧ bits v 6 4 ≠ s.cqOwner q) →
    (s.mayWriteCq a q = false → exec (.cqHeadWrite a q v) s = .next (s.violation a 4 true (R.cqHead q))) ∧
    exec (.cqEnable a q v) s = .next (s.violation a 4 true (R.cqCfg q)) ∧ exec (.cqDisable a q v) s = .next (s.violation a 4 true (R.cqCfg q)))

/-- The channel of a port (R241, R243, R245 to R253): the next request that may be issued is accepted under a free ID, with the channel line
address and, where it writes, the memory code of its line, and takes or frees its line's lock; an uncorrectable read poisons its line; an unknown
ID, a hold of CHAN_HOLD and an answer later than RSP_TIMEOUT fail the channel, with what it held; READY falls and rises. Zeroing and scrubbing (R239, R240): a region that is zeroed is READY, and where it is not encrypted at rest nothing is listed in its extents;
the oldest scrubbed extents hold nothing and are free; with a FAILED channel in the tier neither ends. -/
def Obligations.ChannelsServeRequests : Prop :=
  (
    (∀ (p : Port) (r : LineReq) (rest : List LineReq) (s : State), s.running = true ∨ s.kpr.power = .sleeping →
      s.chanState p = 1 ∨ s.readyFalls p = true → (s.chan p).accepted.length < 256 →
      (s.chan p).next [] (s.chan p).queue = some (r, rest) → ∃ t, exec (.channelRequestAccept p) s = .next t ∧
      (t.chan p).all = rest ++ (s.chan p).waiting ∧ (t.chan p).accepted =
        (s.chan p).accepted ++ [{ id := freeId (s.chan p).accepted 256 (s.chan p).nextId, req := r, since := s.now
                                  addr := (s.plt.active.map fun v => v.sentAddr r.line).getD 0
                                  code := if r.kind = .read ∨ r.kind = .lockedRead then 0 else memoryCode r.data r.line }] ∧
      (r.kind = .lockedRead → r.second = false → r.line ∈ (t.chan p).locks) ∧ (r.kind = .mergedWrite → r.line ∉ (t.chan p).locks) ∧
      ∀ k, k ≠ p.val → t.chan k = s.chan k) ∧
    (∀ (p : Port) (id : Byte) (a : Accepted) (data : Line) (s : State), s.portUsed p = true → (s.chan p).failed = false →
      ((s.chan p).accepted.find? fun x => x.id == id.toNat) = some a → s.xfr.jobs = [] → s.xfr.rflows = [] →
      ∃ t, exec (.channelResponse p id false 2 data 0 false) s = .next t ∧
      (a.req.kind = .read → t.poisoned a.req.line = true) ∧ (a.req.kind = .write → t = s.setChan p { s.chan p with
        accepted := (s.chan p).accepted.filter fun x => x.id != id.toNat })) ∧
    (∀ (p : Port) (id : Byte) (w c : Bool) (st : BitVec 2) (data : Line) (code : BitVec 16) (s : State), s.portUsed p = true → (s.chan p).failed = false →
      ((s.chan p).accepted.find? fun x => x.id == id.toNat) = none → exec (.channelResponse p id w st data code c) s = .next (s.failChan p).runTurns) ∧
    (∀ (p : Port) (s : State), (s.chan p).ready = true → ∃ t, exec (.channelReadyFall p) s = .next t ∧
      t.chan p = { s.chan p with ready := false, holdSince := s.now, fellAt := some s.clk.count } ∧ ∀ k, k ≠ p.val → t.chan k = s.chan k) ∧
    (∀ (p : Port) (s : State), ∃ t, exec (.channelReadyRise p) s = .next t ∧ t.chan p = { s.chan p with ready := true } ∧
      ∀ k, k ≠ p.val → t.chan k = s.chan k) ∧
    (∀ (p : Port) (s : State), s.memRuns = true → s.chanState p = 2 →
      ((s.chan p).holdSince + s.chanHold ≤ s.now → exec (.chanHold p) s = .next (s.failChan p).runTurns) ∧
      (s.now < (s.chan p).holdSince + s.chanHold → exec (.chanHold p) s = .next s)) ∧
    (∀ (p : Port) (s : State), s.memRuns = true → s.chanState p = 1 ∨ s.chanState p = 2 →
      (∀ a, a ∈ (s.chan p).accepted → a.since + s.rspTimeout < s.now → exec (.rspTimeout p) s = .next (s.failChan p).runTurns) ∧
      ((∀ a, a ∈ (s.chan p).accepted → s.now ≤ a.since + s.rspTimeout) → exec (.rspTimeout p) s = .next s)) ∧
    (∀ (p : Port) (s : State), s.calm → ((s.failChan p).chan p).failed = true ∧ ((s.failChan p).chan p).all = [] ∧
      ((s.failChan p).chan p).accepted = [] ∧ (s.failChan p).arrayBit R.chanFailed p = true ∧
      ∀ k, k ≠ p.val → (s.failChan p).chan k = s.chan k)) ∧
  (
    (∀ (n : BitVec 16) (v : PlateV) (g : Region) (p : Place) (s : State), s.running = true → s.mem.zeroing.contains n.toNat = true →
      s.plt.active = some v → v.region n.toNat = some g → tabFind v.places g.num = some p →
      (s.placeFailed n.toNat = true → exec (.zeroingDone n) s = .next s) ∧
      (s.placeFailed n.toNat = false → ∃ t, exec (.zeroingDone n) s = .next t ∧ t.mem.zeroing.contains n.toNat = false ∧
      (g.xts = false → ∀ e, e ∈ t.memory ↔ e ∈ s.memory ∧
        ¬ (lineKey false (p.nearBase * 32768) ≤ e.1 / 64 ∧ e.1 / 64 < lineKey false (p.nearBase * 32768) + p.nearLen * 32768) ∧
        ¬ (lineKey true (p.farBase * 32768) ≤ e.1 / 64 ∧ e.1 / 64 < lineKey true (p.farBase * 32768) + p.farLen * 32768)))) ∧
    (∀ (e : Extents) (rest : List Extents) (s : State), s.running = true → s.mem.scrub = e :: rest →
      (s.tierFailed e.far = true → exec .scrubDone s = .next s) ∧
      (s.tierFailed e.far = false → ∃ t, exec .scrubDone s = .next t ∧
      t.mem.scrub = rest ∧ ∀ x, x ∈ t.memory ↔ x ∈ s.memory ∧
        ¬ (lineKey e.far (e.base * 32768) ≤ x.1 / 64 ∧ x.1 / 64 < lineKey e.far (e.base * 32768) + e.len * 32768))))

/-! ## Cues, collectives, UPDATE (chapters 9 to 12) -/

/-- The Prompter's registers and arrivals (R258, R271, R277 to R280): a counter block that gets another key loses its counts, the other blocks
keep theirs, and one that keeps its key changes nothing; PAUSE takes what is written; the head of an arrival ring counts the entries that it
passes; a complete piece frees its tracker, advances its channel and, on this node, stands in the ring, unless that is full or a line of
the piece still waits for its controller. What CUE_ADD, CUE_ARM and a cue's counters do on this node (R258 to R261, R272, R275): of a cycle's updates of a counter the SET comes first
and the ADDs after it, saturating at all ones; an update that the key refuses changes no counter; arming an arrival channel starts its sequence
at 0, and disarming ends it with its trackers. -/
def Obligations.PrompterRowsAct : Prop :=
  (
    (∀ (a : Source) (b : Fin 1024) (v : Word) (s u : State), s.mayWrite a (R.ctrKey b) → u = s.taken a (R.ctrKey b) v →
      (bits v 0 16 = u.fld (R.ctrKey b) 0 16 → exec (.ctrKeyWrite a b v) s = .next u) ∧
      (bits v 0 16 ≠ u.fld (R.ctrKey b) 0 16 → u.prm.cues = [] → ∃ t, exec (.ctrKeyWrite a b v) s = .next t ∧
        t.fld (R.ctrKey b) 0 16 = bits v 0 16 ∧ (∀ c, c / 64 = b.val → t.ctr c = 0) ∧ (∀ c, c / 64 ≠ b.val → t.ctr c = u.ctr c) ∧
        b.val ∈ t.prm.keyed)) ∧
    (∀ (a : Source) (v : Word) (s : State), s.mayWrite a R.prmCfg → ∃ t, exec (.pause a v) s = .next t ∧ t.fld R.prmCfg 0 1 = bits v 0 1) ∧
    (∀ (a : Source) (ch : Fin 64) (x : Arr) (v : Word) (s : State), tabFind s.prm.arrs ch = some x →
      ((s.winPresent a = true ∧ x.owner = a.val) ∨ s.srcFm a = true → s.foremost a (R.arr ch + 0x10) →
        ∃ t, exec (.arrHeadWrite a ch v) s = .next t ∧ t.fld (R.arr ch + 0x10) 0 16 = bits v 0 16 ∧
        tabFind t.prm.arrs ch = some { x with consumed := consumedTo x.written x.consumed (bits v 0 16) }) ∧
      (s.srcFm a = false → x.owner ≠ a.val → exec (.arrHeadWrite a ch v) s = .next (s.violation a 4 true (R.arr ch + 0x10)))) ∧
    (∀ (k : Fin 4352) (x : Tracker) (a : Arr) (s : State), s.running = true → tabFind s.prm.trackers k = some x → tabFind s.prm.arrs x.chan = some a →
      x.ready = true → ∃ t, exec (.pieceEntry k) s = .next t ∧
      (s.trackerEp k ≠ s.nodeId → s.pieceAcked (s.trackerEp k) x = true → tabFind t.prm.arrs x.chan = some { a with seq := (a.seq + 1) % 2 ^ 32 } ∧
        (a.count = false → ∃ y, t.csw.inject = s.csw.inject ++ [y] ∧ cellIs y 0x29 = true ∧ y.dest.toNat = s.trackerEp k % 32768)) ∧
      (s.trackerEp k ≠ s.nodeId → s.pieceAcked (s.trackerEp k) x = false → t = s) ∧
      (s.trackerEp k = s.nodeId → a.unread < a.size → s.linesQueued x = false →
        tabFind t.prm.arrs x.chan = some { a with seq := (a.seq + 1) % 2 ^ 32, written := a.written + 1 }) ∧
      (s.trackerEp k = s.nodeId → a.size ≤ a.unread ∨ s.linesQueued x = true → t = s))) ∧
  (
    (∀ (s u : State) (c part n src : Nat) (set done : Bool), u = s.cycleFor c set done src → u.prm.keyed.contains (c / 64) = false →
      s.ctrDenied c part = false → ∃ t old, s.updateCtr c part set done n src = (t, some old) ∧
      (t.ctr c).toNat = min (((u.newsOf c).take set n src).sum) 0xFFFFFFFF ∧ (∀ k, k ≠ c → t.ctr k = s.ctr k) ∧
      old = (if set then (u.newsOf c).base else s.ctr c)) ∧
    (∀ (s : State) (c part n src : Nat) (set done : Bool), s.ctrDenied c part = true →
      (s.updateCtr c part set done n src).2 = none ∧ (s.updateCtr c part set done n src).1.prm.counters = s.prm.counters ∧
      (s.updateCtr c part set done n src).1.prm.cues = s.prm.cues) ∧
    (∀ (s : State) (i : Issue), ∃ u : State, s.armArrival i = u.complete i okComp ∧ (∀ k, k ≠ armChan i.desc → tabFind u.prm.arrs k = tabFind s.prm.arrs k) ∧
      u.fld (R.arr (armChan i.desc) + 0x10) 0 16 = 0 ∧ ∃ a, tabFind u.prm.arrs (armChan i.desc) = some a ∧ a.seq = 0 ∧ a.written = 0 ∧
        a.consumed = 0 ∧ a.owner = whoIdx i.who ∧ a.pkey = dPart i.desc) ∧
    (∀ (s : State) (i : Issue), ∃ u : State, s.disarm i = u.complete i okComp ∧ tabFind u.prm.arrs (armChan i.desc) = none ∧
      ∀ e, e ∈ u.prm.trackers → e.2.chan ≠ armChan i.desc))

/-- Cells of collectives (R81, R293, R296, R311, R314, R318, R340, R554): each leaves the ejected cells and is applied by its type: a grant and
a DONE to the sending side of their instance, and only counted where the node has no context of it, contributions to their context, sweep
messages, ALLTOALL counts and items and pieces likewise, a NOTICE to the context or to the transfer that its cell belonged to, and an abort to
this node's context of the instance. -/
def Obligations.CollectiveCellsAreApplied : Prop :=
  ∀ (c : Cell) (s : State), s.running = true →
    (isGrant c = true → (grantOf c).isDone = false → exec (.grantRx c) s =
      .next ((s.takeEjected c).takeGrant c.pkey.toNat (bytesAt c.payload 2 2 % 4096) (bytesAt c.payload 4 4) (grantOf c)).settleAll) ∧
    (isGrant c = true → (grantOf c).isDone = true → exec (.doneRx c) s =
      .next ((s.takeEjected c).takeDone c.pkey.toNat (bytesAt c.payload 2 2 % 4096) (bytesAt c.payload 4 4) (grantOf c)).settleAll) ∧
    (isGrant c = true → s.ctxOfInst c.pkey.toNat (bytesAt c.payload 2 2 % 4096) (bytesAt c.payload 4 4) = none →
      ∀ x, (x = .grantRx c ∧ (grantOf c).isDone = false) ∨ (x = .doneRx c ∧ (grantOf c).isDone = true) →
        exec x s = .next ((s.takeEjected c).bump (R.colCount 7)).settleAll) ∧
    (cellIs c 0x18 = true → exec (.contribRx c) s = .next (s.takeContrib c).settleAll) ∧
    (cellIs c 0x19 = true → exec (.partialCfRx c) s = .next (s.takeContrib c).settleAll) ∧
    (cellIs c 0x1B = true → exec (.a2aDataRx c) s = .next ((s.takeEjected c).takeItems c).settleAll) ∧
    (cellIs c 0x1C = true → exec (.a2aCountsRx c) s = .next ((s.takeEjected c).takeCounts c).settleAll) ∧
    (cellIs c 0x1A = true → c.mcast = true → exec (.gatherDataRx c) s = .next ((s.takeEjected c).gatherCell s.nodeId c).settleAll) ∧
    (cellIs c 0x34 = true → exec (.sweepRx c) s = .next ((s.takeEjected c).takeSweep c).settleAll) ∧
    (cellIs c 0x14 = true → 0x18 ≤ bits c.payload 128 6 → bits c.payload 128 6 ≤ 0x1C → exec (.noticeRx c) s = .next ((s.takeEjected c).colNotice c).settleAll) ∧
    (cellIs c 0x14 = true → bits c.payload 128 6 < 0x18 ∨ 0x1C < bits c.payload 128 6 → exec (.noticeRx c) s =
      .next ((s.takeEjected c).xfrNotice c ((s.ejectedEntry c).any fun e => e.neverSent)).runTurns) ∧
    (cellIs c 0x07 = true → bit c.payload 13 = true → exec (.collectiveAbortReqRx c) s = .next
      ((s.takeEjected c).abortInstance c.pkey.toNat (bytesAt c.payload 48 2 % 4096) (bytesAt c.payload 50 4) true).2.settleAll)

/-- Admission and the timers of contexts (R81, R290, R291, R294, R303, R354, R411, R464): while a context may be granted, the next OPEN in the order
of admission is admitted; a member that waited one context timeout for its context is refused with TIMEOUT and waits no more; a live context's
grants are sent again; one whose segments timed out settles what it waits for, as its collective says; a barrier ends at its release time; and
in a freeze none of this happens. -/
def Obligations.ContextTimersAct : Prop :=
  (∀ (w : Waiting) (s : State), s.running = true → s.mayGrant = true → s.nextOpen = some w →
    exec .contextAdmit s = .next (s.admitOpen w).settleAll) ∧
  (∀ s : State, s.running = true → s.mayGrant = true → ∃ t, exec .memberWaitTimeout s = .next t ∧
    ((∀ w, w ∈ s.col.waiting → s.now < w.since + s.ctxTimeout) → t = s) ∧
    (∀ w, s.col.waiting = [w] → w.since + s.ctxTimeout ≤ s.now →
      t = (s.setCol { s.col with waiting := [] }).refuseJoin w.issue ⟨2, 40⟩)) ∧
  (∀ (k : CtxIx) (c : Ctx) (s : State), s.running = true → s.ctx k = some c → c.live = true → s.mayGrant = true →
    exec (.regrant k) s = .next (s.regrantCtx k c false).settleAll) ∧
  (∀ (k : CtxIx) (c : Ctx) (s : State), s.running = true → s.ctx k = some c → c.live = true → s.mayGrant = true → ∃ t,
    exec (.contextTimeout k) s = .next t ∧ (c.code = 0x20 → t = (s.timeoutRed k c).settleAll) ∧
    (c.code = 0x24 ∨ c.code = 0x26 → t = (s.timeoutValue k c).settleAll) ∧ (c.code = 0x22 ∨ c.code = 0x25 → t = (s.timeoutGather k c).settleAll) ∧
    (c.code = 0x23 → t = (s.timeoutA2a k c).settleAll) ∧ (c.code = 0x50 → t = (s.timeoutSweep k c).settleAll)) ∧
  (∀ (k : CtxIx) (c : Ctx) (n : Nat) (x : Seg) (rest : List (Nat × Nat)) (s : State), s.running = true → s.col.defers = (k.val, n) :: rest →
    s.ctx k = some c → c.state = .active → c.liveSegs = [] → s.mayGrant = true → (s.col.ctxs.any fun e => e.2.replaying.isSome) = false →
    c.seg n = some x → ∃ u : State, exec (.replayPass k) s = .next (u.replaySenders k n).settleAll ∧ u.col.defers = rest ∧
    u.ctx k = some { c.putSeg n { x with sstate := 3 } with replaying := some n }) ∧
  (∀ (k : CtxIx) (c : Ctx) (r : Nat) (s : State), s.running = true → s.ctx k = some c → c.release = some r →
    (r ≤ s.now → s.mayGrant = true → exec (.barrierRelease k) s = .next ((s.closeBarrier k c ⟨0, 0⟩ r).advanceStep c.desc)) ∧
    (s.now < r → exec (.barrierRelease k) s = .next s)) ∧
  (∀ (k : CtxIx) (c : Ctx) (s : State), s.running = true → s.ctx k = some c → c.code = 0x50 → c.live = true →
    (∀ y, y ∈ c.sweeps → y.done = true) → ∃ t, exec (.sweepResend k) s = .next t ∧ t.ctx k = some c ∧ t.csw = s.csw) ∧
  (∀ (k : CtxIx) (s : State), s.running = true → s.mayGrant = false → ∀ x, x ∈ ([.contextAdmit, .memberWaitTimeout, .regrant k, .contextTimeout k,
    .replayPass k, .barrierRelease k] : List Instr) → exec x s = .next s)

/-- The UPDATE engine's rows and its key (R355, R366, R374, R378, R411): the UPDATE at a run place does its next unit of work; one that waited one
context timeout for its context, or for its gate's NORM, ends with TIMEOUT, but not in a freeze; a changed key of a block of cells empties that
block alone. -/
def Obligations.UpdatesRunAndTimeOut : Prop :=
  (∀ (u : Fin 64) (x : Update) (s : State), s.running = true → s.upd.queue[u.val]? = some x → ∃ t, exec (.updateSegment u) s = .next t ∧
    ((s.runPlaces.any fun y => sameUpdate y x) = true → t = (s.updateUnit x).settleAll) ∧
    ((s.runPlaces.any fun y => sameUpdate y x) = false → t = s)) ∧
  (∀ (u : Fin 64) (x : Update) (s : State), s.running = true → s.upd.queue[u.val]? = some x → x.gsrc = 0 → x.ctx = none → x.ended = false →
    ∃ t, exec (.updateContextTimeout u) s = .next t ∧
    (s.mayGrant = true → x.since + s.ctxTimeout ≤ s.now → t = s.endUpdate x ⟨2, 40⟩ 0) ∧
    (s.mayGrant = false ∨ s.now < x.since + s.ctxTimeout → t = s)) ∧
  (∀ (u : Fin 64) (x : Update) (s : State), s.running = true → s.upd.queue[u.val]? = some x → x.gateOpen = false → s.col.ctxs = [] → s.col.queue = [] →
    ∃ t, exec (.updateGateTimeout u) s = .next t ∧
    (s.mayGrant = true → x.since + s.ctxTimeout ≤ s.now → t = ((s.raiseFault 58 0xFFFF 1 0).endUpdate x ⟨2, 51⟩ 0).settleAll) ∧
    (s.mayGrant = false ∨ s.now < x.since + s.ctxTimeout → t = s)) ∧
  (∀ (a : Source) (b : Fin 1024) (v : Word) (s u : State), s.mayWrite a (R.cellKey b) → u = s.taken a (R.cellKey b) v →
    ∃ t, exec (.eruCellKeyWrite a b v) s = .next t ∧ t.fld (R.cellKey b) 0 16 = bits v 0 16 ∧
    (bits v 0 16 ≠ u.fld (R.cellKey b) 0 16 → b.val ∈ t.eru.keyed ∧ ∀ e, e ∈ t.eru.cells ↔ e ∈ u.eru.cells ∧ e.1 / 64 ≠ b.val) ∧
    (bits v 0 16 = u.fld (R.cellKey b) 0 16 → t = u))

/-! ## The intermission, COMMIT and the script (chapters 13 and 16) -/

/-- The intermission (R409, R410, R413 to R415, R493): the freeze starts the hush; a quiet machine leaves it at once, and at the limit one that is
not loses what has arrived in part and a fault is raised; a SAVE whose supply holds out writes the image; its need is checked once in 10 µs; at the
resume time the machine runs again with nothing left of the freeze. -/
def Obligations.IntermissionAdvances : Prop :=
  (∀ s : State, s.running = true → s.intm.state = .armed → s.intm.freeze ≤ s.now → ∃ t, exec .freeze s = .next t ∧
    t.intm = { s.intm with state := .hush, seqAt := s.reg R.scriptSeq, stateAt := (s.plt.active.map fun v => v.state).getD 0 } ∧ t.memory = s.memory) ∧
  (∀ s : State, s.running = true → s.intm.state = .hush → s.quiet = true → exec .hushQuiet s = .next s.leaveHush) ∧
  (∀ s : State, s.running = true → s.intm.state = .hush → s.intm.freeze + s.intm.limit ≤ s.now → s.xfr.ops = [] → s.col.ctxs = [] →
    (s.prm.trackers = [] → exec .hushLimit s = .next s.leaveHush) ∧
    (s.prm.trackers ≠ [] → exec .hushLimit s =
      .next ((s.setPrm { s.prm with trackers := [] }).raiseFault 60 0xFFFF 1 0).leaveHush)) ∧
  (∀ s : State, s.running = true → s.intm.state = .restore → s.intm.resumeAt ≤ s.now → s.col.ctxs = [] → s.intm.lost = [] → s.intm.resume = none →
    exec .resumeTime s = .next ((s.setIntm { s.intm with state := .running, resume := none, onChip := false, lost := [] }).restartTimers).settleAll) ∧
  (∀ s : State, (s.kpr.recheckAt = s.now / 10000 + 1 → exec .holdupRecheck s = .next s) ∧
    (s.kpr.recheckAt ≠ s.now / 10000 + 1 → s.commits = [] → ∀ u : State, u = { s with kpr := { s.kpr with recheckAt := s.now / 10000 + 1 } } →
      exec .holdupRecheck s = .next (if s.intm.state = .save then
        if s.holdupOk 256 then u.showNeed 256 else (u.holdupLow 256).endIntm { okComp with status := 13 } else u))) ∧
  (∀ (i : Issue) (s s1 s2 : State), s.running = true → s.intm.state = .save → s.intm.issue = some i →
    (s.imageRecords.2).putBytes 0 (dDst i.desc + 256) (s.imageRecords.2.image s.imageRecords.1).2.1 = .ok s1 → s1.holdupOk 256 = true →
    (s1.showNeed 256).putBytes 0 (dDst i.desc) (s.imageRecords.2.image s.imageRecords.1).1 = .ok s2 →
    ∃ u : State, exec .imageWritten s = .next (u.endIntm { okComp with value := (s.imageRecords.2.image s.imageRecords.1).2.2.toNat % 2 ^ 64 }) ∧
      u.intm.imageOk = true ∧ u.memory = s2.memory)

/-- COMMIT_SLOT_WRITE (R494): the oldest COMMIT whose data is accepted writes its slot where the supply holds out, ends with HOLDUP_REFUSED where it
does not, and with CHANNEL_FAILED where a channel of it has failed; once the slot's lines are accepted too it completes with its digest. The script's rows (R417, R419): an enabling write acts as a write of the configuration, and one whose ring lies nowhere is a violation; a run
of host data closes 1 µs after its last write; with 64 KiB of the buffer free the inputs that were held go on, in the order of writing. -/
def Obligations.CommitAndScriptRowsAct : Prop :=
  (
    (∀ (c : Commit) (s : State), s.running = true → (s.commits.find? fun x => !x.slot && s.commitAccepted x) = some c →
      (s.rangeFailed (dDst c.issue.desc) (dLen c.issue.desc) = false → s.rangeFailed c.slotAt 128 = false →
        (s.holdupOk 128 = true → ∃ t, exec .commitSlotWrite s = .next t ∧ { c with slot := true } ∈ t.commits ∧
          t.memory = ((s.showNeed 128).writeAt c.slotAt (s.slotBytes c.issue.desc (c.seq + 1) c.digest)).memory) ∧
        (s.holdupOk 128 = false → exec .commitSlotWrite s = .next ((s.holdupLow 128).failCommit c ⟨13, 0⟩))) ∧
      (s.rangeFailed (dDst c.issue.desc) (dLen c.issue.desc) = true ∨ s.rangeFailed c.slotAt 128 = true →
        exec .commitSlotWrite s = .next (s.failCommit c ⟨8, 32⟩))) ∧
    (∀ s : State, s.running = true → (s.commits.find? fun x => !x.slot && s.commitAccepted x) = none → exec .commitSlotWrite s = .next s) ∧
    (∀ (c : Commit) (s : State), s.commits = [c] → c.slot = true → s.linesAccepted c.slotAt 128 = true → s.rangeFailed c.slotAt 128 = false →
      s.endCommit c = (s.dropCommit c).complete c.issue { okComp with bytes := dLen c.issue.desc, value := c.digest.toNat % 2 ^ 64 } ∧
      (s.dropCommit c).commits = [])) ∧
  (
    (∀ (a : Source) (v : Word) (s u : State), s.mayWrite a R.scriptCfg → u = s.taken a R.scriptCfg v →
      (bit v 0 = true → exec (.scriptEnable a v) s = .next (u.scriptCfgSet a v)) ∧ (bit v 0 = false → exec (.scriptEnable a v) s = .next s) ∧
      (bit v 0 = true → u.scriptOn = false → u.scriptRingOk (u.reg64 R.scriptBase) (2 ^ bits v 8 6) = false →
        exec (.scriptEnable a v) s = .next (u.violation a 6 true R.scriptCfg))) ∧
    (∀ (r : HostRun) (s : State), s.script.run = some r → ∃ t, exec .hostDataClose s = .next t ∧ (r.last + 1000 ≤ s.now → t = s.closeRun) ∧
      (s.now < r.last + 1000 → t = s)) ∧
    (∀ s : State, s.script.holdInput = true →
      (s.script.fill + 65536 ≤ scriptBuffer → exec .seatInputRelease s = .next (s.script.writes.foldl (fun t x => t.regWrite x.src x.off x.value)
        (s.setScript { s.script with holdInput := false, writes := [] }))) ∧
      (scriptBuffer < s.script.fill + 65536 → exec .seatInputRelease s = .next s)))

/-! ## Security (chapter 14) -/

/-- The mailbox (R424 to R430, R509): a GO in BOOT, in fail-stop or while one runs does nothing; outside RUN it is held, and wakes the node where that is
enabled; a message of another type, or of another length, is an ERROR and nothing else; any other has its answer in the window, and after ENROL and REVOKE, where the signature holds, the fuse write starts.
The stored answer is marked DONE. -/
def Obligations.MailboxAnswers : Prop :=
  (∀ (w : Win) (x : Instr) (s : State), x ∈ ([.attestReq w, .share w, .certReq w, .recordGet w, .enrol w, .revoke w] : List Instr) →
    bit (s.winReg w R.mbxStatus) 0 = true ∨ s.kpr.power = .boot ∨ s.kpr.power = .failStop → exec x s = .next s) ∧
  (∀ (w : Win) (x : Instr) (s : State), x ∈ ([.attestReq w, .share w, .certReq w, .recordGet w, .enrol w, .revoke w] : List Instr) →
    bit (s.winReg w R.mbxStatus) 0 = false → s.running = false → s.kpr.power ≠ .boot → s.kpr.power ≠ .failStop →
    exec x s = .next ({ s with kpr := { s.kpr with heldGo := insertNat s.kpr.heldGo w } } : State).autoWake) ∧
  (∀ (w : Win) (x : Instr) (n : Nat) (s : State), (x, n) ∈ ([(.attestReq w, 1), (.share w, 2), (.certReq w, 3), (.recordGet w, 4), (.enrol w, 5), (.revoke w, 6)]
      : List (Instr × Nat)) → bit (s.winReg w R.mbxStatus) 0 = false → s.running = true →
    (le (s.mbxIn w 16) 0 2 ≠ n → exec x s = .next (s.mbxError w 2)) ∧
    (le (s.mbxIn w 16) 0 2 = n → some (le (s.mbxIn w 16) 2 2) ≠ mbxLength n → exec x s = .next (s.mbxError w 1)) ∧
    (le (s.mbxIn w 16) 0 2 = n → some (le (s.mbxIn w 16) 2 2) = mbxLength n → ∃ t, exec x s = .next t ∧
      (t.winReg w R.mbxStatus = 2 ∨ (4 < n ∧ t.winReg w R.mbxStatus = 1 ∧ ∃ f, t.sec.fuse = some f ∧ f.window = w.val ∧ f.revoke = decide (n = 6))) ∧
      t.memory = s.memory ∧ t.fuses = s.fuses))

/-- Fuses, sessions and the random generator (R425, R427, R430): a finished ENROL enrols the key that its slot did not have, and a finished REVOKE
revokes; a session past its life ends; a failed health test clears RNG_OK and is a fault. -/
def Obligations.SecurityEventsAct : Prop :=
  (∀ (f : FuseWrite) (s : State), s.sec.fuse = some f → ∃ t, exec .fuseWriteDone s = .next t ∧ t.sec.fuse = none ∧
    (f.revoke = true → (t.signer f.slot).revoked = true ∧ (t.signer f.slot).key = (s.signer f.slot).key) ∧
    (f.revoke = false → (s.signer f.slot).enrolled = false → (t.signer f.slot).enrolled = true ∧ (t.signer f.slot).key = f.key) ∧
    (∀ k, k ≠ f.slot → t.signer k = s.signer k) ∧ t.winReg f.window R.mbxStatus = 2) ∧
  (∀ (x : Fin 16) (y : Session) (s : State), s.sec.sessions[x.val]? = some y → ∃ t, exec (.sessionExpire x) s = .next t ∧
    (y.since + s.fld R.secCfg 0 10 * 1000000000 ≤ s.now → ∀ z, z ∈ t.sec.sessions ↔ z ∈ s.sec.sessions ∧ z.number ≠ y.number) ∧
    (s.now < y.since + s.fld R.secCfg 0 10 * 1000000000 → t = s)) ∧
  (∀ s : State, s.railsWhole → ∃ t, exec .rngHealthFail s = .next t ∧ t.sec.rngOk = false ∧ t.arrayBit R.faultActive 68 = true)

/-! ## The stage clock, lost nodes and remote access (chapters 15 to 17) -/

/-- The stage clock's rows (R454 to R463): an UP link with room queues one SYNC a period and its number advances; a SYNC that came is applied; a candidate not
heard for 300 µs is dropped; 1 ms in FREE without a SYNC that says LOCKED makes the node ROOT; and every one of them takes the bound anew. -/
def Obligations.StageClockFollows : Prop :=
  (∀ (n : LinkIx) (s : State), s.running = true → (s.link n).state = .up → (s.link n).queued 5 < 8 → tabGet 0 s.clk.syncAt n < s.syncPeriod n →
    ∃ t y, exec (.syncTx n) s = .next t ∧ (t.link n).txq = (s.link n).txq ++ [y] ∧ cellIs y 0x30 = true ∧ y.payload = s.syncPayload n ∧
    tabGet 0 t.clk.syncNo n = (tabGet 0 s.clk.syncNo n + 1) % 65536 ∧
    tabFind t.clk.syncAt n = some (s.syncPeriod n) ∧ t.csw = s.csw) ∧
  (∀ (n : LinkIx) (s : State), s.running = true → s.syncPeriod n ≤ tabGet 0 s.clk.syncAt n → exec (.syncTx n) s = .next s) ∧
  (∀ (n : LinkIx) (c : Cell) (s : State), s.running = true → cellIs c 0x30 = true → exec (.syncRx n c) s = .next ((s.takeEjected c).applySync n c)) ∧
  (∀ (n : LinkIx) (x : Candidate) (s : State), tabFind s.clk.cands n = some x → ∃ t, exec (.candidateExpire n) s = .next t ∧
    (x.heard + 300000 ≤ s.now → t = ({ s with clk := { s.clk with cands := tabErase s.clk.cands n } } : State).chooseParent) ∧
    (s.now < x.heard + 300000 → t = s)) ∧
  (∀ s : State, s.clk.state = .free → s.noRoot = false → ∃ t, exec .clockFreeTimeout s = .next t ∧
    (s.clk.freeSince + 1000000 ≤ s.now → t = s.becomeRoot.refreshSync) ∧ (s.now < s.clk.freeSince + 1000000 → t = s)) ∧
  (∀ s : State, exec .holdoverBound s = .next s.refreshSync)

/-- The watch over other nodes (R480, R483 to R491): a silent neighbour comes under suspicion; a suspect that answered nothing is declared lost at the end
of its probe; a newer LOST or BEACON is applied and flooded on, an old one is not; an anchor sends its beacon; a silent anchor's curtain is lowered; a DOWN
cell's own ACK acts first, then the cell takes its link down with PEER; a received fault record enters the log. -/
def Obligations.LossIsNoticed : Prop :=
  (∀ (node : Fin 1024) (since : Nat) (s : State), tabFind s.kpr.lastSync node = some since → s.running = true → s.neighbour node = true →
    ∃ t, exec (.nodeSilence node) s = .next t ∧ (since + s.nodeSilence ≤ s.now → t = s.suspect node) ∧ (s.now < since + s.nodeSilence → t = s)) ∧
  (∀ (node : Fin 1024) (x : Suspect) (s : State), s.running = true → tabFind s.kpr.suspects node = some x → s.answered node x = false →
    ∃ t, exec (.probe node) s = .next t ∧ (x.since + s.probeTime ≤ s.now → t = s.declareLost node) ∧ (s.now < x.since + s.probeTime → t = s)) ∧
  (∀ (n : LinkIx) (c : Cell) (s : State), s.running = true → faultRecKind c 2 = true → ∃ t, exec (.lostRx n c) s = .next t ∧
    (newerSeq s.kpr.lostSeq c = false → t = s.takeEjected c) ∧
    (newerSeq s.kpr.lostSeq c = true → bytesAt c.payload 0 2 % 1024 ≠ s.nodeId → ∃ u : State, t = (u.addLost (bytesAt c.payload 0 2 % 1024)).floodOn c (some n) ∧
      tabFind u.kpr.lostSeq (bytesAt c.payload 34 2) = some (BitVec.ofNat 32 (bytesAt c.payload 4 4)))) ∧
  (∀ (n : LinkIx) (c : Cell) (s : State), cellIs c 0x3D = true → ∃ t, exec (.downCellRx n c) s = .next t ∧
    ((s.link n).state = .disabled ∨ ((s.link n).state = .down ∧ (s.link n).downAt ≠ some s.clk.count) → t = s) ∧
    ((s.link n).state = .up ∨ (s.link n).state = .ident → t = if (s.localRx n c).1 then (s.localRx n c).2.downReceived n c else (s.localRx n c).2) ∧
    ((s.link n).state ∈ ([.train, .realign, .retrain] : List LinkState) → t = s.downReceived n c)) ∧
  (∀ (n : LinkIx) (c : Cell) (s : State), s.calm → (s.link n).state ≠ .down → (s.link n).state ≠ .disabled → bytesAt c.payload 0 1 ≠ 6 →
    ((s.downReceived n c).link n).state = .down ∧ ((s.downReceived n c).link n).downCause = 4) ∧
  (∀ s : State, s.running = true → s.isAnchor = true → tabFind s.kpr.lastBeacon s.nodeId = none → ∃ t, exec .beacon s = .next t ∧
    t.kpr.myBeaconSeq = s.kpr.myBeaconSeq + 1 ∧ tabFind t.kpr.lastBeacon s.nodeId = some s.now) ∧
  (∀ (n : LinkIx) (c : Cell) (s : State), s.running = true → faultRecKind c 3 = true → ∃ t, exec (.beaconRx n c) s = .next t ∧
    (newerSeq s.kpr.beaconSeq c = false → t = s.takeEjected c) ∧
    (newerSeq s.kpr.beaconSeq c = true → tabFind t.kpr.lastBeacon (bytesAt c.payload 0 2) = some s.now)) ∧
  (∀ (k : Fin 4096) (x : Slot) (v : PlateV) (a : Nat) (s : State), s.running = true → tabFind s.sec.slots k = some x → s.plt.active = some v →
    v.anchor x.pkey = some a → x.lowered = false → a ≠ s.nodeId → s.plt.armed = false ∨ s.now < s.plt.flipTime → s.anchorSilent k a = true → s.beaconWaits a = false →
    exec (.curtainLowered k) s = .next (s.lowerCurtain k x)) ∧
  (∀ (c : Cell) (s : State), s.running = true → faultRecKind c 1 = true → ∃ t, exec (.faultRecRx c) s = .next t ∧
    tabFind t.kpr.ring (s.kpr.ringNext % 512) = some { record := setBits (BitVec.ofNat 256 (bytesAt c.payload 0 32)) 24 1 1, seen := false } ∧
    t.kpr.ringNext = s.kpr.ringNext + 1)

/-- Remote access (R499): an idle request sends one cell with its operation and is pending; the answer with its number ends it, and so does the
timeout with DONE of kind TIMEOUT; a request of another node is always answered: a ping, a refusal, a read with its value, a write once it is made. -/
def Obligations.RemoteRequestsAreAnswered : Prop :=
  (∀ (w : Win) (s : State), s.winFm w = true → s.running = true → tabFind s.kpr.fmPending w = none → ∀ x op, (x, op) ∈ ([(.goRead w, 1), (.goWrite w, 2), (.goPing w, 3)] : List (Instr × Nat)) →
    ∃ t y p, exec x s = .next t ∧ t.csw.inject = s.csw.inject ++ [y] ∧ cellIs y 0x31 = true ∧ tabFind t.kpr.fmPending w = some p ∧ p.op.toNat = op ∧ p.since = s.now) ∧
  (∀ (w : Win) (x : FmPending) (s : State), tabFind s.kpr.fmPending w = some x → ∃ t, exec (.fmRequestTimeout w) s = .next t ∧
    (x.since + s.opTimeout ≤ s.now → t = s.fmDone w 3) ∧ (s.now < x.since + s.opTimeout → t = s)) ∧
  (∀ (c : Cell) (s : State), s.running = true → cellIs c 0x32 = true → ∃ t, exec (.fmRspRx c) s = .next t ∧
    (tabFind s.kpr.suspects c.src.toNat = none → t = (s.takeEjected c).fmMatch (bytesAt c.payload 12 4) c) ∧
    (∀ x, tabFind s.kpr.suspects c.src.toNat = some x → x.reqId.toNat = bytesAt c.payload 12 4 → t = (s.takeEjected c).clearSuspect c.src.toNat)) ∧
  (∀ (c : Cell) (s : State), s.running = true → fmReqIs c 3 = true → exec (.fmPingRx c) s = .next ((s.takeEjected c).fmRefuse c 0)) ∧
  (∀ (c : Cell) (s : State), s.running = true → fmReqIs c 1 = true → ∃ t, exec (.fmReadRx c) s = .next t ∧
    (∀ k, (s.takeEjected c).remoteRefused false c = some k → t = (s.takeEjected c).fmRefuse c k) ∧
    ((s.takeEjected c).remoteRefused false c = none →
      t = (((s.takeEjected c).regRead 16 (bytesAt c.payload 4 4)).2).fmRespond c 0 ((s.takeEjected c).regRead 16 (bytesAt c.payload 4 4)).1.toNat)) ∧
  (∀ (c : Cell) (s : State), s.running = true → fmReqIs c 2 = true → ∃ t, exec (.fmWriteRx c) s = .next t ∧
    (∀ k, (s.takeEjected c).remoteRefused true c = some k → t = (s.takeEjected c).fmRefuse c k) ∧
    ((s.takeEjected c).remoteRefused true c = none →
      t = ((s.takeEjected c).regWrite 16 (bytesAt c.payload 4 4) (BitVec.ofNat 32 (bytesAt c.payload 8 4))).fmRespond c 0 (bytesAt c.payload 8 4)))

/-! ## Registers (chapters 0, 1 and 18) -/

/-- R10: an RC counter saturates at its all-ones value and does not wrap. -/
def Obligations.CountersSaturate : Prop :=
  ∀ (s : State) (off n : Nat), ((s.bumpBy off n).reg off).toNat = min ((s.reg off).toNat + n) 0xFFFFFFFF ∧
    ∀ o, o ≠ off → (s.bumpBy off n).reg o = s.reg o

/-- R523: a window that is no fabric manager's reads the count of an RC register and leaves it; a remote READ returns the count and clears
it. -/
def Obligations.CounterReadsByRights : Prop :=
  (∀ (w : Win) (off : BitVec 26) (s : State), off.toNat % 4 = 0 → regAccess off.toNat = .rc → (inWindows off.toNat = true → winOf off.toNat = w.val) →
    s.srcFm w = false → ∃ t, exec (.registerRead w off) s = .next t ∧ tabGet 0 t.hostRead w = BitVec.ofNat 512 (s.regWord w off.toNat).toNat ∧
    t.reg off.toNat = s.reg off.toNat) ∧
  (∀ (off : Nat) (s : State), off % 4 = 0 → regAccess off = .rc → inWindows off = false →
    (s.regRead 16 off).1 = s.regWord 16 off ∧ (s.regRead 16 off).2.reg off = 0)

/-- Accesses of windows (R6, R497, R519, R520, R522, R525): one of a wrong size is counted and recorded, answers all ones and writes nothing; a mapped access outside the
window's right answers all ones, or writes nothing, and is recorded; a mapped read and write of a plain READY line reach memory; a plain
fabric-manager register takes what a fabric manager's window writes in range unless a higher source wrote it in the same cycle, and from any other
window only the violation is recorded. -/
def Obligations.WindowAccessesAct : Prop :=
  (∀ (w : Win) (wr : Bool) (off : BitVec 26) (s : State), ∃ t, exec (.badSizeAccess w wr off) s = .next t ∧
    (t.winReg w R.hwViol).toNat = min ((s.winReg w R.hwViol).toNat + 1) 0xFFFFFFFF ∧
    (s.loggedLower w 1 = false → bits (t.winReg w R.hwViolLog) 0 4 = 1 ∧ bit (t.winReg w R.hwViolLog) 4 = wr ∧
      bits (t.winReg w R.hwViolAddr) 0 26 = off.toNat) ∧ (wr = false → tabGet 0 t.hostRead w = allOnes 64) ∧ t.memory = s.memory ∧
    ∀ o, o ≠ R.win w + R.hwViol → o ≠ R.win w + R.hwViolLog → o ≠ R.win w + R.hwViolAddr → t.reg o = s.reg o) ∧
  (∀ (w : Win) (off : BitVec 26) (s : State), R.mapRange ≤ off.toNat → off.toNat < 0x100000 → s.mapAccess w off.toNat 64 = none → ∀ d,
    (∃ t, exec (.hostMapAccess w off .read64) s = .next t ∧ tabGet 0 t.hostRead w = allOnes 64 ∧ t.memory = s.memory) ∧
    exec (.hostMapAccess w off (.write64 d)) s = .next (s.violation w 1 true (R.win w + off.toNat))) ∧
  (∀ (w : Win) (off : BitVec 26) (v : PlateV) (g : Region) (o : Nat) (s : State), R.mapRange ≤ off.toNat → off.toNat < 0x100000 →
    s.mapAccess w off.toNat 64 = some (v, g, o) → s.running = true → s.mapFenced v g o = false → v.mode g.pkey ≠ 2 →
    (s.poisoned (v.lineAt g.num o) = false → ∃ t, exec (.hostMapAccess w off .read64) s = .next t ∧
      tabGet 0 t.hostRead w = BitVec.ofNat 512 (bytesAt (s.readLine v g o) (o % 64) 64) ∧ t.memory = s.memory) ∧
    (∀ d, g.readOnly = false → s.scriptOn = false → ∃ t, exec (.hostMapAccess w off (.write64 d)) s = .next t ∧
      t.memory = (s.writeBytes v g o (toBytes d 64)).memory)) ∧
  (∀ (w : Win) (off : Nat) (fs : Fields) (v : Word) (s : State), off ∈ [R.kprIdle, R.holdupCfg, R.powerCfg, R.thermalCfg, R.clkCfg, R.laneCfg, R.linkCfg,
      R.linkCfg2, R.cswCfg, R.xfrCfg, R.colCfg, R.updCfg, R.memCfg, R.secCfg] → plainFields off = some fs → ∃ t,
    exec (.registerWrite w (BitVec.ofNat 26 off) v) s = .next t ∧
    (s.srcFm w = true → fs.all (fits v) = true → s.foremost w off → ∀ f, f ∈ fs → t.fld off f.1 f.2.1 = bits v f.1 f.2.1) ∧
    (s.srcFm w = true → fs.all (fits v) = false ∨ ¬ s.foremost w off → t = s) ∧ (s.srcFm w = false → t = s.violation w 4 true off) ∧ t.memory = s.memory)

/-- R15: the node ID is rack × 8 + slot of the straps, and it is the endpoint ID under which the node sends. -/
def Obligations.NodeIdFromStraps : Prop :=
  ∀ s : State, s.nodeId = bits s.kpr.straps 0 7 * 8 + bits s.kpr.straps 7 3 ∧
    ∀ (typ dest pkey tag : Nat) (p : Line), (s.mkCell typ dest pkey tag p).src.toNat = s.nodeId

/-! ## Encodings, exact sums and memory -/

/-- Every cell is read back from its header and payload as it was written (Table 06-1), and the slot that carries a cell with its check computed is
no errored slot and carries that cell (R122 to R124, R126, R162). -/
def Obligations.CellsSurviveTheirEncoding : Prop :=
  (∀ c : Cell, cellOf (headerBits c) c.payload = c) ∧ (∀ c : Cell, slotCell (slotOf c) = c) ∧
  (∀ c : Cell, slotErrored (slotOf (withCheck c)) true = false)

/-- The sum of a slot is exact whatever the order of its addends (R324, R329 to R334): with a NaN or an infinity among them it holds their flags
together; of negative zeros alone it is −0; otherwise it is the integer sum; and so no reordering changes it. -/
def Obligations.SlotSumsAreExact : Prop :=
  ∀ as : List Addend, (∀ a, a ∈ as → a.proper) →
    (addendFlags as ≠ 0 → (as.foldl ASlot.take ASlot.reset).asAddend = .special (addendFlags as)) ∧
    (addendFlags as = 0 → as ≠ [] → (∀ a, a ∈ as → a = .negZero) → (as.foldl ASlot.take ASlot.reset).asAddend = .negZero) ∧
    (addendFlags as = 0 → as = [] ∨ (∃ a, a ∈ as ∧ a ≠ .negZero) → (as.foldl ASlot.take ASlot.reset).asAddend =
      (if (as.map Addend.int).sum = 0 then .zero else .finite (as.map Addend.int).sum)) ∧
    ∀ bs, as.Perm bs → (bs.foldl ASlot.take ASlot.reset).asAddend = (as.foldl ASlot.take ASlot.reset).asAddend

/-- Memory holds what was written last (R37): a byte reads as written, every other byte as before, over single bytes and over runs of bytes. -/
def Obligations.MemoryReadsWhatWasWritten : Prop :=
  (∀ (m : List Host.Cell) (a b : Nat) (v : Byte), Memory.wf m = true → Memory.wf (Memory.set m a v) = true ∧
    Memory.get (Memory.set m a v) b = if b = a then v else Memory.get m b) ∧
  (∀ (m : List Host.Cell) (a b : Nat) (vs : List Byte), Memory.wf m = true → Memory.wf (Memory.setBytes m a vs) = true ∧
    Memory.get (Memory.setBytes m a vs) b = if a ≤ b ∧ b < a + vs.length then vs.getD (b - a) 0 else Memory.get m b)
end

