-- ==== Sys2Proof/Laws/Access.lean ====
section
/-! SUPPORT. What the guards of a register write do: a write that may be made and acts is the effect on the state that notes it, and
one that may not is a violation (R419, R520, R522, R525). -/

namespace Sys2Proof.Machine

/-- The foremost write of a register is made on the state that notes its source. -/
theorem State.lastWins_eq {s : State} {a off : Nat} (f : State → State) (h : s.foremost a off) :
    s.lastWins a off f = f { s with kpr := { s.kpr with wroteAt := tabInsert s.kpr.wroteAt off (s.clk.count, a) } } := by
  unfold State.lastWins
  cases hw : tabFind s.kpr.wroteAt off with
  | none => simp
  | some e =>
    obtain ⟨c, x⟩ := e
    by_cases hc : c = s.clk.count
    · have := h c x hw hc
      simp [hc, Nat.not_lt.mpr this]
    · simp [hc]

/-- A write behind one of a higher source in the same cycle leaves nothing. -/
theorem State.lastWins_behind {s : State} {a off : Nat} (f : State → State) (h : ¬ s.foremost a off) : s.lastWins a off f = s := by
  unfold State.lastWins
  cases hw : tabFind s.kpr.wroteAt off with
  | none => exact absurd (fun c x e => by simp [hw] at e) h
  | some e =>
    obtain ⟨c, x⟩ := e
    by_cases hc : c = s.clk.count
    · have : a < x := by
        by_contra hx
        exact h fun c' x' e _ => by
          rw [hw] at e
          cases e
          omega
      simp [hc, this]
    · exact absurd (fun c' x' e e' => by rw [hw] at e; cases e; exact absurd e' hc) h

/-- A write that has room in the journal is made at once. -/
theorem State.unlessHeld_eq {s : State} {a : Nat} (off : Nat) (v : Word) (f : State → State) (h : s.script.holdInput = false ∨ 16 ≤ a) :
    s.unlessHeld a off v f = f s := by
  unfold State.unlessHeld
  rcases h with h | h
  · simp [h]
  · simp [Nat.not_lt.mpr h]

/-- A journalled write of fields that may be made and acts. -/
theorem State.fmRw_eq {s : State} {a off : Nat} (v : Word) (f : State → State) (h : s.mayWrite a off) : s.fmRw a off v f = f (s.taken a off v) := by
  unfold State.fmRw State.fmWrite
  rw [if_pos h.1]
  dsimp only
  rw [State.lastWins_eq _ h.2.2, State.unlessHeld_eq _ _ _ (by exact h.2.1)]
  rfl

/-- A journalled action that may be taken. -/
theorem State.fmReg_eq {s : State} {a : Nat} (off : Nat) (v : Word) (f : State → State) (h : s.srcFm a = true)
    (hh : s.script.holdInput = false ∨ 16 ≤ a) : s.fmReg a off v f = f (s.journalReg a off v) := by
  unfold State.fmReg State.fmWrite
  rw [if_pos h]
  dsimp only
  rw [State.unlessHeld_eq _ _ _ hh]

/-- A write of a fabric manager's register by another source is a violation of kind RIGHTS and nothing else. -/
theorem State.fmWrite_refused {s : State} {a off : Nat} (f : State → State) (h : s.srcFm a = false) :
    s.fmWrite a off f = s.violation a 4 true off := by
  unfold State.fmWrite
  rw [if_neg (by simp [h])]

end Sys2Proof.Machine
end

