-- ==== Sys2Proof/Laws/Bits.lean ====
section
/-! SUPPORT. The laws of bit fields: what a field holds after a field is replaced. -/

namespace Sys2Proof.Machine

/-- A number taken apart at a field. -/
theorem field_split (x lo len : Nat) : x = x / 2 ^ (lo + len) * 2 ^ (lo + len) + x / 2 ^ lo % 2 ^ len * 2 ^ lo + x % 2 ^ lo := by
  have h1 := Nat.div_add_mod x (2 ^ lo)
  have h2 := Nat.div_add_mod (x / 2 ^ lo) (2 ^ len)
  rw [Nat.div_div_eq_div_mul, ← pow_add] at h2
  have h3 : 2 ^ lo * (2 ^ len * (x / 2 ^ (lo + len)) + x / 2 ^ lo % 2 ^ len) + x % 2 ^ lo = x := by rw [h2]; exact h1
  rw [pow_add] at h3 ⊢
  linarith [h3]

/-- The number with a field replaced. -/
theorem toNat_setBits {n : Nat} (x : BitVec n) (lo len v : Nat) (h : lo + len ≤ n) :
    (setBits x lo len v).toNat = x.toNat / 2 ^ (lo + len) * 2 ^ (lo + len) + v % 2 ^ len * 2 ^ lo + x.toNat % 2 ^ lo := by
  have hs := field_split x.toNat lo len
  have hlt : x.toNat / 2 ^ (lo + len) < 2 ^ (n - (lo + len)) := by
    rw [Nat.div_lt_iff_lt_mul (by positivity), ← pow_add]
    simpa [Nat.sub_add_cancel h] using x.isLt
  have e : (setBits x lo len v).toNat = (x.toNat - bits x lo len * 2 ^ lo + v % 2 ^ len * 2 ^ lo) % 2 ^ n := by simp [setBits]
  have hb : x.toNat - bits x lo len * 2 ^ lo = x.toNat / 2 ^ (lo + len) * 2 ^ (lo + len) + x.toNat % 2 ^ lo := by
    unfold bits; omega
  rw [e, hb, Nat.mod_eq_of_lt]
  · ring
  · have hv : v % 2 ^ len * 2 ^ lo + x.toNat % 2 ^ lo < 2 ^ (lo + len) := by
      have a : v % 2 ^ len < 2 ^ len := Nat.mod_lt _ (by positivity)
      have b : x.toNat % 2 ^ lo < 2 ^ lo := Nat.mod_lt _ (by positivity)
      have c : (v % 2 ^ len + 1) * 2 ^ lo ≤ 2 ^ len * 2 ^ lo := Nat.mul_le_mul_right _ a
      rw [pow_add]; nlinarith
    have hd : (x.toNat / 2 ^ (lo + len) + 1) * 2 ^ (lo + len) ≤ 2 ^ (n - (lo + len)) * 2 ^ (lo + len) := Nat.mul_le_mul_right _ hlt
    rw [← pow_add, Nat.sub_add_cancel h] at hd
    nlinarith

/-- A replaced field reads as its new value. -/
theorem bits_setBits_self {n : Nat} (x : BitVec n) (lo len v : Nat) (h : lo + len ≤ n) : bits (setBits x lo len v) lo len = v % 2 ^ len := by
  unfold bits
  rw [toNat_setBits x lo len v h]
  have e : x.toNat / 2 ^ (lo + len) * 2 ^ (lo + len) + v % 2 ^ len * 2 ^ lo + x.toNat % 2 ^ lo
      = x.toNat % 2 ^ lo + 2 ^ lo * (v % 2 ^ len + 2 ^ len * (x.toNat / 2 ^ (lo + len))) := by rw [pow_add]; ring
  rw [e, Nat.add_mul_div_left _ _ (by positivity), Nat.div_eq_of_lt (Nat.mod_lt _ (by positivity)), zero_add, Nat.add_mul_mod_self_left, Nat.mod_mod]

/-- A field below a replaced one is as it was. -/
theorem bits_setBits_below {n : Nat} (x : BitVec n) (lo len v lo2 len2 : Nat) (h : lo + len ≤ n) (h2 : lo2 + len2 ≤ lo) :
    bits (setBits x lo len v) lo2 len2 = bits x lo2 len2 := by
  have key : ∀ a y : Nat, (a * 2 ^ lo + y) / 2 ^ lo2 % 2 ^ len2 = y / 2 ^ lo2 % 2 ^ len2 := by
    intro a y
    have : a * 2 ^ lo + y = y + 2 ^ lo2 * (2 ^ len2 * (2 ^ (lo - lo2 - len2) * a)) := by
      have : 2 ^ lo = 2 ^ lo2 * (2 ^ len2 * 2 ^ (lo - lo2 - len2)) := by rw [← pow_add, ← pow_add]; congr 1; omega
      rw [this]; ring
    rw [this, Nat.add_mul_div_left _ _ (by positivity), Nat.add_mul_mod_self_left]
  unfold bits
  rw [toNat_setBits x lo len v h]
  have e : x.toNat / 2 ^ (lo + len) * 2 ^ (lo + len) + v % 2 ^ len * 2 ^ lo + x.toNat % 2 ^ lo
      = (x.toNat / 2 ^ (lo + len) * 2 ^ len + v % 2 ^ len) * 2 ^ lo + x.toNat % 2 ^ lo := by rw [pow_add]; ring
  rw [e, key]
  conv_rhs => rw [← Nat.div_add_mod x.toNat (2 ^ lo), mul_comm (2 ^ lo), key]

/-- A field above a replaced one is as it was. -/
theorem bits_setBits_above {n : Nat} (x : BitVec n) (lo len v lo2 len2 : Nat) (h : lo + len ≤ n) (h2 : lo + len ≤ lo2) :
    bits (setBits x lo len v) lo2 len2 = bits x lo2 len2 := by
  have key : ∀ y : Nat, y < 2 ^ (lo + len) → (x.toNat / 2 ^ (lo + len) * 2 ^ (lo + len) + y) / 2 ^ lo2 = x.toNat / 2 ^ lo2 := by
    intro y hy
    have : 2 ^ lo2 = 2 ^ (lo + len) * 2 ^ (lo2 - (lo + len)) := by rw [← pow_add]; congr 1; omega
    rw [this, ← Nat.div_div_eq_div_mul, ← Nat.div_div_eq_div_mul, Nat.add_comm, Nat.add_mul_div_right _ _ (by positivity),
      Nat.div_eq_of_lt hy, zero_add]
  unfold bits
  rw [toNat_setBits x lo len v h, add_assoc, key]
  have a : v % 2 ^ len < 2 ^ len := Nat.mod_lt _ (by positivity)
  have b : x.toNat % 2 ^ lo < 2 ^ lo := Nat.mod_lt _ (by positivity)
  have c : (v % 2 ^ len + 1) * 2 ^ lo ≤ 2 ^ len * 2 ^ lo := Nat.mul_le_mul_right _ a
  rw [pow_add]; nlinarith

/-- A replaced bit reads as its new value. -/
theorem bit_setBits_self {n : Nat} (x : BitVec n) (k v : Nat) (h : k < n) : bit (setBits x k 1 v) k = (v % 2 == 1) := by
  simp [bit, bits_setBits_self x k 1 v h]

/-- Another bit is as it was. -/
theorem bit_setBits_ne {n : Nat} (x : BitVec n) (k j v : Nat) (h : k < n) (hj : j ≠ k) : bit (setBits x k 1 v) j = bit x j := by
  unfold bit
  rcases Nat.lt_or_gt_of_ne hj with g | g
  · rw [bits_setBits_below x k 1 v j 1 h (by omega)]
  · rw [bits_setBits_above x k 1 v j 1 h (by omega)]

end Sys2Proof.Machine
end

