-- ==== Sys2Proof/Laws/Mask.lean ====
section
/-! SUPPORT. Frames: a state with some parts blanked out, so that "everything outside these parts is unchanged" is one equation and
composes by rewriting. -/

namespace Sys2Proof.Machine

/-- A state with the parts in `m` blanked out. -/
def State.mask (m : StateField → Bool) (s : State) : State where
  pending := if m .pending then [] else s.pending
  regs := if m .regs then [] else s.regs
  sels := if m .sels then [] else s.sels
  latches := if m .latches then [] else s.latches
  fuses := if m .fuses then [] else s.fuses
  kpr := if m .kpr then Kpr.reset else s.kpr
  plt := if m .plt then Plt.reset else s.plt
  clk := if m .clk then Clk.reset else s.clk
  lanes := if m .lanes then [] else s.lanes
  links := if m .links then [] else s.links
  csw := if m .csw then Csw.reset else s.csw
  mem := if m .mem then Mem.reset else s.mem
  sec := if m .sec then Sec.reset else s.sec
  xfr := if m .xfr then Xfr.reset else s.xfr
  prm := if m .prm then Prm.reset else s.prm
  script := if m .script then Script.reset else s.script
  eru := if m .eru then Eru.reset else s.eru
  col := if m .col then Col.reset else s.col
  upd := if m .upd then Upd.reset else s.upd
  intm := if m .intm then Intm.reset else s.intm
  commits := if m .commits then [] else s.commits
  verifies := if m .verifies then [] else s.verifies
  hostRead := if m .hostRead then [] else s.hostRead
  memory := if m .memory then [] else s.memory
  free := if m .free then 0 else s.free

/-- States equal outside the masked parts agree in every part that is not masked. -/
theorem State.agree_of_mask {m : StateField → Bool} {s t : State} (h : t.mask m = s.mask m) (p : StateField) (hp : m p = false) : State.agree p s t := by
  cases p
  case pending => simpa [State.mask, State.agree, hp] using congrArg State.pending h
  case regs => simpa [State.mask, State.agree, hp] using congrArg State.regs h
  case sels => simpa [State.mask, State.agree, hp] using congrArg State.sels h
  case latches => simpa [State.mask, State.agree, hp] using congrArg State.latches h
  case fuses => simpa [State.mask, State.agree, hp] using congrArg State.fuses h
  case kpr => simpa [State.mask, State.agree, hp] using congrArg State.kpr h
  case plt => simpa [State.mask, State.agree, hp] using congrArg State.plt h
  case clk => simpa [State.mask, State.agree, hp] using congrArg State.clk h
  case lanes => simpa [State.mask, State.agree, hp] using congrArg State.lanes h
  case links => simpa [State.mask, State.agree, hp] using congrArg State.links h
  case csw => simpa [State.mask, State.agree, hp] using congrArg State.csw h
  case mem => simpa [State.mask, State.agree, hp] using congrArg State.mem h
  case sec => simpa [State.mask, State.agree, hp] using congrArg State.sec h
  case xfr => simpa [State.mask, State.agree, hp] using congrArg State.xfr h
  case prm => simpa [State.mask, State.agree, hp] using congrArg State.prm h
  case script => simpa [State.mask, State.agree, hp] using congrArg State.script h
  case eru => simpa [State.mask, State.agree, hp] using congrArg State.eru h
  case col => simpa [State.mask, State.agree, hp] using congrArg State.col h
  case upd => simpa [State.mask, State.agree, hp] using congrArg State.upd h
  case intm => simpa [State.mask, State.agree, hp] using congrArg State.intm h
  case commits => simpa [State.mask, State.agree, hp] using congrArg State.commits h
  case verifies => simpa [State.mask, State.agree, hp] using congrArg State.verifies h
  case hostRead => simpa [State.mask, State.agree, hp] using congrArg State.hostRead h
  case memory => simpa [State.mask, State.agree, hp] using congrArg State.memory h
  case free => simpa [State.mask, State.agree, hp] using congrArg State.free h

/-- A record update changes only the parts it names. -/
theorem State.mask_mk (m : StateField → Bool) (t : State) {a1} {a2} {a3} {a4} {a5} {a6} {a7} {a8} {a9} {a10} {a11} {a12} {a13} {a14} {a15} {a16} {a17} {a18} {a19} {a20} {a21} {a22} {a23} {a24}
    (h1 : m .regs = true ∨ a1 = t.regs)
    (h2 : m .sels = true ∨ a2 = t.sels)
    (h3 : m .latches = true ∨ a3 = t.latches)
    (h4 : m .fuses = true ∨ a4 = t.fuses)
    (h5 : m .kpr = true ∨ a5 = t.kpr)
    (h6 : m .plt = true ∨ a6 = t.plt)
    (h7 : m .clk = true ∨ a7 = t.clk)
    (h8 : m .lanes = true ∨ a8 = t.lanes)
    (h9 : m .links = true ∨ a9 = t.links)
    (h10 : m .csw = true ∨ a10 = t.csw)
    (h11 : m .mem = true ∨ a11 = t.mem)
    (h12 : m .sec = true ∨ a12 = t.sec)
    (h13 : m .xfr = true ∨ a13 = t.xfr)
    (h14 : m .prm = true ∨ a14 = t.prm)
    (h15 : m .script = true ∨ a15 = t.script)
    (h16 : m .eru = true ∨ a16 = t.eru)
    (h17 : m .col = true ∨ a17 = t.col)
    (h18 : m .upd = true ∨ a18 = t.upd)
    (h19 : m .intm = true ∨ a19 = t.intm)
    (h20 : m .commits = true ∨ a20 = t.commits)
    (h21 : m .verifies = true ∨ a21 = t.verifies)
    (h22 : m .hostRead = true ∨ a22 = t.hostRead)
    (h23 : m .memory = true ∨ a23 = t.memory)
    (h24 : m .free = true ∨ a24 = t.free) :
    State.mask m (State.mk t.pending a1 a2 a3 a4 a5 a6 a7 a8 a9 a10 a11 a12 a13 a14 a15 a16 a17 a18 a19 a20 a21 a22 a23 a24) = State.mask m t := by
  simp only [State.mask, State.mk.injEq, true_and]
  refine ⟨?_, ?_, ?_, ?_, ?_, ?_, ?_, ?_, ?_, ?_, ?_, ?_, ?_, ?_, ?_, ?_, ?_, ?_, ?_, ?_, ?_, ?_, ?_, ?_⟩
  · rcases h1 with h | h <;> simp [h]
  · rcases h2 with h | h <;> simp [h]
  · rcases h3 with h | h <;> simp [h]
  · rcases h4 with h | h <;> simp [h]
  · rcases h5 with h | h <;> simp [h]
  · rcases h6 with h | h <;> simp [h]
  · rcases h7 with h | h <;> simp [h]
  · rcases h8 with h | h <;> simp [h]
  · rcases h9 with h | h <;> simp [h]
  · rcases h10 with h | h <;> simp [h]
  · rcases h11 with h | h <;> simp [h]
  · rcases h12 with h | h <;> simp [h]
  · rcases h13 with h | h <;> simp [h]
  · rcases h14 with h | h <;> simp [h]
  · rcases h15 with h | h <;> simp [h]
  · rcases h16 with h | h <;> simp [h]
  · rcases h17 with h | h <;> simp [h]
  · rcases h18 with h | h <;> simp [h]
  · rcases h19 with h | h <;> simp [h]
  · rcases h20 with h | h <;> simp [h]
  · rcases h21 with h | h <;> simp [h]
  · rcases h22 with h | h <;> simp [h]
  · rcases h23 with h | h <;> simp [h]
  · rcases h24 with h | h <;> simp [h]

@[simp] theorem State.mask_ite (m : StateField → Bool) (c : Prop) [Decidable c] (a b : State) :
    State.mask m (if c then a else b) = if c then State.mask m a else State.mask m b := by split <;> rfl

/-- An outcome that, where it is a next state, keeps everything outside the masked parts. -/
def State.Keeps (m : StateField → Bool) (s : State) : Host.Outcome State Fault Refusal → Prop
  | .next t => t.mask m = s.mask m
  | _ => True

@[simp] theorem State.keeps_next (m : StateField → Bool) (s t : State) : State.Keeps m s (.next t) ↔ t.mask m = s.mask m := Iff.rfl
@[simp] theorem State.keeps_fault (m : StateField → Bool) (s : State) (f : Fault) : State.Keeps m s (.fault f) := trivial
@[simp] theorem State.keeps_refused (m : StateField → Bool) (s : State) (r : Refusal) : State.Keeps m s (.refused r) := trivial
@[simp] theorem State.keeps_ite (m : StateField → Bool) (s : State) (c : Prop) [Decidable c] (a b : Host.Outcome State Fault Refusal) :
    State.Keeps m s (if c then a else b) ↔ if c then State.Keeps m s a else State.Keeps m s b := by split <;> rfl

/-- A fold whose every turn keeps the rest keeps it. -/
theorem State.mask_foldl {α : Type} (m : StateField → Bool) (f : State → α → State) (h : ∀ t x, (f t x).mask m = t.mask m)
    (l : List α) (s : State) : (l.foldl f s).mask m = s.mask m := by
  induction l generalizing s with
  | nil => rfl
  | cons x l ih => simp [ih, h]

/-- A fold that carries the state with something else. -/
theorem State.mask_foldl_fst {α β : Type} (m : StateField → Bool) (f : State × β → α → State × β)
    (h : ∀ p x, (f p x).1.mask m = p.1.mask m) (l : List α) (p : State × β) : (l.foldl f p).1.mask m = p.1.mask m := by
  induction l generalizing p with
  | nil => rfl
  | cons x l ih => simp [ih, h]

/-- A fold that carries something else with the state. -/
theorem State.mask_foldl_snd {α β : Type} (m : StateField → Bool) (f : β × State → α → β × State)
    (h : ∀ p x, (f p x).2.mask m = p.2.mask m) (l : List α) (p : β × State) : (l.foldl f p).2.mask m = p.2.mask m := by
  induction l generalizing p with
  | nil => rfl
  | cons x l ih => simp [ih, h]

end Sys2Proof.Machine
end

