-- ==== Sys2Proof/Laws/Frame/Ops.lean ====
section
/-! SUPPORT. What each function of Machine/Ops.lean leaves alone. -/

namespace Sys2Proof.Machine

@[simp] theorem State.setReg_mask (m : StateField → Bool) (s : State) (off : Nat) (v : Word) (h_regs : m .regs = true) :
    State.mask m (State.setReg s off v) = State.mask m s := by
  unfold State.setReg
  rw [State.mask_mk] <;> simp [*]

@[simp] theorem State.setFld_mask (m : StateField → Bool) (s : State) (off : Nat) (lo : Nat) (len : Nat) (v : Nat) (h_regs : m .regs = true) :
    State.mask m (State.setFld s off lo len v) = State.mask m s := by
  unfold State.setFld
  simp [*]

@[simp] theorem State.bumpBy_mask (m : StateField → Bool) (s : State) (off : Nat) (n : Nat) (h_regs : m .regs = true) :
    State.mask m (State.bumpBy s off n) = State.mask m s := by
  unfold State.bumpBy
  simp [*]

@[simp] theorem State.bump_mask (m : StateField → Bool) (s : State) (off : Nat) (h_regs : m .regs = true) :
    State.mask m (State.bump s off) = State.mask m s := by
  unfold State.bump
  simp [*]

@[simp] theorem State.setArrayBit_mask (m : StateField → Bool) (s : State) (base : Nat) (k : Nat) (b : Bool) (h_regs : m .regs = true) :
    State.mask m (State.setArrayBit s base k b) = State.mask m s := by
  unfold State.setArrayBit
  simp [*]

@[simp] theorem State.setReg64_mask (m : StateField → Bool) (s : State) (off : Nat) (v : Nat) (h_regs : m .regs = true) :
    State.mask m (State.setReg64 s off v) = State.mask m s := by
  unfold State.setReg64
  simp [*]

@[simp] theorem State.setWinReg_mask (m : StateField → Bool) (s : State) (w : Nat) (off : Nat) (v : Word) (h_regs : m .regs = true) :
    State.mask m (State.setWinReg s w off v) = State.mask m s := by
  unfold State.setWinReg
  simp [*]

@[simp] theorem State.setSel_mask (m : StateField → Bool) (s : State) (a : Nat) (off : Nat) (v : Word) (h_sels : m .sels = true) :
    State.mask m (State.setSel s a off v) = State.mask m s := by
  unfold State.setSel
  rw [State.mask_mk] <;> simp [*]

@[simp] theorem State.tookFree_mask (m : StateField → Bool) (s : State) (h_free : m .free = true) :
    State.mask m (State.tookFree s) = State.mask m s := by
  unfold State.tookFree
  rw [State.mask_mk] <;> simp [*]

@[simp] theorem State.violation_mask (m : StateField → Bool) (s : State) (a : Nat) (kind : Nat) (wr : Bool) (off : Nat) (h_regs : m .regs = true) (h_kpr : m .kpr = true) :
    State.mask m (State.violation s a kind wr off) = State.mask m s := by
  unfold State.violation
  repeat' first | (simp [*]; done) | (rw [State.mask_mk] <;> simp [*]; done) | refine (State.mask_foldl m _ (fun t x => ?_) _ _).trans ?_ | refine (State.mask_foldl_fst m _ (fun p x => ?_) _ _).trans ?_ | refine (State.mask_foldl_snd m _ (fun p x => ?_) _ _).trans ?_ | split | simp [*]

@[simp] theorem State.lastWins_mask (m : StateField → Bool) (s : State) (a : Nat) (off : Nat) (f : State → State) (hf : ∀ t, (f t).mask m = t.mask m) (h_kpr : m .kpr = true) :
    State.mask m (State.lastWins s a off f) = State.mask m s := by
  unfold State.lastWins
  repeat' first | (simp [*]; done) | (rw [State.mask_mk] <;> simp [*]; done) | refine (State.mask_foldl m _ (fun t x => ?_) _ _).trans ?_ | refine (State.mask_foldl_fst m _ (fun p x => ?_) _ _).trans ?_ | refine (State.mask_foldl_snd m _ (fun p x => ?_) _ _).trans ?_ | split | simp [*]

@[simp] theorem State.fmWrite_mask (m : StateField → Bool) (s : State) (a : Nat) (off : Nat) (f : State → State) (hf : ∀ t, (f t).mask m = t.mask m) (h_regs : m .regs = true) (h_kpr : m .kpr = true) :
    State.mask m (State.fmWrite s a off f) = State.mask m s := by
  unfold State.fmWrite
  simp [*]

@[simp] theorem State.injectCell_mask (m : StateField → Bool) (s : State) (c : Cell) (h_csw : m .csw = true) :
    State.mask m (State.injectCell s c) = State.mask m s := by
  unfold State.injectCell
  rw [State.mask_mk] <;> simp [*]

@[simp] theorem State.eject_mask (m : StateField → Bool) (s : State) (input : Nat) (c : Cell) (neverSent : Bool) (h_csw : m .csw = true) :
    State.mask m (State.eject s input c neverSent) = State.mask m s := by
  unfold State.eject
  rw [State.mask_mk] <;> simp [*]

@[simp] theorem State.takeEjected_mask (m : StateField → Bool) (s : State) (c : Cell) (h_csw : m .csw = true) :
    State.mask m (State.takeEjected s c) = State.mask m s := by
  unfold State.takeEjected
  repeat' first | (simp [*]; done) | (rw [State.mask_mk] <;> simp [*]; done) | refine (State.mask_foldl m _ (fun t x => ?_) _ _).trans ?_ | refine (State.mask_foldl_fst m _ (fun p x => ?_) _ _).trans ?_ | refine (State.mask_foldl_snd m _ (fun p x => ?_) _ _).trans ?_ | split | simp [*]

@[simp] theorem State.setLane_mask (m : StateField → Bool) (s : State) (l : Nat) (x : Lane) (h_lanes : m .lanes = true) :
    State.mask m (State.setLane s l x) = State.mask m s := by
  unfold State.setLane
  rw [State.mask_mk] <;> simp [*]

@[simp] theorem State.setLink_mask (m : StateField → Bool) (s : State) (n : Nat) (x : Link) (h_links : m .links = true) :
    State.mask m (State.setLink s n x) = State.mask m s := by
  unfold State.setLink
  rw [State.mask_mk] <;> simp [*]

@[simp] theorem State.modLink_mask (m : StateField → Bool) (s : State) (n : Nat) (f : Link → Link) (h_links : m .links = true) :
    State.mask m (State.modLink s n f) = State.mask m s := by
  unfold State.modLink
  simp [*]

@[simp] theorem State.modLane_mask (m : StateField → Bool) (s : State) (l : Nat) (f : Lane → Lane) (h_lanes : m .lanes = true) :
    State.mask m (State.modLane s l f) = State.mask m s := by
  unfold State.modLane
  simp [*]

@[simp] theorem State.event_mask (m : StateField → Bool) (s : State) (w : Nat) (k : Nat) (h_regs : m .regs = true) (h_kpr : m .kpr = true) :
    State.mask m (State.event s w k) = State.mask m s := by
  unfold State.event
  repeat' first | (simp [*]; done) | (rw [State.mask_mk] <;> simp [*]; done) | refine (State.mask_foldl m _ (fun t x => ?_) _ _).trans ?_ | refine (State.mask_foldl_fst m _ (fun p x => ?_) _ _).trans ?_ | refine (State.mask_foldl_snd m _ (fun p x => ?_) _ _).trans ?_ | split | simp [*]

@[simp] theorem State.events_mask (m : StateField → Bool) (s : State) (ws : List Nat) (k : Nat) (h_regs : m .regs = true) (h_kpr : m .kpr = true) :
    State.mask m (State.events s ws k) = State.mask m s := by
  unfold State.events
  exact State.mask_foldl m _ (fun t x => by simp [*]) _ _

@[simp] theorem State.logRecord_mask (m : StateField → Bool) (s : State) (r : BitVec 256) (h_regs : m .regs = true) (h_kpr : m .kpr = true) :
    State.mask m (State.logRecord s r) = State.mask m s := by
  unfold State.logRecord
  repeat' first | (simp [*]; done) | (rw [State.mask_mk] <;> simp [*]; done) | refine (State.mask_foldl m _ (fun t x => ?_) _ _).trans ?_ | refine (State.mask_foldl_fst m _ (fun p x => ?_) _ _).trans ?_ | refine (State.mask_foldl_snd m _ (fun p x => ?_) _ _).trans ?_ | split | simp [*]

@[simp] theorem State.endScan_mask (m : StateField → Bool) (s : State) (l : Nat) (status : Nat) (h_regs : m .regs = true) (h_free : m .free = true) :
    State.mask m (State.endScan s l status) = State.mask m s := by
  unfold State.endScan
  repeat' first | (simp [*]; done) | (rw [State.mask_mk] <;> simp [*]; done) | refine (State.mask_foldl m _ (fun t x => ?_) _ _).trans ?_ | refine (State.mask_foldl_fst m _ (fun p x => ?_) _ _).trans ?_ | refine (State.mask_foldl_snd m _ (fun p x => ?_) _ _).trans ?_ | split | simp [*]

@[simp] theorem State.laneTo_mask (m : StateField → Bool) (s : State) (l : Nat) (st : LaneState) (h_regs : m .regs = true) (h_lanes : m .lanes = true) (h_free : m .free = true) :
    State.mask m (State.laneTo s l st) = State.mask m s := by
  unfold State.laneTo
  simp [*]

@[simp] theorem State.laneOff_mask (m : StateField → Bool) (s : State) (l : Nat) (h_regs : m .regs = true) (h_lanes : m .lanes = true) (h_free : m .free = true) :
    State.mask m (State.laneOff s l) = State.mask m s := by
  unfold State.laneOff
  repeat' first | (simp [*]; done) | (rw [State.mask_mk] <;> simp [*]; done) | refine (State.mask_foldl m _ (fun t x => ?_) _ _).trans ?_ | refine (State.mask_foldl_fst m _ (fun p x => ?_) _ _).trans ?_ | refine (State.mask_foldl_snd m _ (fun p x => ?_) _ _).trans ?_ | split | simp [*]

@[simp] theorem State.allLinksDown_mask (m : StateField → Bool) (s : State) (cause : Nat) (before : List Cell) (h_regs : m .regs = true) (h_lanes : m .lanes = true) (h_links : m .links = true) (h_free : m .free = true) :
    State.mask m (State.allLinksDown s cause before) = State.mask m s := by
  unfold State.allLinksDown
  repeat' first | (simp [*]; done) | (rw [State.mask_mk] <;> simp [*]; done) | refine (State.mask_foldl m _ (fun t x => ?_) _ _).trans ?_ | refine (State.mask_foldl_fst m _ (fun p x => ?_) _ _).trans ?_ | refine (State.mask_foldl_snd m _ (fun p x => ?_) _ _).trans ?_ | extract_lets | dsimp only | split | simp [*]

@[simp] theorem State.failStop_mask (m : StateField → Bool) (s : State) (r : BitVec 256) (h_regs : m .regs = true) (h_kpr : m .kpr = true) (h_lanes : m .lanes = true) (h_links : m .links = true) (h_sec : m .sec = true) (h_free : m .free = true) :
    State.mask m (State.failStop s r) = State.mask m s := by
  unfold State.failStop
  rw [State.mask_mk] <;> simp [*]

@[simp] theorem State.recordFault_mask (m : StateField → Bool) (s : State) (code : Nat) (unit : Nat) (count : Nat) (detail : Nat) (h_regs : m .regs = true) (h_kpr : m .kpr = true) (h_lanes : m .lanes = true) (h_links : m .links = true) (h_csw : m .csw = true) (h_sec : m .sec = true) (h_free : m .free = true) :
    State.mask m (State.recordFault s code unit count detail) = State.mask m s := by
  unfold State.recordFault
  repeat' first | (simp [*]; done) | (rw [State.mask_mk] <;> simp [*]; done) | refine (State.mask_foldl m _ (fun t x => ?_) _ _).trans ?_ | refine (State.mask_foldl_fst m _ (fun p x => ?_) _ _).trans ?_ | refine (State.mask_foldl_snd m _ (fun p x => ?_) _ _).trans ?_ | split | simp [*]

@[simp] theorem State.raiseFault_mask (m : StateField → Bool) (s : State) (code : Nat) (unit : Nat) (count : Nat) (detail : Nat) (h_regs : m .regs = true) (h_kpr : m .kpr = true) (h_lanes : m .lanes = true) (h_links : m .links = true) (h_csw : m .csw = true) (h_sec : m .sec = true) (h_free : m .free = true) :
    State.mask m (State.raiseFault s code unit count detail) = State.mask m s := by
  unfold State.raiseFault
  repeat' first | (simp [*]; done) | (rw [State.mask_mk] <;> simp [*]; done) | refine (State.mask_foldl m _ (fun t x => ?_) _ _).trans ?_ | refine (State.mask_foldl_fst m _ (fun p x => ?_) _ _).trans ?_ | refine (State.mask_foldl_snd m _ (fun p x => ?_) _ _).trans ?_ | split | simp [*]

@[simp] theorem State.raiseKeyed_mask (m : StateField → Bool) (s : State) (key : Nat) (code : Nat) (unit : Nat) (detail : Nat) (h_regs : m .regs = true) (h_kpr : m .kpr = true) (h_lanes : m .lanes = true) (h_links : m .links = true) (h_csw : m .csw = true) (h_sec : m .sec = true) (h_free : m .free = true) :
    State.mask m (State.raiseKeyed s key code unit detail) = State.mask m s := by
  unfold State.raiseKeyed
  repeat' first | (simp [*]; done) | (rw [State.mask_mk] <;> simp [*]; done) | refine (State.mask_foldl m _ (fun t x => ?_) _ _).trans ?_ | refine (State.mask_foldl_fst m _ (fun p x => ?_) _ _).trans ?_ | refine (State.mask_foldl_snd m _ (fun p x => ?_) _ _).trans ?_ | split | simp [*]

@[simp] theorem State.flushRaised_mask (m : StateField → Bool) (s : State) (h_regs : m .regs = true) (h_kpr : m .kpr = true) (h_lanes : m .lanes = true) (h_links : m .links = true) (h_csw : m .csw = true) (h_sec : m .sec = true) (h_free : m .free = true) :
    State.mask m (State.flushRaised s) = State.mask m s := by
  unfold State.flushRaised
  repeat' first | (simp [*]; done) | (rw [State.mask_mk] <;> simp [*]; done) | refine (State.mask_foldl m _ (fun t x => ?_) _ _).trans ?_ | refine (State.mask_foldl_fst m _ (fun p x => ?_) _ _).trans ?_ | refine (State.mask_foldl_snd m _ (fun p x => ?_) _ _).trans ?_ | split | simp [*]

@[simp] theorem State.raiseLimited_mask (m : StateField → Bool) (s : State) (code : Nat) (unit : Nat) (detail : Nat) (h_regs : m .regs = true) (h_kpr : m .kpr = true) (h_lanes : m .lanes = true) (h_links : m .links = true) (h_csw : m .csw = true) (h_sec : m .sec = true) (h_free : m .free = true) :
    State.mask m (State.raiseLimited s code unit detail) = State.mask m s := by
  unfold State.raiseLimited
  simp [*]

end Sys2Proof.Machine
end

