-- ==== Sys2Proof/Laws/Frame/Sections.lean ====
section
/-! SUPPORT. What each function of Machine/Sections.lean leaves alone. -/

namespace Sys2Proof.Machine

@[simp] theorem State.setChan_mask (m : StateField → Bool) (s : State) (p : Nat) (c : Chan) (h_mem : m .mem = true) :
    State.mask m (State.setChan s p c) = State.mask m s := by
  unfold State.setChan
  rw [State.mask_mk] <;> simp [*]

@[simp] theorem State.holdPorts_mask (m : StateField → Bool) (s : State) (v : PlateV) (h_mem : m .mem = true) :
    State.mask m (State.holdPorts s v) = State.mask m s := by
  unfold State.holdPorts
  exact State.mask_foldl m _ (fun t x => by simp [*]) _ _

@[simp] theorem State.startWake_mask (m : StateField → Bool) (s : State) (h_kpr : m .kpr = true) (h_mem : m .mem = true) :
    State.mask m (State.startWake s) = State.mask m s := by
  unfold State.startWake
  repeat' first | (simp [*]; done) | (rw [State.mask_mk] <;> simp [*]; done) | refine (State.mask_foldl m _ (fun t x => ?_) _ _).trans ?_ | refine (State.mask_foldl_fst m _ (fun p x => ?_) _ _).trans ?_ | refine (State.mask_foldl_snd m _ (fun p x => ?_) _ _).trans ?_ | split | simp [*]

@[simp] theorem State.autoWake_mask (m : StateField → Bool) (s : State) (h_kpr : m .kpr = true) (h_mem : m .mem = true) :
    State.mask m (State.autoWake s) = State.mask m s := by
  unfold State.autoWake
  simp [*]

end Sys2Proof.Machine
end

