-- ==== Sys2Proof/Laws/Frame/Keys.lean ====
section
/-! SUPPORT. What each function of Machine/Keys.lean leaves alone. -/

namespace Sys2Proof.Machine

@[simp] theorem State.setSec_mask (m : StateField → Bool) (s : State) (x : Sec) (h_sec : m .sec = true) :
    State.mask m (State.setSec s x) = State.mask m s := by
  unfold State.setSec
  rw [State.mask_mk] <;> simp [*]

@[simp] theorem State.setSlot_mask (m : StateField → Bool) (s : State) (i : Nat) (x : Slot) (h_sec : m .sec = true) :
    State.mask m (State.setSlot s i x) = State.mask m s := by
  unfold State.setSlot
  simp [*]

@[simp] theorem State.drew_mask (m : StateField → Bool) (s : State) (h_sec : m .sec = true) :
    State.mask m (State.drew s) = State.mask m s := by
  unfold State.drew
  simp [*]

@[simp] theorem State.endKeyWait_mask (m : StateField → Bool) (s : State) (k : Nat) (h_mem : m .mem = true) :
    State.mask m (State.endKeyWait s k) = State.mask m s := by
  unfold State.endKeyWait
  repeat' first | (simp [*]; done) | (rw [State.mask_mk] <;> simp [*]; done) | refine (State.mask_foldl m _ (fun t x => ?_) _ _).trans ?_ | refine (State.mask_foldl_fst m _ (fun p x => ?_) _ _).trans ?_ | refine (State.mask_foldl_snd m _ (fun p x => ?_) _ _).trans ?_ | split | simp [*]

@[simp] theorem State.openSlot_mask (m : StateField → Bool) (s : State) (i : Nat) (x : Slot) (h_mem : m .mem = true) (h_sec : m .sec = true) :
    State.mask m (State.openSlot s i x) = State.mask m s := by
  unfold State.openSlot
  simp [*]

@[simp] theorem State.slotFollows_mask (m : StateField → Bool) (s : State) (old : Option PlateV) (v : PlateV) (k : Nat) (h_mem : m .mem = true) (h_sec : m .sec = true) :
    State.mask m (State.slotFollows s old v k) = State.mask m s := by
  unfold State.slotFollows
  dsimp only
  split <;> simp [*]

@[simp] theorem State.slotsFollow_mask (m : StateField → Bool) (s : State) (old : Option PlateV) (v : PlateV) (h_mem : m .mem = true) (h_sec : m .sec = true) :
    State.mask m (State.slotsFollow s old v) = State.mask m s := by
  unfold State.slotsFollow
  exact State.mask_foldl m _ (fun t x => by simp [*]) _ _

@[simp] theorem State.slotsRelease_mask (m : StateField → Bool) (s : State) (v : PlateV) (h_sec : m .sec = true) :
    State.mask m (State.slotsRelease s v) = State.mask m s := by
  unfold State.slotsRelease
  simp [*]

@[simp] theorem State.eraseKeys_mask (m : StateField → Bool) (s : State) (h_sec : m .sec = true) :
    State.mask m (State.eraseKeys s) = State.mask m s := by
  unfold State.eraseKeys
  simp [*]

@[simp] theorem State.takeIv_mask (m : StateField → Bool) (s : State) (pkey : Nat) (keyId : Nat) (chunks : Nat) (h_regs : m .regs = true) (h_kpr : m .kpr = true) (h_lanes : m .lanes = true) (h_links : m .links = true) (h_csw : m .csw = true) (h_sec : m .sec = true) (h_free : m .free = true) :
    State.mask m (State.takeIv s pkey keyId chunks).2 = State.mask m s := by
  unfold State.takeIv
  dsimp only
  split <;> (try split) <;> simp [*]

@[simp] theorem State.gcmFailed_mask (m : StateField → Bool) (s : State) (pkey : Nat) (h_regs : m .regs = true) (h_kpr : m .kpr = true) (h_lanes : m .lanes = true) (h_links : m .links = true) (h_csw : m .csw = true) (h_sec : m .sec = true) (h_free : m .free = true) :
    State.mask m (State.gcmFailed s pkey) = State.mask m s := by
  unfold State.gcmFailed
  simp [*]

@[simp] theorem State.staleHead_mask (m : StateField → Bool) (s : State) (pkey : Nat) (h_regs : m .regs = true) (h_kpr : m .kpr = true) (h_lanes : m .lanes = true) (h_links : m .links = true) (h_csw : m .csw = true) (h_sec : m .sec = true) (h_free : m .free = true) :
    State.mask m (State.staleHead s pkey) = State.mask m s := by
  unfold State.staleHead
  simp [*]

@[simp] theorem State.setWords_mask (m : StateField → Bool) (s : State) (off : Nat) (x1 : List Word) (h_regs : m .regs = true) :
    State.mask m (State.setWords s off x1) = State.mask m s := by
  induction x1 generalizing s off with
  | nil => rw [State.setWords]
  | cons w ws ih => rw [State.setWords, ih]; simp [*]

@[simp] theorem State.mbxAnswer_mask (m : StateField → Bool) (s : State) (w : Nat) (typ : Nat) (seq : Nat) (n : Nat) (body : List Byte) (h_regs : m .regs = true) :
    State.mask m (State.mbxAnswer s w typ seq n body) = State.mask m s := by
  unfold State.mbxAnswer
  repeat' first | (simp [*]; done) | (rw [State.mask_mk] <;> simp [*]; done) | refine (State.mask_foldl m _ (fun t x => ?_) _ _).trans ?_ | refine (State.mask_foldl_fst m _ (fun p x => ?_) _ _).trans ?_ | refine (State.mask_foldl_snd m _ (fun p x => ?_) _ _).trans ?_ | split | simp [*]

@[simp] theorem State.mbxError_mask (m : StateField → Bool) (s : State) (w : Nat) (e : Nat) (h_regs : m .regs = true) :
    State.mask m (State.mbxError s w e) = State.mask m s := by
  unfold State.mbxError
  simp [*]

@[simp] theorem State.mbxRun_mask (m : StateField → Bool) (s : State) (w : Nat) (typ : Nat) (f : List Byte → State) (hf : ∀ b, (f b).mask m = s.mask m) (h_regs : m .regs = true) (h_kpr : m .kpr = true) (h_mem : m .mem = true) :
    State.mask m (State.mbxRun s w typ f) = State.mask m s := by
  unfold State.mbxRun
  repeat' first | (simp [*]; done) | (rw [State.mask_mk] <;> simp [*]; done) | refine (State.mask_foldl m _ (fun t x => ?_) _ _).trans ?_ | refine (State.mask_foldl_fst m _ (fun p x => ?_) _ _).trans ?_ | refine (State.mask_foldl_snd m _ (fun p x => ?_) _ _).trans ?_ | split | simp [*]

@[simp] theorem State.aliasSign_mask (m : StateField → Bool) (s : State) (m0 : List Byte) (h_sec : m .sec = true) :
    State.mask m (State.aliasSign s m0).2 = State.mask m s := by
  unfold State.aliasSign
  simp [*]

@[simp] theorem State.newSession_mask (m : StateField → Bool) (s : State) (h_sec : m .sec = true) (h_free : m .free = true) :
    State.mask m (State.newSession s).2 = State.mask m s := by
  unfold State.newSession
  simp [*]

@[simp] theorem State.attest_mask (m : StateField → Bool) (s : State) (w : Nat) (m0 : List Byte) (h_regs : m .regs = true) (h_sec : m .sec = true) (h_free : m .free = true) :
    State.mask m (State.attest s w m0) = State.mask m s := by
  unfold State.attest
  simp [*]

@[simp] theorem execAttestReq_mask (m : StateField → Bool) (w : Win) (s : State) (h_regs : m .regs = true) (h_kpr : m .kpr = true) (h_mem : m .mem = true) (h_sec : m .sec = true) (h_free : m .free = true) :
    State.Keeps m s (execAttestReq w s) := by
  unfold execAttestReq
  simp [*]

@[simp] theorem State.takeShare_mask (m : StateField → Bool) (s : State) (i : Nat) (x : Slot) (mem : Nat) (n : Nat) (sh : BitVec 384 × BitVec 384) (d : BitVec 384) (h_mem : m .mem = true) (h_sec : m .sec = true) :
    State.mask m (State.takeShare s i x mem n sh d) = State.mask m s := by
  unfold State.takeShare
  simp [*]

@[simp] theorem State.importShare_mask (m : StateField → Bool) (s : State) (m0 : List Byte) (h_regs : m .regs = true) (h_kpr : m .kpr = true) (h_lanes : m .lanes = true) (h_links : m .links = true) (h_csw : m .csw = true) (h_mem : m .mem = true) (h_sec : m .sec = true) (h_free : m .free = true) :
    State.mask m (State.importShare s m0).2 = State.mask m s := by
  unfold State.importShare
  dsimp only
  repeat' first | rfl | split | (simp [*]; done)

@[simp] theorem execShare_mask (m : StateField → Bool) (w : Win) (s : State) (h_regs : m .regs = true) (h_kpr : m .kpr = true) (h_lanes : m .lanes = true) (h_links : m .links = true) (h_csw : m .csw = true) (h_mem : m .mem = true) (h_sec : m .sec = true) (h_free : m .free = true) :
    State.Keeps m s (execShare w s) := by
  unfold execShare
  repeat' first | (simp [*]; done) | (rw [State.mask_mk] <;> simp [*]; done) | refine (State.mask_foldl m _ (fun t x => ?_) _ _).trans ?_ | refine (State.mask_foldl_fst m _ (fun p x => ?_) _ _).trans ?_ | refine (State.mask_foldl_snd m _ (fun p x => ?_) _ _).trans ?_ | extract_lets | dsimp only | split | simp [*]

@[simp] theorem execCertReq_mask (m : StateField → Bool) (w : Win) (s : State) (h_regs : m .regs = true) (h_kpr : m .kpr = true) (h_mem : m .mem = true) :
    State.Keeps m s (execCertReq w s) := by
  unfold execCertReq
  simp [*]

@[simp] theorem execRecordGet_mask (m : StateField → Bool) (w : Win) (s : State) (h_regs : m .regs = true) (h_kpr : m .kpr = true) (h_mem : m .mem = true) :
    State.Keeps m s (execRecordGet w s) := by
  unfold execRecordGet
  refine State.mbxRun_mask m _ _ _ _ (fun b => ?_) h_regs h_kpr h_mem
  dsimp only
  split <;> simp [*]

@[simp] theorem State.startFuse_mask (m : StateField → Bool) (s : State) (w : Nat) (f : FuseWrite) (h_regs : m .regs = true) (h_sec : m .sec = true) :
    State.mask m (State.startFuse s w f) = State.mask m s := by
  unfold State.startFuse
  repeat' first | (simp [*]; done) | (rw [State.mask_mk] <;> simp [*]; done) | refine (State.mask_foldl m _ (fun t x => ?_) _ _).trans ?_ | refine (State.mask_foldl_fst m _ (fun p x => ?_) _ _).trans ?_ | refine (State.mask_foldl_snd m _ (fun p x => ?_) _ _).trans ?_ | split | simp [*]

@[simp] theorem execEnrol_mask (m : StateField → Bool) (w : Win) (s : State) (h_regs : m .regs = true) (h_kpr : m .kpr = true) (h_mem : m .mem = true) (h_sec : m .sec = true) :
    State.Keeps m s (execEnrol w s) := by
  unfold execEnrol
  simp [*]

@[simp] theorem execRevoke_mask (m : StateField → Bool) (w : Win) (s : State) (h_regs : m .regs = true) (h_kpr : m .kpr = true) (h_mem : m .mem = true) (h_sec : m .sec = true) :
    State.Keeps m s (execRevoke w s) := by
  unfold execRevoke
  simp [*]

@[simp] theorem State.finishFuse_mask (m : StateField → Bool) (s : State) (f : FuseWrite) (h_regs : m .regs = true) (h_fuses : m .fuses = true) (h_sec : m .sec = true) :
    State.mask m (State.finishFuse s f) = State.mask m s := by
  unfold State.finishFuse
  repeat' first | (simp [*]; done) | (rw [State.mask_mk] <;> simp [*]; done) | refine (State.mask_foldl m _ (fun t x => ?_) _ _).trans ?_ | refine (State.mask_foldl_fst m _ (fun p x => ?_) _ _).trans ?_ | refine (State.mask_foldl_snd m _ (fun p x => ?_) _ _).trans ?_ | split | simp [*]

@[simp] theorem execSessionExpire_mask (m : StateField → Bool) (x : Fin 16) (s : State) (h_sec : m .sec = true) :
    State.Keeps m s (execSessionExpire x s) := by
  unfold execSessionExpire
  split <;> simp [*]

@[simp] theorem execRngHealthFail_mask (m : StateField → Bool) (s : State) (h_regs : m .regs = true) (h_kpr : m .kpr = true) (h_lanes : m .lanes = true) (h_links : m .links = true) (h_csw : m .csw = true) (h_sec : m .sec = true) (h_free : m .free = true) :
    State.Keeps m s (execRngHealthFail s) := by
  unfold execRngHealthFail
  simp [*]

end Sys2Proof.Machine
end

