-- ==== Sys2Proof/Laws/Frame/MemOps.lean ====
section
/-! SUPPORT. What each function of Machine/MemOps.lean leaves alone. -/

namespace Sys2Proof.Machine

@[simp] theorem State.setRawLine_mask (m : StateField → Bool) (s : State) (key : Nat) (l : Line) (h_memory : m .memory = true) :
    State.mask m (State.setRawLine s key l) = State.mask m s := by
  unfold State.setRawLine
  rw [State.mask_mk] <;> simp [*]

@[simp] theorem State.setPoison_mask (m : StateField → Bool) (s : State) (key : Nat) (b : Bool) (h_mem : m .mem = true) :
    State.mask m (State.setPoison s key b) = State.mask m s := by
  unfold State.setPoison
  rw [State.mask_mk] <;> simp [*]

@[simp] theorem State.writeLine_mask (m : StateField → Bool) (s : State) (v : PlateV) (g : Region) (off : Nat) (l : Line) (h_mem : m .mem = true) (h_memory : m .memory = true) :
    State.mask m (State.writeLine s v g off l) = State.mask m s := by
  unfold State.writeLine
  simp [*]

@[simp] theorem State.writeFrom_mask (m : StateField → Bool) (v : PlateV) (g : Region) (x1 : Nat) (x2 : Nat) (x3 : List Byte) (x4 : State) (h_mem : m .mem = true) (h_memory : m .memory = true) :
    State.mask m (State.writeFrom v g x1 x2 x3 x4) = State.mask m x4 := by
  induction x1 generalizing x2 x3 x4 with
  | zero => rw [State.writeFrom]
  | succ f ih =>
    rw [State.writeFrom]
    split
    · rfl
    · dsimp only
      rw [ih]
      split
      · simp [*]
      · split <;> simp [*]

@[simp] theorem State.writeBytes_mask (m : StateField → Bool) (s : State) (v : PlateV) (g : Region) (off : Nat) (d : List Byte) (h_mem : m .mem = true) (h_memory : m .memory = true) :
    State.mask m (State.writeBytes s v g off d) = State.mask m s := by
  unfold State.writeBytes
  repeat' first | (simp [*]; done) | (rw [State.mask_mk] <;> simp [*]; done) | refine (State.mask_foldl m _ (fun t x => ?_) _ _).trans ?_ | refine (State.mask_foldl_fst m _ (fun p x => ?_) _ _).trans ?_ | refine (State.mask_foldl_snd m _ (fun p x => ?_) _ _).trans ?_ | split | simp [*]

@[simp] theorem State.cancelHeal_mask (m : StateField → Bool) (s : State) (p : Nat) (key : Nat) (h_regs : m .regs = true) (h_mem : m .mem = true) :
    State.mask m (State.cancelHeal s p key) = State.mask m s := by
  unfold State.cancelHeal
  simp [*]

@[simp] theorem State.modJob_mask (m : StateField → Bool) (s : State) (n : Nat) (f : Job → Job) (h_xfr : m .xfr = true) :
    State.mask m (State.modJob s n f) = State.mask m s := by
  unfold State.modJob
  repeat' first | (simp [*]; done) | (rw [State.mask_mk] <;> simp [*]; done) | refine (State.mask_foldl m _ (fun t x => ?_) _ _).trans ?_ | refine (State.mask_foldl_fst m _ (fun p x => ?_) _ _).trans ?_ | refine (State.mask_foldl_snd m _ (fun p x => ?_) _ _).trans ?_ | split | simp [*]

@[simp] theorem State.forJob_mask (m : StateField → Bool) (s : State) (job : Option Nat) (f : Job → Job) (h_xfr : m .xfr = true) :
    State.mask m (State.forJob s job f) = State.mask m s := by
  unfold State.forJob
  repeat' first | (simp [*]; done) | (rw [State.mask_mk] <;> simp [*]; done) | refine (State.mask_foldl m _ (fun t x => ?_) _ _).trans ?_ | refine (State.mask_foldl_fst m _ (fun p x => ?_) _ _).trans ?_ | refine (State.mask_foldl_snd m _ (fun p x => ?_) _ _).trans ?_ | split | simp [*]

@[simp] theorem State.dropJob_mask (m : StateField → Bool) (s : State) (n : Nat) (h_xfr : m .xfr = true) :
    State.mask m (State.dropJob s n) = State.mask m s := by
  unfold State.dropJob
  repeat' first | (simp [*]; done) | (rw [State.mask_mk] <;> simp [*]; done) | refine (State.mask_foldl m _ (fun t x => ?_) _ _).trans ?_ | refine (State.mask_foldl_fst m _ (fun p x => ?_) _ _).trans ?_ | refine (State.mask_foldl_snd m _ (fun p x => ?_) _ _).trans ?_ | split | simp [*]

@[simp] theorem State.newJob_mask (m : StateField → Bool) (s : State) (use : JobUse) (closed : Bool) (h_xfr : m .xfr = true) :
    State.mask m (State.newJob s use closed).2 = State.mask m s := by
  unfold State.newJob
  repeat' first | (simp [*]; done) | (rw [State.mask_mk] <;> simp [*]; done) | refine (State.mask_foldl m _ (fun t x => ?_) _ _).trans ?_ | refine (State.mask_foldl_fst m _ (fun p x => ?_) _ _).trans ?_ | refine (State.mask_foldl_snd m _ (fun p x => ?_) _ _).trans ?_ | split | simp [*]

@[simp] theorem State.lineDone_mask (m : StateField → Bool) (s : State) (r : LineReq) (f : Job → Job) (h_xfr : m .xfr = true) :
    State.mask m (State.lineDone s r f) = State.mask m s := by
  unfold State.lineDone
  repeat' first | (simp [*]; done) | (rw [State.mask_mk] <;> simp [*]; done) | refine (State.mask_foldl m _ (fun t x => ?_) _ _).trans ?_ | refine (State.mask_foldl_fst m _ (fun p x => ?_) _ _).trans ?_ | refine (State.mask_foldl_snd m _ (fun p x => ?_) _ _).trans ?_ | split | simp [*]

@[simp] theorem State.queueLine_mask (m : StateField → Bool) (s : State) (v : PlateV) (key : Nat) (kind : LineKind) (job : Option Nat) (size : Nat) (h_regs : m .regs = true) (h_mem : m .mem = true) (h_xfr : m .xfr = true) :
    State.mask m (State.queueLine s v key kind job size) = State.mask m s := by
  unfold State.queueLine
  simp [*]

@[simp] theorem State.queueReads_mask (m : StateField → Bool) (s : State) (v : PlateV) (g : Region) (off : Nat) (n : Nat) (job : Option Nat) (h_regs : m .regs = true) (h_mem : m .mem = true) (h_xfr : m .xfr = true) :
    State.mask m (State.queueReads s v g off n job) = State.mask m s := by
  unfold State.queueReads
  exact State.mask_foldl m _ (fun t x => by simp [*]) _ _

@[simp] theorem State.queueWrite_mask (m : StateField → Bool) (s : State) (v : PlateV) (g : Region) (off : Nat) (n : Nat) (job : Option Nat) (o : Nat) (h_regs : m .regs = true) (h_mem : m .mem = true) (h_xfr : m .xfr = true) :
    State.mask m (State.queueWrite s v g off n job o) = State.mask m s := by
  unfold State.queueWrite
  repeat' first | (simp [*]; done) | (rw [State.mask_mk] <;> simp [*]; done) | refine (State.mask_foldl m _ (fun t x => ?_) _ _).trans ?_ | refine (State.mask_foldl_fst m _ (fun p x => ?_) _ _).trans ?_ | refine (State.mask_foldl_snd m _ (fun p x => ?_) _ _).trans ?_ | split | simp [*]

@[simp] theorem State.queueWrites_mask (m : StateField → Bool) (s : State) (v : PlateV) (g : Region) (off : Nat) (n : Nat) (job : Option Nat) (h_regs : m .regs = true) (h_mem : m .mem = true) (h_xfr : m .xfr = true) :
    State.mask m (State.queueWrites s v g off n job) = State.mask m s := by
  unfold State.queueWrites
  exact State.mask_foldl m _ (fun t x => by simp [*]) _ _

end Sys2Proof.Machine
end

