-- ==== Sys2Proof/Laws/Frame/Journal.lean ====
section
/-! SUPPORT. What each function of Machine/Journal.lean leaves alone. -/

namespace Sys2Proof.Machine

@[simp] theorem State.setScript_mask (m : StateField → Bool) (s : State) (x : Script) (h_script : m .script = true) :
    State.mask m (State.setScript s x) = State.mask m s := by
  unfold State.setScript
  rw [State.mask_mk] <;> simp [*]

@[simp] theorem State.appendEntry_mask (m : StateField → Bool) (s : State) (kind : Nat) (source : Nat) (body : List Byte) (h_regs : m .regs = true) (h_script : m .script = true) :
    State.mask m (State.appendEntry s kind source body) = State.mask m s := by
  unfold State.appendEntry
  simp [*]

@[simp] theorem State.paceScript_mask (m : StateField → Bool) (s : State) (h_regs : m .regs = true) (h_kpr : m .kpr = true) (h_lanes : m .lanes = true) (h_links : m .links = true) (h_csw : m .csw = true) (h_sec : m .sec = true) (h_script : m .script = true) (h_free : m .free = true) :
    State.mask m (State.paceScript s) = State.mask m s := by
  unfold State.paceScript
  simp [*]

@[simp] theorem State.journal_mask (m : StateField → Bool) (s : State) (kind : Nat) (source : Nat) (body : List Byte) (h_regs : m .regs = true) (h_kpr : m .kpr = true) (h_lanes : m .lanes = true) (h_links : m .links = true) (h_csw : m .csw = true) (h_sec : m .sec = true) (h_script : m .script = true) (h_free : m .free = true) :
    State.mask m (State.journal s kind source body) = State.mask m s := by
  unfold State.journal
  simp [*]

@[simp] theorem State.journalReg_mask (m : StateField → Bool) (s : State) (a : Nat) (off : Nat) (value : Word) (h_regs : m .regs = true) (h_kpr : m .kpr = true) (h_lanes : m .lanes = true) (h_links : m .links = true) (h_csw : m .csw = true) (h_sec : m .sec = true) (h_script : m .script = true) (h_free : m .free = true) :
    State.mask m (State.journalReg s a off value) = State.mask m s := by
  unfold State.journalReg
  simp [*]

@[simp] theorem State.unlessHeld_mask (m : StateField → Bool) (s : State) (a : Nat) (off : Nat) (value : Word) (f : State → State) (hf : ∀ t, (f t).mask m = t.mask m) (h_script : m .script = true) :
    State.mask m (State.unlessHeld s a off value f) = State.mask m s := by
  unfold State.unlessHeld
  simp [*]

@[simp] theorem State.fmReg_mask (m : StateField → Bool) (s : State) (a : Nat) (off : Nat) (value : Word) (f : State → State) (hf : ∀ t, (f t).mask m = t.mask m) (h_regs : m .regs = true) (h_kpr : m .kpr = true) (h_lanes : m .lanes = true) (h_links : m .links = true) (h_csw : m .csw = true) (h_sec : m .sec = true) (h_script : m .script = true) (h_free : m .free = true) :
    State.mask m (State.fmReg s a off value f) = State.mask m s := by
  unfold State.fmReg
  refine State.fmWrite_mask m _ _ _ _ (fun t => ?_) h_regs h_kpr
  refine State.unlessHeld_mask m _ _ _ _ _ (fun u => ?_) h_script
  rw [hf]; simp [*]

@[simp] theorem State.fmRw_mask (m : StateField → Bool) (s : State) (a : Nat) (off : Nat) (value : Word) (f : State → State) (hf : ∀ t, (f t).mask m = t.mask m) (h_regs : m .regs = true) (h_kpr : m .kpr = true) (h_lanes : m .lanes = true) (h_links : m .links = true) (h_csw : m .csw = true) (h_sec : m .sec = true) (h_script : m .script = true) (h_free : m .free = true) :
    State.mask m (State.fmRw s a off value f) = State.mask m s := by
  unfold State.fmRw
  refine State.fmWrite_mask m _ _ _ _ (fun t => ?_) h_regs h_kpr
  refine State.lastWins_mask m _ _ _ _ (fun r => ?_) h_kpr
  refine State.unlessHeld_mask m _ _ _ _ _ (fun u => ?_) h_script
  rw [hf]; simp [*]

@[simp] theorem State.journalChunk_mask (m : StateField → Bool) (s : State) (seat : Nat) (tag : Nat) (typ : Nat) (chunk : Nat) (check : Nat) (inst : Nat) (group : Nat) (h_regs : m .regs = true) (h_kpr : m .kpr = true) (h_lanes : m .lanes = true) (h_links : m .links = true) (h_csw : m .csw = true) (h_sec : m .sec = true) (h_script : m .script = true) (h_free : m .free = true) :
    State.mask m (State.journalChunk s seat tag typ chunk check inst group) = State.mask m s := by
  unfold State.journalChunk
  repeat' first | (simp [*]; done) | (rw [State.mask_mk] <;> simp [*]; done) | refine (State.mask_foldl m _ (fun t x => ?_) _ _).trans ?_ | refine (State.mask_foldl_fst m _ (fun p x => ?_) _ _).trans ?_ | refine (State.mask_foldl_snd m _ (fun p x => ?_) _ _).trans ?_ | split | simp [*]

@[simp] theorem State.journalEvent_mask (m : StateField → Bool) (s : State) (swTag : Nat) (op : Nat) (status : Nat) (reason : Nat) (who : Nat) (group : Nat) (inst : Nat) (missing : Option Nat) (h_regs : m .regs = true) (h_kpr : m .kpr = true) (h_lanes : m .lanes = true) (h_links : m .links = true) (h_csw : m .csw = true) (h_sec : m .sec = true) (h_script : m .script = true) (h_free : m .free = true) :
    State.mask m (State.journalEvent s swTag op status reason who group inst missing) = State.mask m s := by
  unfold State.journalEvent
  simp [*]

@[simp] theorem State.journalPlate_mask (m : StateField → Bool) (s : State) (event : Nat) (v : PlateV) (h_regs : m .regs = true) (h_kpr : m .kpr = true) (h_lanes : m .lanes = true) (h_links : m .links = true) (h_csw : m .csw = true) (h_sec : m .sec = true) (h_script : m .script = true) (h_free : m .free = true) :
    State.mask m (State.journalPlate s event v) = State.mask m s := by
  unfold State.journalPlate
  simp [*]

end Sys2Proof.Machine
end

