-- ==== Sys2Proof/Laws/Frame/Clock.lean ====
section
/-! SUPPORT. What each function of Machine/Clock.lean leaves alone. -/

namespace Sys2Proof.Machine

@[simp] theorem State.tick_mask (m : StateField → Bool) (s : State) (h_regs : m .regs = true) (h_clk : m .clk = true) :
    State.mask m (State.tick s) = State.mask m s := by
  unfold State.tick
  repeat' first | (simp [*]; done) | (rw [State.mask_mk] <;> simp [*]; done) | refine (State.mask_foldl m _ (fun t x => ?_) _ _).trans ?_ | refine (State.mask_foldl_fst m _ (fun p x => ?_) _ _).trans ?_ | refine (State.mask_foldl_snd m _ (fun p x => ?_) _ _).trans ?_ | split | simp [*]

@[simp] theorem State.refreshSync_mask (m : StateField → Bool) (s : State) (h_regs : m .regs = true) (h_kpr : m .kpr = true) (h_clk : m .clk = true) (h_lanes : m .lanes = true) (h_links : m .links = true) (h_csw : m .csw = true) (h_sec : m .sec = true) (h_free : m .free = true) :
    State.mask m (State.refreshSync s) = State.mask m s := by
  unfold State.refreshSync
  repeat' first | (simp [*]; done) | (rw [State.mask_mk] <;> simp [*]; done) | refine (State.mask_foldl m _ (fun t x => ?_) _ _).trans ?_ | refine (State.mask_foldl_fst m _ (fun p x => ?_) _ _).trans ?_ | refine (State.mask_foldl_snd m _ (fun p x => ?_) _ _).trans ?_ | split | simp [*]

@[simp] theorem State.becomeRoot_mask (m : StateField → Bool) (s : State) (h_clk : m .clk = true) :
    State.mask m (State.becomeRoot s) = State.mask m s := by
  unfold State.becomeRoot
  rw [State.mask_mk] <;> simp [*]

@[simp] theorem State.enterHoldover_mask (m : StateField → Bool) (s : State) (h_clk : m .clk = true) :
    State.mask m (State.enterHoldover s) = State.mask m s := by
  unfold State.enterHoldover
  rw [State.mask_mk] <;> simp [*]

@[simp] theorem State.chooseParent_mask (m : StateField → Bool) (s : State) (h_regs : m .regs = true) (h_kpr : m .kpr = true) (h_clk : m .clk = true) (h_lanes : m .lanes = true) (h_links : m .links = true) (h_csw : m .csw = true) (h_sec : m .sec = true) (h_free : m .free = true) :
    State.mask m (State.chooseParent s) = State.mask m s := by
  unfold State.chooseParent
  repeat' first | (simp [*]; done) | (rw [State.mask_mk] <;> simp [*]; done) | refine (State.mask_foldl m _ (fun t x => ?_) _ _).trans ?_ | refine (State.mask_foldl_fst m _ (fun p x => ?_) _ _).trans ?_ | refine (State.mask_foldl_snd m _ (fun p x => ?_) _ _).trans ?_ | split | simp [*]

@[simp] theorem State.lockLoss_mask (m : StateField → Bool) (s : State) (h_regs : m .regs = true) (h_clk : m .clk = true) :
    State.mask m (State.lockLoss s) = State.mask m s := by
  unfold State.lockLoss
  repeat' first | (simp [*]; done) | (rw [State.mask_mk] <;> simp [*]; done) | refine (State.mask_foldl m _ (fun t x => ?_) _ _).trans ?_ | refine (State.mask_foldl_fst m _ (fun p x => ?_) _ _).trans ?_ | refine (State.mask_foldl_snd m _ (fun p x => ?_) _ _).trans ?_ | split | simp [*]

@[simp] theorem State.steer_mask (m : StateField → Bool) (s : State) (θ : ℤ) (h_regs : m .regs = true) (h_clk : m .clk = true) (h_free : m .free = true) :
    State.mask m (State.steer s θ) = State.mask m s := by
  unfold State.steer
  repeat' first | (simp [*]; done) | (rw [State.mask_mk] <;> simp [*]; done) | refine (State.mask_foldl m _ (fun t x => ?_) _ _).trans ?_ | refine (State.mask_foldl_fst m _ (fun p x => ?_) _ _).trans ?_ | refine (State.mask_foldl_snd m _ (fun p x => ?_) _ _).trans ?_ | split | simp [*]

@[simp] theorem State.restrictLink_mask (m : StateField → Bool) (s : State) (n : Nat) (k : Nat) (on : Bool) (h_regs : m .regs = true) (h_kpr : m .kpr = true) (h_lanes : m .lanes = true) (h_links : m .links = true) (h_csw : m .csw = true) (h_sec : m .sec = true) (h_free : m .free = true) :
    State.mask m (State.restrictLink s n k on) = State.mask m s := by
  unfold State.restrictLink
  simp [*]

@[simp] theorem State.matchState_mask (m : StateField → Bool) (s : State) (n : Nat) (st : Nat) (tag : Nat) (h_regs : m .regs = true) (h_kpr : m .kpr = true) (h_plt : m .plt = true) (h_lanes : m .lanes = true) (h_links : m .links = true) (h_csw : m .csw = true) (h_sec : m .sec = true) (h_free : m .free = true) :
    State.mask m (State.matchState s n st tag) = State.mask m s := by
  unfold State.matchState
  repeat' first | (simp [*]; done) | (rw [State.mask_mk] <;> simp [*]; done) | refine (State.mask_foldl m _ (fun t x => ?_) _ _).trans ?_ | refine (State.mask_foldl_fst m _ (fun p x => ?_) _ _).trans ?_ | refine (State.mask_foldl_snd m _ (fun p x => ?_) _ _).trans ?_ | split | simp [*]

@[simp] theorem State.suspect_mask (m : StateField → Bool) (s : State) (node : Nat) (h_kpr : m .kpr = true) (h_csw : m .csw = true) :
    State.mask m (State.suspect s node) = State.mask m s := by
  unfold State.suspect
  repeat' first | (simp [*]; done) | (rw [State.mask_mk] <;> simp [*]; done) | refine (State.mask_foldl m _ (fun t x => ?_) _ _).trans ?_ | refine (State.mask_foldl_fst m _ (fun p x => ?_) _ _).trans ?_ | refine (State.mask_foldl_snd m _ (fun p x => ?_) _ _).trans ?_ | split | simp [*]

@[simp] theorem State.clearSuspect_mask (m : StateField → Bool) (s : State) (node : Nat) (h_kpr : m .kpr = true) :
    State.mask m (State.clearSuspect s node) = State.mask m s := by
  unfold State.clearSuspect
  rw [State.mask_mk] <;> simp [*]

@[simp] theorem State.leaveUp_mask (m : StateField → Bool) (s : State) (n : Nat) (h_regs : m .regs = true) (h_kpr : m .kpr = true) (h_clk : m .clk = true) (h_lanes : m .lanes = true) (h_links : m .links = true) (h_csw : m .csw = true) (h_sec : m .sec = true) (h_free : m .free = true) :
    State.mask m (State.leaveUp s n) = State.mask m s := by
  unfold State.leaveUp
  simp [*]

@[simp] theorem execSyncTx_mask (m : StateField → Bool) (n : LinkIx) (s : State) (h_clk : m .clk = true) (h_links : m .links = true) :
    State.Keeps m s (execSyncTx n s) := by
  unfold execSyncTx
  repeat' first | (simp [*]; done) | (rw [State.mask_mk] <;> simp [*]; done) | refine (State.mask_foldl m _ (fun t x => ?_) _ _).trans ?_ | refine (State.mask_foldl_fst m _ (fun p x => ?_) _ _).trans ?_ | refine (State.mask_foldl_snd m _ (fun p x => ?_) _ _).trans ?_ | split | simp [*]

@[simp] theorem State.applySync_mask (m : StateField → Bool) (s : State) (n : Nat) (c : Cell) (h_regs : m .regs = true) (h_kpr : m .kpr = true) (h_plt : m .plt = true) (h_clk : m .clk = true) (h_lanes : m .lanes = true) (h_links : m .links = true) (h_csw : m .csw = true) (h_sec : m .sec = true) (h_free : m .free = true) :
    State.mask m (State.applySync s n c) = State.mask m s := by
  unfold State.applySync
  dsimp only
  rcases State.syncSample s n c.payload with _ | ⟨d, θ⟩
  · simp [*]
    rw [State.mask_mk] <;> simp [*]
  · simp [*]
    rw [State.mask_mk] <;> simp [*]

@[simp] theorem execSyncRx_mask (m : StateField → Bool) (n : LinkIx) (c : Cell) (s : State) (h_regs : m .regs = true) (h_kpr : m .kpr = true) (h_plt : m .plt = true) (h_clk : m .clk = true) (h_lanes : m .lanes = true) (h_links : m .links = true) (h_csw : m .csw = true) (h_sec : m .sec = true) (h_free : m .free = true) :
    State.Keeps m s (execSyncRx n c s) := by
  unfold execSyncRx
  repeat' first | (simp [*]; done) | (rw [State.mask_mk] <;> simp [*]; done) | refine (State.mask_foldl m _ (fun t x => ?_) _ _).trans ?_ | refine (State.mask_foldl_fst m _ (fun p x => ?_) _ _).trans ?_ | refine (State.mask_foldl_snd m _ (fun p x => ?_) _ _).trans ?_ | extract_lets | dsimp only | split | simp [*]

@[simp] theorem execCandidateExpire_mask (m : StateField → Bool) (n : LinkIx) (s : State) (h_regs : m .regs = true) (h_kpr : m .kpr = true) (h_clk : m .clk = true) (h_lanes : m .lanes = true) (h_links : m .links = true) (h_csw : m .csw = true) (h_sec : m .sec = true) (h_free : m .free = true) :
    State.Keeps m s (execCandidateExpire n s) := by
  unfold execCandidateExpire
  repeat' first | (simp [*]; done) | (rw [State.mask_mk] <;> simp [*]; done) | refine (State.mask_foldl m _ (fun t x => ?_) _ _).trans ?_ | refine (State.mask_foldl_fst m _ (fun p x => ?_) _ _).trans ?_ | refine (State.mask_foldl_snd m _ (fun p x => ?_) _ _).trans ?_ | split | simp [*]

@[simp] theorem execClockFreeTimeout_mask (m : StateField → Bool) (s : State) (h_regs : m .regs = true) (h_kpr : m .kpr = true) (h_clk : m .clk = true) (h_lanes : m .lanes = true) (h_links : m .links = true) (h_csw : m .csw = true) (h_sec : m .sec = true) (h_free : m .free = true) :
    State.Keeps m s (execClockFreeTimeout s) := by
  unfold execClockFreeTimeout
  simp [*]

@[simp] theorem execHoldoverBound_mask (m : StateField → Bool) (s : State) (h_regs : m .regs = true) (h_kpr : m .kpr = true) (h_clk : m .clk = true) (h_lanes : m .lanes = true) (h_links : m .links = true) (h_csw : m .csw = true) (h_sec : m .sec = true) (h_free : m .free = true) :
    State.Keeps m s (execHoldoverBound s) := by
  unfold execHoldoverBound
  simp [*]

end Sys2Proof.Machine
end

