-- ==== Sys2Proof/Laws/Frame/LinkOps.lean ====
section
/-! SUPPORT. What each function of Machine/LinkOps.lean leaves alone. -/

namespace Sys2Proof.Machine

@[simp] theorem State.setDomain_mask (m : StateField → Bool) (s : State) (k : Nat) (d : DomainState) (h_kpr : m .kpr = true) :
    State.mask m (State.setDomain s k d) = State.mask m s := by
  unfold State.setDomain
  rw [State.mask_mk] <;> simp [*]

@[simp] theorem State.wakeLane_mask (m : StateField → Bool) (s : State) (l : Nat) (h_regs : m .regs = true) (h_kpr : m .kpr = true) (h_lanes : m .lanes = true) (h_free : m .free = true) :
    State.mask m (State.wakeLane s l) = State.mask m s := by
  unfold State.wakeLane
  simp [*]

@[simp] theorem State.wakeLink_mask (m : StateField → Bool) (s : State) (n : Nat) (h_regs : m .regs = true) (h_kpr : m .kpr = true) (h_lanes : m .lanes = true) (h_free : m .free = true) :
    State.mask m (State.wakeLink s n) = State.mask m s := by
  unfold State.wakeLink
  repeat' first | (simp [*]; done) | (rw [State.mask_mk] <;> simp [*]; done) | refine (State.mask_foldl m _ (fun t x => ?_) _ _).trans ?_ | refine (State.mask_foldl_fst m _ (fun p x => ?_) _ _).trans ?_ | refine (State.mask_foldl_snd m _ (fun p x => ?_) _ _).trans ?_ | split | simp [*]

@[simp] theorem State.sendNotice_mask (m : StateField → Bool) (s : State) (c : Cell) (status : Nat) (reason : Nat) (member : Nat) (h_regs : m .regs = true) (h_csw : m .csw = true) :
    State.mask m (State.sendNotice s c status reason member) = State.mask m s := by
  unfold State.sendNotice
  simp [*]

@[simp] theorem State.giveUpCell_mask (m : StateField → Bool) (s : State) (status : Nat) (reason : Nat) (n : Nat) (c : Cell) (unsent : Bool) (told : List (Nat × Nat)) (h_regs : m .regs = true) (h_csw : m .csw = true) :
    State.mask m (State.giveUpCell s status reason n c unsent told).1 = State.mask m s := by
  unfold State.giveUpCell
  repeat' first | (simp [*]; done) | (rw [State.mask_mk] <;> simp [*]; done) | refine (State.mask_foldl m _ (fun t x => ?_) _ _).trans ?_ | refine (State.mask_foldl_fst m _ (fun p x => ?_) _ _).trans ?_ | refine (State.mask_foldl_snd m _ (fun p x => ?_) _ _).trans ?_ | split | simp [*]

@[simp] theorem State.linkViolation_mask (m : StateField → Bool) (s : State) (n : Nat) (code : Nat) (c : Cell) (seq : Nat) (h_regs : m .regs = true) (h_kpr : m .kpr = true) (h_lanes : m .lanes = true) (h_links : m .links = true) (h_csw : m .csw = true) (h_sec : m .sec = true) (h_free : m .free = true) :
    State.mask m (State.linkViolation s n code c seq) = State.mask m s := by
  unfold State.linkViolation
  simp [*]

@[simp] theorem State.markFailed_mask (m : StateField → Bool) (s : State) (l : Nat) (cause : Nat) (h_regs : m .regs = true) (h_lanes : m .lanes = true) (h_free : m .free = true) :
    State.mask m (State.markFailed s l cause) = State.mask m s := by
  unfold State.markFailed
  simp [*]

@[simp] theorem State.pushSlot_mask (m : StateField → Bool) (s : State) (n : Nat) (slot : BitVec 768) (h_links : m .links = true) :
    State.mask m (State.pushSlot s n slot) = State.mask m s := by
  unfold State.pushSlot
  repeat' first | (simp [*]; done) | (rw [State.mask_mk] <;> simp [*]; done) | refine (State.mask_foldl m _ (fun t x => ?_) _ _).trans ?_ | refine (State.mask_foldl_fst m _ (fun p x => ?_) _ _).trans ?_ | refine (State.mask_foldl_snd m _ (fun p x => ?_) _ _).trans ?_ | split | simp [*]

@[simp] theorem State.sendSlot_mask (m : StateField → Bool) (s : State) (n : Nat) (c : Cell) (h_links : m .links = true) :
    State.mask m (State.sendSlot s n c) = State.mask m s := by
  unfold State.sendSlot
  repeat' first | (simp [*]; done) | (rw [State.mask_mk] <;> simp [*]; done) | refine (State.mask_foldl m _ (fun t x => ?_) _ _).trans ?_ | refine (State.mask_foldl_fst m _ (fun p x => ?_) _ _).trans ?_ | refine (State.mask_foldl_snd m _ (fun p x => ?_) _ _).trans ?_ | split | simp [*]

@[simp] theorem State.stopStream_mask (m : StateField → Bool) (s : State) (n : Nat) (h_links : m .links = true) :
    State.mask m (State.stopStream s n) = State.mask m s := by
  unfold State.stopStream
  repeat' first | (simp [*]; done) | (rw [State.mask_mk] <;> simp [*]; done) | refine (State.mask_foldl m _ (fun t x => ?_) _ _).trans ?_ | refine (State.mask_foldl_fst m _ (fun p x => ?_) _ _).trans ?_ | refine (State.mask_foldl_snd m _ (fun p x => ?_) _ _).trans ?_ | rfl | extract_lets | split | simp [*] | intro _

@[simp] theorem State.acksFirst_mask (m : StateField → Bool) (s : State) (n : Nat) (h_links : m .links = true) :
    State.mask m (State.acksFirst s n) = State.mask m s := by
  unfold State.acksFirst
  repeat' first | (simp [*]; done) | (rw [State.mask_mk] <;> simp [*]; done) | refine (State.mask_foldl m _ (fun t x => ?_) _ _).trans ?_ | refine (State.mask_foldl_fst m _ (fun p x => ?_) _ _).trans ?_ | refine (State.mask_foldl_snd m _ (fun p x => ?_) _ _).trans ?_ | split | simp [*]

@[simp] theorem State.trainLane_mask (m : StateField → Bool) (s : State) (l : Nat) (h_regs : m .regs = true) (h_lanes : m .lanes = true) (h_free : m .free = true) :
    State.mask m (State.trainLane s l) = State.mask m s := by
  unfold State.trainLane
  simp [*]

@[simp] theorem State.trainLanes_mask (m : StateField → Bool) (s : State) (n : Nat) (h_regs : m .regs = true) (h_lanes : m .lanes = true) (h_free : m .free = true) :
    State.mask m (State.trainLanes s n) = State.mask m s := by
  unfold State.trainLanes
  exact State.mask_foldl m _ (fun t x => by simp [*]) _ _

@[simp] theorem State.lanesOff_mask (m : StateField → Bool) (s : State) (n : Nat) (h_regs : m .regs = true) (h_lanes : m .lanes = true) (h_free : m .free = true) :
    State.mask m (State.lanesOff s n) = State.mask m s := by
  unfold State.lanesOff
  exact State.mask_foldl m _ (fun t x => by simp [*]) _ _

@[simp] theorem State.rerouteCell_mask (m : StateField → Bool) (s : State) (n : Nat) (c : Cell) (told : List (Nat × Nat)) (h_regs : m .regs = true) (h_kpr : m .kpr = true) (h_lanes : m .lanes = true) (h_links : m .links = true) (h_csw : m .csw = true) (h_sec : m .sec = true) (h_free : m .free = true) :
    State.mask m (State.rerouteCell s n c told).1 = State.mask m s := by
  unfold State.rerouteCell
  repeat' first | (simp [*]; done) | (rw [State.mask_mk] <;> simp [*]; done) | refine (State.mask_foldl m _ (fun t x => ?_) _ _).trans ?_ | refine (State.mask_foldl_fst m _ (fun p x => ?_) _ _).trans ?_ | refine (State.mask_foldl_snd m _ (fun p x => ?_) _ _).trans ?_ | split | simp [*]

@[simp] theorem State.dispose_mask (m : StateField → Bool) (s : State) (n : Nat) (h_regs : m .regs = true) (h_kpr : m .kpr = true) (h_lanes : m .lanes = true) (h_links : m .links = true) (h_csw : m .csw = true) (h_sec : m .sec = true) (h_free : m .free = true) :
    State.mask m (State.dispose s n) = State.mask m s := by
  unfold State.dispose
  repeat' first | (simp [*]; done) | (rw [State.mask_mk] <;> simp [*]; done) | refine (State.mask_foldl m _ (fun t x => ?_) _ _).trans ?_ | refine (State.mask_foldl_fst m _ (fun p x => ?_) _ _).trans ?_ | refine (State.mask_foldl_snd m _ (fun p x => ?_) _ _).trans ?_ | split | simp [*]

@[simp] theorem State.goDown_mask (m : StateField → Bool) (s : State) (n : Nat) (cause : Nat) (h_regs : m .regs = true) (h_kpr : m .kpr = true) (h_clk : m .clk = true) (h_lanes : m .lanes = true) (h_links : m .links = true) (h_csw : m .csw = true) (h_sec : m .sec = true) (h_free : m .free = true) :
    State.mask m (State.goDown s n cause) = State.mask m s := by
  unfold State.goDown
  simp [*]

@[simp] theorem State.startTrain_mask (m : StateField → Bool) (s : State) (n : Nat) (h_regs : m .regs = true) (h_kpr : m .kpr = true) (h_clk : m .clk = true) (h_lanes : m .lanes = true) (h_links : m .links = true) (h_csw : m .csw = true) (h_sec : m .sec = true) (h_free : m .free = true) :
    State.mask m (State.startTrain s n) = State.mask m s := by
  unfold State.startTrain
  simp [*]

@[simp] theorem State.enterRetrain_mask (m : StateField → Bool) (s : State) (n : Nat) (reason : Nat) (h_regs : m .regs = true) (h_kpr : m .kpr = true) (h_clk : m .clk = true) (h_lanes : m .lanes = true) (h_links : m .links = true) (h_csw : m .csw = true) (h_sec : m .sec = true) (h_free : m .free = true) :
    State.mask m (State.enterRetrain s n reason) = State.mask m s := by
  unfold State.enterRetrain
  simp [*]

@[simp] theorem State.erroredCell_mask (m : StateField → Bool) (s : State) (n : Nat) (h_regs : m .regs = true) (h_kpr : m .kpr = true) (h_clk : m .clk = true) (h_lanes : m .lanes = true) (h_links : m .links = true) (h_csw : m .csw = true) (h_sec : m .sec = true) (h_free : m .free = true) :
    State.mask m (State.erroredCell s n) = State.mask m s := by
  unfold State.erroredCell
  simp [*]

@[simp] theorem State.applyMap_mask (m : StateField → Bool) (s : State) (n : Nat) (ks : List Nat) (h_regs : m .regs = true) (h_lanes : m .lanes = true) (h_free : m .free = true) :
    State.mask m (State.applyMap s n ks) = State.mask m s := by
  unfold State.applyMap
  repeat' first | (simp [*]; done) | (rw [State.mask_mk] <;> simp [*]; done) | refine (State.mask_foldl m _ (fun t x => ?_) _ _).trans ?_ | refine (State.mask_foldl_fst m _ (fun p x => ?_) _ _).trans ?_ | refine (State.mask_foldl_snd m _ (fun p x => ?_) _ _).trans ?_ | split | simp [*]

@[simp] theorem State.mapRecords_mask (m : StateField → Bool) (s : State) (n : Nat) (old : List Nat) (ks : List Nat) (h_regs : m .regs = true) (h_kpr : m .kpr = true) (h_lanes : m .lanes = true) (h_links : m .links = true) (h_csw : m .csw = true) (h_sec : m .sec = true) (h_free : m .free = true) :
    State.mask m (State.mapRecords s n old ks) = State.mask m s := by
  unfold State.mapRecords
  repeat' first | (simp [*]; done) | (rw [State.mask_mk] <;> simp [*]; done) | refine (State.mask_foldl m _ (fun t x => ?_) _ _).trans ?_ | refine (State.mask_foldl_fst m _ (fun p x => ?_) _ _).trans ?_ | refine (State.mask_foldl_snd m _ (fun p x => ?_) _ _).trans ?_ | split | simp [*]

@[simp] theorem State.realign_mask (m : StateField → Bool) (s : State) (n : Nat) (h_regs : m .regs = true) (h_kpr : m .kpr = true) (h_clk : m .clk = true) (h_lanes : m .lanes = true) (h_links : m .links = true) (h_csw : m .csw = true) (h_sec : m .sec = true) (h_free : m .free = true) :
    State.mask m (State.realign s n) = State.mask m s := by
  unfold State.realign
  repeat' first | (simp [*]; done) | (rw [State.mask_mk] <;> simp [*]; done) | refine (State.mask_foldl m _ (fun t x => ?_) _ _).trans ?_ | refine (State.mask_foldl_fst m _ (fun p x => ?_) _ _).trans ?_ | refine (State.mask_foldl_snd m _ (fun p x => ?_) _ _).trans ?_ | split | simp [*]

@[simp] theorem State.failLane_mask (m : StateField → Bool) (s : State) (l : Nat) (cause : Nat) (h_regs : m .regs = true) (h_kpr : m .kpr = true) (h_clk : m .clk = true) (h_lanes : m .lanes = true) (h_links : m .links = true) (h_csw : m .csw = true) (h_sec : m .sec = true) (h_free : m .free = true) :
    State.mask m (State.failLane s l cause) = State.mask m s := by
  unfold State.failLane
  dsimp only
  split <;> (try split) <;> simp [*]

@[simp] theorem State.countWord_mask (m : StateField → Bool) (s : State) (l : Nat) (word : Option Nat) (h_regs : m .regs = true) (h_kpr : m .kpr = true) (h_clk : m .clk = true) (h_lanes : m .lanes = true) (h_links : m .links = true) (h_csw : m .csw = true) (h_sec : m .sec = true) (h_free : m .free = true) :
    State.mask m (State.countWord s l word) = State.mask m s := by
  unfold State.countWord
  repeat' first | (simp [*]; done) | (rw [State.mask_mk] <;> simp [*]; done) | refine (State.mask_foldl m _ (fun t x => ?_) _ _).trans ?_ | refine (State.mask_foldl_fst m _ (fun p x => ?_) _ _).trans ?_ | refine (State.mask_foldl_snd m _ (fun p x => ?_) _ _).trans ?_ | split | simp [*]

@[simp] theorem State.failedAttempt_mask (m : StateField → Bool) (s : State) (n : Nat) (reason : Nat) (h_regs : m .regs = true) (h_kpr : m .kpr = true) (h_clk : m .clk = true) (h_lanes : m .lanes = true) (h_links : m .links = true) (h_csw : m .csw = true) (h_sec : m .sec = true) (h_free : m .free = true) :
    State.mask m (State.failedAttempt s n reason) = State.mask m s := by
  unfold State.failedAttempt
  simp [*]

end Sys2Proof.Machine
end

