-- ==== Sys2Proof/Laws/Frame/Lane.lean ====
section
/-! SUPPORT. What each function of Machine/Lane.lean leaves alone. -/

namespace Sys2Proof.Machine

@[simp] theorem State.laneReady_mask (m : StateField → Bool) (s : State) (l : Nat) (h_regs : m .regs = true) (h_lanes : m .lanes = true) (h_free : m .free = true) :
    State.mask m (State.laneReady s l) = State.mask m s := by
  unfold State.laneReady
  simp [*]

@[simp] theorem State.judgeLock_mask (m : StateField → Bool) (s : State) (l : Nat) (h_regs : m .regs = true) (h_kpr : m .kpr = true) (h_clk : m .clk = true) (h_lanes : m .lanes = true) (h_links : m .links = true) (h_csw : m .csw = true) (h_sec : m .sec = true) (h_free : m .free = true) :
    State.mask m (State.judgeLock s l) = State.mask m s := by
  unfold State.judgeLock
  repeat' first | (simp [*]; done) | (rw [State.mask_mk] <;> simp [*]; done) | refine (State.mask_foldl m _ (fun t x => ?_) _ _).trans ?_ | refine (State.mask_foldl_fst m _ (fun p x => ?_) _ _).trans ?_ | refine (State.mask_foldl_snd m _ (fun p x => ?_) _ _).trans ?_ | split | simp [*]

@[simp] theorem State.answerDoze_mask (m : StateField → Bool) (s : State) (l : Nat) (h_lanes : m .lanes = true) (h_links : m .links = true) :
    State.mask m (State.answerDoze s l) = State.mask m s := by
  unfold State.answerDoze
  repeat' first | (simp [*]; done) | (rw [State.mask_mk] <;> simp [*]; done) | refine (State.mask_foldl m _ (fun t x => ?_) _ _).trans ?_ | refine (State.mask_foldl_fst m _ (fun p x => ?_) _ _).trans ?_ | refine (State.mask_foldl_snd m _ (fun p x => ?_) _ _).trans ?_ | split | simp [*]

@[simp] theorem State.applyHeader_mask (m : StateField → Bool) (s : State) (l : Nat) (h : BitVec 64) (h_regs : m .regs = true) (h_kpr : m .kpr = true) (h_clk : m .clk = true) (h_lanes : m .lanes = true) (h_links : m .links = true) (h_csw : m .csw = true) (h_sec : m .sec = true) (h_free : m .free = true) :
    State.mask m (State.applyHeader s l h) = State.mask m s := by
  unfold State.applyHeader
  simp [*]

@[simp] theorem State.showSkew_mask (m : StateField → Bool) (s : State) (n : Nat) (skew : Nat) (h_regs : m .regs = true) :
    State.mask m (State.showSkew s n skew) = State.mask m s := by
  unfold State.showSkew
  repeat' first | (simp [*]; done) | (rw [State.mask_mk] <;> simp [*]; done) | refine (State.mask_foldl m _ (fun t x => ?_) _ _).trans ?_ | refine (State.mask_foldl_fst m _ (fun p x => ?_) _ _).trans ?_ | refine (State.mask_foldl_snd m _ (fun p x => ?_) _ _).trans ?_ | split | simp [*]

@[simp] theorem State.takeBurst_mask (m : StateField → Bool) (s : State) (l : Nat) (ui : Nat) (h_regs : m .regs = true) (h_lanes : m .lanes = true) :
    State.mask m (State.takeBurst s l ui) = State.mask m s := by
  unfold State.takeBurst
  repeat' first | (simp [*]; done) | (rw [State.mask_mk] <;> simp [*]; done) | refine (State.mask_foldl m _ (fun t x => ?_) _ _).trans ?_ | refine (State.mask_foldl_fst m _ (fun p x => ?_) _ _).trans ?_ | refine (State.mask_foldl_snd m _ (fun p x => ?_) _ _).trans ?_ | split | simp [*]

@[simp] theorem State.applyFrame_mask (m : StateField → Bool) (s : State) (l : Nat) (frame : BitVec 2048) (ppm : BitVec 16) (h_regs : m .regs = true) (h_kpr : m .kpr = true) (h_clk : m .clk = true) (h_lanes : m .lanes = true) (h_links : m .links = true) (h_csw : m .csw = true) (h_sec : m .sec = true) (h_free : m .free = true) :
    State.mask m (State.applyFrame s l frame ppm) = State.mask m s := by
  unfold State.applyFrame
  repeat' first | (simp [*]; done) | (rw [State.mask_mk] <;> simp [*]; done) | refine (State.mask_foldl m _ (fun t x => ?_) _ _).trans ?_ | refine (State.mask_foldl_fst m _ (fun p x => ?_) _ _).trans ?_ | refine (State.mask_foldl_snd m _ (fun p x => ?_) _ _).trans ?_ | split | simp [*]

@[simp] theorem execTrainingFrameRx_mask (m : StateField → Bool) (l : LaneIx) (frame : BitVec 2048) (ppm : BitVec 16) (s : State) (h_regs : m .regs = true) (h_kpr : m .kpr = true) (h_clk : m .clk = true) (h_lanes : m .lanes = true) (h_links : m .links = true) (h_csw : m .csw = true) (h_sec : m .sec = true) (h_free : m .free = true) :
    State.Keeps m s (execTrainingFrameRx l frame ppm s) := by
  unfold execTrainingFrameRx
  simp [*]

@[simp] theorem execLaneLocked_mask (m : StateField → Bool) (l : LaneIx) (met : Bool) (s : State) (h_regs : m .regs = true) (h_kpr : m .kpr = true) (h_clk : m .clk = true) (h_lanes : m .lanes = true) (h_links : m .links = true) (h_csw : m .csw = true) (h_sec : m .sec = true) (h_free : m .free = true) :
    State.Keeps m s (execLaneLocked l met s) := by
  unfold execLaneLocked
  simp [*]

@[simp] theorem execTrainTimeout_mask (m : StateField → Bool) (l : LaneIx) (s : State) (h_regs : m .regs = true) (h_kpr : m .kpr = true) (h_clk : m .clk = true) (h_lanes : m .lanes = true) (h_links : m .links = true) (h_csw : m .csw = true) (h_sec : m .sec = true) (h_free : m .free = true) :
    State.Keeps m s (execTrainTimeout l s) := by
  unfold execTrainTimeout
  repeat' first | (simp [*]; done) | (rw [State.mask_mk] <;> simp [*]; done) | refine (State.mask_foldl m _ (fun t x => ?_) _ _).trans ?_ | refine (State.mask_foldl_fst m _ (fun p x => ?_) _ _).trans ?_ | refine (State.mask_foldl_snd m _ (fun p x => ?_) _ _).trans ?_ | split | simp [*]

@[simp] theorem execLos_mask (m : StateField → Bool) (l : LaneIx) (s : State) (h_regs : m .regs = true) (h_kpr : m .kpr = true) (h_clk : m .clk = true) (h_lanes : m .lanes = true) (h_links : m .links = true) (h_csw : m .csw = true) (h_sec : m .sec = true) (h_free : m .free = true) :
    State.Keeps m s (execLos l s) := by
  unfold execLos
  simp [*]

@[simp] theorem execLol_mask (m : StateField → Bool) (l : LaneIx) (s : State) (h_regs : m .regs = true) (h_kpr : m .kpr = true) (h_clk : m .clk = true) (h_lanes : m .lanes = true) (h_links : m .links = true) (h_csw : m .csw = true) (h_sec : m .sec = true) (h_free : m .free = true) :
    State.Keeps m s (execLol l s) := by
  unfold execLol
  simp [*]

@[simp] theorem execFecLimit_mask (m : StateField → Bool) (l : LaneIx) (word : BitVec 2720) (more : List (BitVec 2720)) (s : State) (h_regs : m .regs = true) (h_kpr : m .kpr = true) (h_clk : m .clk = true) (h_lanes : m .lanes = true) (h_links : m .links = true) (h_csw : m .csw = true) (h_sec : m .sec = true) (h_free : m .free = true) :
    State.Keeps m s (execFecLimit l word more s) := by
  unfold execFecLimit
  repeat' first | (simp [*]; done) | (rw [State.mask_mk] <;> simp [*]; done) | refine (State.mask_foldl m _ (fun t x => ?_) _ _).trans ?_ | refine (State.mask_foldl_fst m _ (fun p x => ?_) _ _).trans ?_ | refine (State.mask_foldl_snd m _ (fun p x => ?_) _ _).trans ?_ | split | simp [*]

@[simp] theorem execStandbyCheck_mask (m : StateField → Bool) (l : LaneIx) (s : State) (h_regs : m .regs = true) (h_kpr : m .kpr = true) (h_clk : m .clk = true) (h_lanes : m .lanes = true) (h_links : m .links = true) (h_csw : m .csw = true) (h_sec : m .sec = true) (h_free : m .free = true) :
    State.Keeps m s (execStandbyCheck l s) := by
  unfold execStandbyCheck
  simp [*]

@[simp] theorem execWakeFailure_mask (m : StateField → Bool) (l : LaneIx) (s : State) (h_regs : m .regs = true) (h_kpr : m .kpr = true) (h_clk : m .clk = true) (h_lanes : m .lanes = true) (h_links : m .links = true) (h_csw : m .csw = true) (h_sec : m .sec = true) (h_free : m .free = true) :
    State.Keeps m s (execWakeFailure l s) := by
  unfold execWakeFailure
  repeat' first | (simp [*]; done) | (rw [State.mask_mk] <;> simp [*]; done) | refine (State.mask_foldl m _ (fun t x => ?_) _ _).trans ?_ | refine (State.mask_foldl_fst m _ (fun p x => ?_) _ _).trans ?_ | refine (State.mask_foldl_snd m _ (fun p x => ?_) _ _).trans ?_ | split | simp [*]

@[simp] theorem State.laneForceFail_mask (m : StateField → Bool) (s : State) (l : Nat) (h_regs : m .regs = true) (h_kpr : m .kpr = true) (h_clk : m .clk = true) (h_lanes : m .lanes = true) (h_links : m .links = true) (h_csw : m .csw = true) (h_sec : m .sec = true) (h_free : m .free = true) :
    State.mask m (State.laneForceFail s l) = State.mask m s := by
  unfold State.laneForceFail
  simp [*]

@[simp] theorem State.laneClearFail_mask (m : StateField → Bool) (s : State) (l : Nat) (h_regs : m .regs = true) (h_lanes : m .lanes = true) (h_free : m .free = true) :
    State.mask m (State.laneClearFail s l) = State.mask m s := by
  unfold State.laneClearFail
  simp [*]

@[simp] theorem State.linkAskRetrain_mask (m : StateField → Bool) (s : State) (n : Nat) (h_regs : m .regs = true) (h_kpr : m .kpr = true) (h_clk : m .clk = true) (h_lanes : m .lanes = true) (h_links : m .links = true) (h_csw : m .csw = true) (h_sec : m .sec = true) (h_free : m .free = true) :
    State.mask m (State.linkAskRetrain s n) = State.mask m s := by
  unfold State.linkAskRetrain
  simp [*]

@[simp] theorem execForceFail_mask (m : StateField → Bool) (a : Source) (l : LaneIx) (s : State) (h_regs : m .regs = true) (h_kpr : m .kpr = true) (h_clk : m .clk = true) (h_lanes : m .lanes = true) (h_links : m .links = true) (h_csw : m .csw = true) (h_sec : m .sec = true) (h_script : m .script = true) (h_free : m .free = true) :
    State.Keeps m s (execForceFail a l s) := by
  unfold execForceFail
  simp [*]

@[simp] theorem execClearFail_mask (m : StateField → Bool) (a : Source) (l : LaneIx) (s : State) (h_regs : m .regs = true) (h_kpr : m .kpr = true) (h_lanes : m .lanes = true) (h_links : m .links = true) (h_csw : m .csw = true) (h_sec : m .sec = true) (h_script : m .script = true) (h_free : m .free = true) :
    State.Keeps m s (execClearFail a l s) := by
  unfold execClearFail
  simp [*]

@[simp] theorem execLaneRetrain_mask (m : StateField → Bool) (a : Source) (l : LaneIx) (s : State) (h_regs : m .regs = true) (h_kpr : m .kpr = true) (h_clk : m .clk = true) (h_lanes : m .lanes = true) (h_links : m .links = true) (h_csw : m .csw = true) (h_sec : m .sec = true) (h_script : m .script = true) (h_free : m .free = true) :
    State.Keeps m s (execLaneRetrain a l s) := by
  unfold execLaneRetrain
  simp [*]

@[simp] theorem State.linkIdles_mask (m : StateField → Bool) (s : State) (n : Nat) (h_lanes : m .lanes = true) (h_links : m .links = true) :
    State.mask m (State.linkIdles s n) = State.mask m s := by
  unfold State.linkIdles
  repeat' first | (simp [*]; done) | (rw [State.mask_mk] <;> simp [*]; done) | refine (State.mask_foldl m _ (fun t x => ?_) _ _).trans ?_ | refine (State.mask_foldl_fst m _ (fun p x => ?_) _ _).trans ?_ | refine (State.mask_foldl_snd m _ (fun p x => ?_) _ _).trans ?_ | split | simp [*]

@[simp] theorem execTxIdleEnter_mask (m : StateField → Bool) (l : LaneIx) (s : State) (h_lanes : m .lanes = true) (h_links : m .links = true) :
    State.Keeps m s (execTxIdleEnter l s) := by
  unfold execTxIdleEnter
  simp [*]

@[simp] theorem execSignalDetect_mask (m : StateField → Bool) (l : LaneIx) (s : State) (h_regs : m .regs = true) (h_kpr : m .kpr = true) (h_lanes : m .lanes = true) (h_free : m .free = true) :
    State.Keeps m s (execSignalDetect l s) := by
  unfold execSignalDetect
  dsimp only
  split <;> simp [*]

@[simp] theorem execBurstRx_mask (m : StateField → Bool) (b : Burst) (s : State) (h_regs : m .regs = true) (h_lanes : m .lanes = true) :
    State.Keeps m s (execBurstRx b s) := by
  unfold execBurstRx
  simp [*]

@[simp] theorem execRxIdleEnter_mask (m : StateField → Bool) (l : LaneIx) (s : State) (h_lanes : m .lanes = true) :
    State.Keeps m s (execRxIdleEnter l s) := by
  unfold execRxIdleEnter
  simp [*]

@[simp] theorem State.failEngine_mask (m : StateField → Bool) (s : State) (e : Nat) (module0 : Nat) (rev : Nat) (h_regs : m .regs = true) (h_kpr : m .kpr = true) (h_clk : m .clk = true) (h_lanes : m .lanes = true) (h_links : m .links = true) (h_csw : m .csw = true) (h_sec : m .sec = true) (h_free : m .free = true) :
    State.mask m (State.failEngine s e module0 rev) = State.mask m s := by
  unfold State.failEngine
  repeat' first | (simp [*]; done) | (rw [State.mask_mk] <;> simp [*]; done) | refine (State.mask_foldl m _ (fun t x => ?_) _ _).trans ?_ | refine (State.mask_foldl_fst m _ (fun p x => ?_) _ _).trans ?_ | refine (State.mask_foldl_snd m _ (fun p x => ?_) _ _).trans ?_ | split | simp [*]

@[simp] theorem State.engineReady_mask (m : StateField → Bool) (s : State) (e : Nat) (rev : Nat) (h_regs : m .regs = true) (h_kpr : m .kpr = true) (h_lanes : m .lanes = true) (h_free : m .free = true) :
    State.mask m (State.engineReady s e rev) = State.mask m s := by
  unfold State.engineReady
  repeat' first | (simp [*]; done) | (rw [State.mask_mk] <;> simp [*]; done) | refine (State.mask_foldl m _ (fun t x => ?_) _ _).trans ?_ | refine (State.mask_foldl_fst m _ (fun p x => ?_) _ _).trans ?_ | refine (State.mask_foldl_snd m _ (fun p x => ?_) _ _).trans ?_ | split | simp [*]

@[simp] theorem execEngineBringup_mask (m : StateField → Bool) (e : Fin 64) (revision : Byte) (moduleState : BitVec 3) (activated : Bool) (s : State) (h_regs : m .regs = true) (h_kpr : m .kpr = true) (h_clk : m .clk = true) (h_lanes : m .lanes = true) (h_links : m .links = true) (h_csw : m .csw = true) (h_sec : m .sec = true) (h_free : m .free = true) :
    State.Keeps m s (execEngineBringup e revision moduleState activated s) := by
  unfold execEngineBringup
  repeat' first | (simp [*]; done) | (rw [State.mask_mk] <;> simp [*]; done) | refine (State.mask_foldl m _ (fun t x => ?_) _ _).trans ?_ | refine (State.mask_foldl_fst m _ (fun p x => ?_) _ _).trans ?_ | refine (State.mask_foldl_snd m _ (fun p x => ?_) _ _).trans ?_ | split | simp [*]

@[simp] theorem State.readFlags_mask (m : StateField → Bool) (s : State) (e : Nat) (flags : Option (BitVec 160)) (h_regs : m .regs = true) (h_kpr : m .kpr = true) (h_clk : m .clk = true) (h_lanes : m .lanes = true) (h_links : m .links = true) (h_csw : m .csw = true) (h_sec : m .sec = true) (h_free : m .free = true) :
    State.mask m (State.readFlags s e flags) = State.mask m s := by
  unfold State.readFlags
  repeat' first | (simp [*]; done) | (rw [State.mask_mk] <;> simp [*]; done) | refine (State.mask_foldl m _ (fun t x => ?_) _ _).trans ?_ | refine (State.mask_foldl_fst m _ (fun p x => ?_) _ _).trans ?_ | refine (State.mask_foldl_snd m _ (fun p x => ?_) _ _).trans ?_ | extract_lets | dsimp only | split | simp [*]

@[simp] theorem execEnginePoll_mask (m : StateField → Bool) (e : Fin 64) (flags : Option (BitVec 160)) (s : State) (h_regs : m .regs = true) (h_kpr : m .kpr = true) (h_clk : m .clk = true) (h_lanes : m .lanes = true) (h_links : m .links = true) (h_csw : m .csw = true) (h_sec : m .sec = true) (h_free : m .free = true) :
    State.Keeps m s (execEnginePoll e flags s) := by
  unfold execEnginePoll
  repeat' first | (simp [*]; done) | (rw [State.mask_mk] <;> simp [*]; done) | refine (State.mask_foldl m _ (fun t x => ?_) _ _).trans ?_ | refine (State.mask_foldl_fst m _ (fun p x => ?_) _ _).trans ?_ | refine (State.mask_foldl_snd m _ (fun p x => ?_) _ _).trans ?_ | split | simp [*]

@[simp] theorem execEngineInterrupt_mask (m : StateField → Bool) (e : Fin 64) (flags : Option (BitVec 160)) (s : State) (h_regs : m .regs = true) (h_kpr : m .kpr = true) (h_clk : m .clk = true) (h_lanes : m .lanes = true) (h_links : m .links = true) (h_csw : m .csw = true) (h_sec : m .sec = true) (h_free : m .free = true) :
    State.Keeps m s (execEngineInterrupt e flags s) := by
  unfold execEngineInterrupt
  simp [*]

@[simp] theorem execCmisReadGo_mask (m : StateField → Bool) (a : Source) (value : Word) (s : State) (h_regs : m .regs = true) (h_kpr : m .kpr = true) :
    State.Keeps m s (execCmisReadGo a value s) := by
  unfold execCmisReadGo
  simp [*]

@[simp] theorem execCmisReadDone_mask (m : StateField → Bool) (b : Option Byte) (s : State) (h_regs : m .regs = true) :
    State.Keeps m s (execCmisReadDone b s) := by
  unfold execCmisReadDone
  split <;> (try split) <;> simp [*]

@[simp] theorem execScanStart_mask (m : StateField → Bool) (a : Source) (l : LaneIx) (value : Word) (s : State) (h_regs : m .regs = true) (h_kpr : m .kpr = true) (h_lanes : m .lanes = true) :
    State.Keeps m s (execScanStart a l value s) := by
  unfold execScanStart
  simp [*]

@[simp] theorem execScanStop_mask (m : StateField → Bool) (a : Source) (l : LaneIx) (s : State) (h_regs : m .regs = true) (h_kpr : m .kpr = true) (h_free : m .free = true) :
    State.Keeps m s (execScanStop a l s) := by
  unfold execScanStop
  simp [*]

@[simp] theorem execScanDone_mask (m : StateField → Bool) (l : LaneIx) (errors : Word) (s : State) (h_regs : m .regs = true) :
    State.Keeps m s (execScanDone l errors s) := by
  unfold execScanDone
  simp [*]

end Sys2Proof.Machine
end

