-- ==== Sys2Proof/Laws/Frame/Usher.lean ====
section
/-! SUPPORT. What each function of Machine/Usher.lean leaves alone. -/

namespace Sys2Proof.Machine

@[simp] theorem State.usherRefuse_mask (m : StateField → Bool) (s : State) (port : Nat) (c : Cell) (status : Nat) (reason : Nat) (member : Nat) (h_regs : m .regs = true) (h_kpr : m .kpr = true) (h_lanes : m .lanes = true) (h_links : m .links = true) (h_csw : m .csw = true) (h_sec : m .sec = true) (h_free : m .free = true) :
    State.mask m (State.usherRefuse s port c status reason member) = State.mask m s := by
  unfold State.usherRefuse
  simp [*]

end Sys2Proof.Machine
end

