-- ==== Sys2Proof/Laws/Frame/Link.lean ====
section
/-! SUPPORT. What each function of Machine/Link.lean leaves alone. -/

namespace Sys2Proof.Machine

@[simp] theorem State.receiveAck_mask (m : StateField → Bool) (s : State) (n : Nat) (c : Cell) (seq : Nat) (h_regs : m .regs = true) (h_kpr : m .kpr = true) (h_clk : m .clk = true) (h_lanes : m .lanes = true) (h_links : m .links = true) (h_csw : m .csw = true) (h_sec : m .sec = true) (h_free : m .free = true) :
    State.mask m (State.receiveAck s n c seq).2 = State.mask m s := by
  unfold State.receiveAck
  repeat' first | (simp [*]; done) | (rw [State.mask_mk] <;> simp [*]; done) | refine (State.mask_foldl m _ (fun t x => ?_) _ _).trans ?_ | refine (State.mask_foldl_fst m _ (fun p x => ?_) _ _).trans ?_ | refine (State.mask_foldl_snd m _ (fun p x => ?_) _ _).trans ?_ | split | simp [*]

@[simp] theorem State.receiveCredit_mask (m : StateField → Bool) (s : State) (n : Nat) (c : Cell) (h_regs : m .regs = true) (h_kpr : m .kpr = true) (h_lanes : m .lanes = true) (h_links : m .links = true) (h_csw : m .csw = true) (h_sec : m .sec = true) (h_free : m .free = true) :
    State.mask m (State.receiveCredit s n c) = State.mask m s := by
  unfold State.receiveCredit
  exact State.mask_foldl m _ (fun t x => by simp [*]) _ _

@[simp] theorem State.localSeq_mask (m : StateField → Bool) (s : State) (n : Nat) (c : Cell) (h_links : m .links = true) :
    State.mask m (State.localSeq s n c) = State.mask m s := by
  unfold State.localSeq
  simp [*]

@[simp] theorem State.localRx_mask (m : StateField → Bool) (s : State) (n : Nat) (c : Cell) (h_regs : m .regs = true) (h_kpr : m .kpr = true) (h_clk : m .clk = true) (h_lanes : m .lanes = true) (h_links : m .links = true) (h_csw : m .csw = true) (h_sec : m .sec = true) (h_free : m .free = true) :
    State.mask m (State.localRx s n c).2 = State.mask m s := by
  unfold State.localRx
  repeat' first | (simp [*]; done) | (rw [State.mask_mk] <;> simp [*]; done) | refine (State.mask_foldl m _ (fun t x => ?_) _ _).trans ?_ | refine (State.mask_foldl_fst m _ (fun p x => ?_) _ _).trans ?_ | refine (State.mask_foldl_snd m _ (fun p x => ?_) _ _).trans ?_ | split | simp [*]

@[simp] theorem State.passUp_mask (m : StateField → Bool) (s : State) (n : Nat) (c : Cell) (h_regs : m .regs = true) (h_kpr : m .kpr = true) (h_lanes : m .lanes = true) (h_links : m .links = true) (h_csw : m .csw = true) (h_sec : m .sec = true) (h_free : m .free = true) :
    State.mask m (State.passUp s n c) = State.mask m s := by
  unfold State.passUp
  simp [*]

@[simp] theorem State.releaseHeld_mask (m : StateField → Bool) (s : State) (n : Nat) (x1 : Nat) (h_regs : m .regs = true) (h_kpr : m .kpr = true) (h_lanes : m .lanes = true) (h_links : m .links = true) (h_csw : m .csw = true) (h_sec : m .sec = true) (h_free : m .free = true) :
    State.mask m (State.releaseHeld s n x1) = State.mask m s := by
  induction x1 generalizing s with
  | zero => rw [State.releaseHeld]
  | succ f ih =>
    rw [State.releaseHeld]
    dsimp only
    split
    · rfl
    · rw [ih]
      split <;> simp [*]

@[simp] theorem State.noteChange_mask (m : StateField → Bool) (s : State) (n : Nat) (h_links : m .links = true) :
    State.mask m (State.noteChange s n) = State.mask m s := by
  unfold State.noteChange
  repeat' first | (simp [*]; done) | (rw [State.mask_mk] <;> simp [*]; done) | refine (State.mask_foldl m _ (fun t x => ?_) _ _).trans ?_ | refine (State.mask_foldl_fst m _ (fun p x => ?_) _ _).trans ?_ | refine (State.mask_foldl_snd m _ (fun p x => ?_) _ _).trans ?_ | split | simp [*]

@[simp] theorem State.takeSequenced_mask (m : StateField → Bool) (s : State) (n : Nat) (c : Cell) (h_regs : m .regs = true) (h_kpr : m .kpr = true) (h_lanes : m .lanes = true) (h_links : m .links = true) (h_csw : m .csw = true) (h_sec : m .sec = true) (h_free : m .free = true) :
    State.mask m (State.takeSequenced s n c) = State.mask m s := by
  unfold State.takeSequenced
  extract_lets kept s1 x top s2
  have h1 : State.mask m s1 = State.mask m s := by
    unfold s1 kept
    split
    · simp [*]
    · split <;> simp [*]
  clear_value s1 top x
  have h2 : State.mask m s2 = State.mask m s1 := by unfold s2; simp [*]
  rw [State.noteChange_mask, State.releaseHeld_mask, h2, h1] <;> assumption

@[simp] theorem State.skipSequenced_mask (m : StateField → Bool) (s : State) (n : Nat) (c : Cell) (h_regs : m .regs = true) (h_kpr : m .kpr = true) (h_lanes : m .lanes = true) (h_links : m .links = true) (h_csw : m .csw = true) (h_sec : m .sec = true) (h_free : m .free = true) :
    State.mask m (State.skipSequenced s n c) = State.mask m s := by
  unfold State.skipSequenced
  repeat' first | (simp [*]; done) | (rw [State.mask_mk] <;> simp [*]; done) | refine (State.mask_foldl m _ (fun t x => ?_) _ _).trans ?_ | refine (State.mask_foldl_fst m _ (fun p x => ?_) _ _).trans ?_ | refine (State.mask_foldl_snd m _ (fun p x => ?_) _ _).trans ?_ | split | simp [*]

@[simp] theorem State.receiveSequenced_mask (m : StateField → Bool) (s : State) (n : Nat) (c : Cell) (h_regs : m .regs = true) (h_kpr : m .kpr = true) (h_clk : m .clk = true) (h_lanes : m .lanes = true) (h_links : m .links = true) (h_csw : m .csw = true) (h_sec : m .sec = true) (h_free : m .free = true) :
    State.mask m (State.receiveSequenced s n c) = State.mask m s := by
  unfold State.receiveSequenced
  repeat' first | (simp [*]; done) | (rw [State.mask_mk] <;> simp [*]; done) | refine (State.mask_foldl m _ (fun t x => ?_) _ _).trans ?_ | refine (State.mask_foldl_fst m _ (fun p x => ?_) _ _).trans ?_ | refine (State.mask_foldl_snd m _ (fun p x => ?_) _ _).trans ?_ | split | simp [*]

@[simp] theorem State.goodSlot_mask (m : StateField → Bool) (s : State) (n : Nat) (form : Nat) (c : Cell) (h_regs : m .regs = true) (h_kpr : m .kpr = true) (h_clk : m .clk = true) (h_lanes : m .lanes = true) (h_links : m .links = true) (h_csw : m .csw = true) (h_sec : m .sec = true) (h_free : m .free = true) :
    State.mask m (State.goodSlot s n form c) = State.mask m s := by
  unfold State.goodSlot
  repeat' first | (simp [*]; done) | (rw [State.mask_mk] <;> simp [*]; done) | refine (State.mask_foldl m _ (fun t x => ?_) _ _).trans ?_ | refine (State.mask_foldl_fst m _ (fun p x => ?_) _ _).trans ?_ | refine (State.mask_foldl_snd m _ (fun p x => ?_) _ _).trans ?_ | split | simp [*]

@[simp] theorem State.receiveSlot_mask (m : StateField → Bool) (s : State) (n : Nat) (form : Nat) (slot : BitVec 768) (decoded : Bool) (h_regs : m .regs = true) (h_kpr : m .kpr = true) (h_clk : m .clk = true) (h_lanes : m .lanes = true) (h_links : m .links = true) (h_csw : m .csw = true) (h_sec : m .sec = true) (h_free : m .free = true) :
    State.mask m (State.receiveSlot s n form slot decoded) = State.mask m s := by
  unfold State.receiveSlot
  repeat' first | (simp [*]; done) | (rw [State.mask_mk] <;> simp [*]; done) | refine (State.mask_foldl m _ (fun t x => ?_) _ _).trans ?_ | refine (State.mask_foldl_fst m _ (fun p x => ?_) _ _).trans ?_ | refine (State.mask_foldl_snd m _ (fun p x => ?_) _ _).trans ?_ | split | simp [*]

@[simp] theorem execSequencedCellRx_mask (m : StateField → Bool) (n : LinkIx) (form : BitVec 2) (parts : List SlotPart) (s : State) (h_regs : m .regs = true) (h_kpr : m .kpr = true) (h_clk : m .clk = true) (h_lanes : m .lanes = true) (h_links : m .links = true) (h_csw : m .csw = true) (h_sec : m .sec = true) (h_free : m .free = true) :
    State.Keeps m s (execSequencedCellRx n form parts s) := by
  unfold execSequencedCellRx
  repeat' first | (simp [*]; done) | (rw [State.mask_mk] <;> simp [*]; done) | refine (State.mask_foldl m _ (fun t x => ?_) _ _).trans ?_ | refine (State.mask_foldl_fst m _ (fun p x => ?_) _ _).trans ?_ | refine (State.mask_foldl_snd m _ (fun p x => ?_) _ _).trans ?_ | split | simp [*]

@[simp] theorem State.onLink_mask (m : StateField → Bool) (s : State) (n : Nat) (c : Cell) (f : State → State) (hf : ∀ t, (f t).mask m = t.mask m) (h_regs : m .regs = true) (h_kpr : m .kpr = true) (h_clk : m .clk = true) (h_lanes : m .lanes = true) (h_links : m .links = true) (h_csw : m .csw = true) (h_sec : m .sec = true) (h_free : m .free = true) :
    State.mask m (State.onLink s n c f) = State.mask m s := by
  unfold State.onLink
  simp [*]

@[simp] theorem execNullCellRx_mask (m : StateField → Bool) (n : LinkIx) (c : Cell) (s : State) (h_regs : m .regs = true) (h_kpr : m .kpr = true) (h_clk : m .clk = true) (h_lanes : m .lanes = true) (h_links : m .links = true) (h_csw : m .csw = true) (h_sec : m .sec = true) (h_free : m .free = true) :
    State.Keeps m s (execNullCellRx n c s) := by
  unfold execNullCellRx
  simp [*]

@[simp] theorem execAckCellRx_mask (m : StateField → Bool) (n : LinkIx) (c : Cell) (s : State) (h_regs : m .regs = true) (h_kpr : m .kpr = true) (h_clk : m .clk = true) (h_lanes : m .lanes = true) (h_links : m .links = true) (h_csw : m .csw = true) (h_sec : m .sec = true) (h_free : m .free = true) :
    State.Keeps m s (execAckCellRx n c s) := by
  unfold execAckCellRx
  simp [*]

@[simp] theorem execCreditCellRx_mask (m : StateField → Bool) (n : LinkIx) (c : Cell) (s : State) (h_regs : m .regs = true) (h_kpr : m .kpr = true) (h_clk : m .clk = true) (h_lanes : m .lanes = true) (h_links : m .links = true) (h_csw : m .csw = true) (h_sec : m .sec = true) (h_free : m .free = true) :
    State.Keeps m s (execCreditCellRx n c s) := by
  unfold execCreditCellRx
  simp [*]

@[simp] theorem execRetrainCellRx_mask (m : StateField → Bool) (n : LinkIx) (c : Cell) (s : State) (h_regs : m .regs = true) (h_kpr : m .kpr = true) (h_clk : m .clk = true) (h_lanes : m .lanes = true) (h_links : m .links = true) (h_csw : m .csw = true) (h_sec : m .sec = true) (h_free : m .free = true) :
    State.Keeps m s (execRetrainCellRx n c s) := by
  unfold execRetrainCellRx
  simp [*]

@[simp] theorem execProtestRx_mask (m : StateField → Bool) (n : LinkIx) (c : Cell) (s : State) (h_regs : m .regs = true) (h_kpr : m .kpr = true) (h_clk : m .clk = true) (h_lanes : m .lanes = true) (h_links : m .links = true) (h_csw : m .csw = true) (h_sec : m .sec = true) (h_free : m .free = true) :
    State.Keeps m s (execProtestRx n c s) := by
  unfold execProtestRx
  simp [*]

@[simp] theorem State.noteSync_mask (m : StateField → Bool) (s : State) (n : Nat) (c : Cell) (h_clk : m .clk = true) :
    State.mask m (State.noteSync s n c) = State.mask m s := by
  unfold State.noteSync
  repeat' first | (simp [*]; done) | (rw [State.mask_mk] <;> simp [*]; done) | refine (State.mask_foldl m _ (fun t x => ?_) _ _).trans ?_ | refine (State.mask_foldl_fst m _ (fun p x => ?_) _ _).trans ?_ | refine (State.mask_foldl_snd m _ (fun p x => ?_) _ _).trans ?_ | split | simp [*]

@[simp] theorem State.noteSend_mask (m : StateField → Bool) (s : State) (n : Nat) (c : Cell) (h_links : m .links = true) :
    State.mask m (State.noteSend s n c) = State.mask m s := by
  unfold State.noteSend
  repeat' first | (simp [*]; done) | (rw [State.mask_mk] <;> simp [*]; done) | refine (State.mask_foldl m _ (fun t x => ?_) _ _).trans ?_ | refine (State.mask_foldl_fst m _ (fun p x => ?_) _ _).trans ?_ | refine (State.mask_foldl_snd m _ (fun p x => ?_) _ _).trans ?_ | split | simp [*]

@[simp] theorem State.sendLocal_mask (m : StateField → Bool) (s : State) (n : Nat) (c : Cell) (h_links : m .links = true) :
    State.mask m (State.sendLocal s n c) = State.mask m s := by
  unfold State.sendLocal
  simp [*]

@[simp] theorem State.sendFreed_mask (m : StateField → Bool) (s : State) (n : Nat) (typ : Nat) (h_links : m .links = true) :
    State.mask m (State.sendFreed s n typ) = State.mask m s := by
  unfold State.sendFreed
  simp [*]

@[simp] theorem State.sendNew_mask (m : StateField → Bool) (s : State) (n : Nat) (c0 : Cell) (h_regs : m .regs = true) (h_clk : m .clk = true) (h_links : m .links = true) :
    State.mask m (State.sendNew s n c0) = State.mask m s := by
  unfold State.sendNew
  simp [*]

@[simp] theorem State.sendAgain_mask (m : StateField → Bool) (s : State) (n : Nat) (r : Replay) (h_regs : m .regs = true) (h_clk : m .clk = true) (h_links : m .links = true) :
    State.mask m (State.sendAgain s n r) = State.mask m s := by
  unfold State.sendAgain
  simp [*]

@[simp] theorem State.leaveIdle_mask (m : StateField → Bool) (s : State) (n : Nat) (h_regs : m .regs = true) (h_kpr : m .kpr = true) (h_lanes : m .lanes = true) (h_free : m .free = true) :
    State.mask m (State.leaveIdle s n) = State.mask m s := by
  unfold State.leaveIdle
  exact State.mask_foldl m _ (fun t x => by simp [*]) _ _

@[simp] theorem State.sendNull_mask (m : StateField → Bool) (s : State) (n : Nat) (h_links : m .links = true) :
    State.mask m (State.sendNull s n) = State.mask m s := by
  unfold State.sendNull
  repeat' first | (simp [*]; done) | (rw [State.mask_mk] <;> simp [*]; done) | refine (State.mask_foldl m _ (fun t x => ?_) _ _).trans ?_ | refine (State.mask_foldl_fst m _ (fun p x => ?_) _ _).trans ?_ | refine (State.mask_foldl_snd m _ (fun p x => ?_) _ _).trans ?_ | split | simp [*]

@[simp] theorem State.fillSlot_mask (m : StateField → Bool) (s : State) (n : Nat) (h_regs : m .regs = true) (h_kpr : m .kpr = true) (h_clk : m .clk = true) (h_lanes : m .lanes = true) (h_links : m .links = true) (h_free : m .free = true) :
    State.mask m (State.fillSlot s n) = State.mask m s := by
  unfold State.fillSlot
  repeat' first | (simp [*]; done) | (rw [State.mask_mk] <;> simp [*]; done) | refine (State.mask_foldl m _ (fun t x => ?_) _ _).trans ?_ | refine (State.mask_foldl_fst m _ (fun p x => ?_) _ _).trans ?_ | refine (State.mask_foldl_snd m _ (fun p x => ?_) _ _).trans ?_ | split | simp [*]

@[simp] theorem State.sendFrames_mask (m : StateField → Bool) (s : State) (n : Nat) (h_lanes : m .lanes = true) :
    State.mask m (State.sendFrames s n) = State.mask m s := by
  unfold State.sendFrames
  repeat' first | (simp [*]; done) | (rw [State.mask_mk] <;> simp [*]; done) | refine (State.mask_foldl m _ (fun t x => ?_) _ _).trans ?_ | refine (State.mask_foldl_fst m _ (fun p x => ?_) _ _).trans ?_ | refine (State.mask_foldl_snd m _ (fun p x => ?_) _ _).trans ?_ | split | simp [*]

@[simp] theorem State.checkPeer_mask (m : StateField → Bool) (s : State) (n : Nat) (p : Line) (h_regs : m .regs = true) (h_kpr : m .kpr = true) (h_lanes : m .lanes = true) (h_links : m .links = true) (h_csw : m .csw = true) (h_sec : m .sec = true) (h_free : m .free = true) :
    State.mask m (State.checkPeer s n p) = State.mask m s := by
  unfold State.checkPeer
  repeat' first | (simp [*]; done) | (rw [State.mask_mk] <;> simp [*]; done) | refine (State.mask_foldl m _ (fun t x => ?_) _ _).trans ?_ | refine (State.mask_foldl_fst m _ (fun p x => ?_) _ _).trans ?_ | refine (State.mask_foldl_snd m _ (fun p x => ?_) _ _).trans ?_ | split | simp [*]

@[simp] theorem State.checkIdent_mask (m : StateField → Bool) (s : State) (n : Nat) (p : Line) (h_regs : m .regs = true) (h_kpr : m .kpr = true) (h_plt : m .plt = true) (h_lanes : m .lanes = true) (h_links : m .links = true) (h_csw : m .csw = true) (h_sec : m .sec = true) (h_free : m .free = true) :
    State.mask m (State.checkIdent s n p) = State.mask m s := by
  unfold State.checkIdent
  simp [*]

@[simp] theorem State.completeIdent_mask (m : StateField → Bool) (s : State) (n : Nat) (p : Line) (h_regs : m .regs = true) (h_kpr : m .kpr = true) (h_plt : m .plt = true) (h_clk : m .clk = true) (h_lanes : m .lanes = true) (h_links : m .links = true) (h_csw : m .csw = true) (h_sec : m .sec = true) (h_free : m .free = true) :
    State.mask m (State.completeIdent s n p) = State.mask m s := by
  unfold State.completeIdent
  repeat' first | (simp [*]; done) | (rw [State.mask_mk] <;> simp [*]; done) | refine (State.mask_foldl m _ (fun t x => ?_) _ _).trans ?_ | refine (State.mask_foldl_fst m _ (fun p x => ?_) _ _).trans ?_ | refine (State.mask_foldl_snd m _ (fun p x => ?_) _ _).trans ?_ | split | simp [*]

@[simp] theorem State.tryComplete_mask (m : StateField → Bool) (s : State) (n : Nat) (h_regs : m .regs = true) (h_kpr : m .kpr = true) (h_plt : m .plt = true) (h_clk : m .clk = true) (h_lanes : m .lanes = true) (h_links : m .links = true) (h_csw : m .csw = true) (h_sec : m .sec = true) (h_free : m .free = true) :
    State.mask m (State.tryComplete s n) = State.mask m s := by
  unfold State.tryComplete
  repeat' first | (simp [*]; done) | (rw [State.mask_mk] <;> simp [*]; done) | refine (State.mask_foldl m _ (fun t x => ?_) _ _).trans ?_ | refine (State.mask_foldl_fst m _ (fun p x => ?_) _ _).trans ?_ | refine (State.mask_foldl_snd m _ (fun p x => ?_) _ _).trans ?_ | split | simp [*]

@[simp] theorem State.sendIdent_mask (m : StateField → Bool) (s : State) (n : Nat) (h_regs : m .regs = true) (h_kpr : m .kpr = true) (h_plt : m .plt = true) (h_clk : m .clk = true) (h_lanes : m .lanes = true) (h_links : m .links = true) (h_csw : m .csw = true) (h_sec : m .sec = true) (h_free : m .free = true) :
    State.mask m (State.sendIdent s n) = State.mask m s := by
  unfold State.sendIdent
  simp [*]

@[simp] theorem State.sendControl_mask (m : StateField → Bool) (s : State) (n : Nat) (h_regs : m .regs = true) (h_clk : m .clk = true) (h_links : m .links = true) :
    State.mask m (State.sendControl s n) = State.mask m s := by
  unfold State.sendControl
  repeat' first | (simp [*]; done) | (rw [State.mask_mk] <;> simp [*]; done) | refine (State.mask_foldl m _ (fun t x => ?_) _ _).trans ?_ | refine (State.mask_foldl_fst m _ (fun p x => ?_) _ _).trans ?_ | refine (State.mask_foldl_snd m _ (fun p x => ?_) _ _).trans ?_ | split | simp [*]

@[simp] theorem execLinkTxSlot_mask (m : StateField → Bool) (n : LinkIx) (s : State) (h_regs : m .regs = true) (h_kpr : m .kpr = true) (h_plt : m .plt = true) (h_clk : m .clk = true) (h_lanes : m .lanes = true) (h_links : m .links = true) (h_csw : m .csw = true) (h_sec : m .sec = true) (h_free : m .free = true) :
    State.Keeps m s (execLinkTxSlot n s) := by
  unfold execLinkTxSlot
  repeat' first | (simp [*]; done) | (rw [State.mask_mk] <;> simp [*]; done) | refine (State.mask_foldl m _ (fun t x => ?_) _ _).trans ?_ | refine (State.mask_foldl_fst m _ (fun p x => ?_) _ _).trans ?_ | refine (State.mask_foldl_snd m _ (fun p x => ?_) _ _).trans ?_ | split | simp [*]

@[simp] theorem State.takeIdent_mask (m : StateField → Bool) (s : State) (n : Nat) (p : Line) (h_regs : m .regs = true) (h_kpr : m .kpr = true) (h_plt : m .plt = true) (h_clk : m .clk = true) (h_lanes : m .lanes = true) (h_links : m .links = true) (h_csw : m .csw = true) (h_sec : m .sec = true) (h_free : m .free = true) :
    State.mask m (State.takeIdent s n p) = State.mask m s := by
  unfold State.takeIdent
  repeat' first | (simp [*]; done) | (rw [State.mask_mk] <;> simp [*]; done) | refine (State.mask_foldl m _ (fun t x => ?_) _ _).trans ?_ | refine (State.mask_foldl_fst m _ (fun p x => ?_) _ _).trans ?_ | refine (State.mask_foldl_snd m _ (fun p x => ?_) _ _).trans ?_ | split | simp [*]

@[simp] theorem execIdentRx_mask (m : StateField → Bool) (n : LinkIx) (c : Cell) (s : State) (h_regs : m .regs = true) (h_kpr : m .kpr = true) (h_plt : m .plt = true) (h_clk : m .clk = true) (h_lanes : m .lanes = true) (h_links : m .links = true) (h_csw : m .csw = true) (h_sec : m .sec = true) (h_free : m .free = true) :
    State.Keeps m s (execIdentRx n c s) := by
  unfold execIdentRx
  repeat' first | (simp [*]; done) | (rw [State.mask_mk] <;> simp [*]; done) | refine (State.mask_foldl m _ (fun t x => ?_) _ _).trans ?_ | refine (State.mask_foldl_fst m _ (fun p x => ?_) _ _).trans ?_ | refine (State.mask_foldl_snd m _ (fun p x => ?_) _ _).trans ?_ | split | simp [*]

@[simp] theorem execTrainComplete_mask (m : StateField → Bool) (n : LinkIx) (s : State) (h_regs : m .regs = true) (h_kpr : m .kpr = true) (h_clk : m .clk = true) (h_lanes : m .lanes = true) (h_links : m .links = true) (h_csw : m .csw = true) (h_sec : m .sec = true) (h_free : m .free = true) :
    State.Keeps m s (execTrainComplete n s) := by
  unfold execTrainComplete
  simp [*]

@[simp] theorem execIdentLimit_mask (m : StateField → Bool) (n : LinkIx) (s : State) (h_regs : m .regs = true) (h_kpr : m .kpr = true) (h_clk : m .clk = true) (h_lanes : m .lanes = true) (h_links : m .links = true) (h_csw : m .csw = true) (h_sec : m .sec = true) (h_free : m .free = true) :
    State.Keeps m s (execIdentLimit n s) := by
  unfold execIdentLimit
  simp [*]

@[simp] theorem execRetrainLimit_mask (m : StateField → Bool) (n : LinkIx) (s : State) (h_regs : m .regs = true) (h_kpr : m .kpr = true) (h_clk : m .clk = true) (h_lanes : m .lanes = true) (h_links : m .links = true) (h_csw : m .csw = true) (h_sec : m .sec = true) (h_free : m .free = true) :
    State.Keeps m s (execRetrainLimit n s) := by
  unfold execRetrainLimit
  simp [*]

@[simp] theorem execRealignDone_mask (m : StateField → Bool) (n : LinkIx) (words : List (Fin 9 × BitVec 2720)) (s : State) (h_regs : m .regs = true) (h_kpr : m .kpr = true) (h_clk : m .clk = true) (h_lanes : m .lanes = true) (h_links : m .links = true) (h_csw : m .csw = true) (h_sec : m .sec = true) (h_free : m .free = true) :
    State.Keeps m s (execRealignDone n words s) := by
  unfold execRealignDone
  repeat' first | (simp [*]; done) | (rw [State.mask_mk] <;> simp [*]; done) | refine (State.mask_foldl m _ (fun t x => ?_) _ _).trans ?_ | refine (State.mask_foldl_fst m _ (fun p x => ?_) _ _).trans ?_ | refine (State.mask_foldl_snd m _ (fun p x => ?_) _ _).trans ?_ | split | simp [*]

@[simp] theorem execRealignTimeout_mask (m : StateField → Bool) (n : LinkIx) (s : State) (h_regs : m .regs = true) (h_kpr : m .kpr = true) (h_clk : m .clk = true) (h_lanes : m .lanes = true) (h_links : m .links = true) (h_csw : m .csw = true) (h_sec : m .sec = true) (h_free : m .free = true) :
    State.Keeps m s (execRealignTimeout n s) := by
  unfold execRealignTimeout
  simp [*]

@[simp] theorem execReplayTimeout_mask (m : StateField → Bool) (n : LinkIx) (s : State) (h_regs : m .regs = true) (h_kpr : m .kpr = true) (h_clk : m .clk = true) (h_lanes : m .lanes = true) (h_links : m .links = true) (h_csw : m .csw = true) (h_sec : m .sec = true) (h_free : m .free = true) :
    State.Keeps m s (execReplayTimeout n s) := by
  unfold execReplayTimeout
  dsimp only
  split <;> simp [*]

@[simp] theorem execAckDelay_mask (m : StateField → Bool) (n : LinkIx) (s : State) (h_regs : m .regs = true) (h_kpr : m .kpr = true) (h_lanes : m .lanes = true) (h_links : m .links = true) (h_free : m .free = true) :
    State.Keeps m s (execAckDelay n s) := by
  unfold execAckDelay
  repeat' first | (simp [*]; done) | (rw [State.mask_mk] <;> simp [*]; done) | refine (State.mask_foldl m _ (fun t x => ?_) _ _).trans ?_ | refine (State.mask_foldl_fst m _ (fun p x => ?_) _ _).trans ?_ | refine (State.mask_foldl_snd m _ (fun p x => ?_) _ _).trans ?_ | split | simp [*]

@[simp] theorem State.linkRestart_mask (m : StateField → Bool) (s : State) (n : Nat) (h_regs : m .regs = true) (h_kpr : m .kpr = true) (h_clk : m .clk = true) (h_lanes : m .lanes = true) (h_links : m .links = true) (h_csw : m .csw = true) (h_sec : m .sec = true) (h_free : m .free = true) :
    State.mask m (State.linkRestart s n) = State.mask m s := by
  unfold State.linkRestart
  simp [*]

@[simp] theorem State.linkForceDown_mask (m : StateField → Bool) (s : State) (n : Nat) (h_regs : m .regs = true) (h_kpr : m .kpr = true) (h_clk : m .clk = true) (h_lanes : m .lanes = true) (h_links : m .links = true) (h_csw : m .csw = true) (h_sec : m .sec = true) (h_free : m .free = true) :
    State.mask m (State.linkForceDown s n) = State.mask m s := by
  unfold State.linkForceDown
  simp [*]

@[simp] theorem State.linkClearRestrict_mask (m : StateField → Bool) (s : State) (n : Nat) (h_regs : m .regs = true) (h_kpr : m .kpr = true) (h_lanes : m .lanes = true) (h_links : m .links = true) (h_csw : m .csw = true) (h_sec : m .sec = true) (h_free : m .free = true) :
    State.mask m (State.linkClearRestrict s n) = State.mask m s := by
  unfold State.linkClearRestrict
  simp [*]

@[simp] theorem execLinkRetrain_mask (m : StateField → Bool) (a : Source) (n : LinkIx) (s : State) (h_regs : m .regs = true) (h_kpr : m .kpr = true) (h_clk : m .clk = true) (h_lanes : m .lanes = true) (h_links : m .links = true) (h_csw : m .csw = true) (h_sec : m .sec = true) (h_script : m .script = true) (h_free : m .free = true) :
    State.Keeps m s (execLinkRetrain a n s) := by
  unfold execLinkRetrain
  simp [*]

@[simp] theorem execRestart_mask (m : StateField → Bool) (a : Source) (n : LinkIx) (s : State) (h_regs : m .regs = true) (h_kpr : m .kpr = true) (h_clk : m .clk = true) (h_lanes : m .lanes = true) (h_links : m .links = true) (h_csw : m .csw = true) (h_sec : m .sec = true) (h_script : m .script = true) (h_free : m .free = true) :
    State.Keeps m s (execRestart a n s) := by
  unfold execRestart
  simp [*]

@[simp] theorem execForceDown_mask (m : StateField → Bool) (a : Source) (n : LinkIx) (s : State) (h_regs : m .regs = true) (h_kpr : m .kpr = true) (h_clk : m .clk = true) (h_lanes : m .lanes = true) (h_links : m .links = true) (h_csw : m .csw = true) (h_sec : m .sec = true) (h_script : m .script = true) (h_free : m .free = true) :
    State.Keeps m s (execForceDown a n s) := by
  unfold execForceDown
  simp [*]

@[simp] theorem execClearRestrict_mask (m : StateField → Bool) (a : Source) (n : LinkIx) (s : State) (h_regs : m .regs = true) (h_kpr : m .kpr = true) (h_lanes : m .lanes = true) (h_links : m .links = true) (h_csw : m .csw = true) (h_sec : m .sec = true) (h_script : m .script = true) (h_free : m .free = true) :
    State.Keeps m s (execClearRestrict a n s) := by
  unfold execClearRestrict
  simp [*]

@[simp] theorem State.startDrain_mask (m : StateField → Bool) (s : State) (n : Nat) (h_links : m .links = true) :
    State.mask m (State.startDrain s n) = State.mask m s := by
  unfold State.startDrain
  simp [*]

@[simp] theorem execLinkDisable_mask (m : StateField → Bool) (a : Source) (n : LinkIx) (value : Word) (s : State) (h_regs : m .regs = true) (h_kpr : m .kpr = true) (h_lanes : m .lanes = true) (h_links : m .links = true) (h_csw : m .csw = true) (h_sec : m .sec = true) (h_script : m .script = true) (h_free : m .free = true) :
    State.Keeps m s (execLinkDisable a n value s) := by
  unfold execLinkDisable
  simp [*]

@[simp] theorem execLinkEnable_mask (m : StateField → Bool) (a : Source) (n : LinkIx) (value : Word) (s : State) (h_regs : m .regs = true) (h_kpr : m .kpr = true) (h_clk : m .clk = true) (h_lanes : m .lanes = true) (h_links : m .links = true) (h_csw : m .csw = true) (h_sec : m .sec = true) (h_script : m .script = true) (h_free : m .free = true) :
    State.Keeps m s (execLinkEnable a n value s) := by
  unfold execLinkEnable
  simp [*]

@[simp] theorem execLinkDrainDeadline_mask (m : StateField → Bool) (n : LinkIx) (s : State) (h_regs : m .regs = true) (h_kpr : m .kpr = true) (h_clk : m .clk = true) (h_lanes : m .lanes = true) (h_links : m .links = true) (h_csw : m .csw = true) (h_sec : m .sec = true) (h_free : m .free = true) :
    State.Keeps m s (execLinkDrainDeadline n s) := by
  unfold execLinkDrainDeadline
  extract_lets x s0 s1 s2 s3
  split
  · rfl
  · split
    · rfl
    · have h0 : State.mask m s0.1 = State.mask m s := by
        unfold s0
        refine (State.mask_foldl_fst m _ (fun p x => ?_) _ _).trans ?_ <;> simp [*]
      have h1 : State.mask m s1 = State.mask m s0.1 := by
        unfold s1
        refine (State.mask_foldl_fst m _ (fun p x => ?_) _ _).trans ?_ <;> simp [*]
      have h2 : State.mask m s2 = State.mask m s1 := by unfold s2; simp [*]
      have h3 : State.mask m s3 = State.mask m s2 := by unfold s3; simp [*]
      rw [State.keeps_next]
      split
      · rw [State.leaveUp_mask, h3, h2, h1, h0] <;> assumption
      · rw [h3, h2, h1, h0]

end Sys2Proof.Machine
end

