-- ==== Sys2Proof/Laws/Frame/Faults.lean ====
section
/-! SUPPORT. What each function of Machine/Faults.lean leaves alone. -/

namespace Sys2Proof.Machine

@[simp] theorem State.railBreak_mask (m : StateField → Bool) (s : State) (src : Nat) (h_regs : m .regs = true) (h_kpr : m .kpr = true) (h_lanes : m .lanes = true) (h_links : m .links = true) (h_csw : m .csw = true) (h_sec : m .sec = true) (h_free : m .free = true) :
    State.mask m (State.railBreak s src) = State.mask m s := by
  unfold State.railBreak
  simp [*]

@[simp] theorem State.pairBroken_mask (m : StateField → Bool) (s : State) (src : Nat) (h_regs : m .regs = true) (h_kpr : m .kpr = true) (h_lanes : m .lanes = true) (h_links : m .links = true) (h_csw : m .csw = true) (h_sec : m .sec = true) (h_free : m .free = true) :
    State.mask m (State.pairBroken s src) = State.mask m s := by
  unfold State.pairBroken
  repeat' first | (simp [*]; done) | (rw [State.mask_mk] <;> simp [*]; done) | refine (State.mask_foldl m _ (fun t x => ?_) _ _).trans ?_ | refine (State.mask_foldl_fst m _ (fun p x => ?_) _ _).trans ?_ | refine (State.mask_foldl_snd m _ (fun p x => ?_) _ _).trans ?_ | split | simp [*]

@[simp] theorem State.equalReading_mask (m : StateField → Bool) (s : State) (src : Nat) (h_regs : m .regs = true) (h_kpr : m .kpr = true) (h_lanes : m .lanes = true) (h_links : m .links = true) (h_csw : m .csw = true) (h_sec : m .sec = true) (h_free : m .free = true) :
    State.mask m (State.equalReading s src) = State.mask m s := by
  unfold State.equalReading
  repeat' first | (simp [*]; done) | (rw [State.mask_mk] <;> simp [*]; done) | refine (State.mask_foldl m _ (fun t x => ?_) _ _).trans ?_ | refine (State.mask_foldl_fst m _ (fun p x => ?_) _ _).trans ?_ | refine (State.mask_foldl_snd m _ (fun p x => ?_) _ _).trans ?_ | split | simp [*]

@[simp] theorem State.pairReads_mask (m : StateField → Bool) (s : State) (src : Nat) (h_regs : m .regs = true) (h_kpr : m .kpr = true) :
    State.mask m (State.pairReads s src) = State.mask m s := by
  unfold State.pairReads
  repeat' first | (simp [*]; done) | (rw [State.mask_mk] <;> simp [*]; done) | refine (State.mask_foldl m _ (fun t x => ?_) _ _).trans ?_ | refine (State.mask_foldl_fst m _ (fun p x => ?_) _ _).trans ?_ | refine (State.mask_foldl_snd m _ (fun p x => ?_) _ _).trans ?_ | split | simp [*]

@[simp] theorem execRailBreak_mask (m : StateField → Bool) (src : Fin 2048) (s : State) (h_regs : m .regs = true) (h_kpr : m .kpr = true) (h_lanes : m .lanes = true) (h_links : m .links = true) (h_csw : m .csw = true) (h_sec : m .sec = true) (h_free : m .free = true) :
    State.Keeps m s (execRailBreak src s) := by
  unfold execRailBreak
  repeat' first | (simp [*]; done) | (rw [State.mask_mk] <;> simp [*]; done) | refine (State.mask_foldl m _ (fun t x => ?_) _ _).trans ?_ | refine (State.mask_foldl_fst m _ (fun p x => ?_) _ _).trans ?_ | refine (State.mask_foldl_snd m _ (fun p x => ?_) _ _).trans ?_ | split | simp [*]

@[simp] theorem execRailTest_mask (m : StateField → Bool) (src : Fin 2048) (first : BitVec 2) (second : BitVec 2) (s : State) (h_regs : m .regs = true) (h_kpr : m .kpr = true) (h_lanes : m .lanes = true) (h_links : m .links = true) (h_csw : m .csw = true) (h_sec : m .sec = true) (h_free : m .free = true) :
    State.Keeps m s (execRailTest src first second s) := by
  unfold execRailTest
  repeat' first | (simp [*]; done) | (rw [State.mask_mk] <;> simp [*]; done) | refine (State.mask_foldl m _ (fun t x => ?_) _ _).trans ?_ | refine (State.mask_foldl_fst m _ (fun p x => ?_) _ _).trans ?_ | refine (State.mask_foldl_snd m _ (fun p x => ?_) _ _).trans ?_ | split | simp [*]

@[simp] theorem execFaultActiveClear_mask (m : StateField → Bool) (a : Source) (word : Fin 4) (value : Word) (s : State) (h_regs : m .regs = true) (h_kpr : m .kpr = true) :
    State.Keeps m s (execFaultActiveClear a word value s) := by
  unfold execFaultActiveClear
  simp [*]

@[simp] theorem execPowerFailWarning_mask (m : StateField → Bool) (s : State) (h_regs : m .regs = true) (h_kpr : m .kpr = true) (h_lanes : m .lanes = true) (h_links : m .links = true) (h_csw : m .csw = true) (h_sec : m .sec = true) (h_free : m .free = true) :
    State.Keeps m s (execPowerFailWarning s) := by
  unfold execPowerFailWarning
  simp [*]

@[simp] theorem execRefClockLost_mask (m : StateField → Bool) (s : State) (h_regs : m .regs = true) (h_kpr : m .kpr = true) (h_lanes : m .lanes = true) (h_links : m .links = true) (h_csw : m .csw = true) (h_sec : m .sec = true) (h_free : m .free = true) :
    State.Keeps m s (execRefClockLost s) := by
  unfold execRefClockLost
  simp [*]

@[simp] theorem execTempSample_mask (m : StateField → Bool) (temps : Vector (BitVec 12) 8) (s : State) (h_regs : m .regs = true) (h_kpr : m .kpr = true) (h_lanes : m .lanes = true) (h_links : m .links = true) (h_csw : m .csw = true) (h_sec : m .sec = true) (h_free : m .free = true) :
    State.Keeps m s (execTempSample temps s) := by
  unfold execTempSample
  repeat' first | (simp [*]; done) | (rw [State.mask_mk] <;> simp [*]; done) | refine (State.mask_foldl m _ (fun t x => ?_) _ _).trans ?_ | refine (State.mask_foldl_fst m _ (fun p x => ?_) _ _).trans ?_ | refine (State.mask_foldl_snd m _ (fun p x => ?_) _ _).trans ?_ | rfl | extract_lets | split | simp [*] | intro _

@[simp] theorem execThrottleStep_mask (m : StateField → Bool) (s : State) (h_kpr : m .kpr = true) :
    State.Keeps m s (execThrottleStep s) := by
  unfold execThrottleStep
  repeat' first | (simp [*]; done) | (rw [State.mask_mk] <;> simp [*]; done) | refine (State.mask_foldl m _ (fun t x => ?_) _ _).trans ?_ | refine (State.mask_foldl_fst m _ (fun p x => ?_) _ _).trans ?_ | refine (State.mask_foldl_snd m _ (fun p x => ?_) _ _).trans ?_ | split | simp [*]

@[simp] theorem execSidebandInput_mask (m : StateField → Bool) (i : Sideband) (s : State) (h_regs : m .regs = true) (h_kpr : m .kpr = true) :
    State.Keeps m s (execSidebandInput i s) := by
  unfold execSidebandInput
  repeat' first | (simp [*]; done) | (rw [State.mask_mk] <;> simp [*]; done) | refine (State.mask_foldl m _ (fun t x => ?_) _ _).trans ?_ | refine (State.mask_foldl_fst m _ (fun p x => ?_) _ _).trans ?_ | refine (State.mask_foldl_snd m _ (fun p x => ?_) _ _).trans ?_ | split | simp [*]

@[simp] theorem State.dozeLane_mask (m : StateField → Bool) (s : State) (l : Nat) (h_lanes : m .lanes = true) :
    State.mask m (State.dozeLane s l) = State.mask m s := by
  unfold State.dozeLane
  simp [*]

@[simp] theorem State.gateLane_mask (m : StateField → Bool) (s : State) (l : Nat) (h_regs : m .regs = true) (h_kpr : m .kpr = true) (h_lanes : m .lanes = true) (h_free : m .free = true) :
    State.mask m (State.gateLane s l) = State.mask m s := by
  unfold State.gateLane
  simp [*]

@[simp] theorem execSyncWake_mask (m : StateField → Bool) (n : LinkIx) (s : State) (h_regs : m .regs = true) (h_kpr : m .kpr = true) (h_lanes : m .lanes = true) (h_free : m .free = true) :
    State.Keeps m s (execSyncWake n s) := by
  unfold execSyncWake
  simp [*]

end Sys2Proof.Machine
end

