-- ==== Sys2Proof/Laws/Frame/Desc.lean ====
section
/-! SUPPORT. What each function of Machine/Desc.lean leaves alone. -/

namespace Sys2Proof.Machine

@[simp] theorem State.setPrm_mask (m : StateField → Bool) (s : State) (p : Prm) (h_prm : m .prm = true) :
    State.mask m (State.setPrm s p) = State.mask m s := by
  unfold State.setPrm
  rw [State.mask_mk] <;> simp [*]

@[simp] theorem State.denyCtr_mask (m : StateField → Bool) (s : State) (h_regs : m .regs = true) :
    State.mask m (State.denyCtr s) = State.mask m s := by
  unfold State.denyCtr
  simp [*]

@[simp] theorem State.nextCycle_mask (m : StateField → Bool) (s : State) (h_prm : m .prm = true) :
    State.mask m (State.nextCycle s) = State.mask m s := by
  unfold State.nextCycle
  repeat' first | (simp [*]; done) | (rw [State.mask_mk] <;> simp [*]; done) | refine (State.mask_foldl m _ (fun t x => ?_) _ _).trans ?_ | refine (State.mask_foldl_fst m _ (fun p x => ?_) _ _).trans ?_ | refine (State.mask_foldl_snd m _ (fun p x => ?_) _ _).trans ?_ | split | simp [*]

@[simp] theorem State.cycleFor_mask (m : StateField → Bool) (s : State) (c : Nat) (set : Bool) (done : Bool) (src : Nat) (h_prm : m .prm = true) :
    State.mask m (State.cycleFor s c set done src) = State.mask m s := by
  unfold State.cycleFor
  repeat' first | (simp [*]; done) | (rw [State.mask_mk] <;> simp [*]; done) | refine (State.mask_foldl m _ (fun t x => ?_) _ _).trans ?_ | refine (State.mask_foldl_fst m _ (fun p x => ?_) _ _).trans ?_ | refine (State.mask_foldl_snd m _ (fun p x => ?_) _ _).trans ?_ | split | simp [*]

@[simp] theorem State.putCtr_mask (m : StateField → Bool) (s : State) (c : Nat) (v : Word) (h_prm : m .prm = true) :
    State.mask m (State.putCtr s c v) = State.mask m s := by
  unfold State.putCtr
  simp [*]

@[simp] theorem State.applyUpdate_mask (m : StateField → Bool) (s : State) (c : Nat) (set : Bool) (done : Bool) (n : Nat) (src : Nat) (h_regs : m .regs = true) (h_kpr : m .kpr = true) (h_lanes : m .lanes = true) (h_links : m .links = true) (h_csw : m .csw = true) (h_sec : m .sec = true) (h_prm : m .prm = true) (h_free : m .free = true) :
    State.mask m (State.applyUpdate s c set done n src) = State.mask m s := by
  unfold State.applyUpdate
  repeat' first | (simp [*]; done) | (rw [State.mask_mk] <;> simp [*]; done) | refine (State.mask_foldl m _ (fun t x => ?_) _ _).trans ?_ | refine (State.mask_foldl_fst m _ (fun p x => ?_) _ _).trans ?_ | refine (State.mask_foldl_snd m _ (fun p x => ?_) _ _).trans ?_ | split | simp [*]

@[simp] theorem State.updateCtr_mask (m : StateField → Bool) (s : State) (c : Nat) (part : Nat) (set : Bool) (done : Bool) (n : Nat) (src : Nat) (h_regs : m .regs = true) (h_kpr : m .kpr = true) (h_lanes : m .lanes = true) (h_links : m .links = true) (h_csw : m .csw = true) (h_sec : m .sec = true) (h_prm : m .prm = true) (h_free : m .free = true) :
    State.mask m (State.updateCtr s c part set done n src).1 = State.mask m s := by
  unfold State.updateCtr
  repeat' first | (simp [*]; done) | (rw [State.mask_mk] <;> simp [*]; done) | refine (State.mask_foldl m _ (fun t x => ?_) _ _).trans ?_ | refine (State.mask_foldl_fst m _ (fun p x => ?_) _ _).trans ?_ | refine (State.mask_foldl_snd m _ (fun p x => ?_) _ _).trans ?_ | split | simp [*]

@[simp] theorem State.fireCtr_mask (m : StateField → Bool) (s : State) (d : Line) (who : Nat) (h_regs : m .regs = true) (h_kpr : m .kpr = true) (h_lanes : m .lanes = true) (h_links : m .links = true) (h_csw : m .csw = true) (h_sec : m .sec = true) (h_prm : m .prm = true) (h_free : m .free = true) :
    State.mask m (State.fireCtr s d who) = State.mask m s := by
  unfold State.fireCtr
  simp [*]

@[simp] theorem State.setXfr_mask (m : StateField → Bool) (s : State) (x : Xfr) (h_xfr : m .xfr = true) :
    State.mask m (State.setXfr s x) = State.mask m s := by
  unfold State.setXfr
  rw [State.mask_mk] <;> simp [*]

@[simp] theorem State.setCq_mask (m : StateField → Bool) (s : State) (q : Nat) (c : Cq) (h_xfr : m .xfr = true) :
    State.mask m (State.setCq s q c) = State.mask m s := by
  unfold State.setCq
  simp [*]

@[simp] theorem State.writeAt_mask (m : StateField → Bool) (s : State) (addr : Nat) (d : List Byte) (h_regs : m .regs = true) (h_mem : m .mem = true) (h_xfr : m .xfr = true) (h_memory : m .memory = true) :
    State.mask m (State.writeAt s addr d) = State.mask m s := by
  unfold State.writeAt
  split <;> simp [*]

@[simp] theorem State.writeRecord_mask (m : StateField → Bool) (s : State) (q : Nat) (r : BitVec 256) (h_regs : m .regs = true) (h_mem : m .mem = true) (h_xfr : m .xfr = true) (h_memory : m .memory = true) :
    State.mask m (State.writeRecord s q r) = State.mask m s := by
  unfold State.writeRecord
  simp [*]

@[simp] theorem State.putReserved_mask (m : StateField → Bool) (s : State) (q : Nat) (r : BitVec 256) (h_regs : m .regs = true) (h_mem : m .mem = true) (h_xfr : m .xfr = true) (h_memory : m .memory = true) :
    State.mask m (State.putReserved s q r) = State.mask m s := by
  unfold State.putReserved
  simp [*]

@[simp] theorem State.unreserve_mask (m : StateField → Bool) (s : State) (q : Nat) (h_xfr : m .xfr = true) :
    State.mask m (State.unreserve s q) = State.mask m s := by
  unfold State.unreserve
  simp [*]

@[simp] theorem State.putWaiting_mask (m : StateField → Bool) (s : State) (q : Nat) (r : BitVec 256) (h_regs : m .regs = true) (h_mem : m .mem = true) (h_xfr : m .xfr = true) (h_memory : m .memory = true) :
    State.mask m (State.putWaiting s q r) = State.mask m s := by
  unfold State.putWaiting
  simp [*]

@[simp] theorem State.drainWaiting_mask (m : StateField → Bool) (s : State) (q : Nat) (x1 : Nat) (h_regs : m .regs = true) (h_mem : m .mem = true) (h_xfr : m .xfr = true) (h_memory : m .memory = true) :
    State.mask m (State.drainWaiting s q x1) = State.mask m s := by
  induction x1 generalizing s with
  | zero => rw [State.drainWaiting]
  | succ f ih =>
    rw [State.drainWaiting]
    split
    · rfl
    · split
      · rw [ih]; simp [*]
      · rfl

@[simp] theorem State.answerSeat_mask (m : StateField → Bool) (s : State) (i : Issue) (c : Comp) (time : Nat) (h_csw : m .csw = true) :
    State.mask m (State.answerSeat s i c time) = State.mask m s := by
  unfold State.answerSeat
  repeat' first | (simp [*]; done) | (rw [State.mask_mk] <;> simp [*]; done) | refine (State.mask_foldl m _ (fun t x => ?_) _ _).trans ?_ | refine (State.mask_foldl_fst m _ (fun p x => ?_) _ _).trans ?_ | refine (State.mask_foldl_snd m _ (fun p x => ?_) _ _).trans ?_ | split | simp [*]

@[simp] theorem State.eventOf_mask (m : StateField → Bool) (s : State) (i : Issue) (c : Comp) (h_regs : m .regs = true) (h_kpr : m .kpr = true) (h_lanes : m .lanes = true) (h_links : m .links = true) (h_csw : m .csw = true) (h_sec : m .sec = true) (h_script : m .script = true) (h_free : m .free = true) :
    State.mask m (State.eventOf s i c) = State.mask m s := by
  unfold State.eventOf
  simp [*]

@[simp] theorem State.countStatus_mask (m : StateField → Bool) (s : State) (st : Nat) (h_regs : m .regs = true) :
    State.mask m (State.countStatus s st) = State.mask m s := by
  unfold State.countStatus
  simp [*]

@[simp] theorem State.completeAt_mask (m : StateField → Bool) (s : State) (i : Issue) (c : Comp) (time : Nat) (h_regs : m .regs = true) (h_kpr : m .kpr = true) (h_lanes : m .lanes = true) (h_links : m .links = true) (h_csw : m .csw = true) (h_mem : m .mem = true) (h_sec : m .sec = true) (h_xfr : m .xfr = true) (h_prm : m .prm = true) (h_script : m .script = true) (h_memory : m .memory = true) (h_free : m .free = true) :
    State.mask m (State.completeAt s i c time) = State.mask m s := by
  unfold State.completeAt
  simp [*]

@[simp] theorem State.complete_mask (m : StateField → Bool) (s : State) (i : Issue) (c : Comp) (h_regs : m .regs = true) (h_kpr : m .kpr = true) (h_lanes : m .lanes = true) (h_links : m .links = true) (h_csw : m .csw = true) (h_mem : m .mem = true) (h_sec : m .sec = true) (h_xfr : m .xfr = true) (h_prm : m .prm = true) (h_script : m .script = true) (h_memory : m .memory = true) (h_free : m .free = true) :
    State.mask m (State.complete s i c) = State.mask m s := by
  unfold State.complete
  simp [*]

@[simp] theorem State.completeEarly_mask (m : StateField → Bool) (s : State) (i : Issue) (c : Comp) (h_regs : m .regs = true) (h_kpr : m .kpr = true) (h_lanes : m .lanes = true) (h_links : m .links = true) (h_csw : m .csw = true) (h_mem : m .mem = true) (h_sec : m .sec = true) (h_xfr : m .xfr = true) (h_script : m .script = true) (h_memory : m .memory = true) (h_free : m .free = true) :
    State.mask m (State.completeEarly s i c) = State.mask m s := by
  unfold State.completeEarly
  simp [*]

end Sys2Proof.Machine
end

