-- ==== Sys2Proof/Laws/Frame/EruOps.lean ====
section
/-! SUPPORT. What each function of Machine/EruOps.lean leaves alone. -/

namespace Sys2Proof.Machine

@[simp] theorem State.setEru_mask (m : StateField → Bool) (s : State) (x : Eru) (h_eru : m .eru = true) :
    State.mask m (State.setEru s x) = State.mask m s := by
  unfold State.setEru
  rw [State.mask_mk] <;> simp [*]

@[simp] theorem State.eruCycle_mask (m : StateField → Bool) (s : State) (h_eru : m .eru = true) :
    State.mask m (State.eruCycle s) = State.mask m s := by
  unfold State.eruCycle
  repeat' first | (simp [*]; done) | (rw [State.mask_mk] <;> simp [*]; done) | refine (State.mask_foldl m _ (fun t x => ?_) _ _).trans ?_ | refine (State.mask_foldl_fst m _ (fun p x => ?_) _ _).trans ?_ | refine (State.mask_foldl_snd m _ (fun p x => ?_) _ _).trans ?_ | split | simp [*]

@[simp] theorem State.wakeEru_mask (m : StateField → Bool) (s : State) (h_regs : m .regs = true) (h_kpr : m .kpr = true) :
    State.mask m (State.wakeEru s) = State.mask m s := by
  unfold State.wakeEru
  repeat' first | (simp [*]; done) | (rw [State.mask_mk] <;> simp [*]; done) | refine (State.mask_foldl m _ (fun t x => ?_) _ _).trans ?_ | refine (State.mask_foldl_fst m _ (fun p x => ?_) _ _).trans ?_ | refine (State.mask_foldl_snd m _ (fun p x => ?_) _ _).trans ?_ | split | simp [*]

@[simp] theorem State.noteBusy_mask (m : StateField → Bool) (s : State) (h_kpr : m .kpr = true) :
    State.mask m (State.noteBusy s) = State.mask m s := by
  unfold State.noteBusy
  repeat' first | (simp [*]; done) | (rw [State.mask_mk] <;> simp [*]; done) | refine (State.mask_foldl m _ (fun t x => ?_) _ _).trans ?_ | refine (State.mask_foldl_fst m _ (fun p x => ?_) _ _).trans ?_ | refine (State.mask_foldl_snd m _ (fun p x => ?_) _ _).trans ?_ | split | simp [*]

@[simp] theorem State.countAddend_mask (m : StateField → Bool) (s : State) (code : Nat) (len : Nat) (before : ASlot) (after : ASlot) (a : Addend) (h_regs : m .regs = true) (h_eru : m .eru = true) :
    State.mask m (State.countAddend s code len before after a) = State.mask m s := by
  unfold State.countAddend
  split <;> simp [*]

@[simp] theorem State.setCell_mask (m : StateField → Bool) (s : State) (k : Nat) (x : ASlot) (h_eru : m .eru = true) :
    State.mask m (State.setCell s k x) = State.mask m s := by
  unfold State.setCell
  simp [*]

@[simp] theorem State.cellAtomic_mask (m : StateField → Bool) (s : State) (pkey : Nat) (addr : Nat) (modTop : Nat) (fmt : Nat) (operand : Nat) (h_regs : m .regs = true) (h_eru : m .eru = true) (h_free : m .free = true) :
    State.mask m (State.cellAtomic s pkey addr modTop fmt operand).2.2 = State.mask m s := by
  unfold State.cellAtomic
  repeat' first | (simp [*]; done) | (rw [State.mask_mk] <;> simp [*]; done) | refine (State.mask_foldl m _ (fun t x => ?_) _ _).trans ?_ | refine (State.mask_foldl_fst m _ (fun p x => ?_) _ _).trans ?_ | refine (State.mask_foldl_snd m _ (fun p x => ?_) _ _).trans ?_ | split | simp [*]

end Sys2Proof.Machine
end

