-- ==== Sys2Proof/Laws/Frame/Xfer.lean ====
section
/-! SUPPORT. What each function of Machine/Xfer.lean leaves alone. -/

namespace Sys2Proof.Machine

@[simp] theorem State.setOp_mask (m : StateField → Bool) (s : State) (t : Nat) (o : Op) (h_xfr : m .xfr = true) :
    State.mask m (State.setOp s t o) = State.mask m s := by
  unfold State.setOp
  simp [*]

@[simp] theorem State.releaseTag_mask (m : StateField → Bool) (s : State) (t : Nat) (o : Op) (h_xfr : m .xfr = true) :
    State.mask m (State.releaseTag s t o) = State.mask m s := by
  unfold State.releaseTag
  simp [*]

theorem State.putBytes_mask (m : StateField → Bool) (s : State) (part : Nat) (addr : Nat) (b : List Byte) {t0 : State} (h_regs : m .regs = true) (h_mem : m .mem = true) (h_xfr : m .xfr = true) (h_memory : m .memory = true) (h : State.putBytes s part addr b = .ok t0) :
    t0.mask m = s.mask m := by
  unfold State.putBytes at h
  extract_lets off at h
  split at h
  · cases h; rfl
  · split at h
    · cases h
    · split at h
      · cases h
      · split at h
        · cases h
        · cases h; simp [*]

@[simp] theorem State.refusedPut_mask (m : StateField → Bool) (s : State) (a : Answer) (h_regs : m .regs = true) (h_kpr : m .kpr = true) (h_lanes : m .lanes = true) (h_links : m .links = true) (h_csw : m .csw = true) (h_sec : m .sec = true) (h_free : m .free = true) :
    State.mask m (State.refusedPut s a) = State.mask m s := by
  unfold State.refusedPut
  repeat' first | (simp [*]; done) | (rw [State.mask_mk] <;> simp [*]; done) | refine (State.mask_foldl m _ (fun t x => ?_) _ _).trans ?_ | refine (State.mask_foldl_fst m _ (fun p x => ?_) _ _).trans ?_ | refine (State.mask_foldl_snd m _ (fun p x => ?_) _ _).trans ?_ | split | simp [*]

@[simp] theorem State.tellReads_mask (m : StateField → Bool) (s : State) (part : Nat) (addr : Nat) (n : Nat) (h_regs : m .regs = true) (h_mem : m .mem = true) (h_xfr : m .xfr = true) :
    State.mask m (State.tellReads s part addr n) = State.mask m s := by
  unfold State.tellReads
  repeat' first | (simp [*]; done) | (rw [State.mask_mk] <;> simp [*]; done) | refine (State.mask_foldl m _ (fun t x => ?_) _ _).trans ?_ | refine (State.mask_foldl_fst m _ (fun p x => ?_) _ _).trans ?_ | refine (State.mask_foldl_snd m _ (fun p x => ?_) _ _).trans ?_ | split | simp [*]

@[simp] theorem State.keepFetch_mask (m : StateField → Bool) (s : State) (t : Nat) (k : Nat) (f : Fetch) (h_xfr : m .xfr = true) :
    State.mask m (State.keepFetch s t k f) = State.mask m s := by
  unfold State.keepFetch
  repeat' first | (simp [*]; done) | (rw [State.mask_mk] <;> simp [*]; done) | refine (State.mask_foldl m _ (fun t x => ?_) _ _).trans ?_ | refine (State.mask_foldl_fst m _ (fun p x => ?_) _ _).trans ?_ | refine (State.mask_foldl_snd m _ (fun p x => ?_) _ _).trans ?_ | split | simp [*]

@[simp] theorem State.fetchChunk_mask (m : StateField → Bool) (s : State) (t : Nat) (k : Nat) (h_regs : m .regs = true) (h_mem : m .mem = true) (h_xfr : m .xfr = true) :
    State.mask m (State.fetchChunk s t k) = State.mask m s := by
  unfold State.fetchChunk
  repeat' first | (simp [*]; done) | (rw [State.mask_mk] <;> simp [*]; done) | refine (State.mask_foldl m _ (fun t x => ?_) _ _).trans ?_ | refine (State.mask_foldl_fst m _ (fun p x => ?_) _ _).trans ?_ | refine (State.mask_foldl_snd m _ (fun p x => ?_) _ _).trans ?_ | split | simp [*]

@[simp] theorem State.readAhead_mask (m : StateField → Bool) (s : State) (t : Nat) (h_regs : m .regs = true) (h_mem : m .mem = true) (h_xfr : m .xfr = true) :
    State.mask m (State.readAhead s t) = State.mask m s := by
  unfold State.readAhead
  repeat' first | (simp [*]; done) | (rw [State.mask_mk] <;> simp [*]; done) | refine (State.mask_foldl m _ (fun t x => ?_) _ _).trans ?_ | refine (State.mask_foldl_fst m _ (fun p x => ?_) _ _).trans ?_ | refine (State.mask_foldl_snd m _ (fun p x => ?_) _ _).trans ?_ | split | simp [*]

@[simp] theorem State.takeFseq_mask (m : StateField → Bool) (s : State) (o : Op) (k : Nat) (h_xfr : m .xfr = true) :
    State.mask m (State.takeFseq s o k).2.2 = State.mask m s := by
  unfold State.takeFseq
  split <;> simp [*]

@[simp] theorem State.leaveFlow_mask (m : StateField → Bool) (s : State) (o : Op) (k : Nat) (h_xfr : m .xfr = true) :
    State.mask m (State.leaveFlow s o k) = State.mask m s := by
  unfold State.leaveFlow
  split <;> (try split) <;> simp [*]

@[simp] theorem State.leavePart_mask (m : StateField → Bool) (s : State) (o : Op) (k : Nat) (h_xfr : m .xfr = true) :
    State.mask m (State.leavePart s o k) = State.mask m s := by
  unfold State.leavePart
  repeat' first | (simp [*]; done) | (rw [State.mask_mk] <;> simp [*]; done) | refine (State.mask_foldl m _ (fun t x => ?_) _ _).trans ?_ | refine (State.mask_foldl_fst m _ (fun p x => ?_) _ _).trans ?_ | refine (State.mask_foldl_snd m _ (fun p x => ?_) _ _).trans ?_ | split | simp [*]

@[simp] theorem State.leaveAll_mask (m : StateField → Bool) (s : State) (x1 : Nat) (x2 : Op) (h_xfr : m .xfr = true) :
    State.mask m (State.leaveAll s x1 x2) = State.mask m s := by
  induction x1 generalizing s x2 with
  | zero => rw [State.leaveAll]
  | succ f ih =>
    rw [State.leaveAll]
    split
    · rfl
    · rw [ih]; simp [*]

@[simp] theorem State.setMsg_mask (m : StateField → Bool) (s : State) (t : Nat) (k : Nat) (m0 : Msg) (h_xfr : m .xfr = true) :
    State.mask m (State.setMsg s t k m0) = State.mask m s := by
  unfold State.setMsg
  split <;> simp [*]

@[simp] theorem State.sendCells_mask (m : StateField → Bool) (s : State) (t : Nat) (cs : List Cell) (h_csw : m .csw = true) (h_xfr : m .xfr = true) :
    State.mask m (State.sendCells s t cs) = State.mask m s := by
  unfold State.sendCells
  repeat' first | (simp [*]; done) | (rw [State.mask_mk] <;> simp [*]; done) | refine (State.mask_foldl m _ (fun t x => ?_) _ _).trans ?_ | refine (State.mask_foldl_fst m _ (fun p x => ?_) _ _).trans ?_ | refine (State.mask_foldl_snd m _ (fun p x => ?_) _ _).trans ?_ | split | simp [*]

@[simp] theorem State.storeCells_mask (m : StateField → Bool) (s : State) (t : Nat) (o : Op) (k : Nat) (m0 : Msg) (b : List Byte) (h_regs : m .regs = true) (h_kpr : m .kpr = true) (h_lanes : m .lanes = true) (h_links : m .links = true) (h_csw : m .csw = true) (h_sec : m .sec = true) (h_free : m .free = true) :
    State.mask m (State.storeCells s t o k m0 b).2.2 = State.mask m s := by
  unfold State.storeCells
  dsimp only
  split <;> simp [*]

@[simp] theorem State.sendMsg_mask (m : StateField → Bool) (s : State) (t : Nat) (k : Nat) (len : Nat) (h_regs : m .regs = true) (h_kpr : m .kpr = true) (h_lanes : m .lanes = true) (h_links : m .links = true) (h_csw : m .csw = true) (h_sec : m .sec = true) (h_xfr : m .xfr = true) (h_free : m .free = true) :
    State.mask m (State.sendMsg s t k len) = State.mask m s := by
  unfold State.sendMsg
  repeat' first | (simp [*]; done) | (rw [State.mask_mk] <;> simp [*]; done) | refine (State.mask_foldl m _ (fun t x => ?_) _ _).trans ?_ | refine (State.mask_foldl_fst m _ (fun p x => ?_) _ _).trans ?_ | refine (State.mask_foldl_snd m _ (fun p x => ?_) _ _).trans ?_ | split | simp [*]

@[simp] theorem State.keepOp_mask (m : StateField → Bool) (s : State) (t : Nat) (o : Op) (h_xfr : m .xfr = true) :
    State.mask m (State.keepOp s t o) = State.mask m s := by
  unfold State.keepOp
  simp [*]

@[simp] theorem State.advanceCtx_mask (m : StateField → Bool) (s : State) (c : Option Nat) (h_xfr : m .xfr = true) :
    State.mask m (State.advanceCtx s c) = State.mask m s := by
  unfold State.advanceCtx
  split <;> (try split) <;> simp [*]

@[simp] theorem State.answerRelay_mask (m : StateField → Bool) (s : State) (o : Op) (r : Relay) (c : Comp) (h_csw : m .csw = true) (h_xfr : m .xfr = true) :
    State.mask m (State.answerRelay s o r c) = State.mask m s := by
  unfold State.answerRelay
  simp [*]

@[simp] theorem State.closeOp_mask (m : StateField → Bool) (s : State) (t : Nat) (o : Op) (c : Comp) (time : Nat) (h_regs : m .regs = true) (h_kpr : m .kpr = true) (h_lanes : m .lanes = true) (h_links : m .links = true) (h_csw : m .csw = true) (h_mem : m .mem = true) (h_sec : m .sec = true) (h_xfr : m .xfr = true) (h_prm : m .prm = true) (h_script : m .script = true) (h_memory : m .memory = true) (h_free : m .free = true) :
    State.mask m (State.closeOp s t o c time) = State.mask m s := by
  unfold State.closeOp
  repeat' first | (simp [*]; done) | (rw [State.mask_mk] <;> simp [*]; done) | refine (State.mask_foldl m _ (fun t x => ?_) _ _).trans ?_ | refine (State.mask_foldl_fst m _ (fun p x => ?_) _ _).trans ?_ | refine (State.mask_foldl_snd m _ (fun p x => ?_) _ _).trans ?_ | split | simp [*]

@[simp] theorem State.releaseFixed_mask (m : StateField → Bool) (s : State) (key : Nat) (x1 : Nat) (h_regs : m .regs = true) (h_kpr : m .kpr = true) (h_lanes : m .lanes = true) (h_links : m .links = true) (h_csw : m .csw = true) (h_mem : m .mem = true) (h_sec : m .sec = true) (h_xfr : m .xfr = true) (h_prm : m .prm = true) (h_script : m .script = true) (h_memory : m .memory = true) (h_free : m .free = true) :
    State.mask m (State.releaseFixed s key x1) = State.mask m s := by
  induction x1 generalizing s with
  | zero => rw [State.releaseFixed]
  | succ f ih =>
    rw [State.releaseFixed]
    split
    · rw [ih]; simp [*]
    · rfl

@[simp] theorem State.fixOp_mask (m : StateField → Bool) (s : State) (t : Nat) (c : Comp) (h_regs : m .regs = true) (h_kpr : m .kpr = true) (h_lanes : m .lanes = true) (h_links : m .links = true) (h_csw : m .csw = true) (h_mem : m .mem = true) (h_sec : m .sec = true) (h_xfr : m .xfr = true) (h_prm : m .prm = true) (h_script : m .script = true) (h_memory : m .memory = true) (h_free : m .free = true) :
    State.mask m (State.fixOp s t c) = State.mask m s := by
  unfold State.fixOp
  repeat' first | (simp [*]; done) | (rw [State.mask_mk] <;> simp [*]; done) | refine (State.mask_foldl m _ (fun t x => ?_) _ _).trans ?_ | refine (State.mask_foldl_fst m _ (fun p x => ?_) _ _).trans ?_ | refine (State.mask_foldl_snd m _ (fun p x => ?_) _ _).trans ?_ | split | simp [*]

@[simp] theorem State.sendNext_mask (m : StateField → Bool) (s : State) (t : Nat) (o : Op) (h_regs : m .regs = true) (h_kpr : m .kpr = true) (h_lanes : m .lanes = true) (h_links : m .links = true) (h_csw : m .csw = true) (h_sec : m .sec = true) (h_xfr : m .xfr = true) (h_script : m .script = true) (h_free : m .free = true) :
    State.mask m (State.sendNext s t o) = State.mask m s := by
  unfold State.sendNext
  repeat' first | (simp [*]; done) | (rw [State.mask_mk] <;> simp [*]; done) | refine (State.mask_foldl m _ (fun t x => ?_) _ _).trans ?_ | refine (State.mask_foldl_fst m _ (fun p x => ?_) _ _).trans ?_ | refine (State.mask_foldl_snd m _ (fun p x => ?_) _ _).trans ?_ | split | simp [*]

@[simp] theorem State.advance_mask (m : StateField → Bool) (t : Nat) (x1 : Nat) (x2 : State) (h_regs : m .regs = true) (h_kpr : m .kpr = true) (h_lanes : m .lanes = true) (h_links : m .links = true) (h_csw : m .csw = true) (h_mem : m .mem = true) (h_sec : m .sec = true) (h_xfr : m .xfr = true) (h_prm : m .prm = true) (h_script : m .script = true) (h_memory : m .memory = true) (h_free : m .free = true) :
    State.mask m (State.advance t x1 x2) = State.mask m x2 := by
  induction x1 generalizing x2 with
  | zero => rw [State.advance]
  | succ f ih =>
    rw [State.advance]
    have hs : State.mask m (x2.readAhead t) = State.mask m x2 := by simp [*]
    split
    · exact hs
    · split
      · rw [ih, State.sendNext_mask]; exact hs; all_goals with_reducible assumption
      · split
        · rw [State.fixOp_mask]; exact hs; all_goals with_reducible assumption
        · exact hs

@[simp] theorem State.advanceAll_mask (m : StateField → Bool) (s : State) (t : Nat) (h_regs : m .regs = true) (h_kpr : m .kpr = true) (h_lanes : m .lanes = true) (h_links : m .links = true) (h_csw : m .csw = true) (h_mem : m .mem = true) (h_sec : m .sec = true) (h_xfr : m .xfr = true) (h_prm : m .prm = true) (h_script : m .script = true) (h_memory : m .memory = true) (h_free : m .free = true) :
    State.mask m (State.advanceAll s t) = State.mask m s := by
  unfold State.advanceAll
  repeat' first | (simp [*]; done) | (rw [State.mask_mk] <;> simp [*]; done) | refine (State.mask_foldl m _ (fun t x => ?_) _ _).trans ?_ | refine (State.mask_foldl_fst m _ (fun p x => ?_) _ _).trans ?_ | refine (State.mask_foldl_snd m _ (fun p x => ?_) _ _).trans ?_ | split | simp [*]

@[simp] theorem State.doneMsg_mask (m : StateField → Bool) (s : State) (t : Nat) (k : Nat) (a : Answer) (bytes : Nat) (xor : Nat) (h_regs : m .regs = true) (h_kpr : m .kpr = true) (h_lanes : m .lanes = true) (h_links : m .links = true) (h_csw : m .csw = true) (h_mem : m .mem = true) (h_sec : m .sec = true) (h_xfr : m .xfr = true) (h_prm : m .prm = true) (h_script : m .script = true) (h_memory : m .memory = true) (h_free : m .free = true) :
    State.mask m (State.doneMsg s t k a bytes xor) = State.mask m s := by
  unfold State.doneMsg
  split <;> simp [*]

@[simp] theorem State.sendPending_mask (m : StateField → Bool) (s : State) (t : Nat) (k : Nat) (h_regs : m .regs = true) (h_kpr : m .kpr = true) (h_lanes : m .lanes = true) (h_links : m .links = true) (h_csw : m .csw = true) (h_mem : m .mem = true) (h_sec : m .sec = true) (h_xfr : m .xfr = true) (h_prm : m .prm = true) (h_script : m .script = true) (h_memory : m .memory = true) (h_free : m .free = true) :
    State.mask m (State.sendPending s t k) = State.mask m s := by
  unfold State.sendPending
  repeat' first | (simp [*]; done) | (rw [State.mask_mk] <;> simp [*]; done) | refine (State.mask_foldl m _ (fun t x => ?_) _ _).trans ?_ | refine (State.mask_foldl_fst m _ (fun p x => ?_) _ _).trans ?_ | refine (State.mask_foldl_snd m _ (fun p x => ?_) _ _).trans ?_ | split | simp [*]

@[simp] theorem State.resendMsg_mask (m : StateField → Bool) (s : State) (t : Nat) (k : Nat) (len : Nat) (h_regs : m .regs = true) (h_kpr : m .kpr = true) (h_lanes : m .lanes = true) (h_links : m .links = true) (h_csw : m .csw = true) (h_mem : m .mem = true) (h_sec : m .sec = true) (h_xfr : m .xfr = true) (h_prm : m .prm = true) (h_script : m .script = true) (h_memory : m .memory = true) (h_free : m .free = true) :
    State.mask m (State.resendMsg s t k len) = State.mask m s := by
  unfold State.resendMsg
  repeat' first | (simp [*]; done) | (rw [State.mask_mk] <;> simp [*]; done) | refine (State.mask_foldl m _ (fun t x => ?_) _ _).trans ?_ | refine (State.mask_foldl_fst m _ (fun p x => ?_) _ _).trans ?_ | refine (State.mask_foldl_snd m _ (fun p x => ?_) _ _).trans ?_ | split | simp [*]

@[simp] theorem State.endSource_mask (m : StateField → Bool) (s : State) (tag : Nat) (k : Nat) (j : Job) (h_regs : m .regs = true) (h_kpr : m .kpr = true) (h_lanes : m .lanes = true) (h_links : m .links = true) (h_csw : m .csw = true) (h_mem : m .mem = true) (h_sec : m .sec = true) (h_xfr : m .xfr = true) (h_prm : m .prm = true) (h_script : m .script = true) (h_memory : m .memory = true) (h_free : m .free = true) :
    State.mask m (State.endSource s tag k j) = State.mask m s := by
  unfold State.endSource
  repeat' first | (simp [*]; done) | (rw [State.mask_mk] <;> simp [*]; done) | refine (State.mask_foldl m _ (fun t x => ?_) _ _).trans ?_ | refine (State.mask_foldl_fst m _ (fun p x => ?_) _ _).trans ?_ | refine (State.mask_foldl_snd m _ (fun p x => ?_) _ _).trans ?_ | split | simp [*]

@[simp] theorem State.failRequest_mask (m : StateField → Bool) (s : State) (t : Nat) (k : Nat) (a : Answer) (h_regs : m .regs = true) (h_kpr : m .kpr = true) (h_lanes : m .lanes = true) (h_links : m .links = true) (h_csw : m .csw = true) (h_mem : m .mem = true) (h_sec : m .sec = true) (h_xfr : m .xfr = true) (h_prm : m .prm = true) (h_script : m .script = true) (h_memory : m .memory = true) (h_free : m .free = true) :
    State.mask m (State.failRequest s t k a) = State.mask m s := by
  unfold State.failRequest
  repeat' first | (simp [*]; done) | (rw [State.mask_mk] <;> simp [*]; done) | refine (State.mask_foldl m _ (fun t x => ?_) _ _).trans ?_ | refine (State.mask_foldl_fst m _ (fun p x => ?_) _ _).trans ?_ | refine (State.mask_foldl_snd m _ (fun p x => ?_) _ _).trans ?_ | split | simp [*]

@[simp] theorem State.busyMsg_mask (m : StateField → Bool) (s : State) (t : Nat) (k : Nat) (a : Answer) (h_regs : m .regs = true) (h_kpr : m .kpr = true) (h_lanes : m .lanes = true) (h_links : m .links = true) (h_csw : m .csw = true) (h_mem : m .mem = true) (h_sec : m .sec = true) (h_xfr : m .xfr = true) (h_prm : m .prm = true) (h_script : m .script = true) (h_memory : m .memory = true) (h_free : m .free = true) :
    State.mask m (State.busyMsg s t k a) = State.mask m s := by
  unfold State.busyMsg
  split <;> (try split) <;> simp [*]

@[simp] theorem State.checkMsg_mask (m : StateField → Bool) (s : State) (t : Nat) (k : Nat) (h_regs : m .regs = true) (h_kpr : m .kpr = true) (h_lanes : m .lanes = true) (h_links : m .links = true) (h_csw : m .csw = true) (h_mem : m .mem = true) (h_sec : m .sec = true) (h_xfr : m .xfr = true) (h_prm : m .prm = true) (h_script : m .script = true) (h_memory : m .memory = true) (h_free : m .free = true) :
    State.mask m (State.checkMsg s t k) = State.mask m s := by
  unfold State.checkMsg
  split <;> (try split) <;> simp [*]

@[simp] theorem State.writeAnswer_mask (m : StateField → Bool) (s : State) (t : Nat) (k : Nat) (a : Answer) (p : Line) (h_regs : m .regs = true) (h_kpr : m .kpr = true) (h_lanes : m .lanes = true) (h_links : m .links = true) (h_csw : m .csw = true) (h_mem : m .mem = true) (h_sec : m .sec = true) (h_xfr : m .xfr = true) (h_prm : m .prm = true) (h_script : m .script = true) (h_memory : m .memory = true) (h_free : m .free = true) :
    State.mask m (State.writeAnswer s t k a p) = State.mask m s := by
  unfold State.writeAnswer
  split <;> (try split) <;> simp [*]

theorem State.writeLocal_mask (m : StateField → Bool) (s : State) (o : Op) (at0 : Nat) (b : List Byte) {t0 : State} (h_regs : m .regs = true) (h_mem : m .mem = true) (h_xfr : m .xfr = true) (h_memory : m .memory = true) (h : State.writeLocal s o at0 b = .ok t0) :
    t0.mask m = s.mask m := by
  unfold State.writeLocal at h
  exact State.putBytes_mask m _ _ _ _ h_regs h_mem h_xfr h_memory h

@[simp] theorem State.forwardChunk_mask (m : StateField → Bool) (s : State) (t : Nat) (o : Op) (k : Nat) (b : List Byte) (h_regs : m .regs = true) (h_kpr : m .kpr = true) (h_lanes : m .lanes = true) (h_links : m .links = true) (h_csw : m .csw = true) (h_sec : m .sec = true) (h_xfr : m .xfr = true) (h_free : m .free = true) :
    State.mask m (State.forwardChunk s t o k b) = State.mask m s := by
  unfold State.forwardChunk
  repeat' first | (simp [*]; done) | (rw [State.mask_mk] <;> simp [*]; done) | refine (State.mask_foldl m _ (fun t x => ?_) _ _).trans ?_ | refine (State.mask_foldl_fst m _ (fun p x => ?_) _ _).trans ?_ | refine (State.mask_foldl_snd m _ (fun p x => ?_) _ _).trans ?_ | split | simp [*]

@[simp] theorem State.judgeChunk_mask (m : StateField → Bool) (s : State) (t : Nat) (o : Op) (k : Nat) (m0 : Msg) (check : BitVec 128) (good : Option (List Byte)) (h_regs : m .regs = true) (h_kpr : m .kpr = true) (h_lanes : m .lanes = true) (h_links : m .links = true) (h_csw : m .csw = true) (h_mem : m .mem = true) (h_sec : m .sec = true) (h_xfr : m .xfr = true) (h_prm : m .prm = true) (h_script : m .script = true) (h_memory : m .memory = true) (h_free : m .free = true) :
    State.mask m (State.judgeChunk s t o k m0 check good) = State.mask m s := by
  unfold State.judgeChunk
  repeat' first | (simp [*]; done) | (rw [State.mask_mk] <;> simp [*]; done) | refine (State.mask_foldl m _ (fun t x => ?_) _ _).trans ?_ | refine (State.mask_foldl_fst m _ (fun p x => ?_) _ _).trans ?_ | refine (State.mask_foldl_snd m _ (fun p x => ?_) _ _).trans ?_ | split | simp [*]

@[simp] theorem State.tryChunk_mask (m : StateField → Bool) (s : State) (t : Nat) (k : Nat) (h_regs : m .regs = true) (h_kpr : m .kpr = true) (h_lanes : m .lanes = true) (h_links : m .links = true) (h_csw : m .csw = true) (h_mem : m .mem = true) (h_sec : m .sec = true) (h_xfr : m .xfr = true) (h_prm : m .prm = true) (h_script : m .script = true) (h_memory : m .memory = true) (h_free : m .free = true) :
    State.mask m (State.tryChunk s t k) = State.mask m s := by
  unfold State.tryChunk
  dsimp only
  split
  · rfl
  split
  · rfl
  split
  · rfl
  split
  · rfl
  split
  · split
    · rename_i hw
      rw [State.judgeChunk_mask, State.writeLocal_mask m _ _ _ _ h_regs h_mem h_xfr h_memory hw] <;> assumption
    · rw [State.doneMsg_mask, State.refusedPut_mask] <;> assumption
  · rw [State.judgeChunk_mask] <;> assumption

@[simp] theorem execLoadDataRx_mask (m : StateField → Bool) (c : Cell) (s : State) (h_regs : m .regs = true) (h_kpr : m .kpr = true) (h_lanes : m .lanes = true) (h_links : m .links = true) (h_csw : m .csw = true) (h_mem : m .mem = true) (h_sec : m .sec = true) (h_xfr : m .xfr = true) (h_prm : m .prm = true) (h_script : m .script = true) (h_memory : m .memory = true) (h_free : m .free = true) :
    State.Keeps m s (execLoadDataRx c s) := by
  unfold execLoadDataRx
  dsimp only
  have h0 : State.mask m (s.takeEjected c) = State.mask m s := by simp [*]
  generalize s.takeEjected c = s0 at h0 ⊢
  split
  · rfl
  split
  · trivial
  split
  · rw [State.keeps_next]; simp [*]
  split
  · rw [State.keeps_next]; simp [*]
  split
  · exact h0
  split
  · rw [State.keeps_next]; simp [*]
  split
  · rw [State.keeps_next]; simp [*]
  have h1 : ∀ a b d, State.mask m (s0.setMsg a b d) = State.mask m s := fun a b d => by rw [State.setMsg_mask, h0] <;> assumption
  split
  · rw [State.keeps_next, State.tryChunk_mask, h1] <;> assumption
  · split
    · rename_i hw
      rw [State.keeps_next, State.tryChunk_mask, State.writeLocal_mask m _ _ _ _ h_regs h_mem h_xfr h_memory hw, h1] <;> assumption
    · rw [State.keeps_next, State.doneMsg_mask, State.refusedPut_mask, h1] <;> assumption

@[simp] theorem State.loadAnswer_mask (m : StateField → Bool) (s : State) (t : Nat) (k : Nat) (a : Answer) (p : Line) (h_regs : m .regs = true) (h_kpr : m .kpr = true) (h_lanes : m .lanes = true) (h_links : m .links = true) (h_csw : m .csw = true) (h_mem : m .mem = true) (h_sec : m .sec = true) (h_xfr : m .xfr = true) (h_prm : m .prm = true) (h_script : m .script = true) (h_memory : m .memory = true) (h_free : m .free = true) :
    State.mask m (State.loadAnswer s t k a p) = State.mask m s := by
  unfold State.loadAnswer
  repeat' first | (simp [*]; done) | (rw [State.mask_mk] <;> simp [*]; done) | refine (State.mask_foldl m _ (fun t x => ?_) _ _).trans ?_ | refine (State.mask_foldl_fst m _ (fun p x => ?_) _ _).trans ?_ | refine (State.mask_foldl_snd m _ (fun p x => ?_) _ _).trans ?_ | split | simp [*]

@[simp] theorem State.completionRx_mask (m : StateField → Bool) (s : State) (c : Cell) (h_regs : m .regs = true) (h_kpr : m .kpr = true) (h_lanes : m .lanes = true) (h_links : m .links = true) (h_csw : m .csw = true) (h_mem : m .mem = true) (h_sec : m .sec = true) (h_xfr : m .xfr = true) (h_prm : m .prm = true) (h_script : m .script = true) (h_memory : m .memory = true) (h_free : m .free = true) :
    State.mask m (State.completionRx s c) = State.mask m s := by
  unfold State.completionRx
  repeat' first | (simp [*]; done) | (rw [State.mask_mk] <;> simp [*]; done) | refine (State.mask_foldl m _ (fun t x => ?_) _ _).trans ?_ | refine (State.mask_foldl_fst m _ (fun p x => ?_) _ _).trans ?_ | refine (State.mask_foldl_snd m _ (fun p x => ?_) _ _).trans ?_ | split | simp [*]

@[simp] theorem execAtomicRspRx_mask (m : StateField → Bool) (c : Cell) (s : State) (h_regs : m .regs = true) (h_kpr : m .kpr = true) (h_lanes : m .lanes = true) (h_links : m .links = true) (h_csw : m .csw = true) (h_mem : m .mem = true) (h_sec : m .sec = true) (h_xfr : m .xfr = true) (h_prm : m .prm = true) (h_script : m .script = true) (h_memory : m .memory = true) (h_free : m .free = true) :
    State.Keeps m s (execAtomicRspRx c s) := by
  unfold execAtomicRspRx
  repeat' first | (simp [*]; done) | (rw [State.mask_mk] <;> simp [*]; done) | refine (State.mask_foldl m _ (fun t x => ?_) _ _).trans ?_ | refine (State.mask_foldl_fst m _ (fun p x => ?_) _ _).trans ?_ | refine (State.mask_foldl_snd m _ (fun p x => ?_) _ _).trans ?_ | split | simp [*]

@[simp] theorem execOutcomeRspRx_mask (m : StateField → Bool) (c : Cell) (s : State) (h_regs : m .regs = true) (h_kpr : m .kpr = true) (h_lanes : m .lanes = true) (h_links : m .links = true) (h_csw : m .csw = true) (h_mem : m .mem = true) (h_sec : m .sec = true) (h_xfr : m .xfr = true) (h_prm : m .prm = true) (h_script : m .script = true) (h_memory : m .memory = true) (h_free : m .free = true) :
    State.Keeps m s (execOutcomeRspRx c s) := by
  unfold execOutcomeRspRx
  repeat' first | (simp [*]; done) | (rw [State.mask_mk] <;> simp [*]; done) | refine (State.mask_foldl m _ (fun t x => ?_) _ _).trans ?_ | refine (State.mask_foldl_fst m _ (fun p x => ?_) _ _).trans ?_ | refine (State.mask_foldl_snd m _ (fun p x => ?_) _ _).trans ?_ | split | simp [*]

@[simp] theorem State.reissue_mask (m : StateField → Bool) (s0 : State) (t : Nat) (o0 : Op) (h_regs : m .regs = true) (h_kpr : m .kpr = true) (h_lanes : m .lanes = true) (h_links : m .links = true) (h_csw : m .csw = true) (h_sec : m .sec = true) (h_xfr : m .xfr = true) (h_free : m .free = true) :
    State.mask m (State.reissue s0 t o0) = State.mask m s0 := by
  unfold State.reissue
  repeat' first | (simp [*]; done) | (rw [State.mask_mk] <;> simp [*]; done) | refine (State.mask_foldl m _ (fun t x => ?_) _ _).trans ?_ | refine (State.mask_foldl_fst m _ (fun p x => ?_) _ _).trans ?_ | refine (State.mask_foldl_snd m _ (fun p x => ?_) _ _).trans ?_ | split | simp [*]

@[simp] theorem State.endOp_mask (m : StateField → Bool) (s : State) (t : Nat) (a : Answer) (h_regs : m .regs = true) (h_kpr : m .kpr = true) (h_lanes : m .lanes = true) (h_links : m .links = true) (h_csw : m .csw = true) (h_mem : m .mem = true) (h_sec : m .sec = true) (h_xfr : m .xfr = true) (h_prm : m .prm = true) (h_script : m .script = true) (h_memory : m .memory = true) (h_free : m .free = true) :
    State.mask m (State.endOp s t a) = State.mask m s := by
  unfold State.endOp
  split <;> simp [*]

@[simp] theorem State.lossOp_mask (m : StateField → Bool) (s : State) (t : Nat) (direct : Option Nat) (unsent : Bool) (reason : Nat) (h_regs : m .regs = true) (h_kpr : m .kpr = true) (h_lanes : m .lanes = true) (h_links : m .links = true) (h_csw : m .csw = true) (h_mem : m .mem = true) (h_sec : m .sec = true) (h_xfr : m .xfr = true) (h_prm : m .prm = true) (h_script : m .script = true) (h_memory : m .memory = true) (h_free : m .free = true) :
    State.mask m (State.lossOp s t direct unsent reason) = State.mask m s := by
  unfold State.lossOp
  repeat' first | (simp [*]; done) | (rw [State.mask_mk] <;> simp [*]; done) | refine (State.mask_foldl m _ (fun t x => ?_) _ _).trans ?_ | refine (State.mask_foldl_fst m _ (fun p x => ?_) _ _).trans ?_ | refine (State.mask_foldl_snd m _ (fun p x => ?_) _ _).trans ?_ | split | simp [*]

@[simp] theorem State.expireOp_mask (m : StateField → Bool) (s : State) (t : Nat) (o : Op) (reason : Nat) (h_regs : m .regs = true) (h_kpr : m .kpr = true) (h_lanes : m .lanes = true) (h_links : m .links = true) (h_csw : m .csw = true) (h_mem : m .mem = true) (h_sec : m .sec = true) (h_xfr : m .xfr = true) (h_prm : m .prm = true) (h_script : m .script = true) (h_memory : m .memory = true) (h_free : m .free = true) :
    State.mask m (State.expireOp s t o reason) = State.mask m s := by
  unfold State.expireOp
  split <;> (try split) <;> simp [*]

@[simp] theorem State.opTimeoutDue_mask (m : StateField → Bool) (s : State) (tag : Nat) (h_regs : m .regs = true) (h_kpr : m .kpr = true) (h_lanes : m .lanes = true) (h_links : m .links = true) (h_csw : m .csw = true) (h_mem : m .mem = true) (h_sec : m .sec = true) (h_xfr : m .xfr = true) (h_prm : m .prm = true) (h_script : m .script = true) (h_memory : m .memory = true) (h_free : m .free = true) :
    State.mask m (State.opTimeoutDue s tag) = State.mask m s := by
  unfold State.opTimeoutDue
  split <;> simp [*]

@[simp] theorem State.retryBusy_mask (m : StateField → Bool) (s : State) (t : Nat) (h_regs : m .regs = true) (h_kpr : m .kpr = true) (h_lanes : m .lanes = true) (h_links : m .links = true) (h_csw : m .csw = true) (h_mem : m .mem = true) (h_sec : m .sec = true) (h_xfr : m .xfr = true) (h_prm : m .prm = true) (h_script : m .script = true) (h_memory : m .memory = true) (h_free : m .free = true) :
    State.mask m (State.retryBusy s t) = State.mask m s := by
  unfold State.retryBusy
  repeat' first | (simp [*]; done) | (rw [State.mask_mk] <;> simp [*]; done) | refine (State.mask_foldl m _ (fun t x => ?_) _ _).trans ?_ | refine (State.mask_foldl_fst m _ (fun p x => ?_) _ _).trans ?_ | refine (State.mask_foldl_snd m _ (fun p x => ?_) _ _).trans ?_ | split | simp [*]

@[simp] theorem execTagReuseHold_mask (m : StateField → Bool) (tag : Fin 16384) (s : State) (h_xfr : m .xfr = true) :
    State.Keeps m s (execTagReuseHold tag s) := by
  unfold execTagReuseHold
  split <;> (try split) <;> simp [*]

@[simp] theorem State.xfrNotice_mask (m : StateField → Bool) (s : State) (c : Cell) (unsent : Bool) (h_regs : m .regs = true) (h_kpr : m .kpr = true) (h_lanes : m .lanes = true) (h_links : m .links = true) (h_csw : m .csw = true) (h_mem : m .mem = true) (h_sec : m .sec = true) (h_xfr : m .xfr = true) (h_prm : m .prm = true) (h_script : m .script = true) (h_memory : m .memory = true) (h_free : m .free = true) :
    State.mask m (State.xfrNotice s c unsent) = State.mask m s := by
  unfold State.xfrNotice
  repeat' first | (simp [*]; done) | (rw [State.mask_mk] <;> simp [*]; done) | refine (State.mask_foldl m _ (fun t x => ?_) _ _).trans ?_ | refine (State.mask_foldl_fst m _ (fun p x => ?_) _ _).trans ?_ | refine (State.mask_foldl_snd m _ (fun p x => ?_) _ _).trans ?_ | split | simp [*]

@[simp] theorem State.stopOp_mask (m : StateField → Bool) (s : State) (t : Nat) (h_regs : m .regs = true) (h_kpr : m .kpr = true) (h_lanes : m .lanes = true) (h_links : m .links = true) (h_csw : m .csw = true) (h_mem : m .mem = true) (h_sec : m .sec = true) (h_xfr : m .xfr = true) (h_prm : m .prm = true) (h_script : m .script = true) (h_memory : m .memory = true) (h_free : m .free = true) :
    State.mask m (State.stopOp s t) = State.mask m s := by
  unfold State.stopOp
  split <;> simp [*]

end Sys2Proof.Machine
end

