-- ==== Sys2Proof/Laws/Frame/Ctx.lean ====
section
/-! SUPPORT. What each function of Machine/Ctx.lean leaves alone. -/

namespace Sys2Proof.Machine

@[simp] theorem State.setCol_mask (m : StateField → Bool) (s : State) (x : Col) (h_col : m .col = true) :
    State.mask m (State.setCol s x) = State.mask m s := by
  unfold State.setCol
  rw [State.mask_mk] <;> simp [*]

@[simp] theorem State.setCtx_mask (m : StateField → Bool) (s : State) (k : Nat) (c : Ctx) (h_col : m .col = true) :
    State.mask m (State.setCtx s k c) = State.mask m s := by
  unfold State.setCtx
  simp [*]

@[simp] theorem State.modCtx_mask (m : StateField → Bool) (s : State) (k : Nat) (f : Ctx → Ctx) (h_col : m .col = true) :
    State.mask m (State.modCtx s k f) = State.mask m s := by
  unfold State.modCtx
  split <;> simp [*]

@[simp] theorem State.raiseOfCtx_mask (m : StateField → Bool) (s : State) (k : Nat) (code : Nat) (h_regs : m .regs = true) (h_kpr : m .kpr = true) (h_lanes : m .lanes = true) (h_links : m .links = true) (h_csw : m .csw = true) (h_sec : m .sec = true) (h_free : m .free = true) :
    State.mask m (State.raiseOfCtx s k code) = State.mask m s := by
  unfold State.raiseOfCtx
  simp [*]

@[simp] theorem State.sendGrant_mask (m : StateField → Bool) (s : State) (k : Nat) (c : Ctx) (dest : Nat) (stage : Nat) (flags : Nat) (first : Nat) (count : Nat) (mask : Nat) (tag : Nat) (h_csw : m .csw = true) :
    State.mask m (State.sendGrant s k c dest stage flags first count mask tag) = State.mask m s := by
  unfold State.sendGrant
  simp [*]

@[simp] theorem State.sendReplay_mask (m : StateField → Bool) (s : State) (k : Nat) (c : Ctx) (dest : Nat) (stage : Nat) (gen : Bool) (number : Nat) (tag : Nat) (h_regs : m .regs = true) (h_csw : m .csw = true) :
    State.mask m (State.sendReplay s k c dest stage gen number tag) = State.mask m s := by
  unfold State.sendReplay
  simp [*]

@[simp] theorem State.sendDone_mask (m : StateField → Bool) (s : State) (k : Nat) (c : Ctx) (dest : Nat) (stage : Nat) (number : Nat) (tag : Nat) (h_csw : m .csw = true) :
    State.mask m (State.sendDone s k c dest stage number tag) = State.mask m s := by
  unfold State.sendDone
  simp [*]

@[simp] theorem State.writeMap_mask (m : StateField → Bool) (s : State) (m0 : Nat) (absent : List Nat) (h_col : m .col = true) :
    State.mask m (State.writeMap s m0 absent).2 = State.mask m s := by
  unfold State.writeMap
  simp [*]

@[simp] theorem State.eventMissing_mask (m : StateField → Bool) (s : State) (c : Ctx) (ep : Nat) (h_regs : m .regs = true) (h_kpr : m .kpr = true) (h_lanes : m .lanes = true) (h_links : m .links = true) (h_csw : m .csw = true) (h_sec : m .sec = true) (h_script : m .script = true) (h_free : m .free = true) :
    State.mask m (State.eventMissing s c ep) = State.mask m s := by
  unfold State.eventMissing
  simp [*]

@[simp] theorem State.recordCol_mask (m : StateField → Bool) (s : State) (k : Nat) (m0 : Nat) (i : Issue) (a : Answer) (bytes : Nat) (value : Nat) (absent : List Nat) (time : Nat) (h_regs : m .regs = true) (h_kpr : m .kpr = true) (h_lanes : m .lanes = true) (h_links : m .links = true) (h_csw : m .csw = true) (h_mem : m .mem = true) (h_sec : m .sec = true) (h_xfr : m .xfr = true) (h_prm : m .prm = true) (h_script : m .script = true) (h_col : m .col = true) (h_memory : m .memory = true) (h_free : m .free = true) :
    State.mask m (State.recordCol s k m0 i a bytes value absent time) = State.mask m s := by
  unfold State.recordCol
  simp [*]

@[simp] theorem State.recordOpens_mask (m : StateField → Bool) (s : State) (k : Nat) (c : Ctx) (m0 : Nat) (a : Answer) (bytes : Nat) (value : Nat) (absent : List Nat) (time : Nat) (h_regs : m .regs = true) (h_kpr : m .kpr = true) (h_lanes : m .lanes = true) (h_links : m .links = true) (h_csw : m .csw = true) (h_mem : m .mem = true) (h_sec : m .sec = true) (h_xfr : m .xfr = true) (h_prm : m .prm = true) (h_script : m .script = true) (h_col : m .col = true) (h_memory : m .memory = true) (h_free : m .free = true) :
    State.mask m (State.recordOpens s k c m0 a bytes value absent time) = State.mask m s := by
  unfold State.recordOpens
  exact State.mask_foldl m _ (fun t x => by simp [*]) _ _

@[simp] theorem State.setUpd_mask (m : StateField → Bool) (s : State) (x : Upd) (h_upd : m .upd = true) :
    State.mask m (State.setUpd s x) = State.mask m s := by
  unfold State.setUpd
  rw [State.mask_mk] <;> simp [*]

@[simp] theorem State.putUpdate_mask (m : StateField → Bool) (s : State) (u : Update) (new : Option Update) (h_upd : m .upd = true) :
    State.mask m (State.putUpdate s u new) = State.mask m s := by
  unfold State.putUpdate
  simp [*]

@[simp] theorem State.countUpdate_mask (m : StateField → Bool) (s : State) (st : Nat) (h_regs : m .regs = true) (h_kpr : m .kpr = true) (h_lanes : m .lanes = true) (h_links : m .links = true) (h_csw : m .csw = true) (h_sec : m .sec = true) (h_free : m .free = true) :
    State.mask m (State.countUpdate s st) = State.mask m s := by
  unfold State.countUpdate
  simp [*]

@[simp] theorem State.endUpdate_mask (m : StateField → Bool) (s : State) (u : Update) (a : Answer) (missing : Nat) (h_regs : m .regs = true) (h_kpr : m .kpr = true) (h_lanes : m .lanes = true) (h_links : m .links = true) (h_csw : m .csw = true) (h_mem : m .mem = true) (h_sec : m .sec = true) (h_xfr : m .xfr = true) (h_prm : m .prm = true) (h_script : m .script = true) (h_col : m .col = true) (h_upd : m .upd = true) (h_memory : m .memory = true) (h_free : m .free = true) :
    State.mask m (State.endUpdate s u a missing) = State.mask m s := by
  unfold State.endUpdate
  split <;> simp [*]

@[simp] theorem State.gateOpens_mask (m : StateField → Bool) (s : State) (c : Ctx) (a : Answer) (missing : Nat) (nr : Nat) (h_regs : m .regs = true) (h_kpr : m .kpr = true) (h_lanes : m .lanes = true) (h_links : m .links = true) (h_csw : m .csw = true) (h_mem : m .mem = true) (h_sec : m .sec = true) (h_xfr : m .xfr = true) (h_prm : m .prm = true) (h_script : m .script = true) (h_col : m .col = true) (h_upd : m .upd = true) (h_memory : m .memory = true) (h_free : m .free = true) :
    State.mask m (State.gateOpens s c a missing nr) = State.mask m s := by
  unfold State.gateOpens
  repeat' first | (simp [*]; done) | (rw [State.mask_mk] <;> simp [*]; done) | refine (State.mask_foldl m _ (fun t x => ?_) _ _).trans ?_ | refine (State.mask_foldl_fst m _ (fun p x => ?_) _ _).trans ?_ | refine (State.mask_foldl_snd m _ (fun p x => ?_) _ _).trans ?_ | split | simp [*]

@[simp] theorem State.ctxEndsUpdate_mask (m : StateField → Bool) (s : State) (k : Nat) (a : Answer) (missing : Nat) (h_regs : m .regs = true) (h_kpr : m .kpr = true) (h_lanes : m .lanes = true) (h_links : m .links = true) (h_csw : m .csw = true) (h_mem : m .mem = true) (h_sec : m .sec = true) (h_xfr : m .xfr = true) (h_prm : m .prm = true) (h_script : m .script = true) (h_col : m .col = true) (h_upd : m .upd = true) (h_memory : m .memory = true) (h_free : m .free = true) :
    State.mask m (State.ctxEndsUpdate s k a missing) = State.mask m s := by
  unfold State.ctxEndsUpdate
  exact State.mask_foldl m _ (fun t x => by simp [*]) _ _

@[simp] theorem State.freeCtx_mask (m : StateField → Bool) (s : State) (k : Nat) (c : Ctx) (h_col : m .col = true) :
    State.mask m (State.freeCtx s k c) = State.mask m s := by
  unfold State.freeCtx
  simp [*]

@[simp] theorem State.abortCtxWith_mask (m : StateField → Bool) (s : State) (k : Nat) (c : Ctx) (messages : Bool) (reason : Nat) (h_regs : m .regs = true) (h_kpr : m .kpr = true) (h_lanes : m .lanes = true) (h_links : m .links = true) (h_csw : m .csw = true) (h_mem : m .mem = true) (h_sec : m .sec = true) (h_xfr : m .xfr = true) (h_prm : m .prm = true) (h_script : m .script = true) (h_col : m .col = true) (h_upd : m .upd = true) (h_memory : m .memory = true) (h_free : m .free = true) :
    State.mask m (State.abortCtxWith s k c messages reason) = State.mask m s := by
  unfold State.abortCtxWith
  dsimp only
  have ha (b : Bool) (l : List (Nat × Nat)) : State.mask m (if b = true then l.foldl (fun t x => t.sendGrant k c x.1 x.2 2 0 0 0 0) s else s) = State.mask m s := by
    split
    · exact State.mask_foldl m _ (fun t x => by simp [*]) _ _
    · rfl
  have hb (a : Comp) (l : List Issue) (t : State) : State.mask m (l.foldl (fun t i => t.completeAt i a t.now) t) = State.mask m t :=
    State.mask_foldl m _ (fun t x => by simp [*]) _ _
  have hc (f : CMember → Comp) (l : List CMember) (t : State) : State.mask m (l.foldl (fun t x => t.completeAt x.issue (f x) t.now) t) = State.mask m t :=
    State.mask_foldl m _ (fun t x => by simp [*]) _ _
  cases c.consumer <;> simp only [State.mask_ite, State.gateOpens_mask, State.ctxEndsUpdate_mask, State.completeAt_mask, State.bump_mask, State.freeCtx_mask, ha, hb, hc, ite_self, *]

@[simp] theorem State.abortCtx_mask (m : StateField → Bool) (s : State) (k : Nat) (c : Ctx) (messages : Bool) (h_regs : m .regs = true) (h_kpr : m .kpr = true) (h_lanes : m .lanes = true) (h_links : m .links = true) (h_csw : m .csw = true) (h_mem : m .mem = true) (h_sec : m .sec = true) (h_xfr : m .xfr = true) (h_prm : m .prm = true) (h_script : m .script = true) (h_col : m .col = true) (h_upd : m .upd = true) (h_memory : m .memory = true) (h_free : m .free = true) :
    State.mask m (State.abortCtx s k c messages) = State.mask m s := by
  unfold State.abortCtx
  repeat' first | (simp [*]; done) | (rw [State.mask_mk] <;> simp [*]; done) | refine (State.mask_foldl m _ (fun t x => ?_) _ _).trans ?_ | refine (State.mask_foldl_fst m _ (fun p x => ?_) _ _).trans ?_ | refine (State.mask_foldl_snd m _ (fun p x => ?_) _ _).trans ?_ | extract_lets | dsimp only | split | simp [*]

end Sys2Proof.Machine
end

