-- ==== Sys2Proof/Laws/Frame/Segments.lean ====
section
/-! SUPPORT. What each function of Machine/Segments.lean leaves alone. -/

namespace Sys2Proof.Machine

@[simp] theorem State.declareMissing_mask (m : StateField → Bool) (s : State) (k : Nat) (ep : Nat) (stage : Nat) (h_regs : m .regs = true) (h_kpr : m .kpr = true) (h_lanes : m .lanes = true) (h_links : m .links = true) (h_csw : m .csw = true) (h_sec : m .sec = true) (h_script : m .script = true) (h_col : m .col = true) (h_free : m .free = true) :
    State.mask m (State.declareMissing s k ep stage) = State.mask m s := by
  unfold State.declareMissing
  split <;> simp [*]

@[simp] theorem State.addElems_mask (m : StateField → Bool) (code : Nat) (n : Nat) (x1 : List (Addend × Nat)) (x2 : Nat) (x3 : Nat) (x4 : Tab ASlot) (x5 : State) (h_regs : m .regs = true) (h_eru : m .eru = true) :
    State.mask m (State.addElems code n x1 x2 x3 x4 x5).2.2 = State.mask m x5 := by
  induction x1 generalizing x2 x3 x4 x5 with
  | nil => rw [State.addElems]
  | cons a r ih =>
    obtain ⟨a, len⟩ := a
    rw [State.addElems]
    split
    · rfl
    · rw [ih]; simp [*]

@[simp] theorem State.resetSeg_mask (m : StateField → Bool) (s : State) (k : Nat) (n : Nat) (counted : Bool) (h_regs : m .regs = true) (h_csw : m .csw = true) (h_col : m .col = true) :
    State.mask m (State.resetSeg s k n counted) = State.mask m s := by
  unfold State.resetSeg
  repeat' first | (simp [*]; done) | (rw [State.mask_mk] <;> simp [*]; done) | refine (State.mask_foldl m _ (fun t x => ?_) _ _).trans ?_ | refine (State.mask_foldl_fst m _ (fun p x => ?_) _ _).trans ?_ | refine (State.mask_foldl_snd m _ (fun p x => ?_) _ _).trans ?_ | split | simp [*]

@[simp] theorem State.insertDefer_mask (m : StateField → Bool) (s : State) (k : Nat) (n : Nat) (h_col : m .col = true) :
    State.mask m (State.insertDefer s k n) = State.mask m s := by
  unfold State.insertDefer
  simp [*]

@[simp] theorem State.deferSeg_mask (m : StateField → Bool) (s : State) (k : Nat) (n : Nat) (h_regs : m .regs = true) (h_col : m .col = true) :
    State.mask m (State.deferSeg s k n) = State.mask m s := by
  unfold State.deferSeg
  split <;> (try split) <;> simp [*]

@[simp] theorem State.checkSeg_mask (m : StateField → Bool) (s : State) (k : Nat) (n : Nat) (sender : Nat) (stage : Nat) (h_regs : m .regs = true) (h_kpr : m .kpr = true) (h_lanes : m .lanes = true) (h_links : m .links = true) (h_csw : m .csw = true) (h_sec : m .sec = true) (h_script : m .script = true) (h_col : m .col = true) (h_free : m .free = true) :
    State.mask m (State.checkSeg s k n sender stage) = State.mask m s := by
  unfold State.checkSeg
  split <;> (try split) <;> simp [*]

@[simp] theorem State.putSlots_mask (m : StateField → Bool) (s : State) (k : Nat) (n : Nat) (r : Bool × Tab ASlot × State) (hr : State.mask m r.2.2 = State.mask m s) (h_regs : m .regs = true) (h_kpr : m .kpr = true) (h_lanes : m .lanes = true) (h_links : m .links = true) (h_csw : m .csw = true) (h_sec : m .sec = true) (h_col : m .col = true) (h_free : m .free = true) :
    State.mask m (State.putSlots s k n r).2 = State.mask m s := by
  unfold State.putSlots
  split
  · rfl
  · split
    · rfl
    · split <;> simp [*]

@[simp] theorem State.countSeg_mask (m : StateField → Bool) (s : State) (k : Nat) (seg : Nat) (bit0 : Nat) (n : Nat) (h_col : m .col = true) :
    State.mask m (State.countSeg s k seg bit0 n) = State.mask m s := by
  unfold State.countSeg
  repeat' first | (simp [*]; done) | (rw [State.mask_mk] <;> simp [*]; done) | refine (State.mask_foldl m _ (fun t x => ?_) _ _).trans ?_ | refine (State.mask_foldl_fst m _ (fun p x => ?_) _ _).trans ?_ | refine (State.mask_foldl_snd m _ (fun p x => ?_) _ _).trans ?_ | split | simp [*]

@[simp] theorem State.countMember_mask (m : StateField → Bool) (s : State) (k : Nat) (ep : Nat) (seg : Nat) (bytes : Nat) (xor : Nat) (h_col : m .col = true) :
    State.mask m (State.countMember s k ep seg bytes xor) = State.mask m s := by
  unfold State.countMember
  simp [*]

@[simp] theorem State.closeCounted_mask (m : StateField → Bool) (s : State) (k : Nat) (h_regs : m .regs = true) (h_kpr : m .kpr = true) (h_lanes : m .lanes = true) (h_links : m .links = true) (h_csw : m .csw = true) (h_mem : m .mem = true) (h_sec : m .sec = true) (h_xfr : m .xfr = true) (h_prm : m .prm = true) (h_script : m .script = true) (h_col : m .col = true) (h_memory : m .memory = true) (h_free : m .free = true) :
    State.mask m (State.closeCounted s k) = State.mask m s := by
  unfold State.closeCounted
  repeat' first | (simp [*]; done) | (rw [State.mask_mk] <;> simp [*]; done) | refine (State.mask_foldl m _ (fun t x => ?_) _ _).trans ?_ | refine (State.mask_foldl_fst m _ (fun p x => ?_) _ _).trans ?_ | refine (State.mask_foldl_snd m _ (fun p x => ?_) _ _).trans ?_ | split | simp [*]

@[simp] theorem State.failMember_mask (m : StateField → Bool) (s : State) (k : Nat) (m0 : CMember) (a : Answer) (h_regs : m .regs = true) (h_kpr : m .kpr = true) (h_lanes : m .lanes = true) (h_links : m .links = true) (h_csw : m .csw = true) (h_sec : m .sec = true) (h_script : m .script = true) (h_col : m .col = true) (h_free : m .free = true) :
    State.mask m (State.failMember s k m0 a) = State.mask m s := by
  unfold State.failMember
  simp [*]

@[simp] theorem State.applyLocal_mask (m : StateField → Bool) (s : State) (k : Nat) (n : Nat) (bit0 : Nat) (m0 : CMember) (h_regs : m .regs = true) (h_kpr : m .kpr = true) (h_lanes : m .lanes = true) (h_links : m .links = true) (h_csw : m .csw = true) (h_mem : m .mem = true) (h_sec : m .sec = true) (h_xfr : m .xfr = true) (h_script : m .script = true) (h_eru : m .eru = true) (h_col : m .col = true) (h_free : m .free = true) :
    State.mask m (State.applyLocal s k n bit0 m0) = State.mask m s := by
  unfold State.applyLocal
  repeat' first | (simp [*]; done) | (rw [State.mask_mk] <;> simp [*]; done) | refine (State.mask_foldl m _ (fun t x => ?_) _ _).trans ?_ | refine (State.mask_foldl_fst m _ (fun p x => ?_) _ _).trans ?_ | refine (State.mask_foldl_snd m _ (fun p x => ?_) _ _).trans ?_ | split | simp [*]

@[simp] theorem State.applyLocals_mask (m : StateField → Bool) (s : State) (k : Nat) (h_regs : m .regs = true) (h_kpr : m .kpr = true) (h_lanes : m .lanes = true) (h_links : m .links = true) (h_csw : m .csw = true) (h_mem : m .mem = true) (h_sec : m .sec = true) (h_xfr : m .xfr = true) (h_script : m .script = true) (h_eru : m .eru = true) (h_col : m .col = true) (h_free : m .free = true) :
    State.mask m (State.applyLocals s k) = State.mask m s := by
  unfold State.applyLocals
  repeat' first | (simp [*]; done) | (rw [State.mask_mk] <;> simp [*]; done) | refine (State.mask_foldl m _ (fun t x => ?_) _ _).trans ?_ | refine (State.mask_foldl_fst m _ (fun p x => ?_) _ _).trans ?_ | refine (State.mask_foldl_snd m _ (fun p x => ?_) _ _).trans ?_ | split | simp [*]

@[simp] theorem State.grantSeg_mask (m : StateField → Bool) (s : State) (k : Nat) (n : Nat) (x : Seg) (e : Nat × Nat) (runs : List (Nat × Nat × Nat × Nat × Bool)) (h_col : m .col = true) :
    State.mask m (State.grantSeg s k n x e runs).1 = State.mask m s := by
  unfold State.grantSeg
  split <;> (try split) <;> simp [*]

@[simp] theorem State.grantRed_mask (m : StateField → Bool) (s : State) (k : Nat) (h_csw : m .csw = true) (h_col : m .col = true) :
    State.mask m (State.grantRed s k) = State.mask m s := by
  unfold State.grantRed
  repeat' first | (simp [*]; done) | (rw [State.mask_mk] <;> simp [*]; done) | refine (State.mask_foldl m _ (fun t x => ?_) _ _).trans ?_ | refine (State.mask_foldl_fst m _ (fun p x => ?_) _ _).trans ?_ | refine (State.mask_foldl_snd m _ (fun p x => ?_) _ _).trans ?_ | split | simp [*]

@[simp] theorem State.completeSeg_mask (m : StateField → Bool) (s : State) (k : Nat) (n : Nat) (h_regs : m .regs = true) (h_kpr : m .kpr = true) (h_lanes : m .lanes = true) (h_links : m .links = true) (h_csw : m .csw = true) (h_sec : m .sec = true) (h_col : m .col = true) (h_free : m .free = true) :
    State.mask m (State.completeSeg s k n) = State.mask m s := by
  unfold State.completeSeg
  repeat' first | (simp [*]; done) | (rw [State.mask_mk] <;> simp [*]; done) | refine (State.mask_foldl m _ (fun t x => ?_) _ _).trans ?_ | refine (State.mask_foldl_fst m _ (fun p x => ?_) _ _).trans ?_ | refine (State.mask_foldl_snd m _ (fun p x => ?_) _ _).trans ?_ | extract_lets | dsimp only | split | simp [*]

@[simp] theorem State.completeSegs_mask (m : StateField → Bool) (s : State) (k : Nat) (h_regs : m .regs = true) (h_kpr : m .kpr = true) (h_lanes : m .lanes = true) (h_links : m .links = true) (h_csw : m .csw = true) (h_sec : m .sec = true) (h_col : m .col = true) (h_free : m .free = true) :
    State.mask m (State.completeSegs s k) = State.mask m s := by
  unfold State.completeSegs
  repeat' first | (simp [*]; done) | (rw [State.mask_mk] <;> simp [*]; done) | refine (State.mask_foldl m _ (fun t x => ?_) _ _).trans ?_ | refine (State.mask_foldl_fst m _ (fun p x => ?_) _ _).trans ?_ | refine (State.mask_foldl_snd m _ (fun p x => ?_) _ _).trans ?_ | split | simp [*]

@[simp] theorem State.sendPartial_mask (m : StateField → Bool) (s : State) (k : Nat) (c : Ctx) (x : CSend) (bytes : List Byte) (contribs : Nat) (e : Nat) (fmt : Nat) (h_regs : m .regs = true) (h_kpr : m .kpr = true) (h_lanes : m .lanes = true) (h_links : m .links = true) (h_csw : m .csw = true) (h_sec : m .sec = true) (h_col : m .col = true) (h_free : m .free = true) :
    State.mask m (State.sendPartial s k c x bytes contribs e fmt) = State.mask m s := by
  unfold State.sendPartial
  repeat' first | (simp [*]; done) | (rw [State.mask_mk] <;> simp [*]; done) | refine (State.mask_foldl m _ (fun t x => ?_) _ _).trans ?_ | refine (State.mask_foldl_fst m _ (fun p x => ?_) _ _).trans ?_ | refine (State.mask_foldl_snd m _ (fun p x => ?_) _ _).trans ?_ | split | simp [*]

@[simp] theorem State.sendPartials_mask (m : StateField → Bool) (s : State) (k : Nat) (h_regs : m .regs = true) (h_kpr : m .kpr = true) (h_lanes : m .lanes = true) (h_links : m .links = true) (h_csw : m .csw = true) (h_sec : m .sec = true) (h_col : m .col = true) (h_free : m .free = true) :
    State.mask m (State.sendPartials s k) = State.mask m s := by
  unfold State.sendPartials
  repeat' first | (simp [*]; done) | (rw [State.mask_mk] <;> simp [*]; done) | refine (State.mask_foldl m _ (fun t x => ?_) _ _).trans ?_ | refine (State.mask_foldl_fst m _ (fun p x => ?_) _ _).trans ?_ | refine (State.mask_foldl_snd m _ (fun p x => ?_) _ _).trans ?_ | split | simp [*]

@[simp] theorem State.writeOut_mask (m : StateField → Bool) (s : State) (k : Nat) (n : Nat) (d : Line) (h_regs : m .regs = true) (h_kpr : m .kpr = true) (h_lanes : m .lanes = true) (h_links : m .links = true) (h_csw : m .csw = true) (h_mem : m .mem = true) (h_sec : m .sec = true) (h_xfr : m .xfr = true) (h_col : m .col = true) (h_memory : m .memory = true) (h_free : m .free = true) :
    State.mask m (State.writeOut s k n d) = State.mask m s := by
  unfold State.writeOut
  split
  · rfl
  split
  · rfl
  extract_lets img at0
  split
  · rw [State.modCtx_mask, State.refusedPut_mask] <;> assumption
  · rename_i hput
    rw [State.modCtx_mask, State.putBytes_mask m _ _ _ _ h_regs h_mem h_xfr h_memory hput] <;> assumption

@[simp] theorem State.attachOut_mask (m : StateField → Bool) (s : State) (k : Nat) (c : Ctx) (i : Issue) (h_regs : m .regs = true) (h_kpr : m .kpr = true) (h_lanes : m .lanes = true) (h_links : m .links = true) (h_csw : m .csw = true) (h_mem : m .mem = true) (h_sec : m .sec = true) (h_xfr : m .xfr = true) (h_prm : m .prm = true) (h_script : m .script = true) (h_col : m .col = true) (h_memory : m .memory = true) (h_free : m .free = true) :
    State.mask m (State.attachOut s k c i) = State.mask m s := by
  unfold State.attachOut
  dsimp only
  split <;> (try split) <;> simp [*]

@[simp] theorem State.beginPass_mask (m : StateField → Bool) (s : State) (k : Nat) (h_col : m .col = true) :
    State.mask m (State.beginPass s k) = State.mask m s := by
  unfold State.beginPass
  split <;> simp [*]

@[simp] theorem State.freePass_mask (m : StateField → Bool) (s : State) (k : Nat) (h_regs : m .regs = true) (h_col : m .col = true) :
    State.mask m (State.freePass s k) = State.mask m s := by
  unfold State.freePass
  split <;> simp [*]

@[simp] theorem State.handNorm_mask (m : StateField → Bool) (s : State) (c : Ctx) (h_col : m .col = true) :
    State.mask m (State.handNorm s c) = State.mask m s := by
  unfold State.handNorm
  simp [*]

@[simp] theorem State.closeRed_mask (m : StateField → Bool) (s : State) (k : Nat) (c : Ctx) (h_regs : m .regs = true) (h_kpr : m .kpr = true) (h_lanes : m .lanes = true) (h_links : m .links = true) (h_csw : m .csw = true) (h_mem : m .mem = true) (h_sec : m .sec = true) (h_xfr : m .xfr = true) (h_prm : m .prm = true) (h_script : m .script = true) (h_col : m .col = true) (h_upd : m .upd = true) (h_memory : m .memory = true) (h_free : m .free = true) :
    State.mask m (State.closeRed s k c) = State.mask m s := by
  unfold State.closeRed
  repeat' first | (simp [*]; done) | (rw [State.mask_mk] <;> simp [*]; done) | refine (State.mask_foldl m _ (fun t x => ?_) _ _).trans ?_ | refine (State.mask_foldl_fst m _ (fun p x => ?_) _ _).trans ?_ | refine (State.mask_foldl_snd m _ (fun p x => ?_) _ _).trans ?_ | split | simp [*]

@[simp] theorem State.drainStepRed_mask (m : StateField → Bool) (s : State) (k : Nat) (h_regs : m .regs = true) (h_kpr : m .kpr = true) (h_lanes : m .lanes = true) (h_links : m .links = true) (h_csw : m .csw = true) (h_mem : m .mem = true) (h_sec : m .sec = true) (h_xfr : m .xfr = true) (h_prm : m .prm = true) (h_script : m .script = true) (h_col : m .col = true) (h_upd : m .upd = true) (h_memory : m .memory = true) (h_free : m .free = true) :
    State.mask m (State.drainStepRed s k).2 = State.mask m s := by
  unfold State.drainStepRed
  repeat' first | (simp [*]; done) | (rw [State.mask_mk] <;> simp [*]; done) | refine (State.mask_foldl m _ (fun t x => ?_) _ _).trans ?_ | refine (State.mask_foldl_fst m _ (fun p x => ?_) _ _).trans ?_ | refine (State.mask_foldl_snd m _ (fun p x => ?_) _ _).trans ?_ | split | simp [*]

@[simp] theorem State.drainRed_mask (m : StateField → Bool) (k : Nat) (x1 : Nat) (x2 : State) (h_regs : m .regs = true) (h_kpr : m .kpr = true) (h_lanes : m .lanes = true) (h_links : m .links = true) (h_csw : m .csw = true) (h_mem : m .mem = true) (h_sec : m .sec = true) (h_xfr : m .xfr = true) (h_prm : m .prm = true) (h_script : m .script = true) (h_eru : m .eru = true) (h_col : m .col = true) (h_upd : m .upd = true) (h_memory : m .memory = true) (h_free : m .free = true) :
    State.mask m (State.drainRed k x1 x2) = State.mask m x2 := by
  induction x1 generalizing x2 with
  | zero => rw [State.drainRed]
  | succ f ih =>
    rw [State.drainRed]
    split
    · rw [ih]; simp [*]
    · simp [*]

@[simp] theorem State.settleRed_mask (m : StateField → Bool) (s : State) (k : Nat) (h_regs : m .regs = true) (h_kpr : m .kpr = true) (h_lanes : m .lanes = true) (h_links : m .links = true) (h_csw : m .csw = true) (h_mem : m .mem = true) (h_sec : m .sec = true) (h_xfr : m .xfr = true) (h_prm : m .prm = true) (h_script : m .script = true) (h_eru : m .eru = true) (h_col : m .col = true) (h_upd : m .upd = true) (h_memory : m .memory = true) (h_free : m .free = true) :
    State.mask m (State.settleRed s k) = State.mask m s := by
  unfold State.settleRed
  repeat' first | (simp [*]; done) | (rw [State.mask_mk] <;> simp [*]; done) | refine (State.mask_foldl m _ (fun t x => ?_) _ _).trans ?_ | refine (State.mask_foldl_fst m _ (fun p x => ?_) _ _).trans ?_ | refine (State.mask_foldl_snd m _ (fun p x => ?_) _ _).trans ?_ | split | simp [*]

end Sys2Proof.Machine
end

