-- ==== Sys2Proof/Laws/Frame/Values.lean ====
section
/-! SUPPORT. What each function of Machine/Values.lean leaves alone. -/

namespace Sys2Proof.Machine

@[simp] theorem State.grantValues_mask (m : StateField → Bool) (s : State) (k : Nat) (h_csw : m .csw = true) (h_col : m .col = true) :
    State.mask m (State.grantValues s k) = State.mask m s := by
  unfold State.grantValues
  repeat' first | (simp [*]; done) | (rw [State.mask_mk] <;> simp [*]; done) | refine (State.mask_foldl m _ (fun t x => ?_) _ _).trans ?_ | refine (State.mask_foldl_fst m _ (fun p x => ?_) _ _).trans ?_ | refine (State.mask_foldl_snd m _ (fun p x => ?_) _ _).trans ?_ | split | simp [*]

@[simp] theorem State.sendValues_mask (m : StateField → Bool) (s : State) (k : Nat) (sends : List (Nat × Nat × Value)) (h_regs : m .regs = true) (h_kpr : m .kpr = true) (h_lanes : m .lanes = true) (h_links : m .links = true) (h_csw : m .csw = true) (h_sec : m .sec = true) (h_col : m .col = true) (h_free : m .free = true) :
    State.mask m (State.sendValues s k sends) = State.mask m s := by
  unfold State.sendValues
  repeat' first | (simp [*]; done) | (rw [State.mask_mk] <;> simp [*]; done) | refine (State.mask_foldl m _ (fun t x => ?_) _ _).trans ?_ | refine (State.mask_foldl_fst m _ (fun p x => ?_) _ _).trans ?_ | refine (State.mask_foldl_snd m _ (fun p x => ?_) _ _).trans ?_ | split | simp [*]

@[simp] theorem State.writeNorm_mask (m : StateField → Bool) (s : State) (d : Line) (v : Value) (h_regs : m .regs = true) (h_kpr : m .kpr = true) (h_lanes : m .lanes = true) (h_links : m .links = true) (h_csw : m .csw = true) (h_mem : m .mem = true) (h_sec : m .sec = true) (h_xfr : m .xfr = true) (h_memory : m .memory = true) (h_free : m .free = true) :
    State.mask m (State.writeNorm s d v).2.2.2 = State.mask m s := by
  unfold State.writeNorm
  extract_lets res b
  split
  · simp [*]
  · rename_i hput
    exact State.putBytes_mask m _ _ _ _ h_regs h_mem h_xfr h_memory hput

@[simp] theorem State.closeNorm_mask (m : StateField → Bool) (s : State) (k : Nat) (c : Ctx) (v : Value) (h_regs : m .regs = true) (h_kpr : m .kpr = true) (h_lanes : m .lanes = true) (h_links : m .links = true) (h_csw : m .csw = true) (h_mem : m .mem = true) (h_sec : m .sec = true) (h_xfr : m .xfr = true) (h_prm : m .prm = true) (h_script : m .script = true) (h_col : m .col = true) (h_upd : m .upd = true) (h_memory : m .memory = true) (h_free : m .free = true) :
    State.mask m (State.closeNorm s k c v) = State.mask m s := by
  unfold State.closeNorm
  repeat' first | (simp [*]; done) | (rw [State.mask_mk] <;> simp [*]; done) | refine (State.mask_foldl m _ (fun t x => ?_) _ _).trans ?_ | refine (State.mask_foldl_fst m _ (fun p x => ?_) _ _).trans ?_ | refine (State.mask_foldl_snd m _ (fun p x => ?_) _ _).trans ?_ | split | simp [*]

@[simp] theorem State.closeBarrier_mask (m : StateField → Bool) (s : State) (k : Nat) (c : Ctx) (a : Answer) (time : Nat) (h_regs : m .regs = true) (h_kpr : m .kpr = true) (h_lanes : m .lanes = true) (h_links : m .links = true) (h_csw : m .csw = true) (h_mem : m .mem = true) (h_sec : m .sec = true) (h_xfr : m .xfr = true) (h_prm : m .prm = true) (h_script : m .script = true) (h_col : m .col = true) (h_memory : m .memory = true) (h_free : m .free = true) :
    State.mask m (State.closeBarrier s k c a time) = State.mask m s := by
  unfold State.closeBarrier
  repeat' first | (simp [*]; done) | (rw [State.mask_mk] <;> simp [*]; done) | refine (State.mask_foldl m _ (fun t x => ?_) _ _).trans ?_ | refine (State.mask_foldl_fst m _ (fun p x => ?_) _ _).trans ?_ | refine (State.mask_foldl_snd m _ (fun p x => ?_) _ _).trans ?_ | split | simp [*]

@[simp] theorem State.advanceStep_mask (m : StateField → Bool) (s : State) (d : Line) (h_regs : m .regs = true) (h_clk : m .clk = true) :
    State.mask m (State.advanceStep s d) = State.mask m s := by
  unfold State.advanceStep
  repeat' first | (simp [*]; done) | (rw [State.mask_mk] <;> simp [*]; done) | refine (State.mask_foldl m _ (fun t x => ?_) _ _).trans ?_ | refine (State.mask_foldl_fst m _ (fun p x => ?_) _ _).trans ?_ | refine (State.mask_foldl_snd m _ (fun p x => ?_) _ _).trans ?_ | split | simp [*]

@[simp] theorem State.endBarrier_mask (m : StateField → Bool) (s : State) (k : Nat) (c : Ctx) (v : Value) (h_regs : m .regs = true) (h_kpr : m .kpr = true) (h_clk : m .clk = true) (h_lanes : m .lanes = true) (h_links : m .links = true) (h_csw : m .csw = true) (h_mem : m .mem = true) (h_sec : m .sec = true) (h_xfr : m .xfr = true) (h_prm : m .prm = true) (h_script : m .script = true) (h_col : m .col = true) (h_memory : m .memory = true) (h_free : m .free = true) :
    State.mask m (State.endBarrier s k c v) = State.mask m s := by
  unfold State.endBarrier
  simp [*]

@[simp] theorem State.releaseBarrier_mask (m : StateField → Bool) (s : State) (k : Nat) (h_regs : m .regs = true) (h_kpr : m .kpr = true) (h_clk : m .clk = true) (h_lanes : m .lanes = true) (h_links : m .links = true) (h_csw : m .csw = true) (h_mem : m .mem = true) (h_sec : m .sec = true) (h_xfr : m .xfr = true) (h_prm : m .prm = true) (h_script : m .script = true) (h_col : m .col = true) (h_memory : m .memory = true) (h_free : m .free = true) :
    State.mask m (State.releaseBarrier s k) = State.mask m s := by
  unfold State.releaseBarrier
  split <;> (try split) <;> simp [*]

@[simp] theorem State.settleValue_mask (m : StateField → Bool) (s : State) (k : Nat) (h_regs : m .regs = true) (h_kpr : m .kpr = true) (h_clk : m .clk = true) (h_lanes : m .lanes = true) (h_links : m .links = true) (h_csw : m .csw = true) (h_mem : m .mem = true) (h_sec : m .sec = true) (h_xfr : m .xfr = true) (h_prm : m .prm = true) (h_script : m .script = true) (h_col : m .col = true) (h_upd : m .upd = true) (h_memory : m .memory = true) (h_free : m .free = true) :
    State.mask m (State.settleValue s k) = State.mask m s := by
  unfold State.settleValue
  repeat' first | (simp [*]; done) | (rw [State.mask_mk] <;> simp [*]; done) | refine (State.mask_foldl m _ (fun t x => ?_) _ _).trans ?_ | refine (State.mask_foldl_fst m _ (fun p x => ?_) _ _).trans ?_ | refine (State.mask_foldl_snd m _ (fun p x => ?_) _ _).trans ?_ | extract_lets | dsimp only | split | simp [*]

end Sys2Proof.Machine
end

