-- ==== Sys2Proof/Laws/Frame/Contrib.lean ====
section
/-! SUPPORT. What each function of Machine/Contrib.lean leaves alone. -/

namespace Sys2Proof.Machine

@[simp] theorem State.modRecv_mask (m : StateField → Bool) (s : State) (k : Nat) (r : CRecv) (f : CRecv → CRecv) (h_col : m .col = true) :
    State.mask m (State.modRecv s k r f) = State.mask m s := by
  unfold State.modRecv
  simp [*]

@[simp] theorem State.badMessage_mask (m : StateField → Bool) (s : State) (k : Nat) (c : Ctx) (r : CRecv) (h_regs : m .regs = true) (h_kpr : m .kpr = true) (h_lanes : m .lanes = true) (h_links : m .links = true) (h_csw : m .csw = true) (h_sec : m .sec = true) (h_script : m .script = true) (h_col : m .col = true) (h_free : m .free = true) :
    State.mask m (State.badMessage s k c r) = State.mask m s := by
  unfold State.badMessage
  simp [*]

@[simp] theorem State.takeMiss_mask (m : StateField → Bool) (s : State) (k : Nat) (r : CRecv) (h : Cell) (h_col : m .col = true) :
    State.mask m (State.takeMiss s k r h) = State.mask m s := by
  unfold State.takeMiss
  simp [*]

@[simp] theorem State.journalChunks_mask (m : StateField → Bool) (s : State) (c : Ctx) (r : CRecv) (h : Cell) (checks : List (BitVec 128)) (h_regs : m .regs = true) (h_kpr : m .kpr = true) (h_lanes : m .lanes = true) (h_links : m .links = true) (h_csw : m .csw = true) (h_sec : m .sec = true) (h_script : m .script = true) (h_free : m .free = true) :
    State.mask m (State.journalChunks s c r h checks) = State.mask m s := by
  unfold State.journalChunks
  repeat' first | (simp [*]; done) | (rw [State.mask_mk] <;> simp [*]; done) | refine (State.mask_foldl m _ (fun t x => ?_) _ _).trans ?_ | refine (State.mask_foldl_fst m _ (fun p x => ?_) _ _).trans ?_ | refine (State.mask_foldl_snd m _ (fun p x => ?_) _ _).trans ?_ | split | simp [*]

@[simp] theorem State.overCount_mask (m : StateField → Bool) (s : State) (k : Nat) (r : CRecv) (h_regs : m .regs = true) (h_kpr : m .kpr = true) (h_lanes : m .lanes = true) (h_links : m .links = true) (h_csw : m .csw = true) (h_sec : m .sec = true) (h_script : m .script = true) (h_col : m .col = true) (h_free : m .free = true) :
    State.mask m (State.overCount s k r) = State.mask m s := by
  unfold State.overCount
  repeat' first | (simp [*]; done) | (rw [State.mask_mk] <;> simp [*]; done) | refine (State.mask_foldl m _ (fun t x => ?_) _ _).trans ?_ | refine (State.mask_foldl_fst m _ (fun p x => ?_) _ _).trans ?_ | refine (State.mask_foldl_snd m _ (fun p x => ?_) _ _).trans ?_ | split | simp [*]

@[simp] theorem State.countMessage_mask (m : StateField → Bool) (s : State) (k : Nat) (c : Ctx) (r : CRecv) (h : Cell) (b : List Byte) (checks : List (BitVec 128)) (h_regs : m .regs = true) (h_kpr : m .kpr = true) (h_lanes : m .lanes = true) (h_links : m .links = true) (h_csw : m .csw = true) (h_sec : m .sec = true) (h_script : m .script = true) (h_col : m .col = true) (h_free : m .free = true) :
    State.mask m (State.countMessage s k c r h b checks) = State.mask m s := by
  unfold State.countMessage
  repeat' first | (simp [*]; done) | (rw [State.mask_mk] <;> simp [*]; done) | refine (State.mask_foldl m _ (fun t x => ?_) _ _).trans ?_ | refine (State.mask_foldl_fst m _ (fun p x => ?_) _ _).trans ?_ | refine (State.mask_foldl_snd m _ (fun p x => ?_) _ _).trans ?_ | split | simp [*]

@[simp] theorem State.countValue_mask (m : StateField → Bool) (s : State) (k : Nat) (c : Ctx) (r : CRecv) (h : Cell) (b : List Byte) (h_regs : m .regs = true) (h_kpr : m .kpr = true) (h_lanes : m .lanes = true) (h_links : m .links = true) (h_csw : m .csw = true) (h_sec : m .sec = true) (h_script : m .script = true) (h_col : m .col = true) (h_free : m .free = true) :
    State.mask m (State.countValue s k c r h b) = State.mask m s := by
  unfold State.countValue
  split <;> simp [*]

@[simp] theorem State.tryMessage_mask (m : StateField → Bool) (s : State) (k : Nat) (r : CRecv) (h_regs : m .regs = true) (h_kpr : m .kpr = true) (h_lanes : m .lanes = true) (h_links : m .links = true) (h_csw : m .csw = true) (h_sec : m .sec = true) (h_script : m .script = true) (h_col : m .col = true) (h_free : m .free = true) :
    State.mask m (State.tryMessage s k r) = State.mask m s := by
  unfold State.tryMessage
  split <;> (try split) <;> simp [*]

@[simp] theorem State.applyCell_mask (m : StateField → Bool) (s : State) (k : Nat) (r : CRecv) (index : Nat) (b : List Byte) (h_regs : m .regs = true) (h_kpr : m .kpr = true) (h_lanes : m .lanes = true) (h_links : m .links = true) (h_csw : m .csw = true) (h_sec : m .sec = true) (h_eru : m .eru = true) (h_col : m .col = true) (h_free : m .free = true) :
    State.mask m (State.applyCell s k r index b).2 = State.mask m s := by
  unfold State.applyCell
  repeat' first | (simp [*]; done) | (rw [State.mask_mk] <;> simp [*]; done) | refine (State.mask_foldl m _ (fun t x => ?_) _ _).trans ?_ | refine (State.mask_foldl_fst m _ (fun p x => ?_) _ _).trans ?_ | refine (State.mask_foldl_snd m _ (fun p x => ?_) _ _).trans ?_ | split | simp [*]

@[simp] theorem State.applyStream_mask (m : StateField → Bool) (s : State) (k : Nat) (c : Ctx) (r : CRecv) (h : Cell) (h_regs : m .regs = true) (h_kpr : m .kpr = true) (h_lanes : m .lanes = true) (h_links : m .links = true) (h_csw : m .csw = true) (h_sec : m .sec = true) (h_eru : m .eru = true) (h_col : m .col = true) (h_free : m .free = true) :
    State.mask m (State.applyStream s k c r h).2 = State.mask m s := by
  unfold State.applyStream
  repeat' first | (simp [*]; done) | (rw [State.mask_mk] <;> simp [*]; done) | refine (State.mask_foldl m _ (fun t x => ?_) _ _).trans ?_ | refine (State.mask_foldl_fst m _ (fun p x => ?_) _ _).trans ?_ | refine (State.mask_foldl_snd m _ (fun p x => ?_) _ _).trans ?_ | split | simp [*]

@[simp] theorem State.feedMessage_mask (m : StateField → Bool) (s : State) (k : Nat) (r : CRecv) (fresh : List Nat) (h_regs : m .regs = true) (h_kpr : m .kpr = true) (h_lanes : m .lanes = true) (h_links : m .links = true) (h_csw : m .csw = true) (h_sec : m .sec = true) (h_script : m .script = true) (h_eru : m .eru = true) (h_col : m .col = true) (h_free : m .free = true) :
    State.mask m (State.feedMessage s k r fresh) = State.mask m s := by
  unfold State.feedMessage
  repeat' first | (simp [*]; done) | (rw [State.mask_mk] <;> simp [*]; done) | refine (State.mask_foldl m _ (fun t x => ?_) _ _).trans ?_ | refine (State.mask_foldl_fst m _ (fun p x => ?_) _ _).trans ?_ | refine (State.mask_foldl_snd m _ (fun p x => ?_) _ _).trans ?_ | split | simp [*]

@[simp] theorem State.takeMsgHead_mask (m : StateField → Bool) (s : State) (k : Nat) (c : Ctx) (r : CRecv) (h : Cell) (h_regs : m .regs = true) (h_kpr : m .kpr = true) (h_lanes : m .lanes = true) (h_links : m .links = true) (h_csw : m .csw = true) (h_sec : m .sec = true) (h_script : m .script = true) (h_eru : m .eru = true) (h_col : m .col = true) (h_free : m .free = true) :
    State.mask m (State.takeMsgHead s k c r h) = State.mask m s := by
  unfold State.takeMsgHead
  simp [*]

@[simp] theorem State.takeMsgCell_mask (m : StateField → Bool) (s : State) (k : Nat) (r : CRecv) (index : Nat) (p : Line) (h_regs : m .regs = true) (h_kpr : m .kpr = true) (h_lanes : m .lanes = true) (h_links : m .links = true) (h_csw : m .csw = true) (h_sec : m .sec = true) (h_script : m .script = true) (h_eru : m .eru = true) (h_col : m .col = true) (h_free : m .free = true) :
    State.mask m (State.takeMsgCell s k r index p) = State.mask m s := by
  unfold State.takeMsgCell
  repeat' first | (simp [*]; done) | (rw [State.mask_mk] <;> simp [*]; done) | refine (State.mask_foldl m _ (fun t x => ?_) _ _).trans ?_ | refine (State.mask_foldl_fst m _ (fun p x => ?_) _ _).trans ?_ | refine (State.mask_foldl_snd m _ (fun p x => ?_) _ _).trans ?_ | split | simp [*]

@[simp] theorem State.takeContrib_mask (m : StateField → Bool) (s : State) (c : Cell) (h_regs : m .regs = true) (h_kpr : m .kpr = true) (h_lanes : m .lanes = true) (h_links : m .links = true) (h_csw : m .csw = true) (h_sec : m .sec = true) (h_script : m .script = true) (h_eru : m .eru = true) (h_col : m .col = true) (h_free : m .free = true) :
    State.mask m (State.takeContrib s c) = State.mask m s := by
  unfold State.takeContrib
  repeat' first | (simp [*]; done) | (rw [State.mask_mk] <;> simp [*]; done) | refine (State.mask_foldl m _ (fun t x => ?_) _ _).trans ?_ | refine (State.mask_foldl_fst m _ (fun p x => ?_) _ _).trans ?_ | refine (State.mask_foldl_snd m _ (fun p x => ?_) _ _).trans ?_ | split | simp [*]

end Sys2Proof.Machine
end

