-- ==== Sys2Proof/Laws/Frame/Alltoall.lean ====
section
/-! SUPPORT. What each function of Machine/Alltoall.lean leaves alone. -/

namespace Sys2Proof.Machine

@[simp] theorem State.sendA2a_mask (m : StateField → Bool) (s : State) (k : Nat) (c : Ctx) (m0 : CMember) (table : List Nat) (x : CSend) (h_regs : m .regs = true) (h_kpr : m .kpr = true) (h_lanes : m .lanes = true) (h_links : m .links = true) (h_csw : m .csw = true) (h_mem : m .mem = true) (h_sec : m .sec = true) (h_xfr : m .xfr = true) (h_col : m .col = true) (h_free : m .free = true) :
    State.mask m (State.sendA2a s k c m0 table x) = State.mask m s := by
  unfold State.sendA2a
  split
  · extract_lets item n mark per first items at0 bytes wrap told tag f
    have hmark : ∀ t, State.mask m (mark t) = State.mask m t := fun t => by unfold mark; simp [*]
    have ht : State.mask m told = State.mask m s := by unfold told; simp [*]
    clear_value mark told wrap
    split
    · split
      · exact hmark _
      · rw [hmark]; simp [*]
    · split
      · rfl
      · clear_value bytes
        cases bytes with
        | error a => simp [*]
        | ok b =>
          dsimp only
          rw [State.modCtx_mask, hmark]
          · refine (State.mask_foldl m _ (fun t x => ?_) _ _).trans ?_
            · simp [*]
            · skip
              split <;> (try dsimp only) <;> simp [*]
          · assumption
  · rfl

@[simp] theorem State.passGrant_mask (m : StateField → Bool) (s : State) (k : Nat) (c : Ctx) (m0 : CMember) (x : CSend) (h_csw : m .csw = true) (h_col : m .col = true) :
    State.mask m (State.passGrant s k c m0 x) = State.mask m s := by
  unfold State.passGrant
  repeat' first | (simp [*]; done) | (rw [State.mask_mk] <;> simp [*]; done) | refine (State.mask_foldl m _ (fun t x => ?_) _ _).trans ?_ | refine (State.mask_foldl_fst m _ (fun p x => ?_) _ _).trans ?_ | refine (State.mask_foldl_snd m _ (fun p x => ?_) _ _).trans ?_ | split | simp [*]

@[simp] theorem State.sendRuns_mask (m : StateField → Bool) (s : State) (k : Nat) (h_regs : m .regs = true) (h_kpr : m .kpr = true) (h_lanes : m .lanes = true) (h_links : m .links = true) (h_csw : m .csw = true) (h_mem : m .mem = true) (h_sec : m .sec = true) (h_xfr : m .xfr = true) (h_col : m .col = true) (h_free : m .free = true) :
    State.mask m (State.sendRuns s k) = State.mask m s := by
  unfold State.sendRuns
  split
  · rfl
  · split
    · rfl
    · refine State.mask_foldl m _ (fun t x => ?_) _ _
      extract_lets mine
      split
      · rfl
      · split
        · exact State.mask_foldl m _ (fun u y => by simp [*]) _ _
        · split
          · simp [*]
          · refine (State.mask_foldl m _ (fun u y => ?_) _ _).trans ?_ <;> simp [*]

@[simp] theorem State.grantA2a_mask (m : StateField → Bool) (s : State) (k : Nat) (c : Ctx) (source : Nat) (member : Nat) (stage : Nat) (flags : Nat) (first : Nat) (count : Nat) (mask : Nat) (h_csw : m .csw = true) :
    State.mask m (State.grantA2a s k c source member stage flags first count mask) = State.mask m s := by
  unfold State.grantA2a
  repeat' first | (simp [*]; done) | (rw [State.mask_mk] <;> simp [*]; done) | refine (State.mask_foldl m _ (fun t x => ?_) _ _).trans ?_ | refine (State.mask_foldl_fst m _ (fun p x => ?_) _ _).trans ?_ | refine (State.mask_foldl_snd m _ (fun p x => ?_) _ _).trans ?_ | split | simp [*]

@[simp] theorem State.grantRuns_mask (m : StateField → Bool) (s : State) (k : Nat) (h_csw : m .csw = true) (h_col : m .col = true) :
    State.mask m (State.grantRuns s k) = State.mask m s := by
  unfold State.grantRuns
  split
  · rfl
  · split
    · rfl
    · extract_lets h drop takers
      refine State.mask_foldl m _ (fun t x => ?_) _ _
      refine State.mask_foldl m _ (fun u y => ?_) _ _
      dsimp only
      split
      · rfl
      · split
        · rfl
        · split <;> simp [*]

@[simp] theorem State.layoutRuns_mask (m : StateField → Bool) (s : State) (k : Nat) (m0 : CMember) (x1 : List Nat) (x2 : Nat) (h_csw : m .csw = true) (h_col : m .col = true) :
    State.mask m (State.layoutRuns s k m0 x1 x2) = State.mask m s := by
  induction x1 generalizing s x2 with
  | nil => rw [State.layoutRuns]
  | cons x xs ih =>
    rw [State.layoutRuns]
    repeat' first | rfl | rw [ih] | (simp [*]; done) | refine (State.mask_foldl m _ (fun t x => ?_) _ _).trans ?_ | split | dsimp only

@[simp] theorem State.layoutAll_mask (m : StateField → Bool) (s : State) (k : Nat) (h_csw : m .csw = true) (h_col : m .col = true) :
    State.mask m (State.layoutAll s k) = State.mask m s := by
  unfold State.layoutAll
  repeat' first | (simp [*]; done) | (rw [State.mask_mk] <;> simp [*]; done) | refine (State.mask_foldl m _ (fun t x => ?_) _ _).trans ?_ | refine (State.mask_foldl_fst m _ (fun p x => ?_) _ _).trans ?_ | refine (State.mask_foldl_snd m _ (fun p x => ?_) _ _).trans ?_ | split | simp [*]

@[simp] theorem State.runDone_mask (m : StateField → Bool) (s : State) (k : Nat) (source : Nat) (member : Nat) (h_csw : m .csw = true) :
    State.mask m (State.runDone s k source member) = State.mask m s := by
  unfold State.runDone
  split <;> simp [*]

@[simp] theorem State.takeCounts_mask (m : StateField → Bool) (s : State) (c : Cell) (h_regs : m .regs = true) (h_kpr : m .kpr = true) (h_lanes : m .lanes = true) (h_links : m .links = true) (h_csw : m .csw = true) (h_sec : m .sec = true) (h_script : m .script = true) (h_col : m .col = true) (h_free : m .free = true) :
    State.mask m (State.takeCounts s c) = State.mask m s := by
  unfold State.takeCounts
  repeat' first | (simp [*]; done) | (rw [State.mask_mk] <;> simp [*]; done) | refine (State.mask_foldl m _ (fun t x => ?_) _ _).trans ?_ | refine (State.mask_foldl_fst m _ (fun p x => ?_) _ _).trans ?_ | refine (State.mask_foldl_snd m _ (fun p x => ?_) _ _).trans ?_ | split | simp [*]

@[simp] theorem State.placeItems_mask (m : StateField → Bool) (s : State) (k : Nat) (c : Ctx) (m0 : CMember) (r : CRecv) (h : Cell) (b : List Byte) (h_regs : m .regs = true) (h_kpr : m .kpr = true) (h_lanes : m .lanes = true) (h_links : m .links = true) (h_csw : m .csw = true) (h_mem : m .mem = true) (h_sec : m .sec = true) (h_xfr : m .xfr = true) (h_col : m .col = true) (h_memory : m .memory = true) (h_free : m .free = true) :
    State.mask m (State.placeItems s k c m0 r h b) = State.mask m s := by
  unfold State.placeItems
  extract_lets item source first items drop run kept base data1 put short run1
  have hp (t : State) (e : put = .ok t) : State.mask m t = State.mask m s := by
    unfold put at e
    split at e
    · cases e; rfl
    · exact State.putBytes_mask m _ _ _ _ h_regs h_mem h_xfr h_memory e
  clear_value put
  cases put with
  | error a => simp [*]
  | ok t =>
    have hf (l : List Nat) (u : State) : State.mask m (l.foldl (fun t _ => t.bump (R.colCount 8)) u) = State.mask m u :=
      State.mask_foldl m _ (fun t x => by simp [*]) _ _
    dsimp only
    simp only [State.runDone_mask, State.grantA2a_mask, State.mask_ite, hf, State.modCtx_mask, hp t rfl, ite_self, *]

@[simp] theorem State.badItems_mask (m : StateField → Bool) (s : State) (k : Nat) (c : Ctx) (m0 : CMember) (r : CRecv) (source : Nat) (h_regs : m .regs = true) (h_kpr : m .kpr = true) (h_lanes : m .lanes = true) (h_links : m .links = true) (h_csw : m .csw = true) (h_sec : m .sec = true) (h_col : m .col = true) (h_free : m .free = true) :
    State.mask m (State.badItems s k c m0 r source) = State.mask m s := by
  unfold State.badItems
  repeat' first | (simp [*]; done) | (rw [State.mask_mk] <;> simp [*]; done) | refine (State.mask_foldl m _ (fun t x => ?_) _ _).trans ?_ | refine (State.mask_foldl_fst m _ (fun p x => ?_) _ _).trans ?_ | refine (State.mask_foldl_snd m _ (fun p x => ?_) _ _).trans ?_ | split | simp [*]

@[simp] theorem State.tryItems_mask (m : StateField → Bool) (s : State) (k : Nat) (m0 : CMember) (r : CRecv) (h_regs : m .regs = true) (h_kpr : m .kpr = true) (h_lanes : m .lanes = true) (h_links : m .links = true) (h_csw : m .csw = true) (h_mem : m .mem = true) (h_sec : m .sec = true) (h_xfr : m .xfr = true) (h_col : m .col = true) (h_memory : m .memory = true) (h_free : m .free = true) :
    State.mask m (State.tryItems s k m0 r) = State.mask m s := by
  unfold State.tryItems
  repeat' first | (simp [*]; done) | (rw [State.mask_mk] <;> simp [*]; done) | refine (State.mask_foldl m _ (fun t x => ?_) _ _).trans ?_ | refine (State.mask_foldl_fst m _ (fun p x => ?_) _ _).trans ?_ | refine (State.mask_foldl_snd m _ (fun p x => ?_) _ _).trans ?_ | extract_lets | dsimp only | split | simp [*]

@[simp] theorem State.takeItemsHead_mask (m : StateField → Bool) (s : State) (k : Nat) (c : Ctx) (m0 : CMember) (r : CRecv) (h : Cell) (h_regs : m .regs = true) (h_kpr : m .kpr = true) (h_lanes : m .lanes = true) (h_links : m .links = true) (h_csw : m .csw = true) (h_mem : m .mem = true) (h_sec : m .sec = true) (h_xfr : m .xfr = true) (h_script : m .script = true) (h_col : m .col = true) (h_memory : m .memory = true) (h_free : m .free = true) :
    State.mask m (State.takeItemsHead s k c m0 r h) = State.mask m s := by
  unfold State.takeItemsHead
  simp [*]

@[simp] theorem State.takeItems_mask (m : StateField → Bool) (s : State) (c : Cell) (h_regs : m .regs = true) (h_kpr : m .kpr = true) (h_lanes : m .lanes = true) (h_links : m .links = true) (h_csw : m .csw = true) (h_mem : m .mem = true) (h_sec : m .sec = true) (h_xfr : m .xfr = true) (h_script : m .script = true) (h_col : m .col = true) (h_memory : m .memory = true) (h_free : m .free = true) :
    State.mask m (State.takeItems s c) = State.mask m s := by
  unfold State.takeItems
  repeat' first | (simp [*]; done) | (rw [State.mask_mk] <;> simp [*]; done) | refine (State.mask_foldl m _ (fun t x => ?_) _ _).trans ?_ | refine (State.mask_foldl_fst m _ (fun p x => ?_) _ _).trans ?_ | refine (State.mask_foldl_snd m _ (fun p x => ?_) _ _).trans ?_ | split | simp [*]

@[simp] theorem State.writeTable_mask (m : StateField → Bool) (s : State) (c : Ctx) (h : Shape) (m0 : CMember) (h_regs : m .regs = true) (h_kpr : m .kpr = true) (h_lanes : m .lanes = true) (h_links : m .links = true) (h_csw : m .csw = true) (h_mem : m .mem = true) (h_sec : m .sec = true) (h_xfr : m .xfr = true) (h_memory : m .memory = true) (h_free : m .free = true) :
    State.mask m (State.writeTable s c h m0) = State.mask m s := by
  unfold State.writeTable
  extract_lets d n at0 b
  split
  · rfl
  split
  · simp [*]
  · rename_i hput
    exact State.putBytes_mask m _ _ _ _ h_regs h_mem h_xfr h_memory hput

@[simp] theorem State.closeA2a_mask (m : StateField → Bool) (s : State) (k : Nat) (c : Ctx) (h_regs : m .regs = true) (h_kpr : m .kpr = true) (h_lanes : m .lanes = true) (h_links : m .links = true) (h_csw : m .csw = true) (h_mem : m .mem = true) (h_sec : m .sec = true) (h_xfr : m .xfr = true) (h_prm : m .prm = true) (h_script : m .script = true) (h_col : m .col = true) (h_memory : m .memory = true) (h_free : m .free = true) :
    State.mask m (State.closeA2a s k c) = State.mask m s := by
  unfold State.closeA2a
  simp [*]

@[simp] theorem State.endTaker_mask (m : StateField → Bool) (s : State) (k : Nat) (c : Ctx) (m0 : CMember) (a : Answer) (lost : List Nat) (h_regs : m .regs = true) (h_kpr : m .kpr = true) (h_lanes : m .lanes = true) (h_links : m .links = true) (h_csw : m .csw = true) (h_mem : m .mem = true) (h_sec : m .sec = true) (h_xfr : m .xfr = true) (h_prm : m .prm = true) (h_script : m .script = true) (h_col : m .col = true) (h_memory : m .memory = true) (h_free : m .free = true) :
    State.mask m (State.endTaker s k c m0 a lost) = State.mask m s := by
  unfold State.endTaker
  simp [*]

@[simp] theorem State.settleA2a_mask (m : StateField → Bool) (s : State) (k : Nat) (h_regs : m .regs = true) (h_kpr : m .kpr = true) (h_lanes : m .lanes = true) (h_links : m .links = true) (h_csw : m .csw = true) (h_mem : m .mem = true) (h_sec : m .sec = true) (h_xfr : m .xfr = true) (h_prm : m .prm = true) (h_script : m .script = true) (h_col : m .col = true) (h_memory : m .memory = true) (h_free : m .free = true) :
    State.mask m (State.settleA2a s k) = State.mask m s := by
  unfold State.settleA2a
  split
  · rfl
  · split
    · rfl
    · extract_lets s1
      have h1 : State.mask m s1 = State.mask m s := by unfold s1; simp [*]
      split
      · exact h1
      · extract_lets h s2
        have h2 : State.mask m s2 = State.mask m s := by
          unfold s2
          refine (State.mask_foldl m _ (fun t x => ?_) _ _).trans h1
          split <;> simp [*]
        split
        · exact h2
        · split
          · rw [State.closeA2a_mask, h2]; all_goals assumption
          · exact h2

end Sys2Proof.Machine
end

