-- ==== Sys2Proof/Laws/Frame/Prompter.lean ====
section
/-! SUPPORT. What each function of Machine/Prompter.lean leaves alone. -/

namespace Sys2Proof.Machine

@[simp] theorem State.cancelCue_mask (m : StateField → Bool) (s : State) (id : Nat) (c : Cue) (h_regs : m .regs = true) (h_kpr : m .kpr = true) (h_lanes : m .lanes = true) (h_links : m .links = true) (h_csw : m .csw = true) (h_mem : m .mem = true) (h_sec : m .sec = true) (h_xfr : m .xfr = true) (h_prm : m .prm = true) (h_script : m .script = true) (h_memory : m .memory = true) (h_free : m .free = true) :
    State.mask m (State.cancelCue s id c) = State.mask m s := by
  unfold State.cancelCue
  simp [*]

@[simp] theorem execCtrKeyWrite_mask (m : StateField → Bool) (a : Source) (b : Fin 1024) (value : Word) (s : State) (h_regs : m .regs = true) (h_kpr : m .kpr = true) (h_lanes : m .lanes = true) (h_links : m .links = true) (h_csw : m .csw = true) (h_mem : m .mem = true) (h_sec : m .sec = true) (h_xfr : m .xfr = true) (h_prm : m .prm = true) (h_script : m .script = true) (h_memory : m .memory = true) (h_free : m .free = true) :
    State.Keeps m s (execCtrKeyWrite a b value s) := by
  unfold execCtrKeyWrite
  extract_lets off
  rw [State.keeps_next]
  refine State.fmRw_mask m _ _ _ _ _ (fun t => ?_) h_regs h_kpr h_lanes h_links h_csw h_sec h_script h_free
  dsimp only
  split
  · rfl
  · refine (State.mask_foldl m _ (fun t x => ?_) _ _).trans ?_ <;> simp [*]

@[simp] theorem execEruCellKeyWrite_mask (m : StateField → Bool) (a : Source) (b : Fin 1024) (value : Word) (s : State) (h_regs : m .regs = true) (h_kpr : m .kpr = true) (h_lanes : m .lanes = true) (h_links : m .links = true) (h_csw : m .csw = true) (h_sec : m .sec = true) (h_script : m .script = true) (h_eru : m .eru = true) (h_free : m .free = true) :
    State.Keeps m s (execEruCellKeyWrite a b value s) := by
  unfold execEruCellKeyWrite
  repeat' first | (simp [*]; done) | (rw [State.mask_mk] <;> simp [*]; done) | refine (State.mask_foldl m _ (fun t x => ?_) _ _).trans ?_ | refine (State.mask_foldl_fst m _ (fun p x => ?_) _ _).trans ?_ | refine (State.mask_foldl_snd m _ (fun p x => ?_) _ _).trans ?_ | split | simp [*]

@[simp] theorem State.setPause_mask (m : StateField → Bool) (s : State) (on : Bool) (h_regs : m .regs = true) (h_prm : m .prm = true) :
    State.mask m (State.setPause s on) = State.mask m s := by
  unfold State.setPause
  repeat' first | (simp [*]; done) | (rw [State.mask_mk] <;> simp [*]; done) | refine (State.mask_foldl m _ (fun t x => ?_) _ _).trans ?_ | refine (State.mask_foldl_fst m _ (fun p x => ?_) _ _).trans ?_ | refine (State.mask_foldl_snd m _ (fun p x => ?_) _ _).trans ?_ | split | simp [*]

@[simp] theorem execPause_mask (m : StateField → Bool) (a : Source) (value : Word) (s : State) (h_regs : m .regs = true) (h_kpr : m .kpr = true) (h_lanes : m .lanes = true) (h_links : m .links = true) (h_csw : m .csw = true) (h_sec : m .sec = true) (h_prm : m .prm = true) (h_script : m .script = true) (h_free : m .free = true) :
    State.Keeps m s (execPause a value s) := by
  unfold execPause
  simp [*]

@[simp] theorem State.countTrackWait_mask (m : StateField → Bool) (s : State) (ep : Nat) (c : Cell) (h_regs : m .regs = true) (h_prm : m .prm = true) :
    State.mask m (State.countTrackWait s ep c) = State.mask m s := by
  unfold State.countTrackWait
  simp [*]

@[simp] theorem State.takeTracker_mask (m : StateField → Bool) (s : State) (ep : Nat) (groups : List Nat) (c : Cell) (h_prm : m .prm = true) :
    State.mask m (State.takeTracker s ep groups c) = State.mask m s := by
  unfold State.takeTracker
  repeat' first | (simp [*]; done) | (rw [State.mask_mk] <;> simp [*]; done) | refine (State.mask_foldl m _ (fun t x => ?_) _ _).trans ?_ | refine (State.mask_foldl_fst m _ (fun p x => ?_) _ _).trans ?_ | refine (State.mask_foldl_snd m _ (fun p x => ?_) _ _).trans ?_ | split | simp [*]

@[simp] theorem State.freeTracker_mask (m : StateField → Bool) (s : State) (t : Nat) (h_prm : m .prm = true) :
    State.mask m (State.freeTracker s t) = State.mask m s := by
  unfold State.freeTracker
  simp [*]

@[simp] theorem State.trackerReady_mask (m : StateField → Bool) (s : State) (ep : Nat) (src : Nat) (tree : Nat) (tag : Nat) (group : Nat) (root : Nat) (chunk : Nat) (len : Nat) (off : Nat) (pkey : Nat) (lines : List Nat) (h_prm : m .prm = true) :
    State.mask m (State.trackerReady s ep src tree tag group root chunk len off pkey lines) = State.mask m s := by
  unfold State.trackerReady
  split <;> (try split) <;> simp [*]

@[simp] theorem State.pieceFailed_mask (m : StateField → Bool) (s : State) (ep : Nat) (src : Nat) (tree : Nat) (tag : Nat) (h_regs : m .regs = true) (h_kpr : m .kpr = true) (h_lanes : m .lanes = true) (h_links : m .links = true) (h_csw : m .csw = true) (h_sec : m .sec = true) (h_prm : m .prm = true) (h_free : m .free = true) :
    State.mask m (State.pieceFailed s ep src tree tag) = State.mask m s := by
  unfold State.pieceFailed
  split <;> simp [*]

@[simp] theorem State.countArrival_mask (m : StateField → Bool) (s : State) (ch : Nat) (a : Arr) (h_regs : m .regs = true) (h_kpr : m .kpr = true) (h_lanes : m .lanes = true) (h_links : m .links = true) (h_csw : m .csw = true) (h_sec : m .sec = true) (h_prm : m .prm = true) (h_free : m .free = true) :
    State.mask m (State.countArrival s ch a) = State.mask m s := by
  unfold State.countArrival
  simp [*]

@[simp] theorem execPieceEntry_mask (m : StateField → Bool) (t : Fin 4352) (s : State) (h_regs : m .regs = true) (h_kpr : m .kpr = true) (h_lanes : m .lanes = true) (h_links : m .links = true) (h_csw : m .csw = true) (h_mem : m .mem = true) (h_sec : m .sec = true) (h_xfr : m .xfr = true) (h_prm : m .prm = true) (h_memory : m .memory = true) (h_free : m .free = true) :
    State.Keeps m s (execPieceEntry t s) := by
  unfold execPieceEntry
  repeat' first | (simp [*]; done) | (rw [State.mask_mk] <;> simp [*]; done) | refine (State.mask_foldl m _ (fun t x => ?_) _ _).trans ?_ | refine (State.mask_foldl_fst m _ (fun p x => ?_) _ _).trans ?_ | refine (State.mask_foldl_snd m _ (fun p x => ?_) _ _).trans ?_ | split | simp [*]

@[simp] theorem State.arrHeadSet_mask (m : StateField → Bool) (s : State) (a : Nat) (ch : Nat) (value : Word) (h_regs : m .regs = true) (h_kpr : m .kpr = true) (h_prm : m .prm = true) :
    State.mask m (State.arrHeadSet s a ch value) = State.mask m s := by
  unfold State.arrHeadSet
  simp [*]

@[simp] theorem execArrHeadWrite_mask (m : StateField → Bool) (a : Source) (ch : Fin 64) (value : Word) (s : State) (h_regs : m .regs = true) (h_kpr : m .kpr = true) (h_prm : m .prm = true) :
    State.Keeps m s (execArrHeadWrite a ch value s) := by
  unfold execArrHeadWrite
  simp [*]

end Sys2Proof.Machine
end

