-- ==== Sys2Proof/Laws/Frame/Gather.lean ====
section
/-! SUPPORT. What each function of Machine/Gather.lean leaves alone. -/

namespace Sys2Proof.Machine

@[simp] theorem State.sendPiece_mask (m : StateField → Bool) (s : State) (slot : Nat) (m0 : CMember) (r : RootRun) (k : Nat) (only : Option Nat) (alt : Bool) (h_regs : m .regs = true) (h_kpr : m .kpr = true) (h_lanes : m .lanes = true) (h_links : m .links = true) (h_csw : m .csw = true) (h_mem : m .mem = true) (h_sec : m .sec = true) (h_xfr : m .xfr = true) (h_col : m .col = true) (h_free : m .free = true) :
    State.mask m (State.sendPiece s slot m0 r k only alt) = State.mask m s := by
  unfold State.sendPiece
  repeat' first | (simp [*]; done) | (rw [State.mask_mk] <;> simp [*]; done) | refine (State.mask_foldl m _ (fun t x => ?_) _ _).trans ?_ | refine (State.mask_foldl_fst m _ (fun p x => ?_) _ _).trans ?_ | refine (State.mask_foldl_snd m _ (fun p x => ?_) _ _).trans ?_ | split | simp [*]

@[simp] theorem State.startRoot_mask (m : StateField → Bool) (s : State) (slot : Nat) (c : Ctx) (r : RootRun) (h_regs : m .regs = true) (h_kpr : m .kpr = true) (h_lanes : m .lanes = true) (h_links : m .links = true) (h_csw : m .csw = true) (h_mem : m .mem = true) (h_sec : m .sec = true) (h_xfr : m .xfr = true) (h_col : m .col = true) (h_free : m .free = true) :
    State.mask m (State.startRoot s slot c r) = State.mask m s := by
  unfold State.startRoot
  repeat' first | (simp [*]; done) | (rw [State.mask_mk] <;> simp [*]; done) | refine (State.mask_foldl m _ (fun t x => ?_) _ _).trans ?_ | refine (State.mask_foldl_fst m _ (fun p x => ?_) _ _).trans ?_ | refine (State.mask_foldl_snd m _ (fun p x => ?_) _ _).trans ?_ | extract_lets | dsimp only | split | simp [*]

@[simp] theorem State.grantRoots_mask (m : StateField → Bool) (s : State) (slot : Nat) (h_csw : m .csw = true) (h_col : m .col = true) :
    State.mask m (State.grantRoots s slot) = State.mask m s := by
  unfold State.grantRoots
  repeat' first | (simp [*]; done) | (rw [State.mask_mk] <;> simp [*]; done) | refine (State.mask_foldl m _ (fun t x => ?_) _ _).trans ?_ | refine (State.mask_foldl_fst m _ (fun p x => ?_) _ _).trans ?_ | refine (State.mask_foldl_snd m _ (fun p x => ?_) _ _).trans ?_ | split | simp [*]

@[simp] theorem State.askPiece_mask (m : StateField → Bool) (s : State) (slot : Nat) (c : Ctx) (root : Nat) (k : Nat) (h_regs : m .regs = true) (h_kpr : m .kpr = true) (h_lanes : m .lanes = true) (h_links : m .links = true) (h_csw : m .csw = true) (h_mem : m .mem = true) (h_sec : m .sec = true) (h_xfr : m .xfr = true) (h_col : m .col = true) (h_free : m .free = true) :
    State.mask m (State.askPiece s slot c root k) = State.mask m s := by
  unfold State.askPiece
  split <;> simp [*]

@[simp] theorem State.putPiece_mask (m : StateField → Bool) (s : State) (p : Piece) (new : Option Piece) (h_prm : m .prm = true) :
    State.mask m (State.putPiece s p new) = State.mask m s := by
  unfold State.putPiece
  simp [*]

@[simp] theorem State.landPiece_mask (m : StateField → Bool) (s : State) (slot : Nat) (m0 : CMember) (root : Nat) (k : Nat) (b : List Byte) (check : Nat) (h_regs : m .regs = true) (h_kpr : m .kpr = true) (h_lanes : m .lanes = true) (h_links : m .links = true) (h_csw : m .csw = true) (h_mem : m .mem = true) (h_sec : m .sec = true) (h_xfr : m .xfr = true) (h_col : m .col = true) (h_memory : m .memory = true) (h_free : m .free = true) :
    State.mask m (State.landPiece s slot m0 root k b check) = State.mask m s := by
  unfold State.landPiece
  split
  · rfl
  extract_lets id set counted at0
  split
  · rfl
  have hset : ∀ f t, State.mask m (set f t) = State.mask m t := fun f t => by unfold set; simp [*]
  have hc : ∀ t, State.mask m (counted t) = State.mask m t := fun t => by unfold counted; rw [hset]
  clear_value set counted
  split
  · exact hc _
  split
  · rw [hset, State.refusedPut_mask] <;> assumption
  · rename_i hput
    rw [hc, State.putBytes_mask m _ _ _ _ h_regs h_mem h_xfr h_memory hput]

@[simp] theorem State.placePiece_mask (m : StateField → Bool) (s : State) (p : Piece) (h : Cell) (b : List Byte) (h_regs : m .regs = true) (h_kpr : m .kpr = true) (h_lanes : m .lanes = true) (h_links : m .links = true) (h_csw : m .csw = true) (h_mem : m .mem = true) (h_sec : m .sec = true) (h_xfr : m .xfr = true) (h_prm : m .prm = true) (h_script : m .script = true) (h_col : m .col = true) (h_memory : m .memory = true) (h_free : m .free = true) :
    State.mask m (State.placePiece s p h b) = State.mask m s := by
  unfold State.placePiece
  repeat' first | (simp [*]; done) | (rw [State.mask_mk] <;> simp [*]; done) | refine (State.mask_foldl m _ (fun t x => ?_) _ _).trans ?_ | refine (State.mask_foldl_fst m _ (fun p x => ?_) _ _).trans ?_ | refine (State.mask_foldl_snd m _ (fun p x => ?_) _ _).trans ?_ | split | simp [*]

@[simp] theorem State.writeUnchecked_mask (m : StateField → Bool) (s : State) (p : Piece) (h : Cell) (h_regs : m .regs = true) (h_mem : m .mem = true) (h_xfr : m .xfr = true) (h_memory : m .memory = true) :
    State.mask m (State.writeUnchecked s p h) = State.mask m s := by
  unfold State.writeUnchecked
  split
  · rfl
  extract_lets root k open0
  refine State.mask_foldl m _ (fun t x => ?_) _ _
  split
  · rename_i hput
    exact State.putBytes_mask m _ _ _ _ h_regs h_mem h_xfr h_memory hput
  · rfl

@[simp] theorem State.endPiece_mask (m : StateField → Bool) (s0 : State) (p : Piece) (h : Cell) (h_regs : m .regs = true) (h_kpr : m .kpr = true) (h_lanes : m .lanes = true) (h_links : m .links = true) (h_csw : m .csw = true) (h_mem : m .mem = true) (h_sec : m .sec = true) (h_xfr : m .xfr = true) (h_prm : m .prm = true) (h_script : m .script = true) (h_col : m .col = true) (h_memory : m .memory = true) (h_free : m .free = true) :
    State.mask m (State.endPiece s0 p h) = State.mask m s0 := by
  unfold State.endPiece
  dsimp only
  split <;> (try split) <;> simp [*]

@[simp] theorem State.keptPieces_mask (m : StateField → Bool) (s : State) (h_regs : m .regs = true) (h_kpr : m .kpr = true) (h_lanes : m .lanes = true) (h_links : m .links = true) (h_csw : m .csw = true) (h_mem : m .mem = true) (h_sec : m .sec = true) (h_xfr : m .xfr = true) (h_prm : m .prm = true) (h_script : m .script = true) (h_col : m .col = true) (h_memory : m .memory = true) (h_free : m .free = true) :
    State.mask m (State.keptPieces s) = State.mask m s := by
  unfold State.keptPieces
  repeat' first | (simp [*]; done) | (rw [State.mask_mk] <;> simp [*]; done) | refine (State.mask_foldl m _ (fun t x => ?_) _ _).trans ?_ | refine (State.mask_foldl_fst m _ (fun p x => ?_) _ _).trans ?_ | refine (State.mask_foldl_snd m _ (fun p x => ?_) _ _).trans ?_ | split | simp [*]

@[simp] theorem State.gatherCell_mask (m : StateField → Bool) (s : State) (ep : Nat) (c : Cell) (h_regs : m .regs = true) (h_kpr : m .kpr = true) (h_lanes : m .lanes = true) (h_links : m .links = true) (h_csw : m .csw = true) (h_mem : m .mem = true) (h_sec : m .sec = true) (h_xfr : m .xfr = true) (h_prm : m .prm = true) (h_script : m .script = true) (h_col : m .col = true) (h_memory : m .memory = true) (h_free : m .free = true) :
    State.mask m (State.gatherCell s ep c) = State.mask m s := by
  unfold State.gatherCell
  repeat' first | (simp [*]; done) | (rw [State.mask_mk] <;> simp [*]; done) | refine (State.mask_foldl m _ (fun t x => ?_) _ _).trans ?_ | refine (State.mask_foldl_fst m _ (fun p x => ?_) _ _).trans ?_ | refine (State.mask_foldl_snd m _ (fun p x => ?_) _ _).trans ?_ | split | simp [*]

@[simp] theorem State.unicastPiece_mask (m : StateField → Bool) (s : State) (c : Cell) (h_regs : m .regs = true) (h_kpr : m .kpr = true) (h_lanes : m .lanes = true) (h_links : m .links = true) (h_csw : m .csw = true) (h_mem : m .mem = true) (h_sec : m .sec = true) (h_xfr : m .xfr = true) (h_prm : m .prm = true) (h_script : m .script = true) (h_col : m .col = true) (h_memory : m .memory = true) (h_free : m .free = true) :
    State.mask m (State.unicastPiece s c) = State.mask m s := by
  unfold State.unicastPiece
  repeat' first | (simp [*]; done) | (rw [State.mask_mk] <;> simp [*]; done) | refine (State.mask_foldl m _ (fun t x => ?_) _ _).trans ?_ | refine (State.mask_foldl_fst m _ (fun p x => ?_) _ _).trans ?_ | refine (State.mask_foldl_snd m _ (fun p x => ?_) _ _).trans ?_ | split | simp [*]

@[simp] theorem State.rootPlaced_mask (m : StateField → Bool) (s : State) (ep : Nat) (tree : Nat) (h_col : m .col = true) :
    State.mask m (State.rootPlaced s ep tree) = State.mask m s := by
  unfold State.rootPlaced
  simp [*]

@[simp] theorem State.closeGather_mask (m : StateField → Bool) (s : State) (slot : Nat) (c : Ctx) (h_regs : m .regs = true) (h_kpr : m .kpr = true) (h_lanes : m .lanes = true) (h_links : m .links = true) (h_csw : m .csw = true) (h_mem : m .mem = true) (h_sec : m .sec = true) (h_xfr : m .xfr = true) (h_prm : m .prm = true) (h_script : m .script = true) (h_col : m .col = true) (h_memory : m .memory = true) (h_free : m .free = true) :
    State.mask m (State.closeGather s slot c) = State.mask m s := by
  unfold State.closeGather
  simp [*]

@[simp] theorem State.settleGather_mask (m : StateField → Bool) (s : State) (slot : Nat) (h_regs : m .regs = true) (h_kpr : m .kpr = true) (h_lanes : m .lanes = true) (h_links : m .links = true) (h_csw : m .csw = true) (h_mem : m .mem = true) (h_sec : m .sec = true) (h_xfr : m .xfr = true) (h_prm : m .prm = true) (h_script : m .script = true) (h_col : m .col = true) (h_memory : m .memory = true) (h_free : m .free = true) :
    State.mask m (State.settleGather s slot) = State.mask m s := by
  unfold State.settleGather
  split
  · rfl
  · split
    · rfl
    · extract_lets s0 s1
      have h0 : State.mask m s0 = State.mask m s := by unfold s0; simp [*]
      have h1 : State.mask m s1 = State.mask m s := by
        unfold s1
        cases s0.ctx slot with
        | none => simpa using h0
        | some c =>
          simp only [Option.map_some, Option.getD_some]
          refine (State.mask_foldl m _ (fun t x => ?_) _ _).trans h0
          split <;> simp [*]
      split
      · exact h1
      · extract_lets h s2
        have h2 : State.mask m s2 = State.mask m s := by
          unfold s2
          refine (State.mask_foldl m _ (fun t x => ?_) _ _).trans h1
          split <;> simp [*]
        split
        · exact h2
        · split <;> simp [*]

end Sys2Proof.Machine
end

