-- ==== Sys2Proof/Laws/Frame/Sweep.lean ====
section
/-! SUPPORT. What each function of Machine/Sweep.lean leaves alone. -/

namespace Sys2Proof.Machine

@[simp] theorem State.sendSweep_mask (m : StateField → Bool) (s : State) (c : Ctx) (stage : Nat) (dest : Nat) (v : Sweep) (h_csw : m .csw = true) :
    State.mask m (State.sendSweep s c stage dest v) = State.mask m s := by
  unfold State.sendSweep
  repeat' first | (simp [*]; done) | (rw [State.mask_mk] <;> simp [*]; done) | refine (State.mask_foldl m _ (fun t x => ?_) _ _).trans ?_ | refine (State.mask_foldl_fst m _ (fun p x => ?_) _ _).trans ?_ | refine (State.mask_foldl_snd m _ (fun p x => ?_) _ _).trans ?_ | split | simp [*]

@[simp] theorem State.doneSweep_mask (m : StateField → Bool) (s : State) (c : Ctx) (stage : Nat) (dest : Nat) (h_csw : m .csw = true) :
    State.mask m (State.doneSweep s c stage dest) = State.mask m s := by
  unfold State.doneSweep
  simp [*]

@[simp] theorem State.closeSweep_mask (m : StateField → Bool) (s : State) (k : Nat) (c : Ctx) (v : Sweep) (h_regs : m .regs = true) (h_kpr : m .kpr = true) (h_lanes : m .lanes = true) (h_links : m .links = true) (h_csw : m .csw = true) (h_mem : m .mem = true) (h_sec : m .sec = true) (h_xfr : m .xfr = true) (h_prm : m .prm = true) (h_script : m .script = true) (h_col : m .col = true) (h_memory : m .memory = true) (h_free : m .free = true) :
    State.mask m (State.closeSweep s k c v) = State.mask m s := by
  unfold State.closeSweep
  extract_lets h0 absent whole b s1
  have h1 : State.mask m s1 = State.mask m s := by unfold s1; simp [*]
  clear_value s1
  split
  · rw [State.recordOpens_mask, h1] <;> assumption
  · rename_i hput
    rw [State.recordOpens_mask, State.putBytes_mask m _ _ _ _ h_regs h_mem h_xfr h_memory hput, h1] <;> assumption

@[simp] theorem State.settleSweep_mask (m : StateField → Bool) (s : State) (k : Nat) (h_regs : m .regs = true) (h_kpr : m .kpr = true) (h_lanes : m .lanes = true) (h_links : m .links = true) (h_csw : m .csw = true) (h_mem : m .mem = true) (h_sec : m .sec = true) (h_xfr : m .xfr = true) (h_prm : m .prm = true) (h_script : m .script = true) (h_col : m .col = true) (h_memory : m .memory = true) (h_free : m .free = true) :
    State.mask m (State.settleSweep s k) = State.mask m s := by
  unfold State.settleSweep
  dsimp only
  split
  · rfl
  · split
    · rfl
    · have hf (l : List (Nat × Nat × Sweep)) (c : Ctx) (t : State) : State.mask m (l.foldl (fun t x => t.sendSweep c x.1 x.2.1 x.2.2) t) = State.mask m t :=
        State.mask_foldl m _ (fun t x => by simp [*]) _ _
      split
      · rw [hf]; simp [*]
      · split
        · rw [State.closeSweep_mask, hf] <;> simp [*]
        · rw [hf]; simp [*]

@[simp] theorem execSweepResend_mask (m : StateField → Bool) (k : CtxIx) (s : State) (h_csw : m .csw = true) (h_col : m .col = true) :
    State.Keeps m s (execSweepResend k s) := by
  unfold execSweepResend
  repeat' first | (simp [*]; done) | (rw [State.mask_mk] <;> simp [*]; done) | refine (State.mask_foldl m _ (fun t x => ?_) _ _).trans ?_ | refine (State.mask_foldl_fst m _ (fun p x => ?_) _ _).trans ?_ | refine (State.mask_foldl_snd m _ (fun p x => ?_) _ _).trans ?_ | split | simp [*]

@[simp] theorem State.takeSweep_mask (m : StateField → Bool) (s : State) (c : Cell) (h_csw : m .csw = true) (h_col : m .col = true) :
    State.mask m (State.takeSweep s c) = State.mask m s := by
  unfold State.takeSweep
  dsimp only
  repeat' split
  all_goals simp [*]

end Sys2Proof.Machine
end

