-- ==== Sys2Proof/Laws/Frame/UpdateRun.lean ====
section
/-! SUPPORT. What each function of Machine/UpdateRun.lean leaves alone. -/

namespace Sys2Proof.Machine

@[simp] theorem State.refuseUpdate_mask (m : StateField → Bool) (s : State) (u : Update) (a : Answer) (h_regs : m .regs = true) (h_kpr : m .kpr = true) (h_lanes : m .lanes = true) (h_links : m .links = true) (h_csw : m .csw = true) (h_mem : m .mem = true) (h_sec : m .sec = true) (h_xfr : m .xfr = true) (h_prm : m .prm = true) (h_script : m .script = true) (h_col : m .col = true) (h_upd : m .upd = true) (h_memory : m .memory = true) (h_free : m .free = true) :
    State.mask m (State.refuseUpdate s u a) = State.mask m s := by
  unfold State.refuseUpdate
  simp [*]

@[simp] theorem State.joinUpdate_mask (m : StateField → Bool) (s : State) (u : Update) (h_regs : m .regs = true) (h_kpr : m .kpr = true) (h_lanes : m .lanes = true) (h_links : m .links = true) (h_csw : m .csw = true) (h_mem : m .mem = true) (h_sec : m .sec = true) (h_xfr : m .xfr = true) (h_prm : m .prm = true) (h_script : m .script = true) (h_col : m .col = true) (h_upd : m .upd = true) (h_memory : m .memory = true) (h_free : m .free = true) :
    State.mask m (State.joinUpdate s u) = State.mask m s := by
  unfold State.joinUpdate
  dsimp only
  repeat' first | rfl | split | (simp [*]; done)

@[simp] theorem State.joinUpdates_mask (m : StateField → Bool) (s : State) (h_regs : m .regs = true) (h_kpr : m .kpr = true) (h_lanes : m .lanes = true) (h_links : m .links = true) (h_csw : m .csw = true) (h_mem : m .mem = true) (h_sec : m .sec = true) (h_xfr : m .xfr = true) (h_prm : m .prm = true) (h_script : m .script = true) (h_col : m .col = true) (h_upd : m .upd = true) (h_memory : m .memory = true) (h_free : m .free = true) :
    State.mask m (State.joinUpdates s) = State.mask m s := by
  unfold State.joinUpdates
  repeat' first | (simp [*]; done) | (rw [State.mask_mk] <;> simp [*]; done) | refine (State.mask_foldl m _ (fun t x => ?_) _ _).trans ?_ | refine (State.mask_foldl_fst m _ (fun p x => ?_) _ _).trans ?_ | refine (State.mask_foldl_snd m _ (fun p x => ?_) _ _).trans ?_ | extract_lets | dsimp only | split | simp [*]

@[simp] theorem State.poisonSegment_mask (m : StateField → Bool) (s : State) (u : Update) (h_regs : m .regs = true) (h_kpr : m .kpr = true) (h_lanes : m .lanes = true) (h_links : m .links = true) (h_csw : m .csw = true) (h_sec : m .sec = true) (h_free : m .free = true) :
    State.mask m (State.poisonSegment s u).1 = State.mask m s := by
  unfold State.poisonSegment
  simp [*]

@[simp] theorem State.applySegment_mask (m : StateField → Bool) (s : State) (u : Update) (p : Prog) (k : Nat) (grads : List Addend) (h_regs : m .regs = true) (h_kpr : m .kpr = true) (h_lanes : m .lanes = true) (h_links : m .links = true) (h_csw : m .csw = true) (h_mem : m .mem = true) (h_sec : m .sec = true) (h_xfr : m .xfr = true) (h_memory : m .memory = true) (h_free : m .free = true) :
    State.mask m (State.applySegment s u p k grads).1 = State.mask m s := by
  unfold State.applySegment
  extract_lets e0 told
  split
  · extract_lets ts els outs s1 s2
    split
    · simp [*]
    · have ht0 : ∀ (t : State) (x : Nat × Nat), State.mask m (t.tellReads u.part x.1 x.2) = State.mask m t := fun t x => by simp [*]
      have ht : State.mask m told = State.mask m s := State.mask_foldl m _ (fun t x => ht0 t x) _ _
      have h1 : State.mask m s1 = State.mask m told := by
        unfold s1
        refine State.mask_foldl m _ (fun t o => ?_) _ _
        split
        · rename_i hput
          exact State.putBytes_mask m _ _ _ _ h_regs h_mem h_xfr h_memory hput
        · rfl
      unfold s2
      rw [State.setReg64_mask, h1, ht] <;> assumption
  · simp [*]

@[simp] theorem State.applyMaybe_mask (m : StateField → Bool) (s : State) (u : Update) (p : Prog) (k : Nat) (grads : Option (List Addend)) (h_regs : m .regs = true) (h_kpr : m .kpr = true) (h_lanes : m .lanes = true) (h_links : m .links = true) (h_csw : m .csw = true) (h_mem : m .mem = true) (h_sec : m .sec = true) (h_xfr : m .xfr = true) (h_memory : m .memory = true) (h_free : m .free = true) :
    State.mask m (State.applyMaybe s u p k grads).1 = State.mask m s := by
  unfold State.applyMaybe
  repeat' first | (simp [*]; done) | (rw [State.mask_mk] <;> simp [*]; done) | refine (State.mask_foldl m _ (fun t x => ?_) _ _).trans ?_ | refine (State.mask_foldl_fst m _ (fun p x => ?_) _ _).trans ?_ | refine (State.mask_foldl_snd m _ (fun p x => ?_) _ _).trans ?_ | split | simp [*]

@[simp] theorem State.tookOffered_mask (m : StateField → Bool) (s : State) (u : Update) (n : Nat) (h_col : m .col = true) :
    State.mask m (State.tookOffered s u n) = State.mask m s := by
  unfold State.tookOffered
  split <;> simp [*]

@[simp] theorem State.spillSegment_mask (m : StateField → Bool) (s : State) (u : Update) (n : Nat) (h_regs : m .regs = true) (h_kpr : m .kpr = true) (h_lanes : m .lanes = true) (h_links : m .links = true) (h_csw : m .csw = true) (h_mem : m .mem = true) (h_sec : m .sec = true) (h_xfr : m .xfr = true) (h_memory : m .memory = true) (h_free : m .free = true) :
    State.mask m (State.spillSegment s u n).1 = State.mask m s := by
  unfold State.spillSegment
  repeat' first | rfl | (rw [State.mask_mk] <;> simp [*]; done) | refine (State.mask_foldl m _ (fun t x => ?_) _ _).trans ?_ | refine (State.mask_foldl_fst m _ (fun p x => ?_) _ _).trans ?_ | refine (State.mask_foldl_snd m _ (fun p x => ?_) _ _).trans ?_ | extract_lets | dsimp only | split | (simp [*]; done) | (rw [State.putBytes_mask (h := by assumption)] <;> simp [*]; done) | (rw [State.writeLocal_mask (h := by assumption)] <;> simp [*]; done) | simp [*]

@[simp] theorem State.updateWork_mask (m : StateField → Bool) (s : State) (u : Update) (p : Prog) (h_regs : m .regs = true) (h_kpr : m .kpr = true) (h_lanes : m .lanes = true) (h_links : m .links = true) (h_csw : m .csw = true) (h_mem : m .mem = true) (h_sec : m .sec = true) (h_xfr : m .xfr = true) (h_col : m .col = true) (h_memory : m .memory = true) (h_free : m .free = true) :
    State.mask m (State.updateWork s u p).1 = State.mask m s := by
  unfold State.updateWork
  repeat' first | (simp [*]; done) | (rw [State.mask_mk] <;> simp [*]; done) | refine (State.mask_foldl m _ (fun t x => ?_) _ _).trans ?_ | refine (State.mask_foldl_fst m _ (fun p x => ?_) _ _).trans ?_ | refine (State.mask_foldl_snd m _ (fun p x => ?_) _ _).trans ?_ | split | simp [*]

@[simp] theorem State.updateUnit_mask (m : StateField → Bool) (s : State) (u : Update) (h_regs : m .regs = true) (h_kpr : m .kpr = true) (h_lanes : m .lanes = true) (h_links : m .links = true) (h_csw : m .csw = true) (h_mem : m .mem = true) (h_sec : m .sec = true) (h_xfr : m .xfr = true) (h_prm : m .prm = true) (h_script : m .script = true) (h_col : m .col = true) (h_upd : m .upd = true) (h_memory : m .memory = true) (h_free : m .free = true) :
    State.mask m (State.updateUnit s u) = State.mask m s := by
  unfold State.updateUnit
  repeat' first | (simp [*]; done) | (rw [State.mask_mk] <;> simp [*]; done) | refine (State.mask_foldl m _ (fun t x => ?_) _ _).trans ?_ | refine (State.mask_foldl_fst m _ (fun p x => ?_) _ _).trans ?_ | refine (State.mask_foldl_snd m _ (fun p x => ?_) _ _).trans ?_ | split | simp [*]

@[simp] theorem State.finishUpdate_mask (m : StateField → Bool) (s : State) (u : Update) (h_regs : m .regs = true) (h_kpr : m .kpr = true) (h_lanes : m .lanes = true) (h_links : m .links = true) (h_csw : m .csw = true) (h_mem : m .mem = true) (h_sec : m .sec = true) (h_xfr : m .xfr = true) (h_prm : m .prm = true) (h_script : m .script = true) (h_col : m .col = true) (h_upd : m .upd = true) (h_memory : m .memory = true) (h_free : m .free = true) :
    State.mask m (State.finishUpdate s u) = State.mask m s := by
  unfold State.finishUpdate
  split
  · rfl
  extract_lets p image r a
  have hr : State.mask m r.1 = State.mask m s := by
    unfold r
    generalize image = im
    split
    · split
      · rename_i hput
        exact State.putBytes_mask m _ _ _ _ h_regs h_mem h_xfr h_memory hput
      · rfl
    · rfl
  rw [State.endUpdate_mask, hr] <;> assumption

@[simp] theorem State.finishUpdates_mask (m : StateField → Bool) (s : State) (h_regs : m .regs = true) (h_kpr : m .kpr = true) (h_lanes : m .lanes = true) (h_links : m .links = true) (h_csw : m .csw = true) (h_mem : m .mem = true) (h_sec : m .sec = true) (h_xfr : m .xfr = true) (h_prm : m .prm = true) (h_script : m .script = true) (h_col : m .col = true) (h_upd : m .upd = true) (h_memory : m .memory = true) (h_free : m .free = true) :
    State.mask m (State.finishUpdates s) = State.mask m s := by
  unfold State.finishUpdates
  repeat' first | (simp [*]; done) | (rw [State.mask_mk] <;> simp [*]; done) | refine (State.mask_foldl m _ (fun t x => ?_) _ _).trans ?_ | refine (State.mask_foldl_fst m _ (fun p x => ?_) _ _).trans ?_ | refine (State.mask_foldl_snd m _ (fun p x => ?_) _ _).trans ?_ | split | simp [*]

@[simp] theorem State.submitUpdate_mask (m : StateField → Bool) (s : State) (i : Issue) (stamp : Nat) (h_regs : m .regs = true) (h_kpr : m .kpr = true) (h_lanes : m .lanes = true) (h_links : m .links = true) (h_csw : m .csw = true) (h_mem : m .mem = true) (h_sec : m .sec = true) (h_xfr : m .xfr = true) (h_prm : m .prm = true) (h_script : m .script = true) (h_upd : m .upd = true) (h_memory : m .memory = true) (h_free : m .free = true) :
    State.mask m (State.submitUpdate s i stamp) = State.mask m s := by
  unfold State.submitUpdate
  dsimp only
  split <;> (try split) <;> simp [*]

@[simp] theorem State.abortUpdateWith_mask (m : StateField → Bool) (s : State) (u : Update) (reason : Nat) (h_regs : m .regs = true) (h_kpr : m .kpr = true) (h_lanes : m .lanes = true) (h_links : m .links = true) (h_csw : m .csw = true) (h_mem : m .mem = true) (h_sec : m .sec = true) (h_xfr : m .xfr = true) (h_prm : m .prm = true) (h_script : m .script = true) (h_col : m .col = true) (h_upd : m .upd = true) (h_memory : m .memory = true) (h_free : m .free = true) :
    State.mask m (State.abortUpdateWith s u reason) = State.mask m s := by
  unfold State.abortUpdateWith
  split <;> (try split) <;> simp [*]

@[simp] theorem State.abortUpdate_mask (m : StateField → Bool) (s : State) (u : Update) (h_regs : m .regs = true) (h_kpr : m .kpr = true) (h_lanes : m .lanes = true) (h_links : m .links = true) (h_csw : m .csw = true) (h_mem : m .mem = true) (h_sec : m .sec = true) (h_xfr : m .xfr = true) (h_prm : m .prm = true) (h_script : m .script = true) (h_col : m .col = true) (h_upd : m .upd = true) (h_memory : m .memory = true) (h_free : m .free = true) :
    State.mask m (State.abortUpdate s u) = State.mask m s := by
  unfold State.abortUpdate
  simp [*]

end Sys2Proof.Machine
end

