-- ==== Sys2Proof/Laws/Frame/Settle.lean ====
section
/-! SUPPORT. What each function of Machine/Settle.lean leaves alone. -/

namespace Sys2Proof.Machine

@[simp] theorem State.storeError_mask (m : StateField → Bool) (s : State) (code : Nat) (unit : Nat) (detail : Nat) (h_regs : m .regs = true) (h_eru : m .eru = true) (h_col : m .col = true) :
    State.mask m (State.storeError s code unit detail) = State.mask m s := by
  unfold State.storeError
  repeat' first | (simp [*]; done) | (rw [State.mask_mk] <;> simp [*]; done) | refine (State.mask_foldl m _ (fun t x => ?_) _ _).trans ?_ | refine (State.mask_foldl_fst m _ (fun p x => ?_) _ _).trans ?_ | refine (State.mask_foldl_snd m _ (fun p x => ?_) _ _).trans ?_ | split | simp [*]

@[simp] theorem State.sourceRecord_mask (m : StateField → Bool) (s : State) (code : Nat) (unit : Nat) (detail : Nat) (h_regs : m .regs = true) (h_kpr : m .kpr = true) (h_lanes : m .lanes = true) (h_links : m .links = true) (h_csw : m .csw = true) (h_sec : m .sec = true) (h_eru : m .eru = true) (h_col : m .col = true) (h_free : m .free = true) :
    State.mask m (State.sourceRecord s code unit detail) = State.mask m s := by
  unfold State.sourceRecord
  repeat' first | (simp [*]; done) | (rw [State.mask_mk] <;> simp [*]; done) | refine (State.mask_foldl m _ (fun t x => ?_) _ _).trans ?_ | refine (State.mask_foldl_fst m _ (fun p x => ?_) _ _).trans ?_ | refine (State.mask_foldl_snd m _ (fun p x => ?_) _ _).trans ?_ | split | simp [*]

@[simp] theorem execFaultSourceAssert_mask (m : StateField → Bool) (src : Fin 2048) (t : Bool) (c : Bool) (unit : BitVec 16) (detail : Word) (s : State) (h_regs : m .regs = true) (h_kpr : m .kpr = true) (h_lanes : m .lanes = true) (h_links : m .links = true) (h_csw : m .csw = true) (h_sec : m .sec = true) (h_eru : m .eru = true) (h_col : m .col = true) (h_free : m .free = true) :
    State.Keeps m s (execFaultSourceAssert src t c unit detail s) := by
  unfold execFaultSourceAssert
  split <;> simp [*]

@[simp] theorem State.settleCtx_mask (m : StateField → Bool) (s : State) (k : Nat) (h_regs : m .regs = true) (h_kpr : m .kpr = true) (h_clk : m .clk = true) (h_lanes : m .lanes = true) (h_links : m .links = true) (h_csw : m .csw = true) (h_mem : m .mem = true) (h_sec : m .sec = true) (h_xfr : m .xfr = true) (h_prm : m .prm = true) (h_script : m .script = true) (h_eru : m .eru = true) (h_col : m .col = true) (h_upd : m .upd = true) (h_memory : m .memory = true) (h_free : m .free = true) :
    State.mask m (State.settleCtx s k) = State.mask m s := by
  unfold State.settleCtx
  split <;> (try split) <;> simp [*]

@[simp] theorem State.settleRound_mask (m : StateField → Bool) (s : State) (h_regs : m .regs = true) (h_kpr : m .kpr = true) (h_clk : m .clk = true) (h_lanes : m .lanes = true) (h_links : m .links = true) (h_csw : m .csw = true) (h_mem : m .mem = true) (h_sec : m .sec = true) (h_xfr : m .xfr = true) (h_prm : m .prm = true) (h_script : m .script = true) (h_eru : m .eru = true) (h_col : m .col = true) (h_upd : m .upd = true) (h_memory : m .memory = true) (h_free : m .free = true) :
    State.mask m (State.settleRound s) = State.mask m s := by
  unfold State.settleRound
  exact State.mask_foldl m _ (fun t x => by simp [*]) _ _

@[simp] theorem State.rehearse_mask (m : StateField → Bool) (x1 : Nat) (x2 : State) (h_regs : m .regs = true) (h_kpr : m .kpr = true) (h_clk : m .clk = true) (h_lanes : m .lanes = true) (h_links : m .links = true) (h_csw : m .csw = true) (h_mem : m .mem = true) (h_sec : m .sec = true) (h_xfr : m .xfr = true) (h_prm : m .prm = true) (h_script : m .script = true) (h_eru : m .eru = true) (h_col : m .col = true) (h_upd : m .upd = true) (h_memory : m .memory = true) (h_free : m .free = true) :
    State.mask m (State.rehearse x1 x2) = State.mask m x2 := by
  induction x1 generalizing x2 with
  | zero => rw [State.rehearse]
  | succ f ih =>
    rw [State.rehearse]
    split
    · simp [*]
    · rw [ih]; simp [*]

@[simp] theorem State.settleAll_mask (m : StateField → Bool) (s : State) (h_regs : m .regs = true) (h_kpr : m .kpr = true) (h_clk : m .clk = true) (h_lanes : m .lanes = true) (h_links : m .links = true) (h_csw : m .csw = true) (h_mem : m .mem = true) (h_sec : m .sec = true) (h_xfr : m .xfr = true) (h_prm : m .prm = true) (h_script : m .script = true) (h_eru : m .eru = true) (h_col : m .col = true) (h_upd : m .upd = true) (h_memory : m .memory = true) (h_free : m .free = true) :
    State.mask m (State.settleAll s) = State.mask m s := by
  unfold State.settleAll
  simp [*]

@[simp] theorem execUpdateSegment_mask (m : StateField → Bool) (u : Fin 64) (s : State) (h_regs : m .regs = true) (h_kpr : m .kpr = true) (h_clk : m .clk = true) (h_lanes : m .lanes = true) (h_links : m .links = true) (h_csw : m .csw = true) (h_mem : m .mem = true) (h_sec : m .sec = true) (h_xfr : m .xfr = true) (h_prm : m .prm = true) (h_script : m .script = true) (h_eru : m .eru = true) (h_col : m .col = true) (h_upd : m .upd = true) (h_memory : m .memory = true) (h_free : m .free = true) :
    State.Keeps m s (execUpdateSegment u s) := by
  unfold execUpdateSegment
  split <;> (try split) <;> simp [*]

@[simp] theorem execUpdateContextTimeout_mask (m : StateField → Bool) (u : Fin 64) (s : State) (h_regs : m .regs = true) (h_kpr : m .kpr = true) (h_lanes : m .lanes = true) (h_links : m .links = true) (h_csw : m .csw = true) (h_mem : m .mem = true) (h_sec : m .sec = true) (h_xfr : m .xfr = true) (h_prm : m .prm = true) (h_script : m .script = true) (h_col : m .col = true) (h_upd : m .upd = true) (h_memory : m .memory = true) (h_free : m .free = true) :
    State.Keeps m s (execUpdateContextTimeout u s) := by
  unfold execUpdateContextTimeout
  split <;> (try split) <;> simp [*]

@[simp] theorem execUpdateGateTimeout_mask (m : StateField → Bool) (u : Fin 64) (s : State) (h_regs : m .regs = true) (h_kpr : m .kpr = true) (h_clk : m .clk = true) (h_lanes : m .lanes = true) (h_links : m .links = true) (h_csw : m .csw = true) (h_mem : m .mem = true) (h_sec : m .sec = true) (h_xfr : m .xfr = true) (h_prm : m .prm = true) (h_script : m .script = true) (h_eru : m .eru = true) (h_col : m .col = true) (h_upd : m .upd = true) (h_memory : m .memory = true) (h_free : m .free = true) :
    State.Keeps m s (execUpdateGateTimeout u s) := by
  unfold execUpdateGateTimeout
  split <;> (try split) <;> simp [*]

@[simp] theorem execSweepRx_mask (m : StateField → Bool) (c : Cell) (s : State) (h_regs : m .regs = true) (h_kpr : m .kpr = true) (h_clk : m .clk = true) (h_lanes : m .lanes = true) (h_links : m .links = true) (h_csw : m .csw = true) (h_mem : m .mem = true) (h_sec : m .sec = true) (h_xfr : m .xfr = true) (h_prm : m .prm = true) (h_script : m .script = true) (h_eru : m .eru = true) (h_col : m .col = true) (h_upd : m .upd = true) (h_memory : m .memory = true) (h_free : m .free = true) :
    State.Keeps m s (execSweepRx c s) := by
  unfold execSweepRx
  simp [*]

@[simp] theorem execContribRx_mask (m : StateField → Bool) (c : Cell) (s : State) (h_regs : m .regs = true) (h_kpr : m .kpr = true) (h_clk : m .clk = true) (h_lanes : m .lanes = true) (h_links : m .links = true) (h_csw : m .csw = true) (h_mem : m .mem = true) (h_sec : m .sec = true) (h_xfr : m .xfr = true) (h_prm : m .prm = true) (h_script : m .script = true) (h_eru : m .eru = true) (h_col : m .col = true) (h_upd : m .upd = true) (h_memory : m .memory = true) (h_free : m .free = true) :
    State.Keeps m s (execContribRx c s) := by
  unfold execContribRx
  simp [*]

@[simp] theorem execPartialCfRx_mask (m : StateField → Bool) (c : Cell) (s : State) (h_regs : m .regs = true) (h_kpr : m .kpr = true) (h_clk : m .clk = true) (h_lanes : m .lanes = true) (h_links : m .links = true) (h_csw : m .csw = true) (h_mem : m .mem = true) (h_sec : m .sec = true) (h_xfr : m .xfr = true) (h_prm : m .prm = true) (h_script : m .script = true) (h_eru : m .eru = true) (h_col : m .col = true) (h_upd : m .upd = true) (h_memory : m .memory = true) (h_free : m .free = true) :
    State.Keeps m s (execPartialCfRx c s) := by
  unfold execPartialCfRx
  simp [*]

@[simp] theorem execA2aCountsRx_mask (m : StateField → Bool) (c : Cell) (s : State) (h_regs : m .regs = true) (h_kpr : m .kpr = true) (h_clk : m .clk = true) (h_lanes : m .lanes = true) (h_links : m .links = true) (h_csw : m .csw = true) (h_mem : m .mem = true) (h_sec : m .sec = true) (h_xfr : m .xfr = true) (h_prm : m .prm = true) (h_script : m .script = true) (h_eru : m .eru = true) (h_col : m .col = true) (h_upd : m .upd = true) (h_memory : m .memory = true) (h_free : m .free = true) :
    State.Keeps m s (execA2aCountsRx c s) := by
  unfold execA2aCountsRx
  simp [*]

@[simp] theorem execA2aDataRx_mask (m : StateField → Bool) (c : Cell) (s : State) (h_regs : m .regs = true) (h_kpr : m .kpr = true) (h_clk : m .clk = true) (h_lanes : m .lanes = true) (h_links : m .links = true) (h_csw : m .csw = true) (h_mem : m .mem = true) (h_sec : m .sec = true) (h_xfr : m .xfr = true) (h_prm : m .prm = true) (h_script : m .script = true) (h_eru : m .eru = true) (h_col : m .col = true) (h_upd : m .upd = true) (h_memory : m .memory = true) (h_free : m .free = true) :
    State.Keeps m s (execA2aDataRx c s) := by
  unfold execA2aDataRx
  simp [*]

@[simp] theorem execGatherDataRx_mask (m : StateField → Bool) (c : Cell) (s : State) (h_regs : m .regs = true) (h_kpr : m .kpr = true) (h_clk : m .clk = true) (h_lanes : m .lanes = true) (h_links : m .links = true) (h_csw : m .csw = true) (h_mem : m .mem = true) (h_sec : m .sec = true) (h_xfr : m .xfr = true) (h_prm : m .prm = true) (h_script : m .script = true) (h_eru : m .eru = true) (h_col : m .col = true) (h_upd : m .upd = true) (h_memory : m .memory = true) (h_free : m .free = true) :
    State.Keeps m s (execGatherDataRx c s) := by
  unfold execGatherDataRx
  simp [*]

end Sys2Proof.Machine
end

