-- ==== Sys2Proof/Laws/Frame/Admission.lean ====
section
/-! SUPPORT. What each function of Machine/Admission.lean leaves alone. -/

namespace Sys2Proof.Machine

@[simp] theorem State.refuseJoin_mask (m : StateField → Bool) (s : State) (i : Issue) (a : Answer) (h_regs : m .regs = true) (h_kpr : m .kpr = true) (h_lanes : m .lanes = true) (h_links : m .links = true) (h_csw : m .csw = true) (h_mem : m .mem = true) (h_sec : m .sec = true) (h_xfr : m .xfr = true) (h_prm : m .prm = true) (h_script : m .script = true) (h_memory : m .memory = true) (h_free : m .free = true) :
    State.mask m (State.refuseJoin s i a) = State.mask m s := by
  unfold State.refuseJoin
  simp [*]

@[simp] theorem State.joinMember_mask (m : StateField → Bool) (s : State) (k : Nat) (c : Ctx) (w : Waiting) (h_regs : m .regs = true) (h_kpr : m .kpr = true) (h_lanes : m .lanes = true) (h_links : m .links = true) (h_csw : m .csw = true) (h_mem : m .mem = true) (h_sec : m .sec = true) (h_xfr : m .xfr = true) (h_prm : m .prm = true) (h_script : m .script = true) (h_col : m .col = true) (h_memory : m .memory = true) (h_free : m .free = true) :
    State.mask m (State.joinMember s k c w) = State.mask m s := by
  unfold State.joinMember
  dsimp only
  split <;> simp [*]

@[simp] theorem State.joinWaiting_mask (m : StateField → Bool) (s : State) (k : Nat) (h_regs : m .regs = true) (h_kpr : m .kpr = true) (h_lanes : m .lanes = true) (h_links : m .links = true) (h_csw : m .csw = true) (h_mem : m .mem = true) (h_sec : m .sec = true) (h_xfr : m .xfr = true) (h_prm : m .prm = true) (h_script : m .script = true) (h_col : m .col = true) (h_upd : m .upd = true) (h_memory : m .memory = true) (h_free : m .free = true) :
    State.mask m (State.joinWaiting s k) = State.mask m s := by
  unfold State.joinWaiting
  repeat' first | (simp [*]; done) | (rw [State.mask_mk] <;> simp [*]; done) | refine (State.mask_foldl m _ (fun t x => ?_) _ _).trans ?_ | refine (State.mask_foldl_fst m _ (fun p x => ?_) _ _).trans ?_ | refine (State.mask_foldl_snd m _ (fun p x => ?_) _ _).trans ?_ | split | simp [*]

@[simp] theorem State.submitMember_mask (m : StateField → Bool) (s : State) (i : Issue) (stamp : Nat) (h_regs : m .regs = true) (h_kpr : m .kpr = true) (h_lanes : m .lanes = true) (h_links : m .links = true) (h_csw : m .csw = true) (h_mem : m .mem = true) (h_sec : m .sec = true) (h_xfr : m .xfr = true) (h_prm : m .prm = true) (h_script : m .script = true) (h_col : m .col = true) (h_memory : m .memory = true) (h_free : m .free = true) :
    State.mask m (State.submitMember s i stamp) = State.mask m s := by
  unfold State.submitMember
  split <;> simp [*]

@[simp] theorem State.submitOut_mask (m : StateField → Bool) (s : State) (i : Issue) (stamp : Nat) (h_regs : m .regs = true) (h_kpr : m .kpr = true) (h_lanes : m .lanes = true) (h_links : m .links = true) (h_csw : m .csw = true) (h_mem : m .mem = true) (h_sec : m .sec = true) (h_xfr : m .xfr = true) (h_prm : m .prm = true) (h_script : m .script = true) (h_col : m .col = true) (h_memory : m .memory = true) (h_free : m .free = true) :
    State.mask m (State.submitOut s i stamp) = State.mask m s := by
  unfold State.submitOut
  split <;> simp [*]

@[simp] theorem State.joinOpen_mask (m : StateField → Bool) (s : State) (k : Nat) (c : Ctx) (i : Issue) (h_regs : m .regs = true) (h_kpr : m .kpr = true) (h_lanes : m .lanes = true) (h_links : m .links = true) (h_csw : m .csw = true) (h_mem : m .mem = true) (h_sec : m .sec = true) (h_xfr : m .xfr = true) (h_prm : m .prm = true) (h_script : m .script = true) (h_col : m .col = true) (h_memory : m .memory = true) (h_free : m .free = true) :
    State.mask m (State.joinOpen s k c i) = State.mask m s := by
  unfold State.joinOpen
  simp [*]

@[simp] theorem State.submitOpen_mask (m : StateField → Bool) (s : State) (i : Issue) (stamp : Nat) (h_regs : m .regs = true) (h_kpr : m .kpr = true) (h_lanes : m .lanes = true) (h_links : m .links = true) (h_csw : m .csw = true) (h_mem : m .mem = true) (h_sec : m .sec = true) (h_xfr : m .xfr = true) (h_prm : m .prm = true) (h_script : m .script = true) (h_col : m .col = true) (h_memory : m .memory = true) (h_free : m .free = true) :
    State.mask m (State.submitOpen s i stamp) = State.mask m s := by
  unfold State.submitOpen
  split <;> simp [*]

@[simp] theorem State.admitOpen_mask (m : StateField → Bool) (s : State) (w : Waiting) (h_regs : m .regs = true) (h_kpr : m .kpr = true) (h_lanes : m .lanes = true) (h_links : m .links = true) (h_csw : m .csw = true) (h_mem : m .mem = true) (h_sec : m .sec = true) (h_xfr : m .xfr = true) (h_prm : m .prm = true) (h_script : m .script = true) (h_col : m .col = true) (h_upd : m .upd = true) (h_memory : m .memory = true) (h_free : m .free = true) :
    State.mask m (State.admitOpen s w) = State.mask m s := by
  unfold State.admitOpen
  dsimp only
  split <;> simp [*]

@[simp] theorem execContextAdmit_mask (m : StateField → Bool) (s : State) (h_regs : m .regs = true) (h_kpr : m .kpr = true) (h_clk : m .clk = true) (h_lanes : m .lanes = true) (h_links : m .links = true) (h_csw : m .csw = true) (h_mem : m .mem = true) (h_sec : m .sec = true) (h_xfr : m .xfr = true) (h_prm : m .prm = true) (h_script : m .script = true) (h_eru : m .eru = true) (h_col : m .col = true) (h_upd : m .upd = true) (h_memory : m .memory = true) (h_free : m .free = true) :
    State.Keeps m s (execContextAdmit s) := by
  unfold execContextAdmit
  split <;> (try split) <;> simp [*]

@[simp] theorem execMemberWaitTimeout_mask (m : StateField → Bool) (s : State) (h_regs : m .regs = true) (h_kpr : m .kpr = true) (h_lanes : m .lanes = true) (h_links : m .links = true) (h_csw : m .csw = true) (h_mem : m .mem = true) (h_sec : m .sec = true) (h_xfr : m .xfr = true) (h_prm : m .prm = true) (h_script : m .script = true) (h_col : m .col = true) (h_memory : m .memory = true) (h_free : m .free = true) :
    State.Keeps m s (execMemberWaitTimeout s) := by
  unfold execMemberWaitTimeout
  repeat' first | (simp [*]; done) | (rw [State.mask_mk] <;> simp [*]; done) | refine (State.mask_foldl m _ (fun t x => ?_) _ _).trans ?_ | refine (State.mask_foldl_fst m _ (fun p x => ?_) _ _).trans ?_ | refine (State.mask_foldl_snd m _ (fun p x => ?_) _ _).trans ?_ | split | simp [*]

@[simp] theorem State.replaySenders_mask (m : StateField → Bool) (s : State) (k : Nat) (n : Nat) (h_regs : m .regs = true) (h_csw : m .csw = true) (h_col : m .col = true) :
    State.mask m (State.replaySenders s k n) = State.mask m s := by
  unfold State.replaySenders
  repeat' first | (simp [*]; done) | (rw [State.mask_mk] <;> simp [*]; done) | refine (State.mask_foldl m _ (fun t x => ?_) _ _).trans ?_ | refine (State.mask_foldl_fst m _ (fun p x => ?_) _ _).trans ?_ | refine (State.mask_foldl_snd m _ (fun p x => ?_) _ _).trans ?_ | split | simp [*]

@[simp] theorem execReplayPass_mask (m : StateField → Bool) (k : CtxIx) (s : State) (h_regs : m .regs = true) (h_kpr : m .kpr = true) (h_clk : m .clk = true) (h_lanes : m .lanes = true) (h_links : m .links = true) (h_csw : m .csw = true) (h_mem : m .mem = true) (h_sec : m .sec = true) (h_xfr : m .xfr = true) (h_prm : m .prm = true) (h_script : m .script = true) (h_eru : m .eru = true) (h_col : m .col = true) (h_upd : m .upd = true) (h_memory : m .memory = true) (h_free : m .free = true) :
    State.Keeps m s (execReplayPass k s) := by
  unfold execReplayPass
  repeat' first | (simp [*]; done) | (rw [State.mask_mk] <;> simp [*]; done) | refine (State.mask_foldl m _ (fun t x => ?_) _ _).trans ?_ | refine (State.mask_foldl_fst m _ (fun p x => ?_) _ _).trans ?_ | refine (State.mask_foldl_snd m _ (fun p x => ?_) _ _).trans ?_ | split | simp [*]

@[simp] theorem execBarrierRelease_mask (m : StateField → Bool) (k : CtxIx) (s : State) (h_regs : m .regs = true) (h_kpr : m .kpr = true) (h_clk : m .clk = true) (h_lanes : m .lanes = true) (h_links : m .links = true) (h_csw : m .csw = true) (h_mem : m .mem = true) (h_sec : m .sec = true) (h_xfr : m .xfr = true) (h_prm : m .prm = true) (h_script : m .script = true) (h_col : m .col = true) (h_memory : m .memory = true) (h_free : m .free = true) :
    State.Keeps m s (execBarrierRelease k s) := by
  unfold execBarrierRelease
  simp [*]

@[simp] theorem State.regrantRed_mask (m : StateField → Bool) (s : State) (k : Nat) (c : Ctx) (every : Bool) (h_regs : m .regs = true) (h_kpr : m .kpr = true) (h_lanes : m .lanes = true) (h_links : m .links = true) (h_csw : m .csw = true) (h_sec : m .sec = true) (h_col : m .col = true) (h_free : m .free = true) :
    State.mask m (State.regrantRed s k c every) = State.mask m s := by
  unfold State.regrantRed
  repeat' first | (simp [*]; done) | (rw [State.mask_mk] <;> simp [*]; done) | refine (State.mask_foldl m _ (fun t x => ?_) _ _).trans ?_ | refine (State.mask_foldl_fst m _ (fun p x => ?_) _ _).trans ?_ | refine (State.mask_foldl_snd m _ (fun p x => ?_) _ _).trans ?_ | split | simp [*]

@[simp] theorem State.regrantA2a_mask (m : StateField → Bool) (s : State) (k : Nat) (c : Ctx) (every : Bool) (h_regs : m .regs = true) (h_csw : m .csw = true) (h_col : m .col = true) :
    State.mask m (State.regrantA2a s k c every) = State.mask m s := by
  unfold State.regrantA2a
  repeat' first | (simp [*]; done) | (rw [State.mask_mk] <;> simp [*]; done) | refine (State.mask_foldl m _ (fun t x => ?_) _ _).trans ?_ | refine (State.mask_foldl_fst m _ (fun p x => ?_) _ _).trans ?_ | refine (State.mask_foldl_snd m _ (fun p x => ?_) _ _).trans ?_ | split | simp [*]

@[simp] theorem State.regrantGather_mask (m : StateField → Bool) (s : State) (k : Nat) (c : Ctx) (every : Bool) (h_regs : m .regs = true) (h_kpr : m .kpr = true) (h_lanes : m .lanes = true) (h_links : m .links = true) (h_csw : m .csw = true) (h_mem : m .mem = true) (h_sec : m .sec = true) (h_xfr : m .xfr = true) (h_col : m .col = true) (h_free : m .free = true) :
    State.mask m (State.regrantGather s k c every) = State.mask m s := by
  unfold State.regrantGather
  repeat' first | (simp [*]; done) | (rw [State.mask_mk] <;> simp [*]; done) | refine (State.mask_foldl m _ (fun t x => ?_) _ _).trans ?_ | refine (State.mask_foldl_fst m _ (fun p x => ?_) _ _).trans ?_ | refine (State.mask_foldl_snd m _ (fun p x => ?_) _ _).trans ?_ | split | simp [*]

@[simp] theorem State.regrantCtx_mask (m : StateField → Bool) (s : State) (k : Nat) (c : Ctx) (every : Bool) (h_regs : m .regs = true) (h_kpr : m .kpr = true) (h_lanes : m .lanes = true) (h_links : m .links = true) (h_csw : m .csw = true) (h_mem : m .mem = true) (h_sec : m .sec = true) (h_xfr : m .xfr = true) (h_col : m .col = true) (h_free : m .free = true) :
    State.mask m (State.regrantCtx s k c every) = State.mask m s := by
  unfold State.regrantCtx
  split <;> simp [*]

@[simp] theorem execRegrant_mask (m : StateField → Bool) (k : CtxIx) (s : State) (h_regs : m .regs = true) (h_kpr : m .kpr = true) (h_clk : m .clk = true) (h_lanes : m .lanes = true) (h_links : m .links = true) (h_csw : m .csw = true) (h_mem : m .mem = true) (h_sec : m .sec = true) (h_xfr : m .xfr = true) (h_prm : m .prm = true) (h_script : m .script = true) (h_eru : m .eru = true) (h_col : m .col = true) (h_upd : m .upd = true) (h_memory : m .memory = true) (h_free : m .free = true) :
    State.Keeps m s (execRegrant k s) := by
  unfold execRegrant
  split <;> (try split) <;> simp [*]

@[simp] theorem State.declareAll_mask (m : StateField → Bool) (s : State) (k : Nat) (l : List (Nat × Nat)) (h_regs : m .regs = true) (h_kpr : m .kpr = true) (h_lanes : m .lanes = true) (h_links : m .links = true) (h_csw : m .csw = true) (h_sec : m .sec = true) (h_script : m .script = true) (h_col : m .col = true) (h_free : m .free = true) :
    State.mask m (State.declareAll s k l) = State.mask m s := by
  unfold State.declareAll
  exact State.mask_foldl m _ (fun t x => by simp [*]) _ _

@[simp] theorem State.timeoutRed_mask (m : StateField → Bool) (s : State) (k : Nat) (c : Ctx) (h_regs : m .regs = true) (h_kpr : m .kpr = true) (h_lanes : m .lanes = true) (h_links : m .links = true) (h_csw : m .csw = true) (h_mem : m .mem = true) (h_sec : m .sec = true) (h_xfr : m .xfr = true) (h_prm : m .prm = true) (h_script : m .script = true) (h_col : m .col = true) (h_upd : m .upd = true) (h_memory : m .memory = true) (h_free : m .free = true) :
    State.mask m (State.timeoutRed s k c) = State.mask m s := by
  unfold State.timeoutRed
  repeat' first | (simp [*]; done) | (rw [State.mask_mk] <;> simp [*]; done) | refine (State.mask_foldl m _ (fun t x => ?_) _ _).trans ?_ | refine (State.mask_foldl_fst m _ (fun p x => ?_) _ _).trans ?_ | refine (State.mask_foldl_snd m _ (fun p x => ?_) _ _).trans ?_ | split | simp [*]

@[simp] theorem State.timeoutValue_mask (m : StateField → Bool) (s : State) (k : Nat) (c : Ctx) (h_regs : m .regs = true) (h_kpr : m .kpr = true) (h_lanes : m .lanes = true) (h_links : m .links = true) (h_csw : m .csw = true) (h_sec : m .sec = true) (h_script : m .script = true) (h_col : m .col = true) (h_free : m .free = true) :
    State.mask m (State.timeoutValue s k c) = State.mask m s := by
  unfold State.timeoutValue
  simp [*]

@[simp] theorem State.timeoutGather_mask (m : StateField → Bool) (s : State) (k : Nat) (c : Ctx) (h_regs : m .regs = true) (h_kpr : m .kpr = true) (h_lanes : m .lanes = true) (h_links : m .links = true) (h_csw : m .csw = true) (h_sec : m .sec = true) (h_script : m .script = true) (h_col : m .col = true) (h_free : m .free = true) :
    State.mask m (State.timeoutGather s k c) = State.mask m s := by
  unfold State.timeoutGather
  simp [*]

@[simp] theorem State.timeoutA2a_mask (m : StateField → Bool) (s : State) (k : Nat) (c : Ctx) (h_regs : m .regs = true) (h_kpr : m .kpr = true) (h_lanes : m .lanes = true) (h_links : m .links = true) (h_csw : m .csw = true) (h_sec : m .sec = true) (h_script : m .script = true) (h_col : m .col = true) (h_free : m .free = true) :
    State.mask m (State.timeoutA2a s k c) = State.mask m s := by
  unfold State.timeoutA2a
  simp [*]

@[simp] theorem State.timeoutSweep_mask (m : StateField → Bool) (s : State) (k : Nat) (c : Ctx) (h_regs : m .regs = true) (h_kpr : m .kpr = true) (h_lanes : m .lanes = true) (h_links : m .links = true) (h_csw : m .csw = true) (h_sec : m .sec = true) (h_script : m .script = true) (h_col : m .col = true) (h_free : m .free = true) :
    State.mask m (State.timeoutSweep s k c) = State.mask m s := by
  unfold State.timeoutSweep
  simp [*]

@[simp] theorem execContextTimeout_mask (m : StateField → Bool) (k : CtxIx) (s : State) (h_regs : m .regs = true) (h_kpr : m .kpr = true) (h_clk : m .clk = true) (h_lanes : m .lanes = true) (h_links : m .links = true) (h_csw : m .csw = true) (h_mem : m .mem = true) (h_sec : m .sec = true) (h_xfr : m .xfr = true) (h_prm : m .prm = true) (h_script : m .script = true) (h_eru : m .eru = true) (h_col : m .col = true) (h_upd : m .upd = true) (h_memory : m .memory = true) (h_free : m .free = true) :
    State.Keeps m s (execContextTimeout k s) := by
  unfold execContextTimeout
  repeat' first | (simp [*]; done) | (rw [State.mask_mk] <;> simp [*]; done) | refine (State.mask_foldl m _ (fun t x => ?_) _ _).trans ?_ | refine (State.mask_foldl_fst m _ (fun p x => ?_) _ _).trans ?_ | refine (State.mask_foldl_snd m _ (fun p x => ?_) _ _).trans ?_ | split | simp [*]

@[simp] theorem State.abortInstance_mask (m : StateField → Bool) (s : State) (part : Nat) (group : Nat) (inst : Nat) (messages : Bool) (h_regs : m .regs = true) (h_kpr : m .kpr = true) (h_clk : m .clk = true) (h_lanes : m .lanes = true) (h_links : m .links = true) (h_csw : m .csw = true) (h_mem : m .mem = true) (h_sec : m .sec = true) (h_xfr : m .xfr = true) (h_prm : m .prm = true) (h_script : m .script = true) (h_col : m .col = true) (h_upd : m .upd = true) (h_memory : m .memory = true) (h_free : m .free = true) :
    State.mask m (State.abortInstance s part group inst messages).2 = State.mask m s := by
  unfold State.abortInstance
  repeat' first | (simp [*]; done) | (rw [State.mask_mk] <;> simp [*]; done) | refine (State.mask_foldl m _ (fun t x => ?_) _ _).trans ?_ | refine (State.mask_foldl_fst m _ (fun p x => ?_) _ _).trans ?_ | refine (State.mask_foldl_snd m _ (fun p x => ?_) _ _).trans ?_ | split | simp [*]

@[simp] theorem execCollectiveAbortReqRx_mask (m : StateField → Bool) (c : Cell) (s : State) (h_regs : m .regs = true) (h_kpr : m .kpr = true) (h_clk : m .clk = true) (h_lanes : m .lanes = true) (h_links : m .links = true) (h_csw : m .csw = true) (h_mem : m .mem = true) (h_sec : m .sec = true) (h_xfr : m .xfr = true) (h_prm : m .prm = true) (h_script : m .script = true) (h_eru : m .eru = true) (h_col : m .col = true) (h_upd : m .upd = true) (h_memory : m .memory = true) (h_free : m .free = true) :
    State.Keeps m s (execCollectiveAbortReqRx c s) := by
  unfold execCollectiveAbortReqRx
  simp [*]

end Sys2Proof.Machine
end

