-- ==== Sys2Proof/Laws/Frame/MemPort.lean ====
section
/-! SUPPORT. What each function of Machine/MemPort.lean leaves alone. -/

namespace Sys2Proof.Machine

@[simp] theorem execChannelRequestAccept_mask (m : StateField → Bool) (p : Port) (s : State) (h_regs : m .regs = true) (h_kpr : m .kpr = true) (h_lanes : m .lanes = true) (h_links : m .links = true) (h_csw : m .csw = true) (h_mem : m .mem = true) (h_sec : m .sec = true) (h_free : m .free = true) :
    State.Keeps m s (execChannelRequestAccept p s) := by
  unfold execChannelRequestAccept
  dsimp only
  split <;> (try split) <;> simp [*]

@[simp] theorem State.failChan_mask (m : StateField → Bool) (s : State) (p : Nat) (h_regs : m .regs = true) (h_kpr : m .kpr = true) (h_lanes : m .lanes = true) (h_links : m .links = true) (h_csw : m .csw = true) (h_mem : m .mem = true) (h_sec : m .sec = true) (h_xfr : m .xfr = true) (h_free : m .free = true) :
    State.mask m (State.failChan s p) = State.mask m s := by
  unfold State.failChan
  repeat' first | (simp [*]; done) | (rw [State.mask_mk] <;> simp [*]; done) | refine (State.mask_foldl m _ (fun t x => ?_) _ _).trans ?_ | refine (State.mask_foldl_fst m _ (fun p x => ?_) _ _).trans ?_ | refine (State.mask_foldl_snd m _ (fun p x => ?_) _ _).trans ?_ | split | simp [*]

@[simp] theorem State.poisonLine_mask (m : StateField → Bool) (s : State) (p : Nat) (key : Nat) (check : Bool) (h_regs : m .regs = true) (h_kpr : m .kpr = true) (h_lanes : m .lanes = true) (h_links : m .links = true) (h_csw : m .csw = true) (h_mem : m .mem = true) (h_sec : m .sec = true) (h_free : m .free = true) :
    State.mask m (State.poisonLine s p key check) = State.mask m s := by
  unfold State.poisonLine
  simp [*]

@[simp] theorem State.unlockLine_mask (m : StateField → Bool) (s : State) (p : Nat) (key : Nat) (h_mem : m .mem = true) :
    State.mask m (State.unlockLine s p key) = State.mask m s := by
  unfold State.unlockLine
  simp [*]

@[simp] theorem State.readGood_mask (m : StateField → Bool) (s : State) (p : Nat) (r : LineReq) (corrected : Bool) (data : Line) (h_mem : m .mem = true) (h_xfr : m .xfr = true) (h_memory : m .memory = true) :
    State.mask m (State.readGood s p r corrected data) = State.mask m s := by
  unfold State.readGood
  simp [*]

@[simp] theorem State.spoilHost_mask (m : StateField → Bool) (s : State) (r : LineReq) (h_hostRead : m .hostRead = true) :
    State.mask m (State.spoilHost s r) = State.mask m s := by
  unfold State.spoilHost
  repeat' first | (simp [*]; done) | (rw [State.mask_mk] <;> simp [*]; done) | refine (State.mask_foldl m _ (fun t x => ?_) _ _).trans ?_ | refine (State.mask_foldl_fst m _ (fun p x => ?_) _ _).trans ?_ | refine (State.mask_foldl_snd m _ (fun p x => ?_) _ _).trans ?_ | split | simp [*]

@[simp] theorem State.readPoisoned_mask (m : StateField → Bool) (s : State) (p : Nat) (r : LineReq) (h_mem : m .mem = true) (h_xfr : m .xfr = true) (h_hostRead : m .hostRead = true) :
    State.mask m (State.readPoisoned s p r) = State.mask m s := by
  unfold State.readPoisoned
  repeat' first | (simp [*]; done) | (rw [State.mask_mk] <;> simp [*]; done) | refine (State.mask_foldl m _ (fun t x => ?_) _ _).trans ?_ | refine (State.mask_foldl_fst m _ (fun p x => ?_) _ _).trans ?_ | refine (State.mask_foldl_snd m _ (fun p x => ?_) _ _).trans ?_ | split | simp [*]

@[simp] theorem State.readResponse_mask (m : StateField → Bool) (s : State) (p : Nat) (r : LineReq) (stat : Nat) (data : Line) (code : Nat) (poison : Bool) (h_regs : m .regs = true) (h_kpr : m .kpr = true) (h_lanes : m .lanes = true) (h_links : m .links = true) (h_csw : m .csw = true) (h_mem : m .mem = true) (h_sec : m .sec = true) (h_xfr : m .xfr = true) (h_hostRead : m .hostRead = true) (h_memory : m .memory = true) (h_free : m .free = true) :
    State.mask m (State.readResponse s p r stat data code poison) = State.mask m s := by
  unfold State.readResponse
  simp [*]

@[simp] theorem State.channelResponse_mask (m : StateField → Bool) (s : State) (p : Port) (id : Byte) (stat : BitVec 2) (data : Line) (code : BitVec 16) (poison : Bool) (h_regs : m .regs = true) (h_kpr : m .kpr = true) (h_lanes : m .lanes = true) (h_links : m .links = true) (h_csw : m .csw = true) (h_mem : m .mem = true) (h_sec : m .sec = true) (h_xfr : m .xfr = true) (h_hostRead : m .hostRead = true) (h_memory : m .memory = true) (h_free : m .free = true) :
    State.mask m (State.channelResponse s p id stat data code poison) = State.mask m s := by
  unfold State.channelResponse
  repeat' first | (simp [*]; done) | (rw [State.mask_mk] <;> simp [*]; done) | refine (State.mask_foldl m _ (fun t x => ?_) _ _).trans ?_ | refine (State.mask_foldl_fst m _ (fun p x => ?_) _ _).trans ?_ | refine (State.mask_foldl_snd m _ (fun p x => ?_) _ _).trans ?_ | split | simp [*]

@[simp] theorem execChannelReadyFall_mask (m : StateField → Bool) (p : Port) (s : State) (h_mem : m .mem = true) :
    State.Keeps m s (execChannelReadyFall p s) := by
  unfold execChannelReadyFall
  simp [*]

@[simp] theorem execChannelReadyRise_mask (m : StateField → Bool) (p : Port) (s : State) (h_mem : m .mem = true) :
    State.Keeps m s (execChannelReadyRise p s) := by
  unfold execChannelReadyRise
  simp [*]

@[simp] theorem State.zeroExtents_mask (m : StateField → Bool) (s : State) (far : Bool) (base : Nat) (len : Nat) (h_mem : m .mem = true) (h_memory : m .memory = true) :
    State.mask m (State.zeroExtents s far base len) = State.mask m s := by
  unfold State.zeroExtents
  rw [State.mask_mk] <;> simp [*]

@[simp] theorem State.zeroRegion_mask (m : StateField → Bool) (s : State) (v : PlateV) (g : Region) (h_mem : m .mem = true) (h_memory : m .memory = true) :
    State.mask m (State.zeroRegion s v g) = State.mask m s := by
  unfold State.zeroRegion
  repeat' first | (simp [*]; done) | (rw [State.mask_mk] <;> simp [*]; done) | refine (State.mask_foldl m _ (fun t x => ?_) _ _).trans ?_ | refine (State.mask_foldl_fst m _ (fun p x => ?_) _ _).trans ?_ | refine (State.mask_foldl_snd m _ (fun p x => ?_) _ _).trans ?_ | split | simp [*]

@[simp] theorem execZeroingDone_mask (m : StateField → Bool) (region : BitVec 16) (s : State) (h_mem : m .mem = true) (h_memory : m .memory = true) :
    State.Keeps m s (execZeroingDone region s) := by
  unfold execZeroingDone
  repeat' first | (simp [*]; done) | (rw [State.mask_mk] <;> simp [*]; done) | refine (State.mask_foldl m _ (fun t x => ?_) _ _).trans ?_ | refine (State.mask_foldl_fst m _ (fun p x => ?_) _ _).trans ?_ | refine (State.mask_foldl_snd m _ (fun p x => ?_) _ _).trans ?_ | split | simp [*]

@[simp] theorem execScrubDone_mask (m : StateField → Bool) (s : State) (h_mem : m .mem = true) (h_memory : m .memory = true) :
    State.Keeps m s (execScrubDone s) := by
  unfold execScrubDone
  repeat' first | (simp [*]; done) | (rw [State.mask_mk] <;> simp [*]; done) | refine (State.mask_foldl m _ (fun t x => ?_) _ _).trans ?_ | refine (State.mask_foldl_fst m _ (fun p x => ?_) _ _).trans ?_ | refine (State.mask_foldl_snd m _ (fun p x => ?_) _ _).trans ?_ | split | simp [*]

end Sys2Proof.Machine
end

