-- ==== Sys2Proof/Laws/Frame/Target.lean ====
section
/-! SUPPORT. What each function of Machine/Target.lean leaves alone. -/

namespace Sys2Proof.Machine

@[simp] theorem State.record_mask (m : StateField → Bool) (s : State) (number : Nat) (e : Exec) (h_xfr : m .xfr = true) :
    State.mask m (State.record s number e) = State.mask m s := by
  unfold State.record
  simp [*]

@[simp] theorem State.newNumber_mask (m : StateField → Bool) (s : State) (h_xfr : m .xfr = true) :
    State.mask m (State.newNumber s).2 = State.mask m s := by
  unfold State.newNumber
  simp [*]

@[simp] theorem State.countAnswer_mask (m : StateField → Bool) (s : State) (c : Cell) (a : Answer) (h_regs : m .regs = true) (h_kpr : m .kpr = true) (h_lanes : m .lanes = true) (h_links : m .links = true) (h_csw : m .csw = true) (h_sec : m .sec = true) (h_free : m .free = true) :
    State.mask m (State.countAnswer s c a) = State.mask m s := by
  unfold State.countAnswer
  simp [*]

@[simp] theorem State.respond_mask (m : StateField → Bool) (s : State) (c : Cell) (chunk : Nat) (a : Answer) (more : List (Nat × Nat × Nat)) (h_regs : m .regs = true) (h_kpr : m .kpr = true) (h_lanes : m .lanes = true) (h_links : m .links = true) (h_csw : m .csw = true) (h_sec : m .sec = true) (h_free : m .free = true) :
    State.mask m (State.respond s c chunk a more) = State.mask m s := by
  unfold State.respond
  simp [*]

@[simp] theorem State.respondRecorded_mask (m : StateField → Bool) (s : State) (c : Cell) (e : Exec) (h_regs : m .regs = true) (h_kpr : m .kpr = true) (h_lanes : m .lanes = true) (h_links : m .links = true) (h_csw : m .csw = true) (h_sec : m .sec = true) (h_free : m .free = true) :
    State.mask m (State.respondRecorded s c e) = State.mask m s := by
  unfold State.respondRecorded
  simp [*]

@[simp] theorem State.putInbound_mask (m : StateField → Bool) (s : State) (i : Inbound) (new : Option Inbound) (h_xfr : m .xfr = true) :
    State.mask m (State.putInbound s i new) = State.mask m s := by
  unfold State.putInbound
  simp [*]

@[simp] theorem State.landLines_mask (m : StateField → Bool) (s : State) (v : PlateV) (g : Region) (i : Inbound) (by0 : CheckBy) (k : Nat) (h_regs : m .regs = true) (h_mem : m .mem = true) (h_xfr : m .xfr = true) (h_memory : m .memory = true) :
    State.mask m (State.landLines s v g i by0 k) = State.mask m s := by
  unfold State.landLines
  repeat' first | (simp [*]; done) | (rw [State.mask_mk] <;> simp [*]; done) | refine (State.mask_foldl m _ (fun t x => ?_) _ _).trans ?_ | refine (State.mask_foldl_fst m _ (fun p x => ?_) _ _).trans ?_ | refine (State.mask_foldl_snd m _ (fun p x => ?_) _ _).trans ?_ | split | simp [*]

@[simp] theorem State.setRflow_mask (m : StateField → Bool) (s : State) (n : Nat) (f : RFlow) (h_xfr : m .xfr = true) :
    State.mask m (State.setRflow s n f) = State.mask m s := by
  unfold State.setRflow
  simp [*]

@[simp] theorem State.turnOf_mask (m : StateField → Bool) (s : State) (c : Cell) (h_xfr : m .xfr = true) :
    State.mask m (State.turnOf s c).2 = State.mask m s := by
  unfold State.turnOf
  repeat' first | (simp [*]; done) | (rw [State.mask_mk] <;> simp [*]; done) | refine (State.mask_foldl m _ (fun t x => ?_) _ _).trans ?_ | refine (State.mask_foldl_fst m _ (fun p x => ?_) _ _).trans ?_ | refine (State.mask_foldl_snd m _ (fun p x => ?_) _ _).trans ?_ | split | simp [*]

@[simp] theorem State.endWrite_mask (m : StateField → Bool) (s : State) (n : Nat) (j : Job) (c : Cell) (atomic : Bool) (value : Nat) (h_regs : m .regs = true) (h_kpr : m .kpr = true) (h_lanes : m .lanes = true) (h_links : m .links = true) (h_csw : m .csw = true) (h_sec : m .sec = true) (h_xfr : m .xfr = true) (h_free : m .free = true) :
    State.mask m (State.endWrite s n j c atomic value) = State.mask m s := by
  unfold State.endWrite
  repeat' first | (simp [*]; done) | (rw [State.mask_mk] <;> simp [*]; done) | refine (State.mask_foldl m _ (fun t x => ?_) _ _).trans ?_ | refine (State.mask_foldl_fst m _ (fun p x => ?_) _ _).trans ?_ | refine (State.mask_foldl_snd m _ (fun p x => ?_) _ _).trans ?_ | split | simp [*]

@[simp] theorem State.endChunk_mask (m : StateField → Bool) (s : State) (i : Inbound) (j : Job) (h_regs : m .regs = true) (h_kpr : m .kpr = true) (h_lanes : m .lanes = true) (h_links : m .links = true) (h_csw : m .csw = true) (h_sec : m .sec = true) (h_xfr : m .xfr = true) (h_free : m .free = true) :
    State.mask m (State.endChunk s i j) = State.mask m s := by
  unfold State.endChunk
  repeat' first | (simp [*]; done) | (rw [State.mask_mk] <;> simp [*]; done) | refine (State.mask_foldl m _ (fun t x => ?_) _ _).trans ?_ | refine (State.mask_foldl_fst m _ (fun p x => ?_) _ _).trans ?_ | refine (State.mask_foldl_snd m _ (fun p x => ?_) _ _).trans ?_ | split | simp [*]

@[simp] theorem State.landCell_mask (m : StateField → Bool) (s : State) (i : Inbound) (k : Nat) (p : Line) (h_regs : m .regs = true) (h_kpr : m .kpr = true) (h_lanes : m .lanes = true) (h_links : m .links = true) (h_csw : m .csw = true) (h_mem : m .mem = true) (h_sec : m .sec = true) (h_xfr : m .xfr = true) (h_memory : m .memory = true) (h_free : m .free = true) :
    State.mask m (State.landCell s i k p) = State.mask m s := by
  unfold State.landCell
  repeat' first | (simp [*]; done) | (rw [State.mask_mk] <;> simp [*]; done) | refine (State.mask_foldl m _ (fun t x => ?_) _ _).trans ?_ | refine (State.mask_foldl_fst m _ (fun p x => ?_) _ _).trans ?_ | refine (State.mask_foldl_snd m _ (fun p x => ?_) _ _).trans ?_ | split | simp [*]

@[simp] theorem State.takeLanded_mask (m : StateField → Bool) (s : State) (i : Inbound) (h_regs : m .regs = true) (h_kpr : m .kpr = true) (h_lanes : m .lanes = true) (h_links : m .links = true) (h_csw : m .csw = true) (h_mem : m .mem = true) (h_sec : m .sec = true) (h_xfr : m .xfr = true) (h_memory : m .memory = true) (h_free : m .free = true) :
    State.mask m (State.takeLanded s i) = State.mask m s := by
  unfold State.takeLanded
  repeat' first | (simp [*]; done) | (rw [State.mask_mk] <;> simp [*]; done) | refine (State.mask_foldl m _ (fun t x => ?_) _ _).trans ?_ | refine (State.mask_foldl_fst m _ (fun p x => ?_) _ _).trans ?_ | refine (State.mask_foldl_snd m _ (fun p x => ?_) _ _).trans ?_ | split | simp [*]

@[simp] theorem State.refuseStore_mask (m : StateField → Bool) (s : State) (c : Cell) (ctx : Option Nat) (a : Answer) (h_regs : m .regs = true) (h_kpr : m .kpr = true) (h_lanes : m .lanes = true) (h_links : m .links = true) (h_csw : m .csw = true) (h_mem : m .mem = true) (h_sec : m .sec = true) (h_xfr : m .xfr = true) (h_memory : m .memory = true) (h_free : m .free = true) :
    State.mask m (State.refuseStore s c ctx a) = State.mask m s := by
  unfold State.refuseStore
  simp [*]

@[simp] theorem State.supersede_mask (m : StateField → Bool) (s : State) (c : Cell) (h_xfr : m .xfr = true) :
    State.mask m (State.supersede s c) = State.mask m s := by
  unfold State.supersede
  repeat' first | (simp [*]; done) | (rw [State.mask_mk] <;> simp [*]; done) | refine (State.mask_foldl m _ (fun t x => ?_) _ _).trans ?_ | refine (State.mask_foldl_fst m _ (fun p x => ?_) _ _).trans ?_ | refine (State.mask_foldl_snd m _ (fun p x => ?_) _ _).trans ?_ | split | simp [*]

@[simp] theorem State.runStore_mask (m : StateField → Bool) (s0 : State) (c : Cell) (ctx : Option Nat) (h_regs : m .regs = true) (h_kpr : m .kpr = true) (h_lanes : m .lanes = true) (h_links : m .links = true) (h_csw : m .csw = true) (h_mem : m .mem = true) (h_sec : m .sec = true) (h_xfr : m .xfr = true) (h_memory : m .memory = true) (h_free : m .free = true) :
    State.mask m (State.runStore s0 c ctx) = State.mask m s0 := by
  unfold State.runStore
  repeat' first | (simp [*]; done) | (rw [State.mask_mk] <;> simp [*]; done) | refine (State.mask_foldl m _ (fun t x => ?_) _ _).trans ?_ | refine (State.mask_foldl_fst m _ (fun p x => ?_) _ _).trans ?_ | refine (State.mask_foldl_snd m _ (fun p x => ?_) _ _).trans ?_ | split | simp [*]

@[simp] theorem State.serveChunk_mask (m : StateField → Bool) (s : State) (c : Cell) (ctx : Option Nat) (v : PlateV) (g : Region) (j : Nat) (total : Nat) (h_regs : m .regs = true) (h_kpr : m .kpr = true) (h_lanes : m .lanes = true) (h_links : m .links = true) (h_csw : m .csw = true) (h_mem : m .mem = true) (h_sec : m .sec = true) (h_xfr : m .xfr = true) (h_free : m .free = true) :
    State.mask m (State.serveChunk s c ctx v g j total) = State.mask m s := by
  unfold State.serveChunk
  repeat' first | (simp [*]; done) | (rw [State.mask_mk] <;> simp [*]; done) | refine (State.mask_foldl m _ (fun t x => ?_) _ _).trans ?_ | refine (State.mask_foldl_fst m _ (fun p x => ?_) _ _).trans ?_ | refine (State.mask_foldl_snd m _ (fun p x => ?_) _ _).trans ?_ | split | simp [*]

@[simp] theorem State.passLoad_mask (m : StateField → Bool) (s : State) (c : Cell) (ctx : Option Nat) (h_xfr : m .xfr = true) :
    State.mask m (State.passLoad s c ctx) = State.mask m s := by
  unfold State.passLoad
  repeat' first | (simp [*]; done) | (rw [State.mask_mk] <;> simp [*]; done) | refine (State.mask_foldl m _ (fun t x => ?_) _ _).trans ?_ | refine (State.mask_foldl_fst m _ (fun p x => ?_) _ _).trans ?_ | refine (State.mask_foldl_snd m _ (fun p x => ?_) _ _).trans ?_ | split | simp [*]

@[simp] theorem State.runLoad_mask (m : StateField → Bool) (s : State) (c : Cell) (ctx : Option Nat) (h_regs : m .regs = true) (h_kpr : m .kpr = true) (h_lanes : m .lanes = true) (h_links : m .links = true) (h_csw : m .csw = true) (h_mem : m .mem = true) (h_sec : m .sec = true) (h_xfr : m .xfr = true) (h_free : m .free = true) :
    State.mask m (State.runLoad s c ctx) = State.mask m s := by
  unfold State.runLoad
  repeat' first | (simp [*]; done) | (rw [State.mask_mk] <;> simp [*]; done) | refine (State.mask_foldl m _ (fun t x => ?_) _ _).trans ?_ | refine (State.mask_foldl_fst m _ (fun p x => ?_) _ _).trans ?_ | refine (State.mask_foldl_snd m _ (fun p x => ?_) _ _).trans ?_ | split | simp [*]

@[simp] theorem State.endLoad_mask (m : StateField → Bool) (s : State) (b : Job) (c : Cell) (j : Nat) (total : Nat) (ctx : Option Nat) (h_regs : m .regs = true) (h_kpr : m .kpr = true) (h_lanes : m .lanes = true) (h_links : m .links = true) (h_csw : m .csw = true) (h_sec : m .sec = true) (h_xfr : m .xfr = true) (h_free : m .free = true) :
    State.mask m (State.endLoad s b c j total ctx) = State.mask m s := by
  unfold State.endLoad
  repeat' first | (simp [*]; done) | (rw [State.mask_mk] <;> simp [*]; done) | refine (State.mask_foldl m _ (fun t x => ?_) _ _).trans ?_ | refine (State.mask_foldl_fst m _ (fun p x => ?_) _ _).trans ?_ | refine (State.mask_foldl_snd m _ (fun p x => ?_) _ _).trans ?_ | split | simp [*]

@[simp] theorem State.runFill_mask (m : StateField → Bool) (s : State) (c : Cell) (ctx : Option Nat) (h_regs : m .regs = true) (h_kpr : m .kpr = true) (h_lanes : m .lanes = true) (h_links : m .links = true) (h_csw : m .csw = true) (h_mem : m .mem = true) (h_sec : m .sec = true) (h_xfr : m .xfr = true) (h_memory : m .memory = true) (h_free : m .free = true) :
    State.mask m (State.runFill s c ctx) = State.mask m s := by
  unfold State.runFill
  repeat' first | (simp [*]; done) | (rw [State.mask_mk] <;> simp [*]; done) | refine (State.mask_foldl m _ (fun t x => ?_) _ _).trans ?_ | refine (State.mask_foldl_fst m _ (fun p x => ?_) _ _).trans ?_ | refine (State.mask_foldl_snd m _ (fun p x => ?_) _ _).trans ?_ | split | simp [*]

@[simp] theorem State.answerAtomic_mask (m : StateField → Bool) (s : State) (c : Cell) (old : Nat) (h_regs : m .regs = true) (h_kpr : m .kpr = true) (h_lanes : m .lanes = true) (h_links : m .links = true) (h_csw : m .csw = true) (h_sec : m .sec = true) (h_xfr : m .xfr = true) (h_free : m .free = true) :
    State.mask m (State.answerAtomic s c old) = State.mask m s := by
  unfold State.answerAtomic
  repeat' first | (simp [*]; done) | (rw [State.mask_mk] <;> simp [*]; done) | refine (State.mask_foldl m _ (fun t x => ?_) _ _).trans ?_ | refine (State.mask_foldl_fst m _ (fun p x => ?_) _ _).trans ?_ | refine (State.mask_foldl_snd m _ (fun p x => ?_) _ _).trans ?_ | split | simp [*]

@[simp] theorem State.runAtomic_mask (m : StateField → Bool) (s : State) (c : Cell) (ctx : Option Nat) (h_regs : m .regs = true) (h_kpr : m .kpr = true) (h_lanes : m .lanes = true) (h_links : m .links = true) (h_csw : m .csw = true) (h_mem : m .mem = true) (h_sec : m .sec = true) (h_xfr : m .xfr = true) (h_eru : m .eru = true) (h_memory : m .memory = true) (h_free : m .free = true) :
    State.mask m (State.runAtomic s c ctx) = State.mask m s := by
  unfold State.runAtomic
  repeat' first | (simp [*]; done) | (rw [State.mask_mk] <;> simp [*]; done) | refine (State.mask_foldl m _ (fun t x => ?_) _ _).trans ?_ | refine (State.mask_foldl_fst m _ (fun p x => ?_) _ _).trans ?_ | refine (State.mask_foldl_snd m _ (fun p x => ?_) _ _).trans ?_ | split | simp [*]

@[simp] theorem State.startOp_mask (m : StateField → Bool) (s : State) (t : Nat) (o : Op) (h_regs : m .regs = true) (h_kpr : m .kpr = true) (h_lanes : m .lanes = true) (h_links : m .links = true) (h_csw : m .csw = true) (h_mem : m .mem = true) (h_sec : m .sec = true) (h_xfr : m .xfr = true) (h_prm : m .prm = true) (h_script : m .script = true) (h_memory : m .memory = true) (h_free : m .free = true) :
    State.mask m (State.startOp s t o) = State.mask m s := by
  unfold State.startOp
  simp [*]

@[simp] theorem State.runForward_mask (m : StateField → Bool) (s : State) (c : Cell) (ctx : Option Nat) (h_regs : m .regs = true) (h_kpr : m .kpr = true) (h_lanes : m .lanes = true) (h_links : m .links = true) (h_csw : m .csw = true) (h_mem : m .mem = true) (h_sec : m .sec = true) (h_xfr : m .xfr = true) (h_prm : m .prm = true) (h_script : m .script = true) (h_memory : m .memory = true) (h_free : m .free = true) :
    State.mask m (State.runForward s c ctx) = State.mask m s := by
  unfold State.runForward
  repeat' first | (simp [*]; done) | (rw [State.mask_mk] <;> simp [*]; done) | refine (State.mask_foldl m _ (fun t x => ?_) _ _).trans ?_ | refine (State.mask_foldl_fst m _ (fun p x => ?_) _ _).trans ?_ | refine (State.mask_foldl_snd m _ (fun p x => ?_) _ _).trans ?_ | extract_lets | dsimp only | split | simp [*]

@[simp] theorem State.swallow_mask (m : StateField → Bool) (s : State) (c : Cell) (h_regs : m .regs = true) (h_kpr : m .kpr = true) (h_lanes : m .lanes = true) (h_links : m .links = true) (h_csw : m .csw = true) (h_mem : m .mem = true) (h_sec : m .sec = true) (h_xfr : m .xfr = true) (h_memory : m .memory = true) (h_free : m .free = true) :
    State.mask m (State.swallow s c) = State.mask m s := by
  unfold State.swallow
  dsimp only
  split <;> (try split) <;> simp [*]

@[simp] theorem State.runHead_mask (m : StateField → Bool) (s : State) (c : Cell) (ctx : Option Nat) (h_regs : m .regs = true) (h_kpr : m .kpr = true) (h_lanes : m .lanes = true) (h_links : m .links = true) (h_csw : m .csw = true) (h_mem : m .mem = true) (h_sec : m .sec = true) (h_xfr : m .xfr = true) (h_prm : m .prm = true) (h_script : m .script = true) (h_eru : m .eru = true) (h_memory : m .memory = true) (h_free : m .free = true) :
    State.mask m (State.runHead s c ctx) = State.mask m s := by
  unfold State.runHead
  repeat' first | (simp [*]; done) | (rw [State.mask_mk] <;> simp [*]; done) | refine (State.mask_foldl m _ (fun t x => ?_) _ _).trans ?_ | refine (State.mask_foldl_fst m _ (fun p x => ?_) _ _).trans ?_ | refine (State.mask_foldl_snd m _ (fun p x => ?_) _ _).trans ?_ | extract_lets | dsimp only | split | simp [*]

@[simp] theorem State.inTurn_mask (m : StateField → Bool) (s : State) (c : Cell) (h_regs : m .regs = true) (h_kpr : m .kpr = true) (h_lanes : m .lanes = true) (h_links : m .links = true) (h_csw : m .csw = true) (h_mem : m .mem = true) (h_sec : m .sec = true) (h_xfr : m .xfr = true) (h_prm : m .prm = true) (h_script : m .script = true) (h_eru : m .eru = true) (h_memory : m .memory = true) (h_free : m .free = true) :
    State.mask m (State.inTurn s c) = State.mask m s := by
  unfold State.inTurn
  dsimp only
  split <;> simp [*]

@[simp] theorem State.runHeld_mask (m : StateField → Bool) (x1 : Nat) (x2 : State) (h_regs : m .regs = true) (h_kpr : m .kpr = true) (h_lanes : m .lanes = true) (h_links : m .links = true) (h_csw : m .csw = true) (h_mem : m .mem = true) (h_sec : m .sec = true) (h_xfr : m .xfr = true) (h_prm : m .prm = true) (h_script : m .script = true) (h_eru : m .eru = true) (h_memory : m .memory = true) (h_free : m .free = true) :
    State.mask m (State.runHeld x1 x2) = State.mask m x2 := by
  induction x1 generalizing x2 with
  | zero => rw [State.runHeld]
  | succ f ih =>
    rw [State.runHeld]
    split
    · rfl
    · rw [ih]; simp [*]

@[simp] theorem State.endJob_mask (m : StateField → Bool) (s0 : State) (n : Nat) (j : Job) (h_regs : m .regs = true) (h_kpr : m .kpr = true) (h_lanes : m .lanes = true) (h_links : m .links = true) (h_csw : m .csw = true) (h_mem : m .mem = true) (h_sec : m .sec = true) (h_xfr : m .xfr = true) (h_prm : m .prm = true) (h_script : m .script = true) (h_memory : m .memory = true) (h_free : m .free = true) :
    State.mask m (State.endJob s0 n j) = State.mask m s0 := by
  unfold State.endJob
  repeat' first | (simp [*]; done) | (rw [State.mask_mk] <;> simp [*]; done) | refine (State.mask_foldl m _ (fun t x => ?_) _ _).trans ?_ | refine (State.mask_foldl_fst m _ (fun p x => ?_) _ _).trans ?_ | refine (State.mask_foldl_snd m _ (fun p x => ?_) _ _).trans ?_ | split | simp [*]

@[simp] theorem State.endJobs_mask (m : StateField → Bool) (x1 : Nat) (x2 : State) (h_regs : m .regs = true) (h_kpr : m .kpr = true) (h_lanes : m .lanes = true) (h_links : m .links = true) (h_csw : m .csw = true) (h_mem : m .mem = true) (h_sec : m .sec = true) (h_xfr : m .xfr = true) (h_prm : m .prm = true) (h_script : m .script = true) (h_eru : m .eru = true) (h_memory : m .memory = true) (h_free : m .free = true) :
    State.mask m (State.endJobs x1 x2) = State.mask m x2 := by
  induction x1 generalizing x2 with
  | zero => rw [State.endJobs]
  | succ f ih =>
    rw [State.endJobs]
    split
    · rw [ih]; simp [*]
    · simp [*]

@[simp] theorem State.runTurns_mask (m : StateField → Bool) (s : State) (h_regs : m .regs = true) (h_kpr : m .kpr = true) (h_lanes : m .lanes = true) (h_links : m .links = true) (h_csw : m .csw = true) (h_mem : m .mem = true) (h_sec : m .sec = true) (h_xfr : m .xfr = true) (h_prm : m .prm = true) (h_script : m .script = true) (h_eru : m .eru = true) (h_memory : m .memory = true) (h_free : m .free = true) :
    State.mask m (State.runTurns s) = State.mask m s := by
  unfold State.runTurns
  repeat' first | (simp [*]; done) | (rw [State.mask_mk] <;> simp [*]; done) | refine (State.mask_foldl m _ (fun t x => ?_) _ _).trans ?_ | refine (State.mask_foldl_fst m _ (fun p x => ?_) _ _).trans ?_ | refine (State.mask_foldl_snd m _ (fun p x => ?_) _ _).trans ?_ | split | simp [*]

@[simp] theorem State.takeHead_mask (m : StateField → Bool) (s : State) (c : Cell) (chunk : Nat) (run : State → State) (hf : ∀ t, (run t).mask m = t.mask m) (h_regs : m .regs = true) (h_kpr : m .kpr = true) (h_lanes : m .lanes = true) (h_links : m .links = true) (h_csw : m .csw = true) (h_mem : m .mem = true) (h_sec : m .sec = true) (h_xfr : m .xfr = true) (h_prm : m .prm = true) (h_script : m .script = true) (h_eru : m .eru = true) (h_memory : m .memory = true) (h_free : m .free = true) :
    State.mask m (State.takeHead s c chunk run) = State.mask m s := by
  unfold State.takeHead
  repeat' first | (simp [*]; done) | (rw [State.mask_mk] <;> simp [*]; done) | refine (State.mask_foldl m _ (fun t x => ?_) _ _).trans ?_ | refine (State.mask_foldl_fst m _ (fun p x => ?_) _ _).trans ?_ | refine (State.mask_foldl_snd m _ (fun p x => ?_) _ _).trans ?_ | split | simp [*]

@[simp] theorem execLoadReqRx_mask (m : StateField → Bool) (c : Cell) (s : State) (h_regs : m .regs = true) (h_kpr : m .kpr = true) (h_lanes : m .lanes = true) (h_links : m .links = true) (h_csw : m .csw = true) (h_mem : m .mem = true) (h_sec : m .sec = true) (h_xfr : m .xfr = true) (h_prm : m .prm = true) (h_script : m .script = true) (h_eru : m .eru = true) (h_memory : m .memory = true) (h_free : m .free = true) :
    State.Keeps m s (execLoadReqRx c s) := by
  unfold execLoadReqRx
  simp [*]

@[simp] theorem execStoreDataRx_mask (m : StateField → Bool) (c : Cell) (s : State) (h_regs : m .regs = true) (h_kpr : m .kpr = true) (h_lanes : m .lanes = true) (h_links : m .links = true) (h_csw : m .csw = true) (h_mem : m .mem = true) (h_sec : m .sec = true) (h_xfr : m .xfr = true) (h_prm : m .prm = true) (h_script : m .script = true) (h_eru : m .eru = true) (h_memory : m .memory = true) (h_free : m .free = true) :
    State.Keeps m s (execStoreDataRx c s) := by
  unfold execStoreDataRx
  simp [*]

@[simp] theorem execAtomicReqRx_mask (m : StateField → Bool) (c : Cell) (s : State) (h_regs : m .regs = true) (h_kpr : m .kpr = true) (h_lanes : m .lanes = true) (h_links : m .links = true) (h_csw : m .csw = true) (h_mem : m .mem = true) (h_sec : m .sec = true) (h_xfr : m .xfr = true) (h_prm : m .prm = true) (h_script : m .script = true) (h_eru : m .eru = true) (h_memory : m .memory = true) (h_free : m .free = true) :
    State.Keeps m s (execAtomicReqRx c s) := by
  unfold execAtomicReqRx
  simp [*]

@[simp] theorem execCopyFwdRx_mask (m : StateField → Bool) (c : Cell) (s : State) (h_regs : m .regs = true) (h_kpr : m .kpr = true) (h_lanes : m .lanes = true) (h_links : m .links = true) (h_csw : m .csw = true) (h_mem : m .mem = true) (h_sec : m .sec = true) (h_xfr : m .xfr = true) (h_prm : m .prm = true) (h_script : m .script = true) (h_eru : m .eru = true) (h_memory : m .memory = true) (h_free : m .free = true) :
    State.Keeps m s (execCopyFwdRx c s) := by
  unfold execCopyFwdRx
  simp [*]

@[simp] theorem execFillReqRx_mask (m : StateField → Bool) (c : Cell) (s : State) (h_regs : m .regs = true) (h_kpr : m .kpr = true) (h_lanes : m .lanes = true) (h_links : m .links = true) (h_csw : m .csw = true) (h_mem : m .mem = true) (h_sec : m .sec = true) (h_xfr : m .xfr = true) (h_prm : m .prm = true) (h_script : m .script = true) (h_eru : m .eru = true) (h_memory : m .memory = true) (h_free : m .free = true) :
    State.Keeps m s (execFillReqRx c s) := by
  unfold execFillReqRx
  simp [*]

@[simp] theorem State.land_mask (m : StateField → Bool) (s : State) (c : Cell) (slot : Nat) (h_regs : m .regs = true) (h_xfr : m .xfr = true) :
    State.mask m (State.land s c slot) = State.mask m s := by
  unfold State.land
  simp [*]

@[simp] theorem execBulkDataRx_mask (m : StateField → Bool) (c : Cell) (s : State) (h_regs : m .regs = true) (h_kpr : m .kpr = true) (h_lanes : m .lanes = true) (h_links : m .links = true) (h_csw : m .csw = true) (h_mem : m .mem = true) (h_sec : m .sec = true) (h_xfr : m .xfr = true) (h_prm : m .prm = true) (h_script : m .script = true) (h_eru : m .eru = true) (h_memory : m .memory = true) (h_free : m .free = true) :
    State.Keeps m s (execBulkDataRx c s) := by
  unfold execBulkDataRx
  repeat' first | (simp [*]; done) | (rw [State.mask_mk] <;> simp [*]; done) | refine (State.mask_foldl m _ (fun t x => ?_) _ _).trans ?_ | refine (State.mask_foldl_fst m _ (fun p x => ?_) _ _).trans ?_ | refine (State.mask_foldl_snd m _ (fun p x => ?_) _ _).trans ?_ | split | simp [*]

@[simp] theorem State.closeHere_mask (m : StateField → Bool) (s : State) (src : Nat) (tag : Nat) (orig : Nat) (h_xfr : m .xfr = true) :
    State.mask m (State.closeHere s src tag orig) = State.mask m s := by
  unfold State.closeHere
  extract_lets
  repeat' first | (simp [*]; done) | (rw [State.mask_mk] <;> simp [*]; done) | refine (State.mask_foldl m _ (fun t x => ?_) _ _).trans ?_ | refine (State.mask_foldl_fst m _ (fun p x => ?_) _ _).trans ?_ | refine (State.mask_foldl_snd m _ (fun p x => ?_) _ _).trans ?_ | rfl | (intro _) | (split <;> try dsimp only) | simp [*]

@[simp] theorem State.respondOutcome_mask (m : StateField → Bool) (s : State) (c : Cell) (outcome : Nat) (value : Nat) (h_csw : m .csw = true) :
    State.mask m (State.respondOutcome s c outcome value) = State.mask m s := by
  unfold State.respondOutcome
  simp [*]

@[simp] theorem execOutcomeReqRx_mask (m : StateField → Bool) (c : Cell) (s : State) (h_regs : m .regs = true) (h_kpr : m .kpr = true) (h_lanes : m .lanes = true) (h_links : m .links = true) (h_csw : m .csw = true) (h_mem : m .mem = true) (h_sec : m .sec = true) (h_xfr : m .xfr = true) (h_prm : m .prm = true) (h_script : m .script = true) (h_eru : m .eru = true) (h_memory : m .memory = true) (h_free : m .free = true) :
    State.Keeps m s (execOutcomeReqRx c s) := by
  unfold execOutcomeReqRx
  simp [*]

@[simp] theorem execAbortReqRx_mask (m : StateField → Bool) (c : Cell) (s : State) (h_regs : m .regs = true) (h_kpr : m .kpr = true) (h_lanes : m .lanes = true) (h_links : m .links = true) (h_csw : m .csw = true) (h_mem : m .mem = true) (h_sec : m .sec = true) (h_xfr : m .xfr = true) (h_prm : m .prm = true) (h_script : m .script = true) (h_eru : m .eru = true) (h_memory : m .memory = true) (h_free : m .free = true) :
    State.Keeps m s (execAbortReqRx c s) := by
  unfold execAbortReqRx
  repeat' first | (simp [*]; done) | (rw [State.mask_mk] <;> simp [*]; done) | refine (State.mask_foldl m _ (fun t x => ?_) _ _).trans ?_ | refine (State.mask_foldl_fst m _ (fun p x => ?_) _ _).trans ?_ | refine (State.mask_foldl_snd m _ (fun p x => ?_) _ _).trans ?_ | split | simp [*]

@[simp] theorem execCueAddRx_mask (m : StateField → Bool) (c : Cell) (s : State) (h_regs : m .regs = true) (h_kpr : m .kpr = true) (h_lanes : m .lanes = true) (h_links : m .links = true) (h_csw : m .csw = true) (h_mem : m .mem = true) (h_sec : m .sec = true) (h_xfr : m .xfr = true) (h_prm : m .prm = true) (h_script : m .script = true) (h_eru : m .eru = true) (h_memory : m .memory = true) (h_free : m .free = true) :
    State.Keeps m s (execCueAddRx c s) := by
  unfold execCueAddRx
  split
  · rfl
  split
  · trivial
  rw [State.keeps_next]
  refine State.takeHead_mask m _ _ _ _ (fun t => ?_) h_regs h_kpr h_lanes h_links h_csw h_mem h_sec h_xfr h_prm h_script h_eru h_memory h_free
  dsimp only
  split
  · simp [*]
  · split
    · simp [*]
    · split <;> simp [*]

@[simp] theorem execChannelResponse_mask (m : StateField → Bool) (p : Port) (id : Byte) (wr0 : Bool) (stat : BitVec 2) (data : Line) (code : BitVec 16) (poison : Bool) (s : State) (h_regs : m .regs = true) (h_kpr : m .kpr = true) (h_lanes : m .lanes = true) (h_links : m .links = true) (h_csw : m .csw = true) (h_mem : m .mem = true) (h_sec : m .sec = true) (h_xfr : m .xfr = true) (h_prm : m .prm = true) (h_script : m .script = true) (h_eru : m .eru = true) (h_hostRead : m .hostRead = true) (h_memory : m .memory = true) (h_free : m .free = true) :
    State.Keeps m s (execChannelResponse p id wr0 stat data code poison s) := by
  unfold execChannelResponse
  repeat' first | (simp [*]; done) | (rw [State.mask_mk] <;> simp [*]; done) | refine (State.mask_foldl m _ (fun t x => ?_) _ _).trans ?_ | refine (State.mask_foldl_fst m _ (fun p x => ?_) _ _).trans ?_ | refine (State.mask_foldl_snd m _ (fun p x => ?_) _ _).trans ?_ | split | simp [*]

@[simp] theorem execChanHold_mask (m : StateField → Bool) (p : Port) (s : State) (h_regs : m .regs = true) (h_kpr : m .kpr = true) (h_lanes : m .lanes = true) (h_links : m .links = true) (h_csw : m .csw = true) (h_mem : m .mem = true) (h_sec : m .sec = true) (h_xfr : m .xfr = true) (h_prm : m .prm = true) (h_script : m .script = true) (h_eru : m .eru = true) (h_memory : m .memory = true) (h_free : m .free = true) :
    State.Keeps m s (execChanHold p s) := by
  unfold execChanHold
  simp [*]

@[simp] theorem execRspTimeout_mask (m : StateField → Bool) (p : Port) (s : State) (h_regs : m .regs = true) (h_kpr : m .kpr = true) (h_lanes : m .lanes = true) (h_links : m .links = true) (h_csw : m .csw = true) (h_mem : m .mem = true) (h_sec : m .sec = true) (h_xfr : m .xfr = true) (h_prm : m .prm = true) (h_script : m .script = true) (h_eru : m .eru = true) (h_memory : m .memory = true) (h_free : m .free = true) :
    State.Keeps m s (execRspTimeout p s) := by
  unfold execRspTimeout
  simp [*]

@[simp] theorem execCompletionChunkRx_mask (m : StateField → Bool) (c : Cell) (s : State) (h_regs : m .regs = true) (h_kpr : m .kpr = true) (h_lanes : m .lanes = true) (h_links : m .links = true) (h_csw : m .csw = true) (h_mem : m .mem = true) (h_sec : m .sec = true) (h_xfr : m .xfr = true) (h_prm : m .prm = true) (h_script : m .script = true) (h_eru : m .eru = true) (h_memory : m .memory = true) (h_free : m .free = true) :
    State.Keeps m s (execCompletionChunkRx c s) := by
  unfold execCompletionChunkRx
  simp [*]

@[simp] theorem execOperationTimeout_mask (m : StateField → Bool) (tag : Fin 16384) (s : State) (h_regs : m .regs = true) (h_kpr : m .kpr = true) (h_lanes : m .lanes = true) (h_links : m .links = true) (h_csw : m .csw = true) (h_mem : m .mem = true) (h_sec : m .sec = true) (h_xfr : m .xfr = true) (h_prm : m .prm = true) (h_script : m .script = true) (h_eru : m .eru = true) (h_memory : m .memory = true) (h_free : m .free = true) :
    State.Keeps m s (execOperationTimeout tag s) := by
  unfold execOperationTimeout
  simp [*]

@[simp] theorem execExecutedTagRecordExpire_mask (m : StateField → Bool) (s : State) (h_xfr : m .xfr = true) :
    State.Keeps m s (execExecutedTagRecordExpire s) := by
  unfold execExecutedTagRecordExpire
  simp [*]

@[simp] theorem execOutcomeClosureExpire_mask (m : StateField → Bool) (s : State) (h_xfr : m .xfr = true) :
    State.Keeps m s (execOutcomeClosureExpire s) := by
  unfold execOutcomeClosureExpire
  simp [*]

@[simp] theorem execOrderingContextRelease_mask (m : StateField → Bool) (k : Fin 4096) (s : State) (h_xfr : m .xfr = true) :
    State.Keeps m s (execOrderingContextRelease k s) := by
  unfold execOrderingContextRelease
  split <;> (try split) <;> simp [*]

end Sys2Proof.Machine
end

