-- ==== Sys2Proof/Laws/Frame/CollectiveRx.lean ====
section
/-! SUPPORT. What each function of Machine/CollectiveRx.lean leaves alone. -/

namespace Sys2Proof.Machine

@[simp] theorem State.closePeer_mask (m : StateField → Bool) (s : State) (k : Nat) (c : Ctx) (ep : Nat) (h_regs : m .regs = true) (h_kpr : m .kpr = true) (h_lanes : m .lanes = true) (h_links : m .links = true) (h_csw : m .csw = true) (h_sec : m .sec = true) (h_script : m .script = true) (h_col : m .col = true) (h_free : m .free = true) :
    State.mask m (State.closePeer s k c ep) = State.mask m s := by
  unfold State.closePeer
  split <;> simp [*]

@[simp] theorem State.grantPartials_mask (m : StateField → Bool) (s : State) (k : Nat) (c : Ctx) (g : Grant) (h_col : m .col = true) :
    State.mask m (State.grantPartials s k c g) = State.mask m s := by
  unfold State.grantPartials
  exact State.mask_foldl m _ (fun t x => by simp [*]) _ _

@[simp] theorem State.grantSource_mask (m : StateField → Bool) (s : State) (k : Nat) (g : Grant) (h_col : m .col = true) :
    State.mask m (State.grantSource s k g) = State.mask m s := by
  unfold State.grantSource
  exact State.mask_foldl m _ (fun t x => by simp [*]) _ _

@[simp] theorem State.grantRoot_mask (m : StateField → Bool) (s : State) (k : Nat) (c : Ctx) (g : Grant) (h_regs : m .regs = true) (h_kpr : m .kpr = true) (h_lanes : m .lanes = true) (h_links : m .links = true) (h_csw : m .csw = true) (h_mem : m .mem = true) (h_sec : m .sec = true) (h_xfr : m .xfr = true) (h_col : m .col = true) (h_free : m .free = true) :
    State.mask m (State.grantRoot s k c g) = State.mask m s := by
  unfold State.grantRoot
  repeat' first | (simp [*]; done) | (rw [State.mask_mk] <;> simp [*]; done) | refine (State.mask_foldl m _ (fun t x => ?_) _ _).trans ?_ | refine (State.mask_foldl_fst m _ (fun p x => ?_) _ _).trans ?_ | refine (State.mask_foldl_snd m _ (fun p x => ?_) _ _).trans ?_ | split | simp [*]

@[simp] theorem State.takeGrant_mask (m : StateField → Bool) (s : State) (part : Nat) (group : Nat) (inst : Nat) (g : Grant) (h_regs : m .regs = true) (h_kpr : m .kpr = true) (h_lanes : m .lanes = true) (h_links : m .links = true) (h_csw : m .csw = true) (h_mem : m .mem = true) (h_sec : m .sec = true) (h_xfr : m .xfr = true) (h_script : m .script = true) (h_col : m .col = true) (h_free : m .free = true) :
    State.mask m (State.takeGrant s part group inst g) = State.mask m s := by
  unfold State.takeGrant
  repeat' first | (simp [*]; done) | (rw [State.mask_mk] <;> simp [*]; done) | refine (State.mask_foldl m _ (fun t x => ?_) _ _).trans ?_ | refine (State.mask_foldl_fst m _ (fun p x => ?_) _ _).trans ?_ | refine (State.mask_foldl_snd m _ (fun p x => ?_) _ _).trans ?_ | split | simp [*]

@[simp] theorem State.takeDone_mask (m : StateField → Bool) (s : State) (part : Nat) (group : Nat) (inst : Nat) (g : Grant) (h_regs : m .regs = true) (h_col : m .col = true) :
    State.mask m (State.takeDone s part group inst g) = State.mask m s := by
  unfold State.takeDone
  split <;> simp [*]

@[simp] theorem execGrantRx_mask (m : StateField → Bool) (c : Cell) (s : State) (h_regs : m .regs = true) (h_kpr : m .kpr = true) (h_clk : m .clk = true) (h_lanes : m .lanes = true) (h_links : m .links = true) (h_csw : m .csw = true) (h_mem : m .mem = true) (h_sec : m .sec = true) (h_xfr : m .xfr = true) (h_prm : m .prm = true) (h_script : m .script = true) (h_eru : m .eru = true) (h_col : m .col = true) (h_upd : m .upd = true) (h_memory : m .memory = true) (h_free : m .free = true) :
    State.Keeps m s (execGrantRx c s) := by
  unfold execGrantRx
  simp [*]

@[simp] theorem execDoneRx_mask (m : StateField → Bool) (c : Cell) (s : State) (h_regs : m .regs = true) (h_kpr : m .kpr = true) (h_clk : m .clk = true) (h_lanes : m .lanes = true) (h_links : m .links = true) (h_csw : m .csw = true) (h_mem : m .mem = true) (h_sec : m .sec = true) (h_xfr : m .xfr = true) (h_prm : m .prm = true) (h_script : m .script = true) (h_eru : m .eru = true) (h_col : m .col = true) (h_upd : m .upd = true) (h_memory : m .memory = true) (h_free : m .free = true) :
    State.Keeps m s (execDoneRx c s) := by
  unfold execDoneRx
  simp [*]

@[simp] theorem State.colNotice_mask (m : StateField → Bool) (s : State) (c : Cell) (h_regs : m .regs = true) (h_kpr : m .kpr = true) (h_lanes : m .lanes = true) (h_links : m .links = true) (h_csw : m .csw = true) (h_sec : m .sec = true) (h_script : m .script = true) (h_col : m .col = true) (h_free : m .free = true) :
    State.mask m (State.colNotice s c) = State.mask m s := by
  unfold State.colNotice
  dsimp only
  split <;> (try split) <;> simp [*]

@[simp] theorem execNoticeRx_mask (m : StateField → Bool) (c : Cell) (s : State) (h_regs : m .regs = true) (h_kpr : m .kpr = true) (h_clk : m .clk = true) (h_lanes : m .lanes = true) (h_links : m .links = true) (h_csw : m .csw = true) (h_mem : m .mem = true) (h_sec : m .sec = true) (h_xfr : m .xfr = true) (h_prm : m .prm = true) (h_script : m .script = true) (h_eru : m .eru = true) (h_col : m .col = true) (h_upd : m .upd = true) (h_memory : m .memory = true) (h_free : m .free = true) :
    State.Keeps m s (execNoticeRx c s) := by
  unfold execNoticeRx
  simp [*]

end Sys2Proof.Machine
end

