-- ==== Sys2Proof/Laws/Frame/Cq.lean ====
section
/-! SUPPORT. What each function of Machine/Cq.lean leaves alone. -/

namespace Sys2Proof.Machine

@[simp] theorem State.cqBaseWrite_mask (m : StateField → Bool) (s : State) (a : Nat) (q : Nat) (high : Bool) (value : Word) (h_regs : m .regs = true) (h_kpr : m .kpr = true) :
    State.mask m (State.cqBaseWrite s a q high value) = State.mask m s := by
  unfold State.cqBaseWrite
  simp [*]

@[simp] theorem State.cqCfgWrite_mask (m : StateField → Bool) (s : State) (a : Nat) (q : Nat) (value : Word) (h_regs : m .regs = true) (h_kpr : m .kpr = true) (h_lanes : m .lanes = true) (h_links : m .links = true) (h_csw : m .csw = true) (h_sec : m .sec = true) (h_xfr : m .xfr = true) (h_script : m .script = true) (h_free : m .free = true) :
    State.mask m (State.cqCfgWrite s a q value) = State.mask m s := by
  unfold State.cqCfgWrite
  extract_lets off on want log inRange
  split
  · simp [*]
  split
  · simp [*]
  split
  · rfl
  refine State.lastWins_mask m _ _ _ _ (fun r => ?_) h_kpr
  refine State.unlessHeld_mask m _ _ _ _ _ (fun t => ?_) h_script
  dsimp only
  split <;> simp [*]

@[simp] theorem State.cqHeadSet_mask (m : StateField → Bool) (s : State) (a : Nat) (q : Nat) (value : Word) (h_regs : m .regs = true) (h_kpr : m .kpr = true) (h_mem : m .mem = true) (h_xfr : m .xfr = true) (h_memory : m .memory = true) :
    State.mask m (State.cqHeadSet s a q value) = State.mask m s := by
  unfold State.cqHeadSet
  simp [*]

@[simp] theorem execCqHeadWrite_mask (m : StateField → Bool) (a : Source) (q : Fin 256) (value : Word) (s : State) (h_regs : m .regs = true) (h_kpr : m .kpr = true) (h_mem : m .mem = true) (h_xfr : m .xfr = true) (h_memory : m .memory = true) :
    State.Keeps m s (execCqHeadWrite a q value s) := by
  unfold execCqHeadWrite
  simp [*]

@[simp] theorem execCqEnable_mask (m : StateField → Bool) (a : Source) (q : Fin 256) (value : Word) (s : State) (h_regs : m .regs = true) (h_kpr : m .kpr = true) (h_lanes : m .lanes = true) (h_links : m .links = true) (h_csw : m .csw = true) (h_sec : m .sec = true) (h_xfr : m .xfr = true) (h_script : m .script = true) (h_free : m .free = true) :
    State.Keeps m s (execCqEnable a q value s) := by
  unfold execCqEnable
  simp [*]

@[simp] theorem execCqDisable_mask (m : StateField → Bool) (a : Source) (q : Fin 256) (value : Word) (s : State) (h_regs : m .regs = true) (h_kpr : m .kpr = true) (h_lanes : m .lanes = true) (h_links : m .links = true) (h_csw : m .csw = true) (h_sec : m .sec = true) (h_xfr : m .xfr = true) (h_script : m .script = true) (h_free : m .free = true) :
    State.Keeps m s (execCqDisable a q value s) := by
  unfold execCqDisable
  simp [*]

end Sys2Proof.Machine
end

