-- ==== Sys2Proof/Laws/Frame/Holdup.lean ====
section
/-! SUPPORT. What each function of Machine/Holdup.lean leaves alone. -/

namespace Sys2Proof.Machine

@[simp] theorem State.showNeed_mask (m : StateField → Bool) (s : State) (last : Nat) (h_regs : m .regs = true) :
    State.mask m (State.showNeed s last) = State.mask m s := by
  unfold State.showNeed
  simp [*]

@[simp] theorem State.holdupLow_mask (m : StateField → Bool) (s : State) (last : Nat) (h_regs : m .regs = true) (h_kpr : m .kpr = true) (h_lanes : m .lanes = true) (h_links : m .links = true) (h_csw : m .csw = true) (h_sec : m .sec = true) (h_free : m .free = true) :
    State.mask m (State.holdupLow s last) = State.mask m s := by
  unfold State.holdupLow
  simp [*]

@[simp] theorem State.dropCommit_mask (m : StateField → Bool) (s : State) (c : Commit) (h_commits : m .commits = true) :
    State.mask m (State.dropCommit s c) = State.mask m s := by
  unfold State.dropCommit
  rw [State.mask_mk] <;> simp [*]

@[simp] theorem State.failCommit_mask (m : StateField → Bool) (s : State) (c : Commit) (a : Answer) (h_regs : m .regs = true) (h_kpr : m .kpr = true) (h_lanes : m .lanes = true) (h_links : m .links = true) (h_csw : m .csw = true) (h_mem : m .mem = true) (h_sec : m .sec = true) (h_xfr : m .xfr = true) (h_prm : m .prm = true) (h_script : m .script = true) (h_commits : m .commits = true) (h_memory : m .memory = true) (h_free : m .free = true) :
    State.mask m (State.failCommit s c a) = State.mask m s := by
  unfold State.failCommit
  simp [*]

@[simp] theorem State.dropVerify_mask (m : StateField → Bool) (s : State) (c : Verify) (a : Answer) (h_regs : m .regs = true) (h_kpr : m .kpr = true) (h_lanes : m .lanes = true) (h_links : m .links = true) (h_csw : m .csw = true) (h_mem : m .mem = true) (h_sec : m .sec = true) (h_xfr : m .xfr = true) (h_prm : m .prm = true) (h_script : m .script = true) (h_verifies : m .verifies = true) (h_memory : m .memory = true) (h_free : m .free = true) :
    State.mask m (State.dropVerify s c a) = State.mask m s := by
  unfold State.dropVerify
  repeat' first | (simp [*]; done) | (rw [State.mask_mk] <;> simp [*]; done) | refine (State.mask_foldl m _ (fun t x => ?_) _ _).trans ?_ | refine (State.mask_foldl_fst m _ (fun p x => ?_) _ _).trans ?_ | refine (State.mask_foldl_snd m _ (fun p x => ?_) _ _).trans ?_ | split | simp [*]

@[simp] theorem State.submitCommit_mask (m : StateField → Bool) (s : State) (i : Issue) (h_regs : m .regs = true) (h_kpr : m .kpr = true) (h_lanes : m .lanes = true) (h_links : m .links = true) (h_csw : m .csw = true) (h_mem : m .mem = true) (h_sec : m .sec = true) (h_xfr : m .xfr = true) (h_prm : m .prm = true) (h_script : m .script = true) (h_commits : m .commits = true) (h_memory : m .memory = true) (h_free : m .free = true) :
    State.mask m (State.submitCommit s i) = State.mask m s := by
  unfold State.submitCommit
  repeat' first | (simp [*]; done) | (rw [State.mask_mk] <;> simp [*]; done) | refine (State.mask_foldl m _ (fun t x => ?_) _ _).trans ?_ | refine (State.mask_foldl_fst m _ (fun p x => ?_) _ _).trans ?_ | refine (State.mask_foldl_snd m _ (fun p x => ?_) _ _).trans ?_ | split | simp [*]

@[simp] theorem execCommitSlotWrite_mask (m : StateField → Bool) (s : State) (h_regs : m .regs = true) (h_kpr : m .kpr = true) (h_lanes : m .lanes = true) (h_links : m .links = true) (h_csw : m .csw = true) (h_mem : m .mem = true) (h_sec : m .sec = true) (h_xfr : m .xfr = true) (h_prm : m .prm = true) (h_script : m .script = true) (h_commits : m .commits = true) (h_memory : m .memory = true) (h_free : m .free = true) :
    State.Keeps m s (execCommitSlotWrite s) := by
  unfold execCommitSlotWrite
  repeat' first | (simp [*]; done) | (rw [State.mask_mk] <;> simp [*]; done) | refine (State.mask_foldl m _ (fun t x => ?_) _ _).trans ?_ | refine (State.mask_foldl_fst m _ (fun p x => ?_) _ _).trans ?_ | refine (State.mask_foldl_snd m _ (fun p x => ?_) _ _).trans ?_ | split | simp [*]

@[simp] theorem State.endCommit_mask (m : StateField → Bool) (s : State) (c : Commit) (h_regs : m .regs = true) (h_kpr : m .kpr = true) (h_lanes : m .lanes = true) (h_links : m .links = true) (h_csw : m .csw = true) (h_mem : m .mem = true) (h_sec : m .sec = true) (h_xfr : m .xfr = true) (h_prm : m .prm = true) (h_script : m .script = true) (h_commits : m .commits = true) (h_memory : m .memory = true) (h_free : m .free = true) :
    State.mask m (State.endCommit s c) = State.mask m s := by
  unfold State.endCommit
  repeat' first | (simp [*]; done) | (rw [State.mask_mk] <;> simp [*]; done) | refine (State.mask_foldl m _ (fun t x => ?_) _ _).trans ?_ | refine (State.mask_foldl_fst m _ (fun p x => ?_) _ _).trans ?_ | refine (State.mask_foldl_snd m _ (fun p x => ?_) _ _).trans ?_ | split | simp [*]

@[simp] theorem State.endCommits_mask (m : StateField → Bool) (s : State) (h_regs : m .regs = true) (h_kpr : m .kpr = true) (h_lanes : m .lanes = true) (h_links : m .links = true) (h_csw : m .csw = true) (h_mem : m .mem = true) (h_sec : m .sec = true) (h_xfr : m .xfr = true) (h_prm : m .prm = true) (h_script : m .script = true) (h_commits : m .commits = true) (h_memory : m .memory = true) (h_free : m .free = true) :
    State.mask m (State.endCommits s) = State.mask m s := by
  unfold State.endCommits
  repeat' first | (simp [*]; done) | (rw [State.mask_mk] <;> simp [*]; done) | refine (State.mask_foldl m _ (fun t x => ?_) _ _).trans ?_ | refine (State.mask_foldl_fst m _ (fun p x => ?_) _ _).trans ?_ | refine (State.mask_foldl_snd m _ (fun p x => ?_) _ _).trans ?_ | split | simp [*]

end Sys2Proof.Machine
end

