-- ==== Sys2Proof/Laws/Frame/Intermission.lean ====
section
/-! SUPPORT. What each function of Machine/Intermission.lean leaves alone. -/

namespace Sys2Proof.Machine

@[simp] theorem State.setIntm_mask (m : StateField → Bool) (s : State) (x : Intm) (h_intm : m .intm = true) :
    State.mask m (State.setIntm s x) = State.mask m s := by
  unfold State.setIntm
  rw [State.mask_mk] <;> simp [*]

@[simp] theorem State.ctxLoseNode_mask (m : StateField → Bool) (s : State) (k : Nat) (n : Nat) (h_regs : m .regs = true) (h_kpr : m .kpr = true) (h_lanes : m .lanes = true) (h_links : m .links = true) (h_csw : m .csw = true) (h_sec : m .sec = true) (h_script : m .script = true) (h_col : m .col = true) (h_free : m .free = true) :
    State.mask m (State.ctxLoseNode s k n) = State.mask m s := by
  unfold State.ctxLoseNode
  split <;> simp [*]

@[simp] theorem State.ctxsLoseNode_mask (m : StateField → Bool) (s : State) (n : Nat) (h_regs : m .regs = true) (h_kpr : m .kpr = true) (h_clk : m .clk = true) (h_lanes : m .lanes = true) (h_links : m .links = true) (h_csw : m .csw = true) (h_mem : m .mem = true) (h_sec : m .sec = true) (h_xfr : m .xfr = true) (h_prm : m .prm = true) (h_script : m .script = true) (h_eru : m .eru = true) (h_col : m .col = true) (h_upd : m .upd = true) (h_intm : m .intm = true) (h_memory : m .memory = true) (h_free : m .free = true) :
    State.mask m (State.ctxsLoseNode s n) = State.mask m s := by
  unfold State.ctxsLoseNode
  repeat' first | (simp [*]; done) | (rw [State.mask_mk] <;> simp [*]; done) | refine (State.mask_foldl m _ (fun t x => ?_) _ _).trans ?_ | refine (State.mask_foldl_fst m _ (fun p x => ?_) _ _).trans ?_ | refine (State.mask_foldl_snd m _ (fun p x => ?_) _ _).trans ?_ | split | simp [*]

@[simp] theorem State.freeBytes_mask (m : StateField → Bool) (s : State) (n : Nat) (h_free : m .free = true) :
    State.mask m (State.freeBytes s n).2 = State.mask m s := by
  unfold State.freeBytes
  simp [*]

@[simp] theorem State.freeBlocks_mask (m : StateField → Bool) (n : Nat) (x1 : List (List Byte)) (x2 : State) (h_free : m .free = true) :
    State.mask m (State.freeBlocks n x1 x2).2 = State.mask m x2 := by
  induction x1 generalizing x2 with
  | nil => rw [State.freeBlocks]
  | cons b t ih => rw [State.freeBlocks]; dsimp only; rw [ih]; simp [*]

@[simp] theorem State.ctxRecord_mask (m : StateField → Bool) (s : State) (c : Ctx) (h_free : m .free = true) :
    State.mask m (State.ctxRecord s c).2 = State.mask m s := by
  unfold State.ctxRecord
  repeat' first | (simp [*]; done) | (rw [State.mask_mk] <;> simp [*]; done) | refine (State.mask_foldl m _ (fun t x => ?_) _ _).trans ?_ | refine (State.mask_foldl_fst m _ (fun p x => ?_) _ _).trans ?_ | refine (State.mask_foldl_snd m _ (fun p x => ?_) _ _).trans ?_ | split | simp [*]

@[simp] theorem State.descRecord_mask (m : StateField → Bool) (s : State) (typ : Nat) (i : Issue) (h_free : m .free = true) :
    State.mask m (State.descRecord s typ i).2 = State.mask m s := by
  unfold State.descRecord
  simp [*]

@[simp] theorem State.groupRecords_mask (m : StateField → Bool) (typ : Nat) (ds : List Line) (x1 : List Nat) (x2 : State) (h_free : m .free = true) :
    State.mask m (State.groupRecords typ ds x1 x2).2 = State.mask m x2 := by
  induction x1 generalizing x2 with
  | nil => rw [State.groupRecords]
  | cons b t ih => rw [State.groupRecords]; dsimp only; rw [ih]; simp [*]

@[simp] theorem recordsFrom_mask (m : StateField → Bool) {α : Type} (f : State → α → ImgRec × State) (x1 : List α) (x2 : State) (hf : ∀ t y, State.mask m (f t y).2 = State.mask m t) :
    State.mask m (recordsFrom f x1 x2).2 = State.mask m x2 := by
  induction x1 generalizing x2 with
  | nil => rw [recordsFrom]
  | cons a t ih => rw [recordsFrom]; dsimp only; rw [ih, hf]

@[simp] theorem State.updateRecord_mask (m : StateField → Bool) (s : State) (u : Update) (h_free : m .free = true) :
    State.mask m (State.updateRecord s u).2 = State.mask m s := by
  unfold State.updateRecord
  repeat' first | (simp [*]; done) | (rw [State.mask_mk] <;> simp [*]; done) | refine (State.mask_foldl m _ (fun t x => ?_) _ _).trans ?_ | refine (State.mask_foldl_fst m _ (fun p x => ?_) _ _).trans ?_ | refine (State.mask_foldl_snd m _ (fun p x => ?_) _ _).trans ?_ | split | simp [*]

@[simp] theorem State.imageRecords_mask (m : StateField → Bool) (s : State) (h_free : m .free = true) :
    State.mask m (State.imageRecords s).2 = State.mask m s := by
  unfold State.imageRecords
  simp [*]

@[simp] theorem State.endIntm_mask (m : StateField → Bool) (s : State) (c : Comp) (h_regs : m .regs = true) (h_kpr : m .kpr = true) (h_lanes : m .lanes = true) (h_links : m .links = true) (h_csw : m .csw = true) (h_mem : m .mem = true) (h_sec : m .sec = true) (h_xfr : m .xfr = true) (h_prm : m .prm = true) (h_script : m .script = true) (h_intm : m .intm = true) (h_memory : m .memory = true) (h_free : m .free = true) :
    State.mask m (State.endIntm s c) = State.mask m s := by
  unfold State.endIntm
  split <;> simp [*]

@[simp] theorem State.enterSave_mask (m : StateField → Bool) (s : State) (i : Issue) (h_regs : m .regs = true) (h_kpr : m .kpr = true) (h_lanes : m .lanes = true) (h_links : m .links = true) (h_csw : m .csw = true) (h_mem : m .mem = true) (h_sec : m .sec = true) (h_xfr : m .xfr = true) (h_prm : m .prm = true) (h_script : m .script = true) (h_intm : m .intm = true) (h_memory : m .memory = true) (h_free : m .free = true) :
    State.mask m (State.enterSave s i) = State.mask m s := by
  unfold State.enterSave
  simp [*]

@[simp] theorem State.submitIntermission_mask (m : StateField → Bool) (s : State) (i : Issue) (stamp : Nat) (h_regs : m .regs = true) (h_kpr : m .kpr = true) (h_lanes : m .lanes = true) (h_links : m .links = true) (h_csw : m .csw = true) (h_mem : m .mem = true) (h_sec : m .sec = true) (h_xfr : m .xfr = true) (h_prm : m .prm = true) (h_script : m .script = true) (h_intm : m .intm = true) (h_memory : m .memory = true) (h_free : m .free = true) :
    State.mask m (State.submitIntermission s i stamp) = State.mask m s := by
  unfold State.submitIntermission
  dsimp only
  split <;> simp [*]

@[simp] theorem State.cancelIntm_mask (m : StateField → Bool) (s : State) (h_regs : m .regs = true) (h_kpr : m .kpr = true) (h_lanes : m .lanes = true) (h_links : m .links = true) (h_csw : m .csw = true) (h_mem : m .mem = true) (h_sec : m .sec = true) (h_xfr : m .xfr = true) (h_prm : m .prm = true) (h_script : m .script = true) (h_intm : m .intm = true) (h_memory : m .memory = true) (h_free : m .free = true) :
    State.mask m (State.cancelIntm s) = State.mask m s := by
  unfold State.cancelIntm
  split <;> simp [*]

@[simp] theorem execFreeze_mask (m : StateField → Bool) (s : State) (h_intm : m .intm = true) :
    State.Keeps m s (execFreeze s) := by
  unfold execFreeze
  simp [*]

@[simp] theorem State.leaveHush_mask (m : StateField → Bool) (s : State) (h_regs : m .regs = true) (h_kpr : m .kpr = true) (h_lanes : m .lanes = true) (h_links : m .links = true) (h_csw : m .csw = true) (h_mem : m .mem = true) (h_sec : m .sec = true) (h_xfr : m .xfr = true) (h_prm : m .prm = true) (h_script : m .script = true) (h_intm : m .intm = true) (h_memory : m .memory = true) (h_free : m .free = true) :
    State.mask m (State.leaveHush s) = State.mask m s := by
  unfold State.leaveHush
  split <;> simp [*]

@[simp] theorem execHushQuiet_mask (m : StateField → Bool) (s : State) (h_regs : m .regs = true) (h_kpr : m .kpr = true) (h_lanes : m .lanes = true) (h_links : m .links = true) (h_csw : m .csw = true) (h_mem : m .mem = true) (h_sec : m .sec = true) (h_xfr : m .xfr = true) (h_prm : m .prm = true) (h_script : m .script = true) (h_intm : m .intm = true) (h_memory : m .memory = true) (h_free : m .free = true) :
    State.Keeps m s (execHushQuiet s) := by
  unfold execHushQuiet
  simp [*]

@[simp] theorem State.hushCtx_mask (m : StateField → Bool) (s : State) (k : Nat) (h_regs : m .regs = true) (h_col : m .col = true) :
    State.mask m (State.hushCtx s k) = State.mask m s := by
  unfold State.hushCtx
  repeat' first | (simp [*]; done) | (rw [State.mask_mk] <;> simp [*]; done) | refine (State.mask_foldl m _ (fun t x => ?_) _ _).trans ?_ | refine (State.mask_foldl_fst m _ (fun p x => ?_) _ _).trans ?_ | refine (State.mask_foldl_snd m _ (fun p x => ?_) _ _).trans ?_ | split | simp [*]

@[simp] theorem execHushLimit_mask (m : StateField → Bool) (s : State) (h_regs : m .regs = true) (h_kpr : m .kpr = true) (h_lanes : m .lanes = true) (h_links : m .links = true) (h_csw : m .csw = true) (h_mem : m .mem = true) (h_sec : m .sec = true) (h_xfr : m .xfr = true) (h_prm : m .prm = true) (h_script : m .script = true) (h_col : m .col = true) (h_intm : m .intm = true) (h_memory : m .memory = true) (h_free : m .free = true) :
    State.Keeps m s (execHushLimit s) := by
  unfold execHushLimit
  repeat' first | (simp [*]; done) | (rw [State.mask_mk] <;> simp [*]; done) | refine (State.mask_foldl m _ (fun t x => ?_) _ _).trans ?_ | refine (State.mask_foldl_fst m _ (fun p x => ?_) _ _).trans ?_ | refine (State.mask_foldl_snd m _ (fun p x => ?_) _ _).trans ?_ | split | simp [*]

@[simp] theorem execImageWritten_mask (m : StateField → Bool) (s : State) (h_regs : m .regs = true) (h_kpr : m .kpr = true) (h_lanes : m .lanes = true) (h_links : m .links = true) (h_csw : m .csw = true) (h_mem : m .mem = true) (h_sec : m .sec = true) (h_xfr : m .xfr = true) (h_prm : m .prm = true) (h_script : m .script = true) (h_intm : m .intm = true) (h_memory : m .memory = true) (h_free : m .free = true) :
    State.Keeps m s (execImageWritten s) := by
  unfold execImageWritten
  split
  · rfl
  split
  · extract_lets r img
    have hr : State.mask m r.2 = State.mask m s := by unfold r; simp [*]
    clear_value img r
    split
    · rw [State.keeps_next, State.endIntm_mask] <;> assumption
    · rename_i h1
      have h1 := State.putBytes_mask m _ _ _ _ h_regs h_mem h_xfr h_memory h1
      split
      · rw [State.keeps_next, State.endIntm_mask, State.holdupLow_mask, h1, hr] <;> assumption
      · split
        · rw [State.keeps_next, State.endIntm_mask, h1, hr] <;> assumption
        · rename_i h2
          have h2 := State.putBytes_mask m _ _ _ _ h_regs h_mem h_xfr h_memory h2
          simp only [State.keeps_next]
          rw [State.endIntm_mask, State.setIntm_mask]
          · refine (State.mask_foldl m _ (fun t x => ?_) _ _).trans ?_
            · simp [*]
            · rw [h2, State.showNeed_mask, h1] <;> assumption
          all_goals assumption
  · rfl

@[simp] theorem execHoldupRecheck_mask (m : StateField → Bool) (s : State) (h_regs : m .regs = true) (h_kpr : m .kpr = true) (h_lanes : m .lanes = true) (h_links : m .links = true) (h_csw : m .csw = true) (h_mem : m .mem = true) (h_sec : m .sec = true) (h_xfr : m .xfr = true) (h_prm : m .prm = true) (h_script : m .script = true) (h_intm : m .intm = true) (h_commits : m .commits = true) (h_memory : m .memory = true) (h_free : m .free = true) :
    State.Keeps m s (execHoldupRecheck s) := by
  unfold execHoldupRecheck
  repeat' first | (simp [*]; done) | (rw [State.mask_mk] <;> simp [*]; done) | refine (State.mask_foldl m _ (fun t x => ?_) _ _).trans ?_ | refine (State.mask_foldl_fst m _ (fun p x => ?_) _ _).trans ?_ | refine (State.mask_foldl_snd m _ (fun p x => ?_) _ _).trans ?_ | rfl | extract_lets | split | simp [*] | intro _

@[simp] theorem State.restored_mask (m : StateField → Bool) (s : State) (x : Snapshot) (h_regs : m .regs = true) (h_xfr : m .xfr = true) (h_prm : m .prm = true) (h_eru : m .eru = true) (h_col : m .col = true) (h_upd : m .upd = true) :
    State.mask m (State.restored s x) = State.mask m s := by
  unfold State.restored
  repeat' first | (simp [*]; done) | (rw [State.mask_mk] <;> simp [*]; done) | refine (State.mask_foldl m _ (fun t x => ?_) _ _).trans ?_ | refine (State.mask_foldl_fst m _ (fun p x => ?_) _ _).trans ?_ | refine (State.mask_foldl_snd m _ (fun p x => ?_) _ _).trans ?_ | split | simp [*]

@[simp] theorem State.startRestore_mask (m : StateField → Bool) (s : State) (i : Issue) (h_regs : m .regs = true) (h_kpr : m .kpr = true) (h_intm : m .intm = true) :
    State.mask m (State.startRestore s i) = State.mask m s := by
  unfold State.startRestore
  simp [*]

@[simp] theorem State.submitResume_mask (m : StateField → Bool) (s : State) (i : Issue) (h_regs : m .regs = true) (h_kpr : m .kpr = true) (h_lanes : m .lanes = true) (h_links : m .links = true) (h_csw : m .csw = true) (h_mem : m .mem = true) (h_sec : m .sec = true) (h_xfr : m .xfr = true) (h_prm : m .prm = true) (h_script : m .script = true) (h_eru : m .eru = true) (h_col : m .col = true) (h_upd : m .upd = true) (h_intm : m .intm = true) (h_memory : m .memory = true) (h_free : m .free = true) :
    State.mask m (State.submitResume s i) = State.mask m s := by
  unfold State.submitResume
  split <;> (try split) <;> simp [*]

@[simp] theorem State.restartTimers_mask (m : StateField → Bool) (s : State) (h_col : m .col = true) (h_upd : m .upd = true) :
    State.mask m (State.restartTimers s) = State.mask m s := by
  unfold State.restartTimers
  simp [*]

@[simp] theorem execResumeTime_mask (m : StateField → Bool) (s : State) (h_regs : m .regs = true) (h_kpr : m .kpr = true) (h_clk : m .clk = true) (h_lanes : m .lanes = true) (h_links : m .links = true) (h_csw : m .csw = true) (h_mem : m .mem = true) (h_sec : m .sec = true) (h_xfr : m .xfr = true) (h_prm : m .prm = true) (h_script : m .script = true) (h_eru : m .eru = true) (h_col : m .col = true) (h_upd : m .upd = true) (h_intm : m .intm = true) (h_memory : m .memory = true) (h_free : m .free = true) :
    State.Keeps m s (execResumeTime s) := by
  unfold execResumeTime
  repeat' first | (simp [*]; done) | (rw [State.mask_mk] <;> simp [*]; done) | refine (State.mask_foldl m _ (fun t x => ?_) _ _).trans ?_ | refine (State.mask_foldl_fst m _ (fun p x => ?_) _ _).trans ?_ | refine (State.mask_foldl_snd m _ (fun p x => ?_) _ _).trans ?_ | split | simp [*]

end Sys2Proof.Machine
end

