-- ==== Sys2Proof/Laws/Frame/Drain.lean ====
section
/-! SUPPORT. What each function of Machine/Drain.lean leaves alone. -/

namespace Sys2Proof.Machine

@[simp] theorem State.drainAtDeadline_mask (m : StateField → Bool) (s : State) (d : Drain) (h_xfr : m .xfr = true) :
    State.mask m (State.drainAtDeadline s d) = State.mask m s := by
  unfold State.drainAtDeadline
  simp [*]

@[simp] theorem State.drainCtx_mask (m : StateField → Bool) (s : State) (k : Nat) (h_regs : m .regs = true) (h_kpr : m .kpr = true) (h_lanes : m .lanes = true) (h_links : m .links = true) (h_csw : m .csw = true) (h_mem : m .mem = true) (h_sec : m .sec = true) (h_xfr : m .xfr = true) (h_prm : m .prm = true) (h_script : m .script = true) (h_col : m .col = true) (h_upd : m .upd = true) (h_memory : m .memory = true) (h_free : m .free = true) :
    State.mask m (State.drainCtx s k) = State.mask m s := by
  unfold State.drainCtx
  split <;> simp [*]

@[simp] theorem State.stopWaiting_mask (m : StateField → Bool) (s : State) (hit : Issue → Nat → Bool) (h_regs : m .regs = true) (h_kpr : m .kpr = true) (h_lanes : m .lanes = true) (h_links : m .links = true) (h_csw : m .csw = true) (h_mem : m .mem = true) (h_sec : m .sec = true) (h_xfr : m .xfr = true) (h_prm : m .prm = true) (h_script : m .script = true) (h_memory : m .memory = true) (h_free : m .free = true) :
    State.mask m (State.stopWaiting s hit).2 = State.mask m s := by
  unfold State.stopWaiting
  repeat' first | (simp [*]; done) | (rw [State.mask_mk] <;> simp [*]; done) | refine (State.mask_foldl m _ (fun t x => ?_) _ _).trans ?_ | refine (State.mask_foldl_fst m _ (fun p x => ?_) _ _).trans ?_ | refine (State.mask_foldl_snd m _ (fun p x => ?_) _ _).trans ?_ | split | simp [*]

@[simp] theorem State.stopWork_mask (m : StateField → Bool) (s : State) (hit : Issue → Nat → Bool) (relays : Bool) (h_regs : m .regs = true) (h_kpr : m .kpr = true) (h_lanes : m .lanes = true) (h_links : m .links = true) (h_csw : m .csw = true) (h_mem : m .mem = true) (h_sec : m .sec = true) (h_xfr : m .xfr = true) (h_prm : m .prm = true) (h_script : m .script = true) (h_col : m .col = true) (h_upd : m .upd = true) (h_commits : m .commits = true) (h_verifies : m .verifies = true) (h_memory : m .memory = true) (h_free : m .free = true) :
    State.mask m (State.stopWork s hit relays) = State.mask m s := by
  unfold State.stopWork
  extract_lets ops s1 ctxs s2 hits gone c3 s3 s4 s5 s6 s7
  have h1 : State.mask m s1 = State.mask m s := by
    unfold s1
    rw [State.stopWaiting_mask]
    · exact State.mask_foldl m _ (fun t x => by simp [*]) _ _
    all_goals assumption
  have h2 : State.mask m s2 = State.mask m s1 := State.mask_foldl m _ (fun t x => by simp [*]) _ _
  have h3 : State.mask m s3 = State.mask m s2 := by unfold s3; simp [*]
  have h4 : State.mask m s4 = State.mask m s3 := State.mask_foldl m _ (fun t x => by simp [*]) _ _
  have h5 : State.mask m s5 = State.mask m s4 := State.mask_foldl m _ (fun t x => by simp [*]) _ _
  have h6 : State.mask m s6 = State.mask m s5 := State.mask_foldl m _ (fun t x => by simp [*]) _ _
  have h7 : State.mask m s7 = State.mask m s6 := State.mask_foldl m _ (fun t x => by simp [*]) _ _
  refine (State.mask_foldl m _ (fun t x => ?_) _ _).trans ?_
  · simp [*]
  · rw [h7, h6, h5, h4, h3, h2, h1]

@[simp] theorem execDrainDeadline_mask (m : StateField → Bool) (d : Drain) (s : State) (h_regs : m .regs = true) (h_kpr : m .kpr = true) (h_clk : m .clk = true) (h_lanes : m .lanes = true) (h_links : m .links = true) (h_csw : m .csw = true) (h_mem : m .mem = true) (h_sec : m .sec = true) (h_xfr : m .xfr = true) (h_prm : m .prm = true) (h_script : m .script = true) (h_eru : m .eru = true) (h_col : m .col = true) (h_upd : m .upd = true) (h_commits : m .commits = true) (h_verifies : m .verifies = true) (h_memory : m .memory = true) (h_free : m .free = true) :
    State.Keeps m s (execDrainDeadline d s) := by
  unfold execDrainDeadline
  repeat' first | (simp [*]; done) | (rw [State.mask_mk] <;> simp [*]; done) | refine (State.mask_foldl m _ (fun t x => ?_) _ _).trans ?_ | refine (State.mask_foldl_fst m _ (fun p x => ?_) _ _).trans ?_ | refine (State.mask_foldl_snd m _ (fun p x => ?_) _ _).trans ?_ | split | simp [*]

end Sys2Proof.Machine
end

