-- ==== Sys2Proof/Laws/Frame/Engrave.lean ====
section
/-! SUPPORT. What each function of Machine/Engrave.lean leaves alone. -/

namespace Sys2Proof.Machine

@[simp] theorem State.pltErr_mask (m : StateField → Bool) (s : State) (code : Nat) (detail : Nat) (h_regs : m .regs = true) :
    State.mask m (State.pltErr s code detail) = State.mask m s := by
  unfold State.pltErr
  simp [*]

@[simp] theorem State.setPlt_mask (m : StateField → Bool) (s : State) (p : Plt) (h_plt : m .plt = true) :
    State.mask m (State.setPlt s p) = State.mask m s := by
  unfold State.setPlt
  rw [State.mask_mk] <;> simp [*]

@[simp] theorem execOpenEng_mask (m : StateField → Bool) (w : Win) (s : State) (h_regs : m .regs = true) (h_plt : m .plt = true) :
    State.Keeps m s (execOpenEng w s) := by
  unfold execOpenEng
  simp [*]

@[simp] theorem execPltEngLenWrite_mask (m : StateField → Bool) (w : Win) (value : Word) (s : State) (h_regs : m .regs = true) (h_plt : m .plt = true) :
    State.Keeps m s (execPltEngLenWrite w value s) := by
  unfold execPltEngLenWrite
  simp [*]

@[simp] theorem State.engrave_mask (m : StateField → Bool) (s : State) (w : Nat) (off : Nat) (value : Word) (h_regs : m .regs = true) (h_kpr : m .kpr = true) (h_plt : m .plt = true) :
    State.mask m (State.engrave s w off value) = State.mask m s := by
  unfold State.engrave
  simp [*]

@[simp] theorem execEngraveWord_mask (m : StateField → Bool) (w : Win) (value : Word) (s : State) (h_regs : m .regs = true) (h_kpr : m .kpr = true) (h_plt : m .plt = true) :
    State.Keeps m s (execEngraveWord w value s) := by
  unfold execEngraveWord
  simp [*]

@[simp] theorem execCloseEng_mask (m : StateField → Bool) (w : Win) (s : State) (h_regs : m .regs = true) (h_kpr : m .kpr = true) (h_plt : m .plt = true) :
    State.Keeps m s (execCloseEng w s) := by
  unfold execCloseEng
  simp [*]

@[simp] theorem execCancel_mask (m : StateField → Bool) (w : Win) (s : State) (h_regs : m .regs = true) (h_kpr : m .kpr = true) (h_plt : m .plt = true) :
    State.Keeps m s (execCancel w s) := by
  unfold execCancel
  split <;> simp [*]

@[simp] theorem execArm_mask (m : StateField → Bool) (a : Source) (s : State) (h_regs : m .regs = true) (h_kpr : m .kpr = true) (h_plt : m .plt = true) :
    State.Keeps m s (execArm a s) := by
  unfold execArm
  simp [*]

@[simp] theorem execDisarm_mask (m : StateField → Bool) (a : Source) (s : State) (h_regs : m .regs = true) (h_kpr : m .kpr = true) (h_plt : m .plt = true) :
    State.Keeps m s (execDisarm a s) := by
  unfold execDisarm
  simp [*]

end Sys2Proof.Machine
end

