-- ==== Sys2Proof/Laws/Frame/Records.lean ====
section
/-! SUPPORT. What each function of Machine/Records.lean leaves alone. -/

namespace Sys2Proof.Machine

@[simp] theorem State.submitDigest_mask (m : StateField → Bool) (s : State) (i : Issue) (h_regs : m .regs = true) (h_kpr : m .kpr = true) (h_lanes : m .lanes = true) (h_links : m .links = true) (h_csw : m .csw = true) (h_mem : m .mem = true) (h_sec : m .sec = true) (h_xfr : m .xfr = true) (h_prm : m .prm = true) (h_script : m .script = true) (h_memory : m .memory = true) (h_free : m .free = true) :
    State.mask m (State.submitDigest s i) = State.mask m s := by
  unfold State.submitDigest
  repeat' first | rfl | (rw [State.mask_mk] <;> simp [*]; done) | refine (State.mask_foldl m _ (fun t x => ?_) _ _).trans ?_ | refine (State.mask_foldl_fst m _ (fun p x => ?_) _ _).trans ?_ | refine (State.mask_foldl_snd m _ (fun p x => ?_) _ _).trans ?_ | extract_lets | dsimp only | split | (simp [*]; done) | (rw [State.putBytes_mask (h := by assumption)] <;> simp [*]; done) | (rw [State.writeLocal_mask (h := by assumption)] <;> simp [*]; done) | simp [*]

@[simp] theorem State.submitVerify_mask (m : StateField → Bool) (s : State) (i : Issue) (h_regs : m .regs = true) (h_kpr : m .kpr = true) (h_lanes : m .lanes = true) (h_links : m .links = true) (h_csw : m .csw = true) (h_mem : m .mem = true) (h_sec : m .sec = true) (h_xfr : m .xfr = true) (h_prm : m .prm = true) (h_script : m .script = true) (h_verifies : m .verifies = true) (h_memory : m .memory = true) (h_free : m .free = true) :
    State.mask m (State.submitVerify s i) = State.mask m s := by
  unfold State.submitVerify
  repeat' first | (simp [*]; done) | (rw [State.mask_mk] <;> simp [*]; done) | refine (State.mask_foldl m _ (fun t x => ?_) _ _).trans ?_ | refine (State.mask_foldl_fst m _ (fun p x => ?_) _ _).trans ?_ | refine (State.mask_foldl_snd m _ (fun p x => ?_) _ _).trans ?_ | split | simp [*]

@[simp] theorem State.endVerify_mask (m : StateField → Bool) (s : State) (x : Verify) (h_regs : m .regs = true) (h_kpr : m .kpr = true) (h_lanes : m .lanes = true) (h_links : m .links = true) (h_csw : m .csw = true) (h_mem : m .mem = true) (h_sec : m .sec = true) (h_xfr : m .xfr = true) (h_prm : m .prm = true) (h_script : m .script = true) (h_verifies : m .verifies = true) (h_memory : m .memory = true) (h_free : m .free = true) :
    State.mask m (State.endVerify s x) = State.mask m s := by
  unfold State.endVerify
  repeat' first | (simp [*]; done) | (rw [State.mask_mk] <;> simp [*]; done) | refine (State.mask_foldl m _ (fun t x => ?_) _ _).trans ?_ | refine (State.mask_foldl_fst m _ (fun p x => ?_) _ _).trans ?_ | refine (State.mask_foldl_snd m _ (fun p x => ?_) _ _).trans ?_ | split | simp [*]

@[simp] theorem State.endVerifies_mask (m : StateField → Bool) (s : State) (h_regs : m .regs = true) (h_kpr : m .kpr = true) (h_lanes : m .lanes = true) (h_links : m .links = true) (h_csw : m .csw = true) (h_mem : m .mem = true) (h_sec : m .sec = true) (h_xfr : m .xfr = true) (h_prm : m .prm = true) (h_script : m .script = true) (h_verifies : m .verifies = true) (h_memory : m .memory = true) (h_free : m .free = true) :
    State.mask m (State.endVerifies s) = State.mask m s := by
  unfold State.endVerifies
  repeat' first | (simp [*]; done) | (rw [State.mask_mk] <;> simp [*]; done) | refine (State.mask_foldl m _ (fun t x => ?_) _ _).trans ?_ | refine (State.mask_foldl_fst m _ (fun p x => ?_) _ _).trans ?_ | refine (State.mask_foldl_snd m _ (fun p x => ?_) _ _).trans ?_ | split | simp [*]

@[simp] theorem State.keepRecord_mask (m : StateField → Bool) (s : State) (part : Nat) (r : BitVec 8192) (h : BitVec 384) (h_regs : m .regs = true) (h_sec : m .sec = true) :
    State.mask m (State.keepRecord s part r h) = State.mask m s := by
  unfold State.keepRecord
  split <;> simp [*]

@[simp] theorem State.submitRecord_mask (m : StateField → Bool) (s : State) (i : Issue) (h_regs : m .regs = true) (h_kpr : m .kpr = true) (h_lanes : m .lanes = true) (h_links : m .links = true) (h_csw : m .csw = true) (h_mem : m .mem = true) (h_sec : m .sec = true) (h_xfr : m .xfr = true) (h_prm : m .prm = true) (h_script : m .script = true) (h_memory : m .memory = true) (h_free : m .free = true) :
    State.mask m (State.submitRecord s i) = State.mask m s := by
  unfold State.submitRecord
  extract_lets d p n oc fresh0 s1 s2
  split
  · simp [*]
  split
  · simp [*]
  split
  · split
    · simp [*]
    · simp [*]
    · extract_lets body mac sig bytes h told
      have h1 : State.mask m s1 = State.mask m s := by unfold s1; split <;> simp [*]
      have h2 : State.mask m s2 = State.mask m s1 := by unfold s2; split <;> simp [*]
      have h3 : State.mask m sig.2 = State.mask m s2 := by unfold sig; simp [*]
      have h4 : State.mask m told = State.mask m sig.2 := by
        unfold told
        refine (State.mask_foldl m _ (fun t x => ?_) _ _).trans ?_ <;> simp [*]
      clear_value told sig s2 s1 h bytes
      split
      · simp [*]
      · rename_i hput
        rw [State.complete_mask, State.keepRecord_mask, State.putBytes_mask m _ _ _ _ h_regs h_mem h_xfr h_memory hput, h4, h3, h2, h1]
        all_goals with_reducible assumption
  · simp [*]

end Sys2Proof.Machine
end

