-- ==== Sys2Proof/Laws/Frame/Script.lean ====
section
/-! SUPPORT. What each function of Machine/Script.lean leaves alone. -/

namespace Sys2Proof.Machine

@[simp] theorem State.drainRing_mask (m : StateField → Bool) (x1 : Nat) (x2 : State) (h_regs : m .regs = true) (h_mem : m .mem = true) (h_xfr : m .xfr = true) (h_script : m .script = true) (h_memory : m .memory = true) :
    State.mask m (State.drainRing x1 x2) = State.mask m x2 := by
  induction x1 generalizing x2 with
  | zero => rw [State.drainRing]
  | succ f ih =>
    rw [State.drainRing]
    dsimp only
    split
    · rfl
    · split
      · rfl
      · rw [ih]; simp [*]

@[simp] theorem State.drainScript_mask (m : StateField → Bool) (s : State) (h_regs : m .regs = true) (h_mem : m .mem = true) (h_xfr : m .xfr = true) (h_script : m .script = true) (h_memory : m .memory = true) :
    State.mask m (State.drainScript s) = State.mask m s := by
  unfold State.drainScript
  repeat' first | (simp [*]; done) | (rw [State.mask_mk] <;> simp [*]; done) | refine (State.mask_foldl m _ (fun t x => ?_) _ _).trans ?_ | refine (State.mask_foldl_fst m _ (fun p x => ?_) _ _).trans ?_ | refine (State.mask_foldl_snd m _ (fun p x => ?_) _ _).trans ?_ | split | simp [*]

@[simp] theorem State.idle_mask (m : StateField → Bool) (s : State) (h_regs : m .regs = true) (h_kpr : m .kpr = true) (h_clk : m .clk = true) (h_lanes : m .lanes = true) (h_links : m .links = true) (h_csw : m .csw = true) (h_mem : m .mem = true) (h_sec : m .sec = true) (h_xfr : m .xfr = true) (h_prm : m .prm = true) (h_script : m .script = true) (h_eru : m .eru = true) (h_commits : m .commits = true) (h_verifies : m .verifies = true) (h_memory : m .memory = true) (h_free : m .free = true) :
    State.mask m (State.idle s) = State.mask m s := by
  unfold State.idle
  simp [*]

@[simp] theorem State.scriptCfgSet_mask (m : StateField → Bool) (s : State) (a : Nat) (value : Word) (h_regs : m .regs = true) (h_kpr : m .kpr = true) (h_lanes : m .lanes = true) (h_links : m .links = true) (h_csw : m .csw = true) (h_sec : m .sec = true) (h_script : m .script = true) (h_free : m .free = true) :
    State.mask m (State.scriptCfgSet s a value) = State.mask m s := by
  unfold State.scriptCfgSet
  simp [*]

@[simp] theorem State.scriptCfgWrite_mask (m : StateField → Bool) (s : State) (a : Nat) (value : Word) (h_regs : m .regs = true) (h_kpr : m .kpr = true) (h_lanes : m .lanes = true) (h_links : m .links = true) (h_csw : m .csw = true) (h_sec : m .sec = true) (h_script : m .script = true) (h_free : m .free = true) :
    State.mask m (State.scriptCfgWrite s a value) = State.mask m s := by
  unfold State.scriptCfgWrite
  simp [*]

@[simp] theorem execScriptEnable_mask (m : StateField → Bool) (a : Source) (value : Word) (s : State) (h_regs : m .regs = true) (h_kpr : m .kpr = true) (h_lanes : m .lanes = true) (h_links : m .links = true) (h_csw : m .csw = true) (h_sec : m .sec = true) (h_script : m .script = true) (h_free : m .free = true) :
    State.Keeps m s (execScriptEnable a value s) := by
  unfold execScriptEnable
  simp [*]

@[simp] theorem State.closeRun_mask (m : StateField → Bool) (s : State) (h_regs : m .regs = true) (h_kpr : m .kpr = true) (h_lanes : m .lanes = true) (h_links : m .links = true) (h_csw : m .csw = true) (h_sec : m .sec = true) (h_script : m .script = true) (h_free : m .free = true) :
    State.mask m (State.closeRun s) = State.mask m s := by
  unfold State.closeRun
  split <;> simp [*]

@[simp] theorem State.addRun_mask (m : StateField → Bool) (s : State) (w : Nat) (region : Nat) (off : Nat) (d : List Byte) (h_regs : m .regs = true) (h_kpr : m .kpr = true) (h_lanes : m .lanes = true) (h_links : m .links = true) (h_csw : m .csw = true) (h_sec : m .sec = true) (h_script : m .script = true) (h_free : m .free = true) :
    State.mask m (State.addRun s w region off d) = State.mask m s := by
  unfold State.addRun
  dsimp only
  split <;> simp [*]

@[simp] theorem execHostDataClose_mask (m : StateField → Bool) (s : State) (h_regs : m .regs = true) (h_kpr : m .kpr = true) (h_lanes : m .lanes = true) (h_links : m .links = true) (h_csw : m .csw = true) (h_sec : m .sec = true) (h_script : m .script = true) (h_free : m .free = true) :
    State.Keeps m s (execHostDataClose s) := by
  unfold execHostDataClose
  split <;> simp [*]

end Sys2Proof.Machine
end

