-- ==== Sys2Proof/Laws/Frame/Issue.lean ====
section
/-! SUPPORT. What each function of Machine/Issue.lean leaves alone. -/

namespace Sys2Proof.Machine

@[simp] theorem State.setWaitingAt_mask (m : StateField → Bool) (s : State) (k : Nat) (l : List Queued) (h_xfr : m .xfr = true) :
    State.mask m (State.setWaitingAt s k l) = State.mask m s := by
  unfold State.setWaitingAt
  simp [*]

@[simp] theorem State.enqueue_mask (m : StateField → Bool) (s : State) (i : Issue) (h_xfr : m .xfr = true) :
    State.mask m (State.enqueue s i) = State.mask m s := by
  unfold State.enqueue
  simp [*]

@[simp] theorem State.dropHead_mask (m : StateField → Bool) (s : State) (k : Nat) (h_xfr : m .xfr = true) :
    State.mask m (State.dropHead s k) = State.mask m s := by
  unfold State.dropHead
  simp [*]

@[simp] theorem State.journalDesc_mask (m : StateField → Bool) (s : State) (i : Issue) (h_regs : m .regs = true) (h_kpr : m .kpr = true) (h_lanes : m .lanes = true) (h_links : m .links = true) (h_csw : m .csw = true) (h_sec : m .sec = true) (h_script : m .script = true) (h_free : m .free = true) :
    State.mask m (State.journalDesc s i) = State.mask m s := by
  unfold State.journalDesc
  split <;> (try split) <;> simp [*]

@[simp] theorem State.countRefusal_mask (m : StateField → Bool) (s : State) (i : Issue) (a : Answer) (h_regs : m .regs = true) :
    State.mask m (State.countRefusal s i a) = State.mask m s := by
  unfold State.countRefusal
  simp [*]

@[simp] theorem State.refuseIssue_mask (m : StateField → Bool) (s : State) (i : Issue) (a : Answer) (h_regs : m .regs = true) (h_kpr : m .kpr = true) (h_lanes : m .lanes = true) (h_links : m .links = true) (h_csw : m .csw = true) (h_mem : m .mem = true) (h_sec : m .sec = true) (h_xfr : m .xfr = true) (h_script : m .script = true) (h_memory : m .memory = true) (h_free : m .free = true) :
    State.mask m (State.refuseIssue s i a) = State.mask m s := by
  unfold State.refuseIssue
  simp [*]

@[simp] theorem State.reserve_mask (m : StateField → Bool) (s : State) (d : Line) (h_xfr : m .xfr = true) :
    State.mask m (State.reserve s d) = State.mask m s := by
  unfold State.reserve
  simp [*]

@[simp] theorem State.startIssue_mask (m : StateField → Bool) (s : State) (o : Op) (h_regs : m .regs = true) (h_kpr : m .kpr = true) (h_lanes : m .lanes = true) (h_links : m .links = true) (h_csw : m .csw = true) (h_mem : m .mem = true) (h_sec : m .sec = true) (h_xfr : m .xfr = true) (h_prm : m .prm = true) (h_script : m .script = true) (h_memory : m .memory = true) (h_free : m .free = true) :
    State.mask m (State.startIssue s o) = State.mask m s := by
  unfold State.startIssue
  dsimp only
  split <;> (try split) <;> simp [*]

@[simp] theorem State.abortTagged_mask (m : StateField → Bool) (s : State) (i : Issue) (stamp : Nat) (h_regs : m .regs = true) (h_kpr : m .kpr = true) (h_lanes : m .lanes = true) (h_links : m .links = true) (h_csw : m .csw = true) (h_mem : m .mem = true) (h_sec : m .sec = true) (h_xfr : m .xfr = true) (h_prm : m .prm = true) (h_script : m .script = true) (h_col : m .col = true) (h_upd : m .upd = true) (h_intm : m .intm = true) (h_memory : m .memory = true) (h_free : m .free = true) :
    State.mask m (State.abortTagged s i stamp) = State.mask m s := by
  unfold State.abortTagged
  repeat' first | (simp [*]; done) | (rw [State.mask_mk] <;> simp [*]; done) | refine (State.mask_foldl m _ (fun t x => ?_) _ _).trans ?_ | refine (State.mask_foldl_fst m _ (fun p x => ?_) _ _).trans ?_ | refine (State.mask_foldl_snd m _ (fun p x => ?_) _ _).trans ?_ | split | simp [*]

@[simp] theorem State.abortNamed_mask (m : StateField → Bool) (s : State) (i : Issue) (h_regs : m .regs = true) (h_kpr : m .kpr = true) (h_clk : m .clk = true) (h_lanes : m .lanes = true) (h_links : m .links = true) (h_csw : m .csw = true) (h_mem : m .mem = true) (h_sec : m .sec = true) (h_xfr : m .xfr = true) (h_prm : m .prm = true) (h_script : m .script = true) (h_col : m .col = true) (h_upd : m .upd = true) (h_memory : m .memory = true) (h_free : m .free = true) :
    State.mask m (State.abortNamed s i) = State.mask m s := by
  unfold State.abortNamed
  extract_lets d group h nodes s1 r
  have h1 : State.mask m s1 = State.mask m s := by
    unfold s1
    split
    · exact State.mask_foldl m _ (fun t x => by simp [*]) _ _
    · rfl
  have h2 : State.mask m r.2 = State.mask m s1 := by unfold r; simp [*]
  rw [State.complete_mask, h2, h1] <;> assumption

@[simp] theorem State.addHere_mask (m : StateField → Bool) (s : State) (i : Issue) (h_regs : m .regs = true) (h_kpr : m .kpr = true) (h_lanes : m .lanes = true) (h_links : m .links = true) (h_csw : m .csw = true) (h_mem : m .mem = true) (h_sec : m .sec = true) (h_xfr : m .xfr = true) (h_prm : m .prm = true) (h_script : m .script = true) (h_memory : m .memory = true) (h_free : m .free = true) :
    State.mask m (State.addHere s i) = State.mask m s := by
  unfold State.addHere
  repeat' first | (simp [*]; done) | (rw [State.mask_mk] <;> simp [*]; done) | refine (State.mask_foldl m _ (fun t x => ?_) _ _).trans ?_ | refine (State.mask_foldl_fst m _ (fun p x => ?_) _ _).trans ?_ | refine (State.mask_foldl_snd m _ (fun p x => ?_) _ _).trans ?_ | split | simp [*]

@[simp] theorem State.armCues_mask (m : StateField → Bool) (s : State) (i : Issue) (h_regs : m .regs = true) (h_kpr : m .kpr = true) (h_lanes : m .lanes = true) (h_links : m .links = true) (h_csw : m .csw = true) (h_mem : m .mem = true) (h_sec : m .sec = true) (h_xfr : m .xfr = true) (h_prm : m .prm = true) (h_script : m .script = true) (h_memory : m .memory = true) (h_free : m .free = true) :
    State.mask m (State.armCues s i) = State.mask m s := by
  unfold State.armCues
  repeat' first | (simp [*]; done) | (rw [State.mask_mk] <;> simp [*]; done) | refine (State.mask_foldl m _ (fun t x => ?_) _ _).trans ?_ | refine (State.mask_foldl_fst m _ (fun p x => ?_) _ _).trans ?_ | refine (State.mask_foldl_snd m _ (fun p x => ?_) _ _).trans ?_ | split | simp [*]

@[simp] theorem State.armArrival_mask (m : StateField → Bool) (s : State) (i : Issue) (h_regs : m .regs = true) (h_kpr : m .kpr = true) (h_lanes : m .lanes = true) (h_links : m .links = true) (h_csw : m .csw = true) (h_mem : m .mem = true) (h_sec : m .sec = true) (h_xfr : m .xfr = true) (h_prm : m .prm = true) (h_script : m .script = true) (h_memory : m .memory = true) (h_free : m .free = true) :
    State.mask m (State.armArrival s i) = State.mask m s := by
  unfold State.armArrival
  simp [*]

@[simp] theorem State.disarm_mask (m : StateField → Bool) (s : State) (i : Issue) (h_regs : m .regs = true) (h_kpr : m .kpr = true) (h_lanes : m .lanes = true) (h_links : m .links = true) (h_csw : m .csw = true) (h_mem : m .mem = true) (h_sec : m .sec = true) (h_xfr : m .xfr = true) (h_prm : m .prm = true) (h_script : m .script = true) (h_memory : m .memory = true) (h_free : m .free = true) :
    State.mask m (State.disarm s i) = State.mask m s := by
  unfold State.disarm
  simp [*]

@[simp] theorem State.openIssue_mask (m : StateField → Bool) (s : State) (i : Issue) (stamp : Nat) (h_regs : m .regs = true) (h_kpr : m .kpr = true) (h_lanes : m .lanes = true) (h_links : m .links = true) (h_csw : m .csw = true) (h_mem : m .mem = true) (h_sec : m .sec = true) (h_xfr : m .xfr = true) (h_prm : m .prm = true) (h_script : m .script = true) (h_col : m .col = true) (h_memory : m .memory = true) (h_free : m .free = true) :
    State.mask m (State.openIssue s i stamp) = State.mask m s := by
  unfold State.openIssue
  simp [*]

@[simp] theorem State.runOther_mask (m : StateField → Bool) (s : State) (i : Issue) (stamp : Nat) (h_regs : m .regs = true) (h_kpr : m .kpr = true) (h_clk : m .clk = true) (h_lanes : m .lanes = true) (h_links : m .links = true) (h_csw : m .csw = true) (h_mem : m .mem = true) (h_sec : m .sec = true) (h_xfr : m .xfr = true) (h_prm : m .prm = true) (h_script : m .script = true) (h_eru : m .eru = true) (h_col : m .col = true) (h_upd : m .upd = true) (h_intm : m .intm = true) (h_commits : m .commits = true) (h_verifies : m .verifies = true) (h_memory : m .memory = true) (h_free : m .free = true) :
    State.mask m (State.runOther s i stamp) = State.mask m s := by
  unfold State.runOther
  dsimp only
  split <;> simp [*]

@[simp] theorem State.refuseTag_mask (m : StateField → Bool) (s : State) (k : Nat) (i : Issue) (a : Answer) (h_regs : m .regs = true) (h_kpr : m .kpr = true) (h_lanes : m .lanes = true) (h_links : m .links = true) (h_csw : m .csw = true) (h_mem : m .mem = true) (h_sec : m .sec = true) (h_xfr : m .xfr = true) (h_prm : m .prm = true) (h_script : m .script = true) (h_memory : m .memory = true) (h_free : m .free = true) :
    State.mask m (State.refuseTag s k i a).2 = State.mask m s := by
  unfold State.refuseTag
  dsimp only
  split <;> simp [*]

@[simp] theorem State.issueHead_mask (m : StateField → Bool) (s : State) (k : Nat) (h_regs : m .regs = true) (h_kpr : m .kpr = true) (h_clk : m .clk = true) (h_lanes : m .lanes = true) (h_links : m .links = true) (h_csw : m .csw = true) (h_mem : m .mem = true) (h_sec : m .sec = true) (h_xfr : m .xfr = true) (h_prm : m .prm = true) (h_script : m .script = true) (h_eru : m .eru = true) (h_col : m .col = true) (h_upd : m .upd = true) (h_intm : m .intm = true) (h_commits : m .commits = true) (h_verifies : m .verifies = true) (h_memory : m .memory = true) (h_free : m .free = true) :
    State.mask m (State.issueHead s k).2 = State.mask m s := by
  unfold State.issueHead
  repeat' first | (simp [*]; done) | (rw [State.mask_mk] <;> simp [*]; done) | refine (State.mask_foldl m _ (fun t x => ?_) _ _).trans ?_ | refine (State.mask_foldl_fst m _ (fun p x => ?_) _ _).trans ?_ | refine (State.mask_foldl_snd m _ (fun p x => ?_) _ _).trans ?_ | split | simp [*]

@[simp] theorem State.runQueueFor_mask (m : StateField → Bool) (k : Nat) (x1 : Nat) (x2 : State) (h_regs : m .regs = true) (h_kpr : m .kpr = true) (h_clk : m .clk = true) (h_lanes : m .lanes = true) (h_links : m .links = true) (h_csw : m .csw = true) (h_mem : m .mem = true) (h_sec : m .sec = true) (h_xfr : m .xfr = true) (h_prm : m .prm = true) (h_script : m .script = true) (h_eru : m .eru = true) (h_col : m .col = true) (h_upd : m .upd = true) (h_intm : m .intm = true) (h_commits : m .commits = true) (h_verifies : m .verifies = true) (h_memory : m .memory = true) (h_free : m .free = true) :
    State.mask m (State.runQueueFor k x1 x2) = State.mask m x2 := by
  induction x1 generalizing x2 with
  | zero => rw [State.runQueueFor]
  | succ f ih =>
    rw [State.runQueueFor]
    split
    · rw [ih]; simp [*]
    · simp [*]

@[simp] theorem State.runQueue_mask (m : StateField → Bool) (s : State) (k : Nat) (h_regs : m .regs = true) (h_kpr : m .kpr = true) (h_clk : m .clk = true) (h_lanes : m .lanes = true) (h_links : m .links = true) (h_csw : m .csw = true) (h_mem : m .mem = true) (h_sec : m .sec = true) (h_xfr : m .xfr = true) (h_prm : m .prm = true) (h_script : m .script = true) (h_eru : m .eru = true) (h_col : m .col = true) (h_upd : m .upd = true) (h_intm : m .intm = true) (h_commits : m .commits = true) (h_verifies : m .verifies = true) (h_memory : m .memory = true) (h_free : m .free = true) :
    State.mask m (State.runQueue s k) = State.mask m s := by
  unfold State.runQueue
  repeat' first | (simp [*]; done) | (rw [State.mask_mk] <;> simp [*]; done) | refine (State.mask_foldl m _ (fun t x => ?_) _ _).trans ?_ | refine (State.mask_foldl_fst m _ (fun p x => ?_) _ _).trans ?_ | refine (State.mask_foldl_snd m _ (fun p x => ?_) _ _).trans ?_ | split | simp [*]

@[simp] theorem State.fetchRingFor_mask (m : StateField → Bool) (w : Win) (x1 : Nat) (x2 : State) (h_regs : m .regs = true) (h_kpr : m .kpr = true) (h_clk : m .clk = true) (h_lanes : m .lanes = true) (h_links : m .links = true) (h_csw : m .csw = true) (h_mem : m .mem = true) (h_sec : m .sec = true) (h_xfr : m .xfr = true) (h_prm : m .prm = true) (h_script : m .script = true) (h_eru : m .eru = true) (h_col : m .col = true) (h_upd : m .upd = true) (h_intm : m .intm = true) (h_commits : m .commits = true) (h_verifies : m .verifies = true) (h_memory : m .memory = true) (h_free : m .free = true) :
    State.mask m (State.fetchRingFor w x1 x2) = State.mask m x2 := by
  induction x1 generalizing x2 with
  | zero => rw [State.fetchRingFor]
  | succ f ih =>
    rw [State.fetchRingFor]
    dsimp only
    split
    · rfl
    · rw [ih]; simp [*]

@[simp] theorem State.fetchRing_mask (m : StateField → Bool) (s : State) (w : Win) (h_regs : m .regs = true) (h_kpr : m .kpr = true) (h_clk : m .clk = true) (h_lanes : m .lanes = true) (h_links : m .links = true) (h_csw : m .csw = true) (h_mem : m .mem = true) (h_sec : m .sec = true) (h_xfr : m .xfr = true) (h_prm : m .prm = true) (h_script : m .script = true) (h_eru : m .eru = true) (h_col : m .col = true) (h_upd : m .upd = true) (h_intm : m .intm = true) (h_commits : m .commits = true) (h_verifies : m .verifies = true) (h_memory : m .memory = true) (h_free : m .free = true) :
    State.mask m (State.fetchRing s w) = State.mask m s := by
  unfold State.fetchRing
  repeat' first | (simp [*]; done) | (rw [State.mask_mk] <;> simp [*]; done) | refine (State.mask_foldl m _ (fun t x => ?_) _ _).trans ?_ | refine (State.mask_foldl_fst m _ (fun p x => ?_) _ _).trans ?_ | refine (State.mask_foldl_snd m _ (fun p x => ?_) _ _).trans ?_ | split | simp [*]

@[simp] theorem State.resumeIssue_mask (m : StateField → Bool) (s : State) (who : Submitter) (h_regs : m .regs = true) (h_kpr : m .kpr = true) (h_clk : m .clk = true) (h_lanes : m .lanes = true) (h_links : m .links = true) (h_csw : m .csw = true) (h_mem : m .mem = true) (h_sec : m .sec = true) (h_xfr : m .xfr = true) (h_prm : m .prm = true) (h_script : m .script = true) (h_eru : m .eru = true) (h_col : m .col = true) (h_upd : m .upd = true) (h_intm : m .intm = true) (h_commits : m .commits = true) (h_verifies : m .verifies = true) (h_memory : m .memory = true) (h_free : m .free = true) :
    State.mask m (State.resumeIssue s who) = State.mask m s := by
  unfold State.resumeIssue
  split <;> simp [*]

@[simp] theorem State.ringBell_mask (m : StateField → Bool) (s : State) (w : Win) (value : Word) (h_regs : m .regs = true) (h_kpr : m .kpr = true) (h_clk : m .clk = true) (h_lanes : m .lanes = true) (h_links : m .links = true) (h_csw : m .csw = true) (h_mem : m .mem = true) (h_sec : m .sec = true) (h_xfr : m .xfr = true) (h_prm : m .prm = true) (h_script : m .script = true) (h_eru : m .eru = true) (h_col : m .col = true) (h_upd : m .upd = true) (h_intm : m .intm = true) (h_commits : m .commits = true) (h_verifies : m .verifies = true) (h_memory : m .memory = true) (h_free : m .free = true) :
    State.mask m (State.ringBell s w value) = State.mask m s := by
  unfold State.ringBell
  simp [*]

@[simp] theorem execDoorbell_mask (m : StateField → Bool) (w : Win) (value : Word) (s : State) (h_regs : m .regs = true) (h_kpr : m .kpr = true) (h_clk : m .clk = true) (h_lanes : m .lanes = true) (h_links : m .links = true) (h_csw : m .csw = true) (h_mem : m .mem = true) (h_sec : m .sec = true) (h_xfr : m .xfr = true) (h_prm : m .prm = true) (h_script : m .script = true) (h_eru : m .eru = true) (h_col : m .col = true) (h_upd : m .upd = true) (h_intm : m .intm = true) (h_commits : m .commits = true) (h_verifies : m .verifies = true) (h_memory : m .memory = true) (h_free : m .free = true) :
    State.Keeps m s (execDoorbell w value s) := by
  unfold execDoorbell
  simp [*]

@[simp] theorem execDoorbellRelease_mask (m : StateField → Bool) (s : State) (h_regs : m .regs = true) (h_kpr : m .kpr = true) (h_clk : m .clk = true) (h_lanes : m .lanes = true) (h_links : m .links = true) (h_csw : m .csw = true) (h_mem : m .mem = true) (h_sec : m .sec = true) (h_xfr : m .xfr = true) (h_prm : m .prm = true) (h_script : m .script = true) (h_eru : m .eru = true) (h_col : m .col = true) (h_upd : m .upd = true) (h_intm : m .intm = true) (h_commits : m .commits = true) (h_verifies : m .verifies = true) (h_memory : m .memory = true) (h_free : m .free = true) :
    State.Keeps m s (execDoorbellRelease s) := by
  unfold execDoorbellRelease
  repeat' first | (simp [*]; done) | (rw [State.mask_mk] <;> simp [*]; done) | refine (State.mask_foldl m _ (fun t x => ?_) _ _).trans ?_ | refine (State.mask_foldl_fst m _ (fun p x => ?_) _ _).trans ?_ | refine (State.mask_foldl_snd m _ (fun p x => ?_) _ _).trans ?_ | split | simp [*]

@[simp] theorem execDescRx_mask (m : StateField → Bool) (c : Cell) (s : State) (h_regs : m .regs = true) (h_kpr : m .kpr = true) (h_clk : m .clk = true) (h_lanes : m .lanes = true) (h_links : m .links = true) (h_csw : m .csw = true) (h_mem : m .mem = true) (h_sec : m .sec = true) (h_xfr : m .xfr = true) (h_prm : m .prm = true) (h_script : m .script = true) (h_eru : m .eru = true) (h_col : m .col = true) (h_upd : m .upd = true) (h_intm : m .intm = true) (h_commits : m .commits = true) (h_verifies : m .verifies = true) (h_memory : m .memory = true) (h_free : m .free = true) :
    State.Keeps m s (execDescRx c s) := by
  unfold execDescRx
  simp [*]

@[simp] theorem execIssueResume_mask (m : StateField → Bool) (who : Submitter) (s : State) (h_regs : m .regs = true) (h_kpr : m .kpr = true) (h_clk : m .clk = true) (h_lanes : m .lanes = true) (h_links : m .links = true) (h_csw : m .csw = true) (h_mem : m .mem = true) (h_sec : m .sec = true) (h_xfr : m .xfr = true) (h_prm : m .prm = true) (h_script : m .script = true) (h_eru : m .eru = true) (h_col : m .col = true) (h_upd : m .upd = true) (h_intm : m .intm = true) (h_commits : m .commits = true) (h_verifies : m .verifies = true) (h_memory : m .memory = true) (h_free : m .free = true) :
    State.Keeps m s (execIssueResume who s) := by
  unfold execIssueResume
  simp [*]

@[simp] theorem execBusyBackoff_mask (m : StateField → Bool) (tag : Fin 16384) (s : State) (h_regs : m .regs = true) (h_kpr : m .kpr = true) (h_clk : m .clk = true) (h_lanes : m .lanes = true) (h_links : m .links = true) (h_csw : m .csw = true) (h_mem : m .mem = true) (h_sec : m .sec = true) (h_xfr : m .xfr = true) (h_prm : m .prm = true) (h_script : m .script = true) (h_eru : m .eru = true) (h_col : m .col = true) (h_upd : m .upd = true) (h_intm : m .intm = true) (h_commits : m .commits = true) (h_verifies : m .verifies = true) (h_memory : m .memory = true) (h_free : m .free = true) :
    State.Keeps m s (execBusyBackoff tag s) := by
  unfold execBusyBackoff
  split
  · rfl
  extract_lets s1 due
  have h1 : State.mask m s1 = State.mask m s := by unfold s1; simp [*]
  clear_value s1 due
  rw [State.keeps_next, State.settleAll_mask, State.runTurns_mask]
  · refine (State.mask_foldl m _ (fun t x => ?_) _ _).trans h1
    simp [*]
  all_goals assumption

@[simp] theorem State.cycleToFire_mask (m : StateField → Bool) (s : State) (id : Nat) (c : Cue) (h_prm : m .prm = true) :
    State.mask m (State.cycleToFire s id c) = State.mask m s := by
  unfold State.cycleToFire
  repeat' first | (simp [*]; done) | (rw [State.mask_mk] <;> simp [*]; done) | refine (State.mask_foldl m _ (fun t x => ?_) _ _).trans ?_ | refine (State.mask_foldl_fst m _ (fun p x => ?_) _ _).trans ?_ | refine (State.mask_foldl_snd m _ (fun p x => ?_) _ _).trans ?_ | split | simp [*]

@[simp] theorem execCueFire_mask (m : StateField → Bool) (cue : Fin 16384) (s : State) (h_regs : m .regs = true) (h_kpr : m .kpr = true) (h_clk : m .clk = true) (h_lanes : m .lanes = true) (h_links : m .links = true) (h_csw : m .csw = true) (h_mem : m .mem = true) (h_sec : m .sec = true) (h_xfr : m .xfr = true) (h_prm : m .prm = true) (h_script : m .script = true) (h_eru : m .eru = true) (h_col : m .col = true) (h_upd : m .upd = true) (h_intm : m .intm = true) (h_commits : m .commits = true) (h_verifies : m .verifies = true) (h_memory : m .memory = true) (h_free : m .free = true) :
    State.Keeps m s (execCueFire cue s) := by
  unfold execCueFire
  split <;> (try split) <;> simp [*]

end Sys2Proof.Machine
end

