-- ==== Sys2Proof/Laws/Frame/Loss.lean ====
section
/-! SUPPORT. What each function of Machine/Loss.lean leaves alone. -/

namespace Sys2Proof.Machine

@[simp] theorem State.floodOn_mask (m : StateField → Bool) (s : State) (c : Cell) (except : Option Nat) (h_links : m .links = true) :
    State.mask m (State.floodOn s c except) = State.mask m s := by
  unfold State.floodOn
  exact State.mask_foldl m _ (fun t x => by simp [*]) _ _

@[simp] theorem State.addLost_mask (m : StateField → Bool) (s : State) (node : Nat) (h_regs : m .regs = true) (h_kpr : m .kpr = true) (h_clk : m .clk = true) (h_lanes : m .lanes = true) (h_links : m .links = true) (h_csw : m .csw = true) (h_mem : m .mem = true) (h_sec : m .sec = true) (h_xfr : m .xfr = true) (h_prm : m .prm = true) (h_script : m .script = true) (h_eru : m .eru = true) (h_col : m .col = true) (h_upd : m .upd = true) (h_intm : m .intm = true) (h_memory : m .memory = true) (h_free : m .free = true) :
    State.mask m (State.addLost s node) = State.mask m s := by
  unfold State.addLost
  split
  · rfl
  · extract_lets s1 s2 ops
    have h1 : State.mask m s1 = State.mask m s := by unfold s1; simp [*]
    have h2 : State.mask m s2 = State.mask m s1 := by unfold s2; simp [*]
    rw [State.runTurns_mask]
    · refine (State.mask_foldl m _ (fun t x => ?_) _ _).trans ?_
      · split <;> simp [*]
      · rw [h2, h1]
    all_goals assumption

@[simp] theorem State.declareLost_mask (m : StateField → Bool) (s : State) (node : Nat) (h_regs : m .regs = true) (h_kpr : m .kpr = true) (h_clk : m .clk = true) (h_lanes : m .lanes = true) (h_links : m .links = true) (h_csw : m .csw = true) (h_mem : m .mem = true) (h_sec : m .sec = true) (h_xfr : m .xfr = true) (h_prm : m .prm = true) (h_script : m .script = true) (h_eru : m .eru = true) (h_col : m .col = true) (h_upd : m .upd = true) (h_intm : m .intm = true) (h_memory : m .memory = true) (h_free : m .free = true) :
    State.mask m (State.declareLost s node) = State.mask m s := by
  unfold State.declareLost
  split
  · rfl
  · extract_lets s1 q kk s2
    have h1 : State.mask m s1 = State.mask m s := by unfold s1; simp [*]
    have h2 : State.mask m s2 = State.mask m s1 := by unfold s2; rw [State.mask_mk] <;> simp [*]
    rw [State.floodOn_mask, h2, h1]
    all_goals assumption

@[simp] theorem execNodeSilence_mask (m : StateField → Bool) (node : Fin 1024) (s : State) (h_kpr : m .kpr = true) (h_csw : m .csw = true) :
    State.Keeps m s (execNodeSilence node s) := by
  unfold execNodeSilence
  repeat' first | (simp [*]; done) | (rw [State.mask_mk] <;> simp [*]; done) | refine (State.mask_foldl m _ (fun t x => ?_) _ _).trans ?_ | refine (State.mask_foldl_fst m _ (fun p x => ?_) _ _).trans ?_ | refine (State.mask_foldl_snd m _ (fun p x => ?_) _ _).trans ?_ | split | simp [*]

@[simp] theorem execProbe_mask (m : StateField → Bool) (node : Fin 1024) (s : State) (h_regs : m .regs = true) (h_kpr : m .kpr = true) (h_clk : m .clk = true) (h_lanes : m .lanes = true) (h_links : m .links = true) (h_csw : m .csw = true) (h_mem : m .mem = true) (h_sec : m .sec = true) (h_xfr : m .xfr = true) (h_prm : m .prm = true) (h_script : m .script = true) (h_eru : m .eru = true) (h_col : m .col = true) (h_upd : m .upd = true) (h_intm : m .intm = true) (h_memory : m .memory = true) (h_free : m .free = true) :
    State.Keeps m s (execProbe node s) := by
  unfold execProbe
  split <;> (try split) <;> simp [*]

@[simp] theorem execLostRx_mask (m : StateField → Bool) (n : LinkIx) (c : Cell) (s : State) (h_regs : m .regs = true) (h_kpr : m .kpr = true) (h_clk : m .clk = true) (h_lanes : m .lanes = true) (h_links : m .links = true) (h_csw : m .csw = true) (h_mem : m .mem = true) (h_sec : m .sec = true) (h_xfr : m .xfr = true) (h_prm : m .prm = true) (h_script : m .script = true) (h_eru : m .eru = true) (h_col : m .col = true) (h_upd : m .upd = true) (h_intm : m .intm = true) (h_memory : m .memory = true) (h_free : m .free = true) :
    State.Keeps m s (execLostRx n c s) := by
  unfold execLostRx
  split
  · rfl
  · split
    · trivial
    · extract_lets s0 node kk s1 s2
      have h0 : State.mask m s0 = State.mask m s := by unfold s0; simp [*]
      split
      · have h1 : State.mask m s1 = State.mask m s0 := by unfold s1; rw [State.mask_mk] <;> simp [*]
        have h2 : State.mask m s2 = State.mask m s1 := by unfold s2; split <;> simp [*]
        rw [State.keeps_next, State.floodOn_mask, h2, h1, h0]
        all_goals assumption
      · exact h0

@[simp] theorem State.downReceived_mask (m : StateField → Bool) (s : State) (n : Nat) (c : Cell) (h_regs : m .regs = true) (h_kpr : m .kpr = true) (h_clk : m .clk = true) (h_lanes : m .lanes = true) (h_links : m .links = true) (h_csw : m .csw = true) (h_mem : m .mem = true) (h_sec : m .sec = true) (h_xfr : m .xfr = true) (h_prm : m .prm = true) (h_script : m .script = true) (h_eru : m .eru = true) (h_col : m .col = true) (h_upd : m .upd = true) (h_intm : m .intm = true) (h_memory : m .memory = true) (h_free : m .free = true) :
    State.mask m (State.downReceived s n c) = State.mask m s := by
  unfold State.downReceived
  repeat' first | (simp [*]; done) | (rw [State.mask_mk] <;> simp [*]; done) | refine (State.mask_foldl m _ (fun t x => ?_) _ _).trans ?_ | refine (State.mask_foldl_fst m _ (fun p x => ?_) _ _).trans ?_ | refine (State.mask_foldl_snd m _ (fun p x => ?_) _ _).trans ?_ | split | simp [*]

@[simp] theorem execDownCellRx_mask (m : StateField → Bool) (n : LinkIx) (c : Cell) (s : State) (h_regs : m .regs = true) (h_kpr : m .kpr = true) (h_clk : m .clk = true) (h_lanes : m .lanes = true) (h_links : m .links = true) (h_csw : m .csw = true) (h_mem : m .mem = true) (h_sec : m .sec = true) (h_xfr : m .xfr = true) (h_prm : m .prm = true) (h_script : m .script = true) (h_eru : m .eru = true) (h_col : m .col = true) (h_upd : m .upd = true) (h_intm : m .intm = true) (h_memory : m .memory = true) (h_free : m .free = true) :
    State.Keeps m s (execDownCellRx n c s) := by
  unfold execDownCellRx
  repeat' first | (simp [*]; done) | (rw [State.mask_mk] <;> simp [*]; done) | refine (State.mask_foldl m _ (fun t x => ?_) _ _).trans ?_ | refine (State.mask_foldl_fst m _ (fun p x => ?_) _ _).trans ?_ | refine (State.mask_foldl_snd m _ (fun p x => ?_) _ _).trans ?_ | split | simp [*]

@[simp] theorem execBeacon_mask (m : StateField → Bool) (s : State) (h_kpr : m .kpr = true) (h_links : m .links = true) :
    State.Keeps m s (execBeacon s) := by
  unfold execBeacon
  repeat' first | (simp [*]; done) | (rw [State.mask_mk] <;> simp [*]; done) | refine (State.mask_foldl m _ (fun t x => ?_) _ _).trans ?_ | refine (State.mask_foldl_fst m _ (fun p x => ?_) _ _).trans ?_ | refine (State.mask_foldl_snd m _ (fun p x => ?_) _ _).trans ?_ | split | simp [*]

@[simp] theorem execBeaconRx_mask (m : StateField → Bool) (n : LinkIx) (c : Cell) (s : State) (h_kpr : m .kpr = true) (h_links : m .links = true) (h_csw : m .csw = true) :
    State.Keeps m s (execBeaconRx n c s) := by
  unfold execBeaconRx
  repeat' first | (simp [*]; done) | (rw [State.mask_mk] <;> simp [*]; done) | refine (State.mask_foldl m _ (fun t x => ?_) _ _).trans ?_ | refine (State.mask_foldl_fst m _ (fun p x => ?_) _ _).trans ?_ | refine (State.mask_foldl_snd m _ (fun p x => ?_) _ _).trans ?_ | split | simp [*]

@[simp] theorem State.curtainStops_mask (m : StateField → Bool) (s : State) (k : Nat) (h_regs : m .regs = true) (h_kpr : m .kpr = true) (h_lanes : m .lanes = true) (h_links : m .links = true) (h_csw : m .csw = true) (h_mem : m .mem = true) (h_sec : m .sec = true) (h_xfr : m .xfr = true) (h_prm : m .prm = true) (h_script : m .script = true) (h_col : m .col = true) (h_upd : m .upd = true) (h_commits : m .commits = true) (h_verifies : m .verifies = true) (h_memory : m .memory = true) (h_free : m .free = true) :
    State.mask m (State.curtainStops s k) = State.mask m s := by
  unfold State.curtainStops
  repeat' first | (simp [*]; done) | (rw [State.mask_mk] <;> simp [*]; done) | refine (State.mask_foldl m _ (fun t x => ?_) _ _).trans ?_ | refine (State.mask_foldl_fst m _ (fun p x => ?_) _ _).trans ?_ | refine (State.mask_foldl_snd m _ (fun p x => ?_) _ _).trans ?_ | split | simp [*]

@[simp] theorem State.lowerCurtain_mask (m : StateField → Bool) (s : State) (i : Nat) (x : Slot) (h_regs : m .regs = true) (h_kpr : m .kpr = true) (h_clk : m .clk = true) (h_lanes : m .lanes = true) (h_links : m .links = true) (h_csw : m .csw = true) (h_mem : m .mem = true) (h_sec : m .sec = true) (h_xfr : m .xfr = true) (h_prm : m .prm = true) (h_script : m .script = true) (h_eru : m .eru = true) (h_col : m .col = true) (h_upd : m .upd = true) (h_commits : m .commits = true) (h_verifies : m .verifies = true) (h_memory : m .memory = true) (h_free : m .free = true) :
    State.mask m (State.lowerCurtain s i x) = State.mask m s := by
  unfold State.lowerCurtain
  simp [*]

@[simp] theorem execCurtainLowered_mask (m : StateField → Bool) (slot : Fin 4096) (s : State) (h_regs : m .regs = true) (h_kpr : m .kpr = true) (h_clk : m .clk = true) (h_lanes : m .lanes = true) (h_links : m .links = true) (h_csw : m .csw = true) (h_mem : m .mem = true) (h_sec : m .sec = true) (h_xfr : m .xfr = true) (h_prm : m .prm = true) (h_script : m .script = true) (h_eru : m .eru = true) (h_col : m .col = true) (h_upd : m .upd = true) (h_commits : m .commits = true) (h_verifies : m .verifies = true) (h_memory : m .memory = true) (h_free : m .free = true) :
    State.Keeps m s (execCurtainLowered slot s) := by
  unfold execCurtainLowered
  repeat' first | (simp [*]; done) | (rw [State.mask_mk] <;> simp [*]; done) | refine (State.mask_foldl m _ (fun t x => ?_) _ _).trans ?_ | refine (State.mask_foldl_fst m _ (fun p x => ?_) _ _).trans ?_ | refine (State.mask_foldl_snd m _ (fun p x => ?_) _ _).trans ?_ | split | simp [*]

@[simp] theorem State.raiseCurtains_mask (m : StateField → Bool) (s : State) (v : PlateV) (h_regs : m .regs = true) (h_kpr : m .kpr = true) (h_lanes : m .lanes = true) (h_links : m .links = true) (h_csw : m .csw = true) (h_sec : m .sec = true) (h_free : m .free = true) :
    State.mask m (State.raiseCurtains s v) = State.mask m s := by
  unfold State.raiseCurtains
  repeat' first | (simp [*]; done) | (rw [State.mask_mk] <;> simp [*]; done) | refine (State.mask_foldl m _ (fun t x => ?_) _ _).trans ?_ | refine (State.mask_foldl_fst m _ (fun p x => ?_) _ _).trans ?_ | refine (State.mask_foldl_snd m _ (fun p x => ?_) _ _).trans ?_ | split | simp [*]

@[simp] theorem State.watchAnchors_mask (m : StateField → Bool) (s : State) (old : Option PlateV) (v : PlateV) (h_kpr : m .kpr = true) :
    State.mask m (State.watchAnchors s old v) = State.mask m s := by
  unfold State.watchAnchors
  repeat' first | (simp [*]; done) | (rw [State.mask_mk] <;> simp [*]; done) | refine (State.mask_foldl m _ (fun t x => ?_) _ _).trans ?_ | refine (State.mask_foldl_fst m _ (fun p x => ?_) _ _).trans ?_ | refine (State.mask_foldl_snd m _ (fun p x => ?_) _ _).trans ?_ | split | simp [*]

@[simp] theorem execFaultRecRx_mask (m : StateField → Bool) (c : Cell) (s : State) (h_regs : m .regs = true) (h_kpr : m .kpr = true) (h_csw : m .csw = true) :
    State.Keeps m s (execFaultRecRx c s) := by
  unfold execFaultRecRx
  simp [*]

@[simp] theorem State.fmGo_mask (m : StateField → Bool) (s : State) (w : Nat) (op : Nat) (h_regs : m .regs = true) (h_kpr : m .kpr = true) (h_csw : m .csw = true) :
    State.mask m (State.fmGo s w op) = State.mask m s := by
  unfold State.fmGo
  repeat' first | (simp [*]; done) | (rw [State.mask_mk] <;> simp [*]; done) | refine (State.mask_foldl m _ (fun t x => ?_) _ _).trans ?_ | refine (State.mask_foldl_fst m _ (fun p x => ?_) _ _).trans ?_ | refine (State.mask_foldl_snd m _ (fun p x => ?_) _ _).trans ?_ | split | simp [*]

@[simp] theorem execGoRead_mask (m : StateField → Bool) (w : Win) (s : State) (h_regs : m .regs = true) (h_kpr : m .kpr = true) (h_csw : m .csw = true) :
    State.Keeps m s (execGoRead w s) := by
  unfold execGoRead
  simp [*]

@[simp] theorem execGoWrite_mask (m : StateField → Bool) (w : Win) (s : State) (h_regs : m .regs = true) (h_kpr : m .kpr = true) (h_csw : m .csw = true) :
    State.Keeps m s (execGoWrite w s) := by
  unfold execGoWrite
  simp [*]

@[simp] theorem execGoPing_mask (m : StateField → Bool) (w : Win) (s : State) (h_regs : m .regs = true) (h_kpr : m .kpr = true) (h_csw : m .csw = true) :
    State.Keeps m s (execGoPing w s) := by
  unfold execGoPing
  simp [*]

@[simp] theorem State.fmDone_mask (m : StateField → Bool) (s : State) (w : Nat) (result : Nat) (h_regs : m .regs = true) (h_kpr : m .kpr = true) :
    State.mask m (State.fmDone s w result) = State.mask m s := by
  unfold State.fmDone
  rw [State.mask_mk] <;> simp [*]

@[simp] theorem execFmRequestTimeout_mask (m : StateField → Bool) (w : Win) (s : State) (h_regs : m .regs = true) (h_kpr : m .kpr = true) :
    State.Keeps m s (execFmRequestTimeout w s) := by
  unfold execFmRequestTimeout
  split <;> simp [*]

@[simp] theorem State.fmAnswer_mask (m : StateField → Bool) (s : State) (w : Nat) (x : FmPending) (c : Cell) (h_regs : m .regs = true) (h_kpr : m .kpr = true) :
    State.mask m (State.fmAnswer s w x c) = State.mask m s := by
  unfold State.fmAnswer
  repeat' first | (simp [*]; done) | (rw [State.mask_mk] <;> simp [*]; done) | refine (State.mask_foldl m _ (fun t x => ?_) _ _).trans ?_ | refine (State.mask_foldl_fst m _ (fun p x => ?_) _ _).trans ?_ | refine (State.mask_foldl_snd m _ (fun p x => ?_) _ _).trans ?_ | split | simp [*]

@[simp] theorem State.fmMatch_mask (m : StateField → Bool) (s : State) (r : Nat) (c : Cell) (h_regs : m .regs = true) (h_kpr : m .kpr = true) :
    State.mask m (State.fmMatch s r c) = State.mask m s := by
  unfold State.fmMatch
  split <;> simp [*]

@[simp] theorem execFmRspRx_mask (m : StateField → Bool) (c : Cell) (s : State) (h_regs : m .regs = true) (h_kpr : m .kpr = true) (h_csw : m .csw = true) :
    State.Keeps m s (execFmRspRx c s) := by
  unfold execFmRspRx
  repeat' first | (simp [*]; done) | (rw [State.mask_mk] <;> simp [*]; done) | refine (State.mask_foldl m _ (fun t x => ?_) _ _).trans ?_ | refine (State.mask_foldl_fst m _ (fun p x => ?_) _ _).trans ?_ | refine (State.mask_foldl_snd m _ (fun p x => ?_) _ _).trans ?_ | split | simp [*]

@[simp] theorem State.fmRespond_mask (m : StateField → Bool) (s : State) (c : Cell) (result : Nat) (value : Nat) (h_csw : m .csw = true) :
    State.mask m (State.fmRespond s c result value) = State.mask m s := by
  unfold State.fmRespond
  simp [*]

@[simp] theorem State.fmRefuse_mask (m : StateField → Bool) (s : State) (c : Cell) (result : Nat) (h_csw : m .csw = true) (h_free : m .free = true) :
    State.mask m (State.fmRefuse s c result) = State.mask m s := by
  unfold State.fmRefuse
  simp [*]

@[simp] theorem execFmPingRx_mask (m : StateField → Bool) (c : Cell) (s : State) (h_csw : m .csw = true) (h_free : m .free = true) :
    State.Keeps m s (execFmPingRx c s) := by
  unfold execFmPingRx
  simp [*]

end Sys2Proof.Machine
end

