-- ==== Sys2Proof/Laws/Frame/Switch.lean ====
section
/-! SUPPORT. What each function of Machine/Switch.lean leaves alone. -/

namespace Sys2Proof.Machine

@[simp] theorem State.setCsw_mask (m : StateField → Bool) (s : State) (x : Csw) (h_csw : m .csw = true) :
    State.mask m (State.setCsw s x) = State.mask m s := by
  unfold State.setCsw
  rw [State.mask_mk] <;> simp [*]

@[simp] theorem State.takeRate_mask (m : StateField → Bool) (s : State) (input : Nat) (c : Cell) (h_csw : m .csw = true) :
    State.mask m (State.takeRate s input c) = State.mask m s := by
  unfold State.takeRate
  simp [*]

@[simp] theorem State.setRate_mask (m : StateField → Bool) (s : State) (node : Nat) (r : Nat) (h_csw : m .csw = true) :
    State.mask m (State.setRate s node r) = State.mask m s := by
  unfold State.setRate
  simp [*]

@[simp] theorem State.applyEcho_mask (m : StateField → Bool) (s : State) (node : Nat) (h_regs : m .regs = true) (h_csw : m .csw = true) :
    State.mask m (State.applyEcho s node) = State.mask m s := by
  unfold State.applyEcho
  simp [*]

@[simp] theorem execEchoRx_mask (m : StateField → Bool) (c : Cell) (s : State) (h_regs : m .regs = true) (h_csw : m .csw = true) :
    State.Keeps m s (execEchoRx c s) := by
  unfold execEchoRx
  simp [*]

@[simp] theorem State.owesEcho_mask (m : StateField → Bool) (s : State) (c : Cell) (h_csw : m .csw = true) :
    State.mask m (State.owesEcho s c) = State.mask m s := by
  unfold State.owesEcho
  simp [*]

@[simp] theorem execEchoWait_mask (m : StateField → Bool) (node : Fin 1024) (s : State) (h_regs : m .regs = true) (h_csw : m .csw = true) :
    State.Keeps m s (execEchoWait node s) := by
  unfold execEchoWait
  split <;> simp [*]

@[simp] theorem execIncPeriod_mask (m : StateField → Bool) (node : Fin 1024) (s : State) (h_csw : m .csw = true) :
    State.Keeps m s (execIncPeriod node s) := by
  unfold execIncPeriod
  simp [*]

@[simp] theorem execSeatFenceWrite_mask (m : StateField → Bool) (a : Source) (value : Word) (s : State) (h_regs : m .regs = true) (h_kpr : m .kpr = true) (h_lanes : m .lanes = true) (h_links : m .links = true) (h_csw : m .csw = true) (h_sec : m .sec = true) (h_script : m .script = true) (h_free : m .free = true) :
    State.Keeps m s (execSeatFenceWrite a value s) := by
  unfold execSeatFenceWrite
  simp [*]

@[simp] theorem State.wakePort_mask (m : StateField → Bool) (s0 : State) (s : State) (b : Budget) (p : Nat) (c : Cell) (h_regs : m .regs = true) (h_kpr : m .kpr = true) (h_lanes : m .lanes = true) (h_free : m .free = true) :
    State.mask m (State.wakePort s0 s b p c) = State.mask m s := by
  unfold State.wakePort
  repeat' first | (simp [*]; done) | (rw [State.mask_mk] <;> simp [*]; done) | refine (State.mask_foldl m _ (fun t x => ?_) _ _).trans ?_ | refine (State.mask_foldl_fst m _ (fun p x => ?_) _ _).trans ?_ | refine (State.mask_foldl_snd m _ (fun p x => ?_) _ _).trans ?_ | split | simp [*]

@[simp] theorem State.placeCell_mask (m : StateField → Bool) (s : State) (n : Nat) (c : Cell) (deflected : Bool) (h_regs : m .regs = true) (h_links : m .links = true) (h_csw : m .csw = true) :
    State.mask m (State.placeCell s n c deflected) = State.mask m s := by
  unfold State.placeCell
  simp [*]

@[simp] theorem State.takeFlag_mask (m : StateField → Bool) (s : State) (input : Nat) (c : Cell) (h_csw : m .csw = true) :
    State.mask m (State.takeFlag s input c).2 = State.mask m s := by
  unfold State.takeFlag
  split <;> simp [*]

@[simp] theorem State.withhold_mask (m : StateField → Bool) (s : State) (n : Nat) (h_regs : m .regs = true) (h_links : m .links = true) :
    State.mask m (State.withhold s n) = State.mask m s := by
  unfold State.withhold
  simp [*]

@[simp] theorem State.ejectTo_mask (m : StateField → Bool) (b : Budget) (v : PlateV) (s : State) (input : Nat) (c : Cell) (replica : Bool) (h_regs : m .regs = true) (h_kpr : m .kpr = true) (h_lanes : m .lanes = true) (h_links : m .links = true) (h_csw : m .csw = true) (h_sec : m .sec = true) (h_prm : m .prm = true) (h_free : m .free = true) :
    State.mask m (State.ejectTo b v s input c replica).2.2 = State.mask m s := by
  unfold State.ejectTo
  repeat' first | (simp [*]; done) | (rw [State.mask_mk] <;> simp [*]; done) | refine (State.mask_foldl m _ (fun t x => ?_) _ _).trans ?_ | refine (State.mask_foldl_fst m _ (fun p x => ?_) _ _).trans ?_ | refine (State.mask_foldl_snd m _ (fun p x => ?_) _ _).trans ?_ | split | simp [*]

@[simp] theorem State.seatHook_mask (m : StateField → Bool) (s : State) (seat : Nat) (c : Cell) (h_regs : m .regs = true) (h_kpr : m .kpr = true) (h_clk : m .clk = true) (h_lanes : m .lanes = true) (h_links : m .links = true) (h_csw : m .csw = true) (h_mem : m .mem = true) (h_sec : m .sec = true) (h_xfr : m .xfr = true) (h_prm : m .prm = true) (h_script : m .script = true) (h_eru : m .eru = true) (h_col : m .col = true) (h_upd : m .upd = true) (h_memory : m .memory = true) (h_free : m .free = true) :
    State.mask m (State.seatHook s seat c) = State.mask m s := by
  unfold State.seatHook
  simp [*]

@[simp] theorem State.seatTo_mask (m : StateField → Bool) (s0 : State) (b : Budget) (v : PlateV) (s : State) (input : Nat) (c : Cell) (replica : Bool) (h_regs : m .regs = true) (h_kpr : m .kpr = true) (h_clk : m .clk = true) (h_lanes : m .lanes = true) (h_links : m .links = true) (h_csw : m .csw = true) (h_mem : m .mem = true) (h_sec : m .sec = true) (h_xfr : m .xfr = true) (h_prm : m .prm = true) (h_script : m .script = true) (h_eru : m .eru = true) (h_col : m .col = true) (h_upd : m .upd = true) (h_memory : m .memory = true) (h_free : m .free = true) :
    State.mask m (State.seatTo s0 b v s input c replica).2.2 = State.mask m s := by
  unfold State.seatTo
  dsimp only
  repeat' first | rfl | (simp [*]; done) | split

@[simp] theorem State.routeTo_mask (m : StateField → Bool) (s0 : State) (b : Budget) (v : PlateV) (s : State) (c : Cell) (excluded : Option Nat) (h_regs : m .regs = true) (h_kpr : m .kpr = true) (h_lanes : m .lanes = true) (h_links : m .links = true) (h_csw : m .csw = true) (h_free : m .free = true) :
    State.mask m (State.routeTo s0 b v s c excluded).2.2 = State.mask m s := by
  unfold State.routeTo
  dsimp only
  repeat' first | rfl | (simp [*]; done) | split

@[simp] theorem State.placeReplicas_mask (m : StateField → Bool) (s0 : State) (v : PlateV) (input : Nat) (x1 : List Cell) (x2 : Budget) (x3 : State) (h_regs : m .regs = true) (h_kpr : m .kpr = true) (h_clk : m .clk = true) (h_lanes : m .lanes = true) (h_links : m .links = true) (h_csw : m .csw = true) (h_mem : m .mem = true) (h_sec : m .sec = true) (h_xfr : m .xfr = true) (h_prm : m .prm = true) (h_script : m .script = true) (h_eru : m .eru = true) (h_col : m .col = true) (h_upd : m .upd = true) (h_memory : m .memory = true) (h_free : m .free = true) :
    State.mask m (State.placeReplicas s0 v input x1 x2 x3).2.2 = State.mask m x3 := by
  induction x1 generalizing x2 x3 with
  | nil => rw [State.placeReplicas]
  | cons a t ih =>
    rw [State.placeReplicas]
    dsimp only
    rw [ih]
    repeat' first | rfl | (simp [*]; done) | split

@[simp] theorem State.noteSenior_mask (m : StateField → Bool) (s : State) (c : Cell) (h_regs : m .regs = true) (h_csw : m .csw = true) :
    State.mask m (State.noteSenior s c) = State.mask m s := by
  unfold State.noteSenior
  repeat' first | (simp [*]; done) | (rw [State.mask_mk] <;> simp [*]; done) | refine (State.mask_foldl m _ (fun t x => ?_) _ _).trans ?_ | refine (State.mask_foldl_fst m _ (fun p x => ?_) _ _).trans ?_ | refine (State.mask_foldl_snd m _ (fun p x => ?_) _ _).trans ?_ | split | simp [*]

@[simp] theorem State.leaveInput_mask (m : StateField → Bool) (s : State) (input : Nat) (c : Cell) (h_links : m .links = true) (h_csw : m .csw = true) :
    State.mask m (State.leaveInput s input c) = State.mask m s := by
  unfold State.leaveInput
  repeat' first | (simp [*]; done) | (rw [State.mask_mk] <;> simp [*]; done) | refine (State.mask_foldl m _ (fun t x => ?_) _ _).trans ?_ | refine (State.mask_foldl_fst m _ (fun p x => ?_) _ _).trans ?_ | refine (State.mask_foldl_snd m _ (fun p x => ?_) _ _).trans ?_ | split | simp [*]

@[simp] theorem leaves_mask (m : StateField → Bool) (b : Budget) (input : Nat) (c : Cell) (s : State) (h_links : m .links = true) (h_csw : m .csw = true) :
    State.mask m (leaves b input c s).2 = State.mask m s := by
  unfold leaves
  simp [*]

@[simp] theorem State.bareTurn_mask (m : StateField → Bool) (s0 : State) (b : Budget) (input : Nat) (c : Cell) (s : State) (h_regs : m .regs = true) (h_kpr : m .kpr = true) (h_lanes : m .lanes = true) (h_links : m .links = true) (h_csw : m .csw = true) (h_free : m .free = true) :
    State.mask m (State.bareTurn s0 b input c s).2 = State.mask m s := by
  unfold State.bareTurn
  repeat' first | (simp [*]; done) | (rw [State.mask_mk] <;> simp [*]; done) | refine (State.mask_foldl m _ (fun t x => ?_) _ _).trans ?_ | refine (State.mask_foldl_fst m _ (fun p x => ?_) _ _).trans ?_ | refine (State.mask_foldl_snd m _ (fun p x => ?_) _ _).trans ?_ | split | simp [*]

@[simp] theorem State.treeTurn_mask (m : StateField → Bool) (s0 : State) (b : Budget) (v : PlateV) (input : Nat) (c : Cell) (s : State) (h_regs : m .regs = true) (h_kpr : m .kpr = true) (h_clk : m .clk = true) (h_lanes : m .lanes = true) (h_links : m .links = true) (h_csw : m .csw = true) (h_mem : m .mem = true) (h_sec : m .sec = true) (h_xfr : m .xfr = true) (h_prm : m .prm = true) (h_script : m .script = true) (h_eru : m .eru = true) (h_col : m .col = true) (h_upd : m .upd = true) (h_memory : m .memory = true) (h_free : m .free = true) :
    State.mask m (State.treeTurn s0 b v input c s).2 = State.mask m s := by
  unfold State.treeTurn
  dsimp only
  repeat' first | rfl | (simp [*]; done) | split

@[simp] theorem State.resolve_mask (m : StateField → Bool) (s0 : State) (b : Budget) (v : PlateV) (input : Nat) (c : Cell) (s : State) (h_regs : m .regs = true) (h_kpr : m .kpr = true) (h_clk : m .clk = true) (h_lanes : m .lanes = true) (h_links : m .links = true) (h_csw : m .csw = true) (h_mem : m .mem = true) (h_sec : m .sec = true) (h_xfr : m .xfr = true) (h_prm : m .prm = true) (h_script : m .script = true) (h_eru : m .eru = true) (h_col : m .col = true) (h_upd : m .upd = true) (h_memory : m .memory = true) (h_free : m .free = true) :
    State.mask m (State.resolve s0 b v input c s).2 = State.mask m s := by
  unfold State.resolve
  dsimp only
  repeat' first | rfl | (simp [*]; done) | split

@[simp] theorem State.cellTurn_mask (m : StateField → Bool) (s0 : State) (b : Budget) (input : Nat) (c : Cell) (s : State) (h_regs : m .regs = true) (h_kpr : m .kpr = true) (h_clk : m .clk = true) (h_lanes : m .lanes = true) (h_links : m .links = true) (h_csw : m .csw = true) (h_mem : m .mem = true) (h_sec : m .sec = true) (h_xfr : m .xfr = true) (h_prm : m .prm = true) (h_script : m .script = true) (h_eru : m .eru = true) (h_col : m .col = true) (h_upd : m .upd = true) (h_memory : m .memory = true) (h_free : m .free = true) :
    State.mask m (State.cellTurn s0 b input c s).2 = State.mask m s := by
  unfold State.cellTurn
  dsimp only
  repeat' first | rfl | (simp [*]; done) | split

@[simp] theorem State.dropBadClass_mask (m : StateField → Bool) (s : State) (h_regs : m .regs = true) (h_links : m .links = true) (h_csw : m .csw = true) :
    State.mask m (State.dropBadClass s) = State.mask m s := by
  unfold State.dropBadClass
  repeat' first | (simp [*]; done) | (rw [State.mask_mk] <;> simp [*]; done) | refine (State.mask_foldl m _ (fun t x => ?_) _ _).trans ?_ | refine (State.mask_foldl_fst m _ (fun p x => ?_) _ _).trans ?_ | refine (State.mask_foldl_snd m _ (fun p x => ?_) _ _).trans ?_ | split | simp [*]

@[simp] theorem State.offerTurn_mask (m : StateField → Bool) (s0 : State) (a : Budget × State) (x : Nat × Cell) (h_regs : m .regs = true) (h_kpr : m .kpr = true) (h_clk : m .clk = true) (h_lanes : m .lanes = true) (h_links : m .links = true) (h_csw : m .csw = true) (h_mem : m .mem = true) (h_sec : m .sec = true) (h_xfr : m .xfr = true) (h_prm : m .prm = true) (h_script : m .script = true) (h_eru : m .eru = true) (h_col : m .col = true) (h_upd : m .upd = true) (h_memory : m .memory = true) (h_free : m .free = true) :
    State.mask m (State.offerTurn s0 a x).2 = State.mask m a.2 := by
  unfold State.offerTurn
  dsimp only
  split <;> simp [*]

@[simp] theorem State.turns_mask (m : StateField → Bool) (s0 : State) (xs : List (Nat × Cell)) (b : Budget) (s : State) (h_regs : m .regs = true) (h_kpr : m .kpr = true) (h_clk : m .clk = true) (h_lanes : m .lanes = true) (h_links : m .links = true) (h_csw : m .csw = true) (h_mem : m .mem = true) (h_sec : m .sec = true) (h_xfr : m .xfr = true) (h_prm : m .prm = true) (h_script : m .script = true) (h_eru : m .eru = true) (h_col : m .col = true) (h_upd : m .upd = true) (h_memory : m .memory = true) (h_free : m .free = true) :
    State.mask m (State.turns s0 xs b s).2 = State.mask m s := by
  unfold State.turns
  exact State.mask_foldl_snd m _ (fun p x => by simp [*]) _ _

@[simp] theorem State.rounds_mask (m : StateField → Bool) (s0 : State) (x1 : Nat) (x2 : Budget) (x3 : State) (h_regs : m .regs = true) (h_kpr : m .kpr = true) (h_clk : m .clk = true) (h_lanes : m .lanes = true) (h_links : m .links = true) (h_csw : m .csw = true) (h_mem : m .mem = true) (h_sec : m .sec = true) (h_xfr : m .xfr = true) (h_prm : m .prm = true) (h_script : m .script = true) (h_eru : m .eru = true) (h_col : m .col = true) (h_upd : m .upd = true) (h_memory : m .memory = true) (h_free : m .free = true) :
    State.mask m (State.rounds s0 x1 x2 x3) = State.mask m x3 := by
  induction x1 generalizing x2 x3 with
  | zero => rw [State.rounds]
  | succ f ih =>
    rw [State.rounds]
    split
    · rfl
    · dsimp only
      rw [ih]; simp [*]

@[simp] theorem State.choose_mask (m : StateField → Bool) (s : State) (h_regs : m .regs = true) (h_kpr : m .kpr = true) (h_clk : m .clk = true) (h_lanes : m .lanes = true) (h_links : m .links = true) (h_csw : m .csw = true) (h_mem : m .mem = true) (h_sec : m .sec = true) (h_xfr : m .xfr = true) (h_prm : m .prm = true) (h_script : m .script = true) (h_eru : m .eru = true) (h_col : m .col = true) (h_upd : m .upd = true) (h_memory : m .memory = true) (h_free : m .free = true) :
    State.mask m (State.choose s) = State.mask m s := by
  unfold State.choose
  repeat' first | (simp [*]; done) | (rw [State.mask_mk] <;> simp [*]; done) | refine (State.mask_foldl m _ (fun t x => ?_) _ _).trans ?_ | refine (State.mask_foldl_fst m _ (fun p x => ?_) _ _).trans ?_ | refine (State.mask_foldl_snd m _ (fun p x => ?_) _ _).trans ?_ | split | simp [*]

@[simp] theorem execCellOutputChoice_mask (m : StateField → Bool) (s : State) (h_regs : m .regs = true) (h_kpr : m .kpr = true) (h_clk : m .clk = true) (h_lanes : m .lanes = true) (h_links : m .links = true) (h_csw : m .csw = true) (h_mem : m .mem = true) (h_sec : m .sec = true) (h_xfr : m .xfr = true) (h_prm : m .prm = true) (h_script : m .script = true) (h_eru : m .eru = true) (h_col : m .col = true) (h_upd : m .upd = true) (h_memory : m .memory = true) (h_free : m .free = true) :
    State.Keeps m s (execCellOutputChoice s) := by
  unfold execCellOutputChoice
  repeat' first | (simp [*]; done) | (rw [State.mask_mk] <;> simp [*]; done) | refine (State.mask_foldl m _ (fun t x => ?_) _ _).trans ?_ | refine (State.mask_foldl_fst m _ (fun p x => ?_) _ _).trans ?_ | refine (State.mask_foldl_snd m _ (fun p x => ?_) _ _).trans ?_ | split | simp [*]

@[simp] theorem execDeferredEjection_mask (m : StateField → Bool) (n : LinkIx) (s : State) (h_regs : m .regs = true) (h_kpr : m .kpr = true) (h_clk : m .clk = true) (h_lanes : m .lanes = true) (h_links : m .links = true) (h_csw : m .csw = true) (h_mem : m .mem = true) (h_sec : m .sec = true) (h_xfr : m .xfr = true) (h_prm : m .prm = true) (h_script : m .script = true) (h_eru : m .eru = true) (h_col : m .col = true) (h_upd : m .upd = true) (h_memory : m .memory = true) (h_free : m .free = true) :
    State.Keeps m s (execDeferredEjection n s) := by
  unfold execDeferredEjection
  repeat' first | (simp [*]; done) | (rw [State.mask_mk] <;> simp [*]; done) | refine (State.mask_foldl m _ (fun t x => ?_) _ _).trans ?_ | refine (State.mask_foldl_fst m _ (fun p x => ?_) _ _).trans ?_ | refine (State.mask_foldl_snd m _ (fun p x => ?_) _ _).trans ?_ | extract_lets | dsimp only | split | simp [*]

end Sys2Proof.Machine
end

