-- ==== Sys2Proof/Laws/Frame/Verify.lean ====
section
/-! SUPPORT. What each function of Machine/Verify.lean leaves alone. -/

namespace Sys2Proof.Machine

@[simp] theorem State.loadFails_mask (m : StateField → Bool) (s : State) (f : Failure) (h_regs : m .regs = true) (h_plt : m .plt = true) :
    State.mask m (State.loadFails s f) = State.mask m s := by
  unfold State.loadFails
  simp [*]

@[simp] theorem State.loadReady_mask (m : StateField → Bool) (s : State) (v : PlateV) (h_plt : m .plt = true) :
    State.mask m (State.loadReady s v) = State.mask m s := by
  unfold State.loadReady
  simp [*]

@[simp] theorem State.verify_mask (m : StateField → Bool) (s : State) (h_regs : m .regs = true) (h_kpr : m .kpr = true) (h_plt : m .plt = true) :
    State.mask m (State.verify s) = State.mask m s := by
  unfold State.verify
  repeat' first | (simp [*]; done) | (rw [State.mask_mk] <;> simp [*]; done) | refine (State.mask_foldl m _ (fun t x => ?_) _ _).trans ?_ | refine (State.mask_foldl_fst m _ (fun p x => ?_) _ _).trans ?_ | refine (State.mask_foldl_snd m _ (fun p x => ?_) _ _).trans ?_ | split | simp [*]

@[simp] theorem State.endedNow_mask (m : StateField → Bool) (s : State) (h_plt : m .plt = true) :
    State.mask m (State.endedNow s) = State.mask m s := by
  unfold State.endedNow
  repeat' first | (simp [*]; done) | (rw [State.mask_mk] <;> simp [*]; done) | refine (State.mask_foldl m _ (fun t x => ?_) _ _).trans ?_ | refine (State.mask_foldl_fst m _ (fun p x => ?_) _ _).trans ?_ | refine (State.mask_foldl_snd m _ (fun p x => ?_) _ _).trans ?_ | split | simp [*]

@[simp] theorem execVerificationDone_mask (m : StateField → Bool) (s : State) (h_regs : m .regs = true) (h_kpr : m .kpr = true) (h_plt : m .plt = true) :
    State.Keeps m s (execVerificationDone s) := by
  unfold execVerificationDone
  repeat' first | (simp [*]; done) | (rw [State.mask_mk] <;> simp [*]; done) | refine (State.mask_foldl m _ (fun t x => ?_) _ _).trans ?_ | refine (State.mask_foldl_fst m _ (fun p x => ?_) _ _).trans ?_ | refine (State.mask_foldl_snd m _ (fun p x => ?_) _ _).trans ?_ | split | simp [*]

end Sys2Proof.Machine
end

