-- ==== Sys2Proof/Laws/Frame/Plate.lean ====
section
/-! SUPPORT. What each function of Machine/Plate.lean leaves alone. -/

namespace Sys2Proof.Machine

@[simp] theorem State.startRegions_mask (m : StateField → Bool) (s : State) (old : Option PlateV) (v : PlateV) (h_mem : m .mem = true) :
    State.mask m (State.startRegions s old v) = State.mask m s := by
  unfold State.startRegions
  repeat' first | (simp [*]; done) | (rw [State.mask_mk] <;> simp [*]; done) | refine (State.mask_foldl m _ (fun t x => ?_) _ _).trans ?_ | refine (State.mask_foldl_fst m _ (fun p x => ?_) _ _).trans ?_ | refine (State.mask_foldl_snd m _ (fun p x => ?_) _ _).trans ?_ | split | simp [*]

@[simp] theorem State.loadChannels_mask (m : StateField → Bool) (s : State) (v : PlateV) (h_regs : m .regs = true) :
    State.mask m (State.loadChannels s v) = State.mask m s := by
  unfold State.loadChannels
  repeat' first | (simp [*]; done) | (rw [State.mask_mk] <;> simp [*]; done) | refine (State.mask_foldl m _ (fun t x => ?_) _ _).trans ?_ | refine (State.mask_foldl_fst m _ (fun p x => ?_) _ _).trans ?_ | refine (State.mask_foldl_snd m _ (fun p x => ?_) _ _).trans ?_ | split | simp [*]

@[simp] theorem State.loadPinClass_mask (m : StateField → Bool) (s : State) (v : PlateV) (h_regs : m .regs = true) :
    State.mask m (State.loadPinClass s v) = State.mask m s := by
  unfold State.loadPinClass
  simp [*]

@[simp] theorem State.roleLink_mask (m : StateField → Bool) (s : State) (n : Nat) (h_regs : m .regs = true) (h_kpr : m .kpr = true) (h_clk : m .clk = true) (h_lanes : m .lanes = true) (h_links : m .links = true) (h_csw : m .csw = true) (h_sec : m .sec = true) (h_free : m .free = true) :
    State.mask m (State.roleLink s n) = State.mask m s := by
  unfold State.roleLink
  repeat' first | (simp [*]; done) | (rw [State.mask_mk] <;> simp [*]; done) | refine (State.mask_foldl m _ (fun t x => ?_) _ _).trans ?_ | refine (State.mask_foldl_fst m _ (fun p x => ?_) _ _).trans ?_ | refine (State.mask_foldl_snd m _ (fun p x => ?_) _ _).trans ?_ | split | simp [*]

@[simp] theorem State.sealed_mask (m : StateField → Bool) (s : State) (v : PlateV) (h_regs : m .regs = true) (h_kpr : m .kpr = true) (h_plt : m .plt = true) (h_clk : m .clk = true) (h_lanes : m .lanes = true) (h_links : m .links = true) (h_csw : m .csw = true) (h_mem : m .mem = true) (h_sec : m .sec = true) (h_script : m .script = true) (h_free : m .free = true) :
    State.mask m (State.sealed s v) = State.mask m s := by
  unfold State.sealed
  repeat' first | (simp [*]; done) | (rw [State.mask_mk] <;> simp [*]; done) | refine (State.mask_foldl m _ (fun t x => ?_) _ _).trans ?_ | refine (State.mask_foldl_fst m _ (fun p x => ?_) _ _).trans ?_ | refine (State.mask_foldl_snd m _ (fun p x => ?_) _ _).trans ?_ | split | simp [*]

@[simp] theorem execSealPlate_mask (m : StateField → Bool) (w : Win) (s : State) (h_regs : m .regs = true) (h_kpr : m .kpr = true) (h_plt : m .plt = true) (h_clk : m .clk = true) (h_lanes : m .lanes = true) (h_links : m .links = true) (h_csw : m .csw = true) (h_mem : m .mem = true) (h_sec : m .sec = true) (h_script : m .script = true) (h_free : m .free = true) :
    State.Keeps m s (execSealPlate w s) := by
  unfold execSealPlate
  split <;> (try split) <;> simp [*]

@[simp] theorem State.endChannels_mask (m : StateField → Bool) (s : State) (v : PlateV) (h_prm : m .prm = true) :
    State.mask m (State.endChannels s v) = State.mask m s := by
  unfold State.endChannels
  rw [State.mask_mk] <;> simp [*]

@[simp] theorem State.drainRemoved_mask (m : StateField → Bool) (s : State) (old : PlateV) (v : PlateV) (h_xfr : m .xfr = true) :
    State.mask m (State.drainRemoved s old v) = State.mask m s := by
  unfold State.drainRemoved
  repeat' first | (simp [*]; done) | (rw [State.mask_mk] <;> simp [*]; done) | refine (State.mask_foldl m _ (fun t x => ?_) _ _).trans ?_ | refine (State.mask_foldl_fst m _ (fun p x => ?_) _ _).trans ?_ | refine (State.mask_foldl_snd m _ (fun p x => ?_) _ _).trans ?_ | split | simp [*]

@[simp] theorem State.clearLost_mask (m : StateField → Bool) (s : State) (h_regs : m .regs = true) :
    State.mask m (State.clearLost s) = State.mask m s := by
  unfold State.clearLost
  exact State.mask_foldl m _ (fun t x => by simp [*]) _ _

@[simp] theorem State.flipped_mask (m : StateField → Bool) (s : State) (old : PlateV) (v : PlateV) (h_regs : m .regs = true) (h_kpr : m .kpr = true) (h_clk : m .clk = true) (h_lanes : m .lanes = true) (h_links : m .links = true) (h_csw : m .csw = true) (h_mem : m .mem = true) (h_sec : m .sec = true) (h_xfr : m .xfr = true) (h_prm : m .prm = true) (h_script : m .script = true) (h_free : m .free = true) :
    State.mask m (State.flipped s old v) = State.mask m s := by
  unfold State.flipped
  repeat' first | (simp [*]; done) | (rw [State.mask_mk] <;> simp [*]; done) | refine (State.mask_foldl m _ (fun t x => ?_) _ _).trans ?_ | refine (State.mask_foldl_fst m _ (fun p x => ?_) _ _).trans ?_ | refine (State.mask_foldl_snd m _ (fun p x => ?_) _ _).trans ?_ | split | simp [*]

@[simp] theorem execFlip_mask (m : StateField → Bool) (s : State) (h_regs : m .regs = true) (h_kpr : m .kpr = true) (h_plt : m .plt = true) (h_clk : m .clk = true) (h_lanes : m .lanes = true) (h_links : m .links = true) (h_csw : m .csw = true) (h_mem : m .mem = true) (h_sec : m .sec = true) (h_xfr : m .xfr = true) (h_prm : m .prm = true) (h_script : m .script = true) (h_free : m .free = true) :
    State.Keeps m s (execFlip s) := by
  unfold execFlip
  split <;> simp [*]

@[simp] theorem State.releaseRegions_mask (m : StateField → Bool) (s : State) (old : PlateV) (v : PlateV) (h_mem : m .mem = true) :
    State.mask m (State.releaseRegions s old v) = State.mask m s := by
  unfold State.releaseRegions
  rw [State.mask_mk] <;> simp [*]

@[simp] theorem execRetireRelease_mask (m : StateField → Bool) (s : State) (h_regs : m .regs = true) (h_kpr : m .kpr = true) (h_plt : m .plt = true) (h_lanes : m .lanes = true) (h_links : m .links = true) (h_csw : m .csw = true) (h_mem : m .mem = true) (h_sec : m .sec = true) (h_script : m .script = true) (h_free : m .free = true) :
    State.Keeps m s (execRetireRelease s) := by
  unfold execRetireRelease
  split <;> simp [*]

end Sys2Proof.Machine
end

