-- ==== Sys2Proof/Laws/Frame/Power.lean ====
section
/-! SUPPORT. What each function of Machine/Power.lean leaves alone. -/

namespace Sys2Proof.Machine

@[simp] theorem State.setKpr_mask (m : StateField → Bool) (s : State) (x : Kpr) (h_kpr : m .kpr = true) :
    State.mask m (State.setKpr s x) = State.mask m s := by
  unfold State.setKpr
  rw [State.mask_mk] <;> simp [*]

@[simp] theorem State.cutFuse_mask (m : StateField → Bool) (s : State) (h_fuses : m .fuses = true) (h_free : m .free = true) :
    State.mask m (State.cutFuse s) = State.mask m s := by
  unfold State.cutFuse
  repeat' first | (simp [*]; done) | (rw [State.mask_mk] <;> simp [*]; done) | refine (State.mask_foldl m _ (fun t x => ?_) _ _).trans ?_ | refine (State.mask_foldl_fst m _ (fun p x => ?_) _ _).trans ?_ | refine (State.mask_foldl_snd m _ (fun p x => ?_) _ _).trans ?_ | split | simp [*]

@[simp] theorem execKeeperPowerOnReset_mask (m : StateField → Bool) (straps : BitVec 10) (s : State) (h_regs : m .regs = true) (h_sels : m .sels = true) (h_latches : m .latches = true) (h_fuses : m .fuses = true) (h_kpr : m .kpr = true) (h_plt : m .plt = true) (h_clk : m .clk = true) (h_lanes : m .lanes = true) (h_links : m .links = true) (h_csw : m .csw = true) (h_mem : m .mem = true) (h_sec : m .sec = true) (h_xfr : m .xfr = true) (h_prm : m .prm = true) (h_script : m .script = true) (h_eru : m .eru = true) (h_col : m .col = true) (h_upd : m .upd = true) (h_intm : m .intm = true) (h_commits : m .commits = true) (h_verifies : m .verifies = true) (h_hostRead : m .hostRead = true) (h_memory : m .memory = true) (h_free : m .free = true) :
    State.Keeps m s (execKeeperPowerOnReset straps s) := by
  unfold execKeeperPowerOnReset
  repeat' first | (simp [*]; done) | (rw [State.mask_mk] <;> simp [*]; done) | refine (State.mask_foldl m _ (fun t x => ?_) _ _).trans ?_ | refine (State.mask_foldl_fst m _ (fun p x => ?_) _ _).trans ?_ | refine (State.mask_foldl_snd m _ (fun p x => ?_) _ _).trans ?_ | split | simp [*]

@[simp] theorem State.loseWork_mask (m : StateField → Bool) (s : State) (h_csw : m .csw = true) (h_xfr : m .xfr = true) (h_prm : m .prm = true) (h_script : m .script = true) (h_eru : m .eru = true) (h_col : m .col = true) (h_upd : m .upd = true) (h_commits : m .commits = true) (h_verifies : m .verifies = true) :
    State.mask m (State.loseWork s) = State.mask m s := by
  unfold State.loseWork
  rw [State.mask_mk] <;> simp [*]

@[simp] theorem State.clearPlate_mask (m : StateField → Bool) (s : State) (h_regs : m .regs = true) (h_sels : m .sels = true) (h_latches : m .latches = true) (h_plt : m .plt = true) (h_mem : m .mem = true) (h_intm : m .intm = true) :
    State.mask m (State.clearPlate s) = State.mask m s := by
  unfold State.clearPlate
  rw [State.mask_mk] <;> simp [*]

@[simp] theorem State.loseSync_mask (m : StateField → Bool) (s : State) (h_regs : m .regs = true) (h_kpr : m .kpr = true) (h_clk : m .clk = true) (h_lanes : m .lanes = true) (h_links : m .links = true) (h_csw : m .csw = true) (h_sec : m .sec = true) (h_free : m .free = true) :
    State.mask m (State.loseSync s) = State.mask m s := by
  unfold State.loseSync
  repeat' first | (simp [*]; done) | (rw [State.mask_mk] <;> simp [*]; done) | refine (State.mask_foldl m _ (fun t x => ?_) _ _).trans ?_ | refine (State.mask_foldl_fst m _ (fun p x => ?_) _ _).trans ?_ | refine (State.mask_foldl_snd m _ (fun p x => ?_) _ _).trans ?_ | split | simp [*]

@[simp] theorem State.resetNode_mask (m : StateField → Bool) (s : State) (last : Nat) (h_regs : m .regs = true) (h_sels : m .sels = true) (h_latches : m .latches = true) (h_fuses : m .fuses = true) (h_kpr : m .kpr = true) (h_plt : m .plt = true) (h_clk : m .clk = true) (h_lanes : m .lanes = true) (h_links : m .links = true) (h_csw : m .csw = true) (h_mem : m .mem = true) (h_sec : m .sec = true) (h_xfr : m .xfr = true) (h_prm : m .prm = true) (h_script : m .script = true) (h_eru : m .eru = true) (h_col : m .col = true) (h_upd : m .upd = true) (h_intm : m .intm = true) (h_commits : m .commits = true) (h_verifies : m .verifies = true) (h_free : m .free = true) :
    State.mask m (State.resetNode s last) = State.mask m s := by
  unfold State.resetNode
  extract_lets s1 s2 power kk
  have h1 : State.mask m s1 = State.mask m s := by unfold s1; split <;> simp [*]
  rw [State.setKpr_mask]
  · unfold s2; simp [*]
  · assumption

@[simp] theorem execNodeReset_mask (m : StateField → Bool) (src : ResetBy) (s : State) (h_regs : m .regs = true) (h_sels : m .sels = true) (h_latches : m .latches = true) (h_fuses : m .fuses = true) (h_kpr : m .kpr = true) (h_plt : m .plt = true) (h_clk : m .clk = true) (h_lanes : m .lanes = true) (h_links : m .links = true) (h_csw : m .csw = true) (h_mem : m .mem = true) (h_sec : m .sec = true) (h_xfr : m .xfr = true) (h_prm : m .prm = true) (h_script : m .script = true) (h_eru : m .eru = true) (h_col : m .col = true) (h_upd : m .upd = true) (h_intm : m .intm = true) (h_commits : m .commits = true) (h_verifies : m .verifies = true) (h_free : m .free = true) :
    State.Keeps m s (execNodeReset src s) := by
  unfold execNodeReset
  repeat' first | (simp [*]; done) | (rw [State.mask_mk] <;> simp [*]; done) | refine (State.mask_foldl m _ (fun t x => ?_) _ _).trans ?_ | refine (State.mask_foldl_fst m _ (fun p x => ?_) _ _).trans ?_ | refine (State.mask_foldl_snd m _ (fun p x => ?_) _ _).trans ?_ | split | simp [*]

@[simp] theorem execHostWindowReset_mask (m : StateField → Bool) (w : Win) (s : State) (h_regs : m .regs = true) (h_sels : m .sels = true) (h_latches : m .latches = true) (h_kpr : m .kpr = true) (h_plt : m .plt = true) (h_xfr : m .xfr = true) (h_script : m .script = true) :
    State.Keeps m s (execHostWindowReset w s) := by
  unfold execHostWindowReset
  repeat' first | (simp [*]; done) | (rw [State.mask_mk] <;> simp [*]; done) | refine (State.mask_foldl m _ (fun t x => ?_) _ _).trans ?_ | refine (State.mask_foldl_fst m _ (fun p x => ?_) _ _).trans ?_ | refine (State.mask_foldl_snd m _ (fun p x => ?_) _ _).trans ?_ | split | simp [*]

@[simp] theorem State.bootFails_mask (m : StateField → Bool) (s : State) (cause : Nat) (h_kpr : m .kpr = true) :
    State.mask m (State.bootFails s cause) = State.mask m s := by
  unfold State.bootFails
  simp [*]

@[simp] theorem State.deriveIdentity_mask (m : StateField → Bool) (s : State) (meas : BitVec 384) (h_regs : m .regs = true) (h_sec : m .sec = true) :
    State.mask m (State.deriveIdentity s meas) = State.mask m s := by
  unfold State.deriveIdentity
  simp [*]

@[simp] theorem State.startFirmware_mask (m : StateField → Bool) (s : State) (image : List Byte) (meas : BitVec 384) (h_regs : m .regs = true) (h_kpr : m .kpr = true) (h_sec : m .sec = true) :
    State.mask m (State.startFirmware s image meas) = State.mask m s := by
  unfold State.startFirmware
  simp [*]

@[simp] theorem execFirmwareBoot_mask (m : StateField → Bool) (image : List Byte) (s : State) (h_regs : m .regs = true) (h_kpr : m .kpr = true) (h_sec : m .sec = true) :
    State.Keeps m s (execFirmwareBoot image s) := by
  unfold execFirmwareBoot
  simp [*]

@[simp] theorem State.refusePower_mask (m : StateField → Bool) (s : State) (why : Nat) (h_kpr : m .kpr = true) :
    State.mask m (State.refusePower s why) = State.mask m s := by
  unfold State.refusePower
  simp [*]

@[simp] theorem execRun_mask (m : StateField → Bool) (w : Option Win) (s : State) (h_regs : m .regs = true) (h_kpr : m .kpr = true) (h_mem : m .mem = true) :
    State.Keeps m s (execRun w s) := by
  unfold execRun
  split <;> (try split) <;> simp [*]

@[simp] theorem State.startSleep_mask (m : StateField → Bool) (s : State) (h_regs : m .regs = true) (h_kpr : m .kpr = true) (h_lanes : m .lanes = true) (h_links : m .links = true) (h_csw : m .csw = true) (h_mem : m .mem = true) (h_sec : m .sec = true) (h_xfr : m .xfr = true) (h_script : m .script = true) (h_memory : m .memory = true) (h_free : m .free = true) :
    State.mask m (State.startSleep s) = State.mask m s := by
  unfold State.startSleep
  simp [*]

@[simp] theorem execSleep_mask (m : StateField → Bool) (w : Win) (s : State) (h_regs : m .regs = true) (h_kpr : m .kpr = true) (h_lanes : m .lanes = true) (h_links : m .links = true) (h_csw : m .csw = true) (h_mem : m .mem = true) (h_sec : m .sec = true) (h_xfr : m .xfr = true) (h_script : m .script = true) (h_memory : m .memory = true) (h_free : m .free = true) :
    State.Keeps m s (execSleep w s) := by
  unfold execSleep
  simp [*]

@[simp] theorem State.enginesLow_mask (m : StateField → Bool) (s : State) (h_regs : m .regs = true) :
    State.mask m (State.enginesLow s) = State.mask m s := by
  unfold State.enginesLow
  exact State.mask_foldl m _ (fun t x => by simp [*]) _ _

@[simp] theorem State.holdClock_mask (m : StateField → Bool) (s : State) (h_regs : m .regs = true) (h_kpr : m .kpr = true) (h_clk : m .clk = true) (h_lanes : m .lanes = true) (h_links : m .links = true) (h_csw : m .csw = true) (h_sec : m .sec = true) (h_free : m .free = true) :
    State.mask m (State.holdClock s) = State.mask m s := by
  unfold State.holdClock
  repeat' first | (simp [*]; done) | (rw [State.mask_mk] <;> simp [*]; done) | refine (State.mask_foldl m _ (fun t x => ?_) _ _).trans ?_ | refine (State.mask_foldl_fst m _ (fun p x => ?_) _ _).trans ?_ | refine (State.mask_foldl_snd m _ (fun p x => ?_) _ _).trans ?_ | split | simp [*]

@[simp] theorem execSleepEntryDone_mask (m : StateField → Bool) (s : State) (h_regs : m .regs = true) (h_kpr : m .kpr = true) (h_clk : m .clk = true) (h_lanes : m .lanes = true) (h_links : m .links = true) (h_csw : m .csw = true) (h_mem : m .mem = true) (h_sec : m .sec = true) (h_xfr : m .xfr = true) (h_prm : m .prm = true) (h_script : m .script = true) (h_eru : m .eru = true) (h_col : m .col = true) (h_upd : m .upd = true) (h_intm : m .intm = true) (h_commits : m .commits = true) (h_verifies : m .verifies = true) (h_free : m .free = true) :
    State.Keeps m s (execSleepEntryDone s) := by
  unfold execSleepEntryDone
  split
  · rfl
  extract_lets s1 m1 i1 s2 k1 s3
  have h1 : State.mask m s1 = State.mask m s := by unfold s1; simp [*]
  have h2 : State.mask m s2 = State.mask m s1 := by unfold s2; rw [State.mask_mk] <;> simp [*]
  have h3 : State.mask m s3 = State.mask m s2 := by unfold s3; simp [*]
  rw [State.keeps_next]
  split
  · rw [State.startWake_mask, h3, h2, h1] <;> assumption
  · rw [h3, h2, h1]

@[simp] theorem State.gateDomain_mask (m : StateField → Bool) (s : State) (d : Domain) (stopped : Bool) (h_regs : m .regs = true) (h_kpr : m .kpr = true) (h_lanes : m .lanes = true) (h_free : m .free = true) :
    State.mask m (State.gateDomain s d stopped) = State.mask m s := by
  unfold State.gateDomain
  dsimp only
  split <;> simp [*]

@[simp] theorem execDomainGate_mask (m : StateField → Bool) (d : Domain) (stopped : Bool) (s : State) (h_regs : m .regs = true) (h_kpr : m .kpr = true) (h_lanes : m .lanes = true) (h_free : m .free = true) :
    State.Keeps m s (execDomainGate d stopped s) := by
  unfold execDomainGate
  simp [*]

@[simp] theorem execDomainWake_mask (m : StateField → Bool) (d : Domain) (s : State) (h_regs : m .regs = true) (h_kpr : m .kpr = true) (h_lanes : m .lanes = true) (h_free : m .free = true) :
    State.Keeps m s (execDomainWake d s) := by
  unfold execDomainWake
  split <;> (try split) <;> simp [*]

@[simp] theorem execFuseWriteDone_mask (m : StateField → Bool) (s : State) (h_regs : m .regs = true) (h_fuses : m .fuses = true) (h_sec : m .sec = true) :
    State.Keeps m s (execFuseWriteDone s) := by
  unfold execFuseWriteDone
  split <;> simp [*]

end Sys2Proof.Machine
end

