-- ==== Sys2Proof/Laws/Frame/Registers.lean ====
section
/-! SUPPORT. What each function of Machine/Registers.lean leaves alone. -/

namespace Sys2Proof.Machine

@[simp] theorem State.tagHost_mask (m : StateField → Bool) (s : State) (p : Nat) (key : Nat) (w : Nat) (n : Nat) (h_mem : m .mem = true) :
    State.mask m (State.tagHost s p key w n) = State.mask m s := by
  unfold State.tagHost
  repeat' first | (simp [*]; done) | (rw [State.mask_mk] <;> simp [*]; done) | refine (State.mask_foldl m _ (fun t x => ?_) _ _).trans ?_ | refine (State.mask_foldl_fst m _ (fun p x => ?_) _ _).trans ?_ | refine (State.mask_foldl_snd m _ (fun p x => ?_) _ _).trans ?_ | split | simp [*]

@[simp] theorem State.mapRead_mask (m : StateField → Bool) (s : State) (w : Nat) (r : Nat) (n : Nat) (h_regs : m .regs = true) (h_kpr : m .kpr = true) (h_mem : m .mem = true) (h_xfr : m .xfr = true) (h_free : m .free = true) :
    State.mask m (State.mapRead s w r n).2 = State.mask m s := by
  unfold State.mapRead
  repeat' first | (simp [*]; done) | (rw [State.mask_mk] <;> simp [*]; done) | refine (State.mask_foldl m _ (fun t x => ?_) _ _).trans ?_ | refine (State.mask_foldl_fst m _ (fun p x => ?_) _ _).trans ?_ | refine (State.mask_foldl_snd m _ (fun p x => ?_) _ _).trans ?_ | split | simp [*]

@[simp] theorem State.rawWrite_mask (m : StateField → Bool) (s : State) (v : PlateV) (g : Region) (o : Nat) (d : List Byte) (h_mem : m .mem = true) (h_verifies : m .verifies = true) (h_memory : m .memory = true) :
    State.mask m (State.rawWrite s v g o d) = State.mask m s := by
  unfold State.rawWrite
  rw [State.mask_mk] <;> simp [*]

@[simp] theorem State.mapWrite_mask (m : StateField → Bool) (s : State) (w : Nat) (r : Nat) (d : List Byte) (h_regs : m .regs = true) (h_kpr : m .kpr = true) (h_lanes : m .lanes = true) (h_links : m .links = true) (h_csw : m .csw = true) (h_mem : m .mem = true) (h_sec : m .sec = true) (h_xfr : m .xfr = true) (h_script : m .script = true) (h_verifies : m .verifies = true) (h_memory : m .memory = true) (h_free : m .free = true) :
    State.mask m (State.mapWrite s w r d) = State.mask m s := by
  unfold State.mapWrite
  dsimp only
  split <;> simp [*]

@[simp] theorem State.answerRead_mask (m : StateField → Bool) (s : State) (w : Nat) (l : Line) (h_hostRead : m .hostRead = true) :
    State.mask m (State.answerRead s w l) = State.mask m s := by
  unfold State.answerRead
  rw [State.mask_mk] <;> simp [*]

@[simp] theorem execHostMapAccess_mask (m : StateField → Bool) (w : Win) (off : BitVec 26) (acc : MapAccess) (s : State) (h_regs : m .regs = true) (h_kpr : m .kpr = true) (h_lanes : m .lanes = true) (h_links : m .links = true) (h_csw : m .csw = true) (h_mem : m .mem = true) (h_sec : m .sec = true) (h_xfr : m .xfr = true) (h_script : m .script = true) (h_verifies : m .verifies = true) (h_hostRead : m .hostRead = true) (h_memory : m .memory = true) (h_free : m .free = true) :
    State.Keeps m s (execHostMapAccess w off acc s) := by
  unfold execHostMapAccess
  split <;> simp [*]

@[simp] theorem State.readEffects_mask (m : StateField → Bool) (s : State) (a : Nat) (off : Nat) (h_regs : m .regs = true) (h_latches : m .latches = true) (h_kpr : m .kpr = true) (h_free : m .free = true) :
    State.mask m (State.readEffects s a off) = State.mask m s := by
  unfold State.readEffects
  repeat' first | (simp [*]; done) | (rw [State.mask_mk] <;> simp [*]; done) | refine (State.mask_foldl m _ (fun t x => ?_) _ _).trans ?_ | refine (State.mask_foldl_fst m _ (fun p x => ?_) _ _).trans ?_ | refine (State.mask_foldl_snd m _ (fun p x => ?_) _ _).trans ?_ | split | simp [*]

@[simp] theorem State.regRead_mask (m : StateField → Bool) (s : State) (a : Nat) (off : Nat) (h_regs : m .regs = true) (h_latches : m .latches = true) (h_kpr : m .kpr = true) (h_mem : m .mem = true) (h_xfr : m .xfr = true) (h_free : m .free = true) :
    State.mask m (State.regRead s a off).2 = State.mask m s := by
  unfold State.regRead
  repeat' first | (simp [*]; done) | (rw [State.mask_mk] <;> simp [*]; done) | refine (State.mask_foldl m _ (fun t x => ?_) _ _).trans ?_ | refine (State.mask_foldl_fst m _ (fun p x => ?_) _ _).trans ?_ | refine (State.mask_foldl_snd m _ (fun p x => ?_) _ _).trans ?_ | split | simp [*]

@[simp] theorem execRegisterRead_mask (m : StateField → Bool) (w : Win) (off : BitVec 26) (s : State) (h_regs : m .regs = true) (h_latches : m .latches = true) (h_kpr : m .kpr = true) (h_mem : m .mem = true) (h_xfr : m .xfr = true) (h_hostRead : m .hostRead = true) (h_free : m .free = true) :
    State.Keeps m s (execRegisterRead w off s) := by
  unfold execRegisterRead
  simp [*]

@[simp] theorem execBadSizeAccess_mask (m : StateField → Bool) (w : Win) (wr : Bool) (off : BitVec 26) (s : State) (h_regs : m .regs = true) (h_kpr : m .kpr = true) (h_hostRead : m .hostRead = true) :
    State.Keeps m s (execBadSizeAccess w wr off s) := by
  unfold execBadSizeAccess
  simp [*]

@[simp] theorem State.writeFields_mask (m : StateField → Bool) (s : State) (off : Nat) (v : Word) (fs : Fields) (h_regs : m .regs = true) :
    State.mask m (State.writeFields s off v fs) = State.mask m s := by
  unfold State.writeFields
  simp [*]

@[simp] theorem State.selWrite_mask (m : StateField → Bool) (s : State) (a : Nat) (off : Nat) (n : Nat) (v : Word) (h_sels : m .sels = true) :
    State.mask m (State.selWrite s a off n v) = State.mask m s := by
  unfold State.selWrite
  simp [*]

@[simp] theorem State.after_mask (m : StateField → Bool) (s : State) (o : Host.Outcome State Fault Refusal) (hk : State.Keeps m s o) :
    State.mask m (State.after s o) = State.mask m s := by
  unfold State.after
  split
  · exact hk
  · rfl

@[simp] theorem State.rwpWrite_mask (m : StateField → Bool) (s : State) (a : Nat) (off : Nat) (fs : Fields) (v : Word) (h_regs : m .regs = true) (h_kpr : m .kpr = true) (h_clk : m .clk = true) (h_lanes : m .lanes = true) (h_links : m .links = true) (h_csw : m .csw = true) (h_sec : m .sec = true) (h_script : m .script = true) (h_free : m .free = true) :
    State.mask m (State.rwpWrite s a off fs v) = State.mask m s := by
  unfold State.rwpWrite
  repeat' first | (simp [*]; done) | (rw [State.mask_mk] <;> simp [*]; done) | refine (State.mask_foldl m _ (fun t x => ?_) _ _).trans ?_ | refine (State.mask_foldl_fst m _ (fun p x => ?_) _ _).trans ?_ | refine (State.mask_foldl_snd m _ (fun p x => ?_) _ _).trans ?_ | split | simp [*]

@[simp] theorem State.powerWrite_mask (m : StateField → Bool) (s : State) (a : Nat) (v : Word) (h_regs : m .regs = true) (h_kpr : m .kpr = true) (h_lanes : m .lanes = true) (h_links : m .links = true) (h_csw : m .csw = true) (h_mem : m .mem = true) (h_sec : m .sec = true) (h_xfr : m .xfr = true) (h_script : m .script = true) (h_memory : m .memory = true) (h_free : m .free = true) :
    State.mask m (State.powerWrite s a v) = State.mask m s := by
  unfold State.powerWrite
  simp [*]

@[simp] theorem State.kprWrite_mask (m : StateField → Bool) (s : State) (a : Nat) (off : Nat) (v : Word) (h_regs : m .regs = true) (h_sels : m .sels = true) (h_latches : m .latches = true) (h_fuses : m .fuses = true) (h_kpr : m .kpr = true) (h_plt : m .plt = true) (h_clk : m .clk = true) (h_lanes : m .lanes = true) (h_links : m .links = true) (h_csw : m .csw = true) (h_mem : m .mem = true) (h_sec : m .sec = true) (h_xfr : m .xfr = true) (h_prm : m .prm = true) (h_script : m .script = true) (h_eru : m .eru = true) (h_col : m .col = true) (h_upd : m .upd = true) (h_intm : m .intm = true) (h_commits : m .commits = true) (h_verifies : m .verifies = true) (h_memory : m .memory = true) (h_free : m .free = true) :
    State.mask m (State.kprWrite s a off v) = State.mask m s := by
  unfold State.kprWrite
  repeat' first | (simp [*]; done) | (rw [State.mask_mk] <;> simp [*]; done) | refine (State.mask_foldl m _ (fun t x => ?_) _ _).trans ?_ | refine (State.mask_foldl_fst m _ (fun p x => ?_) _ _).trans ?_ | refine (State.mask_foldl_snd m _ (fun p x => ?_) _ _).trans ?_ | split | simp [*]

@[simp] theorem State.engWrite_mask (m : StateField → Bool) (s : State) (a : Nat) (off : Nat) (v : Word) (h_regs : m .regs = true) (h_kpr : m .kpr = true) (h_plt : m .plt = true) (h_clk : m .clk = true) (h_lanes : m .lanes = true) (h_links : m .links = true) (h_csw : m .csw = true) (h_mem : m .mem = true) (h_sec : m .sec = true) (h_script : m .script = true) (h_free : m .free = true) :
    State.mask m (State.engWrite s a off v) = State.mask m s := by
  unfold State.engWrite
  repeat' first | (simp [*]; done) | (rw [State.mask_mk] <;> simp [*]; done) | refine (State.mask_foldl m _ (fun t x => ?_) _ _).trans ?_ | refine (State.mask_foldl_fst m _ (fun p x => ?_) _ _).trans ?_ | refine (State.mask_foldl_snd m _ (fun p x => ?_) _ _).trans ?_ | split | simp [*]

@[simp] theorem State.scriptWrite_mask (m : StateField → Bool) (s : State) (a : Nat) (off : Nat) (v : Word) (h_regs : m .regs = true) (h_kpr : m .kpr = true) (h_lanes : m .lanes = true) (h_links : m .links = true) (h_csw : m .csw = true) (h_mem : m .mem = true) (h_sec : m .sec = true) (h_xfr : m .xfr = true) (h_script : m .script = true) (h_memory : m .memory = true) (h_free : m .free = true) :
    State.mask m (State.scriptWrite s a off v) = State.mask m s := by
  unfold State.scriptWrite
  simp [*]

@[simp] theorem State.laneCtlWrite_mask (m : StateField → Bool) (s : State) (a : Nat) (l : Nat) (v : Word) (h_regs : m .regs = true) (h_kpr : m .kpr = true) (h_clk : m .clk = true) (h_lanes : m .lanes = true) (h_links : m .links = true) (h_csw : m .csw = true) (h_sec : m .sec = true) (h_script : m .script = true) (h_free : m .free = true) :
    State.mask m (State.laneCtlWrite s a l v) = State.mask m s := by
  unfold State.laneCtlWrite
  simp [*]

@[simp] theorem State.laneWrite_mask (m : StateField → Bool) (s : State) (a : Nat) (off : Nat) (v : Word) (h_regs : m .regs = true) (h_kpr : m .kpr = true) (h_clk : m .clk = true) (h_lanes : m .lanes = true) (h_links : m .links = true) (h_csw : m .csw = true) (h_sec : m .sec = true) (h_script : m .script = true) (h_free : m .free = true) :
    State.mask m (State.laneWrite s a off v) = State.mask m s := by
  unfold State.laneWrite
  simp [*]

@[simp] theorem State.linkWrite_mask (m : StateField → Bool) (s : State) (a : Nat) (off : Nat) (v : Word) (h_regs : m .regs = true) (h_kpr : m .kpr = true) (h_clk : m .clk = true) (h_lanes : m .lanes = true) (h_links : m .links = true) (h_csw : m .csw = true) (h_sec : m .sec = true) (h_script : m .script = true) (h_free : m .free = true) :
    State.mask m (State.linkWrite s a off v) = State.mask m s := by
  unfold State.linkWrite
  simp [*]

@[simp] theorem State.cellWrite_mask (m : StateField → Bool) (s : State) (a : Nat) (off : Nat) (v : Word) (h_regs : m .regs = true) (h_kpr : m .kpr = true) (h_lanes : m .lanes = true) (h_links : m .links = true) (h_csw : m .csw = true) (h_mem : m .mem = true) (h_sec : m .sec = true) (h_xfr : m .xfr = true) (h_prm : m .prm = true) (h_script : m .script = true) (h_eru : m .eru = true) (h_memory : m .memory = true) (h_free : m .free = true) :
    State.mask m (State.cellWrite s a off v) = State.mask m s := by
  unfold State.cellWrite
  simp [*]

@[simp] theorem State.stepWrite_mask (m : StateField → Bool) (s : State) (off : Nat) (v : Word) (h_regs : m .regs = true) :
    State.mask m (State.stepWrite s off v) = State.mask m s := by
  unfold State.stepWrite
  repeat' first | (simp [*]; done) | (rw [State.mask_mk] <;> simp [*]; done) | refine (State.mask_foldl m _ (fun t x => ?_) _ _).trans ?_ | refine (State.mask_foldl_fst m _ (fun p x => ?_) _ _).trans ?_ | refine (State.mask_foldl_snd m _ (fun p x => ?_) _ _).trans ?_ | split | simp [*]

@[simp] theorem State.fmBlockWrite_mask (m : StateField → Bool) (s : State) (a : Nat) (off : Nat) (v : Word) (h_regs : m .regs = true) (h_sels : m .sels = true) (h_latches : m .latches = true) (h_fuses : m .fuses = true) (h_kpr : m .kpr = true) (h_plt : m .plt = true) (h_clk : m .clk = true) (h_lanes : m .lanes = true) (h_links : m .links = true) (h_csw : m .csw = true) (h_mem : m .mem = true) (h_sec : m .sec = true) (h_xfr : m .xfr = true) (h_prm : m .prm = true) (h_script : m .script = true) (h_eru : m .eru = true) (h_col : m .col = true) (h_upd : m .upd = true) (h_intm : m .intm = true) (h_commits : m .commits = true) (h_verifies : m .verifies = true) (h_memory : m .memory = true) (h_free : m .free = true) :
    State.mask m (State.fmBlockWrite s a off v) = State.mask m s := by
  unfold State.fmBlockWrite
  split <;> simp [*]

@[simp] theorem State.mbxGo_mask (m : StateField → Bool) (s : State) (w : Nat) (h_regs : m .regs = true) (h_kpr : m .kpr = true) (h_lanes : m .lanes = true) (h_links : m .links = true) (h_csw : m .csw = true) (h_mem : m .mem = true) (h_sec : m .sec = true) (h_free : m .free = true) :
    State.mask m (State.mbxGo s w) = State.mask m s := by
  unfold State.mbxGo
  split <;> simp [*]

@[simp] theorem State.fmCtlWrite_mask (m : StateField → Bool) (s : State) (w : Nat) (v : Word) (h_regs : m .regs = true) (h_kpr : m .kpr = true) (h_csw : m .csw = true) :
    State.mask m (State.fmCtlWrite s w v) = State.mask m s := by
  unfold State.fmCtlWrite
  simp [*]

@[simp] theorem State.hwWrite_mask (m : StateField → Bool) (s : State) (w : Nat) (r : Nat) (v : Word) (h_regs : m .regs = true) (h_sels : m .sels = true) (h_latches : m .latches = true) (h_kpr : m .kpr = true) (h_plt : m .plt = true) (h_xfr : m .xfr = true) (h_script : m .script = true) :
    State.mask m (State.hwWrite s w r v) = State.mask m s := by
  unfold State.hwWrite
  simp [*]

@[simp] theorem State.ownWrite_mask (m : StateField → Bool) (s : State) (w : Nat) (r : Nat) (v : Word) (h_regs : m .regs = true) (h_sels : m .sels = true) (h_latches : m .latches = true) (h_kpr : m .kpr = true) (h_plt : m .plt = true) (h_clk : m .clk = true) (h_lanes : m .lanes = true) (h_links : m .links = true) (h_csw : m .csw = true) (h_mem : m .mem = true) (h_sec : m .sec = true) (h_xfr : m .xfr = true) (h_prm : m .prm = true) (h_script : m .script = true) (h_eru : m .eru = true) (h_col : m .col = true) (h_upd : m .upd = true) (h_intm : m .intm = true) (h_commits : m .commits = true) (h_verifies : m .verifies = true) (h_memory : m .memory = true) (h_free : m .free = true) :
    State.mask m (State.ownWrite s w r v) = State.mask m s := by
  unfold State.ownWrite
  simp [*]

@[simp] theorem State.cqRegWrite_mask (m : StateField → Bool) (s : State) (a : Nat) (off : Nat) (v : Word) (h_regs : m .regs = true) (h_kpr : m .kpr = true) (h_lanes : m .lanes = true) (h_links : m .links = true) (h_csw : m .csw = true) (h_mem : m .mem = true) (h_sec : m .sec = true) (h_xfr : m .xfr = true) (h_script : m .script = true) (h_memory : m .memory = true) (h_free : m .free = true) :
    State.mask m (State.cqRegWrite s a off v) = State.mask m s := by
  unfold State.cqRegWrite
  split <;> simp [*]

@[simp] theorem State.regWrite_mask (m : StateField → Bool) (s : State) (a : Nat) (off : Nat) (v : Word) (h_regs : m .regs = true) (h_sels : m .sels = true) (h_latches : m .latches = true) (h_fuses : m .fuses = true) (h_kpr : m .kpr = true) (h_plt : m .plt = true) (h_clk : m .clk = true) (h_lanes : m .lanes = true) (h_links : m .links = true) (h_csw : m .csw = true) (h_mem : m .mem = true) (h_sec : m .sec = true) (h_xfr : m .xfr = true) (h_prm : m .prm = true) (h_script : m .script = true) (h_eru : m .eru = true) (h_col : m .col = true) (h_upd : m .upd = true) (h_intm : m .intm = true) (h_commits : m .commits = true) (h_verifies : m .verifies = true) (h_memory : m .memory = true) (h_free : m .free = true) :
    State.mask m (State.regWrite s a off v) = State.mask m s := by
  unfold State.regWrite
  repeat' first | (simp [*]; done) | (rw [State.mask_mk] <;> simp [*]; done) | refine (State.mask_foldl m _ (fun t x => ?_) _ _).trans ?_ | refine (State.mask_foldl_fst m _ (fun p x => ?_) _ _).trans ?_ | refine (State.mask_foldl_snd m _ (fun p x => ?_) _ _).trans ?_ | split | simp [*]

@[simp] theorem execRegisterWrite_mask (m : StateField → Bool) (w : Win) (off : BitVec 26) (value : Word) (s : State) (h_regs : m .regs = true) (h_sels : m .sels = true) (h_latches : m .latches = true) (h_fuses : m .fuses = true) (h_kpr : m .kpr = true) (h_plt : m .plt = true) (h_clk : m .clk = true) (h_lanes : m .lanes = true) (h_links : m .links = true) (h_csw : m .csw = true) (h_mem : m .mem = true) (h_sec : m .sec = true) (h_xfr : m .xfr = true) (h_prm : m .prm = true) (h_script : m .script = true) (h_eru : m .eru = true) (h_col : m .col = true) (h_upd : m .upd = true) (h_intm : m .intm = true) (h_commits : m .commits = true) (h_verifies : m .verifies = true) (h_memory : m .memory = true) (h_free : m .free = true) :
    State.Keeps m s (execRegisterWrite w off value s) := by
  unfold execRegisterWrite
  simp [*]

@[simp] theorem execSeatInputRelease_mask (m : StateField → Bool) (s : State) (h_regs : m .regs = true) (h_sels : m .sels = true) (h_latches : m .latches = true) (h_fuses : m .fuses = true) (h_kpr : m .kpr = true) (h_plt : m .plt = true) (h_clk : m .clk = true) (h_lanes : m .lanes = true) (h_links : m .links = true) (h_csw : m .csw = true) (h_mem : m .mem = true) (h_sec : m .sec = true) (h_xfr : m .xfr = true) (h_prm : m .prm = true) (h_script : m .script = true) (h_eru : m .eru = true) (h_col : m .col = true) (h_upd : m .upd = true) (h_intm : m .intm = true) (h_commits : m .commits = true) (h_verifies : m .verifies = true) (h_memory : m .memory = true) (h_free : m .free = true) :
    State.Keeps m s (execSeatInputRelease s) := by
  unfold execSeatInputRelease
  repeat' first | (simp [*]; done) | (rw [State.mask_mk] <;> simp [*]; done) | refine (State.mask_foldl m _ (fun t x => ?_) _ _).trans ?_ | refine (State.mask_foldl_fst m _ (fun p x => ?_) _ _).trans ?_ | refine (State.mask_foldl_snd m _ (fun p x => ?_) _ _).trans ?_ | split | simp [*]

@[simp] theorem execFmReadRx_mask (m : StateField → Bool) (c : Cell) (s : State) (h_regs : m .regs = true) (h_latches : m .latches = true) (h_kpr : m .kpr = true) (h_csw : m .csw = true) (h_mem : m .mem = true) (h_xfr : m .xfr = true) (h_free : m .free = true) :
    State.Keeps m s (execFmReadRx c s) := by
  unfold execFmReadRx
  repeat' first | (simp [*]; done) | (rw [State.mask_mk] <;> simp [*]; done) | refine (State.mask_foldl m _ (fun t x => ?_) _ _).trans ?_ | refine (State.mask_foldl_fst m _ (fun p x => ?_) _ _).trans ?_ | refine (State.mask_foldl_snd m _ (fun p x => ?_) _ _).trans ?_ | split | simp [*]

@[simp] theorem execFmWriteRx_mask (m : StateField → Bool) (c : Cell) (s : State) (h_regs : m .regs = true) (h_sels : m .sels = true) (h_latches : m .latches = true) (h_fuses : m .fuses = true) (h_kpr : m .kpr = true) (h_plt : m .plt = true) (h_clk : m .clk = true) (h_lanes : m .lanes = true) (h_links : m .links = true) (h_csw : m .csw = true) (h_mem : m .mem = true) (h_sec : m .sec = true) (h_xfr : m .xfr = true) (h_prm : m .prm = true) (h_script : m .script = true) (h_eru : m .eru = true) (h_col : m .col = true) (h_upd : m .upd = true) (h_intm : m .intm = true) (h_commits : m .commits = true) (h_verifies : m .verifies = true) (h_memory : m .memory = true) (h_free : m .free = true) :
    State.Keeps m s (execFmWriteRx c s) := by
  unfold execFmWriteRx
  repeat' first | (simp [*]; done) | (rw [State.mask_mk] <;> simp [*]; done) | refine (State.mask_foldl m _ (fun t x => ?_) _ _).trans ?_ | refine (State.mask_foldl_fst m _ (fun p x => ?_) _ _).trans ?_ | refine (State.mask_foldl_snd m _ (fun p x => ?_) _ _).trans ?_ | split | simp [*]

end Sys2Proof.Machine
end

