-- ==== Sys2Proof/Laws/Memory.lean ====
section
/-! SUPPORT. Every operation on memory keeps its canonical form: addresses strictly rising, and no entry that holds what an unlisted
address reads as. -/

namespace Sys2Proof.Machine

theorem Memory.above_trans {a b : Nat} (h : a ≤ b) {m : List Host.Cell} (hm : Memory.above b m = true) : Memory.above a m = true := by
  cases m with
  | nil => rfl
  | cons e t =>
    simp only [Memory.above, Bool.and_eq_true, decide_eq_true_eq] at hm ⊢
    exact ⟨⟨by omega, hm.1.2⟩, hm.2⟩

theorem Memory.above_erase {a : Nat} (b : Nat) {m : List Host.Cell} (hm : Memory.above a m = true) : Memory.above a (Memory.erase m b) = true := by
  induction m generalizing a with
  | nil => rfl
  | cons e t ih =>
    simp only [Memory.above, Bool.and_eq_true, decide_eq_true_eq] at hm
    simp only [Memory.erase]
    split
    · exact Memory.above_trans (by omega) hm.2
    · split
      · simp [Memory.above, hm]
      · simp [Memory.above, hm, ih hm.2]

theorem Memory.above_insert {a b : Nat} {v : Byte} (hb : a < b) (hv : v ≠ unwritten) {m : List Host.Cell} (hm : Memory.above a m = true) :
    Memory.above a (Memory.insert m b v) = true := by
  induction m generalizing a with
  | nil => simp [Memory.insert, Memory.above, hb, hv]
  | cons e t ih =>
    simp only [Memory.above, Bool.and_eq_true, decide_eq_true_eq] at hm
    simp only [Memory.insert]
    split
    · rename_i h
      simp [Memory.above, hb, hv, h, hm]
    · split
      · rename_i h
        subst h
        simp [Memory.above, hb, hv, hm]
      · simp [Memory.above, hm, ih (by omega) hm.2]

/-- The canonical form is that of a list whose addresses lie above one below all of them. -/
theorem Memory.wf_cons {b : Nat} {v : Byte} {t : List Host.Cell} : Memory.wf ((b, v) :: t) = true ↔ v ≠ unwritten ∧ Memory.above b t = true := by
  simp [Memory.wf]

theorem Memory.wf_of_above {a : Nat} {m : List Host.Cell} (hm : Memory.above a m = true) : Memory.wf m = true := by
  cases m with
  | nil => rfl
  | cons e t =>
    simp only [Memory.above, Bool.and_eq_true, decide_eq_true_eq] at hm
    exact Memory.wf_cons.2 ⟨hm.1.2, hm.2⟩

/-- Removing an address keeps the canonical form. -/
theorem Memory.erase_wf (a : Nat) {m : List Host.Cell} (hm : Memory.wf m = true) : Memory.wf (Memory.erase m a) = true := by
  cases m with
  | nil => rfl
  | cons e t =>
    obtain ⟨hv, ht⟩ := Memory.wf_cons.1 hm
    simp only [Memory.erase]
    split
    · exact Memory.wf_of_above ht
    · split
      · exact hm
      · exact Memory.wf_cons.2 ⟨hv, Memory.above_erase a ht⟩

/-- Inserting a byte that is not the unwritten one keeps the canonical form. -/
theorem Memory.insert_wf (a : Nat) {v : Byte} (hv : v ≠ unwritten) {m : List Host.Cell} (hm : Memory.wf m = true) :
    Memory.wf (Memory.insert m a v) = true := by
  cases m with
  | nil => simp [Memory.insert, Memory.wf, Memory.above, hv]
  | cons e t =>
    obtain ⟨he, ht⟩ := Memory.wf_cons.1 hm
    simp only [Memory.insert]
    split
    · rename_i h
      simp [Memory.wf, Memory.above, hv, h, he, ht]
    · split
      · rename_i h
        subst h
        exact Memory.wf_cons.2 ⟨hv, ht⟩
      · exact Memory.wf_cons.2 ⟨he, Memory.above_insert (by omega) hv ht⟩

/-- Writing a byte keeps the canonical form. -/
theorem Memory.set_wf (a : Nat) (v : Byte) {m : List Host.Cell} (hm : Memory.wf m = true) : Memory.wf (Memory.set m a v) = true := by
  unfold Memory.set
  split
  · exact Memory.erase_wf a hm
  · rename_i hv
    exact Memory.insert_wf a hv hm

/-- Writing consecutive bytes keeps the canonical form. -/
theorem Memory.setBytes_wf (a : Nat) (vs : List Byte) {m : List Host.Cell} (hm : Memory.wf m = true) : Memory.wf (Memory.setBytes m a vs) = true := by
  induction vs generalizing a m with
  | nil => exact hm
  | cons v vs ih => exact ih (a + 1) (Memory.set_wf a v hm)

theorem Memory.above_filter {a : Nat} (p : Host.Cell → Bool) {m : List Host.Cell} (hm : Memory.above a m = true) : Memory.above a (m.filter p) = true := by
  induction m generalizing a with
  | nil => rfl
  | cons e t ih =>
    simp only [Memory.above, Bool.and_eq_true, decide_eq_true_eq] at hm
    rw [List.filter_cons]
    split
    · simp [Memory.above, hm, ih hm.2]
    · exact Memory.above_trans (by omega) (ih hm.2)

/-- Making addresses unwritten keeps the canonical form. -/
theorem Memory.filter_wf (p : Host.Cell → Bool) {m : List Host.Cell} (hm : Memory.wf m = true) : Memory.wf (m.filter p) = true := by
  cases m with
  | nil => rfl
  | cons e t =>
    obtain ⟨hv, ht⟩ := Memory.wf_cons.1 hm
    rw [List.filter_cons]
    split
    · exact Memory.wf_cons.2 ⟨hv, Memory.above_filter p ht⟩
    · exact Memory.wf_of_above (Memory.above_filter p ht)

/-- Storing a line keeps the canonical form. -/
theorem State.setRawLine_wf (s : State) (key : Nat) (l : Line) (hs : Memory.wf s.memory = true) : Memory.wf (s.setRawLine key l).memory = true :=
  Memory.setBytes_wf _ _ hs

/-- The memory of the state after reset has the canonical form. -/
theorem State.reset_wf : Memory.wf State.reset.memory = true := rfl

end Sys2Proof.Machine
end

