-- ==== Sys2Proof/Laws/Tables.lean ====
section
/-! SUPPORT. The laws of sparse tables: what a lookup finds after an insertion, a removal or an assignment. They hold of every table,
whether its keys rise or not. -/

namespace Sys2Proof.Machine

variable {α : Type}

@[simp] theorem tabFind_insert_self (t : Tab α) (k : Nat) (v : α) : tabFind (tabInsert t k v) k = some v := by
  induction t with
  | nil => simp [tabInsert, tabFind]
  | cons e t ih =>
    obtain ⟨j, u⟩ := e
    simp only [tabInsert]
    split
    · simp [tabFind]
    · split
      · simp [tabFind]
      · rename_i h
        simp [tabFind, Ne.symm h, ih]

theorem tabFind_insert_ne (t : Tab α) {k i : Nat} (v : α) (h : i ≠ k) : tabFind (tabInsert t k v) i = tabFind t i := by
  induction t with
  | nil => simp [tabInsert, tabFind, Ne.symm h]
  | cons e t ih =>
    obtain ⟨j, u⟩ := e
    simp only [tabInsert]
    split
    · simp [tabFind, Ne.symm h]
    · split
      · rename_i e
        subst e
        simp [tabFind, Ne.symm h]
      · simp [tabFind, ih]

@[simp] theorem tabFind_erase_self (t : Tab α) (k : Nat) : tabFind (tabErase t k) k = none := by
  induction t with
  | nil => rfl
  | cons e t ih =>
    obtain ⟨j, u⟩ := e
    simp only [tabErase]
    split
    · exact ih
    · rename_i h
      simp [tabFind, h, ih]

theorem tabFind_erase_ne (t : Tab α) {k i : Nat} (h : i ≠ k) : tabFind (tabErase t k) i = tabFind t i := by
  induction t with
  | nil => rfl
  | cons e t ih =>
    obtain ⟨j, u⟩ := e
    simp only [tabErase]
    split
    · rename_i e
      subst e
      simp [tabFind, Ne.symm h, ih]
    · simp [tabFind, ih]

theorem tabFind_insert (t : Tab α) (k i : Nat) (v : α) : tabFind (tabInsert t k v) i = if i = k then some v else tabFind t i := by
  by_cases h : i = k
  · subst h; simp
  · simp [h, tabFind_insert_ne t v h]

theorem tabFind_erase (t : Tab α) (k i : Nat) : tabFind (tabErase t k) i = if i = k then none else tabFind t i := by
  by_cases h : i = k
  · subst h; simp
  · simp [h, tabFind_erase_ne t h]

variable [DecidableEq α]

@[simp] theorem tabGet_set_self (d : α) (t : Tab α) (k : Nat) (v : α) : tabGet d (tabSet d t k v) k = v := by
  unfold tabGet tabSet
  split
  · rename_i h; simp [h]
  · simp

theorem tabGet_set_ne (d : α) (t : Tab α) {k i : Nat} (v : α) (h : i ≠ k) : tabGet d (tabSet d t k v) i = tabGet d t i := by
  unfold tabGet tabSet
  split
  · rw [tabFind_erase_ne t h]
  · rw [tabFind_insert_ne t v h]

theorem tabGet_set (d : α) (t : Tab α) (k i : Nat) (v : α) : tabGet d (tabSet d t k v) i = if i = k then v else tabGet d t i := by
  by_cases h : i = k
  · subst h; simp
  · simp [h, tabGet_set_ne d t v h]

end Sys2Proof.Machine
end

