-- ==== Sys2Proof/Laws/State.lean ====
section
/-! SUPPORT. One lemma for each part of the state and each update: what the update leaves, or what it puts there. -/

namespace Sys2Proof.Machine

@[simp] theorem State.setReg_pending (s : State) (off : Nat) (v : Word) : (s.setReg off v).pending = s.pending := rfl
@[simp] theorem State.setReg_sels (s : State) (off : Nat) (v : Word) : (s.setReg off v).sels = s.sels := rfl
@[simp] theorem State.setReg_latches (s : State) (off : Nat) (v : Word) : (s.setReg off v).latches = s.latches := rfl
@[simp] theorem State.setReg_fuses (s : State) (off : Nat) (v : Word) : (s.setReg off v).fuses = s.fuses := rfl
@[simp] theorem State.setReg_kpr (s : State) (off : Nat) (v : Word) : (s.setReg off v).kpr = s.kpr := rfl
@[simp] theorem State.setReg_plt (s : State) (off : Nat) (v : Word) : (s.setReg off v).plt = s.plt := rfl
@[simp] theorem State.setReg_clk (s : State) (off : Nat) (v : Word) : (s.setReg off v).clk = s.clk := rfl
@[simp] theorem State.setReg_lanes (s : State) (off : Nat) (v : Word) : (s.setReg off v).lanes = s.lanes := rfl
@[simp] theorem State.setReg_links (s : State) (off : Nat) (v : Word) : (s.setReg off v).links = s.links := rfl
@[simp] theorem State.setReg_csw (s : State) (off : Nat) (v : Word) : (s.setReg off v).csw = s.csw := rfl
@[simp] theorem State.setReg_mem (s : State) (off : Nat) (v : Word) : (s.setReg off v).mem = s.mem := rfl
@[simp] theorem State.setReg_sec (s : State) (off : Nat) (v : Word) : (s.setReg off v).sec = s.sec := rfl
@[simp] theorem State.setReg_xfr (s : State) (off : Nat) (v : Word) : (s.setReg off v).xfr = s.xfr := rfl
@[simp] theorem State.setReg_prm (s : State) (off : Nat) (v : Word) : (s.setReg off v).prm = s.prm := rfl
@[simp] theorem State.setReg_script (s : State) (off : Nat) (v : Word) : (s.setReg off v).script = s.script := rfl
@[simp] theorem State.setReg_eru (s : State) (off : Nat) (v : Word) : (s.setReg off v).eru = s.eru := rfl
@[simp] theorem State.setReg_col (s : State) (off : Nat) (v : Word) : (s.setReg off v).col = s.col := rfl
@[simp] theorem State.setReg_upd (s : State) (off : Nat) (v : Word) : (s.setReg off v).upd = s.upd := rfl
@[simp] theorem State.setReg_intm (s : State) (off : Nat) (v : Word) : (s.setReg off v).intm = s.intm := rfl
@[simp] theorem State.setReg_commits (s : State) (off : Nat) (v : Word) : (s.setReg off v).commits = s.commits := rfl
@[simp] theorem State.setReg_verifies (s : State) (off : Nat) (v : Word) : (s.setReg off v).verifies = s.verifies := rfl
@[simp] theorem State.setReg_hostRead (s : State) (off : Nat) (v : Word) : (s.setReg off v).hostRead = s.hostRead := rfl
@[simp] theorem State.setReg_memory (s : State) (off : Nat) (v : Word) : (s.setReg off v).memory = s.memory := rfl
@[simp] theorem State.setReg_free (s : State) (off : Nat) (v : Word) : (s.setReg off v).free = s.free := rfl

@[simp] theorem State.setFld_pending (s : State) (off lo len v : Nat) : (s.setFld off lo len v).pending = s.pending := by simp [State.setFld]
@[simp] theorem State.setFld_sels (s : State) (off lo len v : Nat) : (s.setFld off lo len v).sels = s.sels := by simp [State.setFld]
@[simp] theorem State.setFld_latches (s : State) (off lo len v : Nat) : (s.setFld off lo len v).latches = s.latches := by simp [State.setFld]
@[simp] theorem State.setFld_fuses (s : State) (off lo len v : Nat) : (s.setFld off lo len v).fuses = s.fuses := by simp [State.setFld]
@[simp] theorem State.setFld_kpr (s : State) (off lo len v : Nat) : (s.setFld off lo len v).kpr = s.kpr := by simp [State.setFld]
@[simp] theorem State.setFld_plt (s : State) (off lo len v : Nat) : (s.setFld off lo len v).plt = s.plt := by simp [State.setFld]
@[simp] theorem State.setFld_clk (s : State) (off lo len v : Nat) : (s.setFld off lo len v).clk = s.clk := by simp [State.setFld]
@[simp] theorem State.setFld_lanes (s : State) (off lo len v : Nat) : (s.setFld off lo len v).lanes = s.lanes := by simp [State.setFld]
@[simp] theorem State.setFld_links (s : State) (off lo len v : Nat) : (s.setFld off lo len v).links = s.links := by simp [State.setFld]
@[simp] theorem State.setFld_csw (s : State) (off lo len v : Nat) : (s.setFld off lo len v).csw = s.csw := by simp [State.setFld]
@[simp] theorem State.setFld_mem (s : State) (off lo len v : Nat) : (s.setFld off lo len v).mem = s.mem := by simp [State.setFld]
@[simp] theorem State.setFld_sec (s : State) (off lo len v : Nat) : (s.setFld off lo len v).sec = s.sec := by simp [State.setFld]
@[simp] theorem State.setFld_xfr (s : State) (off lo len v : Nat) : (s.setFld off lo len v).xfr = s.xfr := by simp [State.setFld]
@[simp] theorem State.setFld_prm (s : State) (off lo len v : Nat) : (s.setFld off lo len v).prm = s.prm := by simp [State.setFld]
@[simp] theorem State.setFld_script (s : State) (off lo len v : Nat) : (s.setFld off lo len v).script = s.script := by simp [State.setFld]
@[simp] theorem State.setFld_eru (s : State) (off lo len v : Nat) : (s.setFld off lo len v).eru = s.eru := by simp [State.setFld]
@[simp] theorem State.setFld_col (s : State) (off lo len v : Nat) : (s.setFld off lo len v).col = s.col := by simp [State.setFld]
@[simp] theorem State.setFld_upd (s : State) (off lo len v : Nat) : (s.setFld off lo len v).upd = s.upd := by simp [State.setFld]
@[simp] theorem State.setFld_intm (s : State) (off lo len v : Nat) : (s.setFld off lo len v).intm = s.intm := by simp [State.setFld]
@[simp] theorem State.setFld_commits (s : State) (off lo len v : Nat) : (s.setFld off lo len v).commits = s.commits := by simp [State.setFld]
@[simp] theorem State.setFld_verifies (s : State) (off lo len v : Nat) : (s.setFld off lo len v).verifies = s.verifies := by simp [State.setFld]
@[simp] theorem State.setFld_hostRead (s : State) (off lo len v : Nat) : (s.setFld off lo len v).hostRead = s.hostRead := by simp [State.setFld]
@[simp] theorem State.setFld_memory (s : State) (off lo len v : Nat) : (s.setFld off lo len v).memory = s.memory := by simp [State.setFld]
@[simp] theorem State.setFld_free (s : State) (off lo len v : Nat) : (s.setFld off lo len v).free = s.free := by simp [State.setFld]

@[simp] theorem State.bumpBy_pending (s : State) (off n : Nat) : (s.bumpBy off n).pending = s.pending := by simp [State.bumpBy]
@[simp] theorem State.bumpBy_sels (s : State) (off n : Nat) : (s.bumpBy off n).sels = s.sels := by simp [State.bumpBy]
@[simp] theorem State.bumpBy_latches (s : State) (off n : Nat) : (s.bumpBy off n).latches = s.latches := by simp [State.bumpBy]
@[simp] theorem State.bumpBy_fuses (s : State) (off n : Nat) : (s.bumpBy off n).fuses = s.fuses := by simp [State.bumpBy]
@[simp] theorem State.bumpBy_kpr (s : State) (off n : Nat) : (s.bumpBy off n).kpr = s.kpr := by simp [State.bumpBy]
@[simp] theorem State.bumpBy_plt (s : State) (off n : Nat) : (s.bumpBy off n).plt = s.plt := by simp [State.bumpBy]
@[simp] theorem State.bumpBy_clk (s : State) (off n : Nat) : (s.bumpBy off n).clk = s.clk := by simp [State.bumpBy]
@[simp] theorem State.bumpBy_lanes (s : State) (off n : Nat) : (s.bumpBy off n).lanes = s.lanes := by simp [State.bumpBy]
@[simp] theorem State.bumpBy_links (s : State) (off n : Nat) : (s.bumpBy off n).links = s.links := by simp [State.bumpBy]
@[simp] theorem State.bumpBy_csw (s : State) (off n : Nat) : (s.bumpBy off n).csw = s.csw := by simp [State.bumpBy]
@[simp] theorem State.bumpBy_mem (s : State) (off n : Nat) : (s.bumpBy off n).mem = s.mem := by simp [State.bumpBy]
@[simp] theorem State.bumpBy_sec (s : State) (off n : Nat) : (s.bumpBy off n).sec = s.sec := by simp [State.bumpBy]
@[simp] theorem State.bumpBy_xfr (s : State) (off n : Nat) : (s.bumpBy off n).xfr = s.xfr := by simp [State.bumpBy]
@[simp] theorem State.bumpBy_prm (s : State) (off n : Nat) : (s.bumpBy off n).prm = s.prm := by simp [State.bumpBy]
@[simp] theorem State.bumpBy_script (s : State) (off n : Nat) : (s.bumpBy off n).script = s.script := by simp [State.bumpBy]
@[simp] theorem State.bumpBy_eru (s : State) (off n : Nat) : (s.bumpBy off n).eru = s.eru := by simp [State.bumpBy]
@[simp] theorem State.bumpBy_col (s : State) (off n : Nat) : (s.bumpBy off n).col = s.col := by simp [State.bumpBy]
@[simp] theorem State.bumpBy_upd (s : State) (off n : Nat) : (s.bumpBy off n).upd = s.upd := by simp [State.bumpBy]
@[simp] theorem State.bumpBy_intm (s : State) (off n : Nat) : (s.bumpBy off n).intm = s.intm := by simp [State.bumpBy]
@[simp] theorem State.bumpBy_commits (s : State) (off n : Nat) : (s.bumpBy off n).commits = s.commits := by simp [State.bumpBy]
@[simp] theorem State.bumpBy_verifies (s : State) (off n : Nat) : (s.bumpBy off n).verifies = s.verifies := by simp [State.bumpBy]
@[simp] theorem State.bumpBy_hostRead (s : State) (off n : Nat) : (s.bumpBy off n).hostRead = s.hostRead := by simp [State.bumpBy]
@[simp] theorem State.bumpBy_memory (s : State) (off n : Nat) : (s.bumpBy off n).memory = s.memory := by simp [State.bumpBy]
@[simp] theorem State.bumpBy_free (s : State) (off n : Nat) : (s.bumpBy off n).free = s.free := by simp [State.bumpBy]

@[simp] theorem State.bump_pending (s : State) (off : Nat) : (s.bump off).pending = s.pending := by simp [State.bump]
@[simp] theorem State.bump_sels (s : State) (off : Nat) : (s.bump off).sels = s.sels := by simp [State.bump]
@[simp] theorem State.bump_latches (s : State) (off : Nat) : (s.bump off).latches = s.latches := by simp [State.bump]
@[simp] theorem State.bump_fuses (s : State) (off : Nat) : (s.bump off).fuses = s.fuses := by simp [State.bump]
@[simp] theorem State.bump_kpr (s : State) (off : Nat) : (s.bump off).kpr = s.kpr := by simp [State.bump]
@[simp] theorem State.bump_plt (s : State) (off : Nat) : (s.bump off).plt = s.plt := by simp [State.bump]
@[simp] theorem State.bump_clk (s : State) (off : Nat) : (s.bump off).clk = s.clk := by simp [State.bump]
@[simp] theorem State.bump_lanes (s : State) (off : Nat) : (s.bump off).lanes = s.lanes := by simp [State.bump]
@[simp] theorem State.bump_links (s : State) (off : Nat) : (s.bump off).links = s.links := by simp [State.bump]
@[simp] theorem State.bump_csw (s : State) (off : Nat) : (s.bump off).csw = s.csw := by simp [State.bump]
@[simp] theorem State.bump_mem (s : State) (off : Nat) : (s.bump off).mem = s.mem := by simp [State.bump]
@[simp] theorem State.bump_sec (s : State) (off : Nat) : (s.bump off).sec = s.sec := by simp [State.bump]
@[simp] theorem State.bump_xfr (s : State) (off : Nat) : (s.bump off).xfr = s.xfr := by simp [State.bump]
@[simp] theorem State.bump_prm (s : State) (off : Nat) : (s.bump off).prm = s.prm := by simp [State.bump]
@[simp] theorem State.bump_script (s : State) (off : Nat) : (s.bump off).script = s.script := by simp [State.bump]
@[simp] theorem State.bump_eru (s : State) (off : Nat) : (s.bump off).eru = s.eru := by simp [State.bump]
@[simp] theorem State.bump_col (s : State) (off : Nat) : (s.bump off).col = s.col := by simp [State.bump]
@[simp] theorem State.bump_upd (s : State) (off : Nat) : (s.bump off).upd = s.upd := by simp [State.bump]
@[simp] theorem State.bump_intm (s : State) (off : Nat) : (s.bump off).intm = s.intm := by simp [State.bump]
@[simp] theorem State.bump_commits (s : State) (off : Nat) : (s.bump off).commits = s.commits := by simp [State.bump]
@[simp] theorem State.bump_verifies (s : State) (off : Nat) : (s.bump off).verifies = s.verifies := by simp [State.bump]
@[simp] theorem State.bump_hostRead (s : State) (off : Nat) : (s.bump off).hostRead = s.hostRead := by simp [State.bump]
@[simp] theorem State.bump_memory (s : State) (off : Nat) : (s.bump off).memory = s.memory := by simp [State.bump]
@[simp] theorem State.bump_free (s : State) (off : Nat) : (s.bump off).free = s.free := by simp [State.bump]

@[simp] theorem State.setArrayBit_pending (s : State) (base k : Nat) (b : Bool) : (s.setArrayBit base k b).pending = s.pending := by simp [State.setArrayBit]
@[simp] theorem State.setArrayBit_sels (s : State) (base k : Nat) (b : Bool) : (s.setArrayBit base k b).sels = s.sels := by simp [State.setArrayBit]
@[simp] theorem State.setArrayBit_latches (s : State) (base k : Nat) (b : Bool) : (s.setArrayBit base k b).latches = s.latches := by simp [State.setArrayBit]
@[simp] theorem State.setArrayBit_fuses (s : State) (base k : Nat) (b : Bool) : (s.setArrayBit base k b).fuses = s.fuses := by simp [State.setArrayBit]
@[simp] theorem State.setArrayBit_kpr (s : State) (base k : Nat) (b : Bool) : (s.setArrayBit base k b).kpr = s.kpr := by simp [State.setArrayBit]
@[simp] theorem State.setArrayBit_plt (s : State) (base k : Nat) (b : Bool) : (s.setArrayBit base k b).plt = s.plt := by simp [State.setArrayBit]
@[simp] theorem State.setArrayBit_clk (s : State) (base k : Nat) (b : Bool) : (s.setArrayBit base k b).clk = s.clk := by simp [State.setArrayBit]
@[simp] theorem State.setArrayBit_lanes (s : State) (base k : Nat) (b : Bool) : (s.setArrayBit base k b).lanes = s.lanes := by simp [State.setArrayBit]
@[simp] theorem State.setArrayBit_links (s : State) (base k : Nat) (b : Bool) : (s.setArrayBit base k b).links = s.links := by simp [State.setArrayBit]
@[simp] theorem State.setArrayBit_csw (s : State) (base k : Nat) (b : Bool) : (s.setArrayBit base k b).csw = s.csw := by simp [State.setArrayBit]
@[simp] theorem State.setArrayBit_mem (s : State) (base k : Nat) (b : Bool) : (s.setArrayBit base k b).mem = s.mem := by simp [State.setArrayBit]
@[simp] theorem State.setArrayBit_sec (s : State) (base k : Nat) (b : Bool) : (s.setArrayBit base k b).sec = s.sec := by simp [State.setArrayBit]
@[simp] theorem State.setArrayBit_xfr (s : State) (base k : Nat) (b : Bool) : (s.setArrayBit base k b).xfr = s.xfr := by simp [State.setArrayBit]
@[simp] theorem State.setArrayBit_prm (s : State) (base k : Nat) (b : Bool) : (s.setArrayBit base k b).prm = s.prm := by simp [State.setArrayBit]
@[simp] theorem State.setArrayBit_script (s : State) (base k : Nat) (b : Bool) : (s.setArrayBit base k b).script = s.script := by simp [State.setArrayBit]
@[simp] theorem State.setArrayBit_eru (s : State) (base k : Nat) (b : Bool) : (s.setArrayBit base k b).eru = s.eru := by simp [State.setArrayBit]
@[simp] theorem State.setArrayBit_col (s : State) (base k : Nat) (b : Bool) : (s.setArrayBit base k b).col = s.col := by simp [State.setArrayBit]
@[simp] theorem State.setArrayBit_upd (s : State) (base k : Nat) (b : Bool) : (s.setArrayBit base k b).upd = s.upd := by simp [State.setArrayBit]
@[simp] theorem State.setArrayBit_intm (s : State) (base k : Nat) (b : Bool) : (s.setArrayBit base k b).intm = s.intm := by simp [State.setArrayBit]
@[simp] theorem State.setArrayBit_commits (s : State) (base k : Nat) (b : Bool) : (s.setArrayBit base k b).commits = s.commits := by simp [State.setArrayBit]
@[simp] theorem State.setArrayBit_verifies (s : State) (base k : Nat) (b : Bool) : (s.setArrayBit base k b).verifies = s.verifies := by simp [State.setArrayBit]
@[simp] theorem State.setArrayBit_hostRead (s : State) (base k : Nat) (b : Bool) : (s.setArrayBit base k b).hostRead = s.hostRead := by simp [State.setArrayBit]
@[simp] theorem State.setArrayBit_memory (s : State) (base k : Nat) (b : Bool) : (s.setArrayBit base k b).memory = s.memory := by simp [State.setArrayBit]
@[simp] theorem State.setArrayBit_free (s : State) (base k : Nat) (b : Bool) : (s.setArrayBit base k b).free = s.free := by simp [State.setArrayBit]

@[simp] theorem State.setReg64_pending (s : State) (off v : Nat) : (s.setReg64 off v).pending = s.pending := by simp [State.setReg64]
@[simp] theorem State.setReg64_sels (s : State) (off v : Nat) : (s.setReg64 off v).sels = s.sels := by simp [State.setReg64]
@[simp] theorem State.setReg64_latches (s : State) (off v : Nat) : (s.setReg64 off v).latches = s.latches := by simp [State.setReg64]
@[simp] theorem State.setReg64_fuses (s : State) (off v : Nat) : (s.setReg64 off v).fuses = s.fuses := by simp [State.setReg64]
@[simp] theorem State.setReg64_kpr (s : State) (off v : Nat) : (s.setReg64 off v).kpr = s.kpr := by simp [State.setReg64]
@[simp] theorem State.setReg64_plt (s : State) (off v : Nat) : (s.setReg64 off v).plt = s.plt := by simp [State.setReg64]
@[simp] theorem State.setReg64_clk (s : State) (off v : Nat) : (s.setReg64 off v).clk = s.clk := by simp [State.setReg64]
@[simp] theorem State.setReg64_lanes (s : State) (off v : Nat) : (s.setReg64 off v).lanes = s.lanes := by simp [State.setReg64]
@[simp] theorem State.setReg64_links (s : State) (off v : Nat) : (s.setReg64 off v).links = s.links := by simp [State.setReg64]
@[simp] theorem State.setReg64_csw (s : State) (off v : Nat) : (s.setReg64 off v).csw = s.csw := by simp [State.setReg64]
@[simp] theorem State.setReg64_mem (s : State) (off v : Nat) : (s.setReg64 off v).mem = s.mem := by simp [State.setReg64]
@[simp] theorem State.setReg64_sec (s : State) (off v : Nat) : (s.setReg64 off v).sec = s.sec := by simp [State.setReg64]
@[simp] theorem State.setReg64_xfr (s : State) (off v : Nat) : (s.setReg64 off v).xfr = s.xfr := by simp [State.setReg64]
@[simp] theorem State.setReg64_prm (s : State) (off v : Nat) : (s.setReg64 off v).prm = s.prm := by simp [State.setReg64]
@[simp] theorem State.setReg64_script (s : State) (off v : Nat) : (s.setReg64 off v).script = s.script := by simp [State.setReg64]
@[simp] theorem State.setReg64_eru (s : State) (off v : Nat) : (s.setReg64 off v).eru = s.eru := by simp [State.setReg64]
@[simp] theorem State.setReg64_col (s : State) (off v : Nat) : (s.setReg64 off v).col = s.col := by simp [State.setReg64]
@[simp] theorem State.setReg64_upd (s : State) (off v : Nat) : (s.setReg64 off v).upd = s.upd := by simp [State.setReg64]
@[simp] theorem State.setReg64_intm (s : State) (off v : Nat) : (s.setReg64 off v).intm = s.intm := by simp [State.setReg64]
@[simp] theorem State.setReg64_commits (s : State) (off v : Nat) : (s.setReg64 off v).commits = s.commits := by simp [State.setReg64]
@[simp] theorem State.setReg64_verifies (s : State) (off v : Nat) : (s.setReg64 off v).verifies = s.verifies := by simp [State.setReg64]
@[simp] theorem State.setReg64_hostRead (s : State) (off v : Nat) : (s.setReg64 off v).hostRead = s.hostRead := by simp [State.setReg64]
@[simp] theorem State.setReg64_memory (s : State) (off v : Nat) : (s.setReg64 off v).memory = s.memory := by simp [State.setReg64]
@[simp] theorem State.setReg64_free (s : State) (off v : Nat) : (s.setReg64 off v).free = s.free := by simp [State.setReg64]

@[simp] theorem State.setWinReg_pending (s : State) (w : Nat) (off : Nat) (v : Word) : (s.setWinReg w off v).pending = s.pending := State.setReg_pending s (R.win w + off) v
@[simp] theorem State.setWinReg_sels (s : State) (w : Nat) (off : Nat) (v : Word) : (s.setWinReg w off v).sels = s.sels := State.setReg_sels s (R.win w + off) v
@[simp] theorem State.setWinReg_latches (s : State) (w : Nat) (off : Nat) (v : Word) : (s.setWinReg w off v).latches = s.latches := State.setReg_latches s (R.win w + off) v
@[simp] theorem State.setWinReg_fuses (s : State) (w : Nat) (off : Nat) (v : Word) : (s.setWinReg w off v).fuses = s.fuses := State.setReg_fuses s (R.win w + off) v
@[simp] theorem State.setWinReg_kpr (s : State) (w : Nat) (off : Nat) (v : Word) : (s.setWinReg w off v).kpr = s.kpr := State.setReg_kpr s (R.win w + off) v
@[simp] theorem State.setWinReg_plt (s : State) (w : Nat) (off : Nat) (v : Word) : (s.setWinReg w off v).plt = s.plt := State.setReg_plt s (R.win w + off) v
@[simp] theorem State.setWinReg_clk (s : State) (w : Nat) (off : Nat) (v : Word) : (s.setWinReg w off v).clk = s.clk := State.setReg_clk s (R.win w + off) v
@[simp] theorem State.setWinReg_lanes (s : State) (w : Nat) (off : Nat) (v : Word) : (s.setWinReg w off v).lanes = s.lanes := State.setReg_lanes s (R.win w + off) v
@[simp] theorem State.setWinReg_links (s : State) (w : Nat) (off : Nat) (v : Word) : (s.setWinReg w off v).links = s.links := State.setReg_links s (R.win w + off) v
@[simp] theorem State.setWinReg_csw (s : State) (w : Nat) (off : Nat) (v : Word) : (s.setWinReg w off v).csw = s.csw := State.setReg_csw s (R.win w + off) v
@[simp] theorem State.setWinReg_mem (s : State) (w : Nat) (off : Nat) (v : Word) : (s.setWinReg w off v).mem = s.mem := State.setReg_mem s (R.win w + off) v
@[simp] theorem State.setWinReg_sec (s : State) (w : Nat) (off : Nat) (v : Word) : (s.setWinReg w off v).sec = s.sec := State.setReg_sec s (R.win w + off) v
@[simp] theorem State.setWinReg_xfr (s : State) (w : Nat) (off : Nat) (v : Word) : (s.setWinReg w off v).xfr = s.xfr := State.setReg_xfr s (R.win w + off) v
@[simp] theorem State.setWinReg_prm (s : State) (w : Nat) (off : Nat) (v : Word) : (s.setWinReg w off v).prm = s.prm := State.setReg_prm s (R.win w + off) v
@[simp] theorem State.setWinReg_script (s : State) (w : Nat) (off : Nat) (v : Word) : (s.setWinReg w off v).script = s.script := State.setReg_script s (R.win w + off) v
@[simp] theorem State.setWinReg_eru (s : State) (w : Nat) (off : Nat) (v : Word) : (s.setWinReg w off v).eru = s.eru := State.setReg_eru s (R.win w + off) v
@[simp] theorem State.setWinReg_col (s : State) (w : Nat) (off : Nat) (v : Word) : (s.setWinReg w off v).col = s.col := State.setReg_col s (R.win w + off) v
@[simp] theorem State.setWinReg_upd (s : State) (w : Nat) (off : Nat) (v : Word) : (s.setWinReg w off v).upd = s.upd := State.setReg_upd s (R.win w + off) v
@[simp] theorem State.setWinReg_intm (s : State) (w : Nat) (off : Nat) (v : Word) : (s.setWinReg w off v).intm = s.intm := State.setReg_intm s (R.win w + off) v
@[simp] theorem State.setWinReg_commits (s : State) (w : Nat) (off : Nat) (v : Word) : (s.setWinReg w off v).commits = s.commits := State.setReg_commits s (R.win w + off) v
@[simp] theorem State.setWinReg_verifies (s : State) (w : Nat) (off : Nat) (v : Word) : (s.setWinReg w off v).verifies = s.verifies := State.setReg_verifies s (R.win w + off) v
@[simp] theorem State.setWinReg_hostRead (s : State) (w : Nat) (off : Nat) (v : Word) : (s.setWinReg w off v).hostRead = s.hostRead := State.setReg_hostRead s (R.win w + off) v
@[simp] theorem State.setWinReg_memory (s : State) (w : Nat) (off : Nat) (v : Word) : (s.setWinReg w off v).memory = s.memory := State.setReg_memory s (R.win w + off) v
@[simp] theorem State.setWinReg_free (s : State) (w : Nat) (off : Nat) (v : Word) : (s.setWinReg w off v).free = s.free := State.setReg_free s (R.win w + off) v

@[simp] theorem State.setSel_pending (s : State) (a off : Nat) (v : Word) : (s.setSel a off v).pending = s.pending := rfl
@[simp] theorem State.setSel_regs (s : State) (a off : Nat) (v : Word) : (s.setSel a off v).regs = s.regs := rfl
@[simp] theorem State.setSel_latches (s : State) (a off : Nat) (v : Word) : (s.setSel a off v).latches = s.latches := rfl
@[simp] theorem State.setSel_fuses (s : State) (a off : Nat) (v : Word) : (s.setSel a off v).fuses = s.fuses := rfl
@[simp] theorem State.setSel_kpr (s : State) (a off : Nat) (v : Word) : (s.setSel a off v).kpr = s.kpr := rfl
@[simp] theorem State.setSel_plt (s : State) (a off : Nat) (v : Word) : (s.setSel a off v).plt = s.plt := rfl
@[simp] theorem State.setSel_clk (s : State) (a off : Nat) (v : Word) : (s.setSel a off v).clk = s.clk := rfl
@[simp] theorem State.setSel_lanes (s : State) (a off : Nat) (v : Word) : (s.setSel a off v).lanes = s.lanes := rfl
@[simp] theorem State.setSel_links (s : State) (a off : Nat) (v : Word) : (s.setSel a off v).links = s.links := rfl
@[simp] theorem State.setSel_csw (s : State) (a off : Nat) (v : Word) : (s.setSel a off v).csw = s.csw := rfl
@[simp] theorem State.setSel_mem (s : State) (a off : Nat) (v : Word) : (s.setSel a off v).mem = s.mem := rfl
@[simp] theorem State.setSel_sec (s : State) (a off : Nat) (v : Word) : (s.setSel a off v).sec = s.sec := rfl
@[simp] theorem State.setSel_xfr (s : State) (a off : Nat) (v : Word) : (s.setSel a off v).xfr = s.xfr := rfl
@[simp] theorem State.setSel_prm (s : State) (a off : Nat) (v : Word) : (s.setSel a off v).prm = s.prm := rfl
@[simp] theorem State.setSel_script (s : State) (a off : Nat) (v : Word) : (s.setSel a off v).script = s.script := rfl
@[simp] theorem State.setSel_eru (s : State) (a off : Nat) (v : Word) : (s.setSel a off v).eru = s.eru := rfl
@[simp] theorem State.setSel_col (s : State) (a off : Nat) (v : Word) : (s.setSel a off v).col = s.col := rfl
@[simp] theorem State.setSel_upd (s : State) (a off : Nat) (v : Word) : (s.setSel a off v).upd = s.upd := rfl
@[simp] theorem State.setSel_intm (s : State) (a off : Nat) (v : Word) : (s.setSel a off v).intm = s.intm := rfl
@[simp] theorem State.setSel_commits (s : State) (a off : Nat) (v : Word) : (s.setSel a off v).commits = s.commits := rfl
@[simp] theorem State.setSel_verifies (s : State) (a off : Nat) (v : Word) : (s.setSel a off v).verifies = s.verifies := rfl
@[simp] theorem State.setSel_hostRead (s : State) (a off : Nat) (v : Word) : (s.setSel a off v).hostRead = s.hostRead := rfl
@[simp] theorem State.setSel_memory (s : State) (a off : Nat) (v : Word) : (s.setSel a off v).memory = s.memory := rfl
@[simp] theorem State.setSel_free (s : State) (a off : Nat) (v : Word) : (s.setSel a off v).free = s.free := rfl

@[simp] theorem State.tookFree_pending (s : State) : (s.tookFree).pending = s.pending := rfl
@[simp] theorem State.tookFree_regs (s : State) : (s.tookFree).regs = s.regs := rfl
@[simp] theorem State.tookFree_sels (s : State) : (s.tookFree).sels = s.sels := rfl
@[simp] theorem State.tookFree_latches (s : State) : (s.tookFree).latches = s.latches := rfl
@[simp] theorem State.tookFree_fuses (s : State) : (s.tookFree).fuses = s.fuses := rfl
@[simp] theorem State.tookFree_kpr (s : State) : (s.tookFree).kpr = s.kpr := rfl
@[simp] theorem State.tookFree_plt (s : State) : (s.tookFree).plt = s.plt := rfl
@[simp] theorem State.tookFree_clk (s : State) : (s.tookFree).clk = s.clk := rfl
@[simp] theorem State.tookFree_lanes (s : State) : (s.tookFree).lanes = s.lanes := rfl
@[simp] theorem State.tookFree_links (s : State) : (s.tookFree).links = s.links := rfl
@[simp] theorem State.tookFree_csw (s : State) : (s.tookFree).csw = s.csw := rfl
@[simp] theorem State.tookFree_mem (s : State) : (s.tookFree).mem = s.mem := rfl
@[simp] theorem State.tookFree_sec (s : State) : (s.tookFree).sec = s.sec := rfl
@[simp] theorem State.tookFree_xfr (s : State) : (s.tookFree).xfr = s.xfr := rfl
@[simp] theorem State.tookFree_prm (s : State) : (s.tookFree).prm = s.prm := rfl
@[simp] theorem State.tookFree_script (s : State) : (s.tookFree).script = s.script := rfl
@[simp] theorem State.tookFree_eru (s : State) : (s.tookFree).eru = s.eru := rfl
@[simp] theorem State.tookFree_col (s : State) : (s.tookFree).col = s.col := rfl
@[simp] theorem State.tookFree_upd (s : State) : (s.tookFree).upd = s.upd := rfl
@[simp] theorem State.tookFree_intm (s : State) : (s.tookFree).intm = s.intm := rfl
@[simp] theorem State.tookFree_commits (s : State) : (s.tookFree).commits = s.commits := rfl
@[simp] theorem State.tookFree_verifies (s : State) : (s.tookFree).verifies = s.verifies := rfl
@[simp] theorem State.tookFree_hostRead (s : State) : (s.tookFree).hostRead = s.hostRead := rfl
@[simp] theorem State.tookFree_memory (s : State) : (s.tookFree).memory = s.memory := rfl

@[simp] theorem State.injectCell_pending (s : State) (c : Cell) : (s.injectCell c).pending = s.pending := rfl
@[simp] theorem State.injectCell_regs (s : State) (c : Cell) : (s.injectCell c).regs = s.regs := rfl
@[simp] theorem State.injectCell_sels (s : State) (c : Cell) : (s.injectCell c).sels = s.sels := rfl
@[simp] theorem State.injectCell_latches (s : State) (c : Cell) : (s.injectCell c).latches = s.latches := rfl
@[simp] theorem State.injectCell_fuses (s : State) (c : Cell) : (s.injectCell c).fuses = s.fuses := rfl
@[simp] theorem State.injectCell_kpr (s : State) (c : Cell) : (s.injectCell c).kpr = s.kpr := rfl
@[simp] theorem State.injectCell_plt (s : State) (c : Cell) : (s.injectCell c).plt = s.plt := rfl
@[simp] theorem State.injectCell_clk (s : State) (c : Cell) : (s.injectCell c).clk = s.clk := rfl
@[simp] theorem State.injectCell_lanes (s : State) (c : Cell) : (s.injectCell c).lanes = s.lanes := rfl
@[simp] theorem State.injectCell_links (s : State) (c : Cell) : (s.injectCell c).links = s.links := rfl
@[simp] theorem State.injectCell_mem (s : State) (c : Cell) : (s.injectCell c).mem = s.mem := rfl
@[simp] theorem State.injectCell_sec (s : State) (c : Cell) : (s.injectCell c).sec = s.sec := rfl
@[simp] theorem State.injectCell_xfr (s : State) (c : Cell) : (s.injectCell c).xfr = s.xfr := rfl
@[simp] theorem State.injectCell_prm (s : State) (c : Cell) : (s.injectCell c).prm = s.prm := rfl
@[simp] theorem State.injectCell_script (s : State) (c : Cell) : (s.injectCell c).script = s.script := rfl
@[simp] theorem State.injectCell_eru (s : State) (c : Cell) : (s.injectCell c).eru = s.eru := rfl
@[simp] theorem State.injectCell_col (s : State) (c : Cell) : (s.injectCell c).col = s.col := rfl
@[simp] theorem State.injectCell_upd (s : State) (c : Cell) : (s.injectCell c).upd = s.upd := rfl
@[simp] theorem State.injectCell_intm (s : State) (c : Cell) : (s.injectCell c).intm = s.intm := rfl
@[simp] theorem State.injectCell_commits (s : State) (c : Cell) : (s.injectCell c).commits = s.commits := rfl
@[simp] theorem State.injectCell_verifies (s : State) (c : Cell) : (s.injectCell c).verifies = s.verifies := rfl
@[simp] theorem State.injectCell_hostRead (s : State) (c : Cell) : (s.injectCell c).hostRead = s.hostRead := rfl
@[simp] theorem State.injectCell_memory (s : State) (c : Cell) : (s.injectCell c).memory = s.memory := rfl
@[simp] theorem State.injectCell_free (s : State) (c : Cell) : (s.injectCell c).free = s.free := rfl

@[simp] theorem State.eject_pending (s : State) (input : Nat) (c : Cell) (neverSent : Bool) : (s.eject input c neverSent).pending = s.pending := rfl
@[simp] theorem State.eject_regs (s : State) (input : Nat) (c : Cell) (neverSent : Bool) : (s.eject input c neverSent).regs = s.regs := rfl
@[simp] theorem State.eject_sels (s : State) (input : Nat) (c : Cell) (neverSent : Bool) : (s.eject input c neverSent).sels = s.sels := rfl
@[simp] theorem State.eject_latches (s : State) (input : Nat) (c : Cell) (neverSent : Bool) : (s.eject input c neverSent).latches = s.latches := rfl
@[simp] theorem State.eject_fuses (s : State) (input : Nat) (c : Cell) (neverSent : Bool) : (s.eject input c neverSent).fuses = s.fuses := rfl
@[simp] theorem State.eject_kpr (s : State) (input : Nat) (c : Cell) (neverSent : Bool) : (s.eject input c neverSent).kpr = s.kpr := rfl
@[simp] theorem State.eject_plt (s : State) (input : Nat) (c : Cell) (neverSent : Bool) : (s.eject input c neverSent).plt = s.plt := rfl
@[simp] theorem State.eject_clk (s : State) (input : Nat) (c : Cell) (neverSent : Bool) : (s.eject input c neverSent).clk = s.clk := rfl
@[simp] theorem State.eject_lanes (s : State) (input : Nat) (c : Cell) (neverSent : Bool) : (s.eject input c neverSent).lanes = s.lanes := rfl
@[simp] theorem State.eject_links (s : State) (input : Nat) (c : Cell) (neverSent : Bool) : (s.eject input c neverSent).links = s.links := rfl
@[simp] theorem State.eject_mem (s : State) (input : Nat) (c : Cell) (neverSent : Bool) : (s.eject input c neverSent).mem = s.mem := rfl
@[simp] theorem State.eject_sec (s : State) (input : Nat) (c : Cell) (neverSent : Bool) : (s.eject input c neverSent).sec = s.sec := rfl
@[simp] theorem State.eject_xfr (s : State) (input : Nat) (c : Cell) (neverSent : Bool) : (s.eject input c neverSent).xfr = s.xfr := rfl
@[simp] theorem State.eject_prm (s : State) (input : Nat) (c : Cell) (neverSent : Bool) : (s.eject input c neverSent).prm = s.prm := rfl
@[simp] theorem State.eject_script (s : State) (input : Nat) (c : Cell) (neverSent : Bool) : (s.eject input c neverSent).script = s.script := rfl
@[simp] theorem State.eject_eru (s : State) (input : Nat) (c : Cell) (neverSent : Bool) : (s.eject input c neverSent).eru = s.eru := rfl
@[simp] theorem State.eject_col (s : State) (input : Nat) (c : Cell) (neverSent : Bool) : (s.eject input c neverSent).col = s.col := rfl
@[simp] theorem State.eject_upd (s : State) (input : Nat) (c : Cell) (neverSent : Bool) : (s.eject input c neverSent).upd = s.upd := rfl
@[simp] theorem State.eject_intm (s : State) (input : Nat) (c : Cell) (neverSent : Bool) : (s.eject input c neverSent).intm = s.intm := rfl
@[simp] theorem State.eject_commits (s : State) (input : Nat) (c : Cell) (neverSent : Bool) : (s.eject input c neverSent).commits = s.commits := rfl
@[simp] theorem State.eject_verifies (s : State) (input : Nat) (c : Cell) (neverSent : Bool) : (s.eject input c neverSent).verifies = s.verifies := rfl
@[simp] theorem State.eject_hostRead (s : State) (input : Nat) (c : Cell) (neverSent : Bool) : (s.eject input c neverSent).hostRead = s.hostRead := rfl
@[simp] theorem State.eject_memory (s : State) (input : Nat) (c : Cell) (neverSent : Bool) : (s.eject input c neverSent).memory = s.memory := rfl
@[simp] theorem State.eject_free (s : State) (input : Nat) (c : Cell) (neverSent : Bool) : (s.eject input c neverSent).free = s.free := rfl

@[simp] theorem State.takeEjected_pending (s : State) (c : Cell) : (s.takeEjected c).pending = s.pending := by unfold State.takeEjected; split <;> simp
@[simp] theorem State.takeEjected_regs (s : State) (c : Cell) : (s.takeEjected c).regs = s.regs := by unfold State.takeEjected; split <;> simp
@[simp] theorem State.takeEjected_sels (s : State) (c : Cell) : (s.takeEjected c).sels = s.sels := by unfold State.takeEjected; split <;> simp
@[simp] theorem State.takeEjected_latches (s : State) (c : Cell) : (s.takeEjected c).latches = s.latches := by unfold State.takeEjected; split <;> simp
@[simp] theorem State.takeEjected_fuses (s : State) (c : Cell) : (s.takeEjected c).fuses = s.fuses := by unfold State.takeEjected; split <;> simp
@[simp] theorem State.takeEjected_kpr (s : State) (c : Cell) : (s.takeEjected c).kpr = s.kpr := by unfold State.takeEjected; split <;> simp
@[simp] theorem State.takeEjected_plt (s : State) (c : Cell) : (s.takeEjected c).plt = s.plt := by unfold State.takeEjected; split <;> simp
@[simp] theorem State.takeEjected_clk (s : State) (c : Cell) : (s.takeEjected c).clk = s.clk := by unfold State.takeEjected; split <;> simp
@[simp] theorem State.takeEjected_lanes (s : State) (c : Cell) : (s.takeEjected c).lanes = s.lanes := by unfold State.takeEjected; split <;> simp
@[simp] theorem State.takeEjected_links (s : State) (c : Cell) : (s.takeEjected c).links = s.links := by unfold State.takeEjected; split <;> simp
@[simp] theorem State.takeEjected_mem (s : State) (c : Cell) : (s.takeEjected c).mem = s.mem := by unfold State.takeEjected; split <;> simp
@[simp] theorem State.takeEjected_sec (s : State) (c : Cell) : (s.takeEjected c).sec = s.sec := by unfold State.takeEjected; split <;> simp
@[simp] theorem State.takeEjected_xfr (s : State) (c : Cell) : (s.takeEjected c).xfr = s.xfr := by unfold State.takeEjected; split <;> simp
@[simp] theorem State.takeEjected_prm (s : State) (c : Cell) : (s.takeEjected c).prm = s.prm := by unfold State.takeEjected; split <;> simp
@[simp] theorem State.takeEjected_script (s : State) (c : Cell) : (s.takeEjected c).script = s.script := by unfold State.takeEjected; split <;> simp
@[simp] theorem State.takeEjected_eru (s : State) (c : Cell) : (s.takeEjected c).eru = s.eru := by unfold State.takeEjected; split <;> simp
@[simp] theorem State.takeEjected_col (s : State) (c : Cell) : (s.takeEjected c).col = s.col := by unfold State.takeEjected; split <;> simp
@[simp] theorem State.takeEjected_upd (s : State) (c : Cell) : (s.takeEjected c).upd = s.upd := by unfold State.takeEjected; split <;> simp
@[simp] theorem State.takeEjected_intm (s : State) (c : Cell) : (s.takeEjected c).intm = s.intm := by unfold State.takeEjected; split <;> simp
@[simp] theorem State.takeEjected_commits (s : State) (c : Cell) : (s.takeEjected c).commits = s.commits := by unfold State.takeEjected; split <;> simp
@[simp] theorem State.takeEjected_verifies (s : State) (c : Cell) : (s.takeEjected c).verifies = s.verifies := by unfold State.takeEjected; split <;> simp
@[simp] theorem State.takeEjected_hostRead (s : State) (c : Cell) : (s.takeEjected c).hostRead = s.hostRead := by unfold State.takeEjected; split <;> simp
@[simp] theorem State.takeEjected_memory (s : State) (c : Cell) : (s.takeEjected c).memory = s.memory := by unfold State.takeEjected; split <;> simp
@[simp] theorem State.takeEjected_free (s : State) (c : Cell) : (s.takeEjected c).free = s.free := by unfold State.takeEjected; split <;> simp

@[simp] theorem State.setLane_pending (s : State) (l : Nat) (x : Lane) : (s.setLane l x).pending = s.pending := rfl
@[simp] theorem State.setLane_regs (s : State) (l : Nat) (x : Lane) : (s.setLane l x).regs = s.regs := rfl
@[simp] theorem State.setLane_sels (s : State) (l : Nat) (x : Lane) : (s.setLane l x).sels = s.sels := rfl
@[simp] theorem State.setLane_latches (s : State) (l : Nat) (x : Lane) : (s.setLane l x).latches = s.latches := rfl
@[simp] theorem State.setLane_fuses (s : State) (l : Nat) (x : Lane) : (s.setLane l x).fuses = s.fuses := rfl
@[simp] theorem State.setLane_kpr (s : State) (l : Nat) (x : Lane) : (s.setLane l x).kpr = s.kpr := rfl
@[simp] theorem State.setLane_plt (s : State) (l : Nat) (x : Lane) : (s.setLane l x).plt = s.plt := rfl
@[simp] theorem State.setLane_clk (s : State) (l : Nat) (x : Lane) : (s.setLane l x).clk = s.clk := rfl
@[simp] theorem State.setLane_links (s : State) (l : Nat) (x : Lane) : (s.setLane l x).links = s.links := rfl
@[simp] theorem State.setLane_csw (s : State) (l : Nat) (x : Lane) : (s.setLane l x).csw = s.csw := rfl
@[simp] theorem State.setLane_mem (s : State) (l : Nat) (x : Lane) : (s.setLane l x).mem = s.mem := rfl
@[simp] theorem State.setLane_sec (s : State) (l : Nat) (x : Lane) : (s.setLane l x).sec = s.sec := rfl
@[simp] theorem State.setLane_xfr (s : State) (l : Nat) (x : Lane) : (s.setLane l x).xfr = s.xfr := rfl
@[simp] theorem State.setLane_prm (s : State) (l : Nat) (x : Lane) : (s.setLane l x).prm = s.prm := rfl
@[simp] theorem State.setLane_script (s : State) (l : Nat) (x : Lane) : (s.setLane l x).script = s.script := rfl
@[simp] theorem State.setLane_eru (s : State) (l : Nat) (x : Lane) : (s.setLane l x).eru = s.eru := rfl
@[simp] theorem State.setLane_col (s : State) (l : Nat) (x : Lane) : (s.setLane l x).col = s.col := rfl
@[simp] theorem State.setLane_upd (s : State) (l : Nat) (x : Lane) : (s.setLane l x).upd = s.upd := rfl
@[simp] theorem State.setLane_intm (s : State) (l : Nat) (x : Lane) : (s.setLane l x).intm = s.intm := rfl
@[simp] theorem State.setLane_commits (s : State) (l : Nat) (x : Lane) : (s.setLane l x).commits = s.commits := rfl
@[simp] theorem State.setLane_verifies (s : State) (l : Nat) (x : Lane) : (s.setLane l x).verifies = s.verifies := rfl
@[simp] theorem State.setLane_hostRead (s : State) (l : Nat) (x : Lane) : (s.setLane l x).hostRead = s.hostRead := rfl
@[simp] theorem State.setLane_memory (s : State) (l : Nat) (x : Lane) : (s.setLane l x).memory = s.memory := rfl
@[simp] theorem State.setLane_free (s : State) (l : Nat) (x : Lane) : (s.setLane l x).free = s.free := rfl

@[simp] theorem State.setLink_pending (s : State) (n : Nat) (x : Link) : (s.setLink n x).pending = s.pending := rfl
@[simp] theorem State.setLink_regs (s : State) (n : Nat) (x : Link) : (s.setLink n x).regs = s.regs := rfl
@[simp] theorem State.setLink_sels (s : State) (n : Nat) (x : Link) : (s.setLink n x).sels = s.sels := rfl
@[simp] theorem State.setLink_latches (s : State) (n : Nat) (x : Link) : (s.setLink n x).latches = s.latches := rfl
@[simp] theorem State.setLink_fuses (s : State) (n : Nat) (x : Link) : (s.setLink n x).fuses = s.fuses := rfl
@[simp] theorem State.setLink_kpr (s : State) (n : Nat) (x : Link) : (s.setLink n x).kpr = s.kpr := rfl
@[simp] theorem State.setLink_plt (s : State) (n : Nat) (x : Link) : (s.setLink n x).plt = s.plt := rfl
@[simp] theorem State.setLink_clk (s : State) (n : Nat) (x : Link) : (s.setLink n x).clk = s.clk := rfl
@[simp] theorem State.setLink_lanes (s : State) (n : Nat) (x : Link) : (s.setLink n x).lanes = s.lanes := rfl
@[simp] theorem State.setLink_csw (s : State) (n : Nat) (x : Link) : (s.setLink n x).csw = s.csw := rfl
@[simp] theorem State.setLink_mem (s : State) (n : Nat) (x : Link) : (s.setLink n x).mem = s.mem := rfl
@[simp] theorem State.setLink_sec (s : State) (n : Nat) (x : Link) : (s.setLink n x).sec = s.sec := rfl
@[simp] theorem State.setLink_xfr (s : State) (n : Nat) (x : Link) : (s.setLink n x).xfr = s.xfr := rfl
@[simp] theorem State.setLink_prm (s : State) (n : Nat) (x : Link) : (s.setLink n x).prm = s.prm := rfl
@[simp] theorem State.setLink_script (s : State) (n : Nat) (x : Link) : (s.setLink n x).script = s.script := rfl
@[simp] theorem State.setLink_eru (s : State) (n : Nat) (x : Link) : (s.setLink n x).eru = s.eru := rfl
@[simp] theorem State.setLink_col (s : State) (n : Nat) (x : Link) : (s.setLink n x).col = s.col := rfl
@[simp] theorem State.setLink_upd (s : State) (n : Nat) (x : Link) : (s.setLink n x).upd = s.upd := rfl
@[simp] theorem State.setLink_intm (s : State) (n : Nat) (x : Link) : (s.setLink n x).intm = s.intm := rfl
@[simp] theorem State.setLink_commits (s : State) (n : Nat) (x : Link) : (s.setLink n x).commits = s.commits := rfl
@[simp] theorem State.setLink_verifies (s : State) (n : Nat) (x : Link) : (s.setLink n x).verifies = s.verifies := rfl
@[simp] theorem State.setLink_hostRead (s : State) (n : Nat) (x : Link) : (s.setLink n x).hostRead = s.hostRead := rfl
@[simp] theorem State.setLink_memory (s : State) (n : Nat) (x : Link) : (s.setLink n x).memory = s.memory := rfl
@[simp] theorem State.setLink_free (s : State) (n : Nat) (x : Link) : (s.setLink n x).free = s.free := rfl

@[simp] theorem State.modLink_pending (s : State) (n : Nat) (f : Link → Link) : (s.modLink n f).pending = s.pending := by simp [State.modLink]
@[simp] theorem State.modLink_regs (s : State) (n : Nat) (f : Link → Link) : (s.modLink n f).regs = s.regs := by simp [State.modLink]
@[simp] theorem State.modLink_sels (s : State) (n : Nat) (f : Link → Link) : (s.modLink n f).sels = s.sels := by simp [State.modLink]
@[simp] theorem State.modLink_latches (s : State) (n : Nat) (f : Link → Link) : (s.modLink n f).latches = s.latches := by simp [State.modLink]
@[simp] theorem State.modLink_fuses (s : State) (n : Nat) (f : Link → Link) : (s.modLink n f).fuses = s.fuses := by simp [State.modLink]
@[simp] theorem State.modLink_kpr (s : State) (n : Nat) (f : Link → Link) : (s.modLink n f).kpr = s.kpr := by simp [State.modLink]
@[simp] theorem State.modLink_plt (s : State) (n : Nat) (f : Link → Link) : (s.modLink n f).plt = s.plt := by simp [State.modLink]
@[simp] theorem State.modLink_clk (s : State) (n : Nat) (f : Link → Link) : (s.modLink n f).clk = s.clk := by simp [State.modLink]
@[simp] theorem State.modLink_lanes (s : State) (n : Nat) (f : Link → Link) : (s.modLink n f).lanes = s.lanes := by simp [State.modLink]
@[simp] theorem State.modLink_csw (s : State) (n : Nat) (f : Link → Link) : (s.modLink n f).csw = s.csw := by simp [State.modLink]
@[simp] theorem State.modLink_mem (s : State) (n : Nat) (f : Link → Link) : (s.modLink n f).mem = s.mem := by simp [State.modLink]
@[simp] theorem State.modLink_sec (s : State) (n : Nat) (f : Link → Link) : (s.modLink n f).sec = s.sec := by simp [State.modLink]
@[simp] theorem State.modLink_xfr (s : State) (n : Nat) (f : Link → Link) : (s.modLink n f).xfr = s.xfr := by simp [State.modLink]
@[simp] theorem State.modLink_prm (s : State) (n : Nat) (f : Link → Link) : (s.modLink n f).prm = s.prm := by simp [State.modLink]
@[simp] theorem State.modLink_script (s : State) (n : Nat) (f : Link → Link) : (s.modLink n f).script = s.script := by simp [State.modLink]
@[simp] theorem State.modLink_eru (s : State) (n : Nat) (f : Link → Link) : (s.modLink n f).eru = s.eru := by simp [State.modLink]
@[simp] theorem State.modLink_col (s : State) (n : Nat) (f : Link → Link) : (s.modLink n f).col = s.col := by simp [State.modLink]
@[simp] theorem State.modLink_upd (s : State) (n : Nat) (f : Link → Link) : (s.modLink n f).upd = s.upd := by simp [State.modLink]
@[simp] theorem State.modLink_intm (s : State) (n : Nat) (f : Link → Link) : (s.modLink n f).intm = s.intm := by simp [State.modLink]
@[simp] theorem State.modLink_commits (s : State) (n : Nat) (f : Link → Link) : (s.modLink n f).commits = s.commits := by simp [State.modLink]
@[simp] theorem State.modLink_verifies (s : State) (n : Nat) (f : Link → Link) : (s.modLink n f).verifies = s.verifies := by simp [State.modLink]
@[simp] theorem State.modLink_hostRead (s : State) (n : Nat) (f : Link → Link) : (s.modLink n f).hostRead = s.hostRead := by simp [State.modLink]
@[simp] theorem State.modLink_memory (s : State) (n : Nat) (f : Link → Link) : (s.modLink n f).memory = s.memory := by simp [State.modLink]
@[simp] theorem State.modLink_free (s : State) (n : Nat) (f : Link → Link) : (s.modLink n f).free = s.free := by simp [State.modLink]

@[simp] theorem State.modLane_pending (s : State) (l : Nat) (f : Lane → Lane) : (s.modLane l f).pending = s.pending := by simp [State.modLane]
@[simp] theorem State.modLane_regs (s : State) (l : Nat) (f : Lane → Lane) : (s.modLane l f).regs = s.regs := by simp [State.modLane]
@[simp] theorem State.modLane_sels (s : State) (l : Nat) (f : Lane → Lane) : (s.modLane l f).sels = s.sels := by simp [State.modLane]
@[simp] theorem State.modLane_latches (s : State) (l : Nat) (f : Lane → Lane) : (s.modLane l f).latches = s.latches := by simp [State.modLane]
@[simp] theorem State.modLane_fuses (s : State) (l : Nat) (f : Lane → Lane) : (s.modLane l f).fuses = s.fuses := by simp [State.modLane]
@[simp] theorem State.modLane_kpr (s : State) (l : Nat) (f : Lane → Lane) : (s.modLane l f).kpr = s.kpr := by simp [State.modLane]
@[simp] theorem State.modLane_plt (s : State) (l : Nat) (f : Lane → Lane) : (s.modLane l f).plt = s.plt := by simp [State.modLane]
@[simp] theorem State.modLane_clk (s : State) (l : Nat) (f : Lane → Lane) : (s.modLane l f).clk = s.clk := by simp [State.modLane]
@[simp] theorem State.modLane_links (s : State) (l : Nat) (f : Lane → Lane) : (s.modLane l f).links = s.links := by simp [State.modLane]
@[simp] theorem State.modLane_csw (s : State) (l : Nat) (f : Lane → Lane) : (s.modLane l f).csw = s.csw := by simp [State.modLane]
@[simp] theorem State.modLane_mem (s : State) (l : Nat) (f : Lane → Lane) : (s.modLane l f).mem = s.mem := by simp [State.modLane]
@[simp] theorem State.modLane_sec (s : State) (l : Nat) (f : Lane → Lane) : (s.modLane l f).sec = s.sec := by simp [State.modLane]
@[simp] theorem State.modLane_xfr (s : State) (l : Nat) (f : Lane → Lane) : (s.modLane l f).xfr = s.xfr := by simp [State.modLane]
@[simp] theorem State.modLane_prm (s : State) (l : Nat) (f : Lane → Lane) : (s.modLane l f).prm = s.prm := by simp [State.modLane]
@[simp] theorem State.modLane_script (s : State) (l : Nat) (f : Lane → Lane) : (s.modLane l f).script = s.script := by simp [State.modLane]
@[simp] theorem State.modLane_eru (s : State) (l : Nat) (f : Lane → Lane) : (s.modLane l f).eru = s.eru := by simp [State.modLane]
@[simp] theorem State.modLane_col (s : State) (l : Nat) (f : Lane → Lane) : (s.modLane l f).col = s.col := by simp [State.modLane]
@[simp] theorem State.modLane_upd (s : State) (l : Nat) (f : Lane → Lane) : (s.modLane l f).upd = s.upd := by simp [State.modLane]
@[simp] theorem State.modLane_intm (s : State) (l : Nat) (f : Lane → Lane) : (s.modLane l f).intm = s.intm := by simp [State.modLane]
@[simp] theorem State.modLane_commits (s : State) (l : Nat) (f : Lane → Lane) : (s.modLane l f).commits = s.commits := by simp [State.modLane]
@[simp] theorem State.modLane_verifies (s : State) (l : Nat) (f : Lane → Lane) : (s.modLane l f).verifies = s.verifies := by simp [State.modLane]
@[simp] theorem State.modLane_hostRead (s : State) (l : Nat) (f : Lane → Lane) : (s.modLane l f).hostRead = s.hostRead := by simp [State.modLane]
@[simp] theorem State.modLane_memory (s : State) (l : Nat) (f : Lane → Lane) : (s.modLane l f).memory = s.memory := by simp [State.modLane]
@[simp] theorem State.modLane_free (s : State) (l : Nat) (f : Lane → Lane) : (s.modLane l f).free = s.free := by simp [State.modLane]

@[simp] theorem State.setKpr_pending (s : State) (x : Kpr) : (s.setKpr x).pending = s.pending := rfl
@[simp] theorem State.setKpr_regs (s : State) (x : Kpr) : (s.setKpr x).regs = s.regs := rfl
@[simp] theorem State.setKpr_sels (s : State) (x : Kpr) : (s.setKpr x).sels = s.sels := rfl
@[simp] theorem State.setKpr_latches (s : State) (x : Kpr) : (s.setKpr x).latches = s.latches := rfl
@[simp] theorem State.setKpr_fuses (s : State) (x : Kpr) : (s.setKpr x).fuses = s.fuses := rfl
@[simp] theorem State.setKpr_kpr (s : State) (x : Kpr) : (s.setKpr x).kpr = x := rfl
@[simp] theorem State.setKpr_plt (s : State) (x : Kpr) : (s.setKpr x).plt = s.plt := rfl
@[simp] theorem State.setKpr_clk (s : State) (x : Kpr) : (s.setKpr x).clk = s.clk := rfl
@[simp] theorem State.setKpr_lanes (s : State) (x : Kpr) : (s.setKpr x).lanes = s.lanes := rfl
@[simp] theorem State.setKpr_links (s : State) (x : Kpr) : (s.setKpr x).links = s.links := rfl
@[simp] theorem State.setKpr_csw (s : State) (x : Kpr) : (s.setKpr x).csw = s.csw := rfl
@[simp] theorem State.setKpr_mem (s : State) (x : Kpr) : (s.setKpr x).mem = s.mem := rfl
@[simp] theorem State.setKpr_sec (s : State) (x : Kpr) : (s.setKpr x).sec = s.sec := rfl
@[simp] theorem State.setKpr_xfr (s : State) (x : Kpr) : (s.setKpr x).xfr = s.xfr := rfl
@[simp] theorem State.setKpr_prm (s : State) (x : Kpr) : (s.setKpr x).prm = s.prm := rfl
@[simp] theorem State.setKpr_script (s : State) (x : Kpr) : (s.setKpr x).script = s.script := rfl
@[simp] theorem State.setKpr_eru (s : State) (x : Kpr) : (s.setKpr x).eru = s.eru := rfl
@[simp] theorem State.setKpr_col (s : State) (x : Kpr) : (s.setKpr x).col = s.col := rfl
@[simp] theorem State.setKpr_upd (s : State) (x : Kpr) : (s.setKpr x).upd = s.upd := rfl
@[simp] theorem State.setKpr_intm (s : State) (x : Kpr) : (s.setKpr x).intm = s.intm := rfl
@[simp] theorem State.setKpr_commits (s : State) (x : Kpr) : (s.setKpr x).commits = s.commits := rfl
@[simp] theorem State.setKpr_verifies (s : State) (x : Kpr) : (s.setKpr x).verifies = s.verifies := rfl
@[simp] theorem State.setKpr_hostRead (s : State) (x : Kpr) : (s.setKpr x).hostRead = s.hostRead := rfl
@[simp] theorem State.setKpr_memory (s : State) (x : Kpr) : (s.setKpr x).memory = s.memory := rfl
@[simp] theorem State.setKpr_free (s : State) (x : Kpr) : (s.setKpr x).free = s.free := rfl

@[simp] theorem State.answerRead_pending (s : State) (w : Nat) (l : Line) : (s.answerRead w l).pending = s.pending := rfl
@[simp] theorem State.answerRead_regs (s : State) (w : Nat) (l : Line) : (s.answerRead w l).regs = s.regs := rfl
@[simp] theorem State.answerRead_sels (s : State) (w : Nat) (l : Line) : (s.answerRead w l).sels = s.sels := rfl
@[simp] theorem State.answerRead_latches (s : State) (w : Nat) (l : Line) : (s.answerRead w l).latches = s.latches := rfl
@[simp] theorem State.answerRead_fuses (s : State) (w : Nat) (l : Line) : (s.answerRead w l).fuses = s.fuses := rfl
@[simp] theorem State.answerRead_kpr (s : State) (w : Nat) (l : Line) : (s.answerRead w l).kpr = s.kpr := rfl
@[simp] theorem State.answerRead_plt (s : State) (w : Nat) (l : Line) : (s.answerRead w l).plt = s.plt := rfl
@[simp] theorem State.answerRead_clk (s : State) (w : Nat) (l : Line) : (s.answerRead w l).clk = s.clk := rfl
@[simp] theorem State.answerRead_lanes (s : State) (w : Nat) (l : Line) : (s.answerRead w l).lanes = s.lanes := rfl
@[simp] theorem State.answerRead_links (s : State) (w : Nat) (l : Line) : (s.answerRead w l).links = s.links := rfl
@[simp] theorem State.answerRead_csw (s : State) (w : Nat) (l : Line) : (s.answerRead w l).csw = s.csw := rfl
@[simp] theorem State.answerRead_mem (s : State) (w : Nat) (l : Line) : (s.answerRead w l).mem = s.mem := rfl
@[simp] theorem State.answerRead_sec (s : State) (w : Nat) (l : Line) : (s.answerRead w l).sec = s.sec := rfl
@[simp] theorem State.answerRead_xfr (s : State) (w : Nat) (l : Line) : (s.answerRead w l).xfr = s.xfr := rfl
@[simp] theorem State.answerRead_prm (s : State) (w : Nat) (l : Line) : (s.answerRead w l).prm = s.prm := rfl
@[simp] theorem State.answerRead_script (s : State) (w : Nat) (l : Line) : (s.answerRead w l).script = s.script := rfl
@[simp] theorem State.answerRead_eru (s : State) (w : Nat) (l : Line) : (s.answerRead w l).eru = s.eru := rfl
@[simp] theorem State.answerRead_col (s : State) (w : Nat) (l : Line) : (s.answerRead w l).col = s.col := rfl
@[simp] theorem State.answerRead_upd (s : State) (w : Nat) (l : Line) : (s.answerRead w l).upd = s.upd := rfl
@[simp] theorem State.answerRead_intm (s : State) (w : Nat) (l : Line) : (s.answerRead w l).intm = s.intm := rfl
@[simp] theorem State.answerRead_commits (s : State) (w : Nat) (l : Line) : (s.answerRead w l).commits = s.commits := rfl
@[simp] theorem State.answerRead_verifies (s : State) (w : Nat) (l : Line) : (s.answerRead w l).verifies = s.verifies := rfl
@[simp] theorem State.answerRead_memory (s : State) (w : Nat) (l : Line) : (s.answerRead w l).memory = s.memory := rfl
@[simp] theorem State.answerRead_free (s : State) (w : Nat) (l : Line) : (s.answerRead w l).free = s.free := rfl

@[simp] theorem State.setChan_pending (s : State) (p : Nat) (c : Chan) : (s.setChan p c).pending = s.pending := rfl
@[simp] theorem State.setChan_regs (s : State) (p : Nat) (c : Chan) : (s.setChan p c).regs = s.regs := rfl
@[simp] theorem State.setChan_sels (s : State) (p : Nat) (c : Chan) : (s.setChan p c).sels = s.sels := rfl
@[simp] theorem State.setChan_latches (s : State) (p : Nat) (c : Chan) : (s.setChan p c).latches = s.latches := rfl
@[simp] theorem State.setChan_fuses (s : State) (p : Nat) (c : Chan) : (s.setChan p c).fuses = s.fuses := rfl
@[simp] theorem State.setChan_kpr (s : State) (p : Nat) (c : Chan) : (s.setChan p c).kpr = s.kpr := rfl
@[simp] theorem State.setChan_plt (s : State) (p : Nat) (c : Chan) : (s.setChan p c).plt = s.plt := rfl
@[simp] theorem State.setChan_clk (s : State) (p : Nat) (c : Chan) : (s.setChan p c).clk = s.clk := rfl
@[simp] theorem State.setChan_lanes (s : State) (p : Nat) (c : Chan) : (s.setChan p c).lanes = s.lanes := rfl
@[simp] theorem State.setChan_links (s : State) (p : Nat) (c : Chan) : (s.setChan p c).links = s.links := rfl
@[simp] theorem State.setChan_csw (s : State) (p : Nat) (c : Chan) : (s.setChan p c).csw = s.csw := rfl
@[simp] theorem State.setChan_sec (s : State) (p : Nat) (c : Chan) : (s.setChan p c).sec = s.sec := rfl
@[simp] theorem State.setChan_xfr (s : State) (p : Nat) (c : Chan) : (s.setChan p c).xfr = s.xfr := rfl
@[simp] theorem State.setChan_prm (s : State) (p : Nat) (c : Chan) : (s.setChan p c).prm = s.prm := rfl
@[simp] theorem State.setChan_script (s : State) (p : Nat) (c : Chan) : (s.setChan p c).script = s.script := rfl
@[simp] theorem State.setChan_eru (s : State) (p : Nat) (c : Chan) : (s.setChan p c).eru = s.eru := rfl
@[simp] theorem State.setChan_col (s : State) (p : Nat) (c : Chan) : (s.setChan p c).col = s.col := rfl
@[simp] theorem State.setChan_upd (s : State) (p : Nat) (c : Chan) : (s.setChan p c).upd = s.upd := rfl
@[simp] theorem State.setChan_intm (s : State) (p : Nat) (c : Chan) : (s.setChan p c).intm = s.intm := rfl
@[simp] theorem State.setChan_commits (s : State) (p : Nat) (c : Chan) : (s.setChan p c).commits = s.commits := rfl
@[simp] theorem State.setChan_verifies (s : State) (p : Nat) (c : Chan) : (s.setChan p c).verifies = s.verifies := rfl
@[simp] theorem State.setChan_hostRead (s : State) (p : Nat) (c : Chan) : (s.setChan p c).hostRead = s.hostRead := rfl
@[simp] theorem State.setChan_memory (s : State) (p : Nat) (c : Chan) : (s.setChan p c).memory = s.memory := rfl
@[simp] theorem State.setChan_free (s : State) (p : Nat) (c : Chan) : (s.setChan p c).free = s.free := rfl

@[simp] theorem State.setCsw_pending (s : State) (x : Csw) : (s.setCsw x).pending = s.pending := rfl
@[simp] theorem State.setCsw_regs (s : State) (x : Csw) : (s.setCsw x).regs = s.regs := rfl
@[simp] theorem State.setCsw_sels (s : State) (x : Csw) : (s.setCsw x).sels = s.sels := rfl
@[simp] theorem State.setCsw_latches (s : State) (x : Csw) : (s.setCsw x).latches = s.latches := rfl
@[simp] theorem State.setCsw_fuses (s : State) (x : Csw) : (s.setCsw x).fuses = s.fuses := rfl
@[simp] theorem State.setCsw_kpr (s : State) (x : Csw) : (s.setCsw x).kpr = s.kpr := rfl
@[simp] theorem State.setCsw_plt (s : State) (x : Csw) : (s.setCsw x).plt = s.plt := rfl
@[simp] theorem State.setCsw_clk (s : State) (x : Csw) : (s.setCsw x).clk = s.clk := rfl
@[simp] theorem State.setCsw_lanes (s : State) (x : Csw) : (s.setCsw x).lanes = s.lanes := rfl
@[simp] theorem State.setCsw_links (s : State) (x : Csw) : (s.setCsw x).links = s.links := rfl
@[simp] theorem State.setCsw_csw (s : State) (x : Csw) : (s.setCsw x).csw = x := rfl
@[simp] theorem State.setCsw_mem (s : State) (x : Csw) : (s.setCsw x).mem = s.mem := rfl
@[simp] theorem State.setCsw_sec (s : State) (x : Csw) : (s.setCsw x).sec = s.sec := rfl
@[simp] theorem State.setCsw_xfr (s : State) (x : Csw) : (s.setCsw x).xfr = s.xfr := rfl
@[simp] theorem State.setCsw_prm (s : State) (x : Csw) : (s.setCsw x).prm = s.prm := rfl
@[simp] theorem State.setCsw_script (s : State) (x : Csw) : (s.setCsw x).script = s.script := rfl
@[simp] theorem State.setCsw_eru (s : State) (x : Csw) : (s.setCsw x).eru = s.eru := rfl
@[simp] theorem State.setCsw_col (s : State) (x : Csw) : (s.setCsw x).col = s.col := rfl
@[simp] theorem State.setCsw_upd (s : State) (x : Csw) : (s.setCsw x).upd = s.upd := rfl
@[simp] theorem State.setCsw_intm (s : State) (x : Csw) : (s.setCsw x).intm = s.intm := rfl
@[simp] theorem State.setCsw_commits (s : State) (x : Csw) : (s.setCsw x).commits = s.commits := rfl
@[simp] theorem State.setCsw_verifies (s : State) (x : Csw) : (s.setCsw x).verifies = s.verifies := rfl
@[simp] theorem State.setCsw_hostRead (s : State) (x : Csw) : (s.setCsw x).hostRead = s.hostRead := rfl
@[simp] theorem State.setCsw_memory (s : State) (x : Csw) : (s.setCsw x).memory = s.memory := rfl
@[simp] theorem State.setCsw_free (s : State) (x : Csw) : (s.setCsw x).free = s.free := rfl

@[simp] theorem State.setXfr_pending (s : State) (x : Xfr) : (s.setXfr x).pending = s.pending := rfl
@[simp] theorem State.setXfr_regs (s : State) (x : Xfr) : (s.setXfr x).regs = s.regs := rfl
@[simp] theorem State.setXfr_sels (s : State) (x : Xfr) : (s.setXfr x).sels = s.sels := rfl
@[simp] theorem State.setXfr_latches (s : State) (x : Xfr) : (s.setXfr x).latches = s.latches := rfl
@[simp] theorem State.setXfr_fuses (s : State) (x : Xfr) : (s.setXfr x).fuses = s.fuses := rfl
@[simp] theorem State.setXfr_kpr (s : State) (x : Xfr) : (s.setXfr x).kpr = s.kpr := rfl
@[simp] theorem State.setXfr_plt (s : State) (x : Xfr) : (s.setXfr x).plt = s.plt := rfl
@[simp] theorem State.setXfr_clk (s : State) (x : Xfr) : (s.setXfr x).clk = s.clk := rfl
@[simp] theorem State.setXfr_lanes (s : State) (x : Xfr) : (s.setXfr x).lanes = s.lanes := rfl
@[simp] theorem State.setXfr_links (s : State) (x : Xfr) : (s.setXfr x).links = s.links := rfl
@[simp] theorem State.setXfr_csw (s : State) (x : Xfr) : (s.setXfr x).csw = s.csw := rfl
@[simp] theorem State.setXfr_mem (s : State) (x : Xfr) : (s.setXfr x).mem = s.mem := rfl
@[simp] theorem State.setXfr_sec (s : State) (x : Xfr) : (s.setXfr x).sec = s.sec := rfl
@[simp] theorem State.setXfr_xfr (s : State) (x : Xfr) : (s.setXfr x).xfr = x := rfl
@[simp] theorem State.setXfr_prm (s : State) (x : Xfr) : (s.setXfr x).prm = s.prm := rfl
@[simp] theorem State.setXfr_script (s : State) (x : Xfr) : (s.setXfr x).script = s.script := rfl
@[simp] theorem State.setXfr_eru (s : State) (x : Xfr) : (s.setXfr x).eru = s.eru := rfl
@[simp] theorem State.setXfr_col (s : State) (x : Xfr) : (s.setXfr x).col = s.col := rfl
@[simp] theorem State.setXfr_upd (s : State) (x : Xfr) : (s.setXfr x).upd = s.upd := rfl
@[simp] theorem State.setXfr_intm (s : State) (x : Xfr) : (s.setXfr x).intm = s.intm := rfl
@[simp] theorem State.setXfr_commits (s : State) (x : Xfr) : (s.setXfr x).commits = s.commits := rfl
@[simp] theorem State.setXfr_verifies (s : State) (x : Xfr) : (s.setXfr x).verifies = s.verifies := rfl
@[simp] theorem State.setXfr_hostRead (s : State) (x : Xfr) : (s.setXfr x).hostRead = s.hostRead := rfl
@[simp] theorem State.setXfr_memory (s : State) (x : Xfr) : (s.setXfr x).memory = s.memory := rfl
@[simp] theorem State.setXfr_free (s : State) (x : Xfr) : (s.setXfr x).free = s.free := rfl

@[simp] theorem State.setPrm_pending (s : State) (p : Prm) : (s.setPrm p).pending = s.pending := rfl
@[simp] theorem State.setPrm_regs (s : State) (p : Prm) : (s.setPrm p).regs = s.regs := rfl
@[simp] theorem State.setPrm_sels (s : State) (p : Prm) : (s.setPrm p).sels = s.sels := rfl
@[simp] theorem State.setPrm_latches (s : State) (p : Prm) : (s.setPrm p).latches = s.latches := rfl
@[simp] theorem State.setPrm_fuses (s : State) (p : Prm) : (s.setPrm p).fuses = s.fuses := rfl
@[simp] theorem State.setPrm_kpr (s : State) (p : Prm) : (s.setPrm p).kpr = s.kpr := rfl
@[simp] theorem State.setPrm_plt (s : State) (p : Prm) : (s.setPrm p).plt = s.plt := rfl
@[simp] theorem State.setPrm_clk (s : State) (p : Prm) : (s.setPrm p).clk = s.clk := rfl
@[simp] theorem State.setPrm_lanes (s : State) (p : Prm) : (s.setPrm p).lanes = s.lanes := rfl
@[simp] theorem State.setPrm_links (s : State) (p : Prm) : (s.setPrm p).links = s.links := rfl
@[simp] theorem State.setPrm_csw (s : State) (p : Prm) : (s.setPrm p).csw = s.csw := rfl
@[simp] theorem State.setPrm_mem (s : State) (p : Prm) : (s.setPrm p).mem = s.mem := rfl
@[simp] theorem State.setPrm_sec (s : State) (p : Prm) : (s.setPrm p).sec = s.sec := rfl
@[simp] theorem State.setPrm_xfr (s : State) (p : Prm) : (s.setPrm p).xfr = s.xfr := rfl
@[simp] theorem State.setPrm_prm (s : State) (p : Prm) : (s.setPrm p).prm = p := rfl
@[simp] theorem State.setPrm_script (s : State) (p : Prm) : (s.setPrm p).script = s.script := rfl
@[simp] theorem State.setPrm_eru (s : State) (p : Prm) : (s.setPrm p).eru = s.eru := rfl
@[simp] theorem State.setPrm_col (s : State) (p : Prm) : (s.setPrm p).col = s.col := rfl
@[simp] theorem State.setPrm_upd (s : State) (p : Prm) : (s.setPrm p).upd = s.upd := rfl
@[simp] theorem State.setPrm_intm (s : State) (p : Prm) : (s.setPrm p).intm = s.intm := rfl
@[simp] theorem State.setPrm_commits (s : State) (p : Prm) : (s.setPrm p).commits = s.commits := rfl
@[simp] theorem State.setPrm_verifies (s : State) (p : Prm) : (s.setPrm p).verifies = s.verifies := rfl
@[simp] theorem State.setPrm_hostRead (s : State) (p : Prm) : (s.setPrm p).hostRead = s.hostRead := rfl
@[simp] theorem State.setPrm_memory (s : State) (p : Prm) : (s.setPrm p).memory = s.memory := rfl
@[simp] theorem State.setPrm_free (s : State) (p : Prm) : (s.setPrm p).free = s.free := rfl

@[simp] theorem State.setCol_pending (s : State) (x : Col) : (s.setCol x).pending = s.pending := rfl
@[simp] theorem State.setCol_regs (s : State) (x : Col) : (s.setCol x).regs = s.regs := rfl
@[simp] theorem State.setCol_sels (s : State) (x : Col) : (s.setCol x).sels = s.sels := rfl
@[simp] theorem State.setCol_latches (s : State) (x : Col) : (s.setCol x).latches = s.latches := rfl
@[simp] theorem State.setCol_fuses (s : State) (x : Col) : (s.setCol x).fuses = s.fuses := rfl
@[simp] theorem State.setCol_kpr (s : State) (x : Col) : (s.setCol x).kpr = s.kpr := rfl
@[simp] theorem State.setCol_plt (s : State) (x : Col) : (s.setCol x).plt = s.plt := rfl
@[simp] theorem State.setCol_clk (s : State) (x : Col) : (s.setCol x).clk = s.clk := rfl
@[simp] theorem State.setCol_lanes (s : State) (x : Col) : (s.setCol x).lanes = s.lanes := rfl
@[simp] theorem State.setCol_links (s : State) (x : Col) : (s.setCol x).links = s.links := rfl
@[simp] theorem State.setCol_csw (s : State) (x : Col) : (s.setCol x).csw = s.csw := rfl
@[simp] theorem State.setCol_mem (s : State) (x : Col) : (s.setCol x).mem = s.mem := rfl
@[simp] theorem State.setCol_sec (s : State) (x : Col) : (s.setCol x).sec = s.sec := rfl
@[simp] theorem State.setCol_xfr (s : State) (x : Col) : (s.setCol x).xfr = s.xfr := rfl
@[simp] theorem State.setCol_prm (s : State) (x : Col) : (s.setCol x).prm = s.prm := rfl
@[simp] theorem State.setCol_script (s : State) (x : Col) : (s.setCol x).script = s.script := rfl
@[simp] theorem State.setCol_eru (s : State) (x : Col) : (s.setCol x).eru = s.eru := rfl
@[simp] theorem State.setCol_col (s : State) (x : Col) : (s.setCol x).col = x := rfl
@[simp] theorem State.setCol_upd (s : State) (x : Col) : (s.setCol x).upd = s.upd := rfl
@[simp] theorem State.setCol_intm (s : State) (x : Col) : (s.setCol x).intm = s.intm := rfl
@[simp] theorem State.setCol_commits (s : State) (x : Col) : (s.setCol x).commits = s.commits := rfl
@[simp] theorem State.setCol_verifies (s : State) (x : Col) : (s.setCol x).verifies = s.verifies := rfl
@[simp] theorem State.setCol_hostRead (s : State) (x : Col) : (s.setCol x).hostRead = s.hostRead := rfl
@[simp] theorem State.setCol_memory (s : State) (x : Col) : (s.setCol x).memory = s.memory := rfl
@[simp] theorem State.setCol_free (s : State) (x : Col) : (s.setCol x).free = s.free := rfl

@[simp] theorem State.setCtx_pending (s : State) (k : Nat) (c : Ctx) : (s.setCtx k c).pending = s.pending := by simp [State.setCtx]
@[simp] theorem State.setCtx_regs (s : State) (k : Nat) (c : Ctx) : (s.setCtx k c).regs = s.regs := by simp [State.setCtx]
@[simp] theorem State.setCtx_sels (s : State) (k : Nat) (c : Ctx) : (s.setCtx k c).sels = s.sels := by simp [State.setCtx]
@[simp] theorem State.setCtx_latches (s : State) (k : Nat) (c : Ctx) : (s.setCtx k c).latches = s.latches := by simp [State.setCtx]
@[simp] theorem State.setCtx_fuses (s : State) (k : Nat) (c : Ctx) : (s.setCtx k c).fuses = s.fuses := by simp [State.setCtx]
@[simp] theorem State.setCtx_kpr (s : State) (k : Nat) (c : Ctx) : (s.setCtx k c).kpr = s.kpr := by simp [State.setCtx]
@[simp] theorem State.setCtx_plt (s : State) (k : Nat) (c : Ctx) : (s.setCtx k c).plt = s.plt := by simp [State.setCtx]
@[simp] theorem State.setCtx_clk (s : State) (k : Nat) (c : Ctx) : (s.setCtx k c).clk = s.clk := by simp [State.setCtx]
@[simp] theorem State.setCtx_lanes (s : State) (k : Nat) (c : Ctx) : (s.setCtx k c).lanes = s.lanes := by simp [State.setCtx]
@[simp] theorem State.setCtx_links (s : State) (k : Nat) (c : Ctx) : (s.setCtx k c).links = s.links := by simp [State.setCtx]
@[simp] theorem State.setCtx_csw (s : State) (k : Nat) (c : Ctx) : (s.setCtx k c).csw = s.csw := by simp [State.setCtx]
@[simp] theorem State.setCtx_mem (s : State) (k : Nat) (c : Ctx) : (s.setCtx k c).mem = s.mem := by simp [State.setCtx]
@[simp] theorem State.setCtx_sec (s : State) (k : Nat) (c : Ctx) : (s.setCtx k c).sec = s.sec := by simp [State.setCtx]
@[simp] theorem State.setCtx_xfr (s : State) (k : Nat) (c : Ctx) : (s.setCtx k c).xfr = s.xfr := by simp [State.setCtx]
@[simp] theorem State.setCtx_prm (s : State) (k : Nat) (c : Ctx) : (s.setCtx k c).prm = s.prm := by simp [State.setCtx]
@[simp] theorem State.setCtx_script (s : State) (k : Nat) (c : Ctx) : (s.setCtx k c).script = s.script := by simp [State.setCtx]
@[simp] theorem State.setCtx_eru (s : State) (k : Nat) (c : Ctx) : (s.setCtx k c).eru = s.eru := by simp [State.setCtx]
@[simp] theorem State.setCtx_upd (s : State) (k : Nat) (c : Ctx) : (s.setCtx k c).upd = s.upd := by simp [State.setCtx]
@[simp] theorem State.setCtx_intm (s : State) (k : Nat) (c : Ctx) : (s.setCtx k c).intm = s.intm := by simp [State.setCtx]
@[simp] theorem State.setCtx_commits (s : State) (k : Nat) (c : Ctx) : (s.setCtx k c).commits = s.commits := by simp [State.setCtx]
@[simp] theorem State.setCtx_verifies (s : State) (k : Nat) (c : Ctx) : (s.setCtx k c).verifies = s.verifies := by simp [State.setCtx]
@[simp] theorem State.setCtx_hostRead (s : State) (k : Nat) (c : Ctx) : (s.setCtx k c).hostRead = s.hostRead := by simp [State.setCtx]
@[simp] theorem State.setCtx_memory (s : State) (k : Nat) (c : Ctx) : (s.setCtx k c).memory = s.memory := by simp [State.setCtx]
@[simp] theorem State.setCtx_free (s : State) (k : Nat) (c : Ctx) : (s.setCtx k c).free = s.free := by simp [State.setCtx]

@[simp] theorem State.setUpd_pending (s : State) (x : Upd) : (s.setUpd x).pending = s.pending := rfl
@[simp] theorem State.setUpd_regs (s : State) (x : Upd) : (s.setUpd x).regs = s.regs := rfl
@[simp] theorem State.setUpd_sels (s : State) (x : Upd) : (s.setUpd x).sels = s.sels := rfl
@[simp] theorem State.setUpd_latches (s : State) (x : Upd) : (s.setUpd x).latches = s.latches := rfl
@[simp] theorem State.setUpd_fuses (s : State) (x : Upd) : (s.setUpd x).fuses = s.fuses := rfl
@[simp] theorem State.setUpd_kpr (s : State) (x : Upd) : (s.setUpd x).kpr = s.kpr := rfl
@[simp] theorem State.setUpd_plt (s : State) (x : Upd) : (s.setUpd x).plt = s.plt := rfl
@[simp] theorem State.setUpd_clk (s : State) (x : Upd) : (s.setUpd x).clk = s.clk := rfl
@[simp] theorem State.setUpd_lanes (s : State) (x : Upd) : (s.setUpd x).lanes = s.lanes := rfl
@[simp] theorem State.setUpd_links (s : State) (x : Upd) : (s.setUpd x).links = s.links := rfl
@[simp] theorem State.setUpd_csw (s : State) (x : Upd) : (s.setUpd x).csw = s.csw := rfl
@[simp] theorem State.setUpd_mem (s : State) (x : Upd) : (s.setUpd x).mem = s.mem := rfl
@[simp] theorem State.setUpd_sec (s : State) (x : Upd) : (s.setUpd x).sec = s.sec := rfl
@[simp] theorem State.setUpd_xfr (s : State) (x : Upd) : (s.setUpd x).xfr = s.xfr := rfl
@[simp] theorem State.setUpd_prm (s : State) (x : Upd) : (s.setUpd x).prm = s.prm := rfl
@[simp] theorem State.setUpd_script (s : State) (x : Upd) : (s.setUpd x).script = s.script := rfl
@[simp] theorem State.setUpd_eru (s : State) (x : Upd) : (s.setUpd x).eru = s.eru := rfl
@[simp] theorem State.setUpd_col (s : State) (x : Upd) : (s.setUpd x).col = s.col := rfl
@[simp] theorem State.setUpd_upd (s : State) (x : Upd) : (s.setUpd x).upd = x := rfl
@[simp] theorem State.setUpd_intm (s : State) (x : Upd) : (s.setUpd x).intm = s.intm := rfl
@[simp] theorem State.setUpd_commits (s : State) (x : Upd) : (s.setUpd x).commits = s.commits := rfl
@[simp] theorem State.setUpd_verifies (s : State) (x : Upd) : (s.setUpd x).verifies = s.verifies := rfl
@[simp] theorem State.setUpd_hostRead (s : State) (x : Upd) : (s.setUpd x).hostRead = s.hostRead := rfl
@[simp] theorem State.setUpd_memory (s : State) (x : Upd) : (s.setUpd x).memory = s.memory := rfl
@[simp] theorem State.setUpd_free (s : State) (x : Upd) : (s.setUpd x).free = s.free := rfl

@[simp] theorem State.setCq_pending (s : State) (q : Nat) (c : Cq) : (s.setCq q c).pending = s.pending := by simp [State.setCq]
@[simp] theorem State.setCq_regs (s : State) (q : Nat) (c : Cq) : (s.setCq q c).regs = s.regs := by simp [State.setCq]
@[simp] theorem State.setCq_sels (s : State) (q : Nat) (c : Cq) : (s.setCq q c).sels = s.sels := by simp [State.setCq]
@[simp] theorem State.setCq_latches (s : State) (q : Nat) (c : Cq) : (s.setCq q c).latches = s.latches := by simp [State.setCq]
@[simp] theorem State.setCq_fuses (s : State) (q : Nat) (c : Cq) : (s.setCq q c).fuses = s.fuses := by simp [State.setCq]
@[simp] theorem State.setCq_kpr (s : State) (q : Nat) (c : Cq) : (s.setCq q c).kpr = s.kpr := by simp [State.setCq]
@[simp] theorem State.setCq_plt (s : State) (q : Nat) (c : Cq) : (s.setCq q c).plt = s.plt := by simp [State.setCq]
@[simp] theorem State.setCq_clk (s : State) (q : Nat) (c : Cq) : (s.setCq q c).clk = s.clk := by simp [State.setCq]
@[simp] theorem State.setCq_lanes (s : State) (q : Nat) (c : Cq) : (s.setCq q c).lanes = s.lanes := by simp [State.setCq]
@[simp] theorem State.setCq_links (s : State) (q : Nat) (c : Cq) : (s.setCq q c).links = s.links := by simp [State.setCq]
@[simp] theorem State.setCq_csw (s : State) (q : Nat) (c : Cq) : (s.setCq q c).csw = s.csw := by simp [State.setCq]
@[simp] theorem State.setCq_mem (s : State) (q : Nat) (c : Cq) : (s.setCq q c).mem = s.mem := by simp [State.setCq]
@[simp] theorem State.setCq_sec (s : State) (q : Nat) (c : Cq) : (s.setCq q c).sec = s.sec := by simp [State.setCq]
@[simp] theorem State.setCq_prm (s : State) (q : Nat) (c : Cq) : (s.setCq q c).prm = s.prm := by simp [State.setCq]
@[simp] theorem State.setCq_script (s : State) (q : Nat) (c : Cq) : (s.setCq q c).script = s.script := by simp [State.setCq]
@[simp] theorem State.setCq_eru (s : State) (q : Nat) (c : Cq) : (s.setCq q c).eru = s.eru := by simp [State.setCq]
@[simp] theorem State.setCq_col (s : State) (q : Nat) (c : Cq) : (s.setCq q c).col = s.col := by simp [State.setCq]
@[simp] theorem State.setCq_upd (s : State) (q : Nat) (c : Cq) : (s.setCq q c).upd = s.upd := by simp [State.setCq]
@[simp] theorem State.setCq_intm (s : State) (q : Nat) (c : Cq) : (s.setCq q c).intm = s.intm := by simp [State.setCq]
@[simp] theorem State.setCq_commits (s : State) (q : Nat) (c : Cq) : (s.setCq q c).commits = s.commits := by simp [State.setCq]
@[simp] theorem State.setCq_verifies (s : State) (q : Nat) (c : Cq) : (s.setCq q c).verifies = s.verifies := by simp [State.setCq]
@[simp] theorem State.setCq_hostRead (s : State) (q : Nat) (c : Cq) : (s.setCq q c).hostRead = s.hostRead := by simp [State.setCq]
@[simp] theorem State.setCq_memory (s : State) (q : Nat) (c : Cq) : (s.setCq q c).memory = s.memory := by simp [State.setCq]
@[simp] theorem State.setCq_free (s : State) (q : Nat) (c : Cq) : (s.setCq q c).free = s.free := by simp [State.setCq]

@[simp] theorem State.setPlt_pending (s : State) (p : Plt) : (s.setPlt p).pending = s.pending := rfl
@[simp] theorem State.setPlt_regs (s : State) (p : Plt) : (s.setPlt p).regs = s.regs := rfl
@[simp] theorem State.setPlt_sels (s : State) (p : Plt) : (s.setPlt p).sels = s.sels := rfl
@[simp] theorem State.setPlt_latches (s : State) (p : Plt) : (s.setPlt p).latches = s.latches := rfl
@[simp] theorem State.setPlt_fuses (s : State) (p : Plt) : (s.setPlt p).fuses = s.fuses := rfl
@[simp] theorem State.setPlt_kpr (s : State) (p : Plt) : (s.setPlt p).kpr = s.kpr := rfl
@[simp] theorem State.setPlt_plt (s : State) (p : Plt) : (s.setPlt p).plt = p := rfl
@[simp] theorem State.setPlt_clk (s : State) (p : Plt) : (s.setPlt p).clk = s.clk := rfl
@[simp] theorem State.setPlt_lanes (s : State) (p : Plt) : (s.setPlt p).lanes = s.lanes := rfl
@[simp] theorem State.setPlt_links (s : State) (p : Plt) : (s.setPlt p).links = s.links := rfl
@[simp] theorem State.setPlt_csw (s : State) (p : Plt) : (s.setPlt p).csw = s.csw := rfl
@[simp] theorem State.setPlt_mem (s : State) (p : Plt) : (s.setPlt p).mem = s.mem := rfl
@[simp] theorem State.setPlt_sec (s : State) (p : Plt) : (s.setPlt p).sec = s.sec := rfl
@[simp] theorem State.setPlt_xfr (s : State) (p : Plt) : (s.setPlt p).xfr = s.xfr := rfl
@[simp] theorem State.setPlt_prm (s : State) (p : Plt) : (s.setPlt p).prm = s.prm := rfl
@[simp] theorem State.setPlt_script (s : State) (p : Plt) : (s.setPlt p).script = s.script := rfl
@[simp] theorem State.setPlt_eru (s : State) (p : Plt) : (s.setPlt p).eru = s.eru := rfl
@[simp] theorem State.setPlt_col (s : State) (p : Plt) : (s.setPlt p).col = s.col := rfl
@[simp] theorem State.setPlt_upd (s : State) (p : Plt) : (s.setPlt p).upd = s.upd := rfl
@[simp] theorem State.setPlt_intm (s : State) (p : Plt) : (s.setPlt p).intm = s.intm := rfl
@[simp] theorem State.setPlt_commits (s : State) (p : Plt) : (s.setPlt p).commits = s.commits := rfl
@[simp] theorem State.setPlt_verifies (s : State) (p : Plt) : (s.setPlt p).verifies = s.verifies := rfl
@[simp] theorem State.setPlt_hostRead (s : State) (p : Plt) : (s.setPlt p).hostRead = s.hostRead := rfl
@[simp] theorem State.setPlt_memory (s : State) (p : Plt) : (s.setPlt p).memory = s.memory := rfl
@[simp] theorem State.setPlt_free (s : State) (p : Plt) : (s.setPlt p).free = s.free := rfl

@[simp] theorem State.setEru_pending (s : State) (x : Eru) : (s.setEru x).pending = s.pending := rfl
@[simp] theorem State.setEru_regs (s : State) (x : Eru) : (s.setEru x).regs = s.regs := rfl
@[simp] theorem State.setEru_sels (s : State) (x : Eru) : (s.setEru x).sels = s.sels := rfl
@[simp] theorem State.setEru_latches (s : State) (x : Eru) : (s.setEru x).latches = s.latches := rfl
@[simp] theorem State.setEru_fuses (s : State) (x : Eru) : (s.setEru x).fuses = s.fuses := rfl
@[simp] theorem State.setEru_kpr (s : State) (x : Eru) : (s.setEru x).kpr = s.kpr := rfl
@[simp] theorem State.setEru_plt (s : State) (x : Eru) : (s.setEru x).plt = s.plt := rfl
@[simp] theorem State.setEru_clk (s : State) (x : Eru) : (s.setEru x).clk = s.clk := rfl
@[simp] theorem State.setEru_lanes (s : State) (x : Eru) : (s.setEru x).lanes = s.lanes := rfl
@[simp] theorem State.setEru_links (s : State) (x : Eru) : (s.setEru x).links = s.links := rfl
@[simp] theorem State.setEru_csw (s : State) (x : Eru) : (s.setEru x).csw = s.csw := rfl
@[simp] theorem State.setEru_mem (s : State) (x : Eru) : (s.setEru x).mem = s.mem := rfl
@[simp] theorem State.setEru_sec (s : State) (x : Eru) : (s.setEru x).sec = s.sec := rfl
@[simp] theorem State.setEru_xfr (s : State) (x : Eru) : (s.setEru x).xfr = s.xfr := rfl
@[simp] theorem State.setEru_prm (s : State) (x : Eru) : (s.setEru x).prm = s.prm := rfl
@[simp] theorem State.setEru_script (s : State) (x : Eru) : (s.setEru x).script = s.script := rfl
@[simp] theorem State.setEru_eru (s : State) (x : Eru) : (s.setEru x).eru = x := rfl
@[simp] theorem State.setEru_col (s : State) (x : Eru) : (s.setEru x).col = s.col := rfl
@[simp] theorem State.setEru_upd (s : State) (x : Eru) : (s.setEru x).upd = s.upd := rfl
@[simp] theorem State.setEru_intm (s : State) (x : Eru) : (s.setEru x).intm = s.intm := rfl
@[simp] theorem State.setEru_commits (s : State) (x : Eru) : (s.setEru x).commits = s.commits := rfl
@[simp] theorem State.setEru_verifies (s : State) (x : Eru) : (s.setEru x).verifies = s.verifies := rfl
@[simp] theorem State.setEru_hostRead (s : State) (x : Eru) : (s.setEru x).hostRead = s.hostRead := rfl
@[simp] theorem State.setEru_memory (s : State) (x : Eru) : (s.setEru x).memory = s.memory := rfl
@[simp] theorem State.setEru_free (s : State) (x : Eru) : (s.setEru x).free = s.free := rfl

@[simp] theorem State.setCell_pending (s : State) (k : Nat) (x : ASlot) : (s.setCell k x).pending = s.pending := by simp [State.setCell]
@[simp] theorem State.setCell_regs (s : State) (k : Nat) (x : ASlot) : (s.setCell k x).regs = s.regs := by simp [State.setCell]
@[simp] theorem State.setCell_sels (s : State) (k : Nat) (x : ASlot) : (s.setCell k x).sels = s.sels := by simp [State.setCell]
@[simp] theorem State.setCell_latches (s : State) (k : Nat) (x : ASlot) : (s.setCell k x).latches = s.latches := by simp [State.setCell]
@[simp] theorem State.setCell_fuses (s : State) (k : Nat) (x : ASlot) : (s.setCell k x).fuses = s.fuses := by simp [State.setCell]
@[simp] theorem State.setCell_kpr (s : State) (k : Nat) (x : ASlot) : (s.setCell k x).kpr = s.kpr := by simp [State.setCell]
@[simp] theorem State.setCell_plt (s : State) (k : Nat) (x : ASlot) : (s.setCell k x).plt = s.plt := by simp [State.setCell]
@[simp] theorem State.setCell_clk (s : State) (k : Nat) (x : ASlot) : (s.setCell k x).clk = s.clk := by simp [State.setCell]
@[simp] theorem State.setCell_lanes (s : State) (k : Nat) (x : ASlot) : (s.setCell k x).lanes = s.lanes := by simp [State.setCell]
@[simp] theorem State.setCell_links (s : State) (k : Nat) (x : ASlot) : (s.setCell k x).links = s.links := by simp [State.setCell]
@[simp] theorem State.setCell_csw (s : State) (k : Nat) (x : ASlot) : (s.setCell k x).csw = s.csw := by simp [State.setCell]
@[simp] theorem State.setCell_mem (s : State) (k : Nat) (x : ASlot) : (s.setCell k x).mem = s.mem := by simp [State.setCell]
@[simp] theorem State.setCell_sec (s : State) (k : Nat) (x : ASlot) : (s.setCell k x).sec = s.sec := by simp [State.setCell]
@[simp] theorem State.setCell_xfr (s : State) (k : Nat) (x : ASlot) : (s.setCell k x).xfr = s.xfr := by simp [State.setCell]
@[simp] theorem State.setCell_prm (s : State) (k : Nat) (x : ASlot) : (s.setCell k x).prm = s.prm := by simp [State.setCell]
@[simp] theorem State.setCell_script (s : State) (k : Nat) (x : ASlot) : (s.setCell k x).script = s.script := by simp [State.setCell]
@[simp] theorem State.setCell_col (s : State) (k : Nat) (x : ASlot) : (s.setCell k x).col = s.col := by simp [State.setCell]
@[simp] theorem State.setCell_upd (s : State) (k : Nat) (x : ASlot) : (s.setCell k x).upd = s.upd := by simp [State.setCell]
@[simp] theorem State.setCell_intm (s : State) (k : Nat) (x : ASlot) : (s.setCell k x).intm = s.intm := by simp [State.setCell]
@[simp] theorem State.setCell_commits (s : State) (k : Nat) (x : ASlot) : (s.setCell k x).commits = s.commits := by simp [State.setCell]
@[simp] theorem State.setCell_verifies (s : State) (k : Nat) (x : ASlot) : (s.setCell k x).verifies = s.verifies := by simp [State.setCell]
@[simp] theorem State.setCell_hostRead (s : State) (k : Nat) (x : ASlot) : (s.setCell k x).hostRead = s.hostRead := by simp [State.setCell]
@[simp] theorem State.setCell_memory (s : State) (k : Nat) (x : ASlot) : (s.setCell k x).memory = s.memory := by simp [State.setCell]
@[simp] theorem State.setCell_free (s : State) (k : Nat) (x : ASlot) : (s.setCell k x).free = s.free := by simp [State.setCell]

@[simp] theorem State.setIntm_pending (s : State) (x : Intm) : (s.setIntm x).pending = s.pending := rfl
@[simp] theorem State.setIntm_regs (s : State) (x : Intm) : (s.setIntm x).regs = s.regs := rfl
@[simp] theorem State.setIntm_sels (s : State) (x : Intm) : (s.setIntm x).sels = s.sels := rfl
@[simp] theorem State.setIntm_latches (s : State) (x : Intm) : (s.setIntm x).latches = s.latches := rfl
@[simp] theorem State.setIntm_fuses (s : State) (x : Intm) : (s.setIntm x).fuses = s.fuses := rfl
@[simp] theorem State.setIntm_kpr (s : State) (x : Intm) : (s.setIntm x).kpr = s.kpr := rfl
@[simp] theorem State.setIntm_plt (s : State) (x : Intm) : (s.setIntm x).plt = s.plt := rfl
@[simp] theorem State.setIntm_clk (s : State) (x : Intm) : (s.setIntm x).clk = s.clk := rfl
@[simp] theorem State.setIntm_lanes (s : State) (x : Intm) : (s.setIntm x).lanes = s.lanes := rfl
@[simp] theorem State.setIntm_links (s : State) (x : Intm) : (s.setIntm x).links = s.links := rfl
@[simp] theorem State.setIntm_csw (s : State) (x : Intm) : (s.setIntm x).csw = s.csw := rfl
@[simp] theorem State.setIntm_mem (s : State) (x : Intm) : (s.setIntm x).mem = s.mem := rfl
@[simp] theorem State.setIntm_sec (s : State) (x : Intm) : (s.setIntm x).sec = s.sec := rfl
@[simp] theorem State.setIntm_xfr (s : State) (x : Intm) : (s.setIntm x).xfr = s.xfr := rfl
@[simp] theorem State.setIntm_prm (s : State) (x : Intm) : (s.setIntm x).prm = s.prm := rfl
@[simp] theorem State.setIntm_script (s : State) (x : Intm) : (s.setIntm x).script = s.script := rfl
@[simp] theorem State.setIntm_eru (s : State) (x : Intm) : (s.setIntm x).eru = s.eru := rfl
@[simp] theorem State.setIntm_col (s : State) (x : Intm) : (s.setIntm x).col = s.col := rfl
@[simp] theorem State.setIntm_upd (s : State) (x : Intm) : (s.setIntm x).upd = s.upd := rfl
@[simp] theorem State.setIntm_intm (s : State) (x : Intm) : (s.setIntm x).intm = x := rfl
@[simp] theorem State.setIntm_commits (s : State) (x : Intm) : (s.setIntm x).commits = s.commits := rfl
@[simp] theorem State.setIntm_verifies (s : State) (x : Intm) : (s.setIntm x).verifies = s.verifies := rfl
@[simp] theorem State.setIntm_hostRead (s : State) (x : Intm) : (s.setIntm x).hostRead = s.hostRead := rfl
@[simp] theorem State.setIntm_memory (s : State) (x : Intm) : (s.setIntm x).memory = s.memory := rfl
@[simp] theorem State.setIntm_free (s : State) (x : Intm) : (s.setIntm x).free = s.free := rfl

@[simp] theorem State.setWaitingAt_pending (s : State) (k : Nat) (l : List Queued) : (s.setWaitingAt k l).pending = s.pending := by simp [State.setWaitingAt]
@[simp] theorem State.setWaitingAt_regs (s : State) (k : Nat) (l : List Queued) : (s.setWaitingAt k l).regs = s.regs := by simp [State.setWaitingAt]
@[simp] theorem State.setWaitingAt_sels (s : State) (k : Nat) (l : List Queued) : (s.setWaitingAt k l).sels = s.sels := by simp [State.setWaitingAt]
@[simp] theorem State.setWaitingAt_latches (s : State) (k : Nat) (l : List Queued) : (s.setWaitingAt k l).latches = s.latches := by simp [State.setWaitingAt]
@[simp] theorem State.setWaitingAt_fuses (s : State) (k : Nat) (l : List Queued) : (s.setWaitingAt k l).fuses = s.fuses := by simp [State.setWaitingAt]
@[simp] theorem State.setWaitingAt_kpr (s : State) (k : Nat) (l : List Queued) : (s.setWaitingAt k l).kpr = s.kpr := by simp [State.setWaitingAt]
@[simp] theorem State.setWaitingAt_plt (s : State) (k : Nat) (l : List Queued) : (s.setWaitingAt k l).plt = s.plt := by simp [State.setWaitingAt]
@[simp] theorem State.setWaitingAt_clk (s : State) (k : Nat) (l : List Queued) : (s.setWaitingAt k l).clk = s.clk := by simp [State.setWaitingAt]
@[simp] theorem State.setWaitingAt_lanes (s : State) (k : Nat) (l : List Queued) : (s.setWaitingAt k l).lanes = s.lanes := by simp [State.setWaitingAt]
@[simp] theorem State.setWaitingAt_links (s : State) (k : Nat) (l : List Queued) : (s.setWaitingAt k l).links = s.links := by simp [State.setWaitingAt]
@[simp] theorem State.setWaitingAt_csw (s : State) (k : Nat) (l : List Queued) : (s.setWaitingAt k l).csw = s.csw := by simp [State.setWaitingAt]
@[simp] theorem State.setWaitingAt_mem (s : State) (k : Nat) (l : List Queued) : (s.setWaitingAt k l).mem = s.mem := by simp [State.setWaitingAt]
@[simp] theorem State.setWaitingAt_sec (s : State) (k : Nat) (l : List Queued) : (s.setWaitingAt k l).sec = s.sec := by simp [State.setWaitingAt]
@[simp] theorem State.setWaitingAt_prm (s : State) (k : Nat) (l : List Queued) : (s.setWaitingAt k l).prm = s.prm := by simp [State.setWaitingAt]
@[simp] theorem State.setWaitingAt_script (s : State) (k : Nat) (l : List Queued) : (s.setWaitingAt k l).script = s.script := by simp [State.setWaitingAt]
@[simp] theorem State.setWaitingAt_eru (s : State) (k : Nat) (l : List Queued) : (s.setWaitingAt k l).eru = s.eru := by simp [State.setWaitingAt]
@[simp] theorem State.setWaitingAt_col (s : State) (k : Nat) (l : List Queued) : (s.setWaitingAt k l).col = s.col := by simp [State.setWaitingAt]
@[simp] theorem State.setWaitingAt_upd (s : State) (k : Nat) (l : List Queued) : (s.setWaitingAt k l).upd = s.upd := by simp [State.setWaitingAt]
@[simp] theorem State.setWaitingAt_intm (s : State) (k : Nat) (l : List Queued) : (s.setWaitingAt k l).intm = s.intm := by simp [State.setWaitingAt]
@[simp] theorem State.setWaitingAt_commits (s : State) (k : Nat) (l : List Queued) : (s.setWaitingAt k l).commits = s.commits := by simp [State.setWaitingAt]
@[simp] theorem State.setWaitingAt_verifies (s : State) (k : Nat) (l : List Queued) : (s.setWaitingAt k l).verifies = s.verifies := by simp [State.setWaitingAt]
@[simp] theorem State.setWaitingAt_hostRead (s : State) (k : Nat) (l : List Queued) : (s.setWaitingAt k l).hostRead = s.hostRead := by simp [State.setWaitingAt]
@[simp] theorem State.setWaitingAt_memory (s : State) (k : Nat) (l : List Queued) : (s.setWaitingAt k l).memory = s.memory := by simp [State.setWaitingAt]
@[simp] theorem State.setWaitingAt_free (s : State) (k : Nat) (l : List Queued) : (s.setWaitingAt k l).free = s.free := by simp [State.setWaitingAt]

@[simp] theorem State.setScript_pending (s : State) (x : Script) : (s.setScript x).pending = s.pending := rfl
@[simp] theorem State.setScript_regs (s : State) (x : Script) : (s.setScript x).regs = s.regs := rfl
@[simp] theorem State.setScript_sels (s : State) (x : Script) : (s.setScript x).sels = s.sels := rfl
@[simp] theorem State.setScript_latches (s : State) (x : Script) : (s.setScript x).latches = s.latches := rfl
@[simp] theorem State.setScript_fuses (s : State) (x : Script) : (s.setScript x).fuses = s.fuses := rfl
@[simp] theorem State.setScript_kpr (s : State) (x : Script) : (s.setScript x).kpr = s.kpr := rfl
@[simp] theorem State.setScript_plt (s : State) (x : Script) : (s.setScript x).plt = s.plt := rfl
@[simp] theorem State.setScript_clk (s : State) (x : Script) : (s.setScript x).clk = s.clk := rfl
@[simp] theorem State.setScript_lanes (s : State) (x : Script) : (s.setScript x).lanes = s.lanes := rfl
@[simp] theorem State.setScript_links (s : State) (x : Script) : (s.setScript x).links = s.links := rfl
@[simp] theorem State.setScript_csw (s : State) (x : Script) : (s.setScript x).csw = s.csw := rfl
@[simp] theorem State.setScript_mem (s : State) (x : Script) : (s.setScript x).mem = s.mem := rfl
@[simp] theorem State.setScript_sec (s : State) (x : Script) : (s.setScript x).sec = s.sec := rfl
@[simp] theorem State.setScript_xfr (s : State) (x : Script) : (s.setScript x).xfr = s.xfr := rfl
@[simp] theorem State.setScript_prm (s : State) (x : Script) : (s.setScript x).prm = s.prm := rfl
@[simp] theorem State.setScript_script (s : State) (x : Script) : (s.setScript x).script = x := rfl
@[simp] theorem State.setScript_eru (s : State) (x : Script) : (s.setScript x).eru = s.eru := rfl
@[simp] theorem State.setScript_col (s : State) (x : Script) : (s.setScript x).col = s.col := rfl
@[simp] theorem State.setScript_upd (s : State) (x : Script) : (s.setScript x).upd = s.upd := rfl
@[simp] theorem State.setScript_intm (s : State) (x : Script) : (s.setScript x).intm = s.intm := rfl
@[simp] theorem State.setScript_commits (s : State) (x : Script) : (s.setScript x).commits = s.commits := rfl
@[simp] theorem State.setScript_verifies (s : State) (x : Script) : (s.setScript x).verifies = s.verifies := rfl
@[simp] theorem State.setScript_hostRead (s : State) (x : Script) : (s.setScript x).hostRead = s.hostRead := rfl
@[simp] theorem State.setScript_memory (s : State) (x : Script) : (s.setScript x).memory = s.memory := rfl
@[simp] theorem State.setScript_free (s : State) (x : Script) : (s.setScript x).free = s.free := rfl

@[simp] theorem State.setSec_pending (s : State) (x : Sec) : (s.setSec x).pending = s.pending := rfl
@[simp] theorem State.setSec_regs (s : State) (x : Sec) : (s.setSec x).regs = s.regs := rfl
@[simp] theorem State.setSec_sels (s : State) (x : Sec) : (s.setSec x).sels = s.sels := rfl
@[simp] theorem State.setSec_latches (s : State) (x : Sec) : (s.setSec x).latches = s.latches := rfl
@[simp] theorem State.setSec_fuses (s : State) (x : Sec) : (s.setSec x).fuses = s.fuses := rfl
@[simp] theorem State.setSec_kpr (s : State) (x : Sec) : (s.setSec x).kpr = s.kpr := rfl
@[simp] theorem State.setSec_plt (s : State) (x : Sec) : (s.setSec x).plt = s.plt := rfl
@[simp] theorem State.setSec_clk (s : State) (x : Sec) : (s.setSec x).clk = s.clk := rfl
@[simp] theorem State.setSec_lanes (s : State) (x : Sec) : (s.setSec x).lanes = s.lanes := rfl
@[simp] theorem State.setSec_links (s : State) (x : Sec) : (s.setSec x).links = s.links := rfl
@[simp] theorem State.setSec_csw (s : State) (x : Sec) : (s.setSec x).csw = s.csw := rfl
@[simp] theorem State.setSec_mem (s : State) (x : Sec) : (s.setSec x).mem = s.mem := rfl
@[simp] theorem State.setSec_sec (s : State) (x : Sec) : (s.setSec x).sec = x := rfl
@[simp] theorem State.setSec_xfr (s : State) (x : Sec) : (s.setSec x).xfr = s.xfr := rfl
@[simp] theorem State.setSec_prm (s : State) (x : Sec) : (s.setSec x).prm = s.prm := rfl
@[simp] theorem State.setSec_script (s : State) (x : Sec) : (s.setSec x).script = s.script := rfl
@[simp] theorem State.setSec_eru (s : State) (x : Sec) : (s.setSec x).eru = s.eru := rfl
@[simp] theorem State.setSec_col (s : State) (x : Sec) : (s.setSec x).col = s.col := rfl
@[simp] theorem State.setSec_upd (s : State) (x : Sec) : (s.setSec x).upd = s.upd := rfl
@[simp] theorem State.setSec_intm (s : State) (x : Sec) : (s.setSec x).intm = s.intm := rfl
@[simp] theorem State.setSec_commits (s : State) (x : Sec) : (s.setSec x).commits = s.commits := rfl
@[simp] theorem State.setSec_verifies (s : State) (x : Sec) : (s.setSec x).verifies = s.verifies := rfl
@[simp] theorem State.setSec_hostRead (s : State) (x : Sec) : (s.setSec x).hostRead = s.hostRead := rfl
@[simp] theorem State.setSec_memory (s : State) (x : Sec) : (s.setSec x).memory = s.memory := rfl
@[simp] theorem State.setSec_free (s : State) (x : Sec) : (s.setSec x).free = s.free := rfl

@[simp] theorem State.drew_pending (s : State) : (s.drew).pending = s.pending := by simp [State.drew]
@[simp] theorem State.drew_regs (s : State) : (s.drew).regs = s.regs := by simp [State.drew]
@[simp] theorem State.drew_sels (s : State) : (s.drew).sels = s.sels := by simp [State.drew]
@[simp] theorem State.drew_latches (s : State) : (s.drew).latches = s.latches := by simp [State.drew]
@[simp] theorem State.drew_fuses (s : State) : (s.drew).fuses = s.fuses := by simp [State.drew]
@[simp] theorem State.drew_kpr (s : State) : (s.drew).kpr = s.kpr := by simp [State.drew]
@[simp] theorem State.drew_plt (s : State) : (s.drew).plt = s.plt := by simp [State.drew]
@[simp] theorem State.drew_clk (s : State) : (s.drew).clk = s.clk := by simp [State.drew]
@[simp] theorem State.drew_lanes (s : State) : (s.drew).lanes = s.lanes := by simp [State.drew]
@[simp] theorem State.drew_links (s : State) : (s.drew).links = s.links := by simp [State.drew]
@[simp] theorem State.drew_csw (s : State) : (s.drew).csw = s.csw := by simp [State.drew]
@[simp] theorem State.drew_mem (s : State) : (s.drew).mem = s.mem := by simp [State.drew]
@[simp] theorem State.drew_xfr (s : State) : (s.drew).xfr = s.xfr := by simp [State.drew]
@[simp] theorem State.drew_prm (s : State) : (s.drew).prm = s.prm := by simp [State.drew]
@[simp] theorem State.drew_script (s : State) : (s.drew).script = s.script := by simp [State.drew]
@[simp] theorem State.drew_eru (s : State) : (s.drew).eru = s.eru := by simp [State.drew]
@[simp] theorem State.drew_col (s : State) : (s.drew).col = s.col := by simp [State.drew]
@[simp] theorem State.drew_upd (s : State) : (s.drew).upd = s.upd := by simp [State.drew]
@[simp] theorem State.drew_intm (s : State) : (s.drew).intm = s.intm := by simp [State.drew]
@[simp] theorem State.drew_commits (s : State) : (s.drew).commits = s.commits := by simp [State.drew]
@[simp] theorem State.drew_verifies (s : State) : (s.drew).verifies = s.verifies := by simp [State.drew]
@[simp] theorem State.drew_hostRead (s : State) : (s.drew).hostRead = s.hostRead := by simp [State.drew]
@[simp] theorem State.drew_memory (s : State) : (s.drew).memory = s.memory := by simp [State.drew]
@[simp] theorem State.drew_free (s : State) : (s.drew).free = s.free := by simp [State.drew]

@[simp] theorem State.setRawLine_pending (s : State) (key : Nat) (l : Line) : (s.setRawLine key l).pending = s.pending := rfl
@[simp] theorem State.setRawLine_regs (s : State) (key : Nat) (l : Line) : (s.setRawLine key l).regs = s.regs := rfl
@[simp] theorem State.setRawLine_sels (s : State) (key : Nat) (l : Line) : (s.setRawLine key l).sels = s.sels := rfl
@[simp] theorem State.setRawLine_latches (s : State) (key : Nat) (l : Line) : (s.setRawLine key l).latches = s.latches := rfl
@[simp] theorem State.setRawLine_fuses (s : State) (key : Nat) (l : Line) : (s.setRawLine key l).fuses = s.fuses := rfl
@[simp] theorem State.setRawLine_kpr (s : State) (key : Nat) (l : Line) : (s.setRawLine key l).kpr = s.kpr := rfl
@[simp] theorem State.setRawLine_plt (s : State) (key : Nat) (l : Line) : (s.setRawLine key l).plt = s.plt := rfl
@[simp] theorem State.setRawLine_clk (s : State) (key : Nat) (l : Line) : (s.setRawLine key l).clk = s.clk := rfl
@[simp] theorem State.setRawLine_lanes (s : State) (key : Nat) (l : Line) : (s.setRawLine key l).lanes = s.lanes := rfl
@[simp] theorem State.setRawLine_links (s : State) (key : Nat) (l : Line) : (s.setRawLine key l).links = s.links := rfl
@[simp] theorem State.setRawLine_csw (s : State) (key : Nat) (l : Line) : (s.setRawLine key l).csw = s.csw := rfl
@[simp] theorem State.setRawLine_mem (s : State) (key : Nat) (l : Line) : (s.setRawLine key l).mem = s.mem := rfl
@[simp] theorem State.setRawLine_sec (s : State) (key : Nat) (l : Line) : (s.setRawLine key l).sec = s.sec := rfl
@[simp] theorem State.setRawLine_xfr (s : State) (key : Nat) (l : Line) : (s.setRawLine key l).xfr = s.xfr := rfl
@[simp] theorem State.setRawLine_prm (s : State) (key : Nat) (l : Line) : (s.setRawLine key l).prm = s.prm := rfl
@[simp] theorem State.setRawLine_script (s : State) (key : Nat) (l : Line) : (s.setRawLine key l).script = s.script := rfl
@[simp] theorem State.setRawLine_eru (s : State) (key : Nat) (l : Line) : (s.setRawLine key l).eru = s.eru := rfl
@[simp] theorem State.setRawLine_col (s : State) (key : Nat) (l : Line) : (s.setRawLine key l).col = s.col := rfl
@[simp] theorem State.setRawLine_upd (s : State) (key : Nat) (l : Line) : (s.setRawLine key l).upd = s.upd := rfl
@[simp] theorem State.setRawLine_intm (s : State) (key : Nat) (l : Line) : (s.setRawLine key l).intm = s.intm := rfl
@[simp] theorem State.setRawLine_commits (s : State) (key : Nat) (l : Line) : (s.setRawLine key l).commits = s.commits := rfl
@[simp] theorem State.setRawLine_verifies (s : State) (key : Nat) (l : Line) : (s.setRawLine key l).verifies = s.verifies := rfl
@[simp] theorem State.setRawLine_hostRead (s : State) (key : Nat) (l : Line) : (s.setRawLine key l).hostRead = s.hostRead := rfl
@[simp] theorem State.setRawLine_free (s : State) (key : Nat) (l : Line) : (s.setRawLine key l).free = s.free := rfl

@[simp] theorem State.setPoison_pending (s : State) (key : Nat) (b : Bool) : (s.setPoison key b).pending = s.pending := by simp [State.setPoison]
@[simp] theorem State.setPoison_regs (s : State) (key : Nat) (b : Bool) : (s.setPoison key b).regs = s.regs := by simp [State.setPoison]
@[simp] theorem State.setPoison_sels (s : State) (key : Nat) (b : Bool) : (s.setPoison key b).sels = s.sels := by simp [State.setPoison]
@[simp] theorem State.setPoison_latches (s : State) (key : Nat) (b : Bool) : (s.setPoison key b).latches = s.latches := by simp [State.setPoison]
@[simp] theorem State.setPoison_fuses (s : State) (key : Nat) (b : Bool) : (s.setPoison key b).fuses = s.fuses := by simp [State.setPoison]
@[simp] theorem State.setPoison_kpr (s : State) (key : Nat) (b : Bool) : (s.setPoison key b).kpr = s.kpr := by simp [State.setPoison]
@[simp] theorem State.setPoison_plt (s : State) (key : Nat) (b : Bool) : (s.setPoison key b).plt = s.plt := by simp [State.setPoison]
@[simp] theorem State.setPoison_clk (s : State) (key : Nat) (b : Bool) : (s.setPoison key b).clk = s.clk := by simp [State.setPoison]
@[simp] theorem State.setPoison_lanes (s : State) (key : Nat) (b : Bool) : (s.setPoison key b).lanes = s.lanes := by simp [State.setPoison]
@[simp] theorem State.setPoison_links (s : State) (key : Nat) (b : Bool) : (s.setPoison key b).links = s.links := by simp [State.setPoison]
@[simp] theorem State.setPoison_csw (s : State) (key : Nat) (b : Bool) : (s.setPoison key b).csw = s.csw := by simp [State.setPoison]
@[simp] theorem State.setPoison_sec (s : State) (key : Nat) (b : Bool) : (s.setPoison key b).sec = s.sec := by simp [State.setPoison]
@[simp] theorem State.setPoison_xfr (s : State) (key : Nat) (b : Bool) : (s.setPoison key b).xfr = s.xfr := by simp [State.setPoison]
@[simp] theorem State.setPoison_prm (s : State) (key : Nat) (b : Bool) : (s.setPoison key b).prm = s.prm := by simp [State.setPoison]
@[simp] theorem State.setPoison_script (s : State) (key : Nat) (b : Bool) : (s.setPoison key b).script = s.script := by simp [State.setPoison]
@[simp] theorem State.setPoison_eru (s : State) (key : Nat) (b : Bool) : (s.setPoison key b).eru = s.eru := by simp [State.setPoison]
@[simp] theorem State.setPoison_col (s : State) (key : Nat) (b : Bool) : (s.setPoison key b).col = s.col := by simp [State.setPoison]
@[simp] theorem State.setPoison_upd (s : State) (key : Nat) (b : Bool) : (s.setPoison key b).upd = s.upd := by simp [State.setPoison]
@[simp] theorem State.setPoison_intm (s : State) (key : Nat) (b : Bool) : (s.setPoison key b).intm = s.intm := by simp [State.setPoison]
@[simp] theorem State.setPoison_commits (s : State) (key : Nat) (b : Bool) : (s.setPoison key b).commits = s.commits := by simp [State.setPoison]
@[simp] theorem State.setPoison_verifies (s : State) (key : Nat) (b : Bool) : (s.setPoison key b).verifies = s.verifies := by simp [State.setPoison]
@[simp] theorem State.setPoison_hostRead (s : State) (key : Nat) (b : Bool) : (s.setPoison key b).hostRead = s.hostRead := by simp [State.setPoison]
@[simp] theorem State.setPoison_memory (s : State) (key : Nat) (b : Bool) : (s.setPoison key b).memory = s.memory := by simp [State.setPoison]
@[simp] theorem State.setPoison_free (s : State) (key : Nat) (b : Bool) : (s.setPoison key b).free = s.free := by simp [State.setPoison]

@[simp] theorem State.setRflow_pending (s : State) (n : Nat) (f : RFlow) : (s.setRflow n f).pending = s.pending := by simp [State.setRflow]
@[simp] theorem State.setRflow_regs (s : State) (n : Nat) (f : RFlow) : (s.setRflow n f).regs = s.regs := by simp [State.setRflow]
@[simp] theorem State.setRflow_sels (s : State) (n : Nat) (f : RFlow) : (s.setRflow n f).sels = s.sels := by simp [State.setRflow]
@[simp] theorem State.setRflow_latches (s : State) (n : Nat) (f : RFlow) : (s.setRflow n f).latches = s.latches := by simp [State.setRflow]
@[simp] theorem State.setRflow_fuses (s : State) (n : Nat) (f : RFlow) : (s.setRflow n f).fuses = s.fuses := by simp [State.setRflow]
@[simp] theorem State.setRflow_kpr (s : State) (n : Nat) (f : RFlow) : (s.setRflow n f).kpr = s.kpr := by simp [State.setRflow]
@[simp] theorem State.setRflow_plt (s : State) (n : Nat) (f : RFlow) : (s.setRflow n f).plt = s.plt := by simp [State.setRflow]
@[simp] theorem State.setRflow_clk (s : State) (n : Nat) (f : RFlow) : (s.setRflow n f).clk = s.clk := by simp [State.setRflow]
@[simp] theorem State.setRflow_lanes (s : State) (n : Nat) (f : RFlow) : (s.setRflow n f).lanes = s.lanes := by simp [State.setRflow]
@[simp] theorem State.setRflow_links (s : State) (n : Nat) (f : RFlow) : (s.setRflow n f).links = s.links := by simp [State.setRflow]
@[simp] theorem State.setRflow_csw (s : State) (n : Nat) (f : RFlow) : (s.setRflow n f).csw = s.csw := by simp [State.setRflow]
@[simp] theorem State.setRflow_mem (s : State) (n : Nat) (f : RFlow) : (s.setRflow n f).mem = s.mem := by simp [State.setRflow]
@[simp] theorem State.setRflow_sec (s : State) (n : Nat) (f : RFlow) : (s.setRflow n f).sec = s.sec := by simp [State.setRflow]
@[simp] theorem State.setRflow_prm (s : State) (n : Nat) (f : RFlow) : (s.setRflow n f).prm = s.prm := by simp [State.setRflow]
@[simp] theorem State.setRflow_script (s : State) (n : Nat) (f : RFlow) : (s.setRflow n f).script = s.script := by simp [State.setRflow]
@[simp] theorem State.setRflow_eru (s : State) (n : Nat) (f : RFlow) : (s.setRflow n f).eru = s.eru := by simp [State.setRflow]
@[simp] theorem State.setRflow_col (s : State) (n : Nat) (f : RFlow) : (s.setRflow n f).col = s.col := by simp [State.setRflow]
@[simp] theorem State.setRflow_upd (s : State) (n : Nat) (f : RFlow) : (s.setRflow n f).upd = s.upd := by simp [State.setRflow]
@[simp] theorem State.setRflow_intm (s : State) (n : Nat) (f : RFlow) : (s.setRflow n f).intm = s.intm := by simp [State.setRflow]
@[simp] theorem State.setRflow_commits (s : State) (n : Nat) (f : RFlow) : (s.setRflow n f).commits = s.commits := by simp [State.setRflow]
@[simp] theorem State.setRflow_verifies (s : State) (n : Nat) (f : RFlow) : (s.setRflow n f).verifies = s.verifies := by simp [State.setRflow]
@[simp] theorem State.setRflow_hostRead (s : State) (n : Nat) (f : RFlow) : (s.setRflow n f).hostRead = s.hostRead := by simp [State.setRflow]
@[simp] theorem State.setRflow_memory (s : State) (n : Nat) (f : RFlow) : (s.setRflow n f).memory = s.memory := by simp [State.setRflow]
@[simp] theorem State.setRflow_free (s : State) (n : Nat) (f : RFlow) : (s.setRflow n f).free = s.free := by simp [State.setRflow]

@[simp] theorem State.setOp_pending (s : State) (t : Nat) (o : Op) : (s.setOp t o).pending = s.pending := by simp [State.setOp]
@[simp] theorem State.setOp_regs (s : State) (t : Nat) (o : Op) : (s.setOp t o).regs = s.regs := by simp [State.setOp]
@[simp] theorem State.setOp_sels (s : State) (t : Nat) (o : Op) : (s.setOp t o).sels = s.sels := by simp [State.setOp]
@[simp] theorem State.setOp_latches (s : State) (t : Nat) (o : Op) : (s.setOp t o).latches = s.latches := by simp [State.setOp]
@[simp] theorem State.setOp_fuses (s : State) (t : Nat) (o : Op) : (s.setOp t o).fuses = s.fuses := by simp [State.setOp]
@[simp] theorem State.setOp_kpr (s : State) (t : Nat) (o : Op) : (s.setOp t o).kpr = s.kpr := by simp [State.setOp]
@[simp] theorem State.setOp_plt (s : State) (t : Nat) (o : Op) : (s.setOp t o).plt = s.plt := by simp [State.setOp]
@[simp] theorem State.setOp_clk (s : State) (t : Nat) (o : Op) : (s.setOp t o).clk = s.clk := by simp [State.setOp]
@[simp] theorem State.setOp_lanes (s : State) (t : Nat) (o : Op) : (s.setOp t o).lanes = s.lanes := by simp [State.setOp]
@[simp] theorem State.setOp_links (s : State) (t : Nat) (o : Op) : (s.setOp t o).links = s.links := by simp [State.setOp]
@[simp] theorem State.setOp_csw (s : State) (t : Nat) (o : Op) : (s.setOp t o).csw = s.csw := by simp [State.setOp]
@[simp] theorem State.setOp_mem (s : State) (t : Nat) (o : Op) : (s.setOp t o).mem = s.mem := by simp [State.setOp]
@[simp] theorem State.setOp_sec (s : State) (t : Nat) (o : Op) : (s.setOp t o).sec = s.sec := by simp [State.setOp]
@[simp] theorem State.setOp_prm (s : State) (t : Nat) (o : Op) : (s.setOp t o).prm = s.prm := by simp [State.setOp]
@[simp] theorem State.setOp_script (s : State) (t : Nat) (o : Op) : (s.setOp t o).script = s.script := by simp [State.setOp]
@[simp] theorem State.setOp_eru (s : State) (t : Nat) (o : Op) : (s.setOp t o).eru = s.eru := by simp [State.setOp]
@[simp] theorem State.setOp_col (s : State) (t : Nat) (o : Op) : (s.setOp t o).col = s.col := by simp [State.setOp]
@[simp] theorem State.setOp_upd (s : State) (t : Nat) (o : Op) : (s.setOp t o).upd = s.upd := by simp [State.setOp]
@[simp] theorem State.setOp_intm (s : State) (t : Nat) (o : Op) : (s.setOp t o).intm = s.intm := by simp [State.setOp]
@[simp] theorem State.setOp_commits (s : State) (t : Nat) (o : Op) : (s.setOp t o).commits = s.commits := by simp [State.setOp]
@[simp] theorem State.setOp_verifies (s : State) (t : Nat) (o : Op) : (s.setOp t o).verifies = s.verifies := by simp [State.setOp]
@[simp] theorem State.setOp_hostRead (s : State) (t : Nat) (o : Op) : (s.setOp t o).hostRead = s.hostRead := by simp [State.setOp]
@[simp] theorem State.setOp_memory (s : State) (t : Nat) (o : Op) : (s.setOp t o).memory = s.memory := by simp [State.setOp]
@[simp] theorem State.setOp_free (s : State) (t : Nat) (o : Op) : (s.setOp t o).free = s.free := by simp [State.setOp]

@[simp] theorem State.putCtr_pending (s : State) (c : Nat) (v : Word) : (s.putCtr c v).pending = s.pending := by simp [State.putCtr]
@[simp] theorem State.putCtr_regs (s : State) (c : Nat) (v : Word) : (s.putCtr c v).regs = s.regs := by simp [State.putCtr]
@[simp] theorem State.putCtr_sels (s : State) (c : Nat) (v : Word) : (s.putCtr c v).sels = s.sels := by simp [State.putCtr]
@[simp] theorem State.putCtr_latches (s : State) (c : Nat) (v : Word) : (s.putCtr c v).latches = s.latches := by simp [State.putCtr]
@[simp] theorem State.putCtr_fuses (s : State) (c : Nat) (v : Word) : (s.putCtr c v).fuses = s.fuses := by simp [State.putCtr]
@[simp] theorem State.putCtr_kpr (s : State) (c : Nat) (v : Word) : (s.putCtr c v).kpr = s.kpr := by simp [State.putCtr]
@[simp] theorem State.putCtr_plt (s : State) (c : Nat) (v : Word) : (s.putCtr c v).plt = s.plt := by simp [State.putCtr]
@[simp] theorem State.putCtr_clk (s : State) (c : Nat) (v : Word) : (s.putCtr c v).clk = s.clk := by simp [State.putCtr]
@[simp] theorem State.putCtr_lanes (s : State) (c : Nat) (v : Word) : (s.putCtr c v).lanes = s.lanes := by simp [State.putCtr]
@[simp] theorem State.putCtr_links (s : State) (c : Nat) (v : Word) : (s.putCtr c v).links = s.links := by simp [State.putCtr]
@[simp] theorem State.putCtr_csw (s : State) (c : Nat) (v : Word) : (s.putCtr c v).csw = s.csw := by simp [State.putCtr]
@[simp] theorem State.putCtr_mem (s : State) (c : Nat) (v : Word) : (s.putCtr c v).mem = s.mem := by simp [State.putCtr]
@[simp] theorem State.putCtr_sec (s : State) (c : Nat) (v : Word) : (s.putCtr c v).sec = s.sec := by simp [State.putCtr]
@[simp] theorem State.putCtr_xfr (s : State) (c : Nat) (v : Word) : (s.putCtr c v).xfr = s.xfr := by simp [State.putCtr]
@[simp] theorem State.putCtr_script (s : State) (c : Nat) (v : Word) : (s.putCtr c v).script = s.script := by simp [State.putCtr]
@[simp] theorem State.putCtr_eru (s : State) (c : Nat) (v : Word) : (s.putCtr c v).eru = s.eru := by simp [State.putCtr]
@[simp] theorem State.putCtr_col (s : State) (c : Nat) (v : Word) : (s.putCtr c v).col = s.col := by simp [State.putCtr]
@[simp] theorem State.putCtr_upd (s : State) (c : Nat) (v : Word) : (s.putCtr c v).upd = s.upd := by simp [State.putCtr]
@[simp] theorem State.putCtr_intm (s : State) (c : Nat) (v : Word) : (s.putCtr c v).intm = s.intm := by simp [State.putCtr]
@[simp] theorem State.putCtr_commits (s : State) (c : Nat) (v : Word) : (s.putCtr c v).commits = s.commits := by simp [State.putCtr]
@[simp] theorem State.putCtr_verifies (s : State) (c : Nat) (v : Word) : (s.putCtr c v).verifies = s.verifies := by simp [State.putCtr]
@[simp] theorem State.putCtr_hostRead (s : State) (c : Nat) (v : Word) : (s.putCtr c v).hostRead = s.hostRead := by simp [State.putCtr]
@[simp] theorem State.putCtr_memory (s : State) (c : Nat) (v : Word) : (s.putCtr c v).memory = s.memory := by simp [State.putCtr]
@[simp] theorem State.putCtr_free (s : State) (c : Nat) (v : Word) : (s.putCtr c v).free = s.free := by simp [State.putCtr]

@[simp] theorem State.setDomain_pending (s : State) (k : Nat) (d : DomainState) : (s.setDomain k d).pending = s.pending := rfl
@[simp] theorem State.setDomain_regs (s : State) (k : Nat) (d : DomainState) : (s.setDomain k d).regs = s.regs := rfl
@[simp] theorem State.setDomain_sels (s : State) (k : Nat) (d : DomainState) : (s.setDomain k d).sels = s.sels := rfl
@[simp] theorem State.setDomain_latches (s : State) (k : Nat) (d : DomainState) : (s.setDomain k d).latches = s.latches := rfl
@[simp] theorem State.setDomain_fuses (s : State) (k : Nat) (d : DomainState) : (s.setDomain k d).fuses = s.fuses := rfl
@[simp] theorem State.setDomain_plt (s : State) (k : Nat) (d : DomainState) : (s.setDomain k d).plt = s.plt := rfl
@[simp] theorem State.setDomain_clk (s : State) (k : Nat) (d : DomainState) : (s.setDomain k d).clk = s.clk := rfl
@[simp] theorem State.setDomain_lanes (s : State) (k : Nat) (d : DomainState) : (s.setDomain k d).lanes = s.lanes := rfl
@[simp] theorem State.setDomain_links (s : State) (k : Nat) (d : DomainState) : (s.setDomain k d).links = s.links := rfl
@[simp] theorem State.setDomain_csw (s : State) (k : Nat) (d : DomainState) : (s.setDomain k d).csw = s.csw := rfl
@[simp] theorem State.setDomain_mem (s : State) (k : Nat) (d : DomainState) : (s.setDomain k d).mem = s.mem := rfl
@[simp] theorem State.setDomain_sec (s : State) (k : Nat) (d : DomainState) : (s.setDomain k d).sec = s.sec := rfl
@[simp] theorem State.setDomain_xfr (s : State) (k : Nat) (d : DomainState) : (s.setDomain k d).xfr = s.xfr := rfl
@[simp] theorem State.setDomain_prm (s : State) (k : Nat) (d : DomainState) : (s.setDomain k d).prm = s.prm := rfl
@[simp] theorem State.setDomain_script (s : State) (k : Nat) (d : DomainState) : (s.setDomain k d).script = s.script := rfl
@[simp] theorem State.setDomain_eru (s : State) (k : Nat) (d : DomainState) : (s.setDomain k d).eru = s.eru := rfl
@[simp] theorem State.setDomain_col (s : State) (k : Nat) (d : DomainState) : (s.setDomain k d).col = s.col := rfl
@[simp] theorem State.setDomain_upd (s : State) (k : Nat) (d : DomainState) : (s.setDomain k d).upd = s.upd := rfl
@[simp] theorem State.setDomain_intm (s : State) (k : Nat) (d : DomainState) : (s.setDomain k d).intm = s.intm := rfl
@[simp] theorem State.setDomain_commits (s : State) (k : Nat) (d : DomainState) : (s.setDomain k d).commits = s.commits := rfl
@[simp] theorem State.setDomain_verifies (s : State) (k : Nat) (d : DomainState) : (s.setDomain k d).verifies = s.verifies := rfl
@[simp] theorem State.setDomain_hostRead (s : State) (k : Nat) (d : DomainState) : (s.setDomain k d).hostRead = s.hostRead := rfl
@[simp] theorem State.setDomain_memory (s : State) (k : Nat) (d : DomainState) : (s.setDomain k d).memory = s.memory := rfl
@[simp] theorem State.setDomain_free (s : State) (k : Nat) (d : DomainState) : (s.setDomain k d).free = s.free := rfl

/-! ## What is read of one part reads the same where that part is the same -/

theorem State.reg_congr {s t : State} (h : t.regs = s.regs) (o : Nat) : t.reg o = s.reg o := by simp only [State.reg]; rw [h]
theorem State.fld_congr {s t : State} (h : t.regs = s.regs) (o lo len : Nat) : t.fld o lo len = s.fld o lo len := by simp only [State.fld, State.reg_congr h]
theorem State.reg64_congr {s t : State} (h : t.regs = s.regs) (o : Nat) : t.reg64 o = s.reg64 o := by simp only [State.reg64, State.reg_congr h]
theorem State.arrayBit_congr {s t : State} (h : t.regs = s.regs) (base k : Nat) : t.arrayBit base k = s.arrayBit base k := by simp only [State.arrayBit, State.reg_congr h]
theorem State.lane_congr {s t : State} (h : t.lanes = s.lanes) (l : Nat) : t.lane l = s.lane l := by simp only [State.lane]; rw [h]
theorem State.link_congr {s t : State} (h : t.links = s.links) (n : Nat) : t.link n = s.link n := by simp only [State.link]; rw [h]
theorem State.domain_congr {s t : State} (h : t.kpr = s.kpr) (k : Nat) : t.domain k = s.domain k := by simp only [State.domain]; rw [h]
theorem State.running_congr {s t : State} (h : t.kpr = s.kpr) : t.running = s.running := by unfold State.running; rw [h]
theorem State.nodeId_congr {s t : State} (h : t.kpr = s.kpr) : t.nodeId = s.nodeId := by unfold State.nodeId; rw [h]
theorem State.now_congr {s t : State} (h : t.clk = s.clk) : t.now = s.now := by unfold State.now; rw [h]
theorem State.isSealed_congr {s t : State} (h : t.plt = s.plt) : t.isSealed = s.isSealed := by unfold State.isSealed; rw [h]
theorem State.plateWord_congr {s t : State} (h : t.plt = s.plt) (ty k : Nat) : t.plateWord ty k = s.plateWord ty k := by unfold State.plateWord; rw [h]
theorem State.policyEntry_congr {s t : State} (h : t.plt = s.plt) (c : Nat) : t.policyEntry c = s.policyEntry c := by unfold State.policyEntry; rw [h]
theorem State.timer_congr {s t : State} (h : t.plt = s.plt) (k : Nat) : t.timer k = s.timer k := by simp only [State.timer, State.plateWord_congr h, State.isSealed_congr h]
theorem State.rightsBy_congr {s t : State} (h : t.plt = s.plt) (k : t.clk = s.clk) : t.rightsBy = s.rightsBy := by unfold State.rightsBy; rw [h, k]
theorem State.hosts_congr {s t : State} (h : t.plt = s.plt) (k : t.clk = s.clk) : t.hosts = s.hosts := by unfold State.hosts; rw [State.rightsBy_congr h k]
theorem State.winFm_congr {s t : State} (h : t.plt = s.plt) (k : t.clk = s.clk) (w : Nat) : t.winFm w = s.winFm w := by simp only [State.winFm, State.hosts_congr h k, State.rightsBy_congr h k]
theorem State.winPresent_congr {s t : State} (h : t.plt = s.plt) (k : t.clk = s.clk) (w : Nat) : t.winPresent w = s.winPresent w := by simp only [State.winPresent, State.hosts_congr h k]
theorem State.srcFm_congr {s t : State} (h : t.plt = s.plt) (k : t.clk = s.clk) (a : Nat) : t.srcFm a = s.srcFm a := by simp only [State.srcFm, State.winFm_congr h k]
theorem State.classOf_congr {s t : State} (h : t.plt = s.plt) (c : Nat) : t.classOf c = s.classOf c := by simp only [State.classOf, State.policyEntry_congr h]
theorem State.role_congr {s t : State} (h : t.plt = s.plt) (n : Nat) : t.role n = s.role n := by simp only [State.role, State.roleWord, State.plateWord_congr h]

@[simp] theorem State.setReg_lane (s : State) (off : Nat) (v : Word) (l : Nat) : (s.setReg off v).lane l = s.lane l := State.lane_congr (by simp) _
@[simp] theorem State.setReg_link (s : State) (off : Nat) (v : Word) (n : Nat) : (s.setReg off v).link n = s.link n := State.link_congr (by simp) _
@[simp] theorem State.setReg_domain (s : State) (off : Nat) (v : Word) (k : Nat) : (s.setReg off v).domain k = s.domain k := State.domain_congr (by simp) _
@[simp] theorem State.setReg_running (s : State) (off : Nat) (v : Word) : (s.setReg off v).running = s.running := State.running_congr (by simp)
@[simp] theorem State.setReg_nodeId (s : State) (off : Nat) (v : Word) : (s.setReg off v).nodeId = s.nodeId := State.nodeId_congr (by simp)
@[simp] theorem State.setReg_now (s : State) (off : Nat) (v : Word) : (s.setReg off v).now = s.now := State.now_congr (by simp)
@[simp] theorem State.setReg_isSealed (s : State) (off : Nat) (v : Word) : (s.setReg off v).isSealed = s.isSealed := State.isSealed_congr (by simp)
@[simp] theorem State.setReg_plateWord (s : State) (off : Nat) (v : Word) (ty k : Nat) : (s.setReg off v).plateWord ty k = s.plateWord ty k := State.plateWord_congr (by simp) _ _
@[simp] theorem State.setReg_policyEntry (s : State) (off : Nat) (v : Word) (c : Nat) : (s.setReg off v).policyEntry c = s.policyEntry c := State.policyEntry_congr (by simp) _
@[simp] theorem State.setReg_timer (s : State) (off : Nat) (v : Word) (k : Nat) : (s.setReg off v).timer k = s.timer k := State.timer_congr (by simp) _
@[simp] theorem State.setReg_rightsBy (s : State) (off : Nat) (v : Word) : (s.setReg off v).rightsBy = s.rightsBy := State.rightsBy_congr (by simp) (by simp)
@[simp] theorem State.setReg_hosts (s : State) (off : Nat) (v : Word) : (s.setReg off v).hosts = s.hosts := State.hosts_congr (by simp) (by simp)
@[simp] theorem State.setReg_winFm (s : State) (off : Nat) (v : Word) (w : Nat) : (s.setReg off v).winFm w = s.winFm w := State.winFm_congr (by simp) (by simp) _
@[simp] theorem State.setReg_winPresent (s : State) (off : Nat) (v : Word) (w : Nat) : (s.setReg off v).winPresent w = s.winPresent w := State.winPresent_congr (by simp) (by simp) _
@[simp] theorem State.setReg_srcFm (s : State) (off : Nat) (v : Word) (a : Nat) : (s.setReg off v).srcFm a = s.srcFm a := State.srcFm_congr (by simp) (by simp) _
@[simp] theorem State.setReg_classOf (s : State) (off : Nat) (v : Word) (c : Nat) : (s.setReg off v).classOf c = s.classOf c := State.classOf_congr (by simp) _
@[simp] theorem State.setReg_role (s : State) (off : Nat) (v : Word) (n : Nat) : (s.setReg off v).role n = s.role n := State.role_congr (by simp) _

@[simp] theorem State.setFld_lane (s : State) (off lo len v : Nat) (l : Nat) : (s.setFld off lo len v).lane l = s.lane l := State.lane_congr (by simp) _
@[simp] theorem State.setFld_link (s : State) (off lo len v : Nat) (n : Nat) : (s.setFld off lo len v).link n = s.link n := State.link_congr (by simp) _
@[simp] theorem State.setFld_domain (s : State) (off lo len v : Nat) (k : Nat) : (s.setFld off lo len v).domain k = s.domain k := State.domain_congr (by simp) _
@[simp] theorem State.setFld_running (s : State) (off lo len v : Nat) : (s.setFld off lo len v).running = s.running := State.running_congr (by simp)
@[simp] theorem State.setFld_nodeId (s : State) (off lo len v : Nat) : (s.setFld off lo len v).nodeId = s.nodeId := State.nodeId_congr (by simp)
@[simp] theorem State.setFld_now (s : State) (off lo len v : Nat) : (s.setFld off lo len v).now = s.now := State.now_congr (by simp)
@[simp] theorem State.setFld_isSealed (s : State) (off lo len v : Nat) : (s.setFld off lo len v).isSealed = s.isSealed := State.isSealed_congr (by simp)
@[simp] theorem State.setFld_plateWord (s : State) (off lo len v : Nat) (ty k : Nat) : (s.setFld off lo len v).plateWord ty k = s.plateWord ty k := State.plateWord_congr (by simp) _ _
@[simp] theorem State.setFld_policyEntry (s : State) (off lo len v : Nat) (c : Nat) : (s.setFld off lo len v).policyEntry c = s.policyEntry c := State.policyEntry_congr (by simp) _
@[simp] theorem State.setFld_timer (s : State) (off lo len v : Nat) (k : Nat) : (s.setFld off lo len v).timer k = s.timer k := State.timer_congr (by simp) _
@[simp] theorem State.setFld_rightsBy (s : State) (off lo len v : Nat) : (s.setFld off lo len v).rightsBy = s.rightsBy := State.rightsBy_congr (by simp) (by simp)
@[simp] theorem State.setFld_hosts (s : State) (off lo len v : Nat) : (s.setFld off lo len v).hosts = s.hosts := State.hosts_congr (by simp) (by simp)
@[simp] theorem State.setFld_winFm (s : State) (off lo len v : Nat) (w : Nat) : (s.setFld off lo len v).winFm w = s.winFm w := State.winFm_congr (by simp) (by simp) _
@[simp] theorem State.setFld_winPresent (s : State) (off lo len v : Nat) (w : Nat) : (s.setFld off lo len v).winPresent w = s.winPresent w := State.winPresent_congr (by simp) (by simp) _
@[simp] theorem State.setFld_srcFm (s : State) (off lo len v : Nat) (a : Nat) : (s.setFld off lo len v).srcFm a = s.srcFm a := State.srcFm_congr (by simp) (by simp) _
@[simp] theorem State.setFld_classOf (s : State) (off lo len v : Nat) (c : Nat) : (s.setFld off lo len v).classOf c = s.classOf c := State.classOf_congr (by simp) _
@[simp] theorem State.setFld_role (s : State) (off lo len v : Nat) (n : Nat) : (s.setFld off lo len v).role n = s.role n := State.role_congr (by simp) _

@[simp] theorem State.bumpBy_lane (s : State) (off n : Nat) (l : Nat) : (s.bumpBy off n).lane l = s.lane l := State.lane_congr (by simp) _
@[simp] theorem State.bumpBy_link (s : State) (off n : Nat) (n1 : Nat) : (s.bumpBy off n).link n1 = s.link n1 := State.link_congr (by simp) _
@[simp] theorem State.bumpBy_domain (s : State) (off n : Nat) (k : Nat) : (s.bumpBy off n).domain k = s.domain k := State.domain_congr (by simp) _
@[simp] theorem State.bumpBy_running (s : State) (off n : Nat) : (s.bumpBy off n).running = s.running := State.running_congr (by simp)
@[simp] theorem State.bumpBy_nodeId (s : State) (off n : Nat) : (s.bumpBy off n).nodeId = s.nodeId := State.nodeId_congr (by simp)
@[simp] theorem State.bumpBy_now (s : State) (off n : Nat) : (s.bumpBy off n).now = s.now := State.now_congr (by simp)
@[simp] theorem State.bumpBy_isSealed (s : State) (off n : Nat) : (s.bumpBy off n).isSealed = s.isSealed := State.isSealed_congr (by simp)
@[simp] theorem State.bumpBy_plateWord (s : State) (off n : Nat) (ty k : Nat) : (s.bumpBy off n).plateWord ty k = s.plateWord ty k := State.plateWord_congr (by simp) _ _
@[simp] theorem State.bumpBy_policyEntry (s : State) (off n : Nat) (c : Nat) : (s.bumpBy off n).policyEntry c = s.policyEntry c := State.policyEntry_congr (by simp) _
@[simp] theorem State.bumpBy_timer (s : State) (off n : Nat) (k : Nat) : (s.bumpBy off n).timer k = s.timer k := State.timer_congr (by simp) _
@[simp] theorem State.bumpBy_rightsBy (s : State) (off n : Nat) : (s.bumpBy off n).rightsBy = s.rightsBy := State.rightsBy_congr (by simp) (by simp)
@[simp] theorem State.bumpBy_hosts (s : State) (off n : Nat) : (s.bumpBy off n).hosts = s.hosts := State.hosts_congr (by simp) (by simp)
@[simp] theorem State.bumpBy_winFm (s : State) (off n : Nat) (w : Nat) : (s.bumpBy off n).winFm w = s.winFm w := State.winFm_congr (by simp) (by simp) _
@[simp] theorem State.bumpBy_winPresent (s : State) (off n : Nat) (w : Nat) : (s.bumpBy off n).winPresent w = s.winPresent w := State.winPresent_congr (by simp) (by simp) _
@[simp] theorem State.bumpBy_srcFm (s : State) (off n : Nat) (a : Nat) : (s.bumpBy off n).srcFm a = s.srcFm a := State.srcFm_congr (by simp) (by simp) _
@[simp] theorem State.bumpBy_classOf (s : State) (off n : Nat) (c : Nat) : (s.bumpBy off n).classOf c = s.classOf c := State.classOf_congr (by simp) _
@[simp] theorem State.bumpBy_role (s : State) (off n : Nat) (n1 : Nat) : (s.bumpBy off n).role n1 = s.role n1 := State.role_congr (by simp) _

@[simp] theorem State.bump_lane (s : State) (off : Nat) (l : Nat) : (s.bump off).lane l = s.lane l := State.lane_congr (by simp) _
@[simp] theorem State.bump_link (s : State) (off : Nat) (n : Nat) : (s.bump off).link n = s.link n := State.link_congr (by simp) _
@[simp] theorem State.bump_domain (s : State) (off : Nat) (k : Nat) : (s.bump off).domain k = s.domain k := State.domain_congr (by simp) _
@[simp] theorem State.bump_running (s : State) (off : Nat) : (s.bump off).running = s.running := State.running_congr (by simp)
@[simp] theorem State.bump_nodeId (s : State) (off : Nat) : (s.bump off).nodeId = s.nodeId := State.nodeId_congr (by simp)
@[simp] theorem State.bump_now (s : State) (off : Nat) : (s.bump off).now = s.now := State.now_congr (by simp)
@[simp] theorem State.bump_isSealed (s : State) (off : Nat) : (s.bump off).isSealed = s.isSealed := State.isSealed_congr (by simp)
@[simp] theorem State.bump_plateWord (s : State) (off : Nat) (ty k : Nat) : (s.bump off).plateWord ty k = s.plateWord ty k := State.plateWord_congr (by simp) _ _
@[simp] theorem State.bump_policyEntry (s : State) (off : Nat) (c : Nat) : (s.bump off).policyEntry c = s.policyEntry c := State.policyEntry_congr (by simp) _
@[simp] theorem State.bump_timer (s : State) (off : Nat) (k : Nat) : (s.bump off).timer k = s.timer k := State.timer_congr (by simp) _
@[simp] theorem State.bump_rightsBy (s : State) (off : Nat) : (s.bump off).rightsBy = s.rightsBy := State.rightsBy_congr (by simp) (by simp)
@[simp] theorem State.bump_hosts (s : State) (off : Nat) : (s.bump off).hosts = s.hosts := State.hosts_congr (by simp) (by simp)
@[simp] theorem State.bump_winFm (s : State) (off : Nat) (w : Nat) : (s.bump off).winFm w = s.winFm w := State.winFm_congr (by simp) (by simp) _
@[simp] theorem State.bump_winPresent (s : State) (off : Nat) (w : Nat) : (s.bump off).winPresent w = s.winPresent w := State.winPresent_congr (by simp) (by simp) _
@[simp] theorem State.bump_srcFm (s : State) (off : Nat) (a : Nat) : (s.bump off).srcFm a = s.srcFm a := State.srcFm_congr (by simp) (by simp) _
@[simp] theorem State.bump_classOf (s : State) (off : Nat) (c : Nat) : (s.bump off).classOf c = s.classOf c := State.classOf_congr (by simp) _
@[simp] theorem State.bump_role (s : State) (off : Nat) (n : Nat) : (s.bump off).role n = s.role n := State.role_congr (by simp) _

@[simp] theorem State.setArrayBit_lane (s : State) (base k : Nat) (b : Bool) (l : Nat) : (s.setArrayBit base k b).lane l = s.lane l := State.lane_congr (by simp) _
@[simp] theorem State.setArrayBit_link (s : State) (base k : Nat) (b : Bool) (n : Nat) : (s.setArrayBit base k b).link n = s.link n := State.link_congr (by simp) _
@[simp] theorem State.setArrayBit_domain (s : State) (base k : Nat) (b : Bool) (k1 : Nat) : (s.setArrayBit base k b).domain k1 = s.domain k1 := State.domain_congr (by simp) _
@[simp] theorem State.setArrayBit_running (s : State) (base k : Nat) (b : Bool) : (s.setArrayBit base k b).running = s.running := State.running_congr (by simp)
@[simp] theorem State.setArrayBit_nodeId (s : State) (base k : Nat) (b : Bool) : (s.setArrayBit base k b).nodeId = s.nodeId := State.nodeId_congr (by simp)
@[simp] theorem State.setArrayBit_now (s : State) (base k : Nat) (b : Bool) : (s.setArrayBit base k b).now = s.now := State.now_congr (by simp)
@[simp] theorem State.setArrayBit_isSealed (s : State) (base k : Nat) (b : Bool) : (s.setArrayBit base k b).isSealed = s.isSealed := State.isSealed_congr (by simp)
@[simp] theorem State.setArrayBit_plateWord (s : State) (base k : Nat) (b : Bool) (ty k1 : Nat) : (s.setArrayBit base k b).plateWord ty k1 = s.plateWord ty k1 := State.plateWord_congr (by simp) _ _
@[simp] theorem State.setArrayBit_policyEntry (s : State) (base k : Nat) (b : Bool) (c : Nat) : (s.setArrayBit base k b).policyEntry c = s.policyEntry c := State.policyEntry_congr (by simp) _
@[simp] theorem State.setArrayBit_timer (s : State) (base k : Nat) (b : Bool) (k1 : Nat) : (s.setArrayBit base k b).timer k1 = s.timer k1 := State.timer_congr (by simp) _
@[simp] theorem State.setArrayBit_rightsBy (s : State) (base k : Nat) (b : Bool) : (s.setArrayBit base k b).rightsBy = s.rightsBy := State.rightsBy_congr (by simp) (by simp)
@[simp] theorem State.setArrayBit_hosts (s : State) (base k : Nat) (b : Bool) : (s.setArrayBit base k b).hosts = s.hosts := State.hosts_congr (by simp) (by simp)
@[simp] theorem State.setArrayBit_winFm (s : State) (base k : Nat) (b : Bool) (w : Nat) : (s.setArrayBit base k b).winFm w = s.winFm w := State.winFm_congr (by simp) (by simp) _
@[simp] theorem State.setArrayBit_winPresent (s : State) (base k : Nat) (b : Bool) (w : Nat) : (s.setArrayBit base k b).winPresent w = s.winPresent w := State.winPresent_congr (by simp) (by simp) _
@[simp] theorem State.setArrayBit_srcFm (s : State) (base k : Nat) (b : Bool) (a : Nat) : (s.setArrayBit base k b).srcFm a = s.srcFm a := State.srcFm_congr (by simp) (by simp) _
@[simp] theorem State.setArrayBit_classOf (s : State) (base k : Nat) (b : Bool) (c : Nat) : (s.setArrayBit base k b).classOf c = s.classOf c := State.classOf_congr (by simp) _
@[simp] theorem State.setArrayBit_role (s : State) (base k : Nat) (b : Bool) (n : Nat) : (s.setArrayBit base k b).role n = s.role n := State.role_congr (by simp) _

@[simp] theorem State.setReg64_lane (s : State) (off v : Nat) (l : Nat) : (s.setReg64 off v).lane l = s.lane l := State.lane_congr (by simp) _
@[simp] theorem State.setReg64_link (s : State) (off v : Nat) (n : Nat) : (s.setReg64 off v).link n = s.link n := State.link_congr (by simp) _
@[simp] theorem State.setReg64_domain (s : State) (off v : Nat) (k : Nat) : (s.setReg64 off v).domain k = s.domain k := State.domain_congr (by simp) _
@[simp] theorem State.setReg64_running (s : State) (off v : Nat) : (s.setReg64 off v).running = s.running := State.running_congr (by simp)
@[simp] theorem State.setReg64_nodeId (s : State) (off v : Nat) : (s.setReg64 off v).nodeId = s.nodeId := State.nodeId_congr (by simp)
@[simp] theorem State.setReg64_now (s : State) (off v : Nat) : (s.setReg64 off v).now = s.now := State.now_congr (by simp)
@[simp] theorem State.setReg64_isSealed (s : State) (off v : Nat) : (s.setReg64 off v).isSealed = s.isSealed := State.isSealed_congr (by simp)
@[simp] theorem State.setReg64_plateWord (s : State) (off v : Nat) (ty k : Nat) : (s.setReg64 off v).plateWord ty k = s.plateWord ty k := State.plateWord_congr (by simp) _ _
@[simp] theorem State.setReg64_policyEntry (s : State) (off v : Nat) (c : Nat) : (s.setReg64 off v).policyEntry c = s.policyEntry c := State.policyEntry_congr (by simp) _
@[simp] theorem State.setReg64_timer (s : State) (off v : Nat) (k : Nat) : (s.setReg64 off v).timer k = s.timer k := State.timer_congr (by simp) _
@[simp] theorem State.setReg64_rightsBy (s : State) (off v : Nat) : (s.setReg64 off v).rightsBy = s.rightsBy := State.rightsBy_congr (by simp) (by simp)
@[simp] theorem State.setReg64_hosts (s : State) (off v : Nat) : (s.setReg64 off v).hosts = s.hosts := State.hosts_congr (by simp) (by simp)
@[simp] theorem State.setReg64_winFm (s : State) (off v : Nat) (w : Nat) : (s.setReg64 off v).winFm w = s.winFm w := State.winFm_congr (by simp) (by simp) _
@[simp] theorem State.setReg64_winPresent (s : State) (off v : Nat) (w : Nat) : (s.setReg64 off v).winPresent w = s.winPresent w := State.winPresent_congr (by simp) (by simp) _
@[simp] theorem State.setReg64_srcFm (s : State) (off v : Nat) (a : Nat) : (s.setReg64 off v).srcFm a = s.srcFm a := State.srcFm_congr (by simp) (by simp) _
@[simp] theorem State.setReg64_classOf (s : State) (off v : Nat) (c : Nat) : (s.setReg64 off v).classOf c = s.classOf c := State.classOf_congr (by simp) _
@[simp] theorem State.setReg64_role (s : State) (off v : Nat) (n : Nat) : (s.setReg64 off v).role n = s.role n := State.role_congr (by simp) _

@[simp] theorem State.setWinReg_lane (s : State) (w : Nat) (off : Nat) (v : Word) (l : Nat) : (s.setWinReg w off v).lane l = s.lane l := State.lane_congr (by simp) _
@[simp] theorem State.setWinReg_link (s : State) (w : Nat) (off : Nat) (v : Word) (n : Nat) : (s.setWinReg w off v).link n = s.link n := State.link_congr (by simp) _
@[simp] theorem State.setWinReg_domain (s : State) (w : Nat) (off : Nat) (v : Word) (k : Nat) : (s.setWinReg w off v).domain k = s.domain k := State.domain_congr (by simp) _
@[simp] theorem State.setWinReg_running (s : State) (w : Nat) (off : Nat) (v : Word) : (s.setWinReg w off v).running = s.running := State.running_congr (by simp)
@[simp] theorem State.setWinReg_nodeId (s : State) (w : Nat) (off : Nat) (v : Word) : (s.setWinReg w off v).nodeId = s.nodeId := State.nodeId_congr (by simp)
@[simp] theorem State.setWinReg_now (s : State) (w : Nat) (off : Nat) (v : Word) : (s.setWinReg w off v).now = s.now := State.now_congr (by simp)
@[simp] theorem State.setWinReg_isSealed (s : State) (w : Nat) (off : Nat) (v : Word) : (s.setWinReg w off v).isSealed = s.isSealed := State.isSealed_congr (by simp)
@[simp] theorem State.setWinReg_plateWord (s : State) (w : Nat) (off : Nat) (v : Word) (ty k : Nat) : (s.setWinReg w off v).plateWord ty k = s.plateWord ty k := State.plateWord_congr (by simp) _ _
@[simp] theorem State.setWinReg_policyEntry (s : State) (w : Nat) (off : Nat) (v : Word) (c : Nat) : (s.setWinReg w off v).policyEntry c = s.policyEntry c := State.policyEntry_congr (by simp) _
@[simp] theorem State.setWinReg_timer (s : State) (w : Nat) (off : Nat) (v : Word) (k : Nat) : (s.setWinReg w off v).timer k = s.timer k := State.timer_congr (by simp) _
@[simp] theorem State.setWinReg_rightsBy (s : State) (w : Nat) (off : Nat) (v : Word) : (s.setWinReg w off v).rightsBy = s.rightsBy := State.rightsBy_congr (by simp) (by simp)
@[simp] theorem State.setWinReg_hosts (s : State) (w : Nat) (off : Nat) (v : Word) : (s.setWinReg w off v).hosts = s.hosts := State.hosts_congr (by simp) (by simp)
@[simp] theorem State.setWinReg_winFm (s : State) (w : Nat) (off : Nat) (v : Word) (w1 : Nat) : (s.setWinReg w off v).winFm w1 = s.winFm w1 := State.winFm_congr (by simp) (by simp) _
@[simp] theorem State.setWinReg_winPresent (s : State) (w : Nat) (off : Nat) (v : Word) (w1 : Nat) : (s.setWinReg w off v).winPresent w1 = s.winPresent w1 := State.winPresent_congr (by simp) (by simp) _
@[simp] theorem State.setWinReg_srcFm (s : State) (w : Nat) (off : Nat) (v : Word) (a : Nat) : (s.setWinReg w off v).srcFm a = s.srcFm a := State.srcFm_congr (by simp) (by simp) _
@[simp] theorem State.setWinReg_classOf (s : State) (w : Nat) (off : Nat) (v : Word) (c : Nat) : (s.setWinReg w off v).classOf c = s.classOf c := State.classOf_congr (by simp) _
@[simp] theorem State.setWinReg_role (s : State) (w : Nat) (off : Nat) (v : Word) (n : Nat) : (s.setWinReg w off v).role n = s.role n := State.role_congr (by simp) _

@[simp] theorem State.setSel_reg (s : State) (a off : Nat) (v : Word) (o : Nat) : (s.setSel a off v).reg o = s.reg o := State.reg_congr (by simp) _
@[simp] theorem State.setSel_fld (s : State) (a off : Nat) (v : Word) (o lo len : Nat) : (s.setSel a off v).fld o lo len = s.fld o lo len := State.fld_congr (by simp) _ _ _
@[simp] theorem State.setSel_reg64 (s : State) (a off : Nat) (v : Word) (o : Nat) : (s.setSel a off v).reg64 o = s.reg64 o := State.reg64_congr (by simp) _
@[simp] theorem State.setSel_arrayBit (s : State) (a off : Nat) (v : Word) (base k : Nat) : (s.setSel a off v).arrayBit base k = s.arrayBit base k := State.arrayBit_congr (by simp) _ _
@[simp] theorem State.setSel_lane (s : State) (a off : Nat) (v : Word) (l : Nat) : (s.setSel a off v).lane l = s.lane l := State.lane_congr (by simp) _
@[simp] theorem State.setSel_link (s : State) (a off : Nat) (v : Word) (n : Nat) : (s.setSel a off v).link n = s.link n := State.link_congr (by simp) _
@[simp] theorem State.setSel_domain (s : State) (a off : Nat) (v : Word) (k : Nat) : (s.setSel a off v).domain k = s.domain k := State.domain_congr (by simp) _
@[simp] theorem State.setSel_running (s : State) (a off : Nat) (v : Word) : (s.setSel a off v).running = s.running := State.running_congr (by simp)
@[simp] theorem State.setSel_nodeId (s : State) (a off : Nat) (v : Word) : (s.setSel a off v).nodeId = s.nodeId := State.nodeId_congr (by simp)
@[simp] theorem State.setSel_now (s : State) (a off : Nat) (v : Word) : (s.setSel a off v).now = s.now := State.now_congr (by simp)
@[simp] theorem State.setSel_isSealed (s : State) (a off : Nat) (v : Word) : (s.setSel a off v).isSealed = s.isSealed := State.isSealed_congr (by simp)
@[simp] theorem State.setSel_plateWord (s : State) (a off : Nat) (v : Word) (ty k : Nat) : (s.setSel a off v).plateWord ty k = s.plateWord ty k := State.plateWord_congr (by simp) _ _
@[simp] theorem State.setSel_policyEntry (s : State) (a off : Nat) (v : Word) (c : Nat) : (s.setSel a off v).policyEntry c = s.policyEntry c := State.policyEntry_congr (by simp) _
@[simp] theorem State.setSel_timer (s : State) (a off : Nat) (v : Word) (k : Nat) : (s.setSel a off v).timer k = s.timer k := State.timer_congr (by simp) _
@[simp] theorem State.setSel_rightsBy (s : State) (a off : Nat) (v : Word) : (s.setSel a off v).rightsBy = s.rightsBy := State.rightsBy_congr (by simp) (by simp)
@[simp] theorem State.setSel_hosts (s : State) (a off : Nat) (v : Word) : (s.setSel a off v).hosts = s.hosts := State.hosts_congr (by simp) (by simp)
@[simp] theorem State.setSel_winFm (s : State) (a off : Nat) (v : Word) (w : Nat) : (s.setSel a off v).winFm w = s.winFm w := State.winFm_congr (by simp) (by simp) _
@[simp] theorem State.setSel_winPresent (s : State) (a off : Nat) (v : Word) (w : Nat) : (s.setSel a off v).winPresent w = s.winPresent w := State.winPresent_congr (by simp) (by simp) _
@[simp] theorem State.setSel_srcFm (s : State) (a off : Nat) (v : Word) (a1 : Nat) : (s.setSel a off v).srcFm a1 = s.srcFm a1 := State.srcFm_congr (by simp) (by simp) _
@[simp] theorem State.setSel_classOf (s : State) (a off : Nat) (v : Word) (c : Nat) : (s.setSel a off v).classOf c = s.classOf c := State.classOf_congr (by simp) _
@[simp] theorem State.setSel_role (s : State) (a off : Nat) (v : Word) (n : Nat) : (s.setSel a off v).role n = s.role n := State.role_congr (by simp) _

@[simp] theorem State.tookFree_reg (s : State) (o : Nat) : (s.tookFree).reg o = s.reg o := State.reg_congr (by simp) _
@[simp] theorem State.tookFree_fld (s : State) (o lo len : Nat) : (s.tookFree).fld o lo len = s.fld o lo len := State.fld_congr (by simp) _ _ _
@[simp] theorem State.tookFree_reg64 (s : State) (o : Nat) : (s.tookFree).reg64 o = s.reg64 o := State.reg64_congr (by simp) _
@[simp] theorem State.tookFree_arrayBit (s : State) (base k : Nat) : (s.tookFree).arrayBit base k = s.arrayBit base k := State.arrayBit_congr (by simp) _ _
@[simp] theorem State.tookFree_lane (s : State) (l : Nat) : (s.tookFree).lane l = s.lane l := State.lane_congr (by simp) _
@[simp] theorem State.tookFree_link (s : State) (n : Nat) : (s.tookFree).link n = s.link n := State.link_congr (by simp) _
@[simp] theorem State.tookFree_domain (s : State) (k : Nat) : (s.tookFree).domain k = s.domain k := State.domain_congr (by simp) _
@[simp] theorem State.tookFree_running (s : State) : (s.tookFree).running = s.running := State.running_congr (by simp)
@[simp] theorem State.tookFree_nodeId (s : State) : (s.tookFree).nodeId = s.nodeId := State.nodeId_congr (by simp)
@[simp] theorem State.tookFree_now (s : State) : (s.tookFree).now = s.now := State.now_congr (by simp)
@[simp] theorem State.tookFree_isSealed (s : State) : (s.tookFree).isSealed = s.isSealed := State.isSealed_congr (by simp)
@[simp] theorem State.tookFree_plateWord (s : State) (ty k : Nat) : (s.tookFree).plateWord ty k = s.plateWord ty k := State.plateWord_congr (by simp) _ _
@[simp] theorem State.tookFree_policyEntry (s : State) (c : Nat) : (s.tookFree).policyEntry c = s.policyEntry c := State.policyEntry_congr (by simp) _
@[simp] theorem State.tookFree_timer (s : State) (k : Nat) : (s.tookFree).timer k = s.timer k := State.timer_congr (by simp) _
@[simp] theorem State.tookFree_rightsBy (s : State) : (s.tookFree).rightsBy = s.rightsBy := State.rightsBy_congr (by simp) (by simp)
@[simp] theorem State.tookFree_hosts (s : State) : (s.tookFree).hosts = s.hosts := State.hosts_congr (by simp) (by simp)
@[simp] theorem State.tookFree_winFm (s : State) (w : Nat) : (s.tookFree).winFm w = s.winFm w := State.winFm_congr (by simp) (by simp) _
@[simp] theorem State.tookFree_winPresent (s : State) (w : Nat) : (s.tookFree).winPresent w = s.winPresent w := State.winPresent_congr (by simp) (by simp) _
@[simp] theorem State.tookFree_srcFm (s : State) (a : Nat) : (s.tookFree).srcFm a = s.srcFm a := State.srcFm_congr (by simp) (by simp) _
@[simp] theorem State.tookFree_classOf (s : State) (c : Nat) : (s.tookFree).classOf c = s.classOf c := State.classOf_congr (by simp) _
@[simp] theorem State.tookFree_role (s : State) (n : Nat) : (s.tookFree).role n = s.role n := State.role_congr (by simp) _

@[simp] theorem State.injectCell_reg (s : State) (c : Cell) (o : Nat) : (s.injectCell c).reg o = s.reg o := State.reg_congr (by simp) _
@[simp] theorem State.injectCell_fld (s : State) (c : Cell) (o lo len : Nat) : (s.injectCell c).fld o lo len = s.fld o lo len := State.fld_congr (by simp) _ _ _
@[simp] theorem State.injectCell_reg64 (s : State) (c : Cell) (o : Nat) : (s.injectCell c).reg64 o = s.reg64 o := State.reg64_congr (by simp) _
@[simp] theorem State.injectCell_arrayBit (s : State) (c : Cell) (base k : Nat) : (s.injectCell c).arrayBit base k = s.arrayBit base k := State.arrayBit_congr (by simp) _ _
@[simp] theorem State.injectCell_lane (s : State) (c : Cell) (l : Nat) : (s.injectCell c).lane l = s.lane l := State.lane_congr (by simp) _
@[simp] theorem State.injectCell_link (s : State) (c : Cell) (n : Nat) : (s.injectCell c).link n = s.link n := State.link_congr (by simp) _
@[simp] theorem State.injectCell_domain (s : State) (c : Cell) (k : Nat) : (s.injectCell c).domain k = s.domain k := State.domain_congr (by simp) _
@[simp] theorem State.injectCell_running (s : State) (c : Cell) : (s.injectCell c).running = s.running := State.running_congr (by simp)
@[simp] theorem State.injectCell_nodeId (s : State) (c : Cell) : (s.injectCell c).nodeId = s.nodeId := State.nodeId_congr (by simp)
@[simp] theorem State.injectCell_now (s : State) (c : Cell) : (s.injectCell c).now = s.now := State.now_congr (by simp)
@[simp] theorem State.injectCell_isSealed (s : State) (c : Cell) : (s.injectCell c).isSealed = s.isSealed := State.isSealed_congr (by simp)
@[simp] theorem State.injectCell_plateWord (s : State) (c : Cell) (ty k : Nat) : (s.injectCell c).plateWord ty k = s.plateWord ty k := State.plateWord_congr (by simp) _ _
@[simp] theorem State.injectCell_policyEntry (s : State) (c : Cell) (c1 : Nat) : (s.injectCell c).policyEntry c1 = s.policyEntry c1 := State.policyEntry_congr (by simp) _
@[simp] theorem State.injectCell_timer (s : State) (c : Cell) (k : Nat) : (s.injectCell c).timer k = s.timer k := State.timer_congr (by simp) _
@[simp] theorem State.injectCell_rightsBy (s : State) (c : Cell) : (s.injectCell c).rightsBy = s.rightsBy := State.rightsBy_congr (by simp) (by simp)
@[simp] theorem State.injectCell_hosts (s : State) (c : Cell) : (s.injectCell c).hosts = s.hosts := State.hosts_congr (by simp) (by simp)
@[simp] theorem State.injectCell_winFm (s : State) (c : Cell) (w : Nat) : (s.injectCell c).winFm w = s.winFm w := State.winFm_congr (by simp) (by simp) _
@[simp] theorem State.injectCell_winPresent (s : State) (c : Cell) (w : Nat) : (s.injectCell c).winPresent w = s.winPresent w := State.winPresent_congr (by simp) (by simp) _
@[simp] theorem State.injectCell_srcFm (s : State) (c : Cell) (a : Nat) : (s.injectCell c).srcFm a = s.srcFm a := State.srcFm_congr (by simp) (by simp) _
@[simp] theorem State.injectCell_classOf (s : State) (c : Cell) (c1 : Nat) : (s.injectCell c).classOf c1 = s.classOf c1 := State.classOf_congr (by simp) _
@[simp] theorem State.injectCell_role (s : State) (c : Cell) (n : Nat) : (s.injectCell c).role n = s.role n := State.role_congr (by simp) _

@[simp] theorem State.eject_reg (s : State) (input : Nat) (c : Cell) (neverSent : Bool) (o : Nat) : (s.eject input c neverSent).reg o = s.reg o := State.reg_congr (by simp) _
@[simp] theorem State.eject_fld (s : State) (input : Nat) (c : Cell) (neverSent : Bool) (o lo len : Nat) : (s.eject input c neverSent).fld o lo len = s.fld o lo len := State.fld_congr (by simp) _ _ _
@[simp] theorem State.eject_reg64 (s : State) (input : Nat) (c : Cell) (neverSent : Bool) (o : Nat) : (s.eject input c neverSent).reg64 o = s.reg64 o := State.reg64_congr (by simp) _
@[simp] theorem State.eject_arrayBit (s : State) (input : Nat) (c : Cell) (neverSent : Bool) (base k : Nat) : (s.eject input c neverSent).arrayBit base k = s.arrayBit base k := State.arrayBit_congr (by simp) _ _
@[simp] theorem State.eject_lane (s : State) (input : Nat) (c : Cell) (neverSent : Bool) (l : Nat) : (s.eject input c neverSent).lane l = s.lane l := State.lane_congr (by simp) _
@[simp] theorem State.eject_link (s : State) (input : Nat) (c : Cell) (neverSent : Bool) (n : Nat) : (s.eject input c neverSent).link n = s.link n := State.link_congr (by simp) _
@[simp] theorem State.eject_domain (s : State) (input : Nat) (c : Cell) (neverSent : Bool) (k : Nat) : (s.eject input c neverSent).domain k = s.domain k := State.domain_congr (by simp) _
@[simp] theorem State.eject_running (s : State) (input : Nat) (c : Cell) (neverSent : Bool) : (s.eject input c neverSent).running = s.running := State.running_congr (by simp)
@[simp] theorem State.eject_nodeId (s : State) (input : Nat) (c : Cell) (neverSent : Bool) : (s.eject input c neverSent).nodeId = s.nodeId := State.nodeId_congr (by simp)
@[simp] theorem State.eject_now (s : State) (input : Nat) (c : Cell) (neverSent : Bool) : (s.eject input c neverSent).now = s.now := State.now_congr (by simp)
@[simp] theorem State.eject_isSealed (s : State) (input : Nat) (c : Cell) (neverSent : Bool) : (s.eject input c neverSent).isSealed = s.isSealed := State.isSealed_congr (by simp)
@[simp] theorem State.eject_plateWord (s : State) (input : Nat) (c : Cell) (neverSent : Bool) (ty k : Nat) : (s.eject input c neverSent).plateWord ty k = s.plateWord ty k := State.plateWord_congr (by simp) _ _
@[simp] theorem State.eject_policyEntry (s : State) (input : Nat) (c : Cell) (neverSent : Bool) (c1 : Nat) : (s.eject input c neverSent).policyEntry c1 = s.policyEntry c1 := State.policyEntry_congr (by simp) _
@[simp] theorem State.eject_timer (s : State) (input : Nat) (c : Cell) (neverSent : Bool) (k : Nat) : (s.eject input c neverSent).timer k = s.timer k := State.timer_congr (by simp) _
@[simp] theorem State.eject_rightsBy (s : State) (input : Nat) (c : Cell) (neverSent : Bool) : (s.eject input c neverSent).rightsBy = s.rightsBy := State.rightsBy_congr (by simp) (by simp)
@[simp] theorem State.eject_hosts (s : State) (input : Nat) (c : Cell) (neverSent : Bool) : (s.eject input c neverSent).hosts = s.hosts := State.hosts_congr (by simp) (by simp)
@[simp] theorem State.eject_winFm (s : State) (input : Nat) (c : Cell) (neverSent : Bool) (w : Nat) : (s.eject input c neverSent).winFm w = s.winFm w := State.winFm_congr (by simp) (by simp) _
@[simp] theorem State.eject_winPresent (s : State) (input : Nat) (c : Cell) (neverSent : Bool) (w : Nat) : (s.eject input c neverSent).winPresent w = s.winPresent w := State.winPresent_congr (by simp) (by simp) _
@[simp] theorem State.eject_srcFm (s : State) (input : Nat) (c : Cell) (neverSent : Bool) (a : Nat) : (s.eject input c neverSent).srcFm a = s.srcFm a := State.srcFm_congr (by simp) (by simp) _
@[simp] theorem State.eject_classOf (s : State) (input : Nat) (c : Cell) (neverSent : Bool) (c1 : Nat) : (s.eject input c neverSent).classOf c1 = s.classOf c1 := State.classOf_congr (by simp) _
@[simp] theorem State.eject_role (s : State) (input : Nat) (c : Cell) (neverSent : Bool) (n : Nat) : (s.eject input c neverSent).role n = s.role n := State.role_congr (by simp) _

@[simp] theorem State.takeEjected_reg (s : State) (c : Cell) (o : Nat) : (s.takeEjected c).reg o = s.reg o := State.reg_congr (by simp) _
@[simp] theorem State.takeEjected_fld (s : State) (c : Cell) (o lo len : Nat) : (s.takeEjected c).fld o lo len = s.fld o lo len := State.fld_congr (by simp) _ _ _
@[simp] theorem State.takeEjected_reg64 (s : State) (c : Cell) (o : Nat) : (s.takeEjected c).reg64 o = s.reg64 o := State.reg64_congr (by simp) _
@[simp] theorem State.takeEjected_arrayBit (s : State) (c : Cell) (base k : Nat) : (s.takeEjected c).arrayBit base k = s.arrayBit base k := State.arrayBit_congr (by simp) _ _
@[simp] theorem State.takeEjected_lane (s : State) (c : Cell) (l : Nat) : (s.takeEjected c).lane l = s.lane l := State.lane_congr (by simp) _
@[simp] theorem State.takeEjected_link (s : State) (c : Cell) (n : Nat) : (s.takeEjected c).link n = s.link n := State.link_congr (by simp) _
@[simp] theorem State.takeEjected_domain (s : State) (c : Cell) (k : Nat) : (s.takeEjected c).domain k = s.domain k := State.domain_congr (by simp) _
@[simp] theorem State.takeEjected_running (s : State) (c : Cell) : (s.takeEjected c).running = s.running := State.running_congr (by simp)
@[simp] theorem State.takeEjected_nodeId (s : State) (c : Cell) : (s.takeEjected c).nodeId = s.nodeId := State.nodeId_congr (by simp)
@[simp] theorem State.takeEjected_now (s : State) (c : Cell) : (s.takeEjected c).now = s.now := State.now_congr (by simp)
@[simp] theorem State.takeEjected_isSealed (s : State) (c : Cell) : (s.takeEjected c).isSealed = s.isSealed := State.isSealed_congr (by simp)
@[simp] theorem State.takeEjected_plateWord (s : State) (c : Cell) (ty k : Nat) : (s.takeEjected c).plateWord ty k = s.plateWord ty k := State.plateWord_congr (by simp) _ _
@[simp] theorem State.takeEjected_policyEntry (s : State) (c : Cell) (c1 : Nat) : (s.takeEjected c).policyEntry c1 = s.policyEntry c1 := State.policyEntry_congr (by simp) _
@[simp] theorem State.takeEjected_timer (s : State) (c : Cell) (k : Nat) : (s.takeEjected c).timer k = s.timer k := State.timer_congr (by simp) _
@[simp] theorem State.takeEjected_rightsBy (s : State) (c : Cell) : (s.takeEjected c).rightsBy = s.rightsBy := State.rightsBy_congr (by simp) (by simp)
@[simp] theorem State.takeEjected_hosts (s : State) (c : Cell) : (s.takeEjected c).hosts = s.hosts := State.hosts_congr (by simp) (by simp)
@[simp] theorem State.takeEjected_winFm (s : State) (c : Cell) (w : Nat) : (s.takeEjected c).winFm w = s.winFm w := State.winFm_congr (by simp) (by simp) _
@[simp] theorem State.takeEjected_winPresent (s : State) (c : Cell) (w : Nat) : (s.takeEjected c).winPresent w = s.winPresent w := State.winPresent_congr (by simp) (by simp) _
@[simp] theorem State.takeEjected_srcFm (s : State) (c : Cell) (a : Nat) : (s.takeEjected c).srcFm a = s.srcFm a := State.srcFm_congr (by simp) (by simp) _
@[simp] theorem State.takeEjected_classOf (s : State) (c : Cell) (c1 : Nat) : (s.takeEjected c).classOf c1 = s.classOf c1 := State.classOf_congr (by simp) _
@[simp] theorem State.takeEjected_role (s : State) (c : Cell) (n : Nat) : (s.takeEjected c).role n = s.role n := State.role_congr (by simp) _

@[simp] theorem State.setLane_reg (s : State) (l : Nat) (x : Lane) (o : Nat) : (s.setLane l x).reg o = s.reg o := State.reg_congr (by simp) _
@[simp] theorem State.setLane_fld (s : State) (l : Nat) (x : Lane) (o lo len : Nat) : (s.setLane l x).fld o lo len = s.fld o lo len := State.fld_congr (by simp) _ _ _
@[simp] theorem State.setLane_reg64 (s : State) (l : Nat) (x : Lane) (o : Nat) : (s.setLane l x).reg64 o = s.reg64 o := State.reg64_congr (by simp) _
@[simp] theorem State.setLane_arrayBit (s : State) (l : Nat) (x : Lane) (base k : Nat) : (s.setLane l x).arrayBit base k = s.arrayBit base k := State.arrayBit_congr (by simp) _ _
@[simp] theorem State.setLane_link (s : State) (l : Nat) (x : Lane) (n : Nat) : (s.setLane l x).link n = s.link n := State.link_congr (by simp) _
@[simp] theorem State.setLane_domain (s : State) (l : Nat) (x : Lane) (k : Nat) : (s.setLane l x).domain k = s.domain k := State.domain_congr (by simp) _
@[simp] theorem State.setLane_running (s : State) (l : Nat) (x : Lane) : (s.setLane l x).running = s.running := State.running_congr (by simp)
@[simp] theorem State.setLane_nodeId (s : State) (l : Nat) (x : Lane) : (s.setLane l x).nodeId = s.nodeId := State.nodeId_congr (by simp)
@[simp] theorem State.setLane_now (s : State) (l : Nat) (x : Lane) : (s.setLane l x).now = s.now := State.now_congr (by simp)
@[simp] theorem State.setLane_isSealed (s : State) (l : Nat) (x : Lane) : (s.setLane l x).isSealed = s.isSealed := State.isSealed_congr (by simp)
@[simp] theorem State.setLane_plateWord (s : State) (l : Nat) (x : Lane) (ty k : Nat) : (s.setLane l x).plateWord ty k = s.plateWord ty k := State.plateWord_congr (by simp) _ _
@[simp] theorem State.setLane_policyEntry (s : State) (l : Nat) (x : Lane) (c : Nat) : (s.setLane l x).policyEntry c = s.policyEntry c := State.policyEntry_congr (by simp) _
@[simp] theorem State.setLane_timer (s : State) (l : Nat) (x : Lane) (k : Nat) : (s.setLane l x).timer k = s.timer k := State.timer_congr (by simp) _
@[simp] theorem State.setLane_rightsBy (s : State) (l : Nat) (x : Lane) : (s.setLane l x).rightsBy = s.rightsBy := State.rightsBy_congr (by simp) (by simp)
@[simp] theorem State.setLane_hosts (s : State) (l : Nat) (x : Lane) : (s.setLane l x).hosts = s.hosts := State.hosts_congr (by simp) (by simp)
@[simp] theorem State.setLane_winFm (s : State) (l : Nat) (x : Lane) (w : Nat) : (s.setLane l x).winFm w = s.winFm w := State.winFm_congr (by simp) (by simp) _
@[simp] theorem State.setLane_winPresent (s : State) (l : Nat) (x : Lane) (w : Nat) : (s.setLane l x).winPresent w = s.winPresent w := State.winPresent_congr (by simp) (by simp) _
@[simp] theorem State.setLane_srcFm (s : State) (l : Nat) (x : Lane) (a : Nat) : (s.setLane l x).srcFm a = s.srcFm a := State.srcFm_congr (by simp) (by simp) _
@[simp] theorem State.setLane_classOf (s : State) (l : Nat) (x : Lane) (c : Nat) : (s.setLane l x).classOf c = s.classOf c := State.classOf_congr (by simp) _
@[simp] theorem State.setLane_role (s : State) (l : Nat) (x : Lane) (n : Nat) : (s.setLane l x).role n = s.role n := State.role_congr (by simp) _

@[simp] theorem State.setLink_reg (s : State) (n : Nat) (x : Link) (o : Nat) : (s.setLink n x).reg o = s.reg o := State.reg_congr (by simp) _
@[simp] theorem State.setLink_fld (s : State) (n : Nat) (x : Link) (o lo len : Nat) : (s.setLink n x).fld o lo len = s.fld o lo len := State.fld_congr (by simp) _ _ _
@[simp] theorem State.setLink_reg64 (s : State) (n : Nat) (x : Link) (o : Nat) : (s.setLink n x).reg64 o = s.reg64 o := State.reg64_congr (by simp) _
@[simp] theorem State.setLink_arrayBit (s : State) (n : Nat) (x : Link) (base k : Nat) : (s.setLink n x).arrayBit base k = s.arrayBit base k := State.arrayBit_congr (by simp) _ _
@[simp] theorem State.setLink_lane (s : State) (n : Nat) (x : Link) (l : Nat) : (s.setLink n x).lane l = s.lane l := State.lane_congr (by simp) _
@[simp] theorem State.setLink_domain (s : State) (n : Nat) (x : Link) (k : Nat) : (s.setLink n x).domain k = s.domain k := State.domain_congr (by simp) _
@[simp] theorem State.setLink_running (s : State) (n : Nat) (x : Link) : (s.setLink n x).running = s.running := State.running_congr (by simp)
@[simp] theorem State.setLink_nodeId (s : State) (n : Nat) (x : Link) : (s.setLink n x).nodeId = s.nodeId := State.nodeId_congr (by simp)
@[simp] theorem State.setLink_now (s : State) (n : Nat) (x : Link) : (s.setLink n x).now = s.now := State.now_congr (by simp)
@[simp] theorem State.setLink_isSealed (s : State) (n : Nat) (x : Link) : (s.setLink n x).isSealed = s.isSealed := State.isSealed_congr (by simp)
@[simp] theorem State.setLink_plateWord (s : State) (n : Nat) (x : Link) (ty k : Nat) : (s.setLink n x).plateWord ty k = s.plateWord ty k := State.plateWord_congr (by simp) _ _
@[simp] theorem State.setLink_policyEntry (s : State) (n : Nat) (x : Link) (c : Nat) : (s.setLink n x).policyEntry c = s.policyEntry c := State.policyEntry_congr (by simp) _
@[simp] theorem State.setLink_timer (s : State) (n : Nat) (x : Link) (k : Nat) : (s.setLink n x).timer k = s.timer k := State.timer_congr (by simp) _
@[simp] theorem State.setLink_rightsBy (s : State) (n : Nat) (x : Link) : (s.setLink n x).rightsBy = s.rightsBy := State.rightsBy_congr (by simp) (by simp)
@[simp] theorem State.setLink_hosts (s : State) (n : Nat) (x : Link) : (s.setLink n x).hosts = s.hosts := State.hosts_congr (by simp) (by simp)
@[simp] theorem State.setLink_winFm (s : State) (n : Nat) (x : Link) (w : Nat) : (s.setLink n x).winFm w = s.winFm w := State.winFm_congr (by simp) (by simp) _
@[simp] theorem State.setLink_winPresent (s : State) (n : Nat) (x : Link) (w : Nat) : (s.setLink n x).winPresent w = s.winPresent w := State.winPresent_congr (by simp) (by simp) _
@[simp] theorem State.setLink_srcFm (s : State) (n : Nat) (x : Link) (a : Nat) : (s.setLink n x).srcFm a = s.srcFm a := State.srcFm_congr (by simp) (by simp) _
@[simp] theorem State.setLink_classOf (s : State) (n : Nat) (x : Link) (c : Nat) : (s.setLink n x).classOf c = s.classOf c := State.classOf_congr (by simp) _
@[simp] theorem State.setLink_role (s : State) (n : Nat) (x : Link) (n1 : Nat) : (s.setLink n x).role n1 = s.role n1 := State.role_congr (by simp) _

@[simp] theorem State.modLink_reg (s : State) (n : Nat) (f : Link → Link) (o : Nat) : (s.modLink n f).reg o = s.reg o := State.reg_congr (by simp) _
@[simp] theorem State.modLink_fld (s : State) (n : Nat) (f : Link → Link) (o lo len : Nat) : (s.modLink n f).fld o lo len = s.fld o lo len := State.fld_congr (by simp) _ _ _
@[simp] theorem State.modLink_reg64 (s : State) (n : Nat) (f : Link → Link) (o : Nat) : (s.modLink n f).reg64 o = s.reg64 o := State.reg64_congr (by simp) _
@[simp] theorem State.modLink_arrayBit (s : State) (n : Nat) (f : Link → Link) (base k : Nat) : (s.modLink n f).arrayBit base k = s.arrayBit base k := State.arrayBit_congr (by simp) _ _
@[simp] theorem State.modLink_lane (s : State) (n : Nat) (f : Link → Link) (l : Nat) : (s.modLink n f).lane l = s.lane l := State.lane_congr (by simp) _
@[simp] theorem State.modLink_domain (s : State) (n : Nat) (f : Link → Link) (k : Nat) : (s.modLink n f).domain k = s.domain k := State.domain_congr (by simp) _
@[simp] theorem State.modLink_running (s : State) (n : Nat) (f : Link → Link) : (s.modLink n f).running = s.running := State.running_congr (by simp)
@[simp] theorem State.modLink_nodeId (s : State) (n : Nat) (f : Link → Link) : (s.modLink n f).nodeId = s.nodeId := State.nodeId_congr (by simp)
@[simp] theorem State.modLink_now (s : State) (n : Nat) (f : Link → Link) : (s.modLink n f).now = s.now := State.now_congr (by simp)
@[simp] theorem State.modLink_isSealed (s : State) (n : Nat) (f : Link → Link) : (s.modLink n f).isSealed = s.isSealed := State.isSealed_congr (by simp)
@[simp] theorem State.modLink_plateWord (s : State) (n : Nat) (f : Link → Link) (ty k : Nat) : (s.modLink n f).plateWord ty k = s.plateWord ty k := State.plateWord_congr (by simp) _ _
@[simp] theorem State.modLink_policyEntry (s : State) (n : Nat) (f : Link → Link) (c : Nat) : (s.modLink n f).policyEntry c = s.policyEntry c := State.policyEntry_congr (by simp) _
@[simp] theorem State.modLink_timer (s : State) (n : Nat) (f : Link → Link) (k : Nat) : (s.modLink n f).timer k = s.timer k := State.timer_congr (by simp) _
@[simp] theorem State.modLink_rightsBy (s : State) (n : Nat) (f : Link → Link) : (s.modLink n f).rightsBy = s.rightsBy := State.rightsBy_congr (by simp) (by simp)
@[simp] theorem State.modLink_hosts (s : State) (n : Nat) (f : Link → Link) : (s.modLink n f).hosts = s.hosts := State.hosts_congr (by simp) (by simp)
@[simp] theorem State.modLink_winFm (s : State) (n : Nat) (f : Link → Link) (w : Nat) : (s.modLink n f).winFm w = s.winFm w := State.winFm_congr (by simp) (by simp) _
@[simp] theorem State.modLink_winPresent (s : State) (n : Nat) (f : Link → Link) (w : Nat) : (s.modLink n f).winPresent w = s.winPresent w := State.winPresent_congr (by simp) (by simp) _
@[simp] theorem State.modLink_srcFm (s : State) (n : Nat) (f : Link → Link) (a : Nat) : (s.modLink n f).srcFm a = s.srcFm a := State.srcFm_congr (by simp) (by simp) _
@[simp] theorem State.modLink_classOf (s : State) (n : Nat) (f : Link → Link) (c : Nat) : (s.modLink n f).classOf c = s.classOf c := State.classOf_congr (by simp) _
@[simp] theorem State.modLink_role (s : State) (n : Nat) (f : Link → Link) (n1 : Nat) : (s.modLink n f).role n1 = s.role n1 := State.role_congr (by simp) _

@[simp] theorem State.modLane_reg (s : State) (l : Nat) (f : Lane → Lane) (o : Nat) : (s.modLane l f).reg o = s.reg o := State.reg_congr (by simp) _
@[simp] theorem State.modLane_fld (s : State) (l : Nat) (f : Lane → Lane) (o lo len : Nat) : (s.modLane l f).fld o lo len = s.fld o lo len := State.fld_congr (by simp) _ _ _
@[simp] theorem State.modLane_reg64 (s : State) (l : Nat) (f : Lane → Lane) (o : Nat) : (s.modLane l f).reg64 o = s.reg64 o := State.reg64_congr (by simp) _
@[simp] theorem State.modLane_arrayBit (s : State) (l : Nat) (f : Lane → Lane) (base k : Nat) : (s.modLane l f).arrayBit base k = s.arrayBit base k := State.arrayBit_congr (by simp) _ _
@[simp] theorem State.modLane_link (s : State) (l : Nat) (f : Lane → Lane) (n : Nat) : (s.modLane l f).link n = s.link n := State.link_congr (by simp) _
@[simp] theorem State.modLane_domain (s : State) (l : Nat) (f : Lane → Lane) (k : Nat) : (s.modLane l f).domain k = s.domain k := State.domain_congr (by simp) _
@[simp] theorem State.modLane_running (s : State) (l : Nat) (f : Lane → Lane) : (s.modLane l f).running = s.running := State.running_congr (by simp)
@[simp] theorem State.modLane_nodeId (s : State) (l : Nat) (f : Lane → Lane) : (s.modLane l f).nodeId = s.nodeId := State.nodeId_congr (by simp)
@[simp] theorem State.modLane_now (s : State) (l : Nat) (f : Lane → Lane) : (s.modLane l f).now = s.now := State.now_congr (by simp)
@[simp] theorem State.modLane_isSealed (s : State) (l : Nat) (f : Lane → Lane) : (s.modLane l f).isSealed = s.isSealed := State.isSealed_congr (by simp)
@[simp] theorem State.modLane_plateWord (s : State) (l : Nat) (f : Lane → Lane) (ty k : Nat) : (s.modLane l f).plateWord ty k = s.plateWord ty k := State.plateWord_congr (by simp) _ _
@[simp] theorem State.modLane_policyEntry (s : State) (l : Nat) (f : Lane → Lane) (c : Nat) : (s.modLane l f).policyEntry c = s.policyEntry c := State.policyEntry_congr (by simp) _
@[simp] theorem State.modLane_timer (s : State) (l : Nat) (f : Lane → Lane) (k : Nat) : (s.modLane l f).timer k = s.timer k := State.timer_congr (by simp) _
@[simp] theorem State.modLane_rightsBy (s : State) (l : Nat) (f : Lane → Lane) : (s.modLane l f).rightsBy = s.rightsBy := State.rightsBy_congr (by simp) (by simp)
@[simp] theorem State.modLane_hosts (s : State) (l : Nat) (f : Lane → Lane) : (s.modLane l f).hosts = s.hosts := State.hosts_congr (by simp) (by simp)
@[simp] theorem State.modLane_winFm (s : State) (l : Nat) (f : Lane → Lane) (w : Nat) : (s.modLane l f).winFm w = s.winFm w := State.winFm_congr (by simp) (by simp) _
@[simp] theorem State.modLane_winPresent (s : State) (l : Nat) (f : Lane → Lane) (w : Nat) : (s.modLane l f).winPresent w = s.winPresent w := State.winPresent_congr (by simp) (by simp) _
@[simp] theorem State.modLane_srcFm (s : State) (l : Nat) (f : Lane → Lane) (a : Nat) : (s.modLane l f).srcFm a = s.srcFm a := State.srcFm_congr (by simp) (by simp) _
@[simp] theorem State.modLane_classOf (s : State) (l : Nat) (f : Lane → Lane) (c : Nat) : (s.modLane l f).classOf c = s.classOf c := State.classOf_congr (by simp) _
@[simp] theorem State.modLane_role (s : State) (l : Nat) (f : Lane → Lane) (n : Nat) : (s.modLane l f).role n = s.role n := State.role_congr (by simp) _

@[simp] theorem State.setKpr_reg (s : State) (x : Kpr) (o : Nat) : (s.setKpr x).reg o = s.reg o := State.reg_congr (by simp) _
@[simp] theorem State.setKpr_fld (s : State) (x : Kpr) (o lo len : Nat) : (s.setKpr x).fld o lo len = s.fld o lo len := State.fld_congr (by simp) _ _ _
@[simp] theorem State.setKpr_reg64 (s : State) (x : Kpr) (o : Nat) : (s.setKpr x).reg64 o = s.reg64 o := State.reg64_congr (by simp) _
@[simp] theorem State.setKpr_arrayBit (s : State) (x : Kpr) (base k : Nat) : (s.setKpr x).arrayBit base k = s.arrayBit base k := State.arrayBit_congr (by simp) _ _
@[simp] theorem State.setKpr_lane (s : State) (x : Kpr) (l : Nat) : (s.setKpr x).lane l = s.lane l := State.lane_congr (by simp) _
@[simp] theorem State.setKpr_link (s : State) (x : Kpr) (n : Nat) : (s.setKpr x).link n = s.link n := State.link_congr (by simp) _
@[simp] theorem State.setKpr_now (s : State) (x : Kpr) : (s.setKpr x).now = s.now := State.now_congr (by simp)
@[simp] theorem State.setKpr_isSealed (s : State) (x : Kpr) : (s.setKpr x).isSealed = s.isSealed := State.isSealed_congr (by simp)
@[simp] theorem State.setKpr_plateWord (s : State) (x : Kpr) (ty k : Nat) : (s.setKpr x).plateWord ty k = s.plateWord ty k := State.plateWord_congr (by simp) _ _
@[simp] theorem State.setKpr_policyEntry (s : State) (x : Kpr) (c : Nat) : (s.setKpr x).policyEntry c = s.policyEntry c := State.policyEntry_congr (by simp) _
@[simp] theorem State.setKpr_timer (s : State) (x : Kpr) (k : Nat) : (s.setKpr x).timer k = s.timer k := State.timer_congr (by simp) _
@[simp] theorem State.setKpr_rightsBy (s : State) (x : Kpr) : (s.setKpr x).rightsBy = s.rightsBy := State.rightsBy_congr (by simp) (by simp)
@[simp] theorem State.setKpr_hosts (s : State) (x : Kpr) : (s.setKpr x).hosts = s.hosts := State.hosts_congr (by simp) (by simp)
@[simp] theorem State.setKpr_winFm (s : State) (x : Kpr) (w : Nat) : (s.setKpr x).winFm w = s.winFm w := State.winFm_congr (by simp) (by simp) _
@[simp] theorem State.setKpr_winPresent (s : State) (x : Kpr) (w : Nat) : (s.setKpr x).winPresent w = s.winPresent w := State.winPresent_congr (by simp) (by simp) _
@[simp] theorem State.setKpr_srcFm (s : State) (x : Kpr) (a : Nat) : (s.setKpr x).srcFm a = s.srcFm a := State.srcFm_congr (by simp) (by simp) _
@[simp] theorem State.setKpr_classOf (s : State) (x : Kpr) (c : Nat) : (s.setKpr x).classOf c = s.classOf c := State.classOf_congr (by simp) _
@[simp] theorem State.setKpr_role (s : State) (x : Kpr) (n : Nat) : (s.setKpr x).role n = s.role n := State.role_congr (by simp) _

@[simp] theorem State.answerRead_reg (s : State) (w : Nat) (l : Line) (o : Nat) : (s.answerRead w l).reg o = s.reg o := State.reg_congr (by simp) _
@[simp] theorem State.answerRead_fld (s : State) (w : Nat) (l : Line) (o lo len : Nat) : (s.answerRead w l).fld o lo len = s.fld o lo len := State.fld_congr (by simp) _ _ _
@[simp] theorem State.answerRead_reg64 (s : State) (w : Nat) (l : Line) (o : Nat) : (s.answerRead w l).reg64 o = s.reg64 o := State.reg64_congr (by simp) _
@[simp] theorem State.answerRead_arrayBit (s : State) (w : Nat) (l : Line) (base k : Nat) : (s.answerRead w l).arrayBit base k = s.arrayBit base k := State.arrayBit_congr (by simp) _ _
@[simp] theorem State.answerRead_lane (s : State) (w : Nat) (l : Line) (l1 : Nat) : (s.answerRead w l).lane l1 = s.lane l1 := State.lane_congr (by simp) _
@[simp] theorem State.answerRead_link (s : State) (w : Nat) (l : Line) (n : Nat) : (s.answerRead w l).link n = s.link n := State.link_congr (by simp) _
@[simp] theorem State.answerRead_domain (s : State) (w : Nat) (l : Line) (k : Nat) : (s.answerRead w l).domain k = s.domain k := State.domain_congr (by simp) _
@[simp] theorem State.answerRead_running (s : State) (w : Nat) (l : Line) : (s.answerRead w l).running = s.running := State.running_congr (by simp)
@[simp] theorem State.answerRead_nodeId (s : State) (w : Nat) (l : Line) : (s.answerRead w l).nodeId = s.nodeId := State.nodeId_congr (by simp)
@[simp] theorem State.answerRead_now (s : State) (w : Nat) (l : Line) : (s.answerRead w l).now = s.now := State.now_congr (by simp)
@[simp] theorem State.answerRead_isSealed (s : State) (w : Nat) (l : Line) : (s.answerRead w l).isSealed = s.isSealed := State.isSealed_congr (by simp)
@[simp] theorem State.answerRead_plateWord (s : State) (w : Nat) (l : Line) (ty k : Nat) : (s.answerRead w l).plateWord ty k = s.plateWord ty k := State.plateWord_congr (by simp) _ _
@[simp] theorem State.answerRead_policyEntry (s : State) (w : Nat) (l : Line) (c : Nat) : (s.answerRead w l).policyEntry c = s.policyEntry c := State.policyEntry_congr (by simp) _
@[simp] theorem State.answerRead_timer (s : State) (w : Nat) (l : Line) (k : Nat) : (s.answerRead w l).timer k = s.timer k := State.timer_congr (by simp) _
@[simp] theorem State.answerRead_rightsBy (s : State) (w : Nat) (l : Line) : (s.answerRead w l).rightsBy = s.rightsBy := State.rightsBy_congr (by simp) (by simp)
@[simp] theorem State.answerRead_hosts (s : State) (w : Nat) (l : Line) : (s.answerRead w l).hosts = s.hosts := State.hosts_congr (by simp) (by simp)
@[simp] theorem State.answerRead_winFm (s : State) (w : Nat) (l : Line) (w1 : Nat) : (s.answerRead w l).winFm w1 = s.winFm w1 := State.winFm_congr (by simp) (by simp) _
@[simp] theorem State.answerRead_winPresent (s : State) (w : Nat) (l : Line) (w1 : Nat) : (s.answerRead w l).winPresent w1 = s.winPresent w1 := State.winPresent_congr (by simp) (by simp) _
@[simp] theorem State.answerRead_srcFm (s : State) (w : Nat) (l : Line) (a : Nat) : (s.answerRead w l).srcFm a = s.srcFm a := State.srcFm_congr (by simp) (by simp) _
@[simp] theorem State.answerRead_classOf (s : State) (w : Nat) (l : Line) (c : Nat) : (s.answerRead w l).classOf c = s.classOf c := State.classOf_congr (by simp) _
@[simp] theorem State.answerRead_role (s : State) (w : Nat) (l : Line) (n : Nat) : (s.answerRead w l).role n = s.role n := State.role_congr (by simp) _

@[simp] theorem State.setChan_reg (s : State) (p : Nat) (c : Chan) (o : Nat) : (s.setChan p c).reg o = s.reg o := State.reg_congr (by simp) _
@[simp] theorem State.setChan_fld (s : State) (p : Nat) (c : Chan) (o lo len : Nat) : (s.setChan p c).fld o lo len = s.fld o lo len := State.fld_congr (by simp) _ _ _
@[simp] theorem State.setChan_reg64 (s : State) (p : Nat) (c : Chan) (o : Nat) : (s.setChan p c).reg64 o = s.reg64 o := State.reg64_congr (by simp) _
@[simp] theorem State.setChan_arrayBit (s : State) (p : Nat) (c : Chan) (base k : Nat) : (s.setChan p c).arrayBit base k = s.arrayBit base k := State.arrayBit_congr (by simp) _ _
@[simp] theorem State.setChan_lane (s : State) (p : Nat) (c : Chan) (l : Nat) : (s.setChan p c).lane l = s.lane l := State.lane_congr (by simp) _
@[simp] theorem State.setChan_link (s : State) (p : Nat) (c : Chan) (n : Nat) : (s.setChan p c).link n = s.link n := State.link_congr (by simp) _
@[simp] theorem State.setChan_domain (s : State) (p : Nat) (c : Chan) (k : Nat) : (s.setChan p c).domain k = s.domain k := State.domain_congr (by simp) _
@[simp] theorem State.setChan_running (s : State) (p : Nat) (c : Chan) : (s.setChan p c).running = s.running := State.running_congr (by simp)
@[simp] theorem State.setChan_nodeId (s : State) (p : Nat) (c : Chan) : (s.setChan p c).nodeId = s.nodeId := State.nodeId_congr (by simp)
@[simp] theorem State.setChan_now (s : State) (p : Nat) (c : Chan) : (s.setChan p c).now = s.now := State.now_congr (by simp)
@[simp] theorem State.setChan_isSealed (s : State) (p : Nat) (c : Chan) : (s.setChan p c).isSealed = s.isSealed := State.isSealed_congr (by simp)
@[simp] theorem State.setChan_plateWord (s : State) (p : Nat) (c : Chan) (ty k : Nat) : (s.setChan p c).plateWord ty k = s.plateWord ty k := State.plateWord_congr (by simp) _ _
@[simp] theorem State.setChan_policyEntry (s : State) (p : Nat) (c : Chan) (c1 : Nat) : (s.setChan p c).policyEntry c1 = s.policyEntry c1 := State.policyEntry_congr (by simp) _
@[simp] theorem State.setChan_timer (s : State) (p : Nat) (c : Chan) (k : Nat) : (s.setChan p c).timer k = s.timer k := State.timer_congr (by simp) _
@[simp] theorem State.setChan_rightsBy (s : State) (p : Nat) (c : Chan) : (s.setChan p c).rightsBy = s.rightsBy := State.rightsBy_congr (by simp) (by simp)
@[simp] theorem State.setChan_hosts (s : State) (p : Nat) (c : Chan) : (s.setChan p c).hosts = s.hosts := State.hosts_congr (by simp) (by simp)
@[simp] theorem State.setChan_winFm (s : State) (p : Nat) (c : Chan) (w : Nat) : (s.setChan p c).winFm w = s.winFm w := State.winFm_congr (by simp) (by simp) _
@[simp] theorem State.setChan_winPresent (s : State) (p : Nat) (c : Chan) (w : Nat) : (s.setChan p c).winPresent w = s.winPresent w := State.winPresent_congr (by simp) (by simp) _
@[simp] theorem State.setChan_srcFm (s : State) (p : Nat) (c : Chan) (a : Nat) : (s.setChan p c).srcFm a = s.srcFm a := State.srcFm_congr (by simp) (by simp) _
@[simp] theorem State.setChan_classOf (s : State) (p : Nat) (c : Chan) (c1 : Nat) : (s.setChan p c).classOf c1 = s.classOf c1 := State.classOf_congr (by simp) _
@[simp] theorem State.setChan_role (s : State) (p : Nat) (c : Chan) (n : Nat) : (s.setChan p c).role n = s.role n := State.role_congr (by simp) _

@[simp] theorem State.setCsw_reg (s : State) (x : Csw) (o : Nat) : (s.setCsw x).reg o = s.reg o := State.reg_congr (by simp) _
@[simp] theorem State.setCsw_fld (s : State) (x : Csw) (o lo len : Nat) : (s.setCsw x).fld o lo len = s.fld o lo len := State.fld_congr (by simp) _ _ _
@[simp] theorem State.setCsw_reg64 (s : State) (x : Csw) (o : Nat) : (s.setCsw x).reg64 o = s.reg64 o := State.reg64_congr (by simp) _
@[simp] theorem State.setCsw_arrayBit (s : State) (x : Csw) (base k : Nat) : (s.setCsw x).arrayBit base k = s.arrayBit base k := State.arrayBit_congr (by simp) _ _
@[simp] theorem State.setCsw_lane (s : State) (x : Csw) (l : Nat) : (s.setCsw x).lane l = s.lane l := State.lane_congr (by simp) _
@[simp] theorem State.setCsw_link (s : State) (x : Csw) (n : Nat) : (s.setCsw x).link n = s.link n := State.link_congr (by simp) _
@[simp] theorem State.setCsw_domain (s : State) (x : Csw) (k : Nat) : (s.setCsw x).domain k = s.domain k := State.domain_congr (by simp) _
@[simp] theorem State.setCsw_running (s : State) (x : Csw) : (s.setCsw x).running = s.running := State.running_congr (by simp)
@[simp] theorem State.setCsw_nodeId (s : State) (x : Csw) : (s.setCsw x).nodeId = s.nodeId := State.nodeId_congr (by simp)
@[simp] theorem State.setCsw_now (s : State) (x : Csw) : (s.setCsw x).now = s.now := State.now_congr (by simp)
@[simp] theorem State.setCsw_isSealed (s : State) (x : Csw) : (s.setCsw x).isSealed = s.isSealed := State.isSealed_congr (by simp)
@[simp] theorem State.setCsw_plateWord (s : State) (x : Csw) (ty k : Nat) : (s.setCsw x).plateWord ty k = s.plateWord ty k := State.plateWord_congr (by simp) _ _
@[simp] theorem State.setCsw_policyEntry (s : State) (x : Csw) (c : Nat) : (s.setCsw x).policyEntry c = s.policyEntry c := State.policyEntry_congr (by simp) _
@[simp] theorem State.setCsw_timer (s : State) (x : Csw) (k : Nat) : (s.setCsw x).timer k = s.timer k := State.timer_congr (by simp) _
@[simp] theorem State.setCsw_rightsBy (s : State) (x : Csw) : (s.setCsw x).rightsBy = s.rightsBy := State.rightsBy_congr (by simp) (by simp)
@[simp] theorem State.setCsw_hosts (s : State) (x : Csw) : (s.setCsw x).hosts = s.hosts := State.hosts_congr (by simp) (by simp)
@[simp] theorem State.setCsw_winFm (s : State) (x : Csw) (w : Nat) : (s.setCsw x).winFm w = s.winFm w := State.winFm_congr (by simp) (by simp) _
@[simp] theorem State.setCsw_winPresent (s : State) (x : Csw) (w : Nat) : (s.setCsw x).winPresent w = s.winPresent w := State.winPresent_congr (by simp) (by simp) _
@[simp] theorem State.setCsw_srcFm (s : State) (x : Csw) (a : Nat) : (s.setCsw x).srcFm a = s.srcFm a := State.srcFm_congr (by simp) (by simp) _
@[simp] theorem State.setCsw_classOf (s : State) (x : Csw) (c : Nat) : (s.setCsw x).classOf c = s.classOf c := State.classOf_congr (by simp) _
@[simp] theorem State.setCsw_role (s : State) (x : Csw) (n : Nat) : (s.setCsw x).role n = s.role n := State.role_congr (by simp) _

@[simp] theorem State.setXfr_reg (s : State) (x : Xfr) (o : Nat) : (s.setXfr x).reg o = s.reg o := State.reg_congr (by simp) _
@[simp] theorem State.setXfr_fld (s : State) (x : Xfr) (o lo len : Nat) : (s.setXfr x).fld o lo len = s.fld o lo len := State.fld_congr (by simp) _ _ _
@[simp] theorem State.setXfr_reg64 (s : State) (x : Xfr) (o : Nat) : (s.setXfr x).reg64 o = s.reg64 o := State.reg64_congr (by simp) _
@[simp] theorem State.setXfr_arrayBit (s : State) (x : Xfr) (base k : Nat) : (s.setXfr x).arrayBit base k = s.arrayBit base k := State.arrayBit_congr (by simp) _ _
@[simp] theorem State.setXfr_lane (s : State) (x : Xfr) (l : Nat) : (s.setXfr x).lane l = s.lane l := State.lane_congr (by simp) _
@[simp] theorem State.setXfr_link (s : State) (x : Xfr) (n : Nat) : (s.setXfr x).link n = s.link n := State.link_congr (by simp) _
@[simp] theorem State.setXfr_domain (s : State) (x : Xfr) (k : Nat) : (s.setXfr x).domain k = s.domain k := State.domain_congr (by simp) _
@[simp] theorem State.setXfr_running (s : State) (x : Xfr) : (s.setXfr x).running = s.running := State.running_congr (by simp)
@[simp] theorem State.setXfr_nodeId (s : State) (x : Xfr) : (s.setXfr x).nodeId = s.nodeId := State.nodeId_congr (by simp)
@[simp] theorem State.setXfr_now (s : State) (x : Xfr) : (s.setXfr x).now = s.now := State.now_congr (by simp)
@[simp] theorem State.setXfr_isSealed (s : State) (x : Xfr) : (s.setXfr x).isSealed = s.isSealed := State.isSealed_congr (by simp)
@[simp] theorem State.setXfr_plateWord (s : State) (x : Xfr) (ty k : Nat) : (s.setXfr x).plateWord ty k = s.plateWord ty k := State.plateWord_congr (by simp) _ _
@[simp] theorem State.setXfr_policyEntry (s : State) (x : Xfr) (c : Nat) : (s.setXfr x).policyEntry c = s.policyEntry c := State.policyEntry_congr (by simp) _
@[simp] theorem State.setXfr_timer (s : State) (x : Xfr) (k : Nat) : (s.setXfr x).timer k = s.timer k := State.timer_congr (by simp) _
@[simp] theorem State.setXfr_rightsBy (s : State) (x : Xfr) : (s.setXfr x).rightsBy = s.rightsBy := State.rightsBy_congr (by simp) (by simp)
@[simp] theorem State.setXfr_hosts (s : State) (x : Xfr) : (s.setXfr x).hosts = s.hosts := State.hosts_congr (by simp) (by simp)
@[simp] theorem State.setXfr_winFm (s : State) (x : Xfr) (w : Nat) : (s.setXfr x).winFm w = s.winFm w := State.winFm_congr (by simp) (by simp) _
@[simp] theorem State.setXfr_winPresent (s : State) (x : Xfr) (w : Nat) : (s.setXfr x).winPresent w = s.winPresent w := State.winPresent_congr (by simp) (by simp) _
@[simp] theorem State.setXfr_srcFm (s : State) (x : Xfr) (a : Nat) : (s.setXfr x).srcFm a = s.srcFm a := State.srcFm_congr (by simp) (by simp) _
@[simp] theorem State.setXfr_classOf (s : State) (x : Xfr) (c : Nat) : (s.setXfr x).classOf c = s.classOf c := State.classOf_congr (by simp) _
@[simp] theorem State.setXfr_role (s : State) (x : Xfr) (n : Nat) : (s.setXfr x).role n = s.role n := State.role_congr (by simp) _

@[simp] theorem State.setPrm_reg (s : State) (p : Prm) (o : Nat) : (s.setPrm p).reg o = s.reg o := State.reg_congr (by simp) _
@[simp] theorem State.setPrm_fld (s : State) (p : Prm) (o lo len : Nat) : (s.setPrm p).fld o lo len = s.fld o lo len := State.fld_congr (by simp) _ _ _
@[simp] theorem State.setPrm_reg64 (s : State) (p : Prm) (o : Nat) : (s.setPrm p).reg64 o = s.reg64 o := State.reg64_congr (by simp) _
@[simp] theorem State.setPrm_arrayBit (s : State) (p : Prm) (base k : Nat) : (s.setPrm p).arrayBit base k = s.arrayBit base k := State.arrayBit_congr (by simp) _ _
@[simp] theorem State.setPrm_lane (s : State) (p : Prm) (l : Nat) : (s.setPrm p).lane l = s.lane l := State.lane_congr (by simp) _
@[simp] theorem State.setPrm_link (s : State) (p : Prm) (n : Nat) : (s.setPrm p).link n = s.link n := State.link_congr (by simp) _
@[simp] theorem State.setPrm_domain (s : State) (p : Prm) (k : Nat) : (s.setPrm p).domain k = s.domain k := State.domain_congr (by simp) _
@[simp] theorem State.setPrm_running (s : State) (p : Prm) : (s.setPrm p).running = s.running := State.running_congr (by simp)
@[simp] theorem State.setPrm_nodeId (s : State) (p : Prm) : (s.setPrm p).nodeId = s.nodeId := State.nodeId_congr (by simp)
@[simp] theorem State.setPrm_now (s : State) (p : Prm) : (s.setPrm p).now = s.now := State.now_congr (by simp)
@[simp] theorem State.setPrm_isSealed (s : State) (p : Prm) : (s.setPrm p).isSealed = s.isSealed := State.isSealed_congr (by simp)
@[simp] theorem State.setPrm_plateWord (s : State) (p : Prm) (ty k : Nat) : (s.setPrm p).plateWord ty k = s.plateWord ty k := State.plateWord_congr (by simp) _ _
@[simp] theorem State.setPrm_policyEntry (s : State) (p : Prm) (c : Nat) : (s.setPrm p).policyEntry c = s.policyEntry c := State.policyEntry_congr (by simp) _
@[simp] theorem State.setPrm_timer (s : State) (p : Prm) (k : Nat) : (s.setPrm p).timer k = s.timer k := State.timer_congr (by simp) _
@[simp] theorem State.setPrm_rightsBy (s : State) (p : Prm) : (s.setPrm p).rightsBy = s.rightsBy := State.rightsBy_congr (by simp) (by simp)
@[simp] theorem State.setPrm_hosts (s : State) (p : Prm) : (s.setPrm p).hosts = s.hosts := State.hosts_congr (by simp) (by simp)
@[simp] theorem State.setPrm_winFm (s : State) (p : Prm) (w : Nat) : (s.setPrm p).winFm w = s.winFm w := State.winFm_congr (by simp) (by simp) _
@[simp] theorem State.setPrm_winPresent (s : State) (p : Prm) (w : Nat) : (s.setPrm p).winPresent w = s.winPresent w := State.winPresent_congr (by simp) (by simp) _
@[simp] theorem State.setPrm_srcFm (s : State) (p : Prm) (a : Nat) : (s.setPrm p).srcFm a = s.srcFm a := State.srcFm_congr (by simp) (by simp) _
@[simp] theorem State.setPrm_classOf (s : State) (p : Prm) (c : Nat) : (s.setPrm p).classOf c = s.classOf c := State.classOf_congr (by simp) _
@[simp] theorem State.setPrm_role (s : State) (p : Prm) (n : Nat) : (s.setPrm p).role n = s.role n := State.role_congr (by simp) _

@[simp] theorem State.setCol_reg (s : State) (x : Col) (o : Nat) : (s.setCol x).reg o = s.reg o := State.reg_congr (by simp) _
@[simp] theorem State.setCol_fld (s : State) (x : Col) (o lo len : Nat) : (s.setCol x).fld o lo len = s.fld o lo len := State.fld_congr (by simp) _ _ _
@[simp] theorem State.setCol_reg64 (s : State) (x : Col) (o : Nat) : (s.setCol x).reg64 o = s.reg64 o := State.reg64_congr (by simp) _
@[simp] theorem State.setCol_arrayBit (s : State) (x : Col) (base k : Nat) : (s.setCol x).arrayBit base k = s.arrayBit base k := State.arrayBit_congr (by simp) _ _
@[simp] theorem State.setCol_lane (s : State) (x : Col) (l : Nat) : (s.setCol x).lane l = s.lane l := State.lane_congr (by simp) _
@[simp] theorem State.setCol_link (s : State) (x : Col) (n : Nat) : (s.setCol x).link n = s.link n := State.link_congr (by simp) _
@[simp] theorem State.setCol_domain (s : State) (x : Col) (k : Nat) : (s.setCol x).domain k = s.domain k := State.domain_congr (by simp) _
@[simp] theorem State.setCol_running (s : State) (x : Col) : (s.setCol x).running = s.running := State.running_congr (by simp)
@[simp] theorem State.setCol_nodeId (s : State) (x : Col) : (s.setCol x).nodeId = s.nodeId := State.nodeId_congr (by simp)
@[simp] theorem State.setCol_now (s : State) (x : Col) : (s.setCol x).now = s.now := State.now_congr (by simp)
@[simp] theorem State.setCol_isSealed (s : State) (x : Col) : (s.setCol x).isSealed = s.isSealed := State.isSealed_congr (by simp)
@[simp] theorem State.setCol_plateWord (s : State) (x : Col) (ty k : Nat) : (s.setCol x).plateWord ty k = s.plateWord ty k := State.plateWord_congr (by simp) _ _
@[simp] theorem State.setCol_policyEntry (s : State) (x : Col) (c : Nat) : (s.setCol x).policyEntry c = s.policyEntry c := State.policyEntry_congr (by simp) _
@[simp] theorem State.setCol_timer (s : State) (x : Col) (k : Nat) : (s.setCol x).timer k = s.timer k := State.timer_congr (by simp) _
@[simp] theorem State.setCol_rightsBy (s : State) (x : Col) : (s.setCol x).rightsBy = s.rightsBy := State.rightsBy_congr (by simp) (by simp)
@[simp] theorem State.setCol_hosts (s : State) (x : Col) : (s.setCol x).hosts = s.hosts := State.hosts_congr (by simp) (by simp)
@[simp] theorem State.setCol_winFm (s : State) (x : Col) (w : Nat) : (s.setCol x).winFm w = s.winFm w := State.winFm_congr (by simp) (by simp) _
@[simp] theorem State.setCol_winPresent (s : State) (x : Col) (w : Nat) : (s.setCol x).winPresent w = s.winPresent w := State.winPresent_congr (by simp) (by simp) _
@[simp] theorem State.setCol_srcFm (s : State) (x : Col) (a : Nat) : (s.setCol x).srcFm a = s.srcFm a := State.srcFm_congr (by simp) (by simp) _
@[simp] theorem State.setCol_classOf (s : State) (x : Col) (c : Nat) : (s.setCol x).classOf c = s.classOf c := State.classOf_congr (by simp) _
@[simp] theorem State.setCol_role (s : State) (x : Col) (n : Nat) : (s.setCol x).role n = s.role n := State.role_congr (by simp) _

@[simp] theorem State.setCtx_reg (s : State) (k : Nat) (c : Ctx) (o : Nat) : (s.setCtx k c).reg o = s.reg o := State.reg_congr (by simp) _
@[simp] theorem State.setCtx_fld (s : State) (k : Nat) (c : Ctx) (o lo len : Nat) : (s.setCtx k c).fld o lo len = s.fld o lo len := State.fld_congr (by simp) _ _ _
@[simp] theorem State.setCtx_reg64 (s : State) (k : Nat) (c : Ctx) (o : Nat) : (s.setCtx k c).reg64 o = s.reg64 o := State.reg64_congr (by simp) _
@[simp] theorem State.setCtx_arrayBit (s : State) (k : Nat) (c : Ctx) (base k1 : Nat) : (s.setCtx k c).arrayBit base k1 = s.arrayBit base k1 := State.arrayBit_congr (by simp) _ _
@[simp] theorem State.setCtx_lane (s : State) (k : Nat) (c : Ctx) (l : Nat) : (s.setCtx k c).lane l = s.lane l := State.lane_congr (by simp) _
@[simp] theorem State.setCtx_link (s : State) (k : Nat) (c : Ctx) (n : Nat) : (s.setCtx k c).link n = s.link n := State.link_congr (by simp) _
@[simp] theorem State.setCtx_domain (s : State) (k : Nat) (c : Ctx) (k1 : Nat) : (s.setCtx k c).domain k1 = s.domain k1 := State.domain_congr (by simp) _
@[simp] theorem State.setCtx_running (s : State) (k : Nat) (c : Ctx) : (s.setCtx k c).running = s.running := State.running_congr (by simp)
@[simp] theorem State.setCtx_nodeId (s : State) (k : Nat) (c : Ctx) : (s.setCtx k c).nodeId = s.nodeId := State.nodeId_congr (by simp)
@[simp] theorem State.setCtx_now (s : State) (k : Nat) (c : Ctx) : (s.setCtx k c).now = s.now := State.now_congr (by simp)
@[simp] theorem State.setCtx_isSealed (s : State) (k : Nat) (c : Ctx) : (s.setCtx k c).isSealed = s.isSealed := State.isSealed_congr (by simp)
@[simp] theorem State.setCtx_plateWord (s : State) (k : Nat) (c : Ctx) (ty k1 : Nat) : (s.setCtx k c).plateWord ty k1 = s.plateWord ty k1 := State.plateWord_congr (by simp) _ _
@[simp] theorem State.setCtx_policyEntry (s : State) (k : Nat) (c : Ctx) (c1 : Nat) : (s.setCtx k c).policyEntry c1 = s.policyEntry c1 := State.policyEntry_congr (by simp) _
@[simp] theorem State.setCtx_timer (s : State) (k : Nat) (c : Ctx) (k1 : Nat) : (s.setCtx k c).timer k1 = s.timer k1 := State.timer_congr (by simp) _
@[simp] theorem State.setCtx_rightsBy (s : State) (k : Nat) (c : Ctx) : (s.setCtx k c).rightsBy = s.rightsBy := State.rightsBy_congr (by simp) (by simp)
@[simp] theorem State.setCtx_hosts (s : State) (k : Nat) (c : Ctx) : (s.setCtx k c).hosts = s.hosts := State.hosts_congr (by simp) (by simp)
@[simp] theorem State.setCtx_winFm (s : State) (k : Nat) (c : Ctx) (w : Nat) : (s.setCtx k c).winFm w = s.winFm w := State.winFm_congr (by simp) (by simp) _
@[simp] theorem State.setCtx_winPresent (s : State) (k : Nat) (c : Ctx) (w : Nat) : (s.setCtx k c).winPresent w = s.winPresent w := State.winPresent_congr (by simp) (by simp) _
@[simp] theorem State.setCtx_srcFm (s : State) (k : Nat) (c : Ctx) (a : Nat) : (s.setCtx k c).srcFm a = s.srcFm a := State.srcFm_congr (by simp) (by simp) _
@[simp] theorem State.setCtx_classOf (s : State) (k : Nat) (c : Ctx) (c1 : Nat) : (s.setCtx k c).classOf c1 = s.classOf c1 := State.classOf_congr (by simp) _
@[simp] theorem State.setCtx_role (s : State) (k : Nat) (c : Ctx) (n : Nat) : (s.setCtx k c).role n = s.role n := State.role_congr (by simp) _

@[simp] theorem State.setUpd_reg (s : State) (x : Upd) (o : Nat) : (s.setUpd x).reg o = s.reg o := State.reg_congr (by simp) _
@[simp] theorem State.setUpd_fld (s : State) (x : Upd) (o lo len : Nat) : (s.setUpd x).fld o lo len = s.fld o lo len := State.fld_congr (by simp) _ _ _
@[simp] theorem State.setUpd_reg64 (s : State) (x : Upd) (o : Nat) : (s.setUpd x).reg64 o = s.reg64 o := State.reg64_congr (by simp) _
@[simp] theorem State.setUpd_arrayBit (s : State) (x : Upd) (base k : Nat) : (s.setUpd x).arrayBit base k = s.arrayBit base k := State.arrayBit_congr (by simp) _ _
@[simp] theorem State.setUpd_lane (s : State) (x : Upd) (l : Nat) : (s.setUpd x).lane l = s.lane l := State.lane_congr (by simp) _
@[simp] theorem State.setUpd_link (s : State) (x : Upd) (n : Nat) : (s.setUpd x).link n = s.link n := State.link_congr (by simp) _
@[simp] theorem State.setUpd_domain (s : State) (x : Upd) (k : Nat) : (s.setUpd x).domain k = s.domain k := State.domain_congr (by simp) _
@[simp] theorem State.setUpd_running (s : State) (x : Upd) : (s.setUpd x).running = s.running := State.running_congr (by simp)
@[simp] theorem State.setUpd_nodeId (s : State) (x : Upd) : (s.setUpd x).nodeId = s.nodeId := State.nodeId_congr (by simp)
@[simp] theorem State.setUpd_now (s : State) (x : Upd) : (s.setUpd x).now = s.now := State.now_congr (by simp)
@[simp] theorem State.setUpd_isSealed (s : State) (x : Upd) : (s.setUpd x).isSealed = s.isSealed := State.isSealed_congr (by simp)
@[simp] theorem State.setUpd_plateWord (s : State) (x : Upd) (ty k : Nat) : (s.setUpd x).plateWord ty k = s.plateWord ty k := State.plateWord_congr (by simp) _ _
@[simp] theorem State.setUpd_policyEntry (s : State) (x : Upd) (c : Nat) : (s.setUpd x).policyEntry c = s.policyEntry c := State.policyEntry_congr (by simp) _
@[simp] theorem State.setUpd_timer (s : State) (x : Upd) (k : Nat) : (s.setUpd x).timer k = s.timer k := State.timer_congr (by simp) _
@[simp] theorem State.setUpd_rightsBy (s : State) (x : Upd) : (s.setUpd x).rightsBy = s.rightsBy := State.rightsBy_congr (by simp) (by simp)
@[simp] theorem State.setUpd_hosts (s : State) (x : Upd) : (s.setUpd x).hosts = s.hosts := State.hosts_congr (by simp) (by simp)
@[simp] theorem State.setUpd_winFm (s : State) (x : Upd) (w : Nat) : (s.setUpd x).winFm w = s.winFm w := State.winFm_congr (by simp) (by simp) _
@[simp] theorem State.setUpd_winPresent (s : State) (x : Upd) (w : Nat) : (s.setUpd x).winPresent w = s.winPresent w := State.winPresent_congr (by simp) (by simp) _
@[simp] theorem State.setUpd_srcFm (s : State) (x : Upd) (a : Nat) : (s.setUpd x).srcFm a = s.srcFm a := State.srcFm_congr (by simp) (by simp) _
@[simp] theorem State.setUpd_classOf (s : State) (x : Upd) (c : Nat) : (s.setUpd x).classOf c = s.classOf c := State.classOf_congr (by simp) _
@[simp] theorem State.setUpd_role (s : State) (x : Upd) (n : Nat) : (s.setUpd x).role n = s.role n := State.role_congr (by simp) _

@[simp] theorem State.setCq_reg (s : State) (q : Nat) (c : Cq) (o : Nat) : (s.setCq q c).reg o = s.reg o := State.reg_congr (by simp) _
@[simp] theorem State.setCq_fld (s : State) (q : Nat) (c : Cq) (o lo len : Nat) : (s.setCq q c).fld o lo len = s.fld o lo len := State.fld_congr (by simp) _ _ _
@[simp] theorem State.setCq_reg64 (s : State) (q : Nat) (c : Cq) (o : Nat) : (s.setCq q c).reg64 o = s.reg64 o := State.reg64_congr (by simp) _
@[simp] theorem State.setCq_arrayBit (s : State) (q : Nat) (c : Cq) (base k : Nat) : (s.setCq q c).arrayBit base k = s.arrayBit base k := State.arrayBit_congr (by simp) _ _
@[simp] theorem State.setCq_lane (s : State) (q : Nat) (c : Cq) (l : Nat) : (s.setCq q c).lane l = s.lane l := State.lane_congr (by simp) _
@[simp] theorem State.setCq_link (s : State) (q : Nat) (c : Cq) (n : Nat) : (s.setCq q c).link n = s.link n := State.link_congr (by simp) _
@[simp] theorem State.setCq_domain (s : State) (q : Nat) (c : Cq) (k : Nat) : (s.setCq q c).domain k = s.domain k := State.domain_congr (by simp) _
@[simp] theorem State.setCq_running (s : State) (q : Nat) (c : Cq) : (s.setCq q c).running = s.running := State.running_congr (by simp)
@[simp] theorem State.setCq_nodeId (s : State) (q : Nat) (c : Cq) : (s.setCq q c).nodeId = s.nodeId := State.nodeId_congr (by simp)
@[simp] theorem State.setCq_now (s : State) (q : Nat) (c : Cq) : (s.setCq q c).now = s.now := State.now_congr (by simp)
@[simp] theorem State.setCq_isSealed (s : State) (q : Nat) (c : Cq) : (s.setCq q c).isSealed = s.isSealed := State.isSealed_congr (by simp)
@[simp] theorem State.setCq_plateWord (s : State) (q : Nat) (c : Cq) (ty k : Nat) : (s.setCq q c).plateWord ty k = s.plateWord ty k := State.plateWord_congr (by simp) _ _
@[simp] theorem State.setCq_policyEntry (s : State) (q : Nat) (c : Cq) (c1 : Nat) : (s.setCq q c).policyEntry c1 = s.policyEntry c1 := State.policyEntry_congr (by simp) _
@[simp] theorem State.setCq_timer (s : State) (q : Nat) (c : Cq) (k : Nat) : (s.setCq q c).timer k = s.timer k := State.timer_congr (by simp) _
@[simp] theorem State.setCq_rightsBy (s : State) (q : Nat) (c : Cq) : (s.setCq q c).rightsBy = s.rightsBy := State.rightsBy_congr (by simp) (by simp)
@[simp] theorem State.setCq_hosts (s : State) (q : Nat) (c : Cq) : (s.setCq q c).hosts = s.hosts := State.hosts_congr (by simp) (by simp)
@[simp] theorem State.setCq_winFm (s : State) (q : Nat) (c : Cq) (w : Nat) : (s.setCq q c).winFm w = s.winFm w := State.winFm_congr (by simp) (by simp) _
@[simp] theorem State.setCq_winPresent (s : State) (q : Nat) (c : Cq) (w : Nat) : (s.setCq q c).winPresent w = s.winPresent w := State.winPresent_congr (by simp) (by simp) _
@[simp] theorem State.setCq_srcFm (s : State) (q : Nat) (c : Cq) (a : Nat) : (s.setCq q c).srcFm a = s.srcFm a := State.srcFm_congr (by simp) (by simp) _
@[simp] theorem State.setCq_classOf (s : State) (q : Nat) (c : Cq) (c1 : Nat) : (s.setCq q c).classOf c1 = s.classOf c1 := State.classOf_congr (by simp) _
@[simp] theorem State.setCq_role (s : State) (q : Nat) (c : Cq) (n : Nat) : (s.setCq q c).role n = s.role n := State.role_congr (by simp) _

@[simp] theorem State.setPlt_reg (s : State) (p : Plt) (o : Nat) : (s.setPlt p).reg o = s.reg o := State.reg_congr (by simp) _
@[simp] theorem State.setPlt_fld (s : State) (p : Plt) (o lo len : Nat) : (s.setPlt p).fld o lo len = s.fld o lo len := State.fld_congr (by simp) _ _ _
@[simp] theorem State.setPlt_reg64 (s : State) (p : Plt) (o : Nat) : (s.setPlt p).reg64 o = s.reg64 o := State.reg64_congr (by simp) _
@[simp] theorem State.setPlt_arrayBit (s : State) (p : Plt) (base k : Nat) : (s.setPlt p).arrayBit base k = s.arrayBit base k := State.arrayBit_congr (by simp) _ _
@[simp] theorem State.setPlt_lane (s : State) (p : Plt) (l : Nat) : (s.setPlt p).lane l = s.lane l := State.lane_congr (by simp) _
@[simp] theorem State.setPlt_link (s : State) (p : Plt) (n : Nat) : (s.setPlt p).link n = s.link n := State.link_congr (by simp) _
@[simp] theorem State.setPlt_domain (s : State) (p : Plt) (k : Nat) : (s.setPlt p).domain k = s.domain k := State.domain_congr (by simp) _
@[simp] theorem State.setPlt_running (s : State) (p : Plt) : (s.setPlt p).running = s.running := State.running_congr (by simp)
@[simp] theorem State.setPlt_nodeId (s : State) (p : Plt) : (s.setPlt p).nodeId = s.nodeId := State.nodeId_congr (by simp)
@[simp] theorem State.setPlt_now (s : State) (p : Plt) : (s.setPlt p).now = s.now := State.now_congr (by simp)

@[simp] theorem State.setEru_reg (s : State) (x : Eru) (o : Nat) : (s.setEru x).reg o = s.reg o := State.reg_congr (by simp) _
@[simp] theorem State.setEru_fld (s : State) (x : Eru) (o lo len : Nat) : (s.setEru x).fld o lo len = s.fld o lo len := State.fld_congr (by simp) _ _ _
@[simp] theorem State.setEru_reg64 (s : State) (x : Eru) (o : Nat) : (s.setEru x).reg64 o = s.reg64 o := State.reg64_congr (by simp) _
@[simp] theorem State.setEru_arrayBit (s : State) (x : Eru) (base k : Nat) : (s.setEru x).arrayBit base k = s.arrayBit base k := State.arrayBit_congr (by simp) _ _
@[simp] theorem State.setEru_lane (s : State) (x : Eru) (l : Nat) : (s.setEru x).lane l = s.lane l := State.lane_congr (by simp) _
@[simp] theorem State.setEru_link (s : State) (x : Eru) (n : Nat) : (s.setEru x).link n = s.link n := State.link_congr (by simp) _
@[simp] theorem State.setEru_domain (s : State) (x : Eru) (k : Nat) : (s.setEru x).domain k = s.domain k := State.domain_congr (by simp) _
@[simp] theorem State.setEru_running (s : State) (x : Eru) : (s.setEru x).running = s.running := State.running_congr (by simp)
@[simp] theorem State.setEru_nodeId (s : State) (x : Eru) : (s.setEru x).nodeId = s.nodeId := State.nodeId_congr (by simp)
@[simp] theorem State.setEru_now (s : State) (x : Eru) : (s.setEru x).now = s.now := State.now_congr (by simp)
@[simp] theorem State.setEru_isSealed (s : State) (x : Eru) : (s.setEru x).isSealed = s.isSealed := State.isSealed_congr (by simp)
@[simp] theorem State.setEru_plateWord (s : State) (x : Eru) (ty k : Nat) : (s.setEru x).plateWord ty k = s.plateWord ty k := State.plateWord_congr (by simp) _ _
@[simp] theorem State.setEru_policyEntry (s : State) (x : Eru) (c : Nat) : (s.setEru x).policyEntry c = s.policyEntry c := State.policyEntry_congr (by simp) _
@[simp] theorem State.setEru_timer (s : State) (x : Eru) (k : Nat) : (s.setEru x).timer k = s.timer k := State.timer_congr (by simp) _
@[simp] theorem State.setEru_rightsBy (s : State) (x : Eru) : (s.setEru x).rightsBy = s.rightsBy := State.rightsBy_congr (by simp) (by simp)
@[simp] theorem State.setEru_hosts (s : State) (x : Eru) : (s.setEru x).hosts = s.hosts := State.hosts_congr (by simp) (by simp)
@[simp] theorem State.setEru_winFm (s : State) (x : Eru) (w : Nat) : (s.setEru x).winFm w = s.winFm w := State.winFm_congr (by simp) (by simp) _
@[simp] theorem State.setEru_winPresent (s : State) (x : Eru) (w : Nat) : (s.setEru x).winPresent w = s.winPresent w := State.winPresent_congr (by simp) (by simp) _
@[simp] theorem State.setEru_srcFm (s : State) (x : Eru) (a : Nat) : (s.setEru x).srcFm a = s.srcFm a := State.srcFm_congr (by simp) (by simp) _
@[simp] theorem State.setEru_classOf (s : State) (x : Eru) (c : Nat) : (s.setEru x).classOf c = s.classOf c := State.classOf_congr (by simp) _
@[simp] theorem State.setEru_role (s : State) (x : Eru) (n : Nat) : (s.setEru x).role n = s.role n := State.role_congr (by simp) _

@[simp] theorem State.setCell_reg (s : State) (k : Nat) (x : ASlot) (o : Nat) : (s.setCell k x).reg o = s.reg o := State.reg_congr (by simp) _
@[simp] theorem State.setCell_fld (s : State) (k : Nat) (x : ASlot) (o lo len : Nat) : (s.setCell k x).fld o lo len = s.fld o lo len := State.fld_congr (by simp) _ _ _
@[simp] theorem State.setCell_reg64 (s : State) (k : Nat) (x : ASlot) (o : Nat) : (s.setCell k x).reg64 o = s.reg64 o := State.reg64_congr (by simp) _
@[simp] theorem State.setCell_arrayBit (s : State) (k : Nat) (x : ASlot) (base k1 : Nat) : (s.setCell k x).arrayBit base k1 = s.arrayBit base k1 := State.arrayBit_congr (by simp) _ _
@[simp] theorem State.setCell_lane (s : State) (k : Nat) (x : ASlot) (l : Nat) : (s.setCell k x).lane l = s.lane l := State.lane_congr (by simp) _
@[simp] theorem State.setCell_link (s : State) (k : Nat) (x : ASlot) (n : Nat) : (s.setCell k x).link n = s.link n := State.link_congr (by simp) _
@[simp] theorem State.setCell_domain (s : State) (k : Nat) (x : ASlot) (k1 : Nat) : (s.setCell k x).domain k1 = s.domain k1 := State.domain_congr (by simp) _
@[simp] theorem State.setCell_running (s : State) (k : Nat) (x : ASlot) : (s.setCell k x).running = s.running := State.running_congr (by simp)
@[simp] theorem State.setCell_nodeId (s : State) (k : Nat) (x : ASlot) : (s.setCell k x).nodeId = s.nodeId := State.nodeId_congr (by simp)
@[simp] theorem State.setCell_now (s : State) (k : Nat) (x : ASlot) : (s.setCell k x).now = s.now := State.now_congr (by simp)
@[simp] theorem State.setCell_isSealed (s : State) (k : Nat) (x : ASlot) : (s.setCell k x).isSealed = s.isSealed := State.isSealed_congr (by simp)
@[simp] theorem State.setCell_plateWord (s : State) (k : Nat) (x : ASlot) (ty k1 : Nat) : (s.setCell k x).plateWord ty k1 = s.plateWord ty k1 := State.plateWord_congr (by simp) _ _
@[simp] theorem State.setCell_policyEntry (s : State) (k : Nat) (x : ASlot) (c : Nat) : (s.setCell k x).policyEntry c = s.policyEntry c := State.policyEntry_congr (by simp) _
@[simp] theorem State.setCell_timer (s : State) (k : Nat) (x : ASlot) (k1 : Nat) : (s.setCell k x).timer k1 = s.timer k1 := State.timer_congr (by simp) _
@[simp] theorem State.setCell_rightsBy (s : State) (k : Nat) (x : ASlot) : (s.setCell k x).rightsBy = s.rightsBy := State.rightsBy_congr (by simp) (by simp)
@[simp] theorem State.setCell_hosts (s : State) (k : Nat) (x : ASlot) : (s.setCell k x).hosts = s.hosts := State.hosts_congr (by simp) (by simp)
@[simp] theorem State.setCell_winFm (s : State) (k : Nat) (x : ASlot) (w : Nat) : (s.setCell k x).winFm w = s.winFm w := State.winFm_congr (by simp) (by simp) _
@[simp] theorem State.setCell_winPresent (s : State) (k : Nat) (x : ASlot) (w : Nat) : (s.setCell k x).winPresent w = s.winPresent w := State.winPresent_congr (by simp) (by simp) _
@[simp] theorem State.setCell_srcFm (s : State) (k : Nat) (x : ASlot) (a : Nat) : (s.setCell k x).srcFm a = s.srcFm a := State.srcFm_congr (by simp) (by simp) _
@[simp] theorem State.setCell_classOf (s : State) (k : Nat) (x : ASlot) (c : Nat) : (s.setCell k x).classOf c = s.classOf c := State.classOf_congr (by simp) _
@[simp] theorem State.setCell_role (s : State) (k : Nat) (x : ASlot) (n : Nat) : (s.setCell k x).role n = s.role n := State.role_congr (by simp) _

@[simp] theorem State.setIntm_reg (s : State) (x : Intm) (o : Nat) : (s.setIntm x).reg o = s.reg o := State.reg_congr (by simp) _
@[simp] theorem State.setIntm_fld (s : State) (x : Intm) (o lo len : Nat) : (s.setIntm x).fld o lo len = s.fld o lo len := State.fld_congr (by simp) _ _ _
@[simp] theorem State.setIntm_reg64 (s : State) (x : Intm) (o : Nat) : (s.setIntm x).reg64 o = s.reg64 o := State.reg64_congr (by simp) _
@[simp] theorem State.setIntm_arrayBit (s : State) (x : Intm) (base k : Nat) : (s.setIntm x).arrayBit base k = s.arrayBit base k := State.arrayBit_congr (by simp) _ _
@[simp] theorem State.setIntm_lane (s : State) (x : Intm) (l : Nat) : (s.setIntm x).lane l = s.lane l := State.lane_congr (by simp) _
@[simp] theorem State.setIntm_link (s : State) (x : Intm) (n : Nat) : (s.setIntm x).link n = s.link n := State.link_congr (by simp) _
@[simp] theorem State.setIntm_domain (s : State) (x : Intm) (k : Nat) : (s.setIntm x).domain k = s.domain k := State.domain_congr (by simp) _
@[simp] theorem State.setIntm_running (s : State) (x : Intm) : (s.setIntm x).running = s.running := State.running_congr (by simp)
@[simp] theorem State.setIntm_nodeId (s : State) (x : Intm) : (s.setIntm x).nodeId = s.nodeId := State.nodeId_congr (by simp)
@[simp] theorem State.setIntm_now (s : State) (x : Intm) : (s.setIntm x).now = s.now := State.now_congr (by simp)
@[simp] theorem State.setIntm_isSealed (s : State) (x : Intm) : (s.setIntm x).isSealed = s.isSealed := State.isSealed_congr (by simp)
@[simp] theorem State.setIntm_plateWord (s : State) (x : Intm) (ty k : Nat) : (s.setIntm x).plateWord ty k = s.plateWord ty k := State.plateWord_congr (by simp) _ _
@[simp] theorem State.setIntm_policyEntry (s : State) (x : Intm) (c : Nat) : (s.setIntm x).policyEntry c = s.policyEntry c := State.policyEntry_congr (by simp) _
@[simp] theorem State.setIntm_timer (s : State) (x : Intm) (k : Nat) : (s.setIntm x).timer k = s.timer k := State.timer_congr (by simp) _
@[simp] theorem State.setIntm_rightsBy (s : State) (x : Intm) : (s.setIntm x).rightsBy = s.rightsBy := State.rightsBy_congr (by simp) (by simp)
@[simp] theorem State.setIntm_hosts (s : State) (x : Intm) : (s.setIntm x).hosts = s.hosts := State.hosts_congr (by simp) (by simp)
@[simp] theorem State.setIntm_winFm (s : State) (x : Intm) (w : Nat) : (s.setIntm x).winFm w = s.winFm w := State.winFm_congr (by simp) (by simp) _
@[simp] theorem State.setIntm_winPresent (s : State) (x : Intm) (w : Nat) : (s.setIntm x).winPresent w = s.winPresent w := State.winPresent_congr (by simp) (by simp) _
@[simp] theorem State.setIntm_srcFm (s : State) (x : Intm) (a : Nat) : (s.setIntm x).srcFm a = s.srcFm a := State.srcFm_congr (by simp) (by simp) _
@[simp] theorem State.setIntm_classOf (s : State) (x : Intm) (c : Nat) : (s.setIntm x).classOf c = s.classOf c := State.classOf_congr (by simp) _
@[simp] theorem State.setIntm_role (s : State) (x : Intm) (n : Nat) : (s.setIntm x).role n = s.role n := State.role_congr (by simp) _

@[simp] theorem State.setWaitingAt_reg (s : State) (k : Nat) (l : List Queued) (o : Nat) : (s.setWaitingAt k l).reg o = s.reg o := State.reg_congr (by simp) _
@[simp] theorem State.setWaitingAt_fld (s : State) (k : Nat) (l : List Queued) (o lo len : Nat) : (s.setWaitingAt k l).fld o lo len = s.fld o lo len := State.fld_congr (by simp) _ _ _
@[simp] theorem State.setWaitingAt_reg64 (s : State) (k : Nat) (l : List Queued) (o : Nat) : (s.setWaitingAt k l).reg64 o = s.reg64 o := State.reg64_congr (by simp) _
@[simp] theorem State.setWaitingAt_arrayBit (s : State) (k : Nat) (l : List Queued) (base k1 : Nat) : (s.setWaitingAt k l).arrayBit base k1 = s.arrayBit base k1 := State.arrayBit_congr (by simp) _ _
@[simp] theorem State.setWaitingAt_lane (s : State) (k : Nat) (l : List Queued) (l1 : Nat) : (s.setWaitingAt k l).lane l1 = s.lane l1 := State.lane_congr (by simp) _
@[simp] theorem State.setWaitingAt_link (s : State) (k : Nat) (l : List Queued) (n : Nat) : (s.setWaitingAt k l).link n = s.link n := State.link_congr (by simp) _
@[simp] theorem State.setWaitingAt_domain (s : State) (k : Nat) (l : List Queued) (k1 : Nat) : (s.setWaitingAt k l).domain k1 = s.domain k1 := State.domain_congr (by simp) _
@[simp] theorem State.setWaitingAt_running (s : State) (k : Nat) (l : List Queued) : (s.setWaitingAt k l).running = s.running := State.running_congr (by simp)
@[simp] theorem State.setWaitingAt_nodeId (s : State) (k : Nat) (l : List Queued) : (s.setWaitingAt k l).nodeId = s.nodeId := State.nodeId_congr (by simp)
@[simp] theorem State.setWaitingAt_now (s : State) (k : Nat) (l : List Queued) : (s.setWaitingAt k l).now = s.now := State.now_congr (by simp)
@[simp] theorem State.setWaitingAt_isSealed (s : State) (k : Nat) (l : List Queued) : (s.setWaitingAt k l).isSealed = s.isSealed := State.isSealed_congr (by simp)
@[simp] theorem State.setWaitingAt_plateWord (s : State) (k : Nat) (l : List Queued) (ty k1 : Nat) : (s.setWaitingAt k l).plateWord ty k1 = s.plateWord ty k1 := State.plateWord_congr (by simp) _ _
@[simp] theorem State.setWaitingAt_policyEntry (s : State) (k : Nat) (l : List Queued) (c : Nat) : (s.setWaitingAt k l).policyEntry c = s.policyEntry c := State.policyEntry_congr (by simp) _
@[simp] theorem State.setWaitingAt_timer (s : State) (k : Nat) (l : List Queued) (k1 : Nat) : (s.setWaitingAt k l).timer k1 = s.timer k1 := State.timer_congr (by simp) _
@[simp] theorem State.setWaitingAt_rightsBy (s : State) (k : Nat) (l : List Queued) : (s.setWaitingAt k l).rightsBy = s.rightsBy := State.rightsBy_congr (by simp) (by simp)
@[simp] theorem State.setWaitingAt_hosts (s : State) (k : Nat) (l : List Queued) : (s.setWaitingAt k l).hosts = s.hosts := State.hosts_congr (by simp) (by simp)
@[simp] theorem State.setWaitingAt_winFm (s : State) (k : Nat) (l : List Queued) (w : Nat) : (s.setWaitingAt k l).winFm w = s.winFm w := State.winFm_congr (by simp) (by simp) _
@[simp] theorem State.setWaitingAt_winPresent (s : State) (k : Nat) (l : List Queued) (w : Nat) : (s.setWaitingAt k l).winPresent w = s.winPresent w := State.winPresent_congr (by simp) (by simp) _
@[simp] theorem State.setWaitingAt_srcFm (s : State) (k : Nat) (l : List Queued) (a : Nat) : (s.setWaitingAt k l).srcFm a = s.srcFm a := State.srcFm_congr (by simp) (by simp) _
@[simp] theorem State.setWaitingAt_classOf (s : State) (k : Nat) (l : List Queued) (c : Nat) : (s.setWaitingAt k l).classOf c = s.classOf c := State.classOf_congr (by simp) _
@[simp] theorem State.setWaitingAt_role (s : State) (k : Nat) (l : List Queued) (n : Nat) : (s.setWaitingAt k l).role n = s.role n := State.role_congr (by simp) _

@[simp] theorem State.setScript_reg (s : State) (x : Script) (o : Nat) : (s.setScript x).reg o = s.reg o := State.reg_congr (by simp) _
@[simp] theorem State.setScript_fld (s : State) (x : Script) (o lo len : Nat) : (s.setScript x).fld o lo len = s.fld o lo len := State.fld_congr (by simp) _ _ _
@[simp] theorem State.setScript_reg64 (s : State) (x : Script) (o : Nat) : (s.setScript x).reg64 o = s.reg64 o := State.reg64_congr (by simp) _
@[simp] theorem State.setScript_arrayBit (s : State) (x : Script) (base k : Nat) : (s.setScript x).arrayBit base k = s.arrayBit base k := State.arrayBit_congr (by simp) _ _
@[simp] theorem State.setScript_lane (s : State) (x : Script) (l : Nat) : (s.setScript x).lane l = s.lane l := State.lane_congr (by simp) _
@[simp] theorem State.setScript_link (s : State) (x : Script) (n : Nat) : (s.setScript x).link n = s.link n := State.link_congr (by simp) _
@[simp] theorem State.setScript_domain (s : State) (x : Script) (k : Nat) : (s.setScript x).domain k = s.domain k := State.domain_congr (by simp) _
@[simp] theorem State.setScript_running (s : State) (x : Script) : (s.setScript x).running = s.running := State.running_congr (by simp)
@[simp] theorem State.setScript_nodeId (s : State) (x : Script) : (s.setScript x).nodeId = s.nodeId := State.nodeId_congr (by simp)
@[simp] theorem State.setScript_now (s : State) (x : Script) : (s.setScript x).now = s.now := State.now_congr (by simp)
@[simp] theorem State.setScript_isSealed (s : State) (x : Script) : (s.setScript x).isSealed = s.isSealed := State.isSealed_congr (by simp)
@[simp] theorem State.setScript_plateWord (s : State) (x : Script) (ty k : Nat) : (s.setScript x).plateWord ty k = s.plateWord ty k := State.plateWord_congr (by simp) _ _
@[simp] theorem State.setScript_policyEntry (s : State) (x : Script) (c : Nat) : (s.setScript x).policyEntry c = s.policyEntry c := State.policyEntry_congr (by simp) _
@[simp] theorem State.setScript_timer (s : State) (x : Script) (k : Nat) : (s.setScript x).timer k = s.timer k := State.timer_congr (by simp) _
@[simp] theorem State.setScript_rightsBy (s : State) (x : Script) : (s.setScript x).rightsBy = s.rightsBy := State.rightsBy_congr (by simp) (by simp)
@[simp] theorem State.setScript_hosts (s : State) (x : Script) : (s.setScript x).hosts = s.hosts := State.hosts_congr (by simp) (by simp)
@[simp] theorem State.setScript_winFm (s : State) (x : Script) (w : Nat) : (s.setScript x).winFm w = s.winFm w := State.winFm_congr (by simp) (by simp) _
@[simp] theorem State.setScript_winPresent (s : State) (x : Script) (w : Nat) : (s.setScript x).winPresent w = s.winPresent w := State.winPresent_congr (by simp) (by simp) _
@[simp] theorem State.setScript_srcFm (s : State) (x : Script) (a : Nat) : (s.setScript x).srcFm a = s.srcFm a := State.srcFm_congr (by simp) (by simp) _
@[simp] theorem State.setScript_classOf (s : State) (x : Script) (c : Nat) : (s.setScript x).classOf c = s.classOf c := State.classOf_congr (by simp) _
@[simp] theorem State.setScript_role (s : State) (x : Script) (n : Nat) : (s.setScript x).role n = s.role n := State.role_congr (by simp) _

@[simp] theorem State.setSec_reg (s : State) (x : Sec) (o : Nat) : (s.setSec x).reg o = s.reg o := State.reg_congr (by simp) _
@[simp] theorem State.setSec_fld (s : State) (x : Sec) (o lo len : Nat) : (s.setSec x).fld o lo len = s.fld o lo len := State.fld_congr (by simp) _ _ _
@[simp] theorem State.setSec_reg64 (s : State) (x : Sec) (o : Nat) : (s.setSec x).reg64 o = s.reg64 o := State.reg64_congr (by simp) _
@[simp] theorem State.setSec_arrayBit (s : State) (x : Sec) (base k : Nat) : (s.setSec x).arrayBit base k = s.arrayBit base k := State.arrayBit_congr (by simp) _ _
@[simp] theorem State.setSec_lane (s : State) (x : Sec) (l : Nat) : (s.setSec x).lane l = s.lane l := State.lane_congr (by simp) _
@[simp] theorem State.setSec_link (s : State) (x : Sec) (n : Nat) : (s.setSec x).link n = s.link n := State.link_congr (by simp) _
@[simp] theorem State.setSec_domain (s : State) (x : Sec) (k : Nat) : (s.setSec x).domain k = s.domain k := State.domain_congr (by simp) _
@[simp] theorem State.setSec_running (s : State) (x : Sec) : (s.setSec x).running = s.running := State.running_congr (by simp)
@[simp] theorem State.setSec_nodeId (s : State) (x : Sec) : (s.setSec x).nodeId = s.nodeId := State.nodeId_congr (by simp)
@[simp] theorem State.setSec_now (s : State) (x : Sec) : (s.setSec x).now = s.now := State.now_congr (by simp)
@[simp] theorem State.setSec_isSealed (s : State) (x : Sec) : (s.setSec x).isSealed = s.isSealed := State.isSealed_congr (by simp)
@[simp] theorem State.setSec_plateWord (s : State) (x : Sec) (ty k : Nat) : (s.setSec x).plateWord ty k = s.plateWord ty k := State.plateWord_congr (by simp) _ _
@[simp] theorem State.setSec_policyEntry (s : State) (x : Sec) (c : Nat) : (s.setSec x).policyEntry c = s.policyEntry c := State.policyEntry_congr (by simp) _
@[simp] theorem State.setSec_timer (s : State) (x : Sec) (k : Nat) : (s.setSec x).timer k = s.timer k := State.timer_congr (by simp) _
@[simp] theorem State.setSec_rightsBy (s : State) (x : Sec) : (s.setSec x).rightsBy = s.rightsBy := State.rightsBy_congr (by simp) (by simp)
@[simp] theorem State.setSec_hosts (s : State) (x : Sec) : (s.setSec x).hosts = s.hosts := State.hosts_congr (by simp) (by simp)
@[simp] theorem State.setSec_winFm (s : State) (x : Sec) (w : Nat) : (s.setSec x).winFm w = s.winFm w := State.winFm_congr (by simp) (by simp) _
@[simp] theorem State.setSec_winPresent (s : State) (x : Sec) (w : Nat) : (s.setSec x).winPresent w = s.winPresent w := State.winPresent_congr (by simp) (by simp) _
@[simp] theorem State.setSec_srcFm (s : State) (x : Sec) (a : Nat) : (s.setSec x).srcFm a = s.srcFm a := State.srcFm_congr (by simp) (by simp) _
@[simp] theorem State.setSec_classOf (s : State) (x : Sec) (c : Nat) : (s.setSec x).classOf c = s.classOf c := State.classOf_congr (by simp) _
@[simp] theorem State.setSec_role (s : State) (x : Sec) (n : Nat) : (s.setSec x).role n = s.role n := State.role_congr (by simp) _

@[simp] theorem State.drew_reg (s : State) (o : Nat) : (s.drew).reg o = s.reg o := State.reg_congr (by simp) _
@[simp] theorem State.drew_fld (s : State) (o lo len : Nat) : (s.drew).fld o lo len = s.fld o lo len := State.fld_congr (by simp) _ _ _
@[simp] theorem State.drew_reg64 (s : State) (o : Nat) : (s.drew).reg64 o = s.reg64 o := State.reg64_congr (by simp) _
@[simp] theorem State.drew_arrayBit (s : State) (base k : Nat) : (s.drew).arrayBit base k = s.arrayBit base k := State.arrayBit_congr (by simp) _ _
@[simp] theorem State.drew_lane (s : State) (l : Nat) : (s.drew).lane l = s.lane l := State.lane_congr (by simp) _
@[simp] theorem State.drew_link (s : State) (n : Nat) : (s.drew).link n = s.link n := State.link_congr (by simp) _
@[simp] theorem State.drew_domain (s : State) (k : Nat) : (s.drew).domain k = s.domain k := State.domain_congr (by simp) _
@[simp] theorem State.drew_running (s : State) : (s.drew).running = s.running := State.running_congr (by simp)
@[simp] theorem State.drew_nodeId (s : State) : (s.drew).nodeId = s.nodeId := State.nodeId_congr (by simp)
@[simp] theorem State.drew_now (s : State) : (s.drew).now = s.now := State.now_congr (by simp)
@[simp] theorem State.drew_isSealed (s : State) : (s.drew).isSealed = s.isSealed := State.isSealed_congr (by simp)
@[simp] theorem State.drew_plateWord (s : State) (ty k : Nat) : (s.drew).plateWord ty k = s.plateWord ty k := State.plateWord_congr (by simp) _ _
@[simp] theorem State.drew_policyEntry (s : State) (c : Nat) : (s.drew).policyEntry c = s.policyEntry c := State.policyEntry_congr (by simp) _
@[simp] theorem State.drew_timer (s : State) (k : Nat) : (s.drew).timer k = s.timer k := State.timer_congr (by simp) _
@[simp] theorem State.drew_rightsBy (s : State) : (s.drew).rightsBy = s.rightsBy := State.rightsBy_congr (by simp) (by simp)
@[simp] theorem State.drew_hosts (s : State) : (s.drew).hosts = s.hosts := State.hosts_congr (by simp) (by simp)
@[simp] theorem State.drew_winFm (s : State) (w : Nat) : (s.drew).winFm w = s.winFm w := State.winFm_congr (by simp) (by simp) _
@[simp] theorem State.drew_winPresent (s : State) (w : Nat) : (s.drew).winPresent w = s.winPresent w := State.winPresent_congr (by simp) (by simp) _
@[simp] theorem State.drew_srcFm (s : State) (a : Nat) : (s.drew).srcFm a = s.srcFm a := State.srcFm_congr (by simp) (by simp) _
@[simp] theorem State.drew_classOf (s : State) (c : Nat) : (s.drew).classOf c = s.classOf c := State.classOf_congr (by simp) _
@[simp] theorem State.drew_role (s : State) (n : Nat) : (s.drew).role n = s.role n := State.role_congr (by simp) _

@[simp] theorem State.setRawLine_reg (s : State) (key : Nat) (l : Line) (o : Nat) : (s.setRawLine key l).reg o = s.reg o := State.reg_congr (by simp) _
@[simp] theorem State.setRawLine_fld (s : State) (key : Nat) (l : Line) (o lo len : Nat) : (s.setRawLine key l).fld o lo len = s.fld o lo len := State.fld_congr (by simp) _ _ _
@[simp] theorem State.setRawLine_reg64 (s : State) (key : Nat) (l : Line) (o : Nat) : (s.setRawLine key l).reg64 o = s.reg64 o := State.reg64_congr (by simp) _
@[simp] theorem State.setRawLine_arrayBit (s : State) (key : Nat) (l : Line) (base k : Nat) : (s.setRawLine key l).arrayBit base k = s.arrayBit base k := State.arrayBit_congr (by simp) _ _
@[simp] theorem State.setRawLine_lane (s : State) (key : Nat) (l : Line) (l1 : Nat) : (s.setRawLine key l).lane l1 = s.lane l1 := State.lane_congr (by simp) _
@[simp] theorem State.setRawLine_link (s : State) (key : Nat) (l : Line) (n : Nat) : (s.setRawLine key l).link n = s.link n := State.link_congr (by simp) _
@[simp] theorem State.setRawLine_domain (s : State) (key : Nat) (l : Line) (k : Nat) : (s.setRawLine key l).domain k = s.domain k := State.domain_congr (by simp) _
@[simp] theorem State.setRawLine_running (s : State) (key : Nat) (l : Line) : (s.setRawLine key l).running = s.running := State.running_congr (by simp)
@[simp] theorem State.setRawLine_nodeId (s : State) (key : Nat) (l : Line) : (s.setRawLine key l).nodeId = s.nodeId := State.nodeId_congr (by simp)
@[simp] theorem State.setRawLine_now (s : State) (key : Nat) (l : Line) : (s.setRawLine key l).now = s.now := State.now_congr (by simp)
@[simp] theorem State.setRawLine_isSealed (s : State) (key : Nat) (l : Line) : (s.setRawLine key l).isSealed = s.isSealed := State.isSealed_congr (by simp)
@[simp] theorem State.setRawLine_plateWord (s : State) (key : Nat) (l : Line) (ty k : Nat) : (s.setRawLine key l).plateWord ty k = s.plateWord ty k := State.plateWord_congr (by simp) _ _
@[simp] theorem State.setRawLine_policyEntry (s : State) (key : Nat) (l : Line) (c : Nat) : (s.setRawLine key l).policyEntry c = s.policyEntry c := State.policyEntry_congr (by simp) _
@[simp] theorem State.setRawLine_timer (s : State) (key : Nat) (l : Line) (k : Nat) : (s.setRawLine key l).timer k = s.timer k := State.timer_congr (by simp) _
@[simp] theorem State.setRawLine_rightsBy (s : State) (key : Nat) (l : Line) : (s.setRawLine key l).rightsBy = s.rightsBy := State.rightsBy_congr (by simp) (by simp)
@[simp] theorem State.setRawLine_hosts (s : State) (key : Nat) (l : Line) : (s.setRawLine key l).hosts = s.hosts := State.hosts_congr (by simp) (by simp)
@[simp] theorem State.setRawLine_winFm (s : State) (key : Nat) (l : Line) (w : Nat) : (s.setRawLine key l).winFm w = s.winFm w := State.winFm_congr (by simp) (by simp) _
@[simp] theorem State.setRawLine_winPresent (s : State) (key : Nat) (l : Line) (w : Nat) : (s.setRawLine key l).winPresent w = s.winPresent w := State.winPresent_congr (by simp) (by simp) _
@[simp] theorem State.setRawLine_srcFm (s : State) (key : Nat) (l : Line) (a : Nat) : (s.setRawLine key l).srcFm a = s.srcFm a := State.srcFm_congr (by simp) (by simp) _
@[simp] theorem State.setRawLine_classOf (s : State) (key : Nat) (l : Line) (c : Nat) : (s.setRawLine key l).classOf c = s.classOf c := State.classOf_congr (by simp) _
@[simp] theorem State.setRawLine_role (s : State) (key : Nat) (l : Line) (n : Nat) : (s.setRawLine key l).role n = s.role n := State.role_congr (by simp) _

@[simp] theorem State.setPoison_reg (s : State) (key : Nat) (b : Bool) (o : Nat) : (s.setPoison key b).reg o = s.reg o := State.reg_congr (by simp) _
@[simp] theorem State.setPoison_fld (s : State) (key : Nat) (b : Bool) (o lo len : Nat) : (s.setPoison key b).fld o lo len = s.fld o lo len := State.fld_congr (by simp) _ _ _
@[simp] theorem State.setPoison_reg64 (s : State) (key : Nat) (b : Bool) (o : Nat) : (s.setPoison key b).reg64 o = s.reg64 o := State.reg64_congr (by simp) _
@[simp] theorem State.setPoison_arrayBit (s : State) (key : Nat) (b : Bool) (base k : Nat) : (s.setPoison key b).arrayBit base k = s.arrayBit base k := State.arrayBit_congr (by simp) _ _
@[simp] theorem State.setPoison_lane (s : State) (key : Nat) (b : Bool) (l : Nat) : (s.setPoison key b).lane l = s.lane l := State.lane_congr (by simp) _
@[simp] theorem State.setPoison_link (s : State) (key : Nat) (b : Bool) (n : Nat) : (s.setPoison key b).link n = s.link n := State.link_congr (by simp) _
@[simp] theorem State.setPoison_domain (s : State) (key : Nat) (b : Bool) (k : Nat) : (s.setPoison key b).domain k = s.domain k := State.domain_congr (by simp) _
@[simp] theorem State.setPoison_running (s : State) (key : Nat) (b : Bool) : (s.setPoison key b).running = s.running := State.running_congr (by simp)
@[simp] theorem State.setPoison_nodeId (s : State) (key : Nat) (b : Bool) : (s.setPoison key b).nodeId = s.nodeId := State.nodeId_congr (by simp)
@[simp] theorem State.setPoison_now (s : State) (key : Nat) (b : Bool) : (s.setPoison key b).now = s.now := State.now_congr (by simp)
@[simp] theorem State.setPoison_isSealed (s : State) (key : Nat) (b : Bool) : (s.setPoison key b).isSealed = s.isSealed := State.isSealed_congr (by simp)
@[simp] theorem State.setPoison_plateWord (s : State) (key : Nat) (b : Bool) (ty k : Nat) : (s.setPoison key b).plateWord ty k = s.plateWord ty k := State.plateWord_congr (by simp) _ _
@[simp] theorem State.setPoison_policyEntry (s : State) (key : Nat) (b : Bool) (c : Nat) : (s.setPoison key b).policyEntry c = s.policyEntry c := State.policyEntry_congr (by simp) _
@[simp] theorem State.setPoison_timer (s : State) (key : Nat) (b : Bool) (k : Nat) : (s.setPoison key b).timer k = s.timer k := State.timer_congr (by simp) _
@[simp] theorem State.setPoison_rightsBy (s : State) (key : Nat) (b : Bool) : (s.setPoison key b).rightsBy = s.rightsBy := State.rightsBy_congr (by simp) (by simp)
@[simp] theorem State.setPoison_hosts (s : State) (key : Nat) (b : Bool) : (s.setPoison key b).hosts = s.hosts := State.hosts_congr (by simp) (by simp)
@[simp] theorem State.setPoison_winFm (s : State) (key : Nat) (b : Bool) (w : Nat) : (s.setPoison key b).winFm w = s.winFm w := State.winFm_congr (by simp) (by simp) _
@[simp] theorem State.setPoison_winPresent (s : State) (key : Nat) (b : Bool) (w : Nat) : (s.setPoison key b).winPresent w = s.winPresent w := State.winPresent_congr (by simp) (by simp) _
@[simp] theorem State.setPoison_srcFm (s : State) (key : Nat) (b : Bool) (a : Nat) : (s.setPoison key b).srcFm a = s.srcFm a := State.srcFm_congr (by simp) (by simp) _
@[simp] theorem State.setPoison_classOf (s : State) (key : Nat) (b : Bool) (c : Nat) : (s.setPoison key b).classOf c = s.classOf c := State.classOf_congr (by simp) _
@[simp] theorem State.setPoison_role (s : State) (key : Nat) (b : Bool) (n : Nat) : (s.setPoison key b).role n = s.role n := State.role_congr (by simp) _

@[simp] theorem State.setRflow_reg (s : State) (n : Nat) (f : RFlow) (o : Nat) : (s.setRflow n f).reg o = s.reg o := State.reg_congr (by simp) _
@[simp] theorem State.setRflow_fld (s : State) (n : Nat) (f : RFlow) (o lo len : Nat) : (s.setRflow n f).fld o lo len = s.fld o lo len := State.fld_congr (by simp) _ _ _
@[simp] theorem State.setRflow_reg64 (s : State) (n : Nat) (f : RFlow) (o : Nat) : (s.setRflow n f).reg64 o = s.reg64 o := State.reg64_congr (by simp) _
@[simp] theorem State.setRflow_arrayBit (s : State) (n : Nat) (f : RFlow) (base k : Nat) : (s.setRflow n f).arrayBit base k = s.arrayBit base k := State.arrayBit_congr (by simp) _ _
@[simp] theorem State.setRflow_lane (s : State) (n : Nat) (f : RFlow) (l : Nat) : (s.setRflow n f).lane l = s.lane l := State.lane_congr (by simp) _
@[simp] theorem State.setRflow_link (s : State) (n : Nat) (f : RFlow) (n1 : Nat) : (s.setRflow n f).link n1 = s.link n1 := State.link_congr (by simp) _
@[simp] theorem State.setRflow_domain (s : State) (n : Nat) (f : RFlow) (k : Nat) : (s.setRflow n f).domain k = s.domain k := State.domain_congr (by simp) _
@[simp] theorem State.setRflow_running (s : State) (n : Nat) (f : RFlow) : (s.setRflow n f).running = s.running := State.running_congr (by simp)
@[simp] theorem State.setRflow_nodeId (s : State) (n : Nat) (f : RFlow) : (s.setRflow n f).nodeId = s.nodeId := State.nodeId_congr (by simp)
@[simp] theorem State.setRflow_now (s : State) (n : Nat) (f : RFlow) : (s.setRflow n f).now = s.now := State.now_congr (by simp)
@[simp] theorem State.setRflow_isSealed (s : State) (n : Nat) (f : RFlow) : (s.setRflow n f).isSealed = s.isSealed := State.isSealed_congr (by simp)
@[simp] theorem State.setRflow_plateWord (s : State) (n : Nat) (f : RFlow) (ty k : Nat) : (s.setRflow n f).plateWord ty k = s.plateWord ty k := State.plateWord_congr (by simp) _ _
@[simp] theorem State.setRflow_policyEntry (s : State) (n : Nat) (f : RFlow) (c : Nat) : (s.setRflow n f).policyEntry c = s.policyEntry c := State.policyEntry_congr (by simp) _
@[simp] theorem State.setRflow_timer (s : State) (n : Nat) (f : RFlow) (k : Nat) : (s.setRflow n f).timer k = s.timer k := State.timer_congr (by simp) _
@[simp] theorem State.setRflow_rightsBy (s : State) (n : Nat) (f : RFlow) : (s.setRflow n f).rightsBy = s.rightsBy := State.rightsBy_congr (by simp) (by simp)
@[simp] theorem State.setRflow_hosts (s : State) (n : Nat) (f : RFlow) : (s.setRflow n f).hosts = s.hosts := State.hosts_congr (by simp) (by simp)
@[simp] theorem State.setRflow_winFm (s : State) (n : Nat) (f : RFlow) (w : Nat) : (s.setRflow n f).winFm w = s.winFm w := State.winFm_congr (by simp) (by simp) _
@[simp] theorem State.setRflow_winPresent (s : State) (n : Nat) (f : RFlow) (w : Nat) : (s.setRflow n f).winPresent w = s.winPresent w := State.winPresent_congr (by simp) (by simp) _
@[simp] theorem State.setRflow_srcFm (s : State) (n : Nat) (f : RFlow) (a : Nat) : (s.setRflow n f).srcFm a = s.srcFm a := State.srcFm_congr (by simp) (by simp) _
@[simp] theorem State.setRflow_classOf (s : State) (n : Nat) (f : RFlow) (c : Nat) : (s.setRflow n f).classOf c = s.classOf c := State.classOf_congr (by simp) _
@[simp] theorem State.setRflow_role (s : State) (n : Nat) (f : RFlow) (n1 : Nat) : (s.setRflow n f).role n1 = s.role n1 := State.role_congr (by simp) _

@[simp] theorem State.setOp_reg (s : State) (t : Nat) (o : Op) (o1 : Nat) : (s.setOp t o).reg o1 = s.reg o1 := State.reg_congr (by simp) _
@[simp] theorem State.setOp_fld (s : State) (t : Nat) (o : Op) (o1 lo len : Nat) : (s.setOp t o).fld o1 lo len = s.fld o1 lo len := State.fld_congr (by simp) _ _ _
@[simp] theorem State.setOp_reg64 (s : State) (t : Nat) (o : Op) (o1 : Nat) : (s.setOp t o).reg64 o1 = s.reg64 o1 := State.reg64_congr (by simp) _
@[simp] theorem State.setOp_arrayBit (s : State) (t : Nat) (o : Op) (base k : Nat) : (s.setOp t o).arrayBit base k = s.arrayBit base k := State.arrayBit_congr (by simp) _ _
@[simp] theorem State.setOp_lane (s : State) (t : Nat) (o : Op) (l : Nat) : (s.setOp t o).lane l = s.lane l := State.lane_congr (by simp) _
@[simp] theorem State.setOp_link (s : State) (t : Nat) (o : Op) (n : Nat) : (s.setOp t o).link n = s.link n := State.link_congr (by simp) _
@[simp] theorem State.setOp_domain (s : State) (t : Nat) (o : Op) (k : Nat) : (s.setOp t o).domain k = s.domain k := State.domain_congr (by simp) _
@[simp] theorem State.setOp_running (s : State) (t : Nat) (o : Op) : (s.setOp t o).running = s.running := State.running_congr (by simp)
@[simp] theorem State.setOp_nodeId (s : State) (t : Nat) (o : Op) : (s.setOp t o).nodeId = s.nodeId := State.nodeId_congr (by simp)
@[simp] theorem State.setOp_now (s : State) (t : Nat) (o : Op) : (s.setOp t o).now = s.now := State.now_congr (by simp)
@[simp] theorem State.setOp_isSealed (s : State) (t : Nat) (o : Op) : (s.setOp t o).isSealed = s.isSealed := State.isSealed_congr (by simp)
@[simp] theorem State.setOp_plateWord (s : State) (t : Nat) (o : Op) (ty k : Nat) : (s.setOp t o).plateWord ty k = s.plateWord ty k := State.plateWord_congr (by simp) _ _
@[simp] theorem State.setOp_policyEntry (s : State) (t : Nat) (o : Op) (c : Nat) : (s.setOp t o).policyEntry c = s.policyEntry c := State.policyEntry_congr (by simp) _
@[simp] theorem State.setOp_timer (s : State) (t : Nat) (o : Op) (k : Nat) : (s.setOp t o).timer k = s.timer k := State.timer_congr (by simp) _
@[simp] theorem State.setOp_rightsBy (s : State) (t : Nat) (o : Op) : (s.setOp t o).rightsBy = s.rightsBy := State.rightsBy_congr (by simp) (by simp)
@[simp] theorem State.setOp_hosts (s : State) (t : Nat) (o : Op) : (s.setOp t o).hosts = s.hosts := State.hosts_congr (by simp) (by simp)
@[simp] theorem State.setOp_winFm (s : State) (t : Nat) (o : Op) (w : Nat) : (s.setOp t o).winFm w = s.winFm w := State.winFm_congr (by simp) (by simp) _
@[simp] theorem State.setOp_winPresent (s : State) (t : Nat) (o : Op) (w : Nat) : (s.setOp t o).winPresent w = s.winPresent w := State.winPresent_congr (by simp) (by simp) _
@[simp] theorem State.setOp_srcFm (s : State) (t : Nat) (o : Op) (a : Nat) : (s.setOp t o).srcFm a = s.srcFm a := State.srcFm_congr (by simp) (by simp) _
@[simp] theorem State.setOp_classOf (s : State) (t : Nat) (o : Op) (c : Nat) : (s.setOp t o).classOf c = s.classOf c := State.classOf_congr (by simp) _
@[simp] theorem State.setOp_role (s : State) (t : Nat) (o : Op) (n : Nat) : (s.setOp t o).role n = s.role n := State.role_congr (by simp) _

@[simp] theorem State.putCtr_reg (s : State) (c : Nat) (v : Word) (o : Nat) : (s.putCtr c v).reg o = s.reg o := State.reg_congr (by simp) _
@[simp] theorem State.putCtr_fld (s : State) (c : Nat) (v : Word) (o lo len : Nat) : (s.putCtr c v).fld o lo len = s.fld o lo len := State.fld_congr (by simp) _ _ _
@[simp] theorem State.putCtr_reg64 (s : State) (c : Nat) (v : Word) (o : Nat) : (s.putCtr c v).reg64 o = s.reg64 o := State.reg64_congr (by simp) _
@[simp] theorem State.putCtr_arrayBit (s : State) (c : Nat) (v : Word) (base k : Nat) : (s.putCtr c v).arrayBit base k = s.arrayBit base k := State.arrayBit_congr (by simp) _ _
@[simp] theorem State.putCtr_lane (s : State) (c : Nat) (v : Word) (l : Nat) : (s.putCtr c v).lane l = s.lane l := State.lane_congr (by simp) _
@[simp] theorem State.putCtr_link (s : State) (c : Nat) (v : Word) (n : Nat) : (s.putCtr c v).link n = s.link n := State.link_congr (by simp) _
@[simp] theorem State.putCtr_domain (s : State) (c : Nat) (v : Word) (k : Nat) : (s.putCtr c v).domain k = s.domain k := State.domain_congr (by simp) _
@[simp] theorem State.putCtr_running (s : State) (c : Nat) (v : Word) : (s.putCtr c v).running = s.running := State.running_congr (by simp)
@[simp] theorem State.putCtr_nodeId (s : State) (c : Nat) (v : Word) : (s.putCtr c v).nodeId = s.nodeId := State.nodeId_congr (by simp)
@[simp] theorem State.putCtr_now (s : State) (c : Nat) (v : Word) : (s.putCtr c v).now = s.now := State.now_congr (by simp)
@[simp] theorem State.putCtr_isSealed (s : State) (c : Nat) (v : Word) : (s.putCtr c v).isSealed = s.isSealed := State.isSealed_congr (by simp)
@[simp] theorem State.putCtr_plateWord (s : State) (c : Nat) (v : Word) (ty k : Nat) : (s.putCtr c v).plateWord ty k = s.plateWord ty k := State.plateWord_congr (by simp) _ _
@[simp] theorem State.putCtr_policyEntry (s : State) (c : Nat) (v : Word) (c1 : Nat) : (s.putCtr c v).policyEntry c1 = s.policyEntry c1 := State.policyEntry_congr (by simp) _
@[simp] theorem State.putCtr_timer (s : State) (c : Nat) (v : Word) (k : Nat) : (s.putCtr c v).timer k = s.timer k := State.timer_congr (by simp) _
@[simp] theorem State.putCtr_rightsBy (s : State) (c : Nat) (v : Word) : (s.putCtr c v).rightsBy = s.rightsBy := State.rightsBy_congr (by simp) (by simp)
@[simp] theorem State.putCtr_hosts (s : State) (c : Nat) (v : Word) : (s.putCtr c v).hosts = s.hosts := State.hosts_congr (by simp) (by simp)
@[simp] theorem State.putCtr_winFm (s : State) (c : Nat) (v : Word) (w : Nat) : (s.putCtr c v).winFm w = s.winFm w := State.winFm_congr (by simp) (by simp) _
@[simp] theorem State.putCtr_winPresent (s : State) (c : Nat) (v : Word) (w : Nat) : (s.putCtr c v).winPresent w = s.winPresent w := State.winPresent_congr (by simp) (by simp) _
@[simp] theorem State.putCtr_srcFm (s : State) (c : Nat) (v : Word) (a : Nat) : (s.putCtr c v).srcFm a = s.srcFm a := State.srcFm_congr (by simp) (by simp) _
@[simp] theorem State.putCtr_classOf (s : State) (c : Nat) (v : Word) (c1 : Nat) : (s.putCtr c v).classOf c1 = s.classOf c1 := State.classOf_congr (by simp) _
@[simp] theorem State.putCtr_role (s : State) (c : Nat) (v : Word) (n : Nat) : (s.putCtr c v).role n = s.role n := State.role_congr (by simp) _

@[simp] theorem State.setDomain_reg (s : State) (k : Nat) (d : DomainState) (o : Nat) : (s.setDomain k d).reg o = s.reg o := State.reg_congr (by simp) _
@[simp] theorem State.setDomain_fld (s : State) (k : Nat) (d : DomainState) (o lo len : Nat) : (s.setDomain k d).fld o lo len = s.fld o lo len := State.fld_congr (by simp) _ _ _
@[simp] theorem State.setDomain_reg64 (s : State) (k : Nat) (d : DomainState) (o : Nat) : (s.setDomain k d).reg64 o = s.reg64 o := State.reg64_congr (by simp) _
@[simp] theorem State.setDomain_arrayBit (s : State) (k : Nat) (d : DomainState) (base k1 : Nat) : (s.setDomain k d).arrayBit base k1 = s.arrayBit base k1 := State.arrayBit_congr (by simp) _ _
@[simp] theorem State.setDomain_lane (s : State) (k : Nat) (d : DomainState) (l : Nat) : (s.setDomain k d).lane l = s.lane l := State.lane_congr (by simp) _
@[simp] theorem State.setDomain_link (s : State) (k : Nat) (d : DomainState) (n : Nat) : (s.setDomain k d).link n = s.link n := State.link_congr (by simp) _
@[simp] theorem State.setDomain_now (s : State) (k : Nat) (d : DomainState) : (s.setDomain k d).now = s.now := State.now_congr (by simp)
@[simp] theorem State.setDomain_isSealed (s : State) (k : Nat) (d : DomainState) : (s.setDomain k d).isSealed = s.isSealed := State.isSealed_congr (by simp)
@[simp] theorem State.setDomain_plateWord (s : State) (k : Nat) (d : DomainState) (ty k1 : Nat) : (s.setDomain k d).plateWord ty k1 = s.plateWord ty k1 := State.plateWord_congr (by simp) _ _
@[simp] theorem State.setDomain_policyEntry (s : State) (k : Nat) (d : DomainState) (c : Nat) : (s.setDomain k d).policyEntry c = s.policyEntry c := State.policyEntry_congr (by simp) _
@[simp] theorem State.setDomain_timer (s : State) (k : Nat) (d : DomainState) (k1 : Nat) : (s.setDomain k d).timer k1 = s.timer k1 := State.timer_congr (by simp) _
@[simp] theorem State.setDomain_rightsBy (s : State) (k : Nat) (d : DomainState) : (s.setDomain k d).rightsBy = s.rightsBy := State.rightsBy_congr (by simp) (by simp)
@[simp] theorem State.setDomain_hosts (s : State) (k : Nat) (d : DomainState) : (s.setDomain k d).hosts = s.hosts := State.hosts_congr (by simp) (by simp)
@[simp] theorem State.setDomain_winFm (s : State) (k : Nat) (d : DomainState) (w : Nat) : (s.setDomain k d).winFm w = s.winFm w := State.winFm_congr (by simp) (by simp) _
@[simp] theorem State.setDomain_winPresent (s : State) (k : Nat) (d : DomainState) (w : Nat) : (s.setDomain k d).winPresent w = s.winPresent w := State.winPresent_congr (by simp) (by simp) _
@[simp] theorem State.setDomain_srcFm (s : State) (k : Nat) (d : DomainState) (a : Nat) : (s.setDomain k d).srcFm a = s.srcFm a := State.srcFm_congr (by simp) (by simp) _
@[simp] theorem State.setDomain_classOf (s : State) (k : Nat) (d : DomainState) (c : Nat) : (s.setDomain k d).classOf c = s.classOf c := State.classOf_congr (by simp) _
@[simp] theorem State.setDomain_role (s : State) (k : Nat) (d : DomainState) (n : Nat) : (s.setDomain k d).role n = s.role n := State.role_congr (by simp) _

/-! ## Registers, lanes and links by number -/

@[simp] theorem State.reg_setReg_self (s : State) (off : Nat) (v : Word) : (s.setReg off v).reg off = v := tabGet_set_self ..

theorem State.reg_setReg_ne (s : State) {off o : Nat} (v : Word) (h : o ≠ off) : (s.setReg off v).reg o = s.reg o := by
  unfold State.reg State.setReg
  simp only [tabGet, tabSet]
  split
  · rw [tabFind_erase_ne _ h]
  · rw [tabFind_insert_ne _ _ h]

theorem State.reg_setReg (s : State) (off o : Nat) (v : Word) : (s.setReg off v).reg o = if o = off then v else s.reg o := by
  by_cases h : o = off
  · subst h; simp
  · simp [h, State.reg_setReg_ne s v h]

@[simp] theorem State.tookFree_free (s : State) : s.tookFree.free = s.free + 1 := rfl

theorem State.reg_setFld_self (s : State) (off lo len v : Nat) : (s.setFld off lo len v).reg off = setBits (s.reg off) lo len v := by simp [State.setFld]

theorem State.reg_setFld_ne (s : State) {off o : Nat} (lo len v : Nat) (h : o ≠ off) : (s.setFld off lo len v).reg o = s.reg o :=
  State.reg_setReg_ne s _ h

theorem State.fld_setFld_self (s : State) (off lo len v : Nat) (h : lo + len ≤ 32) : (s.setFld off lo len v).fld off lo len = v % 2 ^ len := by
  rw [State.fld, State.reg_setFld_self, bits_setBits_self _ _ _ _ h]

theorem State.fld_setFld_below (s : State) (off lo len v lo2 len2 : Nat) (h : lo + len ≤ 32) (h2 : lo2 + len2 ≤ lo) :
    (s.setFld off lo len v).fld off lo2 len2 = s.fld off lo2 len2 := by
  rw [State.fld, State.reg_setFld_self, bits_setBits_below _ _ _ _ _ _ h h2]; rfl

theorem State.fld_setFld_above (s : State) (off lo len v lo2 len2 : Nat) (h : lo + len ≤ 32) (h2 : lo + len ≤ lo2) :
    (s.setFld off lo len v).fld off lo2 len2 = s.fld off lo2 len2 := by
  rw [State.fld, State.reg_setFld_self, bits_setBits_above _ _ _ _ _ _ h h2]; rfl

theorem State.fld_setFld_ne (s : State) {off o : Nat} (lo len v lo2 len2 : Nat) (h : o ≠ off) : (s.setFld off lo len v).fld o lo2 len2 = s.fld o lo2 len2 := by
  simp only [State.fld, State.reg_setFld_ne s lo len v h]

@[simp] theorem State.fld_setReg_self (s : State) (off : Nat) (v : Word) (lo len : Nat) : (s.setReg off v).fld off lo len = bits v lo len := by simp [State.fld]

theorem State.fld_setReg_ne (s : State) {off o : Nat} (v : Word) (lo len : Nat) (h : o ≠ off) : (s.setReg off v).fld o lo len = s.fld o lo len := by
  simp only [State.fld, State.reg_setReg_ne s v h]

@[simp] theorem State.reg_bumpBy_self (s : State) (off n : Nat) : (s.bumpBy off n).reg off = BitVec.ofNat 32 (min ((s.reg off).toNat + n) 0xFFFFFFFF) := by
  simp [State.bumpBy]

theorem State.reg_bumpBy_ne (s : State) {off o : Nat} (n : Nat) (h : o ≠ off) : (s.bumpBy off n).reg o = s.reg o := State.reg_setReg_ne s _ h

theorem State.reg_bump_ne (s : State) {off o : Nat} (h : o ≠ off) : (s.bump off).reg o = s.reg o := State.reg_setReg_ne s _ h

theorem State.reg_setReg64_ne (s : State) {off o : Nat} (v : Nat) (h : o ≠ off) (h2 : o ≠ off + 4) : (s.setReg64 off v).reg o = s.reg o := by
  rw [State.setReg64, State.reg_setReg_ne _ _ h2, State.reg_setReg_ne _ _ h]

@[simp] theorem State.reg64_setReg64_self (s : State) (off v : Nat) : (s.setReg64 off v).reg64 off = v % 2 ^ 64 := by
  rw [State.reg64, State.setReg64, State.reg_setReg_self, State.reg_setReg_ne _ _ (by omega), State.reg_setReg_self]
  simp only [BitVec.toNat_ofNat]
  omega

theorem State.reg_setArrayBit_ne (s : State) {base k o : Nat} (b : Bool) (h : o ≠ base + 4 * (k / 32)) : (s.setArrayBit base k b).reg o = s.reg o :=
  State.reg_setFld_ne s _ _ _ h

@[simp] theorem State.arrayBit_setArrayBit_self (s : State) (base k : Nat) (b : Bool) : (s.setArrayBit base k b).arrayBit base k = b := by
  rw [State.arrayBit, State.setArrayBit, State.reg_setFld_self, bit_setBits_self _ _ _ (Nat.mod_lt _ (by decide))]
  cases b <;> rfl

theorem State.arrayBit_setArrayBit_ne (s : State) (base k j : Nat) (b : Bool) (h : j ≠ k) : (s.setArrayBit base k b).arrayBit base j = s.arrayBit base j := by
  unfold State.arrayBit State.setArrayBit
  by_cases hw : j / 32 = k / 32
  · have : j % 32 ≠ k % 32 := by omega
    rw [hw, State.reg_setFld_self, bit_setBits_ne _ _ _ _ (Nat.mod_lt _ (by decide)) this]
  · rw [State.reg_setFld_ne _ _ _ _ (by omega)]

@[simp] theorem State.lane_setLane_self (s : State) (l : Nat) (x : Lane) : (s.setLane l x).lane l = x := tabGet_set_self ..

theorem State.lane_setLane (s : State) (l k : Nat) (x : Lane) : (s.setLane l x).lane k = if k = l then x else s.lane k := tabGet_set ..

theorem State.lane_modLane (s : State) (l k : Nat) (f : Lane → Lane) : (s.modLane l f).lane k = if k = l then f (s.lane l) else s.lane k :=
  State.lane_setLane ..

@[simp] theorem State.link_setLink_self (s : State) (n : Nat) (x : Link) : (s.setLink n x).link n = x := tabGet_set_self ..

theorem State.link_setLink (s : State) (n k : Nat) (x : Link) : (s.setLink n x).link k = if k = n then x else s.link k := tabGet_set ..

theorem State.link_modLink (s : State) (n k : Nat) (f : Link → Link) : (s.modLink n f).link k = if k = n then f (s.link n) else s.link k :=
  State.link_setLink ..

end Sys2Proof.Machine
end

