-- ==== Sys2Proof/Tests/Slice0.lean ====
section
/-! SUPPORT. Tests: each check of well-formedness refuses a term, the spec's worked examples, and for each statement with hypotheses a
state and operands that meet them. Expected results of the examples are the spec's. -/

namespace Sys2Proof.Tests

set_option Elab.async false

open Sys2Proof.Machine

/-! ## Terms for the tests -/

/-- A cell of a type with a payload. -/
def cell (typ : Nat) (p : Line) : Cell :=
  withCheck { dest := 0, epoch := false, src := 0, cm := false, pkey := 0, cls := BitVec.ofNat 3 ((classOfType typ).getD 5)
              typ := BitVec.ofNat 6 typ, last := true, mcast := false, tree := 0, deflected := false, echo := false, alt := false
              tag := 0, index := 0, hop := 0, time := 0, ack := 0, nak := 0, seq := 0, hchk := 0, payload := p }

/-- A descriptor of an opcode with a MODIFIER, from host window 0. -/
def issue (op modifier : Nat) : Issue :=
  { who := .window 0, cue := false, tag := 0, time := 0, desc := packBytes 512 [(0, 1, op), (30, 2, modifier)] }

/-- The state after reset with the power state RUN. -/
def running : State := { State.reset with kpr := { Kpr.reset with power := .run } }

/-! ## Each check of well-formedness refuses a term -/

theorem test_wf_cell_type : Instr.wf 0 (.sweepRx (cell 0x35 0)) = false := by decide +kernel
theorem test_wf_cell_kind_abort : Instr.wf 0 (.abortReqRx (cell 0x07 (packBytes 512 [(1, 1, 0x20)]))) = false := by decide +kernel
theorem test_wf_completion_of_seat : Instr.wf 0 (.completionChunkRx (cell 0x11 4)) = false := by decide +kernel
theorem test_wf_desc_from_no_seat : Instr.wf 0 (.descRx (cell 0x08 0)) = false := by decide +kernel
theorem test_wf_grant_is_done : Instr.wf 0 (.grantRx (cell 0x11 4)) = false := by decide +kernel
theorem test_wf_flood_kind : Instr.wf 0 (.lostRx 0 (cell 0x33 (packBytes 512 [(32, 1, 3)]))) = false := by decide +kernel
theorem test_wf_request_kind : Instr.wf 0 (.fmReadRx (cell 0x31 2)) = false := by decide +kernel
theorem test_wf_opcode : Instr.wf 0 (.load (issue 0x02 0)) = false := by decide +kernel
theorem test_wf_modifier : Instr.wf 0 (.digestRegion (issue 0x50 3)) = false := by decide +kernel
theorem test_wf_role : Instr.wf 0 (.redInOpen (issue 0x20 0)) = (cOpen (issue 0x20 0).desc) := by decide +kernel
theorem test_wf_action : Instr.wf 0 (.atomFaddXRead (issue 0x13 0)) = false := by decide +kernel
theorem test_wf_arm_kind : Instr.wf 0 (.cueArmDisarm (issue 0x41 0)) = false := by decide +kernel
theorem test_wf_mapping_below : Instr.wf 0 (.hostMapAccess 0 0x7FFFF .read4) = false := by decide +kernel
theorem test_wf_mapping_above : Instr.wf 0 (.hostMapAccess 0 0x100000 .read4) = false := by decide +kernel
theorem test_wf_faults : exec (.sweepRx (cell 0x35 0)) running = .fault .illFormed := rfl

/-! ## The spec's worked examples -/

/-- 01_fabric_context.md, after R19: rack 37, slot 5 reads straps 0x2A5 and is node 301. -/
theorem test_node_id : ({ State.reset with kpr := { Kpr.reset with straps := 0x2A5 } } : State).nodeId = 301 := by decide +kernel

/-- 08_pool_memory.md, after R241: tier line 0x48D1_59E2 under the masks with bits i, i + 6 and i + 12 is channel 16, address 0x123_4567. -/
theorem test_channel_hash :
    hashIndex ((List.range 12).map fun k => if k % 2 = 0 then (BitVec.ofNat 32 (0x1041 * 2 ^ (k / 2))) else 0) 0 6 0x48D159E2 = 16 ∧
    channelLine [6] false 0x48D159E2 = 0x1234567 := by decide +kernel

/-- 14_security.md, after R437: the tweak of region 0x0010 at offset 0x12_3440. -/
theorem test_tweak : xtsTweak 0x10 0x123440 = 0x40000048D1 := by decide +kernel

/-- 14_security.md, after R440: the IV 0x5C3E_91A7_0000_0004_2A10_012D as sent. -/
theorem test_iv_bytes : toBytes (0x5C3E91A7000000042A10012D : BitVec 96) 12 =
    [0x2D, 0x01, 0x10, 0x2A, 0x04, 0x00, 0x00, 0x00, 0xA7, 0x91, 0x3E, 0x5C] := by decide +kernel

/-- 16_faults.md, after R493: 9,216 lines and a block of 128 bytes need 25 mJ of the default 120 W and 200 µs. -/
theorem test_holdup_need : (120 * 200 * 1080000 + 120 * (64 * 9216 + 128) + 1079999999) / 1080000000 = 25 ∧
    State.reset.fld R.holdupCfg 0 10 = 120 ∧ State.reset.fld R.holdupCfg 16 10 = 200 ∧
    State.reset.holdupNeed 128 = (120 * 200 * 1080000 + 120 * (State.reset.farQueued + 128) + 1079999999) / 1080000000 := by decide +kernel

/-- 18_register_map.md: source 428 is channel port 21's MEM_CHANNEL_DOWN. -/
theorem test_source : sourceCode 428 = some (36, some 21) ∧ sourceOf 36 21 = some 428 := by decide +kernel

/-- 19_integration.md: window 2's XFR_SQ_HEAD. -/
theorem test_sq_head : R.win 2 + R.sqHead = 0x3204004 := by decide +kernel

/-- 04_lanes.md, after R117: LANE_SCAN_CTL of link 26, lane 5. -/
theorem test_scan_ctl : R.lane (26 * 9 + 5) + 0x10 = 0x43BC10 := by decide +kernel

/-- 11_exact_reduction.md, after R347: 257 in BF16 under RNE is 256 (0x4380), and under SR 258 (0x4381) where r < 0x8000_0000. -/
theorem test_round_257 : roundOut 0x02 (.finite (257 * 2 ^ 160)) .rne 0 = 0x4380 ∧ roundOut 0x02 (.finite (257 * 2 ^ 160)) .sr 0x7FFFFFFF = 0x4381 ∧
    roundOut 0x02 (.finite (257 * 2 ^ 160)) .sr 0x80000000 = 0x4380 := by decide +kernel

/-- 12_update_engine.md: FMA(0.875, 2^-10, 2^-12) and FNMA(0.125, 1.125 x 2^-10, 1.0). -/
theorem test_sgd_element : fma32 false 0x3F600000 0x3A800000 0x39800000 = 0x3A900000 ∧ fma32 true 0x3E000000 0x3A900000 0x3F800000 = 0x3F7FF700 := by decide +kernel

/-- FIPS 180-4, as 14_security.md names it: SHA-384 of "abc". -/
theorem test_sha384_abc : sha384 [0x61, 0x62, 0x63] = BitVec.ofNat 384 (ofBytes (toBytes (0xcb00753f45a35e8bb5a03d699ac65007272c32ab0eded1631a8b605a43ff5bed8086072ba1e7cc2358baeca134c825a7 : BitVec 384) 48).reverse) := by
  decide +kernel

/-! ## States that meet the hypotheses of the statements -/

/-- A Plate with State 1: keys 1 and 2 anchored at nodes 1 and 0, key 1 bound to node 0 with all its windows and seats, link 0 a MESH link of port 0 towards node 1, and one region,
5, of one extent of near memory under key 1. -/
def plate : PlateV :=
  { state := 1, full := true, proof := 0, arithSig := 0
    sections := [{ ty := 0x002, digest := 0, words := [2, 1, 0, 0, 1, 1, 0, 0, 2, 0, 0, 0, 1, 0xFFFFFFFF] },
                 { ty := 0x101, digest := 0, words := [0, 0, 0x102] }, { ty := 0x102, digest := 0, words := [0, 0, 0, 0x120, 1, 0] },
                 { ty := 0x104, digest := 0, words := [0, 0, 0, 1] ++ List.replicate 60 0 ++ [0x10005, 1, 2, 0] }]
    places := [(5, { nearBase := 0, nearLen := 1, farBase := 0, farLen := 0 })] }

/-- A step behind it. -/
def nextPlate : PlateV := { plate with state := 2, full := false }

/-- The running node under that Plate, with key 1 open in slot 0. -/
def sealedNode : State :=
  { running with plt := { Plt.reset with active := some plate }
                 sec := { Sec.reset with slots := [(0, { Slot.reset with pkey := 1, state := .opened, everOpen := true, was := (1, .empty) })] } }

/-- The running node late enough for every timer. -/
def later : State := { running with clk := { Clk.reset with count := 2 ^ 80 } }

/-- The running node with link 0 UP and trained on lanes 0 to 8. -/
def linked : State :=
  ((List.range 8).foldl (fun t k => t.setLane k { Lane.reset with state := .active, signal := true }) later).setLane 8
    { Lane.reset with state := .standby, signal := true } |>.setLink 0 { Link.reset with state := .up, width := 2, reported := Link.reset.report }

/-- With its power state. -/
def powered (p : PowerState) (s : State) : State := { s with kpr := { s.kpr with power := p } }

theorem test_hyp_StepRunsFrontCommand : ({ running with pending := [.beacon] } : State).pending = .beacon :: [] := rfl
theorem test_hyp_EmptyQueueStepIsOneCycle : running.pending = [] := rfl
theorem test_hyp_CommandsStopOnlyWhereIllFormed : Instr.wf 0 .beacon = true ∧ (dOp (issue 0x50 1).desc == 0x50 && dMod (issue 0x50 1).desc == 1) = true ∧
    cellIs (cell 0x34 0) 0x34 = true ∧ R.mapRange ≤ (0x80000 : BitVec 26).toNat := by decide +kernel
theorem test_hyp_CommandsChangeOnlyTheirParts : ∃ t, exec .beacon running = .next t := ⟨_, rfl⟩
theorem test_hyp_TrustAnchorsAreWriteOnce :
    (({ running with fuses := [(3, { cut := false, enrolled := true, revoked := true, key := 7 })] } : State).signer 3).enrolled = true ∧
    (({ running with fuses := [(3, { cut := false, enrolled := true, revoked := true, key := 7 })] } : State).signer 3).revoked = true ∧
    ∃ t, exec .beacon { running with fuses := [(3, { cut := false, enrolled := true, revoked := true, key := 7 })] } = .next t :=
  ⟨rfl, rfl, _, rfl⟩
theorem test_hyp_StepKeepsMemoryCanonical : Memory.wf ({ State.reset with pending := [.beacon] } : State).memory = true ∧
    ∃ t, step { State.reset with pending := [.beacon] } = .next t := ⟨rfl, _, rfl⟩
theorem test_hyp_StepKeepsPlateControllerSound : ({ State.reset with pending := [.beacon] } : State).plt.sound ∧
    ∃ t, step { State.reset with pending := [.beacon] } = .next t :=
  ⟨by refine ⟨?_, ?_, ?_, ?_, ?_, ?_, ?_⟩ <;> simp [State.reset, Plt.reset], _, rfl⟩

theorem test_hyp_ResetsClearTheirState : State.reset.sec.fuse = none ∧ State.reset.winFm 15 = true ∧
    ({ State.reset with kpr := { Kpr.reset with resetDue := true } } : State).kpr.resetDue = true ∧ State.reset.kpr.resetDue = false ∧
    sealedNode.winFm 1 = false ∧ State.reset.winPresent 0 = true ∧
    ({ State.reset with plt := { Plt.reset with owned := true, owner := 15, eng := .loading } } : State).ownsLoad 15 = true := by decide +kernel
theorem test_hyp_PowerStatesFollowTheirCommands : State.reset.kpr.power = .boot ∧ State.reset.kpr.boot = .rom ∧
    le [0x5A, 0x4B, 0x46, 0x57, 0, 1] 0 4 = 0x57464B5A ∧ le [0x5A, 0x4B, 0x46, 0x57, 0, 1] 5 1 = 1 ∧
    le [0x5A, 0x4B, 0x46, 0x57, 0, 1] 8 4 + 160 ≤ 0x100000 ∧ le [0x5A] 0 4 ≠ 0x57464B5A ∧
    (powered .keeper State.reset).kpr.power = .keeper ∧ (powered .keeper State.reset).kpr.resetLow = false ∧
    (powered .sleeping State.reset).kpr.power = .sleeping ∧ State.reset.winFm 3 = true ∧ (powered .waking sealedNode).retentionLost = true ∧
    (powered .waking State.reset).retentionLost = false ∧ running.sleepRefused = 0 ∧ State.reset.sleepRefused = 4 ∧
    (powered .sleeping State.reset).sleepReady = true ∧
    ({ powered .sleeping State.reset with script := { Script.reset with buffer := [[]] } } : State).sleepReady = false := by decide +kernel
theorem test_hyp_DomainsGateAndWake : later.running = true ∧ later.mayGate .eru = true ∧ later.domain (domainKey .eru) = .running ∧
    running.mayGate (.link 0) = false ∧
    ({ later with kpr := { later.kpr with domains := [(288, .gated)] } } : State).domain 288 = .gated ∧
    ({ later with kpr := { later.kpr with domains := [(domainKey .eru, .entering)] } } : State).domain (domainKey .eru) = .entering ∧
    running.syncSoon 0 = true ∧ running.syncSoon 31 = false ∧
    (linked.setLane 0 { Lane.reset with state := .active, rxIdle := true }).mayGate (.lane 0) = true ∧
    (((List.range 9).foldl (fun t k => t.setDomain k .gated) linked).mayGate (.link 0)) = true := by decide +kernel

theorem rails_whole_reset : running.railsWhole := by
  show ∀ k, k < 2048 → _
  decide +kernel
theorem calm_running : running.calm := by
  show ∀ c, c < 112 → _
  decide +kernel
theorem test_hyp_RaisedFaultIsRecorded : sourceOf 80 0 = none ∧ running.classOf 113 = 2 ∧ running.kpr.power ≠ .failStop ∧ running.classOf 80 ≠ 2 ∧
    (linked.link 0).state ≠ .disabled := by decide +kernel
theorem test_hyp_FaultSourcesAreSampled : sourceCode 0 = some (8, some 0) ∧ sourceCode 1009 = some (49, none) ∧ sourceCode 1010 = some (50, none) ∧
    running.railsWhole ∧ running.arrayBit R.srcAssert 0 = false ∧ (running.setArrayBit R.srcAssert 0 true).arrayBit R.srcAssert 0 = true ∧
    running.arrayBit R.railState 0 = false ∧ (running.setArrayBit R.railState 0 true).arrayBit R.railState 0 = true ∧
    tabGet 0 running.kpr.equalRun 0 < 2 ∧ 2 ≤ tabGet 0 ({ running with kpr := { running.kpr with equalRun := [(0, 2)] } } : State).kpr.equalRun 0 ∧
    tabGet 0 running.kpr.tested 0 ≠ running.now / 1000000 + 1 ∧
    tabGet 0 ({ running with kpr := { running.kpr with tested := [(0, 1)] } } : State).kpr.tested 0 = running.now / 1000000 + 1 :=
  ⟨by decide +kernel, by decide +kernel, by decide +kernel, rails_whole_reset, by decide +kernel⟩
theorem test_hyp_FaultInputsAct : running.railsWhole ∧ running.classOf 116 = 2 ∧ running.kpr.tempAt ≠ running.now / 10000 + 1 ∧
    ({ running with kpr := { running.kpr with tempAt := 1 } } : State).kpr.tempAt = running.now / 10000 + 1 ∧
    2000 ≤ (2000 : BitVec 12).toInt ∧ (1999 : BitVec 12).toInt < 2000 ∧
    16 * (later.fld R.thermalCfg 0 8 : Int) < (later.setReg R.kprTemp 2000).tempOf (later.setReg R.kprTemp 2000).hottest ∧
    later.kpr.throttleAt + 100000 ≤ later.now ∧ later.tempOf later.hottest < 16 * ((later.fld R.thermalCfg 0 8 : Int) - (later.fld R.thermalCfg 8 4 : Int)) ∧
    later.kpr.throttleAt + 1000000 ≤ later.now ∧ running.now < running.kpr.throttleAt + 100000 ∧ running.srcFm 16 = true :=
  ⟨rails_whole_reset, by decide +kernel⟩

/-- The running node with its Plate controller as given. -/
def engraving (p : Plt) : State := { running with plt := p }

theorem test_hyp_OpenWhilePinnedFails : running.winFm 15 = true ∧ (engraving { Plt.reset with armed := true }).plt.owned = false ∧
    (engraving { Plt.reset with retiring := some plate }).plt.retiring.isSome = true := by decide +kernel
theorem test_hyp_ResetOfOwnerAbandonsLoad : (engraving { Plt.reset with owned := true, eng := .loading }).winPresent 0 = true ∧
    (engraving { Plt.reset with owned := true, eng := .loading }).ownsLoad 0 = true := by decide +kernel
theorem test_hyp_EngravingWindowLoads : running.winFm 0 = true ∧ running.plt.owned = false ∧ running.plt.armed = false ∧ running.plt.retiring = none ∧
    (engraving { Plt.reset with owned := true, eng := .loading }).ownsLoad 0 = true ∧ (96 : Word).toNat = 96 ∧ (2097153 : Word).toNat = 2097153 ∧
    (engraving { Plt.reset with eng := .verifying }).plt.eng = .verifying ∧
    (engraving { Plt.reset with cancelledAt := some 0 }).plt.cancelledAt = some (engraving { Plt.reset with cancelledAt := some 0 }).clk.count ∧
    (engraving { Plt.reset with eng := .ready }).verifiedNow = false ∧
    (engraving { Plt.reset with eng := .ready, cancelledAt := some 0 }).verifiedNow = true := by decide +kernel
theorem test_hyp_VersionsTakeEffect : (engraving { Plt.reset with eng := .ready, standby := some plate }).isSealed = false ∧ plate.full = true ∧
    (engraving { Plt.reset with eng := .ready, standby := some nextPlate }).stepReady = true ∧ running.srcFm 16 = true ∧
    (running.setReg R.pltStepTime 100000).now + 100000 ≤ (running.setReg R.pltStepTime 100000).reg64 R.pltStepTime ∧
    (engraving { Plt.reset with armed := true, flipTime := 1 }).now < 1 ∧
    (engraving { Plt.reset with active := some nextPlate, retiring := some plate }).pinsRetiring plate = false := by decide +kernel
theorem test_hyp_PlateControllerRefuses : sealedNode.winFm 1 = false ∧ sealedNode.srcFm 1 = false ∧ sealedNode.srcFm 0 = true ∧
    running.stepReady = false ∧ running.reg64 R.pltStepTime < running.now + 100000 ∧
    (engraving { Plt.reset with armed := true }).plt.flipTime ≤ (engraving { Plt.reset with armed := true }).now ∧
    (engraving { Plt.reset with flippedAt := some 0 }).plt.flippedAt = some (engraving { Plt.reset with flippedAt := some 0 }).clk.count := by
  decide +kernel

/-! A frame as a lane sends it, and one whose header is not good. -/

def goodFrame : BitVec 2048 := toPins false (trainingFrame (sendHeader 0 true 1 1) 0x155).1
def badFrame : BitVec 2048 := toPins false (trainingFrame 0 0x155).1

theorem frames_as_read : markerHits (fromPins (running.rxInvert 0) goodFrame) = 64 ∧ headerGood (frameHeader (fromPins (running.rxInvert 0) goodFrame)) = true ∧
    bits (frameHeader (fromPins (running.rxInvert 0) goodFrame)) 5 3 = 1 ∧ markerHits (fromPins (running.rxInvert 0) badFrame) = 64 ∧
    headerGood (frameHeader (fromPins (running.rxInvert 0) badFrame)) = false ∧ markerHits (fromPins (running.rxInvert 0) 0) < 56 := by
  decide +kernel
theorem test_hyp_LanesTrainAndLock : 56 ≤ markerHits (fromPins (running.rxInvert 0) goodFrame) ∧ (running.lane 0).callDone = false ∧ (running.lane 0).state = .off ∧
    4 ≤ ({ Lane.reset with state := .training, signal := true, frameRun := 4, frames := patternFrames } : Lane).frameRun ∧
    ({ Lane.reset with state := .training, signal := true, frameRun := 4, frames := patternFrames } : Lane).patternSum ≤ 256 ∧
    (later.setLane 0 { Lane.reset with state := .locked, signalAt := some 0 }).trainFrom 0 = some 0 ∧
    0 + later.fld R.laneCfg 0 8 * 10000 ≤ later.now :=
  ⟨by rw [frames_as_read.1]; decide, by decide +kernel⟩
theorem test_hyp_LaneFailuresFailTheLane : (linked.lane 0).signal = true ∧ (linked.lane 0).quietAnnounced = false ∧ (linked.lane 0).rxIdle = false ∧
    (linked.lane 0).state = .active ∧ ({ Lane.reset with lastNotice := 1 } : Lane).quietAnnounced = true ∧
    ({ Lane.reset with lastNotice := 1 } : Lane).checkFails = true ∧ ({ Lane.reset with signal := true, loop := true } : Lane).checkFails = false ∧
    0 + 2000 ≤ later.now ∧ running.script.holdInput = false ∧ (running.journalReg 16 (R.lane 0 + 4) 1).running = true ∧
    linked.fld R.laneCfg 8 10 < (((List.replicate 16 later.now).filter fun x => decide (later.now < x + 1000000)).length) + 1 := by decide +kernel
set_option maxRecDepth 20000 in
theorem word_with_8_errors_is_lost : rsDecode (fromPins (running.rxInvert 0) (BitVec.ofNat 2720 (2 ^ 80 - 1))) = none := by decide +kernel
set_option maxRecDepth 20000 in
theorem word_with_7_errors_is_corrected : rsDecode (fromPins (running.rxInvert 0) (BitVec.ofNat 2720 (2 ^ 70 - 1))) = some (0, 7) := by decide +kernel
theorem test_hyp_LanesIdleAndWake : (linked.lane 0).state = .active ∧ (linked.link 0).state = .up ∧ linked.fld R.laneCfg 18 10 ≠ 0 ∧
    (linked.link 0).lastSend + linked.fld R.laneCfg 18 10 * 10 ≤ linked.now ∧ (linked.link 0).hasToSend = false ∧ (linked.lane 0).carriesLink = true ∧
    ({ linked.link 0 with txq := [cell 0x18 0] } : Link).hasToSend = true ∧ ({ Lane.reset with lastNotice := 3 } : Lane).callDone = false ∧
    (((linked.setReg (R.link 0 + 0xC) (mapWord [0])).setLane 0 { Lane.reset with burstAt := some 64 }).skewOf 0 [0]) = some 0 := by decide +kernel
theorem test_hyp_EnginesScansAndModuleReads : scanFits (10 * 2 ^ 17) = true ∧ scanFits (9 * 2 ^ 17) = false ∧ running.srcFm 0 = true ∧
    (linked.setReg (R.lane 0 + 0x14) 1).scanning 0 = true ∧ (linked.setReg (R.lane 0 + 0x14) 1).scanDue 0 = true ∧
    ((running.setReg (R.lane 0 + 0x14) 1).setReg (R.lane 0 + 0x10) (10 * 2 ^ 17)).scanDue 0 = false ∧
    bit ((running.setReg R.cmisRd 0x400000).reg R.cmisRd) 22 = true ∧ bits (0x50 : Byte) 4 4 = 5 ∧
    bit ((running.setReg (R.laneEngine + 4 * 63) 0x80).reg (R.laneEngine + 4 * 63)) 7 = true ∧
    bit ((running.setReg R.engineState 8).reg R.engineState) 3 = true ∧ running.engineLanes 0 = [] ∧
    (running.setReg (R.lane 7 + 8) 1).engineLanes 0 = [7] ∧ engineFlagsOf 1 (bits ((running.setReg (R.lane 7 + 8) 1).entry 7).2 22 5) ≠ 0 ∧
    tabGet 0 later.kpr.enginePolled 0 + later.fld R.cmisCtl 0 14 * 1000 ≤ later.now := by decide +kernel

/-! Links. -/

/-- Link 0 in a state, on lanes that all work. -/
def linkIn (x : Link) : State := linked.setLink 0 x

/-- An IDENT payload of node 1, its port 3, that has received every lane, with PREVIOUS, FINAL and a nonce. -/
def peerIdent : Line := packBytes 512 [(0, 2, 1), (2, 1, 3), (6, 2, 0x1FF), (8, 1, 2)]

/-- With the bursts of lanes 0 to 8 seen at UI 64. -/
def bursts (s : State) : State := (List.range 9).foldl (fun t k => t.setLane k { t.lane k with burstAt := some 64 }) s

theorem calm_linked : linked.calm := by
  show ∀ c, c < 112 → _
  decide +kernel
theorem test_hyp_LinkStatesFollowTable56 : linked.calm ∧ ((linkIn { Link.reset with state := .train }).link 0).state = .train ∧
    (∀ k, k < 9 → (linked.lane k).state = .active ∨ (linked.lane k).state = .standby ∨ (linked.lane k).state = .failed) ∧
    4 ≤ (linked.workingLanes 0).length ∧ (((List.range 9).foldl (fun t k => t.setLane k { Lane.reset with state := .failed }) linked).workingLanes 0).length < 4 ∧
    Link.reset.enteredAt + linked.fld R.linkCfg2 8 8 * 1000 ≤ linked.now ∧ linked.now < linked.now + linked.fld R.linkCfg2 8 8 * 1000 ∧
    (([] : List Nat).filter fun a => decide (linked.now < a + 1000000000)).length < 2 ∧
    2 ≤ ([linked.now, linked.now].filter fun a => decide (linked.now < a + 1000000000)).length ∧
    (bursts (linkIn { Link.reset with state := .realign })).skewOf 0 [0, 1, 2, 3] = some 0 ∧
    (linked.setReg (R.link 0 + 0xC) (mapWord [0, 1])).mapped 0 = [0, 1] ∧
    (linked.setReg (R.link 0 + 0xC) (mapWord [0, 1])).goodWords 0 [(0, 0), (1, 0)] = true ∧ Link.reset.realignAt + 20000 ≤ linked.now :=
  ⟨calm_linked, by decide +kernel⟩
theorem test_hyp_IdentExchangeCompletes : linked.identFault (cell 0x3B 0) = none ∧ cellIs (cell 0x3B 0) 0x3B = true ∧
    quietAck { Link.reset with state := .ident, lastAck := 0 } (cell 0x3B 0) ∧ bytesAt (0 : Line) 0 2 % 2 ^ 15 = linked.nodeId ∧ bits (0 : Line) 16 5 = 0 ∧
    bytesAt (0 : Line) 56 4 = ((linkIn { Link.reset with state := .ident, nonce := 0 }).link 0).nonce.toNat ∧
    linked.identFault (cell 0x3B peerIdent) = none ∧ bytesAt peerIdent 0 2 % 2 ^ 15 ≠ linked.nodeId ∧
    (linkIn { Link.reset with state := .ident, nonce := 0 }).agreedMap 0 peerIdent = some (2, [0, 1, 2, 3, 4, 5, 6, 7]) ∧ bit peerIdent 65 = true ∧
    (linkIn { Link.reset with state := .ident, nonce := 0 }).agreedMap 0 (packBytes 512 [(0, 2, 1)]) = none ∧
    (bursts (linkIn { Link.reset with state := .ident })).skewOf 0 [0, 1, 2, 3, 4, 5, 6, 7] = some 0 ∧
    linked.identFault (cell 0x3B (packBytes 512 [(60, 4, 1)])) = some 8 := by unfold quietAck; decide +kernel
theorem test_hyp_LinkRequestsAct : linked.calm ∧ linked.srcFm 16 = true ∧ linked.script.holdInput = false ∧ linked.running = true ∧
    (linked.link 0).state = .up ∧ (running.link 0).state = .disabled ∧ ((linkIn { Link.reset with state := .down }).link 0).state = .down ∧
    ({ linked with plt := { Plt.reset with active := some plate } } : State).mayTrain 0 = true ∧ sealedNode.mayTrain 1 = false ∧ sealedNode.role 1 = 0 ∧
    (linked.link 0).violAt ≠ some linked.clk.count ∧ linked.mayWrite 16 (R.link 0 + 8) ∧ (linked.link 0).drainAt = none ∧
    (((List.range 9).foldl (fun t k => t.setReg (R.lane k + 8) 1) linked).lanesFit 0) := by
  refine ⟨calm_linked, by decide +kernel, rfl, rfl, by decide +kernel, by decide +kernel, by decide +kernel, by decide +kernel, by decide +kernel,
    by decide +kernel, by decide +kernel, ⟨rfl, .inl rfl, fun c x h => by cases h⟩, by decide +kernel, ?_⟩
  show ∀ k, k < 9 → _
  decide +kernel

/-- What 4 lanes bring at the start of their codewords for `cell 0x10 0`. -/
def brought : List SlotPart :=
  (List.range 4).map fun p => { lane := Fin.ofNat 9 p, offset := 0, second := none, first := BitVec.ofNat 2720 (([
    0x39581689DC1E3CC89B5C0F182957927CBC83D000 * 2 ^ 2560 + 0x7A0000000000000000000000CB00000003C1000000000000,
    0xDEE6B497E363590F8327B0BABCD304A5172EC00 * 2 ^ 2560 + 0x9F0000000000000000000000490000000000000000000000,
    0x982F289D2503CE03BC36D8810F9854F63554400 * 2 ^ 2560 + 0x840000000000000000000000DB000000000000000000E9A1,
    0xE50E64F7446C5B8006E3819BD12AE5F99EF70400 * 2 ^ 2560 + 0x610000000000000000000000B70000000000000000000000] : List Nat).getD p 0) }
def linked4 : State := (linked.setLink 0 { linked.link 0 with width := 1 }).setReg (R.link 0 + 0xC) (mapWord [0, 1, 2, 3])

set_option maxRecDepth 20000 in
theorem slot_read : (match linked4.readSlot 0 1 brought with
    | r => ! r.cut && r.ended.isEmpty && ! slotErrored r.slot r.decoded && slotCell r.slot == cell 0x10 0) = true := by decide +kernel
theorem test_hyp_LinkReceiptActs : (linked4.link 0).state = .up ∧ (linked4.link 0).width = 1 ∧ (cell 0x10 0).typ.toNat < 0x38 ∧
    (linked4.link 0).overResent (linked4.fld R.linkCfg 24 8) = false ∧ (linked4.link 0).held = [] ∧ (linked4.link 0).restrict = 0 ∧
    linked4.arrivalFault 0 (cell 0x10 0) = none ∧ linkBound (cell 0x10 0) = false ∧ linked.calm ∧ (linked4.link 0).readsSlots = true ∧
    (linked4.readSlot 0 1 []).cut = false ∧ (linked4.readSlot 0 1 []).ended = [] ∧
    slotErrored (linked4.readSlot 0 1 []).slot (linked4.readSlot 0 1 []).decoded = true ∧ linked4.localFault (cell 0x38 0) = none ∧
    ((cell 0x38 0).ack - ({ Link.reset with lastAck := 0 } : Link).lastAck).toNat ≤ (({ Link.reset with nextSeq := 1 } : Link).nextSeq - 1 - 0).toNat ∧
    (∀ k, k < 6 → (tabGet 0 (linked4.link 0).sent k + 65536 - bytesAt (cell 0x39 0).payload (2 * k) 2) % 65536 < 32768) ∧
    cellIs (cell 0x3C 0) 0x3C = true ∧ cellIs (cell 0x3E 0) 0x3E = true := by
  refine ⟨by decide +kernel, by decide +kernel, by decide +kernel, by decide +kernel, by decide +kernel, by decide +kernel, by decide +kernel,
    by decide +kernel, calm_linked, by decide +kernel⟩
theorem test_hyp_LinkSendingActs : (linked.link 0).state = .up ∧ linked.domain 288 ≠ .gated ∧ (linked.setDomain 288 .gated).domain 288 = .gated ∧
    127 ≤ ({ linked.link 0 with sinceCredit := 127 } : Link).sinceCredit ∧ (linked.link 0).sinceCredit < 127 ∧ (linked.link 0).ctl = [] ∧
    (linked.link 0).floods = [] ∧ ({ linked.link 0 with txq := [cell 0x18 0] } : Link).nextClass = some 2 ∧ (linked.link 0).nextClass = none ∧
    (linked.link 0).report = (linked.link 0).reported ∧ linked.linkQuiet 0 = false ∧
    ((linked.setReg (R.link 0 + 0xC) (mapWord [8])).setLane 8 { Lane.reset with txIdle := true }).linkQuiet 0 = true ∧
    0 + linked.fld R.linkCfg 0 8 * 100 ≤ linked.now ∧ linked.fld R.linkCfg 24 8 ≤ 8 ∧ Link.reset.report ≠ Link.reset.reported ∧
    0 + linked.fld R.linkCfg 16 8 * 20 ≤ linked.now := by decide +kernel

/-! The cell switch. -/

/-- The sealed node with link 0 UP and one FM request for node 1 to inject. -/
def switching : State :=
  { sealedNode with csw := { Csw.reset with inject := [withCheck { cell 0x31 0 with dest := 1 }] } } |>.setLink 0 { Link.reset with state := .up }
def contrib : Cell := withCheck { cell 0x18 0 with epoch := true, pkey := 1 }

theorem test_hyp_RoutingFollowsR175 : (routeEntry plate 1).preferred < 32 ∧ switching.takers switching Budget.fresh 0 (cell 0x31 0) = [0] ∧
    switching.seatPort 0 = false ∧ switching.routePort switching Budget.fresh (routeEntry plate 1) (cell 0x31 0) none = some (0, false) := by
  decide +kernel
theorem test_hyp_SwitchMovesCells : ({ running with csw := { Csw.reset with inject := [cell 0x31 0] } } : State).csw.inject = [cell 0x31 0] ∧
    (cell 0x31 0).hchk = headerCheck (cell 0x31 0) ∧ classOfType (cell 0x31 0).typ.toNat = some (cell 0x31 0).cls.toNat ∧
    running.isAged (cell 0x31 0) = false ∧ running.isSealed = false ∧ (cell 0x31 0).cls = 5 ∧ (cell 0x31 0).dest.toNat = running.nodeId ∧
    (∀ n, (running.link n).pool = [] ∧ (running.link n).passed = []) ∧
    switching.versionOf false = none ∧ switching.versionOf true = some plate ∧ switching.mayEnter plate 32 (cell 0x31 0) = true ∧
    switching.limited 32 (cell 0x31 0) = false ∧ switching.senior (cell 0x31 0) = false ∧ (routeEntry plate 1).valid = true ∧
    switching.linkOfPort switching Budget.fresh 0 (cell 0x31 0) = some 0 ∧
    (sealedNode.setLink 0 { Link.reset with pool := [contrib] }).inputCells 0 = [contrib] ∧ contrib.cls = 2 ∧ forEru contrib = true ∧
    contrib.hchk = headerCheck contrib ∧ sealedNode.mayEnter plate 0 contrib = true ∧ sealedNode.limited 0 contrib = false ∧
    (sealedNode.noteSenior contrib).isLost 0 = false ∧ (sealedNode.noteSenior contrib).mayEject plate contrib = 0 ∧
    State.reset.running = false := by
  refine ⟨rfl, by decide +kernel, by decide +kernel, by decide +kernel, rfl, by decide +kernel, by decide +kernel, fun n => ⟨rfl, rfl⟩, by decide +kernel⟩
theorem test_hyp_RatesFollowEchoes : running.running = true ∧ cellIs (cell 0x15 0) 0x15 = true ∧ tabFind running.csw.lastDec 0 = none ∧
    running.now < 0 + running.decGap ∧ 0 + later.echoWaitTime ≤ later.now ∧
    ({ running with csw := { Csw.reset with rates := [(3, 255)] } } : State).rateOf 3 < 256 ∧ 0 + later.incPeriod ≤ later.now ∧
    running.mayWrite 16 R.seatFence :=
  ⟨rfl, by decide +kernel, rfl, by decide +kernel, by decide +kernel, by decide +kernel, by decide +kernel, rfl, .inl rfl, fun c x h => by cases h⟩
/-! Issue. -/

/-- The sealed node with completion queue 0 enabled for window 0. -/
def issuing : State := sealedNode.setReg (R.cqCfg 0) 0x26

/-- A LOAD of one line of this node's region 5 into the next page, and a DISARM of channel 0, from window 0. -/
def loadIssue : Issue :=
  { who := .window 0, cue := false, tag := 0, time := 0
    desc := packBytes 512 [(0, 1, 1), (2, 2, 1), (4, 2, 0xFFFF), (8, 8, 5 * 2 ^ 40), (16, 8, 5 * 2 ^ 40 + 4096), (24, 5, 64)] }
def disarmIssue : Issue :=
  { who := .window 0, cue := false, tag := 0, time := 0, desc := packBytes 512 [(0, 1, 0x41), (2, 2, 1), (30, 2, 2)] }
def loadQueued : Queued := ((issuing.enqueue loadIssue).journalDesc loadIssue).translated (queuedBlank loadIssue)

theorem test_hyp_OpcodeRowsStart :
    ((Instr.load loadIssue).issueOf = some loadIssue ∧ (Instr.load loadIssue).wf issuing.nodeId = true ∧ issuing.running = true ∧ issuing.mayGrant = true ∧
      issuing.waitingAt (queueOf loadIssue.who false) = [] ∧ (issuing.enqueue loadIssue).waitsFreeze loadIssue = false ∧
      (issuing.enqueue loadIssue).opStep loadIssue = none ∧ ((issuing.enqueue loadIssue).journalDesc loadIssue).preCheck loadIssue = none ∧
      (issuing.passed loadIssue).stepWaits loadIssue = false ∧ (issuing.passed loadIssue).cqFree (dQueue loadIssue.desc) = true ∧
      takesTag loadIssue.desc = true ∧ (issuing.passed loadIssue).tagStep ((issuing.passed loadIssue).opFor loadQueued) = none ∧
      (issuing.passed loadIssue).spaceWaits ((issuing.passed loadIssue).opFor loadQueued) = false) ∧
    (Instr.cueArmDisarm disarmIssue).issueOf = some disarmIssue ∧ (Instr.cueArmDisarm disarmIssue).wf issuing.nodeId = true ∧
      issuing.waitingAt (queueOf disarmIssue.who false) = [] ∧ (issuing.enqueue disarmIssue).waitsFreeze disarmIssue = false ∧
      (issuing.enqueue disarmIssue).opStep disarmIssue = none ∧ ((issuing.enqueue disarmIssue).journalDesc disarmIssue).preCheck disarmIssue = none ∧
      (issuing.passed disarmIssue).stepWaits disarmIssue = false ∧ (issuing.passed disarmIssue).cqFree (dQueue disarmIssue.desc) = true ∧
      takesTag disarmIssue.desc = false := by decide +kernel
theorem opcode_row_queue : issuing.passed loadIssue =
    ((issuing.enqueue loadIssue).journalDesc loadIssue).setWaitingAt (queueOf loadIssue.who loadIssue.cue) [loadQueued] := rfl

/-- A cue of window 0 without a counter, eligible since an earlier cycle. -/
def readyCue : Cue := { who := .window 0, time := 0, desc := disarmIssue.desc, since := 0, ready := some 0 }
def cued : State := { running with prm := { Prm.reset with cues := [(5, readyCue)], cycle := 1 } }
/-- A LOAD's operation from tag 7 with a message under way, for the timers and the answers. -/
def waitingOp (kind : OpKind) (m : Msg) : State := { later with xfr := { Xfr.reset with ops := [(7, { opBlank loadIssue kind 0 with msgs := [(0, m)] })] } }

theorem test_hyp_IssueSourcesAct : running.winPresent 0 = true ∧ running.script.holdBells = false ∧
    256 < (bits (257 : Word) 0 16 + 65536 - bits (running.winReg 0 R.sqHead) 0 16) % 65536 ∧
    (bits (256 : Word) 0 16 + 65536 - bits (running.winReg 0 R.sqHead) 0 16) % 65536 ≤ 256 ∧ sealedNode.winFm 1 = false ∧
    2 * running.script.fill < scriptBuffer ∧ running.mayGrant = true ∧ cellIs { cell 0x08 0 with src := 0x4000 } 0x08 = true ∧
    epNode ({ cell 0x08 0 with src := 0x4000 } : Cell).src.toNat = running.nodeId ∧ (powered .sleeping running).kpr.power = .sleeping ∧
    issuing.stepWaits disarmIssue = false ∧ issuing.cqFree (dQueue disarmIssue.desc) = true ∧
    (((waitingOp .load { newMsg 0 64 0 0 false with backoff := some 0 }).op 7).map fun o => o.msgs) =
      some [(0, { newMsg 0 64 0 0 false with backoff := some 0 })] ∧
    ((waitingOp .load { newMsg 0 64 0 0 false with backoff := some 0 }).resendMsg 7 0 64).prm.retries = [] ∧
    (cued.cycleToFire 5 readyCue).paused = false ∧ cued.cueBehind 5 readyCue = false ∧ cued.cueRoom readyCue = true ∧ cued.mayGrant = true := by
  decide +kernel

/-! Transfers and memory. -/

/-- A request head of an operation for region 5, LENGTH 64, from node 0. -/
def request (typ op : Nat) (args : Nat) : Cell := { cell typ (headLine op 0 0 0 (5 * 2 ^ 40) 64 0 0 0 args) with pkey := 1 }
def atomicRequest : Cell := request 0x03 0x10 1
/-- The sealed node with one accepted request under identifier 0 of port 0, of the work under number 0. -/
def lineOf (kind : LineKind) : LineReq := { line := 0, kind := kind, second := false, job := some 0, size := 64, data := 0, host := none }
def acceptedLine (kind : LineKind) : Chan := { Chan.reset with accepted := [{ id := 0, since := 0, addr := 0, code := 0, req := lineOf kind }] }
def answering (kind : LineKind) (use : JobUse) : State :=
  { sealedNode with
      mem := { Mem.reset with chans := [(0, acceptedLine kind)] }
      xfr := { Xfr.reset with jobs := [(0, { use := use, closed := true, left := 1, bad := none, short := 0, unknown := false, got := [] })] } }

theorem fresh_request (c : Cell) (chunk : Nat) (h : hFlag c 0 = false) (h3 : hFlag c 3 = false) : sealedNode.freshRequest c chunk :=
  ⟨rfl, h, rfl, rfl, rfl, rfl, rfl, fun k => by rw [h3] at k; cases k⟩

def madeExec : Exec := { src := 0, tag := 0, orig := 0, chunk := 0, status := 0, reason := 0, atomic := true, value := 9, unknown := false, since := 0 }
theorem test_hyp_DuplicatesAreAnsweredAsRecorded :
    ({ running with xfr := { Xfr.reset with execs := [(0, madeExec)] } } : State).recordFor (request 0x03 0x10 1) 0 = some madeExec ∧
    ({ running with xfr := { Xfr.reset with execs := [(0, madeExec)] } } : State).underWay (request 0x03 0x10 1) 0 = false ∧
    ({ running with xfr := { Xfr.reset with execs := [(0, madeExec)] } } : State).closed 0 0 0 = false ∧ cellIs (request 0x05 5 0) 0x05 = true ∧
    hChunk (request 0x05 5 0) = 0 ∧ cellIs (request 0x28 0x40 0) 0x28 = true := by decide +kernel
theorem test_hyp_AtomicsReadModifyWrite : Memory.wf sealedNode.memory = true ∧ cellIs atomicRequest 0x03 = true ∧ sealedNode.freshRequest atomicRequest 0 ∧
    hOp atomicRequest = 0x10 ∧ (hLow atomicRequest).testBit 12 = false ∧ sealedNode.execFull = false ∧
    (match sealedNode.requested atomicRequest 4 true with
      | .ok (v, g) => decide (offsetOf (hAddr atomicRequest) % 4 = 0) && (sealedNode.channelAnswer v g [0]).isNone && ! sealedNode.poisoned (v.lineAt g.num 0)
      | .error _ => false) = true ∧
    (answering .mergedWrite (.atomic atomicRequest none 0)).portUsed 0 = true ∧
    ((answering .mergedWrite (.atomic atomicRequest none 0)).chan 0).failed = false ∧
    (((answering .mergedWrite (.atomic atomicRequest none 0)).chan 0).accepted.find? fun a => a.id == 0).isSome = true ∧
    (answering .mergedWrite (.atomic atomicRequest none 0)).recordFor atomicRequest 0 = none :=
  ⟨rfl, by decide +kernel, fresh_request _ _ (by decide +kernel) (by decide +kernel), by decide +kernel⟩
theorem test_hyp_TargetsExecuteRequests : cellIs (request 0x01 1 0) 0x01 = true ∧ sealedNode.freshRequest (request 0x01 1 0) 0 ∧
    hChunk (request 0x01 1 0) = 0 ∧ hLen (request 0x01 1 0) = 64 ∧ sealedNode.sealedKey 1 = false ∧
    (match sealedNode.requested (request 0x01 1 0) 64 false with
      | .ok (v, g) => (sealedNode.channelAnswer v g (linesOf 0 64)).isNone && ! sealedNode.rangePoisoned v g 0 64
      | .error _ => false) = true ∧
    (answering .read (.load (request 0x01 1 0) 0 1 none)).portUsed 0 = true ∧ memoryCode 0 0 < 65536 ∧
    sealedNode.inboundFor 0 0 0 = none ∧ ¬ (0x4000 ≤ (cell 0x20 0).src.toNat ∧ epNode (cell 0x20 0).src.toNat = sealedNode.nodeId) ∧
    cellIs (request 0x02 2 0) 0x02 = true ∧ cellIs (request 0x04 4 0) 0x04 = true ∧ badAddress (hArg (request 0x04 4 0) 8 8) = false ∧
    sealedNode.freeTag = some 0 ∧
    (match sealedNode.requested (request 0x04 4 64) (hArg (request 0x04 4 64) 2 5) false with
      | .ok _ => true
      | .error _ => false) = true :=
  ⟨by decide +kernel, fresh_request _ _ (by decide +kernel) (by decide +kernel), by decide +kernel⟩
theorem test_hyp_TargetsAnswerQueriesAndCues : cellIs (request 0x06 0x38 0) 0x06 = true ∧ cellIs (cell 0x07 0) 0x07 = true ∧ bit (cell 0x07 0).payload 13 = false ∧
    (running.outcomeAnswer 0 0 0 0 0).1 = 0 ∧ cellIs (request 0x28 0x40 0) 0x28 = true ∧
    (hFlag (request 0x28 0x40 0) 0 = false) ∧ running.execFull = false ∧ (running.setReg (R.ctrKey 0) 0).ctrDenied 0 0 = false ∧ running.ctrDenied 0 1 = true ∧
    running.prm.keyed.contains 0 = false ∧ running.intm.state ≠ .save ∧
    ({ running with intm := { Intm.reset with state := .frozen } } : State).intm.state = .frozen := by decide +kernel
theorem test_hyp_AnswersReachTheirOperations : ((waitingOp .load (newMsg 0 64 0 0 false)).opByTag 7).isSome = true ∧
    ((opBlank loadIssue .load 0).abortAt = none) ∧ (({ opBlank loadIssue .load 0 with msgs := [(0, newMsg 0 64 0 0 false)] } : Op).chunkAt 0).isSome = true ∧
    (newMsg 0 64 0 0 false).got = [] ∧ (newMsg 0 64 0 0 false).answer = none ∧ seatMem (dDst loadIssue.desc) = false ∧ later.sealedKey 1 = false ∧
    cellIs (cell 0x11 (packBytes 512 [(1, 1, 12)])) 0x11 = true ∧ (newMsg 0 64 0 0 false).busyTries < later.fld R.xfrCfg 12 4 ∧
    ((waitingOp .atom (newMsg 0 64 0 0 false)).opByTag 7).isSome = true ∧ later.opByTag 7 = none := by decide +kernel
theorem test_hyp_TransferTimersEndWhatIsDue : (waitingOp .atom (newMsg 0 8 0 0 false)).running = true ∧
    ((waitingOp .atom (newMsg 0 8 0 0 false)).op 7).isSome = true ∧ 0 + later.opTimeout ≤ later.now ∧ running.now < 0 + running.opTimeout ∧
    tabFind ({ later with xfr := { Xfr.reset with heldTags := [(7, 1)] } } : State).xfr.heldTags 7 = some 1 ∧
    later.ctxBusy 3 = false ∧
    (({ later with xfr := { Xfr.reset with drains := [(.window 0, 0, 5)] } } : State).xfr.drains.find? fun e => decide (e.1 = .window 0)) =
      some (.window 0, 0, 5) := by decide +kernel
theorem test_hyp_CompletionQueuesFollowTheirOwner : issuing.mayWriteCq 0 0 = true ∧ State.foremost issuing 0 (R.cqHead 0) ∧ (issuing.cq 0).waiting = [] ∧
    issuing.srcFm 0 = true ∧ State.writeActs issuing 0 (R.cqCfg 0) ∧ sealedNode.cqEnabled 0 = false ∧ issuing.cqEnabled 0 = true ∧
    bit (0x26 : Word) 5 = true ∧ 6 ≤ bits (0x26 : Word) 0 5 ∧
    (sealedNode.setReg64 (R.cqBase 0) (5 * 2 ^ 40)).ringFits ((sealedNode.setReg64 (R.cqBase 0) (5 * 2 ^ 40)).reg64 (R.cqBase 0)) 6 = true ∧
    sealedNode.mayWriteCq 1 0 = false ∧ sealedNode.srcFm 1 = false ∧ bits (0x40 : Word) 6 4 ≠ sealedNode.cqOwner 0 := by
  refine ⟨by decide +kernel, (fun c x h => by cases h), by decide +kernel, by decide +kernel, ⟨.inl rfl, fun c x h => by cases h⟩, by decide +kernel⟩
theorem test_hyp_ChannelsServeRequests :
    ({ answering .read .chunk with mem := { Mem.reset with chans := [(0, { Chan.reset with ready := true })] } } : State).chanState 0 = 1 ∧
    (({ Chan.reset with ready := true, queue := [{ line := 0, kind := .read, second := false, job := none, size := 64, data := 0, host := none }] } : Chan).next []
      [{ line := 0, kind := .read, second := false, job := none, size := 64, data := 0, host := none }]).isSome = true ∧
    (answering .read .chunk).portUsed 0 = true ∧ (((answering .read .chunk).chan 0).accepted.find? fun x => x.id == 1) = none ∧
    sealedNode.chanState 0 = 2 ∧ sealedNode.memRuns = true ∧ sealedNode.now < (sealedNode.chan 0).holdSince + sealedNode.chanHold ∧
    (0 : Nat) + 0 < 1 ∧ ({ sealedNode with mem := { Mem.reset with zeroing := [5] } } : State).mem.zeroing.contains 5 = true ∧
    (plate.region 5).isSome = true ∧ (tabFind plate.places 5).isSome = true ∧ sealedNode.placeFailed 5 = false ∧ sealedNode.tierFailed false = false := by
  decide +kernel

/-! Cues, collectives, UPDATE, the intermission. -/

def channel : Arr :=
  { owner := 0, pkey := 1, group := 0, ep := 0, pool := true, log2 := 6, base := 5 * 2 ^ 40, count := false, counter := 0, seq := 0, written := 0, consumed := 0 }
def piece : Tracker := { chan := 0, src := 0, tree := 0, tag := 0, root := 0, chunk := 0, len := 64, off := 0, lines := [], ready := true }
/-- Channel 0 armed with a complete piece at a tracker of the pool and at one of seat 0. -/
def arrived : State := { running with prm := { Prm.reset with arrs := [(0, channel)], trackers := [(0, piece), (4096, piece)] } }

theorem test_hyp_PrompterRowsAct : running.mayWrite 16 (R.ctrKey 0) ∧ bits (1 : Word) 0 16 ≠ (running.taken 16 (R.ctrKey 0) 1).fld (R.ctrKey 0) 0 16 ∧
    bits (0xFFFF : Word) 0 16 = (running.taken 16 (R.ctrKey 0) 0xFFFF).fld (R.ctrKey 0) 0 16 ∧ (running.taken 16 (R.ctrKey 0) 1).prm.cues = [] ∧
    arrived.winPresent 0 = true ∧ channel.owner = 0 ∧ sealedNode.srcFm 1 = false ∧ arrived.trackerEp 4096 = arrived.nodeId ∧
    arrived.trackerEp 0 ≠ arrived.nodeId ∧ arrived.pieceAcked (arrived.trackerEp 0) piece = true ∧ channel.unread < channel.size ∧
    arrived.linesQueued piece = false ∧ ({ channel with written := 64 } : Arr).size ≤ ({ channel with written := 64 } : Arr).unread ∧
    running.prm.keyed.contains (0 / 64) = false ∧ (running.setReg (R.ctrKey 0) 0).ctrDenied 0 0 = false ∧ running.ctrDenied 0 1 = true :=
  ⟨⟨rfl, .inl rfl, fun c x h => by cases h⟩, by decide +kernel⟩
theorem test_hyp_CollectiveCellsAreApplied : running.running = true ∧ isGrant (cell 0x11 (packBytes 512 [(0, 1, 4), (1, 1, 1)])) = true ∧
    (grantOf (cell 0x11 (packBytes 512 [(0, 1, 4), (1, 1, 1)]))).isDone = false ∧ (grantOf (cell 0x11 (packBytes 512 [(0, 1, 4)]))).isDone = true ∧
    running.ctxOfInst 0 0 0 = none ∧ cellIs (cell 0x18 0) 0x18 = true ∧ ({ cell 0x1A 0 with mcast := true } : Cell).mcast = true ∧
    bits (cell 0x14 (packBytes 512 [(16, 1, 0x18)])).payload 128 6 = 0x18 ∧ bits (cell 0x14 (packBytes 512 [(16, 1, 0x17)])).payload 128 6 < 0x18 ∧
    bit (cell 0x07 (packBytes 512 [(1, 1, 0x20)])).payload 13 = true := by decide +kernel

/-- A waiting OPEN of a collective with code `op`, and the context that it opens in slot 3. -/
def opening (op : Nat) : Waiting :=
  { stamp := 0, since := 0, issue := { who := .window 0, cue := false, tag := 0, time := 0, desc := packBytes 512 [(0, 1, op), (2, 2, 1)] } }
def openCtx (op : Nat) : Ctx := later.ctxBlank 3 (opening op) plate
def inContext (c : Ctx) : State := { later with col := { Col.reset with ctxs := [(3, c)] } }

theorem test_hyp_ContextTimersAct : later.running = true ∧ later.mayGrant = true ∧ (inContext (openCtx 0x20)).ctx 3 = some (openCtx 0x20) ∧
    (openCtx 0x20).live = true ∧ (openCtx 0x20).code = 0x20 ∧ (openCtx 0x24).code = 0x24 ∧ (openCtx 0x22).code = 0x22 ∧ (openCtx 0x23).code = 0x23 ∧
    (openCtx 0x50).code = 0x50 ∧ (openCtx 0x50).sweeps = [] ∧ 0 + later.ctxTimeout ≤ later.now ∧ running.now < 0 + running.ctxTimeout ∧
    (openCtx 0x20).liveSegs = [] ∧ ({ openCtx 0x24 with release := some 1 } : Ctx).release = some 1 ∧
    ({ openCtx 0x20 with segs := [(2, { segBlank [] with sstate := 2 })] } : Ctx).liveSegs = [] ∧
    (({ openCtx 0x20 with segs := [(2, { segBlank [] with sstate := 2 })] } : Ctx).seg 2).isSome = true ∧
    ({ running with intm := { Intm.reset with state := .hush } } : State).mayGrant = false ∧
    ({ sealedNode with col := { Col.reset with queue := [opening 0x24] } } : State).nextOpen = some (opening 0x24) := by decide +kernel

def update : Update :=
  { issue := (opening 0x30).issue, stamp := 0, block := 0, epoch := false, ctx := none, since := 0, segments := 1, first := 0, elems := 0, applied := 0
    written := 0, spilled := [], spills := 0, ended := false, gate := none, accs := [], norms := [], miss := 0, poison := false, fail := none }
theorem test_hyp_UpdatesRunAndTimeOut : ({ later with upd := { queue := [{ update with block := 1 }] } } : State).upd.queue[0]? = some { update with block := 1 } ∧
    (({ later with upd := { queue := [{ update with block := 1 }] } } : State).runPlaces.any fun y => sameUpdate y { update with block := 1 }) = true ∧
    (({ later with upd := { queue := [update] } } : State).runPlaces.any fun y => sameUpdate y update) = false ∧
    update.gsrc = 0 ∧ update.ctx = none ∧ ({ update with block := 4 } : Update).gateOpen = false ∧ later.mayGrant = true ∧
    0 + later.ctxTimeout ≤ later.now ∧ later.mayWrite 16 (R.cellKey 0) ∧ bits (1 : Word) 0 16 ≠ (later.taken 16 (R.cellKey 0) 1).fld (R.cellKey 0) 0 16 := by
  refine ⟨by decide +kernel, by decide +kernel, by decide +kernel, by decide +kernel, by decide +kernel, by decide +kernel, by decide +kernel,
    by decide +kernel, ⟨rfl, .inl rfl, fun c x h => by cases h⟩, by decide +kernel⟩
/-- The running node in an intermission's state. -/
def paused (i : IntmState) : State := { later with intm := { Intm.reset with state := i } }
theorem test_hyp_IntermissionAdvances : (paused .armed).intm.freeze ≤ (paused .armed).now ∧ (paused .hush).quiet = true ∧
    (paused .hush).intm.freeze + (paused .hush).intm.limit ≤ (paused .hush).now ∧ (paused .hush).xfr.ops = [] ∧ (paused .hush).prm.trackers = [] ∧
    arrived.prm.trackers ≠ [] ∧ (paused .restore).intm.resumeAt ≤ (paused .restore).now ∧ (paused .restore).intm.resume = none ∧
    later.kpr.recheckAt ≠ later.now / 10000 + 1 ∧ later.commits = [] ∧ (later.setReg R.holdup 0x1FFFF).holdupOk 256 = true := by decide +kernel
def commit : Commit := { issue := (opening 0x62).issue, seq := 0, digest := 0, since := 0, slot := false }
theorem test_hyp_CommitAndScriptRowsAct :
    (({ later with commits := [commit] } : State).commits.find? fun x => !x.slot && ({ later with commits := [commit] } : State).commitAccepted x) = some commit ∧
    later.rangeFailed (dDst commit.issue.desc) (dLen commit.issue.desc) = false ∧ later.rangeFailed commit.slotAt 128 = false ∧
    (later.setReg R.holdup 0x1FFFF).holdupOk 128 = true ∧ later.holdupOk 128 = false ∧ later.linesAccepted commit.slotAt 128 = true ∧
    later.mayWrite 16 R.scriptCfg ∧ bit (1 : Word) 0 = true ∧ (later.taken 16 R.scriptCfg 1).scriptOn = false ∧
    (later.taken 16 R.scriptCfg 1).scriptRingOk 0 1 = false ∧ 0 + 1000 ≤ later.now ∧ later.script.fill + 65536 ≤ scriptBuffer := by
  refine ⟨by decide +kernel, by decide +kernel, by decide +kernel, by decide +kernel, by decide +kernel, by decide +kernel,
    ⟨rfl, .inl rfl, fun c x h => by cases h⟩, by decide +kernel⟩

/-! Security, the stage clock, lost nodes, remote access and registers. -/

theorem test_hyp_MailboxAnswers : bit (running.winReg 0 R.mbxStatus) 0 = false ∧ bit ((running.setWinReg 0 R.mbxStatus 1).winReg 0 R.mbxStatus) 0 = true ∧
    (powered .keeper running).running = false ∧ le (running.mbxIn 0 16) 0 2 ≠ 1 ∧
    le ((running.setReg (R.win 0 + R.mbxIn) (1 + 64 * 65536)).mbxIn 0 16) 0 2 = 1 ∧
    some (le ((running.setReg (R.win 0 + R.mbxIn) (1 + 64 * 65536)).mbxIn 0 16) 2 2) = mbxLength 1 := by decide +kernel
theorem test_hyp_SecurityEventsAct :
    ({ running with sec := { Sec.reset with fuse := some { window := 0, slot := 1, key := 7, revoke := false } } } : State).sec.fuse.isSome = true ∧
    (running.signer 1).enrolled = false ∧ ({ later with sec := { Sec.reset with sessions := [⟨1, 0, 0⟩] } } : State).sec.sessions[0]? = some ⟨1, 0, 0⟩ ∧
    0 + later.fld R.secCfg 0 10 * 1000000000 ≤ later.now ∧ running.now < 0 + running.fld R.secCfg 0 10 * 1000000000 ∧ running.railsWhole :=
  ⟨by decide +kernel, by decide +kernel, by decide +kernel, by decide +kernel, by decide +kernel, rails_whole_reset⟩
def parent : Candidate := { heard := 0, locked := true, depth := 0, root := 0, rootPrio := 0, peer := 1 }
theorem test_hyp_StageClockFollows : (linked.link 0).state = .up ∧ (linked.link 0).queued 5 < 8 ∧ tabGet 0 linked.clk.syncAt 0 < linked.syncPeriod 0 ∧
    running.syncPeriod 31 ≤ tabGet 0 running.clk.syncAt 31 ∧ cellIs (cell 0x30 0) 0x30 = true ∧ parent.heard + 300000 ≤ later.now ∧
    running.now < parent.heard + 300000 ∧ running.clk.state = .free ∧ running.noRoot = false ∧ later.clk.freeSince + 1000000 ≤ later.now := by
  decide +kernel
def suspect1 : Suspect := { reqId := 0, since := 0 }
theorem test_hyp_LossIsNoticed : sealedNode.neighbour 1 = true ∧ 0 + later.nodeSilence ≤ later.now ∧ later.answered 1 suspect1 = false ∧
    suspect1.since + later.probeTime ≤ later.now ∧ faultRecKind (cell 0x33 (packBytes 512 [(0, 2, 1), (4, 4, 1), (32, 1, 2)])) 2 = true ∧
    newerSeq running.kpr.lostSeq (cell 0x33 (packBytes 512 [(0, 2, 1), (4, 4, 1), (32, 1, 2)])) = true ∧
    newerSeq [(0, 1)] (cell 0x33 (packBytes 512 [(0, 2, 1), (4, 4, 1), (32, 1, 2)])) = false ∧ running.calm ∧
    sealedNode.isAnchor = true ∧ tabFind sealedNode.kpr.lastBeacon 0 = none ∧ faultRecKind (cell 0x33 (packBytes 512 [(32, 1, 3)])) 3 = true ∧
    plate.anchor 1 = some 1 ∧ ({ later with plt := { Plt.reset with active := some plate } } : State).anchorSilent 0 1 = true ∧
    sealedNode.beaconWaits 1 = false ∧ faultRecKind (cell 0x33 (packBytes 512 [(32, 1, 1)])) 1 = true ∧ cellIs (cell 0x3D 0) 0x3D = true ∧
    bytesAt (cell 0x3D 0).payload 0 1 ≠ 6 := by
  refine ⟨by decide +kernel, by decide +kernel, by decide +kernel, by decide +kernel, by decide +kernel, by decide +kernel, by decide +kernel,
    calm_running, by decide +kernel⟩
theorem test_hyp_RemoteRequestsAreAnswered : running.winFm 0 = true ∧ tabFind running.kpr.fmPending 0 = none ∧ 0 + later.opTimeout ≤ later.now ∧
    running.now < 0 + running.opTimeout ∧ cellIs (cell 0x32 0) 0x32 = true ∧ tabFind running.kpr.suspects 0 = none ∧ fmReqIs (cell 0x31 3) 3 = true ∧
    fmReqIs (cell 0x31 (packBytes 512 [(0, 2, 1), (4, 4, 0x10)])) 1 = true ∧
    running.remoteRefused false (cell 0x31 (packBytes 512 [(0, 2, 1), (4, 4, 0x10)])) = none ∧
    (sealedNode.remoteRefused true { cell 0x31 (packBytes 512 [(0, 2, 2), (4, 4, 0x3000000)]) with src := 1 }).isSome = true := by decide +kernel
theorem test_hyp_CounterReadsByRights : (0x3000018 : BitVec 26).toNat % 4 = 0 ∧ regAccess (R.xfrCount 8) = .rc ∧ R.xfrCount 8 % 4 = 0 ∧
    inWindows (R.xfrCount 8) = false ∧ sealedNode.srcFm 1 = false := by decide +kernel
theorem test_hyp_WindowAccessesAct : R.mapRange ≤ (0x80000 : BitVec 26).toNat ∧ running.mapAccess 0 0x80000 64 = none ∧
    (((sealedNode.setReg (R.win 0 + R.mapRegion) 5).setReg (R.win 0 + R.mapCtl) 1).mapAccess 0 0x80000 64).isSome = true ∧
    (((sealedNode.setReg (R.win 0 + R.mapRegion) 5).setReg (R.win 0 + R.mapCtl) 1).mapFenced plate (regionAt (plate.body 0x104) 0) 0) = false ∧
    plate.mode 1 ≠ 2 ∧ (regionAt (plate.body 0x104) 0).readOnly = false ∧ sealedNode.scriptOn = false ∧
    (plainFields R.kprIdle).isSome = true ∧ ((plainFields R.kprIdle).getD []).all (fits 0) = true ∧ State.foremost running 0 R.kprIdle ∧
    ((plainFields R.linkCfg).getD []).all (fits 0) = false := by
  refine ⟨by decide +kernel, by decide +kernel, by decide +kernel, by decide +kernel, by decide +kernel, by decide +kernel, by decide +kernel,
    by decide +kernel, by decide +kernel, (fun c x h => by cases h), by decide +kernel⟩
theorem test_hyp_SlotSumsAreExact : (∀ a, a ∈ [Addend.finite 3, .negZero, .finite (-3)] → a.proper) ∧ addendFlags [.finite 3, .negZero, .finite (-3)] = 0 ∧
    addendFlags [.special 1, .special 4] = 5 ∧ [Addend.finite 3, .negZero].Perm [.negZero, .finite 3] := by
  refine ⟨?_, by decide +kernel, by decide +kernel, List.Perm.swap _ _ _⟩
  intro a h
  fin_cases h <;> simp [Addend.proper]
theorem test_hyp_MemoryReadsWhatWasWritten : Memory.wf (Memory.set [] 7 1) = true ∧ Memory.wf ([] : List Host.Cell) = true := by decide +kernel

end Sys2Proof.Tests
end

section
/-! The node's position and the cells it makes (R15, R36, R161). -/

namespace Sys2Proof.Machine

theorem bits_lt {n : Nat} (x : BitVec n) (lo len : Nat) : bits x lo len < 2 ^ len :=
  Nat.mod_lt _ (Nat.two_pow_pos len)

/-- Seven strap bits of rack and three of slot give at most 1,023 (R15). -/
theorem State.nodeId_lt (s : State) : s.nodeId < 2 ^ 10 := by
  have hrack : bits s.kpr.straps 0 7 < 2 ^ 7 := bits_lt _ 0 7
  have hslot : bits s.kpr.straps 7 3 < 2 ^ 3 := bits_lt _ 7 3
  unfold State.nodeId
  omega

/-- Only HCHK changes. The check's value is generalized, so that the kernel does not compute it. -/
@[simp] theorem withCheck_src (c : Cell) : (withCheck c).src = c.src := by
  unfold withCheck
  generalize headerCheck c = check
  rfl

@[simp] theorem State.mkCell_src (s : State) (typ dest pkey tag : Nat) (payload : Line) :
    (s.mkCell typ dest pkey tag payload).src = BitVec.ofNat 15 s.nodeId := by
  simp only [State.mkCell, withCheck_src]

/-- The node ID fits the 15 bits of SRC, so the cell names it whole. -/
theorem State.mkCell_src_toNat (s : State) (typ dest pkey tag : Nat) (payload : Line) :
    (s.mkCell typ dest pkey tag payload).src.toNat = s.nodeId := by
  have hfits : s.nodeId < 2 ^ 15 := s.nodeId_lt.trans (by decide)
  rw [State.mkCell_src, BitVec.toNat_ofNat, Nat.mod_eq_of_lt hfits]

/-- Settles O57: the first part is the node ID's definition from the straps; the second needs that it fits the SRC field. -/
theorem nodeIdFromStraps : Obligations.NodeIdFromStraps :=
  fun s => ⟨rfl, s.mkCell_src_toNat⟩

end Sys2Proof.Machine
end

section
/-! The Plate controller's failures in PLT_ERROR (Table 03-13): an OPEN on a pinned standby bank (R72) and the reset of the window that
owns the load (R67). -/

namespace Sys2Proof.Machine

/-! ## PLT_ERROR -/

@[simp] theorem State.pltErr_plt (s : State) (code detail : Nat) : (s.pltErr code detail).plt = s.plt := rfl

/-- Only PLT_ERROR changes. -/
theorem State.reg_pltErr_ne (s : State) (code detail : Nat) {off : Nat} (h : off ≠ R.pltError) : (s.pltErr code detail).reg off = s.reg off :=
  State.reg_setReg_ne s _ h

/-- CODE keeps the low 5 bits; DETAIL, above it, does not reach them. -/
@[simp] theorem State.fld_pltErr_code (s : State) (code detail : Nat) : (s.pltErr code detail).fld R.pltError 0 5 = code % 2 ^ 5 := by
  rw [State.pltErr, State.fld_setReg_self]
  simp only [bits, pack, List.foldl, BitVec.toNat_ofNat]
  omega

/-! ## OPEN -/

/-- OPEN by a window that may ask for it, with the standby bank pinned (R72): nothing but PLT_ERROR. -/
theorem execOpenEng_pinned {w : Win} {s : State} (hfm : s.winFm w = true) (hfree : s.plt.owned = false)
    (hpinned : s.plt.armed = true ∨ s.plt.retiring.isSome = true) : execOpenEng w s = .next (s.pltErr 12 0) := by
  have hallowed : ¬ ((! s.winFm w) = true ∨ s.plt.owned = true) := by simp [hfm, hfree]
  rw [execOpenEng, if_neg hallowed, if_pos hpinned]

/-- Settles O16: the refusal writes PLT_ERROR alone. -/
theorem openWhilePinnedFails : Obligations.OpenWhilePinnedFails := by
  intro w s hfm hfree hpinned
  exact ⟨_, execOpenEng_pinned hfm hfree hpinned, State.fld_pltErr_code .., State.pltErr_plt .., fun _ => State.reg_pltErr_ne s 12 0⟩

/-! ## The reset of a host window -/

@[simp] theorem State.drainAtDeadline_plt (s : State) (d : Drain) : (s.drainAtDeadline d).plt = s.plt := rfl

theorem State.ownsLoad_congr {s t : State} (h : t.plt = s.plt) (w : Nat) : t.ownsLoad w = s.ownsLoad w := by
  simp only [State.ownsLoad, h]

/-- What the reset of a window does to the Plate controller (R67): all that it clears and drains leaves the controller as it was, and
then only a load of this window fails. -/
theorem execHostWindowReset_next {w : Win} {s : State} (h : s.winPresent w = true ∨ s.winFm w = true) :
    ∃ u : State, u.plt = s.plt ∧
      execHostWindowReset w s = .next (if s.ownsLoad w then (u.setPlt s.plt.failed).pltErr 14 0 else u) := by
  have hallowed : ¬ ((! s.winPresent w) = true ∧ (! s.winFm w) = true) := by
    rcases h with h | h <;> simp [h]
  rw [execHostWindowReset, if_neg hallowed]
  extract_lets k mine regs sels latches s1 kpr1 s2 script2 s3 s4
  have hplt : s4.plt = s.plt := by simp [s4, s3, s2, s1]
  exact ⟨s4, hplt, by rw [State.ownsLoad_congr hplt, hplt]⟩

/-- Settles O17: the reset leaves the controller to its last step, where the owner's load fails; a failed load leaves both banks. -/
theorem resetOfOwnerAbandonsLoad : Obligations.ResetOfOwnerAbandonsLoad := by
  intro w s hmay howns _
  obtain ⟨u, -, hexec⟩ := execHostWindowReset_next hmay
  rw [if_pos howns] at hexec
  exact ⟨_, hexec, by simp [Plt.failed]⟩

end Sys2Proof.Machine
end

section
/-! Who clears an RC counter by reading it (R523): the offset of a counter is read plainly, so its word is answered and the source's rights
alone decide whether it is cleared. -/

namespace Sys2Proof.Machine

/-! ## The registers of two words -/

theorem inWindows_iff {off : Nat} : inWindows off = true ↔ 0x3000000 ≤ off ∧ off < 0x4000000 :=
  decide_eq_true_iff

/-- The low words in arithmetic. -/
theorem isLowWord_iff {off : Nat} : isLowWord off = true ↔
    (off = 0x104 ∨ off = 0x10C ∨ off = 0x38C ∨ off = 0x100020 ∨ off = 0x200000 ∨ off = 0x200020 ∨ off = 0x200028 ∨ off = 0x201008 ∨
      off = 0x201010 ∨ off = 0x201018 ∨ off = 0x1C00040 ∨ off = 0x1C00048 ∨ off = 0x2000020 ∨ off = 0x2400050) ∨
    (0x200400 ≤ off ∧ off < 0x200480 ∧ off % 8 = 0) ∨ (0x1000200 ≤ off ∧ off < 0x1000300 ∧ off % 8 = 0) ∨
    (0x800000 ≤ off ∧ off < 0x880000 ∧ (off % 0x4000 = 0x50 ∨ off % 0x4000 = 0x58)) ∨
    (0x1402000 ≤ off ∧ off < 0x1404000 ∧ off % 32 = 0) ∨ (0x1802000 ≤ off ∧ off < 0x1802800 ∧ off % 32 = 8) ∨
    (inWindows off = true ∧ winRel off = R.mapOffset) := by
  simp only [isLowWord, List.contains_eq_mem, List.mem_cons, List.not_mem_nil, or_false, Bool.or_eq_true, Bool.and_eq_true,
    decide_eq_true_eq, beq_iff_eq, or_assoc]

/-- The two-word registers of a link block. -/
theorem isLowWord_link {off : Nat} (hlo : 0x800000 ≤ off) (hhi : off < 0x880000) :
    isLowWord off = decide (off % 0x4000 = 0x50 ∨ off % 0x4000 = 0x58) := by
  rw [Bool.eq_iff_iff, isLowWord_iff, inWindows_iff, decide_eq_true_iff]
  omega

/-- The one two-word register of a host window. -/
theorem isLowWord_window {off : Nat} (hwin : inWindows off = true) : isLowWord off = (winRel off == R.mapOffset) := by
  obtain ⟨hlo, hhi⟩ := inWindows_iff.mp hwin
  rw [Bool.eq_iff_iff, isLowWord_iff, beq_iff_eq, inWindows_iff]
  omega

/-- The lane blocks and their surroundings, from CLK's registers to the link blocks, have none. -/
theorem isLowWord_beforeLinks {off : Nat} (hlo : 0x300000 ≤ off) (hhi : off < 0x800000) : isLowWord off = false := by
  rw [Bool.eq_false_iff, ne_eq, isLowWord_iff, inWindows_iff]
  omega

/-! ## Where the RC registers stand -/

/-- A window counts its violations and nothing else. -/
theorem windowAccess_rc {r : Nat} (h : windowAccess r = .rc) : r = R.hwViol := by
  unfold windowAccess at h
  grind

/-- The counters of a link block lie before its two-word registers. -/
theorem linkAccess_rc_bounds {r : Nat} (h : linkAccess r = .rc) : 0x24 ≤ r ∧ r ≤ 0x48 := by
  unfold linkAccess at h
  grind

/-- Where an RC register can stand: the violation counter of a window, the counters of a lane block or a link block, and the RC ranges of the
tables. -/
theorem regAccess_rc_cases {off : Nat} (h : regAccess off = .rc) :
    (inWindows off = true ∧ winRel off = R.hwViol) ∨
    (inWindows off = false ∧
      ((0x400000 ≤ off ∧ off < 0x448000 ∧ laneAccess ((off - 0x400000) % 0x400) = .rc) ∨
       (0x800000 ≤ off ∧ off < 0x880000 ∧ linkAccess (off % 0x4000) = .rc) ∨
       ∃ r ∈ accessRanges, r.2.2 = .rc ∧ r.1 ≤ off ∧ off ≤ r.2.1)) := by
  unfold regAccess at h
  split at h
  case isTrue hwin => exact .inl ⟨hwin, windowAccess_rc h⟩
  case isFalse hwin =>
    refine .inr ⟨by simpa using hwin, ?_⟩
    split at h
    case isTrue hlane => exact .inl ⟨hlane.1, hlane.2, h⟩
    split at h
    case isTrue hlink => exact .inr (.inl ⟨hlink.1, hlink.2, h⟩)
    -- The arrays of completion queues, arrivals and signers hold no counter.
    split at h
    · split_ifs at h
    split at h
    · split_ifs at h
    split at h
    · split_ifs at h
    cases hfind : accessRanges.find? fun r => decide (r.1 ≤ off ∧ off ≤ r.2.1) with
    | none =>
      rw [hfind] at h
      cases h
    | some r =>
      rw [hfind] at h
      have hin : r.1 ≤ off ∧ off ≤ r.2.1 := by simpa using List.find?_some hfind
      exact .inr (.inr ⟨r, List.mem_of_find?_eq_some hfind, h, hin⟩)

/-! ## A counter is read plainly -/

/-- The offset is no half of a two-word register (R7) and no word of the fault log: reading it latches nothing, answers no latch and marks
no log entry. -/
def readsPlainly (off : Nat) : Bool :=
  ! isLowWord off && ! isHighWord off && ! decide (R.faultLog ≤ off ∧ off < R.faultLog + 32)

theorem readsPlainly_iff {off : Nat} :
    readsPlainly off = true ↔ isLowWord off = false ∧ isHighWord off = false ∧ ¬ (R.faultLog ≤ off ∧ off < R.faultLog + 32) := by
  simp only [readsPlainly, Bool.and_eq_true, Bool.not_eq_true', decide_eq_false_iff_not, and_assoc]

/-- Past the fault log only the two-word registers matter. -/
theorem readsPlainly_of_ge {off : Nat} (hge : R.faultLog + 32 ≤ off) (hlow : isLowWord off = false) (hhigh : isLowWord (off - 4) = false) :
    readsPlainly off = true :=
  readsPlainly_iff.mpr ⟨hlow, by simp [isHighWord, hhigh], by omega⟩

theorem readsPlainly_of_hwViol {off : Nat} (hwin : inWindows off = true) (h : winRel off = R.hwViol) : readsPlainly off = true := by
  obtain ⟨hlo, hhi⟩ := inWindows_iff.mp hwin
  have hrel : off % 0x100000 = 0xC030 := h
  have hbefore : winRel (off - 4) = 0xC02C := by
    unfold winRel
    omega
  have hwin4 : inWindows (off - 4) = true := inWindows_iff.mpr (by omega)
  refine readsPlainly_of_ge (by simp only [R.faultLog]; omega) ?_ ?_
  · rw [isLowWord_window hwin, h]
    decide
  · rw [isLowWord_window hwin4, hbefore]
    decide

theorem readsPlainly_of_lane {off : Nat} (hlo : 0x400000 ≤ off) (hhi : off < 0x448000) : readsPlainly off = true :=
  readsPlainly_of_ge (by simp only [R.faultLog]; omega) (isLowWord_beforeLinks (by omega) (by omega))
    (isLowWord_beforeLinks (by omega) (by omega))

theorem readsPlainly_of_linkCounter {off : Nat} (hlo : 0x800000 ≤ off) (hhi : off < 0x880000)
    (h : linkAccess (off % 0x4000) = .rc) : readsPlainly off = true := by
  obtain ⟨hmin, hmax⟩ := linkAccess_rc_bounds h
  refine readsPlainly_of_ge (by simp only [R.faultLog]; omega) ?_ ?_
  · rw [isLowWord_link hlo hhi]
    exact decide_eq_false (by omega)
  · rw [isLowWord_link (by omega) (by omega)]
    exact decide_eq_false (by omega)

/-- Every word of every RC range of the tables, one by one. -/
theorem readsPlainly_of_rcRange : ∀ r ∈ accessRanges, r.2.2 = .rc →
    r.1 % 4 = 0 ∧ ∀ k < (r.2.1 - r.1) / 4 + 1, readsPlainly (r.1 + 4 * k) = true := by
  decide +kernel

theorem readsPlainly_of_rc {off : Nat} (haligned : off % 4 = 0) (h : regAccess off = .rc) : readsPlainly off = true := by
  obtain ⟨hwin, hviol⟩ | ⟨-, ⟨hlo, hhi, -⟩ | ⟨hlo, hhi, hlink⟩ | ⟨r, hmem, hrc, hlo, hhi⟩⟩ := regAccess_rc_cases h
  · exact readsPlainly_of_hwViol hwin hviol
  · exact readsPlainly_of_lane hlo hhi
  · exact readsPlainly_of_linkCounter hlo hhi hlink
  · obtain ⟨hbase, hwords⟩ := readsPlainly_of_rcRange r hmem hrc
    have hword : off = r.1 + 4 * ((off - r.1) / 4) := by omega
    rw [hword]
    exact hwords _ (by omega)

/-- No counter stands in a window's mapping range. -/
theorem winRel_lt_mapRange_of_rc {off : Nat} (h : regAccess off = .rc) (hwin : inWindows off = true) : winRel off < R.mapRange := by
  obtain ⟨-, hviol⟩ | ⟨hout, -⟩ := regAccess_rc_cases h
  · rw [hviol]
    decide
  · exact absurd (hwin.symm.trans hout) (by decide)

/-! ## The read of a counter -/

/-- A counter that a source reaches: of a window's registers, only those of its own. -/
theorem State.regRead_of_rc {a off : Nat} (s : State) (haligned : off % 4 = 0) (hrc : regAccess off = .rc)
    (hown : inWindows off = true → winOf off = a) : s.regRead a off = (s.regWord a off, s.readEffects a off) := by
  obtain ⟨-, hhigh, -⟩ := readsPlainly_iff.mp (readsPlainly_of_rc haligned hrc)
  have hmine : (inWindows off && winOf off != a && (! s.srcFm a || decide (R.mapRange ≤ winRel off))) = false := by
    cases hwin : inWindows off <;> simp [hown, hwin]
  have hunmapped : (inWindows off && decide (R.mapRange ≤ winRel off)) = false := by
    cases hwin : inWindows off <;> simp [winRel_lt_mapRange_of_rc hrc, hwin]
  simp [State.regRead, haligned, hmine, hunmapped, hhigh]

/-- R523: the rights of the source decide. -/
theorem State.readEffects_reg_of_rc {a off : Nat} (s : State) (haligned : off % 4 = 0) (hrc : regAccess off = .rc) :
    (s.readEffects a off).reg off = if s.srcFm a then 0 else s.reg off := by
  obtain ⟨hlow, -, hlog⟩ := readsPlainly_iff.mp (readsPlainly_of_rc haligned hrc)
  rw [State.readEffects, if_neg (by simp [hlow]), if_neg hlog]
  simp only [hrc, true_and, apply_ite fun t : State => t.reg off, State.tookFree_reg, State.reg_setReg_self, ite_self]

@[simp] theorem State.answerRead_hostRead_self (s : State) (w : Nat) (l : Line) : tabGet 0 (s.answerRead w l).hostRead w = l :=
  tabGet_set_self ..

/-- Settles O55: both parts are the same read of a counter; a window that is no fabric manager's lacks the right that another node's read
has. -/
theorem counterReadsByRights : Obligations.CounterReadsByRights := by
  refine ⟨fun w off s haligned hrc hown hfm => ⟨_, rfl, ?_, ?_⟩, fun off s haligned hrc hout => ?_⟩
  · rw [State.answerRead_hostRead_self, State.regRead_of_rc s haligned hrc hown]
  · rw [State.answerRead_reg, State.regRead_of_rc s haligned hrc hown, State.readEffects_reg_of_rc s haligned hrc]
    simp [hfm]
  · have hown : inWindows off = true → winOf off = 16 := fun hwin => absurd (hwin.symm.trans hout) (by decide)
    rw [State.regRead_of_rc s haligned hrc hown]
    exact ⟨rfl, by rw [State.readEffects_reg_of_rc s haligned hrc, State.srcFm]; rfl⟩

end Sys2Proof.Machine
end

section
/-! The frame of every command, from the frames of the functions that give the rows their meaning, and what follows from it. -/

namespace Sys2Proof.Machine

/-- The parts that a command may change, as a mask. -/
def mayChangeMask (c : Instr) (p : StateField) : Bool := (mayChange c).contains p

theorem mayChangeMask_eq_false {c : Instr} {p : StateField} : mayChangeMask c p = false ↔ p ∉ mayChange c := by
  simp [mayChangeMask]

/-- One case per row: the row's frame holds for every mask that covers the parts it names, and `mayChange` lists them. -/
theorem exec_keeps (c : Instr) (s : State) : State.Keeps (mayChangeMask c) s (exec c s) := by
  cases c with
  | keeperPowerOnReset straps => exact execKeeperPowerOnReset_mask _ straps s rfl rfl rfl rfl rfl rfl rfl rfl rfl rfl rfl rfl rfl rfl rfl rfl rfl rfl rfl rfl rfl rfl rfl rfl
  | nodeReset src => exact execNodeReset_mask _ src s rfl rfl rfl rfl rfl rfl rfl rfl rfl rfl rfl rfl rfl rfl rfl rfl rfl rfl rfl rfl rfl rfl
  | hostWindowReset w => exact execHostWindowReset_mask _ w s rfl rfl rfl rfl rfl rfl rfl
  | firmwareBoot image => exact execFirmwareBoot_mask _ image s rfl rfl rfl
  | run w => exact execRun_mask _ w s rfl rfl rfl
  | wakeTablesReady => exact execWakeTablesReady_mask _ s rfl rfl rfl rfl rfl rfl rfl rfl rfl rfl rfl rfl rfl rfl rfl rfl rfl rfl rfl rfl rfl rfl rfl
  | sleep w => exact execSleep_mask _ w s rfl rfl rfl rfl rfl rfl rfl rfl rfl rfl rfl
  | sleepEntryDone => exact execSleepEntryDone_mask _ s rfl rfl rfl rfl rfl rfl rfl rfl rfl rfl rfl rfl rfl rfl rfl rfl rfl rfl
  | faultSourceAssert src t c unit detail => exact execFaultSourceAssert_mask _ src t c unit detail s rfl rfl rfl rfl rfl rfl rfl rfl rfl
  | railBreak src => exact execRailBreak_mask _ src s rfl rfl rfl rfl rfl rfl rfl
  | railTest src first second => exact execRailTest_mask _ src first second s rfl rfl rfl rfl rfl rfl rfl
  | faultActiveClear a word value => exact execFaultActiveClear_mask _ a word value s rfl rfl
  | powerFailWarning => exact execPowerFailWarning_mask _ s rfl rfl rfl rfl rfl rfl rfl
  | refClockLost => exact execRefClockLost_mask _ s rfl rfl rfl rfl rfl rfl rfl
  | tempSample temps => exact execTempSample_mask _ temps s rfl rfl rfl rfl rfl rfl rfl
  | throttleStep => exact execThrottleStep_mask _ s rfl
  | sidebandInput i0 => exact execSidebandInput_mask _ i0 s rfl rfl
  | domainGate d stopped => exact execDomainGate_mask _ d stopped s rfl rfl rfl rfl
  | domainWake d => exact execDomainWake_mask _ d s rfl rfl rfl rfl
  | syncWake n => exact execSyncWake_mask _ n s rfl rfl rfl rfl
  | openEng w => exact execOpenEng_mask _ w s rfl rfl
  | pltEngLenWrite w value => exact execPltEngLenWrite_mask _ w value s rfl rfl
  | engraveWord w value => exact execEngraveWord_mask _ w value s rfl rfl rfl
  | closeEng w => exact execCloseEng_mask _ w s rfl rfl rfl
  | verificationDone => exact execVerificationDone_mask _ s rfl rfl rfl
  | cancel w => exact execCancel_mask _ w s rfl rfl rfl
  | sealPlate w => exact execSealPlate_mask _ w s rfl rfl rfl rfl rfl rfl rfl rfl rfl rfl rfl
  | arm a => exact execArm_mask _ a s rfl rfl rfl
  | disarm a => exact execDisarm_mask _ a s rfl rfl rfl
  | flip => exact execFlip_mask _ s rfl rfl rfl rfl rfl rfl rfl rfl rfl rfl rfl rfl rfl
  | retireRelease => exact execRetireRelease_mask _ s rfl rfl rfl rfl rfl rfl rfl rfl rfl rfl
  | proofSweep i0 => exact execProofSweep_mask _ i0 s rfl rfl rfl rfl rfl rfl rfl rfl rfl rfl rfl rfl rfl rfl rfl rfl rfl rfl rfl
  | sweepRx c => exact execSweepRx_mask _ c s rfl rfl rfl rfl rfl rfl rfl rfl rfl rfl rfl rfl rfl rfl rfl rfl
  | sweepResend k => exact execSweepResend_mask _ k s rfl rfl
  | trainingFrameRx l frame ppm => exact execTrainingFrameRx_mask _ l frame ppm s rfl rfl rfl rfl rfl rfl rfl rfl
  | laneLocked l met => exact execLaneLocked_mask _ l met s rfl rfl rfl rfl rfl rfl rfl rfl
  | trainTimeout l => exact execTrainTimeout_mask _ l s rfl rfl rfl rfl rfl rfl rfl rfl
  | los l => exact execLos_mask _ l s rfl rfl rfl rfl rfl rfl rfl rfl
  | lol l => exact execLol_mask _ l s rfl rfl rfl rfl rfl rfl rfl rfl
  | fecLimit l word more => exact execFecLimit_mask _ l word more s rfl rfl rfl rfl rfl rfl rfl rfl
  | standbyCheck l => exact execStandbyCheck_mask _ l s rfl rfl rfl rfl rfl rfl rfl rfl
  | wakeFailure l => exact execWakeFailure_mask _ l s rfl rfl rfl rfl rfl rfl rfl rfl
  | forceFail a l => exact execForceFail_mask _ a l s rfl rfl rfl rfl rfl rfl rfl rfl rfl
  | clearFail a l => exact execClearFail_mask _ a l s rfl rfl rfl rfl rfl rfl rfl rfl
  | laneRetrain a l => exact execLaneRetrain_mask _ a l s rfl rfl rfl rfl rfl rfl rfl rfl rfl
  | txIdleEnter l => exact execTxIdleEnter_mask _ l s rfl rfl
  | signalDetect l => exact execSignalDetect_mask _ l s rfl rfl rfl rfl
  | engineBringup e revision moduleState activated => exact execEngineBringup_mask _ e revision moduleState activated s rfl rfl rfl rfl rfl rfl rfl rfl
  | enginePoll e flags => exact execEnginePoll_mask _ e flags s rfl rfl rfl rfl rfl rfl rfl rfl
  | engineInterrupt e flags => exact execEngineInterrupt_mask _ e flags s rfl rfl rfl rfl rfl rfl rfl rfl
  | cmisReadGo a value => exact execCmisReadGo_mask _ a value s rfl rfl
  | cmisReadDone b => exact execCmisReadDone_mask _ b s rfl
  | scanStart a l value => exact execScanStart_mask _ a l value s rfl rfl rfl
  | scanStop a l => exact execScanStop_mask _ a l s rfl rfl rfl
  | scanDone l errors => exact execScanDone_mask _ l errors s rfl
  | linkTxSlot n => exact execLinkTxSlot_mask _ n s rfl rfl rfl rfl rfl rfl rfl rfl rfl
  | sequencedCellRx n form parts => exact execSequencedCellRx_mask _ n form parts s rfl rfl rfl rfl rfl rfl rfl rfl
  | nullCellRx n c => exact execNullCellRx_mask _ n c s rfl rfl rfl rfl rfl rfl rfl rfl
  | ackCellRx n c => exact execAckCellRx_mask _ n c s rfl rfl rfl rfl rfl rfl rfl rfl
  | creditCellRx n c => exact execCreditCellRx_mask _ n c s rfl rfl rfl rfl rfl rfl rfl rfl
  | identRx n c => exact execIdentRx_mask _ n c s rfl rfl rfl rfl rfl rfl rfl rfl rfl
  | retrainCellRx n c => exact execRetrainCellRx_mask _ n c s rfl rfl rfl rfl rfl rfl rfl rfl
  | downCellRx n c => exact execDownCellRx_mask _ n c s rfl rfl rfl rfl rfl rfl rfl rfl rfl rfl rfl rfl rfl rfl rfl rfl rfl
  | protestRx n c => exact execProtestRx_mask _ n c s rfl rfl rfl rfl rfl rfl rfl rfl
  | replayTimeout n => exact execReplayTimeout_mask _ n s rfl rfl rfl rfl rfl rfl rfl rfl
  | ackDelay n => exact execAckDelay_mask _ n s rfl rfl rfl rfl rfl
  | trainComplete n => exact execTrainComplete_mask _ n s rfl rfl rfl rfl rfl rfl rfl rfl
  | identLimit n => exact execIdentLimit_mask _ n s rfl rfl rfl rfl rfl rfl rfl rfl
  | retrainLimit n => exact execRetrainLimit_mask _ n s rfl rfl rfl rfl rfl rfl rfl rfl
  | realignDone n words => exact execRealignDone_mask _ n words s rfl rfl rfl rfl rfl rfl rfl rfl
  | realignTimeout n => exact execRealignTimeout_mask _ n s rfl rfl rfl rfl rfl rfl rfl rfl
  | linkRetrain a n => exact execLinkRetrain_mask _ a n s rfl rfl rfl rfl rfl rfl rfl rfl rfl
  | restart a n => exact execRestart_mask _ a n s rfl rfl rfl rfl rfl rfl rfl rfl rfl
  | forceDown a n => exact execForceDown_mask _ a n s rfl rfl rfl rfl rfl rfl rfl rfl rfl
  | clearRestrict a n => exact execClearRestrict_mask _ a n s rfl rfl rfl rfl rfl rfl rfl rfl
  | linkDisable a n value => exact execLinkDisable_mask _ a n value s rfl rfl rfl rfl rfl rfl rfl rfl
  | linkEnable a n value => exact execLinkEnable_mask _ a n value s rfl rfl rfl rfl rfl rfl rfl rfl rfl
  | linkDrainDeadline n => exact execLinkDrainDeadline_mask _ n s rfl rfl rfl rfl rfl rfl rfl rfl
  | cellOutputChoice => exact execCellOutputChoice_mask _ s rfl rfl rfl rfl rfl rfl rfl rfl rfl rfl rfl rfl rfl rfl rfl rfl
  | deferredEjection n => exact execDeferredEjection_mask _ n s rfl rfl rfl rfl rfl rfl rfl rfl rfl rfl rfl rfl rfl rfl rfl rfl
  | echoRx c => exact execEchoRx_mask _ c s rfl rfl
  | echoWait node => exact execEchoWait_mask _ node s rfl rfl
  | incPeriod node => exact execIncPeriod_mask _ node s rfl
  | seatFenceWrite a value => exact execSeatFenceWrite_mask _ a value s rfl rfl rfl rfl rfl rfl rfl rfl
  | doorbell w value => exact execDoorbell_mask _ w value s rfl rfl rfl rfl rfl rfl rfl rfl rfl rfl rfl rfl rfl rfl rfl rfl rfl rfl rfl
  | descRx c => exact execDescRx_mask _ c s rfl rfl rfl rfl rfl rfl rfl rfl rfl rfl rfl rfl rfl rfl rfl rfl rfl rfl rfl
  | issueResume who => exact execIssueResume_mask _ who s rfl rfl rfl rfl rfl rfl rfl rfl rfl rfl rfl rfl rfl rfl rfl rfl rfl rfl rfl
  | load i0 => exact execLoad_mask _ i0 s rfl rfl rfl rfl rfl rfl rfl rfl rfl rfl rfl rfl rfl rfl rfl rfl rfl rfl rfl
  | store i0 => exact execStore_mask _ i0 s rfl rfl rfl rfl rfl rfl rfl rfl rfl rfl rfl rfl rfl rfl rfl rfl rfl rfl rfl
  | storeOrd i0 => exact execStoreOrd_mask _ i0 s rfl rfl rfl rfl rfl rfl rfl rfl rfl rfl rfl rfl rfl rfl rfl rfl rfl rfl rfl
  | copy i0 => exact execCopy_mask _ i0 s rfl rfl rfl rfl rfl rfl rfl rfl rfl rfl rfl rfl rfl rfl rfl rfl rfl rfl rfl
  | fill i0 => exact execFill_mask _ i0 s rfl rfl rfl rfl rfl rfl rfl rfl rfl rfl rfl rfl rfl rfl rfl rfl rfl rfl rfl
  | atomIadd i0 => exact execAtomIadd_mask _ i0 s rfl rfl rfl rfl rfl rfl rfl rfl rfl rfl rfl rfl rfl rfl rfl rfl rfl rfl rfl
  | atomCas i0 => exact execAtomCas_mask _ i0 s rfl rfl rfl rfl rfl rfl rfl rfl rfl rfl rfl rfl rfl rfl rfl rfl rfl rfl rfl
  | atomSwap i0 => exact execAtomSwap_mask _ i0 s rfl rfl rfl rfl rfl rfl rfl rfl rfl rfl rfl rfl rfl rfl rfl rfl rfl rfl rfl
  | atomFaddF i0 => exact execAtomFaddF_mask _ i0 s rfl rfl rfl rfl rfl rfl rfl rfl rfl rfl rfl rfl rfl rfl rfl rfl rfl rfl rfl
  | atomFaddXAdd i0 => exact execAtomFaddXAdd_mask _ i0 s rfl rfl rfl rfl rfl rfl rfl rfl rfl rfl rfl rfl rfl rfl rfl rfl rfl rfl rfl
  | atomFaddXRead i0 => exact execAtomFaddXRead_mask _ i0 s rfl rfl rfl rfl rfl rfl rfl rfl rfl rfl rfl rfl rfl rfl rfl rfl rfl rfl rfl
  | atomFaddXClear i0 => exact execAtomFaddXClear_mask _ i0 s rfl rfl rfl rfl rfl rfl rfl rfl rfl rfl rfl rfl rfl rfl rfl rfl rfl rfl rfl
  | outcome i0 => exact execOutcome_mask _ i0 s rfl rfl rfl rfl rfl rfl rfl rfl rfl rfl rfl rfl rfl rfl rfl rfl rfl rfl rfl
  | abort i0 => exact execAbort_mask _ i0 s rfl rfl rfl rfl rfl rfl rfl rfl rfl rfl rfl rfl rfl rfl rfl rfl rfl rfl rfl
  | abortContext i0 => exact execAbortContext_mask _ i0 s rfl rfl rfl rfl rfl rfl rfl rfl rfl rfl rfl rfl rfl rfl rfl rfl rfl rfl rfl
  | cueAdd i0 => exact execCueAdd_mask _ i0 s rfl rfl rfl rfl rfl rfl rfl rfl rfl rfl rfl rfl rfl rfl rfl rfl rfl rfl rfl
  | cueArmCues i0 => exact execCueArmCues_mask _ i0 s rfl rfl rfl rfl rfl rfl rfl rfl rfl rfl rfl rfl rfl rfl rfl rfl rfl rfl rfl
  | cueArmArrival i0 => exact execCueArmArrival_mask _ i0 s rfl rfl rfl rfl rfl rfl rfl rfl rfl rfl rfl rfl rfl rfl rfl rfl rfl rfl rfl
  | cueArmDisarm i0 => exact execCueArmDisarm_mask _ i0 s rfl rfl rfl rfl rfl rfl rfl rfl rfl rfl rfl rfl rfl rfl rfl rfl rfl rfl rfl
  | redInOpen i0 => exact execRedInOpen_mask _ i0 s rfl rfl rfl rfl rfl rfl rfl rfl rfl rfl rfl rfl rfl rfl rfl rfl rfl rfl rfl
  | redInMember i0 => exact execRedInMember_mask _ i0 s rfl rfl rfl rfl rfl rfl rfl rfl rfl rfl rfl rfl rfl rfl rfl rfl rfl rfl rfl
  | redOut i0 => exact execRedOut_mask _ i0 s rfl rfl rfl rfl rfl rfl rfl rfl rfl rfl rfl rfl rfl rfl rfl rfl rfl rfl rfl
  | allgatherOpen i0 => exact execAllgatherOpen_mask _ i0 s rfl rfl rfl rfl rfl rfl rfl rfl rfl rfl rfl rfl rfl rfl rfl rfl rfl rfl rfl
  | allgatherMember i0 => exact execAllgatherMember_mask _ i0 s rfl rfl rfl rfl rfl rfl rfl rfl rfl rfl rfl rfl rfl rfl rfl rfl rfl rfl rfl
  | bcastOpen i0 => exact execBcastOpen_mask _ i0 s rfl rfl rfl rfl rfl rfl rfl rfl rfl rfl rfl rfl rfl rfl rfl rfl rfl rfl rfl
  | bcastMember i0 => exact execBcastMember_mask _ i0 s rfl rfl rfl rfl rfl rfl rfl rfl rfl rfl rfl rfl rfl rfl rfl rfl rfl rfl rfl
  | alltoallOpen i0 => exact execAlltoallOpen_mask _ i0 s rfl rfl rfl rfl rfl rfl rfl rfl rfl rfl rfl rfl rfl rfl rfl rfl rfl rfl rfl
  | alltoallMember i0 => exact execAlltoallMember_mask _ i0 s rfl rfl rfl rfl rfl rfl rfl rfl rfl rfl rfl rfl rfl rfl rfl rfl rfl rfl rfl
  | barrierOpen i0 => exact execBarrierOpen_mask _ i0 s rfl rfl rfl rfl rfl rfl rfl rfl rfl rfl rfl rfl rfl rfl rfl rfl rfl rfl rfl
  | barrierMember i0 => exact execBarrierMember_mask _ i0 s rfl rfl rfl rfl rfl rfl rfl rfl rfl rfl rfl rfl rfl rfl rfl rfl rfl rfl rfl
  | normOpen i0 => exact execNormOpen_mask _ i0 s rfl rfl rfl rfl rfl rfl rfl rfl rfl rfl rfl rfl rfl rfl rfl rfl rfl rfl rfl
  | normMember i0 => exact execNormMember_mask _ i0 s rfl rfl rfl rfl rfl rfl rfl rfl rfl rfl rfl rfl rfl rfl rfl rfl rfl rfl rfl
  | update i0 => exact execUpdate_mask _ i0 s rfl rfl rfl rfl rfl rfl rfl rfl rfl rfl rfl rfl rfl rfl rfl rfl rfl rfl rfl
  | digestRegion i0 => exact execDigestRegion_mask _ i0 s rfl rfl rfl rfl rfl rfl rfl rfl rfl rfl rfl rfl rfl rfl rfl rfl rfl rfl rfl
  | digestVerify i0 => exact execDigestVerify_mask _ i0 s rfl rfl rfl rfl rfl rfl rfl rfl rfl rfl rfl rfl rfl rfl rfl rfl rfl rfl rfl
  | sealRecord i0 => exact execSealRecord_mask _ i0 s rfl rfl rfl rfl rfl rfl rfl rfl rfl rfl rfl rfl rfl rfl rfl rfl rfl rfl rfl
  | intermission i0 => exact execIntermission_mask _ i0 s rfl rfl rfl rfl rfl rfl rfl rfl rfl rfl rfl rfl rfl rfl rfl rfl rfl rfl rfl
  | resume i0 => exact execResume_mask _ i0 s rfl rfl rfl rfl rfl rfl rfl rfl rfl rfl rfl rfl rfl rfl rfl rfl rfl rfl rfl
  | commit i0 => exact execCommit_mask _ i0 s rfl rfl rfl rfl rfl rfl rfl rfl rfl rfl rfl rfl rfl rfl rfl rfl rfl rfl rfl
  | commitSlotWrite => exact execCommitSlotWrite_mask _ s rfl rfl rfl rfl rfl rfl rfl rfl rfl rfl rfl rfl rfl
  | holdupRecheck => exact execHoldupRecheck_mask _ s rfl rfl rfl rfl rfl rfl rfl rfl rfl rfl rfl rfl rfl rfl
  | loadReqRx c => exact execLoadReqRx_mask _ c s rfl rfl rfl rfl rfl rfl rfl rfl rfl rfl rfl rfl rfl
  | storeDataRx c => exact execStoreDataRx_mask _ c s rfl rfl rfl rfl rfl rfl rfl rfl rfl rfl rfl rfl rfl
  | bulkDataRx c => exact execBulkDataRx_mask _ c s rfl rfl rfl rfl rfl rfl rfl rfl rfl rfl rfl rfl rfl
  | atomicReqRx c => exact execAtomicReqRx_mask _ c s rfl rfl rfl rfl rfl rfl rfl rfl rfl rfl rfl rfl rfl
  | copyFwdRx c => exact execCopyFwdRx_mask _ c s rfl rfl rfl rfl rfl rfl rfl rfl rfl rfl rfl rfl rfl
  | fillReqRx c => exact execFillReqRx_mask _ c s rfl rfl rfl rfl rfl rfl rfl rfl rfl rfl rfl rfl rfl
  | outcomeReqRx c => exact execOutcomeReqRx_mask _ c s rfl rfl rfl rfl rfl rfl rfl rfl rfl rfl rfl rfl rfl
  | abortReqRx c => exact execAbortReqRx_mask _ c s rfl rfl rfl rfl rfl rfl rfl rfl rfl rfl rfl rfl rfl
  | collectiveAbortReqRx c => exact execCollectiveAbortReqRx_mask _ c s rfl rfl rfl rfl rfl rfl rfl rfl rfl rfl rfl rfl rfl rfl rfl rfl
  | loadDataRx c => exact execLoadDataRx_mask _ c s rfl rfl rfl rfl rfl rfl rfl rfl rfl rfl rfl rfl
  | completionChunkRx c => exact execCompletionChunkRx_mask _ c s rfl rfl rfl rfl rfl rfl rfl rfl rfl rfl rfl rfl rfl
  | atomicRspRx c => exact execAtomicRspRx_mask _ c s rfl rfl rfl rfl rfl rfl rfl rfl rfl rfl rfl rfl
  | outcomeRspRx c => exact execOutcomeRspRx_mask _ c s rfl rfl rfl rfl rfl rfl rfl rfl rfl rfl rfl rfl
  | noticeRx c => exact execNoticeRx_mask _ c s rfl rfl rfl rfl rfl rfl rfl rfl rfl rfl rfl rfl rfl rfl rfl rfl
  | operationTimeout tag => exact execOperationTimeout_mask _ tag s rfl rfl rfl rfl rfl rfl rfl rfl rfl rfl rfl rfl rfl
  | busyBackoff tag => exact execBusyBackoff_mask _ tag s rfl rfl rfl rfl rfl rfl rfl rfl rfl rfl rfl rfl rfl rfl rfl rfl rfl rfl rfl
  | tagReuseHold tag => exact execTagReuseHold_mask _ tag s rfl
  | orderingContextRelease k => exact execOrderingContextRelease_mask _ k s rfl
  | cqHeadWrite a q value => exact execCqHeadWrite_mask _ a q value s rfl rfl rfl rfl rfl
  | cqEnable a q value => exact execCqEnable_mask _ a q value s rfl rfl rfl rfl rfl rfl rfl rfl rfl
  | cqDisable a q value => exact execCqDisable_mask _ a q value s rfl rfl rfl rfl rfl rfl rfl rfl rfl
  | drainDeadline d => exact execDrainDeadline_mask _ d s rfl rfl rfl rfl rfl rfl rfl rfl rfl rfl rfl rfl rfl rfl rfl rfl rfl rfl
  | channelResponse p id wr stat data code poison => exact execChannelResponse_mask _ p id wr stat data code poison s rfl rfl rfl rfl rfl rfl rfl rfl rfl rfl rfl rfl rfl rfl
  | channelReadyFall p => exact execChannelReadyFall_mask _ p s rfl
  | channelReadyRise p => exact execChannelReadyRise_mask _ p s rfl
  | chanHold p => exact execChanHold_mask _ p s rfl rfl rfl rfl rfl rfl rfl rfl rfl rfl rfl rfl rfl
  | rspTimeout p => exact execRspTimeout_mask _ p s rfl rfl rfl rfl rfl rfl rfl rfl rfl rfl rfl rfl rfl
  | zeroingDone region => exact execZeroingDone_mask _ region s rfl rfl
  | scrubDone => exact execScrubDone_mask _ s rfl rfl
  | ctrKeyWrite a b value => exact execCtrKeyWrite_mask _ a b value s rfl rfl rfl rfl rfl rfl rfl rfl rfl rfl rfl rfl
  | cueFire cue => exact execCueFire_mask _ cue s rfl rfl rfl rfl rfl rfl rfl rfl rfl rfl rfl rfl rfl rfl rfl rfl rfl rfl rfl
  | pause a value => exact execPause_mask _ a value s rfl rfl rfl rfl rfl rfl rfl rfl rfl
  | cueAddRx c => exact execCueAddRx_mask _ c s rfl rfl rfl rfl rfl rfl rfl rfl rfl rfl rfl rfl rfl
  | gatherDataRx c => exact execGatherDataRx_mask _ c s rfl rfl rfl rfl rfl rfl rfl rfl rfl rfl rfl rfl rfl rfl rfl rfl
  | pieceEntry t => exact execPieceEntry_mask _ t s rfl rfl rfl rfl rfl rfl rfl rfl rfl rfl rfl
  | arrHeadWrite a ch value => exact execArrHeadWrite_mask _ a ch value s rfl rfl rfl
  | contextAdmit => exact execContextAdmit_mask _ s rfl rfl rfl rfl rfl rfl rfl rfl rfl rfl rfl rfl rfl rfl rfl rfl
  | memberWaitTimeout => exact execMemberWaitTimeout_mask _ s rfl rfl rfl rfl rfl rfl rfl rfl rfl rfl rfl rfl rfl
  | grantRx c => exact execGrantRx_mask _ c s rfl rfl rfl rfl rfl rfl rfl rfl rfl rfl rfl rfl rfl rfl rfl rfl
  | doneRx c => exact execDoneRx_mask _ c s rfl rfl rfl rfl rfl rfl rfl rfl rfl rfl rfl rfl rfl rfl rfl rfl
  | regrant k => exact execRegrant_mask _ k s rfl rfl rfl rfl rfl rfl rfl rfl rfl rfl rfl rfl rfl rfl rfl rfl
  | contribRx c => exact execContribRx_mask _ c s rfl rfl rfl rfl rfl rfl rfl rfl rfl rfl rfl rfl rfl rfl rfl rfl
  | partialCfRx c => exact execPartialCfRx_mask _ c s rfl rfl rfl rfl rfl rfl rfl rfl rfl rfl rfl rfl rfl rfl rfl rfl
  | a2aCountsRx c => exact execA2aCountsRx_mask _ c s rfl rfl rfl rfl rfl rfl rfl rfl rfl rfl rfl rfl rfl rfl rfl rfl
  | a2aDataRx c => exact execA2aDataRx_mask _ c s rfl rfl rfl rfl rfl rfl rfl rfl rfl rfl rfl rfl rfl rfl rfl rfl
  | contextTimeout k => exact execContextTimeout_mask _ k s rfl rfl rfl rfl rfl rfl rfl rfl rfl rfl rfl rfl rfl rfl rfl rfl
  | replayPass k => exact execReplayPass_mask _ k s rfl rfl rfl rfl rfl rfl rfl rfl rfl rfl rfl rfl rfl rfl rfl rfl
  | barrierRelease k => exact execBarrierRelease_mask _ k s rfl rfl rfl rfl rfl rfl rfl rfl rfl rfl rfl rfl rfl rfl
  | eruCellKeyWrite a b value => exact execEruCellKeyWrite_mask _ a b value s rfl rfl rfl rfl rfl rfl rfl rfl rfl
  | updateSegment u => exact execUpdateSegment_mask _ u s rfl rfl rfl rfl rfl rfl rfl rfl rfl rfl rfl rfl rfl rfl rfl rfl
  | updateContextTimeout u => exact execUpdateContextTimeout_mask _ u s rfl rfl rfl rfl rfl rfl rfl rfl rfl rfl rfl rfl rfl rfl
  | updateGateTimeout u => exact execUpdateGateTimeout_mask _ u s rfl rfl rfl rfl rfl rfl rfl rfl rfl rfl rfl rfl rfl rfl rfl rfl
  | freeze => exact execFreeze_mask _ s rfl
  | hushQuiet => exact execHushQuiet_mask _ s rfl rfl rfl rfl rfl rfl rfl rfl rfl rfl rfl rfl rfl
  | hushLimit => exact execHushLimit_mask _ s rfl rfl rfl rfl rfl rfl rfl rfl rfl rfl rfl rfl rfl rfl
  | imageWritten => exact execImageWritten_mask _ s rfl rfl rfl rfl rfl rfl rfl rfl rfl rfl rfl rfl rfl
  | resumeTime => exact execResumeTime_mask _ s rfl rfl rfl rfl rfl rfl rfl rfl rfl rfl rfl rfl rfl rfl rfl rfl rfl
  | scriptEnable a value => exact execScriptEnable_mask _ a value s rfl rfl rfl rfl rfl rfl rfl rfl
  | hostDataClose => exact execHostDataClose_mask _ s rfl rfl rfl rfl rfl rfl rfl rfl
  | doorbellRelease => exact execDoorbellRelease_mask _ s rfl rfl rfl rfl rfl rfl rfl rfl rfl rfl rfl rfl rfl rfl rfl rfl rfl rfl rfl
  | seatInputRelease => exact execSeatInputRelease_mask _ s rfl rfl rfl rfl rfl rfl rfl rfl rfl rfl rfl rfl rfl rfl rfl rfl rfl rfl rfl rfl rfl rfl rfl
  | attestReq w => exact execAttestReq_mask _ w s rfl rfl rfl rfl rfl
  | share w => exact execShare_mask _ w s rfl rfl rfl rfl rfl rfl rfl rfl
  | certReq w => exact execCertReq_mask _ w s rfl rfl rfl
  | recordGet w => exact execRecordGet_mask _ w s rfl rfl rfl
  | enrol w => exact execEnrol_mask _ w s rfl rfl rfl rfl
  | revoke w => exact execRevoke_mask _ w s rfl rfl rfl rfl
  | fuseWriteDone => exact execFuseWriteDone_mask _ s rfl rfl rfl
  | sessionExpire x => exact execSessionExpire_mask _ x s rfl
  | rngHealthFail => exact execRngHealthFail_mask _ s rfl rfl rfl rfl rfl rfl rfl
  | syncTx n => exact execSyncTx_mask _ n s rfl rfl
  | syncRx n c => exact execSyncRx_mask _ n c s rfl rfl rfl rfl rfl rfl rfl rfl rfl
  | candidateExpire n => exact execCandidateExpire_mask _ n s rfl rfl rfl rfl rfl rfl rfl rfl
  | clockFreeTimeout => exact execClockFreeTimeout_mask _ s rfl rfl rfl rfl rfl rfl rfl rfl
  | holdoverBound => exact execHoldoverBound_mask _ s rfl rfl rfl rfl rfl rfl rfl rfl
  | nodeSilence node => exact execNodeSilence_mask _ node s rfl rfl
  | probe node => exact execProbe_mask _ node s rfl rfl rfl rfl rfl rfl rfl rfl rfl rfl rfl rfl rfl rfl rfl rfl rfl
  | lostRx n c => exact execLostRx_mask _ n c s rfl rfl rfl rfl rfl rfl rfl rfl rfl rfl rfl rfl rfl rfl rfl rfl rfl
  | beacon => exact execBeacon_mask _ s rfl rfl
  | beaconRx n c => exact execBeaconRx_mask _ n c s rfl rfl rfl
  | curtainLowered slot => exact execCurtainLowered_mask _ slot s rfl rfl rfl rfl rfl rfl rfl rfl rfl rfl rfl rfl rfl rfl rfl rfl rfl rfl
  | faultRecRx c => exact execFaultRecRx_mask _ c s rfl rfl rfl
  | goRead w => exact execGoRead_mask _ w s rfl rfl rfl
  | goWrite w => exact execGoWrite_mask _ w s rfl rfl rfl
  | goPing w => exact execGoPing_mask _ w s rfl rfl rfl
  | fmReadRx c => exact execFmReadRx_mask _ c s rfl rfl rfl rfl rfl rfl rfl
  | fmWriteRx c => exact execFmWriteRx_mask _ c s rfl rfl rfl rfl rfl rfl rfl rfl rfl rfl rfl rfl rfl rfl rfl rfl rfl rfl rfl rfl rfl rfl rfl
  | fmPingRx c => exact execFmPingRx_mask _ c s rfl rfl
  | fmRspRx c => exact execFmRspRx_mask _ c s rfl rfl rfl
  | badSizeAccess w wr off => exact execBadSizeAccess_mask _ w wr off s rfl rfl rfl
  | hostMapAccess w off acc => exact execHostMapAccess_mask _ w off acc s rfl rfl rfl rfl rfl rfl rfl rfl rfl rfl rfl rfl rfl
  | registerWrite w off value => exact execRegisterWrite_mask _ w off value s rfl rfl rfl rfl rfl rfl rfl rfl rfl rfl rfl rfl rfl rfl rfl rfl rfl rfl rfl rfl rfl rfl rfl
  | channelRequestAccept p => exact execChannelRequestAccept_mask _ p s rfl rfl rfl rfl rfl rfl rfl rfl
  | registerRead w off => exact execRegisterRead_mask _ w off s rfl rfl rfl rfl rfl rfl rfl
  | fmRequestTimeout w => exact execFmRequestTimeout_mask _ w s rfl rfl
  | burstRx b => exact execBurstRx_mask _ b s rfl rfl
  | rxIdleEnter l => exact execRxIdleEnter_mask _ l s rfl
  | executedTagRecordExpire => exact execExecutedTagRecordExpire_mask _ s rfl
  | outcomeClosureExpire => exact execOutcomeClosureExpire_mask _ s rfl

/-- No row lists the queue of waiting commands. -/
theorem pending_notMem_mayChange (c : Instr) : StateField.pending ∉ mayChange c := by
  rw [← mayChangeMask_eq_false]
  cases c <;> rfl

/-- A command leaves a part that its row does not list. -/
theorem exec_agree {c : Instr} {s t : State} (h : exec c s = .next t) {p : StateField} (hp : p ∉ mayChange c) : State.agree p s t := by
  have hkeeps : State.Keeps (mayChangeMask c) s (.next t) := h ▸ exec_keeps c s
  exact State.agree_of_mask hkeeps p (mayChangeMask_eq_false.mpr hp)

theorem exec_pending {c : Instr} {s t : State} (h : exec c s = .next t) : t.pending = s.pending :=
  exec_agree h (pending_notMem_mayChange c)

/-- Settles O6: the frame of the row, part by part. -/
theorem commandsChangeOnlyTheirParts : Obligations.CommandsChangeOnlyTheirParts :=
  fun c _ _ h => ⟨fun _ hp => exec_agree h hp, pending_notMem_mayChange c⟩

end Sys2Proof.Machine
end

section
/-! One part of the state at a time: what leaves it alone by its frame. Then the machine's step, its reset state, and memory byte by byte. -/

namespace Sys2Proof.Machine

/-! ## Parts that a function leaves alone -/

/-- The mask of every part but one. -/
def allBut (p q : StateField) : Bool := decide (q ≠ p)

@[simp] theorem allBut_eq_true {p q : StateField} : allBut p q = true ↔ q ≠ p := decide_eq_true_iff

/-- A frame that covers all parts but one says that this one stays. -/
theorem State.agree_of_allBut {s t : State} (p : StateField) (h : t.mask (allBut p) = s.mask (allBut p)) : State.agree p s t :=
  State.agree_of_mask h p (by simp [allBut])

/-! ## Step and reset -/

/-- Settles O1. -/
theorem stepRunsFrontCommand : Obligations.StepRunsFrontCommand := by
  intro c rest s h
  rw [step, h]

theorem State.tick_count (s : State) : s.tick.clk.count = s.clk.count + (if s.clk.halfRate then s.clk.incr / 2 else s.clk.incr) := by
  unfold State.tick
  simp only [apply_ite State.clk, State.bump_clk, ite_self]

/-- Of one cycle's parts the tick alone moves the stage clock. -/
theorem State.idle_clk (s : State) : s.idle.clk = s.tick.clk :=
  State.agree_of_allBut .clk (by simp [State.idle])

theorem State.idle_pending (s : State) : s.idle.pending = s.pending :=
  State.agree_of_allBut .pending (by simp)

/-- Settles O2: the tick advances the count, and the rest of the cycle leaves the clock. -/
theorem emptyQueueStepIsOneCycle : Obligations.EmptyQueueStepIsOneCycle := by
  intro s h
  refine ⟨s.idle, by rw [step, h], s.idle_pending.trans h, ?_⟩
  rw [s.idle_clk, s.tick_count]

/-- Settles O3: every table of the reset state is empty, so a lookup answers the reset value. -/
theorem resetState : Obligations.ResetState :=
  ⟨rfl, rfl, rfl, rfl, rfl, rfl, fun _ => rfl, fun _ => rfl, rfl, rfl, rfl, rfl, rfl, rfl, rfl, rfl⟩

theorem Plt.reset_sound : Plt.reset.sound := by
  simp [Plt.sound, Plt.reset]

/-- Settles O4. -/
theorem resetMeetsTheInvariants : Obligations.ResetMeetsTheInvariants :=
  ⟨Plt.reset_sound, State.reset_wf⟩

/-! ## Memory, byte by byte -/

/-- Below the first address nothing is listed. -/
theorem Memory.get_of_above {a b : Nat} (h : b ≤ a) {m : List Host.Cell} (hm : Memory.above a m = true) : Memory.get m b = unwritten := by
  cases m with
  | nil => rfl
  | cons e t =>
    simp only [Memory.above, Bool.and_eq_true, decide_eq_true_eq] at hm
    simp [Memory.get, show e.1 ≠ b by omega, show b < e.1 by omega]

theorem Memory.get_insert (m : List Host.Cell) (a b : Nat) (v : Byte) :
    Memory.get (Memory.insert m a v) b = if b = a then v else Memory.get m b := by
  induction m with
  | nil => grind [Memory.insert, Memory.get]
  | cons e t ih => grind [Memory.insert, Memory.get]

/-- What follows an erased entry lies above it, so the address reads as unwritten. -/
theorem Memory.get_erase {m : List Host.Cell} (hm : Memory.wf m = true) (a b : Nat) :
    Memory.get (Memory.erase m a) b = if b = a then unwritten else Memory.get m b := by
  induction m with
  | nil => simp [Memory.erase, Memory.get]
  | cons e t ih =>
    obtain ⟨c, v⟩ := e
    obtain ⟨-, ht⟩ := Memory.wf_cons.mp hm
    specialize ih (Memory.wf_of_above ht)
    simp only [Memory.erase]
    split
    case isTrue hc =>
      subst hc
      rcases lt_trichotomy b c with hlt | rfl | hgt
      · simp [Memory.get, hlt, hlt.ne, hlt.ne', Memory.get_of_above hlt.le ht]
      · simp [Memory.get_of_above le_rfl ht]
      · simp [Memory.get, hgt.ne, hgt.ne', hgt.not_gt]
    case isFalse hc =>
      split <;> grind [Memory.get]

theorem Memory.get_set {m : List Host.Cell} (hm : Memory.wf m = true) (a b : Nat) (v : Byte) :
    Memory.get (Memory.set m a v) b = if b = a then v else Memory.get m b := by
  rw [Memory.set]
  split
  case isTrue hv => rw [Memory.get_erase hm, hv]
  case isFalse hv => exact Memory.get_insert m a b v

theorem Memory.get_setBytes {m : List Host.Cell} (hm : Memory.wf m = true) (a b : Nat) (vs : List Byte) :
    Memory.get (Memory.setBytes m a vs) b = if a ≤ b ∧ b < a + vs.length then vs.getD (b - a) 0 else Memory.get m b := by
  induction vs generalizing m a with
  | nil => simp [Memory.setBytes, show ¬ (a ≤ b ∧ b < a) by omega]
  | cons v vs ih =>
    rw [Memory.setBytes, ih (Memory.set_wf a v hm), Memory.get_set hm, List.length_cons]
    rcases lt_trichotomy b a with hlt | rfl | hgt
    · simp [hlt.ne, show ¬ a + 1 ≤ b by omega, hlt.not_ge]
    · simp
    · obtain ⟨k, rfl⟩ : ∃ k, b = a + 1 + k := ⟨b - (a + 1), by omega⟩
      simp [show a + 1 + k - a = k + 1 by omega, show ¬ a + 1 + k = a by omega, show a ≤ a + 1 + k by omega,
        show a + 1 + k < a + (vs.length + 1) ↔ k < vs.length by omega]

/-- Settles O60. -/
theorem memoryReadsWhatWasWritten : Obligations.MemoryReadsWhatWasWritten :=
  ⟨fun _ a b v hm => ⟨Memory.set_wf a v hm, Memory.get_set hm a b v⟩,
    fun _ a b vs hm => ⟨Memory.setBytes_wf a vs hm, Memory.get_setBytes hm a b vs⟩⟩

end Sys2Proof.Machine
end

section
/-! Packed fields and runs of bytes are read back as they were written (R122, R161), so a cell survives its slot; and the sum of a slot of
the ERU by what its addends add up to (R324, R329 to R334). -/

namespace Sys2Proof.Machine

/-! ## Packed fields -/

/-- The fields stand in rising order from a bit on, none over another. -/
def laidFrom : Nat → List (Nat × Nat × Nat) → Bool
  | _, [] => true
  | lo, f :: t => decide (lo ≤ f.1) && laidFrom (f.1 + f.2.1) t

/-- The number that `pack` makes of its fields. -/
def fieldSum : List (Nat × Nat × Nat) → Nat
  | [] => 0
  | f :: t => f.2.2 % 2 ^ f.2.1 * 2 ^ f.1 + fieldSum t

theorem fieldSum_eq_foldl (fs : List (Nat × Nat × Nat)) (x : Nat) :
    fs.foldl (fun acc f => acc + f.2.2 % 2 ^ f.2.1 * 2 ^ f.1) x = x + fieldSum fs := by
  induction fs generalizing x with
  | nil => rfl
  | cons f t ih => rw [List.foldl_cons, ih, fieldSum, Nat.add_assoc]

theorem pack_eq (n : Nat) (fs : List (Nat × Nat × Nat)) : pack n fs = BitVec.ofNat n (fieldSum fs) := by
  rw [pack, fieldSum_eq_foldl, Nat.zero_add]

theorem fieldSum_append (fs gs : List (Nat × Nat × Nat)) : fieldSum (fs ++ gs) = fieldSum fs + fieldSum gs := by
  induction fs with
  | nil => simp [fieldSum]
  | cons f t ih => simp [fieldSum, ih, Nat.add_assoc]

/-- Fields from a bit on leave the bits below it 0. -/
theorem dvd_fieldSum {lo : Nat} {fs : List (Nat × Nat × Nat)} (h : laidFrom lo fs = true) : 2 ^ lo ∣ fieldSum fs := by
  induction fs generalizing lo with
  | nil => exact dvd_zero _
  | cons f t ih =>
    obtain ⟨hlo, ht⟩ : lo ≤ f.1 ∧ laidFrom (f.1 + f.2.1) t = true := by simpa [laidFrom] using h
    exact dvd_add (dvd_mul_of_dvd_right (pow_dvd_pow 2 hlo) _) ((pow_dvd_pow 2 (by omega)).trans (ih ht))

/-- The fields read one by one from their sum: what stands below a field is too small to reach it, and what stands above is a multiple. -/
theorem fieldSum_field {lo : Nat} {fs : List (Nat × Nat × Nat)} (h : laidFrom lo fs = true) {x : Nat} (hx : x < 2 ^ lo)
    {f : Nat × Nat × Nat} (hf : f ∈ fs) : (x + fieldSum fs) / 2 ^ f.1 % 2 ^ f.2.1 = f.2.2 % 2 ^ f.2.1 := by
  induction fs generalizing lo x with
  | nil => cases hf
  | cons g t ih =>
    obtain ⟨hlo, ht⟩ : lo ≤ g.1 ∧ laidFrom (g.1 + g.2.1) t = true := by simpa [laidFrom] using h
    have hxg : x < 2 ^ g.1 := hx.trans_le (Nat.pow_le_pow_right (by decide) hlo)
    rcases List.mem_cons.mp hf with rfl | hmem
    · obtain ⟨k, hk⟩ := dvd_fieldSum ht
      have hsum : x + fieldSum (f :: t) = x + (f.2.2 % 2 ^ f.2.1 + 2 ^ f.2.1 * k) * 2 ^ f.1 := by
        rw [fieldSum, hk, pow_add]
        ring
      rw [hsum, Nat.add_mul_div_right _ _ (by positivity), Nat.div_eq_of_lt hxg, Nat.zero_add, Nat.add_mul_mod_self_left, Nat.mod_mod]
    · have hbelow : x + g.2.2 % 2 ^ g.2.1 * 2 ^ g.1 < 2 ^ (g.1 + g.2.1) := by
        have hv : g.2.2 % 2 ^ g.2.1 + 1 ≤ 2 ^ g.2.1 := Nat.mod_lt _ (by positivity)
        have hmul := Nat.mul_le_mul_right (2 ^ g.1) hv
        rw [Nat.pow_add]
        linarith
      rw [fieldSum, ← Nat.add_assoc]
      exact ih ht hbelow hmem

/-- A packed field reads as it was packed. -/
theorem bits_pack {n : Nat} {fs : List (Nat × Nat × Nat)} (hlaid : laidFrom 0 fs = true) {lo len v : Nat} (hf : (lo, len, v) ∈ fs)
    (hn : lo + len ≤ n) : bits (pack n fs) lo len = v % 2 ^ len := by
  have hread := fieldSum_field hlaid (x := 0) (by simp) hf
  rw [Nat.zero_add] at hread
  have hsplit : 2 ^ n = 2 ^ lo * 2 ^ (n - lo) := by rw [← pow_add]; congr 1; omega
  rw [bits, pack_eq, BitVec.toNat_ofNat, hsplit, Nat.mod_mul_right_div_self, Nat.mod_mod_of_dvd _ (pow_dvd_pow 2 (by omega)), hread]

/-! ## Runs of bytes -/

@[simp] theorem length_toBytes {n : Nat} (x : BitVec n) (m : Nat) : (toBytes x m).length = m := by
  simp [toBytes]

theorem ofBytes_lt (l : List Byte) : ofBytes l < 256 ^ l.length := by
  induction l with
  | nil => simp [ofBytes]
  | cons b t ih =>
    have hb := b.isLt
    rw [ofBytes, List.length_cons, pow_succ]
    omega

/-- One byte of the number that a run of bytes spells. -/
theorem ofBytes_byte (l : List Byte) (k : Nat) : ofBytes l / 256 ^ k % 256 = (l.getD k 0).toNat := by
  induction l generalizing k with
  | nil => simp [ofBytes]
  | cons b t ih =>
    have hb := b.isLt
    cases k with
    | zero =>
      rw [ofBytes, pow_zero, Nat.div_one, List.getD_cons_zero]
      omega
    | succ k =>
      rw [ofBytes, pow_succ', ← Nat.div_div_eq_div_mul, show (b.toNat + 256 * ofBytes t) / 256 = ofBytes t by omega, ih, List.getD_cons_succ]

theorem bytesAt_one {n : Nat} (x : BitVec n) (k : Nat) : bytesAt x k 1 = x.toNat / 256 ^ k % 256 := by
  rw [bytesAt, bits, show (256 : Nat) ^ k = 2 ^ (8 * k) from (pow_mul 2 8 k).symm]
  rfl

/-- The bytes of a word are the bytes that it was made of. -/
theorem toBytes_ofBytes {n : Nat} (l : List Byte) (hn : 8 * l.length ≤ n) : toBytes (BitVec.ofNat n (ofBytes l)) l.length = l := by
  have hfits : ofBytes l < 2 ^ n := by
    refine (ofBytes_lt l).trans_le ?_
    rw [show (256 : Nat) = 2 ^ 8 from rfl, ← pow_mul]
    exact Nat.pow_le_pow_right (by decide) hn
  apply List.ext_getElem (by simp)
  intro k hk hl
  simp only [toBytes, List.getElem_map, List.getElem_range, bytesAt_one, BitVec.toNat_ofNat, Nat.mod_eq_of_lt hfits, ofBytes_byte]
  simp [List.getD_eq_getElem?_getD, List.getElem?_eq_getElem hl]

/-- A word is what its bytes spell. -/
theorem ofBytes_toBytes {n : Nat} (x : BitVec n) (m : Nat) : ofBytes (toBytes x m) = x.toNat % 256 ^ m := by
  suffices h : ∀ y j, ofBytes ((List.range' j m).map fun k => BitVec.ofNat 8 (y / 256 ^ k % 256)) = y / 256 ^ j % 256 ^ m by
    simpa [toBytes, bytesAt_one, List.range_eq_range'] using h x.toNat 0
  induction m with
  | zero => intro y j; simp [ofBytes, Nat.mod_one]
  | succ m ih =>
    intro y j
    rw [List.range'_succ, List.map_cons, ofBytes, ih, BitVec.toNat_ofNat, Nat.mod_mod, pow_succ' 256 m, Nat.mod_mul, pow_succ 256 j, Nat.div_div_eq_div_mul]

/-- A block of a run of blocks. -/
theorem block_flatMap_range {α : Type} {k n p : Nat} {f : Nat → List α} (hf : ∀ q, q < n → (f q).length = k) (hp : p < n) :
    (((List.range n).flatMap f).drop (k * p)).take k = f p := by
  induction n with
  | zero => omega
  | succ n ih =>
    have hlen : ((List.range n).flatMap f).length = k * n := by
      rw [List.length_flatMap, List.map_congr_left (g := fun _ => k) fun q hq => hf q (by have := List.mem_range.mp hq; omega)]
      simp [Nat.mul_comm]
    rw [List.range_succ, List.flatMap_append]
    rcases Nat.lt_succ_iff_lt_or_eq.mp hp with hlt | rfl
    · have hmul : k * p + k ≤ k * n := by
        calc k * p + k = k * (p + 1) := by ring
          _ ≤ k * n := Nat.mul_le_mul_left k hlt
      rw [List.drop_append_of_le_length (by omega), List.take_append_of_le_length (by rw [List.length_drop]; omega),
        ih (fun q hq => hf q (by omega)) hlt]
    · rw [← hlen, List.drop_left]
      simp [← hf p hp]

/-- A run cut into blocks and joined again. -/
theorem flatMap_blocks {α : Type} (l : List α) (k n : Nat) : (List.range n).flatMap (fun p => (l.drop (k * p)).take k) = l.take (k * n) := by
  induction n with
  | zero => simp
  | succ n ih => rw [List.range_succ, List.flatMap_append, ih, Nat.mul_succ, List.take_add]; simp

/-! ## Cells and slots -/

/-- A packed word of its field's width is read back whole. -/
theorem ofNat_bits_pack {n : Nat} {fs : List (Nat × Nat × Nat)} (hlaid : laidFrom 0 fs = true) {lo len : Nat} {x : BitVec len}
    (hf : (lo, len, x.toNat) ∈ fs) (hn : lo + len ≤ n) : BitVec.ofNat len (bits (pack n fs) lo len) = x := by
  apply BitVec.eq_of_toNat_eq
  rw [bits_pack hlaid hf hn, BitVec.toNat_ofNat, Nat.mod_mod, Nat.mod_eq_of_lt x.isLt]

theorem bit_pack {n : Nat} {fs : List (Nat × Nat × Nat)} (hlaid : laidFrom 0 fs = true) {k : Nat} {b : Bool} (hf : (k, 1, b2n b) ∈ fs)
    (hn : k + 1 ≤ n) : bit (pack n fs) k = b := by
  rw [bit, bits_pack hlaid hf hn]
  cases b <;> rfl

/-- The fields of a cell's header below HCHK (Table 06-1). -/
def checkedFields (c : Cell) : List (Nat × Nat × Nat) :=
  [(0, 15, c.dest.toNat), (15, 1, b2n c.epoch), (16, 15, c.src.toNat), (31, 1, b2n c.cm),
   (32, 16, c.pkey.toNat), (48, 3, c.cls.toNat), (51, 6, c.typ.toNat), (57, 1, b2n c.last),
   (58, 1, b2n c.mcast), (59, 2, c.tree.toNat), (61, 1, b2n c.deflected), (62, 1, b2n c.echo),
   (63, 1, b2n c.alt), (64, 16, c.tag.toNat), (80, 12, c.index.toNat), (92, 4, c.hop.toNat),
   (96, 32, c.time.toNat), (128, 16, c.ack.toNat), (144, 16, c.nak.toNat), (160, 16, c.seq.toNat)]

theorem headerBits_eq (c : Cell) : headerBits c = pack 192 (checkedFields c ++ [(176, 16, c.hchk.toNat)]) := rfl

theorem laidFrom_header (c : Cell) : laidFrom 0 (checkedFields c ++ [(176, 16, c.hchk.toNat)]) = true := rfl

/-- The fields of Table 06-1 do not overlap, so each is read back. -/
theorem cellOf_headerBits (c : Cell) : cellOf (headerBits c) c.payload = c := by
  have word {lo len : Nat} {x : BitVec len} := ofNat_bits_pack (n := 192) (laidFrom_header c) (lo := lo) (x := x)
  have flag {k : Nat} {b : Bool} := bit_pack (n := 192) (laidFrom_header c) (k := k) (b := b)
  rw [headerBits_eq, cellOf]
  obtain ⟨dest, epoch, src, cm, pkey, cls, typ, last, mcast, tree, deflected, echo, alt, tag, index, hop, time, ack, nak, seq, hchk, payload⟩ := c
  simp only [Cell.mk.injEq, and_true]
  refine ⟨word ?_ ?_, flag ?_ ?_, word ?_ ?_, flag ?_ ?_, word ?_ ?_, word ?_ ?_, word ?_ ?_, flag ?_ ?_, flag ?_ ?_, word ?_ ?_, flag ?_ ?_,
    flag ?_ ?_, flag ?_ ?_, word ?_ ?_, word ?_ ?_, word ?_ ?_, word ?_ ?_, word ?_ ?_, word ?_ ?_, word ?_ ?_, word ?_ ?_⟩
  all_goals simp [checkedFields]

/-- Twelve bytes a share: eleven of the content and their check (R123). -/
def slotShare (c : Cell) (p : Nat) : List Byte :=
  ((contentBytes c).drop (11 * p)).take 11 ++ [BitVec.ofNat 8 (crc8 p (((contentBytes c).drop (11 * p)).take 11))]

theorem slotOf_eq (c : Cell) : slotOf c = BitVec.ofNat 768 (ofBytes ((List.range 8).flatMap (slotShare c))) := rfl

@[simp] theorem length_contentBytes (c : Cell) : (contentBytes c).length = 88 := by
  simp [contentBytes]

theorem length_contentBlock (c : Cell) {p : Nat} (hp : p < 8) : (((contentBytes c).drop (11 * p)).take 11).length = 11 := by
  simp only [List.length_take, List.length_drop, length_contentBytes]
  omega

theorem length_slotShare (c : Cell) {p : Nat} (hp : p < 8) : (slotShare c p).length = 12 := by
  simp [slotShare, length_contentBlock c hp]

theorem toBytes_slotOf (c : Cell) : toBytes (slotOf c) 96 = (List.range 8).flatMap (slotShare c) := by
  have hlen : ((List.range 8).flatMap (slotShare c)).length = 96 := by
    simp [List.range_succ, slotShare]
  rw [slotOf_eq, ← hlen, toBytes_ofBytes _ (by omega)]

theorem share_slotOf (c : Cell) {p : Nat} (hp : p < 8) : ((toBytes (slotOf c) 96).drop (12 * p)).take 12 = slotShare c p := by
  rw [toBytes_slotOf]
  exact block_flatMap_range (fun _ hq => length_slotShare c hq) hp

/-- The eleven bytes of a share's content. -/
theorem shareBody_slotOf (c : Cell) {p : Nat} (hp : p < 8) :
    ((toBytes (slotOf c) 96).drop (12 * p)).take 11 = ((contentBytes c).drop (11 * p)).take 11 := by
  have htake : ∀ l : List Byte, l.take 11 = (l.take 12).take 11 := by simp [List.take_take]
  rw [htake, share_slotOf c hp, slotShare, List.take_left' (length_contentBlock c hp)]

/-- The check behind them. -/
theorem shareCheck_slotOf (c : Cell) {p : Nat} (hp : p < 8) : (((toBytes (slotOf c) 96).drop (12 * p)).drop 11).headD 0 =
    BitVec.ofNat 8 (crc8 p (((contentBytes c).drop (11 * p)).take 11)) := by
  have htake : ∀ l : List Byte, (l.drop 11).headD 0 = ((l.take 12).drop 11).headD 0 := fun l => by
    rw [List.drop_take]
    cases l.drop 11 <;> rfl
  rw [htake, share_slotOf c hp, slotShare, List.drop_left' (length_contentBlock c hp), List.headD_cons]

/-- The shares' contents joined are the cell's header and payload. -/
theorem slotContent_slotOf (c : Cell) :
    ((List.range 8).flatMap fun p => ((toBytes (slotOf c) 96).drop (12 * p)).take 11) = contentBytes c := by
  have hmap : ∀ p ∈ List.range 8, ((toBytes (slotOf c) 96).drop (12 * p)).take 11 = ((contentBytes c).drop (11 * p)).take 11 :=
    fun p hp => shareBody_slotOf c (List.mem_range.mp hp)
  rw [List.flatMap_congr hmap, flatMap_blocks, List.take_of_length_le (by simp)]

theorem ofNat_ofBytes_toBytes {n m : Nat} (x : BitVec n) (h : n = 8 * m) : BitVec.ofNat n (ofBytes (toBytes x m)) = x := by
  apply BitVec.eq_of_toNat_eq
  rw [ofBytes_toBytes, show (256 : Nat) ^ m = 2 ^ n by rw [h, pow_mul]; rfl, Nat.mod_eq_of_lt x.isLt, BitVec.toNat_ofNat, Nat.mod_eq_of_lt x.isLt]

theorem slotCell_slotOf (c : Cell) : slotCell (slotOf c) = c := by
  unfold slotCell
  dsimp only
  rw [slotContent_slotOf, contentBytes, List.take_left' (length_toBytes _ _), List.drop_left' (length_toBytes _ _),
    ofNat_ofBytes_toBytes (n := 192) _ rfl, ofNat_ofBytes_toBytes (n := 512) _ rfl, cellOf_headerBits]

/-! ## Checks -/

theorem crcBit_lt {n poly r : Nat} (b : Nat) (hp : poly < 2 ^ n) (hr : r < 2 ^ n) : crcBit poly r b < 2 ^ n := by
  have hhalf : r / 2 < 2 ^ n := (Nat.div_le_self r 2).trans_lt hr
  unfold crcBit
  dsimp only
  split
  · exact Nat.xor_lt_two_pow hhalf hp
  · exact hhalf

theorem crcByte_lt {n poly r : Nat} (b : Byte) (hp : poly < 2 ^ n) (hr : r < 2 ^ n) : crcByte poly r b < 2 ^ n :=
  List.foldlRecOn (motive := (· < 2 ^ n)) (List.range 8) _ hr fun _ h _ _ => crcBit_lt _ hp h

theorem crc8_lt {p : Nat} (hp : p < 8) (msg : List Byte) : crc8 p msg < 2 ^ 8 :=
  Nat.xor_lt_two_pow (List.foldlRecOn (motive := (· < 2 ^ 8)) msg _ (by omega) fun _ h _ _ => crcByte_lt _ (by decide) h) (by decide)

theorem shareOk_slotOf (c : Cell) {p : Nat} (hp : p < 8) : shareOk (slotOf c) p = true := by
  unfold shareOk
  dsimp only
  rw [shareBody_slotOf c hp, shareCheck_slotOf c hp, BitVec.toNat_ofNat, Nat.mod_eq_of_lt (crc8_lt hp _), beq_self_eq_true]

/-- Below HCHK the header is its other fields. -/
theorem headerBits_mod (c : Cell) : (headerBits c).toNat % 2 ^ 128 = fieldSum (checkedFields c) % 2 ^ 128 := by
  have habove : fieldSum [(176, 16, c.hchk.toNat)] = 2 ^ 128 * (c.hchk.toNat % 2 ^ 16 * 2 ^ 48) := by
    rw [fieldSum, fieldSum]
    ring
  rw [headerBits_eq, pack_eq, BitVec.toNat_ofNat, Nat.mod_mod_of_dvd _ (pow_dvd_pow 2 (by decide)), fieldSum_append, habove,
    Nat.add_mul_mod_self_left]

theorem bytesAt_mod {n k : Nat} (x : BitVec n) (hk : k < 16) : bytesAt x k 1 = x.toNat % 2 ^ 128 / 256 ^ k % 256 := by
  have hsplit : (2 : Nat) ^ 128 = 256 ^ k * (256 * 256 ^ (15 - k)) := by
    rw [← pow_succ', ← pow_add, show k + (15 - k + 1) = 16 by omega]
    norm_num
  rw [bytesAt_one, hsplit, Nat.mod_mul_right_div_self, Nat.mod_mul_right_mod]

/-- The check covers 16 bytes of the header, and HCHK stands behind them (R162). -/
theorem toBytes_headerBits_congr {c d : Cell} (h : checkedFields c = checkedFields d) : toBytes (headerBits c) 16 = toBytes (headerBits d) 16 := by
  apply List.map_congr_left
  intro k hk
  have hk : k < 16 := List.mem_range.mp hk
  rw [bytesAt_mod _ hk, bytesAt_mod _ hk, headerBits_mod, headerBits_mod, h]

theorem headerCheck_congr {c d : Cell} (h : checkedFields c = checkedFields d) : headerCheck c = headerCheck d := by
  rw [headerCheck, toBytes_headerBits_congr h, headerCheck]

theorem checkedFields_setHchk (c : Cell) (x : BitVec 16) : checkedFields { c with hchk := x } = checkedFields c := rfl

theorem headerCheck_withCheck (c : Cell) : headerCheck (withCheck c) = headerCheck c :=
  headerCheck_congr (checkedFields_setHchk c (headerCheck c))

theorem withCheck_hchk (c : Cell) : (withCheck c).hchk = headerCheck c := rfl

theorem slotErrored_slotOf (c : Cell) : slotErrored (slotOf (withCheck c)) true = false := by
  have hshares : (List.range 8).all (shareOk (slotOf (withCheck c))) = true :=
    List.all_eq_true.mpr fun _ hp => shareOk_slotOf _ (List.mem_range.mp hp)
  unfold slotErrored
  dsimp only
  rw [hshares, slotCell_slotOf, headerCheck_withCheck, withCheck_hchk, bne_self_eq_false]
  rfl

/-- Settles O58. -/
theorem cellsSurviveTheirEncoding : Obligations.CellsSurviveTheirEncoding :=
  ⟨cellOf_headerBits, slotCell_slotOf, slotErrored_slotOf⟩

/-! ## The sum of a slot -/

/-- What a list of addends comes to (R324, R329 to R334). -/
inductive SlotSum where
  | nothing
  | negZero
  | finite (v : Int)
  | special (flags : Nat)

/-- One addend more. -/
def SlotSum.add : SlotSum → Addend → SlotSum
  | .special f, .special g => .special (f ||| g)
  | .special f, _ => .special f
  | _, .special g => .special g
  | .finite v, a => .finite (v + a.int)
  | .nothing, .negZero => .negZero
  | .negZero, .negZero => .negZero
  | _, a => .finite a.int

def SlotSum.shown : SlotSum → Addend
  | .nothing => .zero
  | .negZero => .negZero
  | .finite v => if v = 0 then .zero else .finite v
  | .special f => .special f

/-- The slot holds the sum, in whichever form. -/
def SlotSum.heldBy (x : ASlot) : SlotSum → Prop
  | .nothing => x = ASlot.reset
  | .negZero => x.st = .special ∧ x.flags = 8
  | .finite v => (x.st = .narrow ∨ x.st = .promoted) ∧ x.flags = 0 ∧ x.value = v
  | .special f => (x.st = .special ∨ x.st = .promoted) ∧ x.flags = f ∧ 0 < f ∧ f < 8

theorem ASlot.first_holds (x : ASlot) (v : Int) : (SlotSum.finite v).heldBy (x.first v) := by
  unfold ASlot.first
  dsimp only
  split <;> simp [SlotSum.heldBy]

/-- A finite addend: it starts the sum, or is added to it, or goes under in a special one. -/
theorem ASlot.take_finite_holds {x : ASlot} {m : SlotSum} (h : m.heldBy x) (v : Int) : (m.add (.finite v)).heldBy (x.take (.finite v)) := by
  cases m with
  | nothing =>
    cases h
    exact ASlot.first_holds _ v
  | negZero =>
    obtain ⟨hst, hflags⟩ := h
    have hfirst : x.take (.finite v) = x.first v := by simp [ASlot.take, hst, hflags]
    exact hfirst ▸ x.first_holds v
  | finite s =>
    obtain ⟨hst | hst, hflags, hvalue⟩ := h
    · by_cases hzero : x.value = 0
      · have hfirst : x.take (.finite v) = x.first v := by simp [ASlot.take, hst, hzero]
        have hadd : (SlotSum.finite s).add (.finite v) = .finite v := by simp [SlotSum.add, Addend.int, ← hvalue, hzero]
        rw [hfirst, hadd]
        exact x.first_holds v
      · simp only [ASlot.take, hst, hzero, if_false]
        split <;> simp [SlotSum.add, SlotSum.heldBy, Addend.int, hflags, hvalue]
    · simp [ASlot.take, hst, SlotSum.add, SlotSum.heldBy, Addend.int, hflags, hvalue]
  | special f =>
    obtain ⟨hst | hst, hflags, hpos, hlt⟩ := h
    · simp [ASlot.take, hst, SlotSum.add, SlotSum.heldBy, hflags, hpos, hlt, hlt.ne]
    · simp [ASlot.take, hst, SlotSum.add, SlotSum.heldBy, hflags, hpos, hlt]

/-- A zero of either sign counts only where nothing finite or special came before it. -/
theorem ASlot.take_zero_holds {x : ASlot} {m : SlotSum} (h : m.heldBy x) {a : Addend} (ha : a = .zero ∨ a = .negZero) :
    (m.add a).heldBy (x.take a) := by
  cases m with
  | nothing =>
    cases h
    rcases ha with rfl | rfl <;> simp [ASlot.take, ASlot.reset, SlotSum.add, SlotSum.heldBy, Addend.int]
  | negZero =>
    obtain ⟨hst, hflags⟩ := h
    rcases ha with rfl | rfl <;> simp [ASlot.take, hst, hflags, SlotSum.add, SlotSum.heldBy, Addend.int]
  | finite s =>
    obtain ⟨hst | hst, hflags, hvalue⟩ := h <;>
      rcases ha with rfl | rfl <;> simp [ASlot.take, hst, hflags, hvalue, SlotSum.add, SlotSum.heldBy, Addend.int]
  | special f =>
    obtain ⟨hst | hst, hflags, hpos, hlt⟩ := h <;>
      rcases ha with rfl | rfl <;> simp [ASlot.take, hst, hflags, hpos, hlt, hlt.ne, SlotSum.add, SlotSum.heldBy]

theorem lor_special {f g : Nat} (hf : 0 < f ∧ f < 8) (hg : g < 8) : 0 < f ||| g ∧ f ||| g < 8 :=
  ⟨Nat.pos_of_ne_zero fun h => hf.1.ne' (Nat.or_eq_zero_iff.mp h).1, Nat.or_lt_two_pow (n := 3) hf.2 hg⟩

/-- A special addend's flags join those before it. -/
theorem ASlot.take_special_holds {x : ASlot} {m : SlotSum} (h : m.heldBy x) {g : Nat} (hg : 0 < g ∧ g < 8) :
    (m.add (.special g)).heldBy (x.take (.special g)) := by
  cases m with
  | nothing =>
    cases h
    simp [ASlot.take, ASlot.reset, SlotSum.add, SlotSum.heldBy, hg]
  | negZero =>
    obtain ⟨hst, hflags⟩ := h
    simp [ASlot.take, hst, hflags, SlotSum.add, SlotSum.heldBy, hg]
  | finite s =>
    obtain ⟨hst | hst, hflags, hvalue⟩ := h <;> simp [ASlot.take, hst, hflags, SlotSum.add, SlotSum.heldBy, hg]
  | special f =>
    obtain ⟨hst | hst, rfl, hf⟩ := h <;>
      simp [ASlot.take, hst, SlotSum.add, SlotSum.heldBy, Nat.mod_eq_of_lt hf.2, lor_special hf hg.2]

/-- The slot's step and the sum's step agree, whatever the addend. -/
theorem ASlot.take_holds {x : ASlot} {m : SlotSum} {a : Addend} (h : m.heldBy x) (ha : a.proper) : (m.add a).heldBy (x.take a) := by
  cases a with
  | finite v => exact take_finite_holds h v
  | zero => exact take_zero_holds h (.inl rfl)
  | negZero => exact take_zero_holds h (.inr rfl)
  | special g => exact take_special_holds h ha

/-- A slot shows the sum that it holds. -/
theorem ASlot.asAddend_of_holds {x : ASlot} {m : SlotSum} (h : m.heldBy x) : x.asAddend = m.shown := by
  cases m with
  | nothing =>
    cases h
    rfl
  | negZero =>
    obtain ⟨hst, hflags⟩ := h
    simp [ASlot.asAddend, nonFiniteFlags, hst, hflags, SlotSum.shown]
  | finite v =>
    obtain ⟨hst | hst, hflags, hvalue⟩ := h <;> simp [ASlot.asAddend, nonFiniteFlags, hst, hflags, hvalue, SlotSum.shown]
  | special f =>
    obtain ⟨-, rfl, hpos, hlt⟩ := h
    simp [ASlot.asAddend, nonFiniteFlags, Nat.mod_eq_of_lt hlt, hpos.ne', SlotSum.shown]

/-- The slot holds the sum of its addends. -/
theorem ASlot.foldl_holds {as : List Addend} (hp : ∀ a, a ∈ as → a.proper) {x : ASlot} {m : SlotSum} (h : m.heldBy x) :
    (as.foldl SlotSum.add m).heldBy (as.foldl ASlot.take x) := by
  induction as generalizing x m with
  | nil => exact h
  | cons a t ih => exact ih (fun b hb => hp b (List.mem_cons_of_mem a hb)) (take_holds h (hp a List.mem_cons_self))

/-! ### The sum by its conditions -/

/-- The flags that one addend has. -/
def Addend.flags : Addend → Nat
  | .special f => f
  | _ => 0

theorem addendFlags_eq_foldr (as : List Addend) : addendFlags as = (as.map Addend.flags).foldr (· ||| ·) 0 := by
  induction as with
  | nil => rfl
  | cons a t ih => cases a <;> simp [addendFlags, Addend.flags, ih]

theorem addendFlags_perm {as bs : List Addend} (h : as.Perm bs) : addendFlags as = addendFlags bs := by
  have : LeftCommutative (α := Nat) (β := Nat) (· ||| ·) := ⟨fun a b c => by rw [← Nat.or_assoc, Nat.or_comm a b, Nat.or_assoc]⟩
  rw [addendFlags_eq_foldr, addendFlags_eq_foldr, (h.map Addend.flags).foldr_eq 0]

/-- What is added behind a special sum changes its flags alone. -/
theorem SlotSum.foldl_special (as : List Addend) {f : Nat} : as.foldl SlotSum.add (.special f) = .special (f ||| addendFlags as) := by
  induction as generalizing f with
  | nil => simp [addendFlags]
  | cons a t ih => cases a <;> simp [SlotSum.add, addendFlags, ih, Nat.or_assoc]

theorem SlotSum.foldl_finite (as : List Addend) (hp : ∀ a, a ∈ as → a.proper) (v : Int) : as.foldl SlotSum.add (.finite v) =
    if addendFlags as ≠ 0 then .special (addendFlags as) else .finite (v + (as.map Addend.int).sum) := by
  induction as generalizing v with
  | nil => simp [addendFlags]
  | cons a t ih =>
    have ht := ih fun b hb => hp b (List.mem_cons_of_mem a hb)
    cases a with
    | special g =>
      have hg : 0 < g ∧ g < 8 := hp (.special g) List.mem_cons_self
      have hne : g ||| addendFlags t ≠ 0 := fun h => hg.1.ne' (Nat.or_eq_zero_iff.mp h).1
      simp [SlotSum.add, SlotSum.foldl_special, addendFlags, hne]
    | _ => simp [SlotSum.add, addendFlags, Addend.int, ht, Int.add_assoc]

theorem SlotSum.foldl_negZero (as : List Addend) (hp : ∀ a, a ∈ as → a.proper) : as.foldl SlotSum.add .negZero =
    if addendFlags as ≠ 0 then .special (addendFlags as) else if ∀ a, a ∈ as → a = .negZero then .negZero
    else .finite (as.map Addend.int).sum := by
  induction as with
  | nil => simp [addendFlags]
  | cons a t ih =>
    have hpt : ∀ b, b ∈ t → b.proper := fun b hb => hp b (List.mem_cons_of_mem a hb)
    cases a with
    | special g =>
      have hg : 0 < g ∧ g < 8 := hp (.special g) List.mem_cons_self
      have hne : g ||| addendFlags t ≠ 0 := fun h => hg.1.ne' (Nat.or_eq_zero_iff.mp h).1
      simp [SlotSum.add, SlotSum.foldl_special, addendFlags, hne]
    | negZero => simp [SlotSum.add, addendFlags, Addend.int, ih hpt]
    | _ => simp [SlotSum.add, addendFlags, Addend.int, SlotSum.foldl_finite t hpt]

/-- R329 to R334 for a list: with flags among the addends they are the sum; of negative zeros alone it is −0; otherwise it is the integer sum. -/
theorem SlotSum.foldl_nothing (as : List Addend) (hp : ∀ a, a ∈ as → a.proper) : as.foldl SlotSum.add .nothing =
    if addendFlags as ≠ 0 then .special (addendFlags as) else if as = [] then .nothing
    else if ∀ a, a ∈ as → a = .negZero then .negZero else .finite (as.map Addend.int).sum := by
  cases as with
  | nil => simp [addendFlags]
  | cons a t =>
    have hpt : ∀ b, b ∈ t → b.proper := fun b hb => hp b (List.mem_cons_of_mem a hb)
    cases a with
    | special g =>
      have hg : 0 < g ∧ g < 8 := hp (.special g) List.mem_cons_self
      have hne : g ||| addendFlags t ≠ 0 := fun h => hg.1.ne' (Nat.or_eq_zero_iff.mp h).1
      simp [SlotSum.add, SlotSum.foldl_special, addendFlags, hne]
    | negZero => simp [SlotSum.add, addendFlags, Addend.int, SlotSum.foldl_negZero t hpt]
    | _ => simp [SlotSum.add, addendFlags, Addend.int, SlotSum.foldl_finite t hpt]

/-- What the slot of a list of addends shows. -/
theorem asAddend_foldl {as : List Addend} (hp : ∀ a, a ∈ as → a.proper) : (as.foldl ASlot.take ASlot.reset).asAddend =
    (if addendFlags as ≠ 0 then SlotSum.special (addendFlags as) else if as = [] then .nothing
    else if ∀ a, a ∈ as → a = .negZero then .negZero else .finite (as.map Addend.int).sum).shown := by
  rw [← SlotSum.foldl_nothing as hp]
  exact ASlot.asAddend_of_holds (ASlot.foldl_holds hp (m := .nothing) rfl)

/-- Settles O59: the slot shows the sum of its list, whose conditions no reordering changes. -/
theorem slotSumsAreExact : Obligations.SlotSumsAreExact := by
  intro as hp
  refine ⟨fun hf => ?_, fun hf hne hneg => ?_, fun hf hsome => ?_, fun bs hperm => ?_⟩
  · rw [asAddend_foldl hp, if_pos hf, SlotSum.shown]
  · rw [asAddend_foldl hp, if_neg (by simp [hf]), if_neg hne, if_pos hneg, SlotSum.shown]
  · rw [asAddend_foldl hp, if_neg (by simp [hf])]
    rcases hsome with rfl | ⟨a, ha, hother⟩
    · simp [SlotSum.shown]
    · rw [if_neg (List.ne_nil_of_mem ha), if_neg fun h => hother (h a ha), SlotSum.shown]
  · have hpb : ∀ b, b ∈ bs → b.proper := fun b hb => hp b (hperm.mem_iff.mpr hb)
    have hnil : bs = [] ↔ as = [] := ⟨fun h => (h ▸ hperm).eq_nil, fun h => ((h ▸ hperm.symm).eq_nil)⟩
    rw [asAddend_foldl hp, asAddend_foldl hpb, addendFlags_perm hperm, (hperm.map Addend.int).sum_eq]
    simp only [hperm.mem_iff, hnil]

end Sys2Proof.Machine
end

section
/-! The trust anchors (R430): a fuse that is burnt stays burnt. Only the fuse writes and what calls them reach the fuses. -/

namespace Sys2Proof.Machine

/-- From `s` to `t` no trust anchor is taken back. -/
def State.keepsAnchors (s t : State) : Prop :=
  ∀ k, ((s.signer k).enrolled = true → (t.signer k).enrolled = true ∧ (t.signer k).key = (s.signer k).key) ∧
    ((s.signer k).revoked = true → (t.signer k).revoked = true)

theorem State.keepsAnchors_of_fuses {s t : State} (h : t.fuses = s.fuses) : s.keepsAnchors t := by
  have hsigner : ∀ k, t.signer k = s.signer k := fun k => by rw [State.signer, h, State.signer]
  exact fun k => by simp [hsigner k]

theorem State.keepsAnchors_refl (s : State) : s.keepsAnchors s := keepsAnchors_of_fuses rfl

theorem State.keepsAnchors_trans {s t u : State} (hst : s.keepsAnchors t) (htu : t.keepsAnchors u) : s.keepsAnchors u := by
  intro k
  obtain ⟨henrolled, hrevoked⟩ := hst k
  obtain ⟨henrolled', hrevoked'⟩ := htu k
  exact ⟨fun h => ⟨(henrolled' (henrolled h).1).1, (henrolled' (henrolled h).1).2.trans (henrolled h).2⟩, fun h => hrevoked' (hrevoked h)⟩

/-- What a frame without the fuses does behind `t`. -/
theorem State.keepsAnchors_step {s t u : State} (h : s.keepsAnchors t) (hu : u.mask (allBut .fuses) = t.mask (allBut .fuses)) :
    s.keepsAnchors u :=
  keepsAnchors_trans h (keepsAnchors_of_fuses (State.agree_of_allBut .fuses hu))

/-- One fuse slot written, with what was burnt in it. -/
theorem State.keepsAnchors_insert {s t : State} {k : Nat} {x : Signer} (h : t.fuses = tabInsert s.fuses k x)
    (henrolled : (s.signer k).enrolled = true → x.enrolled = true ∧ x.key = (s.signer k).key)
    (hrevoked : (s.signer k).revoked = true → x.revoked = true) : s.keepsAnchors t := by
  intro j
  have hsigner : t.signer j = if j = k then x else s.signer j := by
    simp only [State.signer, tabGet, h, tabFind_insert]
    split <;> rfl
  rw [hsigner]
  split
  case isTrue hj => exact hj ▸ ⟨henrolled, hrevoked⟩
  case isFalse => exact s.keepsAnchors_refl j

/-! ## The fuse writes -/

theorem State.finishFuse_keepsAnchors (s : State) (f : FuseWrite) : s.keepsAnchors (s.finishFuse f) := by
  unfold State.finishFuse
  extract_lets old new typ seq
  have hinsert : s.keepsAnchors { s with fuses := tabInsert s.fuses f.slot new } := by
    refine keepsAnchors_insert rfl (fun h => ?_) (fun h => ?_) <;> simp only [new] <;> split_ifs <;> simp_all [old]
  exact keepsAnchors_step hinsert (by simp)

theorem State.cutFuse_keepsAnchors (s : State) : s.keepsAnchors s.cutFuse := by
  unfold State.cutFuse
  split
  · exact s.keepsAnchors_refl
  · next f _ =>
    extract_lets old new
    have hinsert : s.keepsAnchors { s with fuses := tabInsert s.fuses f.slot new } := by
      refine keepsAnchors_insert rfl (fun h => ?_) (fun h => ?_) <;> simp only [new] <;> split_ifs <;> simp_all [old]
    exact keepsAnchors_step hinsert (by simp)

/-- A node reset finishes a fuse write that is under way. -/
theorem State.resetNode_keepsAnchors (s : State) (last : Nat) : s.keepsAnchors (s.resetNode last) := by
  unfold State.resetNode
  extract_lets s1 s2 power
  have hfuse : s.keepsAnchors s1 := by
    simp only [s1]
    split
    · exact s.finishFuse_keepsAnchors _
    · exact s.keepsAnchors_refl
  exact keepsAnchors_step hfuse (by simp [s2])

/-! ## The rows that reach them -/

/-- An outcome that takes no trust anchor back. -/
def State.anchorsKept (s : State) (o : Host.Outcome State Fault Refusal) : Prop := ∀ t, o = .next t → s.keepsAnchors t

theorem State.anchorsKept_next {s t : State} (h : s.keepsAnchors t) : s.anchorsKept (.next t) := by
  intro u hu
  cases hu
  exact h

theorem State.after_keepsAnchors {s : State} {o : Host.Outcome State Fault Refusal} (h : s.anchorsKept o) : s.keepsAnchors (s.after o) := by
  unfold State.after
  split
  · exact h _ rfl
  · exact s.keepsAnchors_refl

theorem execFuseWriteDone_anchorsKept (s : State) : s.anchorsKept (execFuseWriteDone s) := by
  unfold execFuseWriteDone
  split
  · exact State.anchorsKept_next (s.finishFuse_keepsAnchors _)
  · exact State.anchorsKept_next s.keepsAnchors_refl

theorem execKeeperPowerOnReset_anchorsKept (straps : BitVec 10) (s : State) : s.anchorsKept (execKeeperPowerOnReset straps s) :=
  State.anchorsKept_next (State.keepsAnchors_trans s.cutFuse_keepsAnchors (State.keepsAnchors_of_fuses rfl))

theorem execNodeReset_anchorsKept (src : ResetBy) (s : State) : s.anchorsKept (execNodeReset src s) := by
  unfold execNodeReset
  split
  · exact State.anchorsKept_next (State.keepsAnchors_step (s.resetNode_keepsAnchors 1) (by simp))
  · exact State.anchorsKept_next (State.keepsAnchors_of_fuses (by simp))
  · refine State.anchorsKept_next ?_
    unfold State.fmWrite
    split
    · exact s.resetNode_keepsAnchors 2
    · exact State.keepsAnchors_step s.keepsAnchors_refl (by simp)
  · refine State.anchorsKept_next ?_
    split
    · exact s.resetNode_keepsAnchors 3
    · exact s.keepsAnchors_refl

theorem execWakeTablesReady_anchorsKept (s : State) : s.anchorsKept (execWakeTablesReady s) := by
  unfold execWakeTablesReady
  split_ifs
  · exact State.anchorsKept_next s.keepsAnchors_refl
  · exact State.anchorsKept_next (s.resetNode_keepsAnchors 4)
  · exact State.anchorsKept_next (State.keepsAnchors_step (t := { s with kpr := { s.kpr with power := .run } })
      (State.keepsAnchors_of_fuses rfl) (by simp))

/-- Of the KPR registers the reset register alone leads to the fuses. -/
theorem State.kprWrite_keepsAnchors (s : State) (a off : Nat) (v : Word) : s.keepsAnchors (s.kprWrite a off v) := by
  unfold State.kprWrite
  split
  · exact keepsAnchors_step s.keepsAnchors_refl (by simp)
  split
  · split
    · exact s.keepsAnchors_refl
    split
    · exact after_keepsAnchors (execNodeReset_anchorsKept _ s)
    · exact keepsAnchors_of_fuses rfl
  split
  · exact keepsAnchors_step s.keepsAnchors_refl (by simp)
  · exact s.keepsAnchors_refl

theorem State.fmBlockWrite_keepsAnchors (s : State) (a off : Nat) (v : Word) : s.keepsAnchors (s.fmBlockWrite a off v) := by
  unfold State.fmBlockWrite
  split
  · exact keepsAnchors_step s.keepsAnchors_refl (by split <;> simp)
  · exact keepsAnchors_step s.keepsAnchors_refl (by simp)
  split
  · exact s.kprWrite_keepsAnchors a off v
  · refine keepsAnchors_step s.keepsAnchors_refl ?_
    split_ifs <;> simp

theorem State.regWrite_keepsAnchors (s : State) (a off : Nat) (v : Word) : s.keepsAnchors (s.regWrite a off v) := by
  unfold State.regWrite
  split
  · exact keepsAnchors_step s.keepsAnchors_refl (by simp)
  split
  · refine keepsAnchors_step s.keepsAnchors_refl ?_
    split_ifs <;> simp
  split
  · exact s.keepsAnchors_refl
  · exact keepsAnchors_step s.keepsAnchors_refl (by simp)
  · split_ifs
    all_goals first
      | exact s.fmBlockWrite_keepsAnchors a off v
      | exact keepsAnchors_step s.keepsAnchors_refl (by simp)

theorem execSeatInputRelease_anchorsKept (s : State) : s.anchorsKept (execSeatInputRelease s) := by
  unfold execSeatInputRelease
  split
  · refine State.anchorsKept_next (List.foldlRecOn (motive := s.keepsAnchors) _ _ ?_ fun t ht x _ => ?_)
    · exact State.keepsAnchors_of_fuses (by simp)
    · exact State.keepsAnchors_trans ht (t.regWrite_keepsAnchors x.src x.off x.value)
  · exact State.anchorsKept_next s.keepsAnchors_refl

theorem execFmWriteRx_anchorsKept (c : Cell) (s : State) : s.anchorsKept (execFmWriteRx c s) := by
  unfold execFmWriteRx
  have htake : s.keepsAnchors (s.takeEjected c) := State.keepsAnchors_step s.keepsAnchors_refl (by simp)
  split
  · exact State.anchorsKept_next s.keepsAnchors_refl
  split
  · exact fun _ h => nomatch h
  dsimp only
  split
  · exact State.anchorsKept_next (State.keepsAnchors_step htake (by simp))
  · exact State.anchorsKept_next (State.keepsAnchors_step (State.keepsAnchors_trans htake (State.regWrite_keepsAnchors _ 16 (bytesAt c.payload 4 4) (BitVec.ofNat 32 (bytesAt c.payload 8 4)))) (by simp))

/-- A row that does not list the fuses leaves them; the rows that do are those above. -/
theorem exec_anchorsKept (c : Instr) (s : State) : s.anchorsKept (exec c s) := by
  by_cases hfuses : StateField.fuses ∈ mayChange c
  case neg => exact fun t ht => State.keepsAnchors_of_fuses (exec_agree ht hfuses)
  case pos =>
    have hmask : mayChangeMask c .fuses = true := by simpa [mayChangeMask] using hfuses
    cases c with
    | keeperPowerOnReset straps => exact execKeeperPowerOnReset_anchorsKept straps s
    | nodeReset src => exact execNodeReset_anchorsKept src s
    | wakeTablesReady => exact execWakeTablesReady_anchorsKept s
    | fuseWriteDone => exact execFuseWriteDone_anchorsKept s
    | seatInputRelease => exact execSeatInputRelease_anchorsKept s
    | fmWriteRx c => exact execFmWriteRx_anchorsKept c s
    | registerWrite w off v => exact State.anchorsKept_next (s.regWrite_keepsAnchors w off.toNat v)
    | _ => exact absurd hmask Bool.false_ne_true

/-- Settles O7. -/
theorem trustAnchorsAreWriteOnce : Obligations.TrustAnchorsAreWriteOnce :=
  fun c s t k h => exec_anchorsKept c s t h k

end Sys2Proof.Machine
end

section
/-! The Plate controller stays sound (R60 to R75). First the controller's own moves; then the rows that make them; the other rows that name
the controller only count mismatches of its version (R458). -/

namespace Sys2Proof.Machine

/-! ## The controller's moves -/

namespace Plt

variable {p : Plt}

theorem sound.owned_iff (h : p.sound) : p.owned = true ↔ p.eng = .loading ∨ p.eng = .verifying := h.1
theorem sound.standby_iff (h : p.sound) : p.eng = .ready ↔ p.standby.isSome = true := h.2.2.2.1

/-- No version stands by while the controller is not READY. -/
theorem sound.standby_eq_none (h : p.sound) (heng : p.eng ≠ .ready) : p.standby = none := by
  simpa [Option.isSome_iff_ne_none] using mt h.standby_iff.mpr heng

/-- Nothing retires while the window is at work. -/
theorem sound.retiring_eq_none (h : p.sound) (heng : p.eng ≠ .idle ∨ p.cancelledAt ≠ none) : p.retiring = none := by
  obtain ⟨-, -, -, -, -, hretiring, -⟩ := h
  by_contra hsome
  obtain ⟨hidle, hnone, -⟩ := hretiring (Option.isSome_iff_ne_none.mpr hsome)
  exact heng.elim (absurd hidle) (absurd hnone)

theorem sound.armed_eq_false (h : p.sound) (heng : p.eng ≠ .ready) : p.armed = false := by
  obtain ⟨-, -, -, hready, -, -, harmed⟩ := h
  by_contra ha
  obtain ⟨v, hv, -⟩ := harmed (by simpa using ha)
  exact heng (hready.mpr (by simp [hv]))

theorem discarded_sound (ha : p.armed = false) (hr : p.retiring = none) : p.discarded.sound := by
  simp [sound, discarded, ha, hr]

/-- An OPEN that nothing forbids. -/
theorem opened_sound (ha : p.armed = false) (hr : p.retiring = none) (w : BitVec 4) :
    ({ p.discarded with eng := .loading, owned := true, owner := w, count := 0 } : Plt).sound := by
  simp [sound, discarded, ha, hr]

theorem failed_sound (h : p.sound) (heng : p.eng = .loading ∨ p.eng = .verifying) : p.failed.sound := by
  have hready : p.eng ≠ .ready := by rcases heng with h | h <;> simp [h]
  have hidle : p.eng ≠ .idle := by rcases heng with h | h <;> simp [h]
  simp [sound, failed, h.standby_eq_none hready, h.retiring_eq_none (.inl hidle), h.armed_eq_false hready]

theorem engraved_sound (h : p.sound) (heng : p.eng = .loading) (v : Word) :
    ({ p with words := v :: p.words, count := p.count + 1 } : Plt).sound := by
  have howned : p.owned = true := h.owned_iff.mpr (.inl heng)
  have hcount : p.count = p.words.length := h.2.1 howned
  simp [sound, heng, howned, hcount, h.standby_eq_none (by simp [heng]), h.retiring_eq_none (.inl (by simp [heng])),
    h.armed_eq_false (by simp [heng])]

theorem closed_sound (h : p.sound) (heng : p.eng = .loading) : ({ p with eng := .verifying } : Plt).sound := by
  have howned : p.owned = true := h.owned_iff.mpr (.inl heng)
  have hcount : p.count = p.words.length := h.2.1 howned
  simp [sound, howned, hcount, h.standby_eq_none (by simp [heng]), h.retiring_eq_none (.inl (by simp [heng])), h.armed_eq_false (by simp [heng])]

theorem stopped_sound (h : p.sound) (heng : p.eng = .loading ∨ p.eng = .verifying) (k : Nat) : (p.stopped k).sound := by
  have hready : p.eng ≠ .ready := by rcases heng with h | h <;> simp [h]
  have hidle : p.eng ≠ .idle := by rcases heng with h | h <;> simp [h]
  unfold stopped
  split <;> simp [sound, h.standby_eq_none hready, h.retiring_eq_none (.inl hidle), h.armed_eq_false hready]

/-- A verification that ends well, of a step only behind an active version. -/
theorem readied_sound (hr : p.retiring = none) (ha : p.armed = false) {v : PlateV} (hv : v.full = false → p.active.isSome = true) (k : Option Nat) :
    ({ p with eng := .ready, owned := false, words := [], standby := some v, cancelledAt := k } : Plt).sound := by
  simpa [sound, hr, ha] using hv

theorem failed_at_sound (hr : p.retiring = none) (ha : p.armed = false) (hs : p.standby = none) (k : Option Nat) :
    ({ p.failed with cancelledAt := k } : Plt).sound := by
  simp [sound, failed, hr, ha, hs]

theorem sealed_sound (h : p.sound) (heng : p.eng = .ready) {v : PlateV} (hv : p.standby = some v) (hfull : v.full = true) :
    ({ p with eng := .idle, standby := none, active := some v, cancelledAt := none } : Plt).sound := by
  have howned : p.owned = false := by simpa [heng] using h.owned_iff
  obtain ⟨-, -, hwords, -, -, -, harmed⟩ := h
  have ha : p.armed = false := by
    by_contra ha
    obtain ⟨u, hu, hstep⟩ := harmed (by simpa using ha)
    cases hv.symm.trans hu
    exact absurd hfull (by simp [hstep])
  have hw : p.words = [] := by simpa [heng] using hwords howned
  simp [sound, howned, hw, ha]

theorem armed_sound (h : p.sound) {v : PlateV} (hv : p.standby = some v) (hstep : v.full = false) (k : Nat) :
    ({ p with armed := true, flipTime := k } : Plt).sound := by
  obtain ⟨howned, hcount, hwords, hready, hactive, hretiring, -⟩ := h
  exact ⟨howned, hcount, hwords, hready, hactive, hretiring, fun _ => ⟨v, hv, hstep⟩⟩

theorem disarmed_sound (h : p.sound) : ({ p with armed := false } : Plt).sound := by
  obtain ⟨howned, hcount, hwords, hready, hactive, hretiring, -⟩ := h
  exact ⟨howned, hcount, hwords, hready, hactive, hretiring, fun ha => nomatch ha⟩

theorem flip_sound (h : p.sound) {old v : PlateV} (hv : p.standby = some v) (k : Nat) : (p.flip k old v).sound := by
  have hready : p.eng = .ready := h.standby_iff.mpr (by simp [hv])
  have howned : p.owned = false := by simpa [hready] using h.owned_iff
  have hwords : p.words = [] := by simpa [hready] using h.2.2.1 howned
  simp [sound, flip, howned, hwords]

theorem released_sound (h : p.sound) : ({ p with retiring := none } : Plt).sound := by
  obtain ⟨howned, hcount, hwords, hready, hactive, -, harmed⟩ := h
  exact ⟨howned, hcount, hwords, hready, hactive, by simp, harmed⟩

end Plt

/-! ## The rows of the engraving window and of versions -/

/-- A step from a sound controller ends in a sound one. -/
def State.keepsPlt (s t : State) : Prop := s.plt.sound → t.plt.sound

theorem State.keepsPlt_of_eq {s t : State} (h : t.plt = s.plt) : s.keepsPlt t := by
  intro hs
  rwa [h]

theorem State.keepsPlt_refl (s : State) : s.keepsPlt s := id

theorem State.keepsPlt_trans {s t u : State} (hst : s.keepsPlt t) (htu : t.keepsPlt u) : s.keepsPlt u := fun hs => htu (hst hs)

/-- What a frame without the controller does behind `t`. -/
theorem State.keepsPlt_step {s t u : State} (h : s.keepsPlt t) (hu : u.mask (allBut .plt) = t.mask (allBut .plt)) : s.keepsPlt u :=
  keepsPlt_trans h (keepsPlt_of_eq (State.agree_of_allBut .plt hu))

theorem State.keepsPlt_of_mask {s t : State} (h : t.mask (allBut .plt) = s.mask (allBut .plt)) : s.keepsPlt t :=
  keepsPlt_step s.keepsPlt_refl h

/-- An outcome that keeps the controller sound. -/
def State.pltKept (s : State) (o : Host.Outcome State Fault Refusal) : Prop := ∀ t, o = .next t → s.keepsPlt t

theorem State.pltKept_next {s t : State} (h : s.keepsPlt t) : s.pltKept (.next t) := by
  intro u hu
  cases hu
  exact h

theorem State.after_keepsPlt {s : State} {o : Host.Outcome State Fault Refusal} (h : s.pltKept o) : s.keepsPlt (s.after o) := by
  unfold State.after
  split
  · exact h _ rfl
  · exact s.keepsPlt_refl

theorem execOpenEng_pltKept (w : Win) (s : State) : s.pltKept (execOpenEng w s) := by
  unfold execOpenEng
  split
  · exact State.pltKept_next (State.keepsPlt_of_eq rfl)
  split
  · exact State.pltKept_next (State.keepsPlt_of_eq rfl)
  · next hpinned =>
    have ha : s.plt.armed = false := by simpa using fun h => hpinned (.inl h)
    have hr : s.plt.retiring = none := by simpa using fun h => hpinned (.inr h)
    exact State.pltKept_next fun _ => Plt.opened_sound ha hr _

theorem execPltEngLenWrite_pltKept (w : Win) (v : Word) (s : State) : s.pltKept (execPltEngLenWrite w v s) := by
  unfold execPltEngLenWrite
  split
  · next hload =>
    split
    · exact State.pltKept_next (State.keepsPlt_of_eq rfl)
    · exact State.pltKept_next fun h => Plt.failed_sound h (.inl hload.2)
  · exact State.pltKept_next s.keepsPlt_refl

theorem State.engrave_keepsPlt (s : State) (w off : Nat) (v : Word) : s.keepsPlt (s.engrave w off v) := by
  unfold State.engrave
  split
  · next hload => exact fun h => Plt.engraved_sound h hload.2 v
  · exact keepsPlt_of_mask (by simp)

theorem execCloseEng_pltKept (w : Win) (s : State) : s.pltKept (execCloseEng w s) := by
  unfold execCloseEng
  split
  · exact State.pltKept_next (State.keepsPlt_of_mask (by simp))
  split
  · next hload => exact State.pltKept_next fun h => Plt.closed_sound h hload
  · exact State.pltKept_next s.keepsPlt_refl

theorem execCancel_pltKept (w : Win) (s : State) : s.pltKept (execCancel w s) := by
  have hviol : s.keepsPlt (s.violation w 2 true R.pltEngCtl) := State.keepsPlt_of_mask (by simp)
  have hstop (heng : s.plt.eng = .loading ∨ s.plt.eng = .verifying) :
      s.pltKept (if s.ownsLoad w then .next (s.setPlt (s.plt.stopped s.clk.count)) else .next (s.violation w 2 true R.pltEngCtl)) := by
    split
    · exact State.pltKept_next fun h => Plt.stopped_sound h heng _
    · exact State.pltKept_next hviol
  have hdiscard (heng : s.plt.eng ≠ .idle) : s.pltKept (if ! s.winFm w then .next (s.violation w 2 true R.pltEngCtl)
      else if s.verifiedNow then .next s else if s.plt.armed then .next (s.pltErr 12 0) else .next (s.setPlt s.plt.discarded)) := by
    split
    · exact State.pltKept_next hviol
    split
    · exact State.pltKept_next s.keepsPlt_refl
    split
    · exact State.pltKept_next (State.keepsPlt_of_eq rfl)
    · next ha => exact State.pltKept_next fun h => Plt.discarded_sound (by simpa using ha) (Plt.sound.retiring_eq_none h (.inl heng))
  unfold execCancel
  split
  · exact State.pltKept_next s.keepsPlt_refl
  · next heng => exact hstop (.inl heng)
  · next heng => exact hstop (.inr heng)
  · next heng => exact hdiscard (by simp [heng])
  · next heng => exact hdiscard (by simp [heng])

theorem execArm_pltKept (a : Source) (s : State) : s.pltKept (execArm a s) := by
  unfold execArm
  split
  · exact State.pltKept_next (State.keepsPlt_of_mask (by simp))
  split
  · exact State.pltKept_next (State.keepsPlt_of_eq rfl)
  split
  · exact State.pltKept_next (State.keepsPlt_of_eq rfl)
  split
  · exact State.pltKept_next (State.keepsPlt_of_eq rfl)
  · next hready _ =>
    obtain ⟨v, hv, hstep⟩ : ∃ v, s.plt.standby = some v ∧ v.full = false := by
      cases hs : s.plt.standby <;> simp_all [State.stepReady]
    exact State.pltKept_next fun h => Plt.armed_sound h hv hstep _

theorem execDisarm_pltKept (a : Source) (s : State) : s.pltKept (execDisarm a s) := by
  unfold execDisarm
  split
  · exact State.pltKept_next (State.keepsPlt_of_mask (by simp))
  split
  · exact State.pltKept_next (State.keepsPlt_of_eq (by split <;> rfl))
  split
  · exact State.pltKept_next (State.keepsPlt_of_eq rfl)
  · exact State.pltKept_next fun h => Plt.disarmed_sound h

/-- A version that checkVersion accepts is a full Plate where none is active (R65). -/
theorem State.full_of_checkVersion {s : State} {p : List Word} {v : PlateV} (h : s.checkVersion p = .ok v) (hstep : v.full = false) :
    s.plt.active.isSome = true := by
  unfold State.checkVersion at h
  extract_lets node u at h
  split at h
  · cases h
  split at h
  · cases h
  next hbase =>
  have hfull : v.full = plateFull p := by
    split at h
    · cases h
    split at h
    · cases h
    split at h
    · cases h
    · cases h
      rfl
  have hbase : checkBase p node s.plt.active = true := by simpa using hbase
  unfold checkBase at hbase
  cases hactive : s.plt.active with
  | some _ => rfl
  | none => simp [hactive, ← hfull, hstep] at hbase

/-- How a verification ends: the load failed, or the controller is READY with a version that may stand by. -/
theorem State.verify_plt (s : State) : s.verify.plt = s.plt.failed ∨
    ∃ v, (v.full = false → s.plt.active.isSome = true) ∧
      s.verify.plt = { s.plt with eng := .ready, owned := false, words := [], standby := some v } := by
  unfold State.verify
  extract_lets p has s1
  split
  · exact .inl rfl
  split
  · exact .inl rfl
  split
  · exact .inl rfl
  · next v hv => exact .inr ⟨v, full_of_checkVersion hv, rfl⟩

theorem execVerificationDone_pltKept (s : State) : s.pltKept (execVerificationDone s) := by
  unfold execVerificationDone
  split
  · next hends =>
    refine State.pltKept_next fun h => ?_
    have hready : s.plt.eng ≠ .ready := by rcases hends with e | ⟨e, -⟩ <;> simp [e]
    have hr : s.plt.retiring = none := Plt.sound.retiring_eq_none h (by rcases hends with e | ⟨-, e⟩ <;> simp [e])
    have ha : s.plt.armed = false := Plt.sound.armed_eq_false h hready
    have hs : s.plt.standby = none := Plt.sound.standby_eq_none h hready
    obtain hplt | ⟨v, hv, hplt⟩ := State.verify_plt { s with plt := { s.plt with eng := .verifying, cancelledAt := none } }
    · simpa [State.endedNow, hplt, Plt.failed] using Plt.failed_at_sound (p := s.plt) hr ha hs (some _)
    · simpa [State.endedNow, hplt] using Plt.readied_sound (p := s.plt) hr ha hv (some _)
  · exact State.pltKept_next s.keepsPlt_refl

theorem State.sealed_keepsPlt (s : State) (v : PlateV) : s.keepsPlt (s.sealed v) := by
  refine keepsPlt_step (t := { s with plt := { s.plt with sealedAt := some s.clk.count } }) id ?_
  unfold State.sealed
  simp [State.mask_foldl (allBut .plt) (fun t n => t.roleLink n) (fun _ _ => by simp)]

theorem execSealPlate_pltKept (w : Win) (s : State) : s.pltKept (execSealPlate w s) := by
  unfold execSealPlate
  split
  · exact State.pltKept_next (State.keepsPlt_of_mask (by simp))
  split
  · next v heng hv =>
    split
    · next hfull => exact State.pltKept_next (State.keepsPlt_trans (fun h => Plt.sealed_sound h heng hv hfull.1) (State.sealed_keepsPlt _ v))
    · exact State.pltKept_next s.keepsPlt_refl
  · exact State.pltKept_next s.keepsPlt_refl

theorem execFlip_pltKept (s : State) : s.pltKept (execFlip s) := by
  unfold execFlip
  split
  · next old v _ hv =>
    split
    · exact State.pltKept_next (State.keepsPlt_step (t := s.setPlt (s.plt.flip s.clk.count old v)) (fun h => Plt.flip_sound h hv _) (by simp))
    · exact State.pltKept_next s.keepsPlt_refl
  · exact State.pltKept_next s.keepsPlt_refl

theorem execRetireRelease_pltKept (s : State) : s.pltKept (execRetireRelease s) := by
  unfold execRetireRelease
  split
  · split
    · exact State.pltKept_next s.keepsPlt_refl
    · exact State.pltKept_next (State.keepsPlt_step (t := s.setPlt { s.plt with retiring := none }) (fun h => Plt.released_sound h) (by simp))
  · exact State.pltKept_next s.keepsPlt_refl

theorem execHostWindowReset_pltKept (w : Win) (s : State) : s.pltKept (execHostWindowReset w s) := by
  by_cases hmay : s.winPresent w = true ∨ s.winFm w = true
  · obtain ⟨u, hu, hexec⟩ := execHostWindowReset_next hmay
    rw [hexec]
    refine State.pltKept_next ?_
    split
    · next howns =>
      have howned : s.plt.owned = true := by simpa [State.ownsLoad] using (Bool.and_eq_true_iff.mp howns).1
      exact fun h => Plt.failed_sound h (Plt.sound.owned_iff h |>.mp howned)
    · exact State.keepsPlt_of_eq hu
  · have hrefused : execHostWindowReset w s = .next (s.violation w 4 true (R.win w + R.hwCtl)) := by
      rw [execHostWindowReset, if_pos (by simpa using hmay)]
    exact hrefused ▸ State.pltKept_next (State.keepsPlt_of_mask (by simp))

/-! ## Resets -/

theorem State.resetNode_keepsPlt (s : State) (last : Nat) : s.keepsPlt (s.resetNode last) := fun _ => Plt.reset_sound

theorem execKeeperPowerOnReset_pltKept (straps : BitVec 10) (s : State) : s.pltKept (execKeeperPowerOnReset straps s) :=
  State.pltKept_next fun _ => Plt.reset_sound

theorem execNodeReset_pltKept (src : ResetBy) (s : State) : s.pltKept (execNodeReset src s) := by
  unfold execNodeReset
  split
  · exact State.pltKept_next (State.keepsPlt_step (s.resetNode_keepsPlt 1) (by simp))
  · exact State.pltKept_next (State.keepsPlt_of_eq (by simp))
  · refine State.pltKept_next ?_
    unfold State.fmWrite
    split
    · exact s.resetNode_keepsPlt 2
    · exact State.keepsPlt_of_mask (by simp)
  · refine State.pltKept_next ?_
    split
    · exact s.resetNode_keepsPlt 3
    · exact s.keepsPlt_refl

theorem execWakeTablesReady_pltKept (s : State) : s.pltKept (execWakeTablesReady s) := by
  unfold execWakeTablesReady
  split_ifs
  · exact State.pltKept_next s.keepsPlt_refl
  · exact State.pltKept_next (s.resetNode_keepsPlt 4)
  · exact State.pltKept_next (State.keepsPlt_step (t := { s with kpr := { s.kpr with power := .run } }) id (by simp))

/-! ## Mismatches of the version -/

/-- A mismatch is counted, and no more of the controller changes. -/
theorem State.matchState_keepsPlt (s : State) (n st tag : Nat) : s.keepsPlt (s.matchState n st tag) := by
  unfold State.matchState
  split
  · exact s.keepsPlt_refl
  extract_lets agrees _ s1 run s1' s2
  split
  · exact keepsPlt_step (t := s1) id (by simp)
  · have hs2 : s.keepsPlt s2 := keepsPlt_step (t := s1') id (by simp only [s2]; split <;> simp)
    split
    · exact keepsPlt_step hs2 (by simp)
    · exact hs2

theorem State.applySync_keepsPlt (s : State) (n : Nat) (c : Cell) : s.keepsPlt (s.applySync n c) := by
  unfold State.applySync
  extract_lets p sample stamp _ _ s1 s2 s3 s4 s5 s6 s7
  have hs5 : s.keepsPlt s5 := by
    have h1 : s.keepsPlt s1 := keepsPlt_of_eq rfl
    have h2 : s.keepsPlt s2 := keepsPlt_step h1 (by simp [s2])
    have h3 : s.keepsPlt s3 := keepsPlt_step h2 (by simp only [s3, sample]; split <;> simp)
    have h4 : s.keepsPlt s4 := keepsPlt_step h3 (by simp [s4])
    refine keepsPlt_step h4 ?_
    simp only [s5, sample]
    split <;> simp
  have hs6 : s.keepsPlt s6 := by
    simp only [s6]
    split
    · exact hs5
    · exact keepsPlt_trans hs5 (s5.matchState_keepsPlt n _ _)
  exact keepsPlt_step hs6 (by simp [s7])

theorem execSyncRx_pltKept (n : LinkIx) (c : Cell) (s : State) : s.pltKept (execSyncRx n c s) := by
  unfold execSyncRx
  split
  · exact State.pltKept_next s.keepsPlt_refl
  split
  · exact State.pltKept_next (State.keepsPlt_trans (State.keepsPlt_of_mask (by simp)) (State.applySync_keepsPlt _ n c))
  · exact fun _ h => nomatch h

theorem State.checkIdent_keepsPlt (s : State) (n : Nat) (p : Line) : s.keepsPlt (s.checkIdent n p) := by
  unfold State.checkIdent
  extract_lets seat s1 s2 s3
  have hs2 : s.keepsPlt s2 := keepsPlt_of_mask (by simp [s2, s1])
  have hs3 : s.keepsPlt s3 := keepsPlt_step hs2 (by simp [s3])
  split
  · exact hs2
  split
  · exact hs3
  · exact keepsPlt_trans hs3 (s3.matchState_keepsPlt n _ _)

theorem State.completeIdent_keepsPlt (s : State) (n : Nat) (p : Line) : s.keepsPlt (s.completeIdent n p) := by
  unfold State.completeIdent
  split
  · exact keepsPlt_of_mask (by simp)
  · next w ks _ =>
    extract_lets x old session t s1 s2 s3
    have hs2 : s.keepsPlt s2 := keepsPlt_of_mask (by simp only [s2, s1, t]; split <;> simp)
    have hmap : s.keepsPlt ((s2.applyMap n ks).mapRecords n old ks) := keepsPlt_step hs2 (by simp)
    exact keepsPlt_step (keepsPlt_trans hmap (State.checkIdent_keepsPlt _ n p)) (State.mask_foldl _ _ (fun _ _ => by simp) _ _)

theorem State.tryComplete_keepsPlt (s : State) (n : Nat) : s.keepsPlt (s.tryComplete n) := by
  unfold State.tryComplete
  dsimp only
  split
  · next p _ =>
    split
    · split
      · exact s.completeIdent_keepsPlt n p
      · split
        · split
          · exact keepsPlt_step (s.completeIdent_keepsPlt n p) (by simp)
          · exact s.keepsPlt_refl
        · exact s.keepsPlt_refl
    · exact s.keepsPlt_refl
  · exact s.keepsPlt_refl

theorem State.sendIdent_keepsPlt (s : State) (n : Nat) : s.keepsPlt (s.sendIdent n) := by
  unfold State.sendIdent
  extract_lets x count c s1 s2
  exact keepsPlt_trans (keepsPlt_of_mask (by simp only [s2, s1]; split <;> simp)) (s2.tryComplete_keepsPlt n)

theorem execLinkTxSlot_pltKept (n : LinkIx) (s : State) : s.pltKept (execLinkTxSlot n s) := by
  unfold execLinkTxSlot
  extract_lets s1 x
  have hs1 : s.keepsPlt s1 := State.keepsPlt_of_mask (by simp [s1])
  split
  · exact State.pltKept_next s.keepsPlt_refl
  split
  · exact State.pltKept_next (State.keepsPlt_step hs1 (by simp))
  · exact State.pltKept_next (State.keepsPlt_step hs1 (by simp))
  · refine State.pltKept_next ?_
    split
    · exact State.keepsPlt_step hs1 (by simp)
    split
    · exact State.keepsPlt_step hs1 (by simp)
    · exact State.keepsPlt_trans hs1 (s1.sendIdent_keepsPlt n)
  · exact State.pltKept_next (State.keepsPlt_step hs1 (by simp))

theorem State.takeIdent_keepsPlt (s : State) (n : Nat) (p : Line) : s.keepsPlt (s.takeIdent n p) := by
  unfold State.takeIdent
  extract_lets x reg s1 same s2
  have hs1 : s.keepsPlt s1 := keepsPlt_of_mask (by simp [s1])
  have hs2 : s.keepsPlt s2 := keepsPlt_step hs1 (by simp [s2])
  split
  · exact keepsPlt_step hs1 (by simp)
  split
  · exact keepsPlt_step hs2 (by simp)
  · exact keepsPlt_trans hs2 (s2.tryComplete_keepsPlt n)

theorem execIdentRx_pltKept (n : LinkIx) (c : Cell) (s : State) : s.pltKept (execIdentRx n c s) := by
  unfold execIdentRx
  split
  · exact fun _ h => nomatch h
  split
  · exact State.pltKept_next (State.keepsPlt_of_mask (by simp))
  split
  · exact State.pltKept_next s.keepsPlt_refl
  split
  · exact State.pltKept_next (State.keepsPlt_of_mask (by simp))
  · dsimp only
    have hlocal : s.keepsPlt (s.localRx n c).2 := State.keepsPlt_of_mask (by simp)
    split
    · exact State.pltKept_next (State.keepsPlt_trans hlocal (State.takeIdent_keepsPlt _ n c.payload))
    · exact State.pltKept_next hlocal

/-! ## Register writes -/

theorem State.engWrite_keepsPlt (s : State) (a off : Nat) (v : Word) : s.keepsPlt (s.engWrite a off v) := by
  unfold State.engWrite
  dsimp only
  split
  · split
    · exact after_keepsPlt (execOpenEng_pltKept _ s)
    · exact after_keepsPlt (execCloseEng_pltKept _ s)
    · exact after_keepsPlt (execSealPlate_pltKept _ s)
    · exact after_keepsPlt (execCancel_pltKept _ s)
    · exact s.keepsPlt_refl
  split
  · exact after_keepsPlt (execPltEngLenWrite_pltKept _ v s)
  split
  · split
    · exact after_keepsPlt (execArm_pltKept _ s)
    · exact after_keepsPlt (execDisarm_pltKept _ s)
    · exact s.keepsPlt_refl
  · exact s.engrave_keepsPlt _ off v

theorem State.hwWrite_keepsPlt (s : State) (w r : Nat) (v : Word) : s.keepsPlt (s.hwWrite w r v) := by
  unfold State.hwWrite
  extract_lets off
  split
  · exact keepsPlt_of_mask (by simp)
  split
  · exact keepsPlt_of_mask (by simp)
  split
  · split
    · exact after_keepsPlt (execHostWindowReset_pltKept _ s)
    · exact s.keepsPlt_refl
  · exact keepsPlt_of_mask (by split_ifs <;> simp)

theorem State.ownWrite_keepsPlt (s : State) (w r : Nat) (v : Word) : s.keepsPlt (s.ownWrite w r v) := by
  unfold State.ownWrite
  extract_lets off here
  split_ifs
  all_goals first
    | exact s.hwWrite_keepsPlt w r v
    | exact keepsPlt_of_mask (by simp)

theorem State.kprWrite_keepsPlt (s : State) (a off : Nat) (v : Word) : s.keepsPlt (s.kprWrite a off v) := by
  unfold State.kprWrite
  split
  · exact keepsPlt_of_mask (by simp)
  split
  · split
    · exact s.keepsPlt_refl
    split
    · exact after_keepsPlt (execNodeReset_pltKept _ s)
    · exact keepsPlt_of_eq rfl
  split
  · exact keepsPlt_of_mask (by simp)
  · exact s.keepsPlt_refl

theorem State.fmBlockWrite_keepsPlt (s : State) (a off : Nat) (v : Word) : s.keepsPlt (s.fmBlockWrite a off v) := by
  unfold State.fmBlockWrite
  split
  · exact keepsPlt_of_mask (by split <;> simp)
  · exact keepsPlt_of_mask (by simp)
  split
  · exact s.kprWrite_keepsPlt a off v
  · exact keepsPlt_of_mask (by split_ifs <;> simp)

theorem State.regWrite_keepsPlt (s : State) (a off : Nat) (v : Word) : s.keepsPlt (s.regWrite a off v) := by
  unfold State.regWrite
  split
  · exact keepsPlt_of_mask (by simp)
  split
  · split
    · exact keepsPlt_of_mask (by simp)
    split
    · exact keepsPlt_of_mask (by simp)
    · exact s.ownWrite_keepsPlt a _ v
  split
  · exact s.keepsPlt_refl
  · exact keepsPlt_of_mask (by simp)
  · split
    · exact keepsPlt_of_mask (by simp)
    split
    · exact keepsPlt_of_mask (by simp)
    split
    · exact s.engWrite_keepsPlt a off v
    split
    · exact keepsPlt_of_mask (by simp)
    split
    · exact s.fmBlockWrite_keepsPlt a off v
    · exact s.keepsPlt_refl

theorem execSeatInputRelease_pltKept (s : State) : s.pltKept (execSeatInputRelease s) := by
  unfold execSeatInputRelease
  split
  · refine State.pltKept_next (List.foldlRecOn (motive := s.keepsPlt) _ _ ?_ fun t ht x _ => ?_)
    · exact State.keepsPlt_of_eq (by simp)
    · exact State.keepsPlt_trans ht (t.regWrite_keepsPlt x.src x.off x.value)
  · exact State.pltKept_next s.keepsPlt_refl

theorem execFmWriteRx_pltKept (c : Cell) (s : State) : s.pltKept (execFmWriteRx c s) := by
  unfold execFmWriteRx
  have htake : s.keepsPlt (s.takeEjected c) := State.keepsPlt_of_mask (by simp)
  split
  · exact State.pltKept_next s.keepsPlt_refl
  split
  · exact fun _ h => nomatch h
  dsimp only
  split
  · exact State.pltKept_next (State.keepsPlt_step htake (by simp))
  · exact State.pltKept_next (State.keepsPlt_step
      (State.keepsPlt_trans htake (State.regWrite_keepsPlt _ 16 (bytesAt c.payload 4 4) (BitVec.ofNat 32 (bytesAt c.payload 8 4)))) (by simp))

/-! ## Every step -/

/-- A row that does not list the controller leaves it; the rows that do are those above. -/
theorem exec_pltKept (c : Instr) (s : State) : s.pltKept (exec c s) := by
  by_cases hplt : StateField.plt ∈ mayChange c
  case neg => exact fun t ht => State.keepsPlt_of_eq (exec_agree ht hplt)
  case pos =>
    have hmask : mayChangeMask c .plt = true := by simpa [mayChangeMask] using hplt
    cases c with
    | keeperPowerOnReset straps => exact execKeeperPowerOnReset_pltKept straps s
    | nodeReset src => exact execNodeReset_pltKept src s
    | hostWindowReset w => exact execHostWindowReset_pltKept w s
    | wakeTablesReady => exact execWakeTablesReady_pltKept s
    | openEng w => exact execOpenEng_pltKept w s
    | pltEngLenWrite w v => exact execPltEngLenWrite_pltKept w v s
    | engraveWord w v => exact State.pltKept_next (s.engrave_keepsPlt w _ v)
    | closeEng w => exact execCloseEng_pltKept w s
    | verificationDone => exact execVerificationDone_pltKept s
    | cancel w => exact execCancel_pltKept w s
    | sealPlate w => exact execSealPlate_pltKept w s
    | arm a => exact execArm_pltKept a s
    | disarm a => exact execDisarm_pltKept a s
    | flip => exact execFlip_pltKept s
    | retireRelease => exact execRetireRelease_pltKept s
    | linkTxSlot n => exact execLinkTxSlot_pltKept n s
    | identRx n c => exact execIdentRx_pltKept n c s
    | syncRx n c => exact execSyncRx_pltKept n c s
    | seatInputRelease => exact execSeatInputRelease_pltKept s
    | fmWriteRx c => exact execFmWriteRx_pltKept c s
    | registerWrite w off v => exact State.pltKept_next (s.regWrite_keepsPlt w off.toNat v)
    | _ => exact absurd hmask Bool.false_ne_true

/-- Settles O9: a cycle of the empty queue leaves the controller, and every command keeps it sound. -/
theorem stepKeepsPlateControllerSound : Obligations.StepKeepsPlateControllerSound := by
  intro s t hs hstep
  unfold step at hstep
  split at hstep
  · cases hstep
    exact State.keepsPlt_of_mask (t := s.idle) (by simp) hs
  · exact exec_pltKept _ _ _ hstep hs

end Sys2Proof.Machine
end

section
/-! Every step keeps memory in its canonical form. A function whose frame leaves memory out does so by its frame; for each of the others there is
one lemma, in the order of the model. -/

namespace Sys2Proof.Machine

/-- The mask of everything but memory. A frame without memory is an equation under it, and whether memory is canonical shows through it. -/
abbrev memOnly : StateField → Bool := allBut .memory

/-- Memory is in its canonical form. -/
def State.memWf (s : State) : Prop := Memory.wf s.memory = true

@[simp] theorem State.memWf_ite (c : Prop) [Decidable c] (s t : State) : (if c then s else t).memWf ↔ (c → s.memWf) ∧ (¬ c → t.memWf) := by
  split <;> simp [*]

@[simp] theorem State.memWf_mk {a0 a1 a2 a3 a4 a5 a6 a7 a8 a9 a10 a11 a12 a13 a14 a15 a16 a17 a18 a19 a20 a21 a22 a23 a24} :
    (State.mask memOnly (State.mk a0 a1 a2 a3 a4 a5 a6 a7 a8 a9 a10 a11 a12 a13 a14 a15 a16 a17 a18 a19 a20 a21 a22 a23 a24)).memWf ↔
      Memory.wf a23 = true := Iff.rfl

@[simp] theorem State.wf_memory (s : State) : Memory.wf s.memory = true ↔ (State.mask memOnly s).memWf := Iff.rfl

theorem State.memWf_foldl {α : Type} {f : State → α → State} (h : ∀ t x, (State.mask memOnly t).memWf → (State.mask memOnly (f t x)).memWf)
    (l : List α) {s : State} (hs : (State.mask memOnly s).memWf) : (State.mask memOnly (l.foldl f s)).memWf :=
  List.foldlRecOn (motive := fun t => (State.mask memOnly t).memWf) l f hs fun t ht x _ => h t x ht

theorem State.memWf_foldl_snd {α β : Type} {f : β × State → α → β × State}
    (h : ∀ p x, (State.mask memOnly p.2).memWf → (State.mask memOnly (f p x).2).memWf)
    (l : List α) {p : β × State} (hp : (State.mask memOnly p.2).memWf) : (State.mask memOnly (l.foldl f p).2).memWf :=
  List.foldlRecOn (motive := fun p : β × State => (State.mask memOnly p.2).memWf) l f hp fun p hp x _ => h p x hp

/-- An outcome that, where it is a next state, has its memory in the canonical form. -/
def State.MemKept : Host.Outcome State Fault Refusal → Prop
  | .next t => (State.mask memOnly t).memWf
  | _ => True

@[simp] theorem State.memKept_next (t : State) : State.MemKept (.next t) ↔ (State.mask memOnly t).memWf := Iff.rfl
@[simp] theorem State.memKept_fault (f : Fault) : State.MemKept (.fault f) := trivial
@[simp] theorem State.memKept_refused (r : Refusal) : State.MemKept (.refused r) := trivial
@[simp] theorem State.memKept_ite (c : Prop) [Decidable c] (a b : Host.Outcome State Fault Refusal) :
    State.MemKept (if c then a else b) ↔ (c → State.MemKept a) ∧ (¬ c → State.MemKept b) := by split <;> simp [*]

@[simp] theorem State.setRawLine_memWf (s : State) (key : Nat) (l : Line) (hs : (State.mask memOnly s).memWf) :
    (State.mask memOnly (s.setRawLine key l)).memWf :=
  State.setRawLine_wf s key l hs

/-! ### The guards around a write -/

@[simp] theorem State.lastWins_memWf (s : State) (a off : Nat) (f : State → State)
    (hf : ∀ t, (State.mask memOnly t).memWf → (State.mask memOnly (f t)).memWf) (hs : (State.mask memOnly s).memWf) :
    (State.mask memOnly (s.lastWins a off f)).memWf := by
  unfold State.lastWins
  extract_lets behind _
  rw [State.mask_ite, State.memWf_ite]
  exact ⟨fun _ => hs, fun _ => hf _ hs⟩

@[simp] theorem State.unlessHeld_memWf (s : State) (a off : Nat) (v : Word) (f : State → State)
    (hf : ∀ t, (State.mask memOnly t).memWf → (State.mask memOnly (f t)).memWf) (hs : (State.mask memOnly s).memWf) :
    (State.mask memOnly (s.unlessHeld a off v f)).memWf := by
  unfold State.unlessHeld
  split
  · simp [hs]
  · exact hf _ hs

@[simp] theorem State.fmRw_memWf (s : State) (a off : Nat) (v : Word) (f : State → State)
    (hf : ∀ t, (State.mask memOnly t).memWf → (State.mask memOnly (f t)).memWf) (hs : (State.mask memOnly s).memWf) :
    (State.mask memOnly (s.fmRw a off v f)).memWf := by
  unfold State.fmRw State.fmWrite
  split
  · exact State.lastWins_memWf _ _ _ _ (fun t ht => State.unlessHeld_memWf _ _ _ _ _ (fun u hu => hf _ (by simp [hu])) ht) hs
  · simp [hs]

@[simp] theorem State.after_memWf (s : State) (o : Host.Outcome State Fault Refusal) (ho : State.MemKept o) (hs : (State.mask memOnly s).memWf) :
    (State.mask memOnly (s.after o)).memWf := by
  unfold State.after
  split
  · exact ho
  · exact hs

@[simp] theorem State.writeLine_memWf (s : State) (v : PlateV) (g : Region) (off : Nat) (l : Line) (hs : (State.mask memOnly s).memWf) :
    (State.mask memOnly (State.writeLine s v g off l)).memWf := by
  unfold State.writeLine
  simp [hs]

@[simp] theorem State.writeFrom_memWf (v : PlateV) (g : Region) (x1 : Nat) (x2 : Nat) (x3 : List Byte) (x4 : State) (hs : (State.mask memOnly x4).memWf) :
    (State.mask memOnly (State.writeFrom v g x1 x2 x3 x4)).memWf := by
  induction x1 generalizing x2 x3 x4 with
  | zero => exact hs
  | succ f ih =>
    rw [State.writeFrom]
    split
    · exact hs
    · refine ih _ _ _ ?_
      split
      · simp [hs]
      · split <;> simp [hs]

@[simp] theorem State.writeBytes_memWf (s : State) (v : PlateV) (g : Region) (off : Nat) (d : List Byte) (hs : (State.mask memOnly s).memWf) :
    (State.mask memOnly (State.writeBytes s v g off d)).memWf := by
  unfold State.writeBytes
  simp [hs]

@[simp] theorem State.writeAt_memWf (s : State) (addr : Nat) (d : List Byte) (hs : (State.mask memOnly s).memWf) :
    (State.mask memOnly (State.writeAt s addr d)).memWf := by
  unfold State.writeAt
  split <;> simp [hs]

@[simp] theorem State.writeRecord_memWf (s : State) (q : Nat) (r : BitVec 256) (hs : (State.mask memOnly s).memWf) :
    (State.mask memOnly (State.writeRecord s q r)).memWf := by
  unfold State.writeRecord
  simp [hs]

@[simp] theorem State.putReserved_memWf (s : State) (q : Nat) (r : BitVec 256) (hs : (State.mask memOnly s).memWf) :
    (State.mask memOnly (State.putReserved s q r)).memWf := by
  unfold State.putReserved
  simp [hs]

@[simp] theorem State.putWaiting_memWf (s : State) (q : Nat) (r : BitVec 256) (hs : (State.mask memOnly s).memWf) :
    (State.mask memOnly (State.putWaiting s q r)).memWf := by
  unfold State.putWaiting
  simp [hs]

@[simp] theorem State.drainWaiting_memWf (s : State) (q : Nat) (x1 : Nat) (hs : (State.mask memOnly s).memWf) :
    (State.mask memOnly (State.drainWaiting s q x1)).memWf := by
  induction x1 generalizing s with
  | zero => exact hs
  | succ f ih =>
    rw [State.drainWaiting]
    split
    · exact hs
    · split
      · exact ih _ (by simp [hs])
      · exact hs

@[simp] theorem State.completeAt_memWf (s : State) (i : Issue) (c : Comp) (time : Nat) (hs : (State.mask memOnly s).memWf) :
    (State.mask memOnly (State.completeAt s i c time)).memWf := by
  unfold State.completeAt
  simp [hs]

@[simp] theorem State.complete_memWf (s : State) (i : Issue) (c : Comp) (hs : (State.mask memOnly s).memWf) :
    (State.mask memOnly (State.complete s i c)).memWf := by
  unfold State.complete
  simp [hs]

@[simp] theorem State.completeEarly_memWf (s : State) (i : Issue) (c : Comp) (hs : (State.mask memOnly s).memWf) :
    (State.mask memOnly (State.completeEarly s i c)).memWf := by
  unfold State.completeEarly
  simp [hs]

@[simp] theorem State.putBytes_memWf (s : State) (part : Nat) (addr : Nat) (b : List Byte) {t0 : State}     (h : State.putBytes s part addr b = .ok t0) (hs : (State.mask memOnly s).memWf) :
    (t0.mask memOnly).memWf := by
  unfold State.putBytes at h
  extract_lets off at h
  split at h
  · cases h; exact hs
  · split at h
    · cases h
    · split at h
      · cases h
      · split at h
        · cases h
        · cases h; simp [hs]

@[simp] theorem State.closeOp_memWf (s : State) (t : Nat) (o : Op) (c : Comp) (time : Nat) (hs : (State.mask memOnly s).memWf) :
    (State.mask memOnly (State.closeOp s t o c time)).memWf := by
  unfold State.closeOp
  repeat' split
  all_goals simp [hs]

@[simp] theorem State.releaseFixed_memWf (s : State) (key : Nat) (x1 : Nat) (hs : (State.mask memOnly s).memWf) :
    (State.mask memOnly (State.releaseFixed s key x1)).memWf := by
  induction x1 generalizing s with
  | zero => exact hs
  | succ f ih =>
    rw [State.releaseFixed]
    split
    · exact ih _ (by simp [hs])
    · exact hs

@[simp] theorem State.fixOp_memWf (s : State) (t : Nat) (c : Comp) (hs : (State.mask memOnly s).memWf) :
    (State.mask memOnly (State.fixOp s t c)).memWf := by
  unfold State.fixOp
  repeat' split
  all_goals simp [hs]

@[simp] theorem State.advance_memWf (t : Nat) (x1 : Nat) (x2 : State) (hs : (State.mask memOnly x2).memWf) :
    (State.mask memOnly (State.advance t x1 x2)).memWf := by
  induction x1 generalizing x2 with
  | zero => exact hs
  | succ f ih =>
    rw [State.advance]
    have hr : (State.mask memOnly (x2.readAhead t)).memWf := by simp [hs]
    split
    · exact hr
    · split
      · exact ih _ (by simp [hs])
      · split <;> simp [hs]

@[simp] theorem State.advanceAll_memWf (s : State) (t : Nat) (hs : (State.mask memOnly s).memWf) :
    (State.mask memOnly (State.advanceAll s t)).memWf := by
  unfold State.advanceAll
  exact State.memWf_foldl (fun t x ht => by simp [ht]) _ (by simp [hs])

@[simp] theorem State.doneMsg_memWf (s : State) (t : Nat) (k : Nat) (a : Answer) (bytes : Nat) (xor : Nat) (hs : (State.mask memOnly s).memWf) :
    (State.mask memOnly (State.doneMsg s t k a bytes xor)).memWf := by
  unfold State.doneMsg
  split <;> simp [hs]

@[simp] theorem State.sendPending_memWf (s : State) (t : Nat) (k : Nat) (hs : (State.mask memOnly s).memWf) :
    (State.mask memOnly (State.sendPending s t k)).memWf := by
  unfold State.sendPending
  repeat' split
  all_goals simp [hs]

@[simp] theorem State.resendMsg_memWf (s : State) (t : Nat) (k : Nat) (len : Nat) (hs : (State.mask memOnly s).memWf) :
    (State.mask memOnly (State.resendMsg s t k len)).memWf := by
  unfold State.resendMsg
  repeat' split
  all_goals simp [hs]

@[simp] theorem State.endSource_memWf (s : State) (tag : Nat) (k : Nat) (j : Job) (hs : (State.mask memOnly s).memWf) :
    (State.mask memOnly (State.endSource s tag k j)).memWf := by
  unfold State.endSource
  split <;> simp [hs]

@[simp] theorem State.failRequest_memWf (s : State) (t : Nat) (k : Nat) (a : Answer) (hs : (State.mask memOnly s).memWf) :
    (State.mask memOnly (State.failRequest s t k a)).memWf := by
  unfold State.failRequest
  repeat' first | (simp [*]; done) | refine State.memWf_foldl (fun t x ht => ?_) _ ?_ | split

@[simp] theorem State.busyMsg_memWf (s : State) (t : Nat) (k : Nat) (a : Answer) (hs : (State.mask memOnly s).memWf) :
    (State.mask memOnly (State.busyMsg s t k a)).memWf := by
  unfold State.busyMsg
  split
  · simp [hs]
  · split <;> simp [hs]

@[simp] theorem State.checkMsg_memWf (s : State) (t : Nat) (k : Nat) (hs : (State.mask memOnly s).memWf) :
    (State.mask memOnly (State.checkMsg s t k)).memWf := by
  unfold State.checkMsg
  split
  · simp [hs]
  · split <;> simp [hs]

@[simp] theorem State.writeAnswer_memWf (s : State) (t : Nat) (k : Nat) (a : Answer) (p : Line) (hs : (State.mask memOnly s).memWf) :
    (State.mask memOnly (State.writeAnswer s t k a p)).memWf := by
  unfold State.writeAnswer
  split
  · simp [hs]
  · split <;> simp [hs]

@[simp] theorem State.writeLocal_memWf (s : State) (o : Op) (at0 : Nat) (b : List Byte) {t0 : State}     (h : State.writeLocal s o at0 b = .ok t0) (hs : (State.mask memOnly s).memWf) :
    (t0.mask memOnly).memWf := by
  unfold State.writeLocal at h
  exact State.putBytes_memWf _ _ _ _ h hs

@[simp] theorem State.judgeChunk_memWf (s : State) (t : Nat) (o : Op) (k : Nat) (m0 : Msg) (check : BitVec 128) (good : Option (List Byte)) (hs : (State.mask memOnly s).memWf) :
    (State.mask memOnly (State.judgeChunk s t o k m0 check good)).memWf := by
  unfold State.judgeChunk
  split <;> simp [hs]

@[simp] theorem State.tryChunk_memWf (s : State) (t : Nat) (k : Nat) (hs : (State.mask memOnly s).memWf) :
    (State.mask memOnly (State.tryChunk s t k)).memWf := by
  unfold State.tryChunk
  dsimp only
  split
  · exact hs
  split
  · exact hs
  split
  · exact hs
  split
  · exact hs
  split
  · split
    · rename_i hw
      exact State.judgeChunk_memWf _ _ _ _ _ _ _ (State.writeLocal_memWf _ _ _ _ hw hs)
    · simp [hs]
  · simp [hs]

@[simp] theorem execLoadDataRx_memKept (c : Cell) (s : State) (hs : (State.mask memOnly s).memWf) :
    State.MemKept (execLoadDataRx c s) := by
  unfold execLoadDataRx
  dsimp only
  have h0 : (State.mask memOnly (s.takeEjected c)).memWf := by simp [hs]
  generalize s.takeEjected c = s0 at h0 ⊢
  split
  · exact hs
  split
  · trivial
  split
  · simp [h0]
  split
  · simp [h0]
  split
  · exact h0
  split
  · simp [h0]
  split
  · simp [h0]
  have h1 (a b d) : (State.mask memOnly (s0.setMsg a b d)).memWf := by simp [h0]
  split
  · exact State.tryChunk_memWf _ _ _ (h1 _ _ _)
  · split
    · rename_i hw
      exact State.tryChunk_memWf _ _ _ (State.writeLocal_memWf _ _ _ _ hw (h1 _ _ _))
    · simp [h0]

@[simp] theorem State.loadAnswer_memWf (s : State) (t : Nat) (k : Nat) (a : Answer) (p : Line) (hs : (State.mask memOnly s).memWf) :
    (State.mask memOnly (State.loadAnswer s t k a p)).memWf := by
  unfold State.loadAnswer
  split
  · simp [hs]
  · split <;> simp [hs]

@[simp] theorem State.completionRx_memWf (s : State) (c : Cell) (hs : (State.mask memOnly s).memWf) :
    (State.mask memOnly (State.completionRx s c)).memWf := by
  unfold State.completionRx
  dsimp only
  repeat' split
  all_goals simp [hs]

@[simp] theorem execAtomicRspRx_memKept (c : Cell) (s : State) (hs : (State.mask memOnly s).memWf) :
    State.MemKept (execAtomicRspRx c s) := by
  unfold execAtomicRspRx
  dsimp only
  repeat' split
  all_goals simp [hs]

@[simp] theorem execOutcomeRspRx_memKept (c : Cell) (s : State) (hs : (State.mask memOnly s).memWf) :
    State.MemKept (execOutcomeRspRx c s) := by
  unfold execOutcomeRspRx
  dsimp only
  repeat' split
  all_goals simp [hs]

@[simp] theorem State.endOp_memWf (s : State) (t : Nat) (a : Answer) (hs : (State.mask memOnly s).memWf) :
    (State.mask memOnly (State.endOp s t a)).memWf := by
  unfold State.endOp
  split <;> simp [hs]

@[simp] theorem State.lossOp_memWf (s : State) (t : Nat) (direct : Option Nat) (unsent : Bool) (reason : Nat) (hs : (State.mask memOnly s).memWf) :
    (State.mask memOnly (State.lossOp s t direct unsent reason)).memWf := by
  unfold State.lossOp
  split
  · exact hs
  split
  · exact hs
  · split <;> simp [hs]

@[simp] theorem State.expireOp_memWf (s : State) (t : Nat) (o : Op) (reason : Nat) (hs : (State.mask memOnly s).memWf) :
    (State.mask memOnly (State.expireOp s t o reason)).memWf := by
  unfold State.expireOp
  split
  · simp [hs]
  · split <;> simp [hs]

@[simp] theorem State.opTimeoutDue_memWf (s : State) (tag : Nat) (hs : (State.mask memOnly s).memWf) :
    (State.mask memOnly (State.opTimeoutDue s tag)).memWf := by
  unfold State.opTimeoutDue
  split <;> simp [hs]

@[simp] theorem State.retryBusy_memWf (s : State) (t : Nat) (hs : (State.mask memOnly s).memWf) :
    (State.mask memOnly (State.retryBusy s t)).memWf := by
  unfold State.retryBusy
  repeat' first | (simp [*]; done) | refine State.memWf_foldl (fun t x ht => ?_) _ ?_ | split

@[simp] theorem State.xfrNotice_memWf (s : State) (c : Cell) (unsent : Bool) (hs : (State.mask memOnly s).memWf) :
    (State.mask memOnly (State.xfrNotice s c unsent)).memWf := by
  unfold State.xfrNotice
  dsimp only
  repeat' split
  all_goals simp [hs]

@[simp] theorem State.stopOp_memWf (s : State) (t : Nat) (hs : (State.mask memOnly s).memWf) :
    (State.mask memOnly (State.stopOp s t)).memWf := by
  unfold State.stopOp
  split <;> simp [hs]

@[simp] theorem State.recordCol_memWf (s : State) (k : Nat) (m0 : Nat) (i : Issue) (a : Answer) (bytes : Nat) (value : Nat) (absent : List Nat) (time : Nat) (hs : (State.mask memOnly s).memWf) :
    (State.mask memOnly (State.recordCol s k m0 i a bytes value absent time)).memWf := by
  unfold State.recordCol
  simp [hs]

@[simp] theorem State.recordOpens_memWf (s : State) (k : Nat) (c : Ctx) (m0 : Nat) (a : Answer) (bytes : Nat) (value : Nat) (absent : List Nat) (time : Nat) (hs : (State.mask memOnly s).memWf) :
    (State.mask memOnly (State.recordOpens s k c m0 a bytes value absent time)).memWf := by
  unfold State.recordOpens
  exact State.memWf_foldl (fun t x ht => by simp [ht]) _ (by simp [hs])

@[simp] theorem State.endUpdate_memWf (s : State) (u : Update) (a : Answer) (missing : Nat) (hs : (State.mask memOnly s).memWf) :
    (State.mask memOnly (State.endUpdate s u a missing)).memWf := by
  unfold State.endUpdate
  split <;> simp [hs]

@[simp] theorem State.gateOpens_memWf (s : State) (c : Ctx) (a : Answer) (missing : Nat) (nr : Nat) (hs : (State.mask memOnly s).memWf) :
    (State.mask memOnly (State.gateOpens s c a missing nr)).memWf := by
  unfold State.gateOpens
  exact State.memWf_foldl (fun t x ht => by simp [ht]) _ (by simp [hs])

@[simp] theorem State.ctxEndsUpdate_memWf (s : State) (k : Nat) (a : Answer) (missing : Nat) (hs : (State.mask memOnly s).memWf) :
    (State.mask memOnly (State.ctxEndsUpdate s k a missing)).memWf := by
  unfold State.ctxEndsUpdate
  exact State.memWf_foldl (fun t x ht => by simp [ht]) _ (by simp [hs])

@[simp] theorem State.abortCtxWith_memWf (s : State) (k : Nat) (c : Ctx) (messages : Bool) (reason : Nat) (hs : (State.mask memOnly s).memWf) :
    (State.mask memOnly (State.abortCtxWith s k c messages reason)).memWf := by
  unfold State.abortCtxWith
  extract_lets senders s1 s2 a s3 _ s4 s5 s6
  have h1 : (State.mask memOnly s1).memWf := by
    unfold s1
    split
    · exact State.memWf_foldl (fun t x ht => by simp [ht]) _ hs
    · exact hs
  have h3 : (State.mask memOnly s3).memWf := State.memWf_foldl (fun t i ht => State.completeAt_memWf _ _ _ _ ht) _ (by unfold s2; simp [h1])
  have h4 : (State.mask memOnly s4).memWf := State.memWf_foldl (fun t x ht => State.completeAt_memWf _ _ _ _ ht) _ h3
  have h5 : (State.mask memOnly s5).memWf := by
    unfold s5
    split
    · split
      · exact State.completeAt_memWf _ _ _ _ h4
      · exact h4
    · exact h4
  have h6 : (State.mask memOnly s6).memWf := State.ctxEndsUpdate_memWf _ _ _ _ h5
  split
  · exact State.gateOpens_memWf _ _ _ _ _ h6
  · exact h6

@[simp] theorem State.abortCtx_memWf (s : State) (k : Nat) (c : Ctx) (messages : Bool) (hs : (State.mask memOnly s).memWf) :
    (State.mask memOnly (State.abortCtx s k c messages)).memWf := by
  unfold State.abortCtx
  simp [hs]

@[simp] theorem State.closeCounted_memWf (s : State) (k : Nat) (hs : (State.mask memOnly s).memWf) :
    (State.mask memOnly (State.closeCounted s k)).memWf := by
  unfold State.closeCounted
  repeat' first | (simp [*]; done) | refine State.memWf_foldl (fun t x ht => ?_) _ ?_ | split

@[simp] theorem State.writeOut_memWf (s : State) (k : Nat) (n : Nat) (d : Line) (hs : (State.mask memOnly s).memWf) :
    (State.mask memOnly (State.writeOut s k n d)).memWf := by
  unfold State.writeOut
  split
  · exact hs
  split
  · exact hs
  extract_lets img at0
  split
  · simp [hs]
  · rename_i hput
    simpa using State.putBytes_memWf _ _ _ _ hput hs

@[simp] theorem State.attachOut_memWf (s : State) (k : Nat) (c : Ctx) (i : Issue) (hs : (State.mask memOnly s).memWf) :
    (State.mask memOnly (State.attachOut s k c i)).memWf := by
  unfold State.attachOut
  split
  · simp [hs]
  · dsimp only
    split
    · exact State.completeAt_memWf _ _ _ _ (by simp [hs])
    · simp [hs]

@[simp] theorem State.closeRed_memWf (s : State) (k : Nat) (c : Ctx) (hs : (State.mask memOnly s).memWf) :
    (State.mask memOnly (State.closeRed s k c)).memWf := by
  unfold State.closeRed
  extract_lets h absent m a s1 s2 b s3 s4 r
  have h2 : (State.mask memOnly s2).memWf := State.recordOpens_memWf _ _ _ _ _ _ _ _ _ (by unfold s1; simp [hs])
  have h3 : (State.mask memOnly s3).memWf := by
    unfold s3
    split
    · split
      · exact State.recordCol_memWf _ _ _ _ _ _ _ _ _ h2
      · exact h2
    · exact h2
  have h4 : (State.mask memOnly s4).memWf := State.memWf_foldl (fun t x ht => State.recordCol_memWf _ _ _ _ _ _ _ _ _ ht) _ h3
  split
  · exact State.ctxEndsUpdate_memWf _ _ _ _ h4
  · split
    · exact State.ctxEndsUpdate_memWf _ _ _ _ (by unfold r; simp [h4])
    · exact h4

@[simp] theorem State.drainStepRed_memWf (s : State) (k : Nat) (hs : (State.mask memOnly s).memWf) :
    (State.mask memOnly (State.drainStepRed s k).2).memWf := by
  unfold State.drainStepRed
  split
  · exact hs
  split
  · dsimp only
    split
    · split <;> simp [hs]
    · split <;> simp [hs]
  · split
    · simp [hs]
    · split
      · simp [hs]
      · split
        · split
          · simpa using State.memWf_foldl (fun t x ht => by simp [ht]) _ hs
          · exact hs
        · exact hs
  · exact hs

@[simp] theorem State.drainRed_memWf (k : Nat) (x1 : Nat) (x2 : State) (hs : (State.mask memOnly x2).memWf) :
    (State.mask memOnly (State.drainRed k x1 x2)).memWf := by
  induction x1 generalizing x2 with
  | zero => exact hs
  | succ f ih =>
    rw [State.drainRed]
    have hd : (State.mask memOnly (((((x2.applyLocals k).completeSegs k).closeCounted k).grantRed k).sendPartials k)).memWf := by simp [hs]
    have hd := State.drainStepRed_memWf _ k hd
    split
    · exact ih _ hd
    · exact hd

@[simp] theorem State.settleRed_memWf (s : State) (k : Nat) (hs : (State.mask memOnly s).memWf) :
    (State.mask memOnly (State.settleRed s k)).memWf := by
  unfold State.settleRed
  split <;> simp [hs]

@[simp] theorem State.writeNorm_memWf (s : State) (d : Line) (v : Value) (hs : (State.mask memOnly s).memWf) :
    (State.mask memOnly (State.writeNorm s d v).2.2.2).memWf := by
  unfold State.writeNorm
  extract_lets res b
  split
  · simp [hs]
  · rename_i hput
    exact State.putBytes_memWf _ _ _ _ hput hs

@[simp] theorem State.closeNorm_memWf (s : State) (k : Nat) (c : Ctx) (v : Value) (hs : (State.mask memOnly s).memWf) :
    (State.mask memOnly (State.closeNorm s k c v)).memWf := by
  unfold State.closeNorm
  extract_lets h a absent m one s1 s2 nr r
  have ho (t : State) (i : Issue) (ht : (State.mask memOnly t).memWf) : (State.mask memOnly (one t i)).memWf := by unfold one; simp [ht]
  have h1 : (State.mask memOnly s1).memWf := State.memWf_foldl ho _ (by simp [hs])
  have h2 : (State.mask memOnly s2).memWf := State.memWf_foldl (fun t x ht => ho t _ ht) _ h1
  split
  · exact State.gateOpens_memWf _ _ _ _ _ (by unfold r; simp [h2])
  · simp [h2]

@[simp] theorem State.closeBarrier_memWf (s : State) (k : Nat) (c : Ctx) (a : Answer) (time : Nat) (hs : (State.mask memOnly s).memWf) :
    (State.mask memOnly (State.closeBarrier s k c a time)).memWf := by
  unfold State.closeBarrier
  exact State.memWf_foldl (fun t x ht => by simp [ht]) _ (by simp [hs])

@[simp] theorem State.endBarrier_memWf (s : State) (k : Nat) (c : Ctx) (v : Value) (hs : (State.mask memOnly s).memWf) :
    (State.mask memOnly (State.endBarrier s k c v)).memWf := by
  unfold State.endBarrier
  simp [hs]

@[simp] theorem State.releaseBarrier_memWf (s : State) (k : Nat) (hs : (State.mask memOnly s).memWf) :
    (State.mask memOnly (State.releaseBarrier s k)).memWf := by
  unfold State.releaseBarrier
  split
  · simp [hs]
  · split <;> simp [hs]

@[simp] theorem State.settleValue_memWf (s : State) (k : Nat) (hs : (State.mask memOnly s).memWf) :
    (State.mask memOnly (State.settleValue s k)).memWf := by
  unfold State.settleValue
  split
  · exact hs
  · split
    · exact hs
    · extract_lets c r s1
      have h1 : (State.mask memOnly s1).memWf := by unfold s1; simp [hs]
      split
      · split
        · exact h1
        · split
          · exact State.endBarrier_memWf _ _ _ _ h1
          · exact State.closeNorm_memWf _ _ _ _ h1
      · exact h1

@[simp] theorem State.placeItems_memWf (s : State) (k : Nat) (c : Ctx) (m0 : CMember) (r : CRecv) (h : Cell) (b : List Byte) (hs : (State.mask memOnly s).memWf) :
    (State.mask memOnly (State.placeItems s k c m0 r h b)).memWf := by
  unfold State.placeItems
  extract_lets item source first items drop run kept base data1 put short run1
  have hp (t : State) (e : put = .ok t) : (State.mask memOnly t).memWf := by
    unfold put at e
    split at e
    · cases e; exact hs
    · exact State.putBytes_memWf _ _ _ _ e hs
  clear_value put
  cases put with
  | error a => simp [hs]
  | ok t =>
    have hf (l : List Nat) (u : State) : State.mask memOnly (l.foldl (fun u _ => u.bump (R.colCount 8)) u) = State.mask memOnly u :=
      State.mask_foldl memOnly _ (fun t x => by simp) _ _
    simp [hp t rfl, hf, State.mask_ite]

@[simp] theorem State.tryItems_memWf (s : State) (k : Nat) (m0 : CMember) (r : CRecv) (hs : (State.mask memOnly s).memWf) :
    (State.mask memOnly (State.tryItems s k m0 r)).memWf := by
  unfold State.tryItems
  repeat' split
  all_goals simp [hs]

@[simp] theorem State.takeItemsHead_memWf (s : State) (k : Nat) (c : Ctx) (m0 : CMember) (r : CRecv) (h : Cell) (hs : (State.mask memOnly s).memWf) :
    (State.mask memOnly (State.takeItemsHead s k c m0 r h)).memWf := by
  unfold State.takeItemsHead
  simp [hs]

@[simp] theorem State.takeItems_memWf (s : State) (c : Cell) (hs : (State.mask memOnly s).memWf) :
    (State.mask memOnly (State.takeItems s c)).memWf := by
  unfold State.takeItems
  dsimp only
  repeat' split
  all_goals simp [hs]

@[simp] theorem State.writeTable_memWf (s : State) (c : Ctx) (h : Shape) (m0 : CMember) (hs : (State.mask memOnly s).memWf) :
    (State.mask memOnly (State.writeTable s c h m0)).memWf := by
  unfold State.writeTable
  extract_lets d n at0 b
  split
  · exact hs
  split
  · simp [hs]
  · rename_i hput
    exact State.putBytes_memWf _ _ _ _ hput hs

@[simp] theorem State.closeA2a_memWf (s : State) (k : Nat) (c : Ctx) (hs : (State.mask memOnly s).memWf) :
    (State.mask memOnly (State.closeA2a s k c)).memWf := by
  unfold State.closeA2a
  simp [hs]

@[simp] theorem State.endTaker_memWf (s : State) (k : Nat) (c : Ctx) (m0 : CMember) (a : Answer) (lost : List Nat) (hs : (State.mask memOnly s).memWf) :
    (State.mask memOnly (State.endTaker s k c m0 a lost)).memWf := by
  unfold State.endTaker
  simp [hs]

@[simp] theorem State.settleA2a_memWf (s : State) (k : Nat) (hs : (State.mask memOnly s).memWf) :
    (State.mask memOnly (State.settleA2a s k)).memWf := by
  unfold State.settleA2a
  split
  · exact hs
  · split
    · exact hs
    · extract_lets s1
      have h1 : (State.mask memOnly s1).memWf := by unfold s1; simp [hs]
      split
      · exact h1
      · extract_lets h s2
        have h2 : (State.mask memOnly s2).memWf := State.memWf_foldl (fun t x ht => by split <;> simp [ht]) _ h1
        split
        · exact h2
        · split
          · simp [h2]
          · exact h2

@[simp] theorem State.cancelCue_memWf (s : State) (id : Nat) (c : Cue) (hs : (State.mask memOnly s).memWf) :
    (State.mask memOnly (State.cancelCue s id c)).memWf := by
  unfold State.cancelCue
  simp [hs]

@[simp] theorem execCtrKeyWrite_memKept (a : Source) (b : Fin 1024) (value : Word) (s : State) (hs : (State.mask memOnly s).memWf) :
    State.MemKept (execCtrKeyWrite a b value s) := by
  unfold execCtrKeyWrite
  refine State.fmRw_memWf _ _ _ _ _ (fun t ht => ?_) hs
  dsimp only
  split
  · exact ht
  · exact State.memWf_foldl (fun t x ht => by simp [ht]) _ (by simp [ht])

@[simp] theorem execPieceEntry_memKept (t : Fin 4352) (s : State) (hs : (State.mask memOnly s).memWf) :
    State.MemKept (execPieceEntry t s) := by
  unfold execPieceEntry
  split
  · exact hs
  split
  · exact hs
  · split <;> simp [hs]

@[simp] theorem State.landPiece_memWf (s : State) (slot : Nat) (m0 : CMember) (root : Nat) (k : Nat) (b : List Byte) (check : Nat) (hs : (State.mask memOnly s).memWf) :
    (State.mask memOnly (State.landPiece s slot m0 root k b check)).memWf := by
  unfold State.landPiece
  split
  · exact hs
  extract_lets id set counted at0
  split
  · exact hs
  have hset (f : CMember → CMember) {t : State} (ht : (State.mask memOnly t).memWf) : (State.mask memOnly (set f t)).memWf := by
    unfold set; simp [ht]
  have hc {t : State} (ht : (State.mask memOnly t).memWf) : (State.mask memOnly (counted t)).memWf := hset _ ht
  clear_value set counted
  split
  · exact hc hs
  split
  · exact hset _ (by simp [hs])
  · rename_i hput
    exact hc (State.putBytes_memWf _ _ _ _ hput hs)

@[simp] theorem State.placePiece_memWf (s : State) (p : Piece) (h : Cell) (b : List Byte) (hs : (State.mask memOnly s).memWf) :
    (State.mask memOnly (State.placePiece s p h b)).memWf := by
  unfold State.placePiece
  extract_lets group inst root k check
  split
  · simp [hs]
  · split
    · simp [hs]
    · extract_lets ms s1 fresh s2 s3
      have h1 : (State.mask memOnly s1).memWf := by unfold s1; simp [hs]
      have h2 : (State.mask memOnly s2).memWf := by unfold s2; split <;> simp [h1]
      have h3 : (State.mask memOnly s3).memWf := State.memWf_foldl (fun t x ht => by simp [ht]) _ (by simp [h2])
      split
      · simp [h1]
      · simp [h3]

@[simp] theorem State.writeUnchecked_memWf (s : State) (p : Piece) (h : Cell) (hs : (State.mask memOnly s).memWf) :
    (State.mask memOnly (State.writeUnchecked s p h)).memWf := by
  unfold State.writeUnchecked
  split
  · exact hs
  extract_lets root k open0
  refine State.memWf_foldl (fun t x ht => ?_) _ hs
  split
  · rename_i hput
    exact State.putBytes_memWf _ _ _ _ hput ht
  · exact ht

@[simp] theorem State.endPiece_memWf (s0 : State) (p : Piece) (h : Cell) (hs : (State.mask memOnly s0).memWf) :
    (State.mask memOnly (State.endPiece s0 p h)).memWf := by
  unfold State.endPiece
  dsimp only
  repeat' split
  all_goals simp [hs]

@[simp] theorem State.keptPieces_memWf (s : State) (hs : (State.mask memOnly s).memWf) :
    (State.mask memOnly (State.keptPieces s)).memWf := by
  unfold State.keptPieces
  repeat' first | (simp [*]; done) | refine State.memWf_foldl (fun t x ht => ?_) _ ?_ | split

@[simp] theorem State.gatherCell_memWf (s : State) (ep : Nat) (c : Cell) (hs : (State.mask memOnly s).memWf) :
    (State.mask memOnly (State.gatherCell s ep c)).memWf := by
  unfold State.gatherCell
  dsimp only
  repeat' split
  all_goals simp [hs]

@[simp] theorem State.unicastPiece_memWf (s : State) (c : Cell) (hs : (State.mask memOnly s).memWf) :
    (State.mask memOnly (State.unicastPiece s c)).memWf := by
  unfold State.unicastPiece
  extract_lets ctxs seats s1
  exact State.gatherCell_memWf _ _ _ (State.memWf_foldl (fun t x ht => by simp [ht]) _ hs)

@[simp] theorem State.closeGather_memWf (s : State) (slot : Nat) (c : Ctx) (hs : (State.mask memOnly s).memWf) :
    (State.mask memOnly (State.closeGather s slot c)).memWf := by
  unfold State.closeGather
  simp [hs]

@[simp] theorem State.settleGather_memWf (s : State) (slot : Nat) (hs : (State.mask memOnly s).memWf) :
    (State.mask memOnly (State.settleGather s slot)).memWf := by
  unfold State.settleGather
  split
  · exact hs
  · split
    · exact hs
    · extract_lets s0 s1
      have h0 : (State.mask memOnly s0).memWf := by unfold s0; simp [hs]
      have h1 : (State.mask memOnly s1).memWf := by
        unfold s1
        cases s0.ctx slot with
        | none => simpa using h0
        | some c =>
          simp only [Option.map_some, Option.getD_some]
          exact State.memWf_foldl (fun t x ht => by split <;> simp [ht]) _ h0
      split
      · exact h1
      · extract_lets h s2
        have h2 : (State.mask memOnly s2).memWf := State.memWf_foldl (fun t x ht => by split <;> simp [ht]) _ h1
        split
        · exact h2
        · split <;> simp [h2]

@[simp] theorem State.closeSweep_memWf (s : State) (k : Nat) (c : Ctx) (v : Sweep) (hs : (State.mask memOnly s).memWf) :
    (State.mask memOnly (State.closeSweep s k c v)).memWf := by
  unfold State.closeSweep
  extract_lets _ absent whole b s1
  have h1 : (State.mask memOnly s1).memWf := by unfold s1; simp [hs]
  split
  · exact State.recordOpens_memWf _ _ _ _ _ _ _ _ _ h1
  · rename_i hput
    exact State.recordOpens_memWf _ _ _ _ _ _ _ _ _ (State.putBytes_memWf _ _ _ _ hput h1)

@[simp] theorem State.settleSweep_memWf (s : State) (k : Nat) (hs : (State.mask memOnly s).memWf) :
    (State.mask memOnly (State.settleSweep s k)).memWf := by
  unfold State.settleSweep
  dsimp only
  split
  · exact hs
  · split
    · exact hs
    · split
      · exact State.memWf_foldl (fun t x ht => by simp [ht]) _ (by simp [hs])
      · split
        · exact State.closeSweep_memWf _ _ _ _ (State.memWf_foldl (fun t x ht => by simp [ht]) _ (by simp [hs]))
        · exact State.memWf_foldl (fun t x ht => by simp [ht]) _ (by simp [hs])

@[simp] theorem State.refuseUpdate_memWf (s : State) (u : Update) (a : Answer) (hs : (State.mask memOnly s).memWf) :
    (State.mask memOnly (State.refuseUpdate s u a)).memWf := by
  unfold State.refuseUpdate
  simp [hs]

@[simp] theorem State.joinUpdate_memWf (s : State) (u : Update) (hs : (State.mask memOnly s).memWf) :
    (State.mask memOnly (State.joinUpdate s u)).memWf := by
  unfold State.joinUpdate
  split
  · exact hs
  · split
    · exact hs
    · split
      · exact hs
      · split
        · simp [hs]
        · extract_lets a b e u1 s1
          have h1 : (State.mask memOnly s1).memWf := by unfold s1; simp [hs]
          split
          · exact h1
          · split
            · simp [h1]
            · split
              · simp [h1]
              · exact h1

@[simp] theorem State.joinUpdates_memWf (s : State) (hs : (State.mask memOnly s).memWf) :
    (State.mask memOnly (State.joinUpdates s)).memWf := by
  unfold State.joinUpdates
  exact State.memWf_foldl (fun t x ht => by simp [ht]) _ (by simp [hs])

@[simp] theorem State.applySegment_memWf (s : State) (u : Update) (p : Prog) (k : Nat) (grads : List Addend) (hs : (State.mask memOnly s).memWf) :
    (State.mask memOnly (State.applySegment s u p k grads).1).memWf := by
  unfold State.applySegment
  extract_lets e0 told
  split
  · extract_lets ts els outs s1 s2
    split
    · simp [hs]
    · have ht : (State.mask memOnly told).memWf := State.memWf_foldl (fun t x ht => by simp [ht]) _ hs
      have h1 : (State.mask memOnly s1).memWf := by
        refine State.memWf_foldl (fun t o hto => ?_) _ ht
        split
        · rename_i hput
          exact State.putBytes_memWf _ _ _ _ hput hto
        · exact hto
      simpa [s2] using h1
  · simp [hs]

@[simp] theorem State.applyMaybe_memWf (s : State) (u : Update) (p : Prog) (k : Nat) (grads : Option (List Addend)) (hs : (State.mask memOnly s).memWf) :
    (State.mask memOnly (State.applyMaybe s u p k grads).1).memWf := by
  unfold State.applyMaybe
  split <;> simp [hs]

@[simp] theorem State.spillSegment_memWf (s : State) (u : Update) (n : Nat) (hs : (State.mask memOnly s).memWf) :
    (State.mask memOnly (State.spillSegment s u n).1).memWf := by
  unfold State.spillSegment
  split
  · exact hs
  split
  · exact hs
  extract_lets k img
  split
  · rename_i hput
    simpa using State.putBytes_memWf _ _ _ _ hput hs
  · simp [hs]

@[simp] theorem State.updateWork_memWf (s : State) (u : Update) (p : Prog) (hs : (State.mask memOnly s).memWf) :
    (State.mask memOnly (State.updateWork s u p).1).memWf := by
  unfold State.updateWork
  repeat' split
  all_goals simp [hs]

@[simp] theorem State.updateUnit_memWf (s : State) (u : Update) (hs : (State.mask memOnly s).memWf) :
    (State.mask memOnly (State.updateUnit s u)).memWf := by
  unfold State.updateUnit
  repeat' split
  all_goals simp [hs]

@[simp] theorem State.finishUpdate_memWf (s : State) (u : Update) (hs : (State.mask memOnly s).memWf) :
    (State.mask memOnly (State.finishUpdate s u)).memWf := by
  unfold State.finishUpdate
  split
  · exact hs
  extract_lets p image r a
  have hr : (State.mask memOnly r.1).memWf := by
    unfold r
    generalize image = im
    split
    · split
      · rename_i hput
        exact State.putBytes_memWf _ _ _ _ hput hs
      · exact hs
    · exact hs
  simp [hr]

@[simp] theorem State.finishUpdates_memWf (s : State) (hs : (State.mask memOnly s).memWf) :
    (State.mask memOnly (State.finishUpdates s)).memWf := by
  unfold State.finishUpdates
  exact State.memWf_foldl (fun t x ht => by simp [ht]) _ (by simp [hs])

@[simp] theorem State.submitUpdate_memWf (s : State) (i : Issue) (stamp : Nat) (hs : (State.mask memOnly s).memWf) :
    (State.mask memOnly (State.submitUpdate s i stamp)).memWf := by
  unfold State.submitUpdate
  dsimp only
  repeat' split
  all_goals simp [hs]

@[simp] theorem State.abortUpdateWith_memWf (s : State) (u : Update) (reason : Nat) (hs : (State.mask memOnly s).memWf) :
    (State.mask memOnly (State.abortUpdateWith s u reason)).memWf := by
  unfold State.abortUpdateWith
  split
  · split <;> simp [hs]
  · simp [hs]

@[simp] theorem State.abortUpdate_memWf (s : State) (u : Update) (hs : (State.mask memOnly s).memWf) :
    (State.mask memOnly (State.abortUpdate s u)).memWf := by
  unfold State.abortUpdate
  simp [hs]

@[simp] theorem State.settleCtx_memWf (s : State) (k : Nat) (hs : (State.mask memOnly s).memWf) :
    (State.mask memOnly (State.settleCtx s k)).memWf := by
  unfold State.settleCtx
  split
  · simp [hs]
  · split <;> simp [hs]

@[simp] theorem State.settleRound_memWf (s : State) (hs : (State.mask memOnly s).memWf) :
    (State.mask memOnly (State.settleRound s)).memWf := by
  unfold State.settleRound
  exact State.memWf_foldl (fun t x ht => by simp [ht]) _ (by simp [hs])

@[simp] theorem State.rehearse_memWf (x1 : Nat) (x2 : State) (hs : (State.mask memOnly x2).memWf) :
    (State.mask memOnly (State.rehearse x1 x2)).memWf := by
  induction x1 generalizing x2 with
  | zero => exact hs
  | succ f ih =>
    rw [State.rehearse]
    split
    · simp [hs]
    · exact ih _ (by simp [hs])

@[simp] theorem State.settleAll_memWf (s : State) (hs : (State.mask memOnly s).memWf) :
    (State.mask memOnly (State.settleAll s)).memWf := by
  unfold State.settleAll
  split
  · exact hs
  · dsimp only
    have h := State.settleRound_memWf _ (State.settleRound_memWf _ (State.joinUpdates_memWf s hs))
    exact State.finishUpdates_memWf _ (State.rehearse_memWf _ _ h)

@[simp] theorem execUpdateSegment_memKept (u : Fin 64) (s : State) (hs : (State.mask memOnly s).memWf) :
    State.MemKept (execUpdateSegment u s) := by
  unfold execUpdateSegment
  split
  · simp [hs]
  · split <;> simp [hs]

@[simp] theorem execUpdateContextTimeout_memKept (u : Fin 64) (s : State) (hs : (State.mask memOnly s).memWf) :
    State.MemKept (execUpdateContextTimeout u s) := by
  unfold execUpdateContextTimeout
  split
  · simp [hs]
  · split <;> simp [hs]

@[simp] theorem execUpdateGateTimeout_memKept (u : Fin 64) (s : State) (hs : (State.mask memOnly s).memWf) :
    State.MemKept (execUpdateGateTimeout u s) := by
  unfold execUpdateGateTimeout
  dsimp only
  repeat' split
  all_goals simp (disch := simp [hs]) [hs]

@[simp] theorem execSweepRx_memKept (c : Cell) (s : State) (hs : (State.mask memOnly s).memWf) :
    State.MemKept (execSweepRx c s) := by
  unfold execSweepRx
  simp [hs]

@[simp] theorem execContribRx_memKept (c : Cell) (s : State) (hs : (State.mask memOnly s).memWf) :
    State.MemKept (execContribRx c s) := by
  unfold execContribRx
  simp [hs]

@[simp] theorem execPartialCfRx_memKept (c : Cell) (s : State) (hs : (State.mask memOnly s).memWf) :
    State.MemKept (execPartialCfRx c s) := by
  unfold execPartialCfRx
  simp [hs]

@[simp] theorem execA2aCountsRx_memKept (c : Cell) (s : State) (hs : (State.mask memOnly s).memWf) :
    State.MemKept (execA2aCountsRx c s) := by
  unfold execA2aCountsRx
  simp [hs]

@[simp] theorem execA2aDataRx_memKept (c : Cell) (s : State) (hs : (State.mask memOnly s).memWf) :
    State.MemKept (execA2aDataRx c s) := by
  unfold execA2aDataRx
  repeat' split
  all_goals simp (disch := simp [hs]) [hs]

@[simp] theorem execGatherDataRx_memKept (c : Cell) (s : State) (hs : (State.mask memOnly s).memWf) :
    State.MemKept (execGatherDataRx c s) := by
  unfold execGatherDataRx
  dsimp only
  repeat' split
  all_goals simp (disch := simp [hs]) [hs]

@[simp] theorem State.refuseJoin_memWf (s : State) (i : Issue) (a : Answer) (hs : (State.mask memOnly s).memWf) :
    (State.mask memOnly (State.refuseJoin s i a)).memWf := by
  unfold State.refuseJoin
  simp [hs]

@[simp] theorem State.joinMember_memWf (s : State) (k : Nat) (c : Ctx) (w : Waiting) (hs : (State.mask memOnly s).memWf) :
    (State.mask memOnly (State.joinMember s k c w)).memWf := by
  unfold State.joinMember
  dsimp only
  split <;> simp [hs]

@[simp] theorem State.joinWaiting_memWf (s : State) (k : Nat) (hs : (State.mask memOnly s).memWf) :
    (State.mask memOnly (State.joinWaiting s k)).memWf := by
  unfold State.joinWaiting
  split
  · exact hs
  · extract_lets mine ms os _ s1 s2
    have h1 : (State.mask memOnly s1).memWf := by unfold s1; simp [hs]
    have h2 : (State.mask memOnly s2).memWf := State.memWf_foldl (fun t x ht => by split <;> simp [ht]) _ h1
    refine State.memWf_foldl (fun t w ht => ?_) _ h2
    have h3 : (State.mask memOnly ((t.upd.queue.filter fun u => decide (u.stamp ≤ w.stamp)).foldl (fun x u => x.joinUpdate u) t)).memWf :=
      State.memWf_foldl (fun t x ht => by simp [ht]) _ ht
    dsimp only
    split
    · simp [h3]
    · exact h3

@[simp] theorem State.submitMember_memWf (s : State) (i : Issue) (stamp : Nat) (hs : (State.mask memOnly s).memWf) :
    (State.mask memOnly (State.submitMember s i stamp)).memWf := by
  unfold State.submitMember
  split <;> simp [hs]

@[simp] theorem State.submitOut_memWf (s : State) (i : Issue) (stamp : Nat) (hs : (State.mask memOnly s).memWf) :
    (State.mask memOnly (State.submitOut s i stamp)).memWf := by
  unfold State.submitOut
  split <;> simp [hs]

@[simp] theorem State.joinOpen_memWf (s : State) (k : Nat) (c : Ctx) (i : Issue) (hs : (State.mask memOnly s).memWf) :
    (State.mask memOnly (State.joinOpen s k c i)).memWf := by
  unfold State.joinOpen
  simp [hs]

@[simp] theorem State.submitOpen_memWf (s : State) (i : Issue) (stamp : Nat) (hs : (State.mask memOnly s).memWf) :
    (State.mask memOnly (State.submitOpen s i stamp)).memWf := by
  unfold State.submitOpen
  split <;> simp [hs]

@[simp] theorem State.admitOpen_memWf (s : State) (w : Waiting) (hs : (State.mask memOnly s).memWf) :
    (State.mask memOnly (State.admitOpen s w)).memWf := by
  unfold State.admitOpen
  dsimp only
  split <;> simp [hs]

@[simp] theorem execContextAdmit_memKept (s : State) (hs : (State.mask memOnly s).memWf) :
    State.MemKept (execContextAdmit s) := by
  unfold execContextAdmit
  split
  · simp [hs]
  · split <;> simp [hs]

@[simp] theorem execMemberWaitTimeout_memKept (s : State) (hs : (State.mask memOnly s).memWf) :
    State.MemKept (execMemberWaitTimeout s) := by
  unfold execMemberWaitTimeout
  repeat' first | (simp [*]; done) | refine State.memWf_foldl (fun t x ht => ?_) _ ?_ | split

@[simp] theorem execReplayPass_memKept (k : CtxIx) (s : State) (hs : (State.mask memOnly s).memWf) :
    State.MemKept (execReplayPass k s) := by
  unfold execReplayPass
  repeat' split
  all_goals simp [hs]

@[simp] theorem execBarrierRelease_memKept (k : CtxIx) (s : State) (hs : (State.mask memOnly s).memWf) :
    State.MemKept (execBarrierRelease k s) := by
  unfold execBarrierRelease
  simp [hs]

@[simp] theorem execRegrant_memKept (k : CtxIx) (s : State) (hs : (State.mask memOnly s).memWf) :
    State.MemKept (execRegrant k s) := by
  unfold execRegrant
  split
  · simp [hs]
  · split <;> simp [hs]

@[simp] theorem State.timeoutRed_memWf (s : State) (k : Nat) (c : Ctx) (hs : (State.mask memOnly s).memWf) :
    (State.mask memOnly (State.timeoutRed s k c)).memWf := by
  unfold State.timeoutRed
  dsimp only
  repeat' split
  all_goals simp [hs]

@[simp] theorem execContextTimeout_memKept (k : CtxIx) (s : State) (hs : (State.mask memOnly s).memWf) :
    State.MemKept (execContextTimeout k s) := by
  unfold execContextTimeout
  repeat' split
  all_goals simp [hs]

@[simp] theorem State.abortInstance_memWf (s : State) (part : Nat) (group : Nat) (inst : Nat) (messages : Bool) (hs : (State.mask memOnly s).memWf) :
    (State.mask memOnly (State.abortInstance s part group inst messages).2).memWf := by
  unfold State.abortInstance
  extract_lets mine s0 waits _ s1 s2
  have h0 : (State.mask memOnly s0).memWf := by unfold s0; split <;> (try split) <;> simp [hs]
  have h1 : (State.mask memOnly s1).memWf := by unfold s1; simp [h0]
  have h2 : (State.mask memOnly s2).memWf := State.memWf_foldl (fun t x ht => by simp [ht]) _ h1
  split <;> simp [h2]

@[simp] theorem execCollectiveAbortReqRx_memKept (c : Cell) (s : State) (hs : (State.mask memOnly s).memWf) :
    State.MemKept (execCollectiveAbortReqRx c s) := by
  unfold execCollectiveAbortReqRx
  repeat' split
  all_goals simp (disch := simp [hs]) [hs]

@[simp] theorem State.readGood_memWf (s : State) (p : Nat) (r : LineReq) (corrected : Bool) (data : Line) (hs : (State.mask memOnly s).memWf) :
    (State.mask memOnly (State.readGood s p r corrected data)).memWf := by
  unfold State.readGood
  simp [hs]

@[simp] theorem State.readResponse_memWf (s : State) (p : Nat) (r : LineReq) (stat : Nat) (data : Line) (code : Nat) (poison : Bool) (hs : (State.mask memOnly s).memWf) :
    (State.mask memOnly (State.readResponse s p r stat data code poison)).memWf := by
  unfold State.readResponse
  simp [hs]

@[simp] theorem State.channelResponse_memWf (s : State) (p : Port) (id : Byte) (stat : BitVec 2) (data : Line) (code : BitVec 16) (poison : Bool) (hs : (State.mask memOnly s).memWf) :
    (State.mask memOnly (State.channelResponse s p id stat data code poison)).memWf := by
  unfold State.channelResponse
  dsimp only
  repeat' split
  all_goals simp [hs]

@[simp] theorem State.zeroExtents_memWf (s : State) (far : Bool) (base : Nat) (len : Nat) (hs : (State.mask memOnly s).memWf) :
    (State.mask memOnly (State.zeroExtents s far base len)).memWf := by
  exact Memory.filter_wf _ hs

@[simp] theorem State.zeroRegion_memWf (s : State) (v : PlateV) (g : Region) (hs : (State.mask memOnly s).memWf) :
    (State.mask memOnly (State.zeroRegion s v g)).memWf := by
  unfold State.zeroRegion
  repeat' first | (simp [*]; done) | refine State.memWf_foldl (fun t x ht => ?_) _ ?_ | split

@[simp] theorem execZeroingDone_memKept (region : BitVec 16) (s : State) (hs : (State.mask memOnly s).memWf) :
    State.MemKept (execZeroingDone region s) := by
  unfold execZeroingDone
  dsimp only
  repeat' split
  all_goals simp [hs]

@[simp] theorem execScrubDone_memKept (s : State) (hs : (State.mask memOnly s).memWf) :
    State.MemKept (execScrubDone s) := by
  unfold execScrubDone
  split
  · exact hs
  · split <;> simp [hs]

@[simp] theorem State.landLines_memWf (s : State) (v : PlateV) (g : Region) (i : Inbound) (by0 : CheckBy) (k : Nat) (hs : (State.mask memOnly s).memWf) :
    (State.mask memOnly (State.landLines s v g i by0 k)).memWf := by
  unfold State.landLines
  exact State.memWf_foldl (fun t x ht => by simp [ht]) _ (by simp [hs])

@[simp] theorem State.landCell_memWf (s : State) (i : Inbound) (k : Nat) (p : Line) (hs : (State.mask memOnly s).memWf) :
    (State.mask memOnly (State.landCell s i k p)).memWf := by
  unfold State.landCell
  dsimp only
  repeat' split
  all_goals simp [hs]

@[simp] theorem State.takeLanded_memWf (s : State) (i : Inbound) (hs : (State.mask memOnly s).memWf) :
    (State.mask memOnly (State.takeLanded s i)).memWf := by
  unfold State.takeLanded
  exact State.memWf_foldl (fun t x ht => by split <;> simp [ht]) _ (by simp [hs])

@[simp] theorem State.refuseStore_memWf (s : State) (c : Cell) (ctx : Option Nat) (a : Answer) (hs : (State.mask memOnly s).memWf) :
    (State.mask memOnly (State.refuseStore s c ctx a)).memWf := by
  unfold State.refuseStore
  simp [hs]

@[simp] theorem State.runStore_memWf (s0 : State) (c : Cell) (ctx : Option Nat) (hs : (State.mask memOnly s0).memWf) :
    (State.mask memOnly (State.runStore s0 c ctx)).memWf := by
  unfold State.runStore
  extract_lets s1 key _ r i
  have h1 : (State.mask memOnly s1).memWf := by unfold s1; simp [hs]
  split
  · simp [h1]
  split
  · simp [h1]
  split
  · simp [h1]
  split
  · simp [h1]
  · exact State.takeLanded_memWf _ _ (by unfold r; simp [h1])

@[simp] theorem State.runFill_memWf (s : State) (c : Cell) (ctx : Option Nat) (hs : (State.mask memOnly s).memWf) :
    (State.mask memOnly (State.runFill s c ctx)).memWf := by
  unfold State.runFill
  dsimp only
  repeat' split
  all_goals simp [hs]

@[simp] theorem State.runAtomic_memWf (s : State) (c : Cell) (ctx : Option Nat) (hs : (State.mask memOnly s).memWf) :
    (State.mask memOnly (State.runAtomic s c ctx)).memWf := by
  unfold State.runAtomic
  extract_lets op fmt refuse r w off
  have hr (a : Answer) : (State.mask memOnly (refuse a)).memWf := by unfold refuse; simp [hs]
  split
  · exact hr _
  split
  · exact hr _
  split
  · rw [State.advanceCtx_mask]
    · split <;> unfold r <;> simp [hs]
    all_goals simp
  split
  · exact hr _
  split
  · exact hr _
  extract_lets key old t
  split
  · exact hr _
  split
  · exact hr _
  split
  · exact hr _
  · exact by simpa using State.writeBytes_memWf _ _ _ _ _ (show (State.mask memOnly t.2).memWf by unfold t; simp [hs])

@[simp] theorem State.startOp_memWf (s : State) (t : Nat) (o : Op) (hs : (State.mask memOnly s).memWf) :
    (State.mask memOnly (State.startOp s t o)).memWf := by
  unfold State.startOp
  simp [hs]

@[simp] theorem State.runForward_memWf (s : State) (c : Cell) (ctx : Option Nat) (hs : (State.mask memOnly s).memWf) :
    (State.mask memOnly (State.runForward s c ctx)).memWf := by
  unfold State.runForward
  extract_lets n refuse known
  have hr (a : Answer) : (State.mask memOnly (refuse a)).memWf := by unfold refuse; simp [hs]
  split
  · simp [hs]
  split
  · exact hr _
  split
  · exact hr _
  split
  · exact hr _
  · exact State.startOp_memWf _ _ _ hs

@[simp] theorem State.swallow_memWf (s : State) (c : Cell) (hs : (State.mask memOnly s).memWf) :
    (State.mask memOnly (State.swallow s c)).memWf := by
  unfold State.swallow
  dsimp only
  repeat' split
  all_goals simp [hs]

@[simp] theorem State.runHead_memWf (s : State) (c : Cell) (ctx : Option Nat) (hs : (State.mask memOnly s).memWf) :
    (State.mask memOnly (State.runHead s c ctx)).memWf := by
  unfold State.runHead
  simp [hs]

@[simp] theorem State.inTurn_memWf (s : State) (c : Cell) (hs : (State.mask memOnly s).memWf) :
    (State.mask memOnly (State.inTurn s c)).memWf := by
  unfold State.inTurn
  dsimp only
  split <;> simp [hs]

@[simp] theorem State.runHeld_memWf (x1 : Nat) (x2 : State) (hs : (State.mask memOnly x2).memWf) :
    (State.mask memOnly (State.runHeld x1 x2)).memWf := by
  induction x1 generalizing x2 with
  | zero => exact hs
  | succ f ih =>
    rw [State.runHeld]
    split
    · exact hs
    · exact ih _ (by simp [hs])

@[simp] theorem State.endJob_memWf (s0 : State) (n : Nat) (j : Job) (hs : (State.mask memOnly s0).memWf) :
    (State.mask memOnly (State.endJob s0 n j)).memWf := by
  unfold State.endJob
  dsimp only
  repeat' split
  all_goals simp [hs]

@[simp] theorem State.endJobs_memWf (x1 : Nat) (x2 : State) (hs : (State.mask memOnly x2).memWf) :
    (State.mask memOnly (State.endJobs x1 x2)).memWf := by
  induction x1 generalizing x2 with
  | zero => exact hs
  | succ f ih =>
    rw [State.endJobs]
    split
    · exact ih _ (by simp [hs])
    · simp [hs]

@[simp] theorem State.runTurns_memWf (s : State) (hs : (State.mask memOnly s).memWf) :
    (State.mask memOnly (State.runTurns s)).memWf := by
  unfold State.runTurns
  simp [hs]

@[simp] theorem State.takeHead_memWf (s : State) (c : Cell) (chunk : Nat) (run : State → State) (hf : ∀ t, (State.mask memOnly t).memWf → (State.mask memOnly (run t)).memWf) (hs : (State.mask memOnly s).memWf) :
    (State.mask memOnly (State.takeHead s c chunk run)).memWf := by
  unfold State.takeHead
  dsimp only
  split
  · simp [hs]
  · split
    · simp [hs]
    · split
      · simp [hs]
      · split
        · simp [hs]
        · exact State.runTurns_memWf _ (hf _ (by simp [hs]))

@[simp] theorem execLoadReqRx_memKept (c : Cell) (s : State) (hs : (State.mask memOnly s).memWf) :
    State.MemKept (execLoadReqRx c s) := by
  unfold execLoadReqRx
  split
  · exact hs
  split
  · trivial
  · exact State.takeHead_memWf _ _ _ _ (fun t ht => by simp [ht]) hs

@[simp] theorem execStoreDataRx_memKept (c : Cell) (s : State) (hs : (State.mask memOnly s).memWf) :
    State.MemKept (execStoreDataRx c s) := by
  unfold execStoreDataRx
  split
  · exact hs
  split
  · trivial
  · exact State.takeHead_memWf _ _ _ _ (fun t ht => by simp [ht]) hs

@[simp] theorem execAtomicReqRx_memKept (c : Cell) (s : State) (hs : (State.mask memOnly s).memWf) :
    State.MemKept (execAtomicReqRx c s) := by
  unfold execAtomicReqRx
  split
  · exact hs
  split
  · trivial
  · exact State.takeHead_memWf _ _ _ _ (fun t ht => by simp [ht]) hs

@[simp] theorem execCopyFwdRx_memKept (c : Cell) (s : State) (hs : (State.mask memOnly s).memWf) :
    State.MemKept (execCopyFwdRx c s) := by
  unfold execCopyFwdRx
  split
  · exact hs
  split
  · trivial
  · exact State.takeHead_memWf _ _ _ _ (fun t ht => by simp [ht]) hs

@[simp] theorem execFillReqRx_memKept (c : Cell) (s : State) (hs : (State.mask memOnly s).memWf) :
    State.MemKept (execFillReqRx c s) := by
  unfold execFillReqRx
  split
  · exact hs
  split
  · trivial
  · exact State.takeHead_memWf _ _ _ _ (fun t ht => by simp [ht]) hs

@[simp] theorem execBulkDataRx_memKept (c : Cell) (s : State) (hs : (State.mask memOnly s).memWf) :
    State.MemKept (execBulkDataRx c s) := by
  unfold execBulkDataRx
  split
  · exact hs
  split
  · trivial
  extract_lets s0 src tag slot
  have h0 : (State.mask memOnly s0).memWf := by unfold s0; simp [hs]
  split
  · split
    · exact State.advanceAll_memWf _ _ (by simp [h0])
    · simp [h0]
  · split
    · exact State.runTurns_memWf _ (State.landCell_memWf _ _ _ _ h0)
    · split
      · simp [h0]
      · split <;> simp [h0]

@[simp] theorem execOutcomeReqRx_memKept (c : Cell) (s : State) (hs : (State.mask memOnly s).memWf) :
    State.MemKept (execOutcomeReqRx c s) := by
  unfold execOutcomeReqRx
  simp [hs]

@[simp] theorem execAbortReqRx_memKept (c : Cell) (s : State) (hs : (State.mask memOnly s).memWf) :
    State.MemKept (execAbortReqRx c s) := by
  unfold execAbortReqRx
  dsimp only
  repeat' split
  all_goals simp (disch := simp [hs]) [hs]

@[simp] theorem execCueAddRx_memKept (c : Cell) (s : State) (hs : (State.mask memOnly s).memWf) :
    State.MemKept (execCueAddRx c s) := by
  unfold execCueAddRx
  split
  · exact hs
  split
  · trivial
  rw [State.memKept_next]
  refine State.takeHead_memWf _ _ _ _ (fun t ht => ?_) hs
  dsimp only
  split
  · simp [ht]
  · split
    · simp [ht]
    · split <;> simp [ht]

@[simp] theorem execChannelResponse_memKept (p : Port) (id : Byte) (wr0 : Bool) (stat : BitVec 2) (data : Line) (code : BitVec 16) (poison : Bool) (s : State) (hs : (State.mask memOnly s).memWf) :
    State.MemKept (execChannelResponse p id wr0 stat data code poison s) := by
  unfold execChannelResponse
  simp [hs]

@[simp] theorem execChanHold_memKept (p : Port) (s : State) (hs : (State.mask memOnly s).memWf) :
    State.MemKept (execChanHold p s) := by
  unfold execChanHold
  simp [hs]

@[simp] theorem execRspTimeout_memKept (p : Port) (s : State) (hs : (State.mask memOnly s).memWf) :
    State.MemKept (execRspTimeout p s) := by
  unfold execRspTimeout
  simp [hs]

@[simp] theorem execCompletionChunkRx_memKept (c : Cell) (s : State) (hs : (State.mask memOnly s).memWf) :
    State.MemKept (execCompletionChunkRx c s) := by
  unfold execCompletionChunkRx
  simp [hs]

@[simp] theorem execOperationTimeout_memKept (tag : Fin 16384) (s : State) (hs : (State.mask memOnly s).memWf) :
    State.MemKept (execOperationTimeout tag s) := by
  unfold execOperationTimeout
  simp [hs]

@[simp] theorem execGrantRx_memKept (c : Cell) (s : State) (hs : (State.mask memOnly s).memWf) :
    State.MemKept (execGrantRx c s) := by
  unfold execGrantRx
  simp [hs]

@[simp] theorem execDoneRx_memKept (c : Cell) (s : State) (hs : (State.mask memOnly s).memWf) :
    State.MemKept (execDoneRx c s) := by
  unfold execDoneRx
  simp [hs]

@[simp] theorem execNoticeRx_memKept (c : Cell) (s : State) (hs : (State.mask memOnly s).memWf) :
    State.MemKept (execNoticeRx c s) := by
  unfold execNoticeRx
  dsimp only
  repeat' split
  all_goals simp (disch := simp [hs]) [hs]

@[simp] theorem State.cqHeadSet_memWf (s : State) (a : Nat) (q : Nat) (value : Word) (hs : (State.mask memOnly s).memWf) :
    (State.mask memOnly (State.cqHeadSet s a q value)).memWf := by
  unfold State.cqHeadSet
  split
  · simp [hs]
  · exact State.lastWins_memWf _ _ _ _ (fun t ht => by simp [ht]) hs

@[simp] theorem execCqHeadWrite_memKept (a : Source) (q : Fin 256) (value : Word) (s : State) (hs : (State.mask memOnly s).memWf) :
    State.MemKept (execCqHeadWrite a q value s) := by
  unfold execCqHeadWrite
  simp [hs]

@[simp] theorem State.failCommit_memWf (s : State) (c : Commit) (a : Answer) (hs : (State.mask memOnly s).memWf) :
    (State.mask memOnly (State.failCommit s c a)).memWf := by
  unfold State.failCommit
  simp [hs]

@[simp] theorem State.dropVerify_memWf (s : State) (c : Verify) (a : Answer) (hs : (State.mask memOnly s).memWf) :
    (State.mask memOnly (State.dropVerify s c a)).memWf := by
  unfold State.dropVerify
  simp [hs]

@[simp] theorem State.submitCommit_memWf (s : State) (i : Issue) (hs : (State.mask memOnly s).memWf) :
    (State.mask memOnly (State.submitCommit s i)).memWf := by
  unfold State.submitCommit
  extract_lets d p n _ s1
  split
  · exact State.complete_memWf _ _ _ hs
  · exact State.complete_memWf _ _ _ hs
  · exact State.complete_memWf _ _ _ hs
  · extract_lets _ clash data s2 s3
    have h1 : (State.mask memOnly s1).memWf := by unfold s1; simp [hs]
    have h2 : (State.mask memOnly s2).memWf := State.writeBytes_memWf _ _ _ _ _ (by simp [h1])
    have h3 : (State.mask memOnly s3).memWf := by unfold s3; simp [h2]
    split
    · exact State.complete_memWf _ _ _ (by simp [hs])
    split
    · exact State.complete_memWf _ _ _ h1
    split
    · exact State.complete_memWf _ _ _ h1
    split
    · exact State.complete_memWf _ _ _ h1
    · exact h3

@[simp] theorem execCommitSlotWrite_memKept (s : State) (hs : (State.mask memOnly s).memWf) :
    State.MemKept (execCommitSlotWrite s) := by
  unfold execCommitSlotWrite
  split
  · exact hs
  · split <;> simp [hs]

@[simp] theorem State.endCommit_memWf (s : State) (c : Commit) (hs : (State.mask memOnly s).memWf) :
    (State.mask memOnly (State.endCommit s c)).memWf := by
  unfold State.endCommit
  simp [hs]

@[simp] theorem State.endCommits_memWf (s : State) (hs : (State.mask memOnly s).memWf) :
    (State.mask memOnly (State.endCommits s)).memWf := by
  unfold State.endCommits
  repeat' first | (simp [*]; done) | refine State.memWf_foldl (fun t x ht => ?_) _ ?_ | split

@[simp] theorem State.ctxsLoseNode_memWf (s : State) (n : Nat) (hs : (State.mask memOnly s).memWf) :
    (State.mask memOnly (State.ctxsLoseNode s n)).memWf := by
  unfold State.ctxsLoseNode
  split
  · exact State.settleAll_memWf _ (State.memWf_foldl (fun t x ht => by simp [ht]) _ hs)
  · simp [hs]

@[simp] theorem State.endIntm_memWf (s : State) (c : Comp) (hs : (State.mask memOnly s).memWf) :
    (State.mask memOnly (State.endIntm s c)).memWf := by
  unfold State.endIntm
  split <;> simp [hs]

@[simp] theorem State.enterSave_memWf (s : State) (i : Issue) (hs : (State.mask memOnly s).memWf) :
    (State.mask memOnly (State.enterSave s i)).memWf := by
  unfold State.enterSave
  simp [hs]

@[simp] theorem State.submitIntermission_memWf (s : State) (i : Issue) (stamp : Nat) (hs : (State.mask memOnly s).memWf) :
    (State.mask memOnly (State.submitIntermission s i stamp)).memWf := by
  unfold State.submitIntermission
  dsimp only
  split <;> simp [hs]

@[simp] theorem State.cancelIntm_memWf (s : State) (hs : (State.mask memOnly s).memWf) :
    (State.mask memOnly (State.cancelIntm s)).memWf := by
  unfold State.cancelIntm
  split <;> simp [hs]

@[simp] theorem State.leaveHush_memWf (s : State) (hs : (State.mask memOnly s).memWf) :
    (State.mask memOnly (State.leaveHush s)).memWf := by
  unfold State.leaveHush
  split <;> simp [hs]

@[simp] theorem execHushQuiet_memKept (s : State) (hs : (State.mask memOnly s).memWf) :
    State.MemKept (execHushQuiet s) := by
  unfold execHushQuiet
  simp [hs]

@[simp] theorem execHushLimit_memKept (s : State) (hs : (State.mask memOnly s).memWf) :
    State.MemKept (execHushLimit s) := by
  unfold execHushLimit
  split
  · exact hs
  split
  · exact hs
  extract_lets live acted s1 s2 _ s3 s4
  have h1 : (State.mask memOnly s1).memWf := State.memWf_foldl (fun t x ht => by simp [ht]) _ hs
  have h2 : (State.mask memOnly s2).memWf := State.memWf_foldl (fun t x ht => by simp [ht]) _ h1
  have h4 : (State.mask memOnly s4).memWf := by unfold s4 s3; split <;> simp [h2]
  split <;> simp [h4]

@[simp] theorem execImageWritten_memKept (s : State) (hs : (State.mask memOnly s).memWf) :
    State.MemKept (execImageWritten s) := by
  unfold execImageWritten
  split
  · exact hs
  split
  · extract_lets r img
    have hr : (State.mask memOnly r.2).memWf := by unfold r; simp [hs]
    clear_value img r
    split
    · simp [hs]
    · rename_i h1
      have h1 := State.putBytes_memWf _ _ _ _ h1 hr
      split
      · simp [h1]
      · split
        · simp [h1]
        · rename_i h2
          have h2 := State.putBytes_memWf _ _ _ _ h2 (by simp [h1])
          refine State.endIntm_memWf _ _ ?_
          rw [State.setIntm_mask _ _ _ (by simp)]
          exact State.memWf_foldl (fun t x ht => by simp [ht]) _ h2
  · exact hs

@[simp] theorem execHoldupRecheck_memKept (s : State) (hs : (State.mask memOnly s).memWf) :
    State.MemKept (execHoldupRecheck s) := by
  unfold execHoldupRecheck
  extract_lets period _ s0 s1
  have h1 : (State.mask memOnly s1).memWf :=
    State.memWf_foldl (fun t x ht => by split <;> simp [ht]) _ (show (State.mask memOnly s0).memWf from hs)
  split
  · exact hs
  rw [State.memKept_next]
  split
  · split
    · simp [h1]
    · exact State.endIntm_memWf _ _ (by simp [h1])
  · exact h1

@[simp] theorem State.submitResume_memWf (s : State) (i : Issue) (hs : (State.mask memOnly s).memWf) :
    (State.mask memOnly (State.submitResume s i)).memWf := by
  unfold State.submitResume
  split
  · simp [hs]
  · split <;> simp [hs]

@[simp] theorem execResumeTime_memKept (s : State) (hs : (State.mask memOnly s).memWf) :
    State.MemKept (execResumeTime s) := by
  unfold execResumeTime
  split
  · exact hs
  split
  · exact hs
  extract_lets lost _ s1 s2 s3 s4
  have h1 : (State.mask memOnly s1).memWf := by unfold s1; simp [hs]
  have h2 : (State.mask memOnly s2).memWf := State.memWf_foldl (fun t x ht => by split <;> (try split) <;> simp [ht]) _ h1
  have h3 : (State.mask memOnly s3).memWf := State.memWf_foldl (fun t x ht => by simp [ht]) _ h2
  have h4 : (State.mask memOnly s4).memWf := State.settleAll_memWf _ h3
  split <;> simp [h4]

@[simp] theorem State.drainCtx_memWf (s : State) (k : Nat) (hs : (State.mask memOnly s).memWf) :
    (State.mask memOnly (State.drainCtx s k)).memWf := by
  unfold State.drainCtx
  split <;> simp [hs]

@[simp] theorem State.stopWaiting_memWf (s : State) (hit : Issue → Nat → Bool) (hs : (State.mask memOnly s).memWf) :
    (State.mask memOnly (State.stopWaiting s hit).2).memWf := by
  unfold State.stopWaiting
  exact State.memWf_foldl (fun t x ht => by simp [ht]) _ (by simp [hs])

@[simp] theorem State.stopWork_memWf (s : State) (hit : Issue → Nat → Bool) (relays : Bool) (hs : (State.mask memOnly s).memWf) :
    (State.mask memOnly (State.stopWork s hit relays)).memWf := by
  unfold State.stopWork
  extract_lets ops s1 ctxs s2 hits gone c3 s3 s4 s5 s6 s7
  have h1 : (State.mask memOnly s1).memWf := State.stopWaiting_memWf _ _ (State.memWf_foldl (fun t x ht => by simp [ht]) _ hs)
  have h2 : (State.mask memOnly s2).memWf := State.memWf_foldl (fun t x ht => by simp [ht]) _ h1
  have h3 : (State.mask memOnly s3).memWf := by unfold s3; simp [h2]
  have h4 : (State.mask memOnly s4).memWf := State.memWf_foldl (fun t x ht => by simp [ht]) _ h3
  have h5 : (State.mask memOnly s5).memWf := State.memWf_foldl (fun t x ht => by simp [ht]) _ h4
  have h6 : (State.mask memOnly s6).memWf := State.memWf_foldl (fun t x ht => by simp [ht]) _ h5
  have h7 : (State.mask memOnly s7).memWf := State.memWf_foldl (fun t x ht => by simp [ht]) _ h6
  exact State.memWf_foldl (fun t x ht => by simp [ht]) _ h7

@[simp] theorem execDrainDeadline_memKept (d : Drain) (s : State) (hs : (State.mask memOnly s).memWf) :
    State.MemKept (execDrainDeadline d s) := by
  unfold execDrainDeadline
  dsimp only
  repeat' split
  all_goals simp (disch := simp [hs]) [hs]

@[simp] theorem State.submitDigest_memWf (s : State) (i : Issue) (hs : (State.mask memOnly s).memWf) :
    (State.mask memOnly (State.submitDigest s i)).memWf := by
  unfold State.submitDigest
  dsimp only
  split
  · simp [hs]
  · split
    · simp [hs]
    · rename_i hput
      exact State.complete_memWf _ _ _ (State.putBytes_memWf _ _ _ _ hput (by simp [hs]))

@[simp] theorem State.submitVerify_memWf (s : State) (i : Issue) (hs : (State.mask memOnly s).memWf) :
    (State.mask memOnly (State.submitVerify s i)).memWf := by
  unfold State.submitVerify
  dsimp only
  repeat' split
  all_goals simp [hs]

@[simp] theorem State.endVerify_memWf (s : State) (x : Verify) (hs : (State.mask memOnly s).memWf) :
    (State.mask memOnly (State.endVerify s x)).memWf := by
  unfold State.endVerify
  extract_lets d p c s0
  have h0 : (State.mask memOnly s0).memWf := hs
  split
  · simp [h0]
  split
  · simp [h0]
  split
  · simp [h0]
  split
  · simp [h0]
  split
  · simp [h0]
  split
  · simp [h0]
  · refine State.complete_memWf _ _ _ ?_
    split
    · simp [h0]
    · exact h0

@[simp] theorem State.endVerifies_memWf (s : State) (hs : (State.mask memOnly s).memWf) :
    (State.mask memOnly (State.endVerifies s)).memWf := by
  unfold State.endVerifies
  repeat' first | (simp [*]; done) | refine State.memWf_foldl (fun t x ht => ?_) _ ?_ | split

@[simp] theorem State.submitRecord_memWf (s : State) (i : Issue) (hs : (State.mask memOnly s).memWf) :
    (State.mask memOnly (State.submitRecord s i)).memWf := by
  unfold State.submitRecord
  extract_lets d p n oc fresh0 s1 s2
  have h1 : (State.mask memOnly s1).memWf := by unfold s1; split <;> simp [hs]
  have h2 : (State.mask memOnly s2).memWf := by unfold s2; split <;> simp [h1]
  split
  · simp [hs]
  split
  · simp [hs]
  split
  · split
    · exact State.complete_memWf _ _ _ hs
    · exact State.complete_memWf _ _ _ hs
    · extract_lets body mac sig bytes h told
      have h4 : (State.mask memOnly told).memWf := State.memWf_foldl (fun t x ht => by simp [ht]) _ (by unfold sig; simp [h2])
      split
      · exact State.complete_memWf _ _ _ hs
      · rename_i hput
        exact State.complete_memWf _ _ _ (by simpa using State.putBytes_memWf _ _ _ _ hput h4)
  · simp [hs]

@[simp] theorem State.drainRing_memWf (x1 : Nat) (x2 : State) (hs : (State.mask memOnly x2).memWf) :
    (State.mask memOnly (State.drainRing x1 x2)).memWf := by
  induction x1 generalizing x2 with
  | zero => exact hs
  | succ f ih =>
    rw [State.drainRing]
    dsimp only
    split
    · exact hs
    · split
      · exact hs
      · exact ih _ (by simp [hs])

@[simp] theorem State.drainScript_memWf (s : State) (hs : (State.mask memOnly s).memWf) :
    (State.mask memOnly (State.drainScript s)).memWf := by
  unfold State.drainScript
  simp [hs]

@[simp] theorem State.idle_memWf (s : State) (hs : (State.mask memOnly s).memWf) :
    (State.mask memOnly (State.idle s)).memWf := by
  unfold State.idle
  exact State.endCommits_memWf _ (State.endVerifies_memWf _ (by simp [hs]))

@[simp] theorem State.refuseIssue_memWf (s : State) (i : Issue) (a : Answer) (hs : (State.mask memOnly s).memWf) :
    (State.mask memOnly (State.refuseIssue s i a)).memWf := by
  unfold State.refuseIssue
  simp [hs]

@[simp] theorem State.startIssue_memWf (s : State) (o : Op) (hs : (State.mask memOnly s).memWf) :
    (State.mask memOnly (State.startIssue s o)).memWf := by
  unfold State.startIssue
  dsimp only
  repeat' split
  all_goals simp [hs]

@[simp] theorem State.abortTagged_memWf (s : State) (i : Issue) (stamp : Nat) (hs : (State.mask memOnly s).memWf) :
    (State.mask memOnly (State.abortTagged s i stamp)).memWf := by
  unfold State.abortTagged
  extract_lets named chapter ops s1 r s3 cues s4 ups s5 intm s6 hit
  have h1 : (State.mask memOnly s1).memWf := State.memWf_foldl (fun t x ht => by simp [ht]) _ hs
  have h3 : (State.mask memOnly s3).memWf := State.stopWaiting_memWf _ _ h1
  have h4 : (State.mask memOnly s4).memWf := State.memWf_foldl (fun t x ht => by simp [ht]) _ h3
  have h5 : (State.mask memOnly s5).memWf := State.memWf_foldl (fun t x ht => by simp [ht]) _ h4
  have h6 : (State.mask memOnly s6).memWf := by unfold s6; split <;> simp [h5]
  exact State.complete_memWf _ _ _ h6

@[simp] theorem State.abortNamed_memWf (s : State) (i : Issue) (hs : (State.mask memOnly s).memWf) :
    (State.mask memOnly (State.abortNamed s i)).memWf := by
  unfold State.abortNamed
  extract_lets d group h nodes s1 r
  have h1 : (State.mask memOnly s1).memWf := by
    unfold s1
    split
    · exact State.memWf_foldl (fun t x ht => by simp [ht]) _ hs
    · exact hs
  have h2 : (State.mask memOnly r.2).memWf := by unfold r; simp [h1]
  simp [h2]

@[simp] theorem State.addHere_memWf (s : State) (i : Issue) (hs : (State.mask memOnly s).memWf) :
    (State.mask memOnly (State.addHere s i)).memWf := by
  unfold State.addHere
  dsimp only
  split <;> simp [hs]

@[simp] theorem State.armCues_memWf (s : State) (i : Issue) (hs : (State.mask memOnly s).memWf) :
    (State.mask memOnly (State.armCues s i)).memWf := by
  unfold State.armCues
  dsimp only
  repeat' split
  all_goals simp [hs]

@[simp] theorem State.armArrival_memWf (s : State) (i : Issue) (hs : (State.mask memOnly s).memWf) :
    (State.mask memOnly (State.armArrival s i)).memWf := by
  unfold State.armArrival
  simp [hs]

@[simp] theorem State.disarm_memWf (s : State) (i : Issue) (hs : (State.mask memOnly s).memWf) :
    (State.mask memOnly (State.disarm s i)).memWf := by
  unfold State.disarm
  simp [hs]

@[simp] theorem State.openIssue_memWf (s : State) (i : Issue) (stamp : Nat) (hs : (State.mask memOnly s).memWf) :
    (State.mask memOnly (State.openIssue s i stamp)).memWf := by
  unfold State.openIssue
  simp [hs]

@[simp] theorem State.runOther_memWf (s : State) (i : Issue) (stamp : Nat) (hs : (State.mask memOnly s).memWf) :
    (State.mask memOnly (State.runOther s i stamp)).memWf := by
  unfold State.runOther
  dsimp only
  split <;> simp [hs]

@[simp] theorem State.refuseTag_memWf (s : State) (k : Nat) (i : Issue) (a : Answer) (hs : (State.mask memOnly s).memWf) :
    (State.mask memOnly (State.refuseTag s k i a).2).memWf := by
  unfold State.refuseTag
  dsimp only
  split <;> simp [hs]

@[simp] theorem State.issueHead_memWf (s : State) (k : Nat) (hs : (State.mask memOnly s).memWf) :
    (State.mask memOnly (State.issueHead s k).2).memWf := by
  unfold State.issueHead
  split
  · exact hs
  extract_lets i s1 later o _ s2
  have h1 : (State.mask memOnly s1).memWf := by unfold s1; simp [hs]
  have h2 : (State.mask memOnly s2).memWf := by unfold s2; split <;> simp [hs]
  split
  · split
    · exact hs
    · split
      · simp [hs]
      · split <;> simp [h1]
  · split
    · exact hs
    split
    · split
      · simp [hs]
      · split
        · exact hs
        · exact State.startIssue_memWf _ _ (by simp [h2])
    · exact State.runOther_memWf _ _ _ (by simp [hs])

@[simp] theorem State.runQueueFor_memWf (k : Nat) (x1 : Nat) (x2 : State) (hs : (State.mask memOnly x2).memWf) :
    (State.mask memOnly (State.runQueueFor k x1 x2)).memWf := by
  induction x1 generalizing x2 with
  | zero => exact hs
  | succ f ih =>
    rw [State.runQueueFor]
    split
    · exact ih _ (by simp [hs])
    · simp [hs]

@[simp] theorem State.runQueue_memWf (s : State) (k : Nat) (hs : (State.mask memOnly s).memWf) :
    (State.mask memOnly (State.runQueue s k)).memWf := by
  unfold State.runQueue
  simp [hs]

@[simp] theorem State.fetchRingFor_memWf (w : Win) (x1 : Nat) (x2 : State) (hs : (State.mask memOnly x2).memWf) :
    (State.mask memOnly (State.fetchRingFor w x1 x2)).memWf := by
  induction x1 generalizing x2 with
  | zero => exact hs
  | succ f ih =>
    rw [State.fetchRingFor]
    dsimp only
    split
    · exact hs
    · exact ih _ (by simp [hs])

@[simp] theorem State.fetchRing_memWf (s : State) (w : Win) (hs : (State.mask memOnly s).memWf) :
    (State.mask memOnly (State.fetchRing s w)).memWf := by
  unfold State.fetchRing
  simp [hs]

@[simp] theorem State.resumeIssue_memWf (s : State) (who : Submitter) (hs : (State.mask memOnly s).memWf) :
    (State.mask memOnly (State.resumeIssue s who)).memWf := by
  unfold State.resumeIssue
  dsimp only
  split <;> exact State.settleAll_memWf _ (State.runQueue_memWf _ _ (by simp [hs]))

@[simp] theorem State.ringBell_memWf (s : State) (w : Win) (value : Word) (hs : (State.mask memOnly s).memWf) :
    (State.mask memOnly (State.ringBell s w value)).memWf := by
  unfold State.ringBell
  simp [hs]

@[simp] theorem execDoorbell_memKept (w : Win) (value : Word) (s : State) (hs : (State.mask memOnly s).memWf) :
    State.MemKept (execDoorbell w value s) := by
  unfold execDoorbell
  simp [hs]

@[simp] theorem execDoorbellRelease_memKept (s : State) (hs : (State.mask memOnly s).memWf) :
    State.MemKept (execDoorbellRelease s) := by
  unfold execDoorbellRelease
  repeat' first | (simp [*]; done) | refine State.memWf_foldl (fun t x ht => ?_) _ ?_ | split

@[simp] theorem execDescRx_memKept (c : Cell) (s : State) (hs : (State.mask memOnly s).memWf) :
    State.MemKept (execDescRx c s) := by
  unfold execDescRx
  dsimp only
  repeat' split
  all_goals simp (disch := simp [hs]) [hs]

@[simp] theorem execIssueResume_memKept (who : Submitter) (s : State) (hs : (State.mask memOnly s).memWf) :
    State.MemKept (execIssueResume who s) := by
  unfold execIssueResume
  simp [hs]

@[simp] theorem execBusyBackoff_memKept (tag : Fin 16384) (s : State) (hs : (State.mask memOnly s).memWf) :
    State.MemKept (execBusyBackoff tag s) := by
  unfold execBusyBackoff
  split
  · exact hs
  extract_lets s1 due
  have h1 : (State.mask memOnly s1).memWf := by unfold s1; simp [hs]
  clear_value s1 due
  exact State.settleAll_memWf _ (State.runTurns_memWf _ (State.memWf_foldl (fun t x ht => by simp [ht]) _ h1))

@[simp] theorem execCueFire_memKept (cue : Fin 16384) (s : State) (hs : (State.mask memOnly s).memWf) :
    State.MemKept (execCueFire cue s) := by
  unfold execCueFire
  dsimp only
  repeat' split
  all_goals simp (disch := simp [hs]) [hs]

@[simp] theorem State.addLost_memWf (s : State) (node : Nat) (hs : (State.mask memOnly s).memWf) :
    (State.mask memOnly (State.addLost s node)).memWf := by
  unfold State.addLost
  split
  · exact hs
  · extract_lets s1 s2 ops
    have h1 : (State.mask memOnly s1).memWf := by unfold s1; simp [hs]
    have h2 : (State.mask memOnly s2).memWf := by unfold s2; simp [h1]
    exact State.runTurns_memWf _ (State.memWf_foldl (fun t x ht => by split <;> simp [ht]) _ h2)

@[simp] theorem State.declareLost_memWf (s : State) (node : Nat) (hs : (State.mask memOnly s).memWf) :
    (State.mask memOnly (State.declareLost s node)).memWf := by
  unfold State.declareLost
  split
  · exact hs
  · extract_lets s1 q kk s2
    have h1 : (State.mask memOnly s1).memWf := by unfold s1; simp [hs]
    have h2 : (State.mask memOnly s2).memWf := h1
    simp [h2]

@[simp] theorem execProbe_memKept (node : Fin 1024) (s : State) (hs : (State.mask memOnly s).memWf) :
    State.MemKept (execProbe node s) := by
  unfold execProbe
  split
  · simp [hs]
  · split <;> simp [hs]

@[simp] theorem execLostRx_memKept (n : LinkIx) (c : Cell) (s : State) (hs : (State.mask memOnly s).memWf) :
    State.MemKept (execLostRx n c s) := by
  unfold execLostRx
  split
  · exact hs
  · split
    · trivial
    · extract_lets s0 node kk s1 s2
      have h0 : (State.mask memOnly s0).memWf := by unfold s0; simp [hs]
      split
      · have h1 : (State.mask memOnly s1).memWf := h0
        have h2 : (State.mask memOnly s2).memWf := by unfold s2; split <;> simp [h1]
        simp [h2]
      · exact h0

@[simp] theorem State.downReceived_memWf (s : State) (n : Nat) (c : Cell) (hs : (State.mask memOnly s).memWf) :
    (State.mask memOnly (State.downReceived s n c)).memWf := by
  unfold State.downReceived
  simp [hs]

@[simp] theorem execDownCellRx_memKept (n : LinkIx) (c : Cell) (s : State) (hs : (State.mask memOnly s).memWf) :
    State.MemKept (execDownCellRx n c s) := by
  unfold execDownCellRx
  dsimp only
  repeat' split
  all_goals simp [hs]

@[simp] theorem State.curtainStops_memWf (s : State) (k : Nat) (hs : (State.mask memOnly s).memWf) :
    (State.mask memOnly (State.curtainStops s k)).memWf := by
  unfold State.curtainStops
  repeat' first | (simp [*]; done) | refine State.memWf_foldl (fun t x ht => ?_) _ ?_ | split

@[simp] theorem State.lowerCurtain_memWf (s : State) (i : Nat) (x : Slot) (hs : (State.mask memOnly s).memWf) :
    (State.mask memOnly (State.lowerCurtain s i x)).memWf := by
  unfold State.lowerCurtain
  exact State.settleAll_memWf _ (State.curtainStops_memWf _ _ (by simp [hs]))

@[simp] theorem execCurtainLowered_memKept (slot : Fin 4096) (s : State) (hs : (State.mask memOnly s).memWf) :
    State.MemKept (execCurtainLowered slot s) := by
  unfold execCurtainLowered
  repeat' split
  all_goals simp [hs]

@[simp] theorem State.submit_memWf (s : State) (i : Issue) (hs : (State.mask memOnly s).memWf) :
    (State.mask memOnly (State.submit s i)).memWf := by
  unfold State.submit
  dsimp only
  repeat' split
  all_goals simp (disch := simp [hs]) [hs]

@[simp] theorem execLoad_memKept (i : Issue) (s : State) (hs : (State.mask memOnly s).memWf) :
    State.MemKept (execLoad i s) := by
  unfold execLoad
  simp [hs]

@[simp] theorem execStore_memKept (i : Issue) (s : State) (hs : (State.mask memOnly s).memWf) :
    State.MemKept (execStore i s) := by
  unfold execStore
  simp [hs]

@[simp] theorem execStoreOrd_memKept (i : Issue) (s : State) (hs : (State.mask memOnly s).memWf) :
    State.MemKept (execStoreOrd i s) := by
  unfold execStoreOrd
  simp [hs]

@[simp] theorem execCopy_memKept (i : Issue) (s : State) (hs : (State.mask memOnly s).memWf) :
    State.MemKept (execCopy i s) := by
  unfold execCopy
  simp [hs]

@[simp] theorem execFill_memKept (i : Issue) (s : State) (hs : (State.mask memOnly s).memWf) :
    State.MemKept (execFill i s) := by
  unfold execFill
  simp [hs]

@[simp] theorem execAtomIadd_memKept (i : Issue) (s : State) (hs : (State.mask memOnly s).memWf) :
    State.MemKept (execAtomIadd i s) := by
  unfold execAtomIadd
  simp [hs]

@[simp] theorem execAtomCas_memKept (i : Issue) (s : State) (hs : (State.mask memOnly s).memWf) :
    State.MemKept (execAtomCas i s) := by
  unfold execAtomCas
  simp [hs]

@[simp] theorem execAtomSwap_memKept (i : Issue) (s : State) (hs : (State.mask memOnly s).memWf) :
    State.MemKept (execAtomSwap i s) := by
  unfold execAtomSwap
  simp [hs]

@[simp] theorem execAtomFaddF_memKept (i : Issue) (s : State) (hs : (State.mask memOnly s).memWf) :
    State.MemKept (execAtomFaddF i s) := by
  unfold execAtomFaddF
  simp [hs]

@[simp] theorem execAtomFaddXAdd_memKept (i : Issue) (s : State) (hs : (State.mask memOnly s).memWf) :
    State.MemKept (execAtomFaddXAdd i s) := by
  unfold execAtomFaddXAdd
  simp [hs]

@[simp] theorem execAtomFaddXRead_memKept (i : Issue) (s : State) (hs : (State.mask memOnly s).memWf) :
    State.MemKept (execAtomFaddXRead i s) := by
  unfold execAtomFaddXRead
  simp [hs]

@[simp] theorem execAtomFaddXClear_memKept (i : Issue) (s : State) (hs : (State.mask memOnly s).memWf) :
    State.MemKept (execAtomFaddXClear i s) := by
  unfold execAtomFaddXClear
  simp [hs]

@[simp] theorem execOutcome_memKept (i : Issue) (s : State) (hs : (State.mask memOnly s).memWf) :
    State.MemKept (execOutcome i s) := by
  unfold execOutcome
  simp [hs]

@[simp] theorem execAbort_memKept (i : Issue) (s : State) (hs : (State.mask memOnly s).memWf) :
    State.MemKept (execAbort i s) := by
  unfold execAbort
  simp [hs]

@[simp] theorem execAbortContext_memKept (i : Issue) (s : State) (hs : (State.mask memOnly s).memWf) :
    State.MemKept (execAbortContext i s) := by
  unfold execAbortContext
  simp [hs]

@[simp] theorem execCueAdd_memKept (i : Issue) (s : State) (hs : (State.mask memOnly s).memWf) :
    State.MemKept (execCueAdd i s) := by
  unfold execCueAdd
  simp [hs]

@[simp] theorem execCueArmCues_memKept (i : Issue) (s : State) (hs : (State.mask memOnly s).memWf) :
    State.MemKept (execCueArmCues i s) := by
  unfold execCueArmCues
  simp [hs]

@[simp] theorem execCueArmArrival_memKept (i : Issue) (s : State) (hs : (State.mask memOnly s).memWf) :
    State.MemKept (execCueArmArrival i s) := by
  unfold execCueArmArrival
  simp [hs]

@[simp] theorem execCueArmDisarm_memKept (i : Issue) (s : State) (hs : (State.mask memOnly s).memWf) :
    State.MemKept (execCueArmDisarm i s) := by
  unfold execCueArmDisarm
  simp [hs]

@[simp] theorem execRedInOpen_memKept (i : Issue) (s : State) (hs : (State.mask memOnly s).memWf) :
    State.MemKept (execRedInOpen i s) := by
  unfold execRedInOpen
  simp [hs]

@[simp] theorem execRedInMember_memKept (i : Issue) (s : State) (hs : (State.mask memOnly s).memWf) :
    State.MemKept (execRedInMember i s) := by
  unfold execRedInMember
  simp [hs]

@[simp] theorem execRedOut_memKept (i : Issue) (s : State) (hs : (State.mask memOnly s).memWf) :
    State.MemKept (execRedOut i s) := by
  unfold execRedOut
  simp [hs]

@[simp] theorem execAllgatherOpen_memKept (i : Issue) (s : State) (hs : (State.mask memOnly s).memWf) :
    State.MemKept (execAllgatherOpen i s) := by
  unfold execAllgatherOpen
  simp [hs]

@[simp] theorem execAllgatherMember_memKept (i : Issue) (s : State) (hs : (State.mask memOnly s).memWf) :
    State.MemKept (execAllgatherMember i s) := by
  unfold execAllgatherMember
  simp [hs]

@[simp] theorem execBcastOpen_memKept (i : Issue) (s : State) (hs : (State.mask memOnly s).memWf) :
    State.MemKept (execBcastOpen i s) := by
  unfold execBcastOpen
  simp [hs]

@[simp] theorem execBcastMember_memKept (i : Issue) (s : State) (hs : (State.mask memOnly s).memWf) :
    State.MemKept (execBcastMember i s) := by
  unfold execBcastMember
  simp [hs]

@[simp] theorem execAlltoallOpen_memKept (i : Issue) (s : State) (hs : (State.mask memOnly s).memWf) :
    State.MemKept (execAlltoallOpen i s) := by
  unfold execAlltoallOpen
  simp [hs]

@[simp] theorem execAlltoallMember_memKept (i : Issue) (s : State) (hs : (State.mask memOnly s).memWf) :
    State.MemKept (execAlltoallMember i s) := by
  unfold execAlltoallMember
  simp [hs]

@[simp] theorem execBarrierOpen_memKept (i : Issue) (s : State) (hs : (State.mask memOnly s).memWf) :
    State.MemKept (execBarrierOpen i s) := by
  unfold execBarrierOpen
  simp [hs]

@[simp] theorem execBarrierMember_memKept (i : Issue) (s : State) (hs : (State.mask memOnly s).memWf) :
    State.MemKept (execBarrierMember i s) := by
  unfold execBarrierMember
  simp [hs]

@[simp] theorem execNormOpen_memKept (i : Issue) (s : State) (hs : (State.mask memOnly s).memWf) :
    State.MemKept (execNormOpen i s) := by
  unfold execNormOpen
  simp [hs]

@[simp] theorem execNormMember_memKept (i : Issue) (s : State) (hs : (State.mask memOnly s).memWf) :
    State.MemKept (execNormMember i s) := by
  unfold execNormMember
  simp [hs]

@[simp] theorem execUpdate_memKept (i : Issue) (s : State) (hs : (State.mask memOnly s).memWf) :
    State.MemKept (execUpdate i s) := by
  unfold execUpdate
  simp [hs]

@[simp] theorem execProofSweep_memKept (i : Issue) (s : State) (hs : (State.mask memOnly s).memWf) :
    State.MemKept (execProofSweep i s) := by
  unfold execProofSweep
  simp [hs]

@[simp] theorem execDigestRegion_memKept (i : Issue) (s : State) (hs : (State.mask memOnly s).memWf) :
    State.MemKept (execDigestRegion i s) := by
  unfold execDigestRegion
  simp [hs]

@[simp] theorem execDigestVerify_memKept (i : Issue) (s : State) (hs : (State.mask memOnly s).memWf) :
    State.MemKept (execDigestVerify i s) := by
  unfold execDigestVerify
  simp [hs]

@[simp] theorem execSealRecord_memKept (i : Issue) (s : State) (hs : (State.mask memOnly s).memWf) :
    State.MemKept (execSealRecord i s) := by
  unfold execSealRecord
  simp [hs]

@[simp] theorem execIntermission_memKept (i : Issue) (s : State) (hs : (State.mask memOnly s).memWf) :
    State.MemKept (execIntermission i s) := by
  unfold execIntermission
  simp [hs]

@[simp] theorem execResume_memKept (i : Issue) (s : State) (hs : (State.mask memOnly s).memWf) :
    State.MemKept (execResume i s) := by
  unfold execResume
  simp [hs]

@[simp] theorem execCommit_memKept (i : Issue) (s : State) (hs : (State.mask memOnly s).memWf) :
    State.MemKept (execCommit i s) := by
  unfold execCommit
  simp [hs]

@[simp] theorem State.seatHook_memWf (s : State) (seat : Nat) (c : Cell) (hs : (State.mask memOnly s).memWf) :
    (State.mask memOnly (State.seatHook s seat c)).memWf := by
  unfold State.seatHook
  simp [hs]

@[simp] theorem State.seatTo_memWf (s0 : State) (b : Budget) (v : PlateV) (s : State) (input : Nat) (c : Cell) (replica : Bool) (hs : (State.mask memOnly s).memWf) :
    (State.mask memOnly (State.seatTo s0 b v s input c replica).2.2).memWf := by
  unfold State.seatTo
  extract_lets k w refusal r
  split
  · simp [hs]
  split
  · simp [hs]
  split
  · simp [hs]
  split
  · split <;> simp [hs]
  split
  · simp [hs]
  split
  · simp [hs]
  · exact State.seatHook_memWf _ _ _ (by simp [r, hs])

@[simp] theorem State.placeReplicas_memWf (s0 : State) (v : PlateV) (input : Nat) (x1 : List Cell) (x2 : Budget) (x3 : State) (hs : (State.mask memOnly x3).memWf) :
    (State.mask memOnly (State.placeReplicas s0 v input x1 x2 x3).2.2).memWf := by
  induction x1 generalizing x2 x3 with
  | nil => exact hs
  | cons a t ih =>
    rw [State.placeReplicas]
    dsimp only
    refine ih _ _ ?_
    split
    · simp [hs]
    · split <;> simp [hs]

@[simp] theorem State.treeTurn_memWf (s0 : State) (b : Budget) (v : PlateV) (input : Nat) (c : Cell) (s : State) (hs : (State.mask memOnly s).memWf) :
    (State.mask memOnly (State.treeTurn s0 b v input c s).2).memWf := by
  unfold State.treeTurn
  split
  · simp [hs]
  split
  · simp [hs]
  · extract_lets old todo r t rest
    have hr : (State.mask memOnly r.2.2).memWf := by unfold r; simp [hs]
    have ht : (State.mask memOnly t).memWf := by unfold t; split <;> simp [hr]
    split
    · simp [ht]
    · simp [hr]

@[simp] theorem State.resolve_memWf (s0 : State) (b : Budget) (v : PlateV) (input : Nat) (c : Cell) (s : State) (hs : (State.mask memOnly s).memWf) :
    (State.mask memOnly (State.resolve s0 b v input c s).2).memWf := by
  unfold State.resolve
  extract_lets dest r1 r2
  have h2 : (State.mask memOnly r2.2.2).memWf := by unfold r2; split <;> simp [hs]
  split
  · simp [hs]
  split
  · split <;> simp [r1, hs]
  · split
    · simp [h2]
    · exact h2

@[simp] theorem State.cellTurn_memWf (s0 : State) (b : Budget) (input : Nat) (c : Cell) (s : State) (hs : (State.mask memOnly s).memWf) :
    (State.mask memOnly (State.cellTurn s0 b input c s).2).memWf := by
  unfold State.cellTurn
  split
  · exact hs
  split
  · simp [hs]
  split
  · simp [hs]
  split
  · simp [hs]
  split
  · simp [hs]
  split
  · simp [hs]
  · extract_lets entered
    split
    · simp [hs]
    split
    · simp [hs]
    split
    · exact hs
    · simp [hs]

@[simp] theorem State.offerTurn_memWf (s0 : State) (a : Budget × State) (x : Nat × Cell) (hs : (State.mask memOnly a.2).memWf) :
    (State.mask memOnly (State.offerTurn s0 a x).2).memWf := by
  unfold State.offerTurn
  dsimp only
  split <;> simp [hs]

@[simp] theorem State.turns_memWf (s0 : State) (xs : List (Nat × Cell)) (b : Budget) (s : State) (hs : (State.mask memOnly s).memWf) :
    (State.mask memOnly (State.turns s0 xs b s).2).memWf := by
  unfold State.turns
  exact State.memWf_foldl_snd (fun p x hp => State.offerTurn_memWf _ _ _ hp) _ hs

@[simp] theorem State.rounds_memWf (s0 : State) (x1 : Nat) (x2 : Budget) (x3 : State) (hs : (State.mask memOnly x3).memWf) :
    (State.mask memOnly (State.rounds s0 x1 x2 x3)).memWf := by
  induction x1 generalizing x2 x3 with
  | zero => exact hs
  | succ f ih =>
    rw [State.rounds]
    split
    · exact hs
    · exact ih _ _ (by simp [hs])

@[simp] theorem State.choose_memWf (s : State) (hs : (State.mask memOnly s).memWf) :
    (State.mask memOnly (State.choose s)).memWf := by
  unfold State.choose
  simp [hs]

@[simp] theorem execCellOutputChoice_memKept (s : State) (hs : (State.mask memOnly s).memWf) :
    State.MemKept (execCellOutputChoice s) := by
  unfold execCellOutputChoice
  simp [hs]

@[simp] theorem execDeferredEjection_memKept (n : LinkIx) (s : State) (hs : (State.mask memOnly s).memWf) :
    State.MemKept (execDeferredEjection n s) := by
  unfold execDeferredEjection
  split
  · simp [hs]
  · split <;> simp [hs]

@[simp] theorem execKeeperPowerOnReset_memKept (straps : BitVec 10) (s : State) (hs : (State.mask memOnly s).memWf) :
    State.MemKept (execKeeperPowerOnReset straps s) := by
  have h : (State.mask memOnly s.cutFuse).memWf := by simp [hs]
  exact h

@[simp] theorem State.startSleep_memWf (s : State) (hs : (State.mask memOnly s).memWf) :
    (State.mask memOnly (State.startSleep s)).memWf := by
  unfold State.startSleep
  simp [hs]

@[simp] theorem execSleep_memKept (w : Win) (s : State) (hs : (State.mask memOnly s).memWf) :
    State.MemKept (execSleep w s) := by
  unfold execSleep
  simp [hs]

@[simp] theorem State.rawWrite_memWf (s : State) (v : PlateV) (g : Region) (o : Nat) (d : List Byte) (hs : (State.mask memOnly s).memWf) :
    (State.mask memOnly (State.rawWrite s v g o d)).memWf := by
  unfold State.rawWrite
  simp [hs]

@[simp] theorem State.mapWrite_memWf (s : State) (w : Nat) (r : Nat) (d : List Byte) (hs : (State.mask memOnly s).memWf) :
    (State.mask memOnly (State.mapWrite s w r d)).memWf := by
  unfold State.mapWrite
  dsimp only
  split <;> simp [hs]

@[simp] theorem execHostMapAccess_memKept (w : Win) (off : BitVec 26) (acc : MapAccess) (s : State) (hs : (State.mask memOnly s).memWf) :
    State.MemKept (execHostMapAccess w off acc s) := by
  unfold execHostMapAccess
  split <;> simp [hs]

@[simp] theorem State.powerWrite_memWf (s : State) (a : Nat) (v : Word) (hs : (State.mask memOnly s).memWf) :
    (State.mask memOnly (State.powerWrite s a v)).memWf := by
  unfold State.powerWrite
  simp [hs]

@[simp] theorem State.kprWrite_memWf (s : State) (a : Nat) (off : Nat) (v : Word) (hs : (State.mask memOnly s).memWf) :
    (State.mask memOnly (State.kprWrite s a off v)).memWf := by
  unfold State.kprWrite
  simp [hs]

@[simp] theorem State.scriptWrite_memWf (s : State) (a : Nat) (off : Nat) (v : Word) (hs : (State.mask memOnly s).memWf) :
    (State.mask memOnly (State.scriptWrite s a off v)).memWf := by
  unfold State.scriptWrite
  split
  · simp [hs]
  split
  · split <;> simp [hs]
  split
  · split <;> simp [hs]
  split
  · exact State.lastWins_memWf _ _ _ _ (fun t ht => by simp [ht]) hs
  split
  · exact State.lastWins_memWf _ _ _ _ (fun t ht => by simp [ht]) hs
  · exact hs

@[simp] theorem State.cellWrite_memWf (s : State) (a : Nat) (off : Nat) (v : Word) (hs : (State.mask memOnly s).memWf) :
    (State.mask memOnly (State.cellWrite s a off v)).memWf := by
  unfold State.cellWrite
  extract_lets src
  split
  · simp [hs]
  split
  · simp [hs]
  split
  · exact State.after_memWf _ _ (execCtrKeyWrite_memKept _ _ _ _ hs) hs
  split
  · split <;> simp [hs]
  split <;> simp [hs]

@[simp] theorem State.fmBlockWrite_memWf (s : State) (a : Nat) (off : Nat) (v : Word) (hs : (State.mask memOnly s).memWf) :
    (State.mask memOnly (State.fmBlockWrite s a off v)).memWf := by
  unfold State.fmBlockWrite
  split <;> simp [hs]

@[simp] theorem State.ownWrite_memWf (s : State) (w : Nat) (r : Nat) (v : Word) (hs : (State.mask memOnly s).memWf) :
    (State.mask memOnly (State.ownWrite s w r v)).memWf := by
  unfold State.ownWrite
  extract_lets off here
  split_ifs
  · exact hs
  · simp [hs]
  · simp [hs]
  · exact hs
  · exact hs
  · simp [hs]
  · simp [hs]
  · simp [hs]
  · exact hs
  · simp [hs]
  · exact State.after_memWf _ _ (execDoorbell_memKept _ _ _ hs) hs
  · simp [hs]

@[simp] theorem State.cqRegWrite_memWf (s : State) (a : Nat) (off : Nat) (v : Word) (hs : (State.mask memOnly s).memWf) :
    (State.mask memOnly (State.cqRegWrite s a off v)).memWf := by
  unfold State.cqRegWrite
  split <;> simp [hs]

@[simp] theorem State.regWrite_memWf (s : State) (a : Nat) (off : Nat) (v : Word) (hs : (State.mask memOnly s).memWf) :
    (State.mask memOnly (State.regWrite s a off v)).memWf := by
  unfold State.regWrite
  repeat' split
  all_goals simp [hs]

@[simp] theorem execRegisterWrite_memKept (w : Win) (off : BitVec 26) (value : Word) (s : State) (hs : (State.mask memOnly s).memWf) :
    State.MemKept (execRegisterWrite w off value s) := by
  unfold execRegisterWrite
  simp [hs]

@[simp] theorem execSeatInputRelease_memKept (s : State) (hs : (State.mask memOnly s).memWf) :
    State.MemKept (execSeatInputRelease s) := by
  unfold execSeatInputRelease
  repeat' first | (simp [*]; done) | refine State.memWf_foldl (fun t x ht => ?_) _ ?_ | split

@[simp] theorem execFmWriteRx_memKept (c : Cell) (s : State) (hs : (State.mask memOnly s).memWf) :
    State.MemKept (execFmWriteRx c s) := by
  unfold execFmWriteRx
  dsimp only
  repeat' split
  all_goals simp [hs]

@[simp] theorem State.wakeWindows_memWf (s : State) (hs : (State.mask memOnly s).memWf) :
    (State.mask memOnly (State.wakeWindows s)).memWf := by
  unfold State.wakeWindows
  exact State.memWf_foldl (fun t x ht => by simp [ht]) _ (State.memWf_foldl (fun t x ht => by simp [ht]) _ hs)

@[simp] theorem execWakeTablesReady_memKept (s : State) (hs : (State.mask memOnly s).memWf) :
    State.MemKept (execWakeTablesReady s) := by
  unfold execWakeTablesReady
  dsimp only
  repeat' split
  all_goals simp (disch := simp [hs]) [hs]

/-! ### Every step -/

/-- A row that does not list memory leaves it; the rows that do are those above. -/
theorem exec_memKept (c : Instr) (s : State) (hs : (State.mask memOnly s).memWf) : State.MemKept (exec c s) := by
  by_cases hmem : StateField.memory ∈ mayChange c
  case neg =>
    cases hnext : exec c s with
    | next t =>
      have hsame : t.memory = s.memory := exec_agree hnext hmem
      rw [State.memKept_next, ← State.wf_memory, hsame]
      exact hs
    | _ => trivial
  case pos =>
    have hmask : mayChangeMask c .memory = true := by simpa [mayChangeMask] using hmem
    cases c with
    | keeperPowerOnReset straps => exact execKeeperPowerOnReset_memKept straps s hs
    | wakeTablesReady => exact execWakeTablesReady_memKept s hs
    | sleep w => exact execSleep_memKept w s hs
    | proofSweep i0 => exact execProofSweep_memKept i0 s hs
    | sweepRx c => exact execSweepRx_memKept c s hs
    | downCellRx n c => exact execDownCellRx_memKept n c s hs
    | cellOutputChoice => exact execCellOutputChoice_memKept s hs
    | deferredEjection n => exact execDeferredEjection_memKept n s hs
    | doorbell w value => exact execDoorbell_memKept w value s hs
    | descRx c => exact execDescRx_memKept c s hs
    | issueResume who => exact execIssueResume_memKept who s hs
    | load i0 => exact execLoad_memKept i0 s hs
    | store i0 => exact execStore_memKept i0 s hs
    | storeOrd i0 => exact execStoreOrd_memKept i0 s hs
    | copy i0 => exact execCopy_memKept i0 s hs
    | fill i0 => exact execFill_memKept i0 s hs
    | atomIadd i0 => exact execAtomIadd_memKept i0 s hs
    | atomCas i0 => exact execAtomCas_memKept i0 s hs
    | atomSwap i0 => exact execAtomSwap_memKept i0 s hs
    | atomFaddF i0 => exact execAtomFaddF_memKept i0 s hs
    | atomFaddXAdd i0 => exact execAtomFaddXAdd_memKept i0 s hs
    | atomFaddXRead i0 => exact execAtomFaddXRead_memKept i0 s hs
    | atomFaddXClear i0 => exact execAtomFaddXClear_memKept i0 s hs
    | outcome i0 => exact execOutcome_memKept i0 s hs
    | abort i0 => exact execAbort_memKept i0 s hs
    | abortContext i0 => exact execAbortContext_memKept i0 s hs
    | cueAdd i0 => exact execCueAdd_memKept i0 s hs
    | cueArmCues i0 => exact execCueArmCues_memKept i0 s hs
    | cueArmArrival i0 => exact execCueArmArrival_memKept i0 s hs
    | cueArmDisarm i0 => exact execCueArmDisarm_memKept i0 s hs
    | redInOpen i0 => exact execRedInOpen_memKept i0 s hs
    | redInMember i0 => exact execRedInMember_memKept i0 s hs
    | redOut i0 => exact execRedOut_memKept i0 s hs
    | allgatherOpen i0 => exact execAllgatherOpen_memKept i0 s hs
    | allgatherMember i0 => exact execAllgatherMember_memKept i0 s hs
    | bcastOpen i0 => exact execBcastOpen_memKept i0 s hs
    | bcastMember i0 => exact execBcastMember_memKept i0 s hs
    | alltoallOpen i0 => exact execAlltoallOpen_memKept i0 s hs
    | alltoallMember i0 => exact execAlltoallMember_memKept i0 s hs
    | barrierOpen i0 => exact execBarrierOpen_memKept i0 s hs
    | barrierMember i0 => exact execBarrierMember_memKept i0 s hs
    | normOpen i0 => exact execNormOpen_memKept i0 s hs
    | normMember i0 => exact execNormMember_memKept i0 s hs
    | update i0 => exact execUpdate_memKept i0 s hs
    | digestRegion i0 => exact execDigestRegion_memKept i0 s hs
    | digestVerify i0 => exact execDigestVerify_memKept i0 s hs
    | sealRecord i0 => exact execSealRecord_memKept i0 s hs
    | intermission i0 => exact execIntermission_memKept i0 s hs
    | resume i0 => exact execResume_memKept i0 s hs
    | commit i0 => exact execCommit_memKept i0 s hs
    | commitSlotWrite => exact execCommitSlotWrite_memKept s hs
    | holdupRecheck => exact execHoldupRecheck_memKept s hs
    | loadReqRx c => exact execLoadReqRx_memKept c s hs
    | storeDataRx c => exact execStoreDataRx_memKept c s hs
    | bulkDataRx c => exact execBulkDataRx_memKept c s hs
    | atomicReqRx c => exact execAtomicReqRx_memKept c s hs
    | copyFwdRx c => exact execCopyFwdRx_memKept c s hs
    | fillReqRx c => exact execFillReqRx_memKept c s hs
    | outcomeReqRx c => exact execOutcomeReqRx_memKept c s hs
    | abortReqRx c => exact execAbortReqRx_memKept c s hs
    | collectiveAbortReqRx c => exact execCollectiveAbortReqRx_memKept c s hs
    | loadDataRx c => exact execLoadDataRx_memKept c s hs
    | completionChunkRx c => exact execCompletionChunkRx_memKept c s hs
    | atomicRspRx c => exact execAtomicRspRx_memKept c s hs
    | outcomeRspRx c => exact execOutcomeRspRx_memKept c s hs
    | noticeRx c => exact execNoticeRx_memKept c s hs
    | operationTimeout tag => exact execOperationTimeout_memKept tag s hs
    | busyBackoff tag => exact execBusyBackoff_memKept tag s hs
    | cqHeadWrite a q value => exact execCqHeadWrite_memKept a q value s hs
    | drainDeadline d => exact execDrainDeadline_memKept d s hs
    | channelResponse p id wr stat data code poison => exact execChannelResponse_memKept p id wr stat data code poison s hs
    | chanHold p => exact execChanHold_memKept p s hs
    | rspTimeout p => exact execRspTimeout_memKept p s hs
    | zeroingDone region => exact execZeroingDone_memKept region s hs
    | scrubDone => exact execScrubDone_memKept s hs
    | ctrKeyWrite a b value => exact execCtrKeyWrite_memKept a b value s hs
    | cueFire cue => exact execCueFire_memKept cue s hs
    | cueAddRx c => exact execCueAddRx_memKept c s hs
    | gatherDataRx c => exact execGatherDataRx_memKept c s hs
    | pieceEntry t => exact execPieceEntry_memKept t s hs
    | contextAdmit => exact execContextAdmit_memKept s hs
    | memberWaitTimeout => exact execMemberWaitTimeout_memKept s hs
    | grantRx c => exact execGrantRx_memKept c s hs
    | doneRx c => exact execDoneRx_memKept c s hs
    | regrant k => exact execRegrant_memKept k s hs
    | contribRx c => exact execContribRx_memKept c s hs
    | partialCfRx c => exact execPartialCfRx_memKept c s hs
    | a2aCountsRx c => exact execA2aCountsRx_memKept c s hs
    | a2aDataRx c => exact execA2aDataRx_memKept c s hs
    | contextTimeout k => exact execContextTimeout_memKept k s hs
    | replayPass k => exact execReplayPass_memKept k s hs
    | barrierRelease k => exact execBarrierRelease_memKept k s hs
    | updateSegment u => exact execUpdateSegment_memKept u s hs
    | updateContextTimeout u => exact execUpdateContextTimeout_memKept u s hs
    | updateGateTimeout u => exact execUpdateGateTimeout_memKept u s hs
    | hushQuiet => exact execHushQuiet_memKept s hs
    | hushLimit => exact execHushLimit_memKept s hs
    | imageWritten => exact execImageWritten_memKept s hs
    | resumeTime => exact execResumeTime_memKept s hs
    | doorbellRelease => exact execDoorbellRelease_memKept s hs
    | seatInputRelease => exact execSeatInputRelease_memKept s hs
    | probe node => exact execProbe_memKept node s hs
    | lostRx n c => exact execLostRx_memKept n c s hs
    | curtainLowered slot => exact execCurtainLowered_memKept slot s hs
    | fmWriteRx c => exact execFmWriteRx_memKept c s hs
    | hostMapAccess w off acc => exact execHostMapAccess_memKept w off acc s hs
    | registerWrite w off value => exact execRegisterWrite_memKept w off value s hs
    | _ => exact absurd hmask Bool.false_ne_true

/-- Settles O8: a cycle of the empty queue and every command keep memory in its canonical form. -/
theorem stepKeepsMemoryCanonical : Obligations.StepKeepsMemoryCanonical := by
  intro s t hs hstep
  unfold step at hstep
  split at hstep
  · cases hstep
    exact State.idle_memWf s hs
  · rename_i c rest _
    have hkept := exec_memKept c { s with pending := rest } hs
    rw [hstep] at hkept
    exact hkept

end Sys2Proof.Machine
end

section
/-! What raising a fault does: the record it leaves, the parts and registers it keeps, and the fail-stop of a fatal one (R473 to R475, R479). -/

namespace Sys2Proof.Machine

/-! ## Folds -/

/-- What every step of a fold keeps, the fold keeps. -/
theorem foldl_keeps {σ α β : Type} (p : σ → β) {f : σ → α → σ} (h : ∀ t x, p (f t x) = p t) (l : List α) (s : σ) : p (l.foldl f s) = p s :=
  List.foldlRecOn (motive := fun t => p t = p s) l f rfl fun t ht x _ => (h t x).trans ht

/-- What every step of a fold keeps for the elements that it meets, the fold keeps. -/
theorem foldl_keeps_mem {σ α β : Type} (p : σ → β) {f : σ → α → σ} (l : List α) (h : ∀ t, ∀ x ∈ l, p (f t x) = p t) (s : σ) : p (l.foldl f s) = p s :=
  List.foldlRecOn (motive := fun t => p t = p s) l f rfl fun t ht x hx => (h t x hx).trans ht

/-! ## Arrays of bits -/

theorem State.arrayBit_of_reg {s t : State} {base k : Nat} (h : t.reg (base + 4 * (k / 32)) = s.reg (base + 4 * (k / 32))) :
    t.arrayBit base k = s.arrayBit base k := by
  unfold State.arrayBit
  rw [h]

theorem State.fld_of_reg {s t : State} {off : Nat} (h : t.reg off = s.reg off) (lo len : Nat) : t.fld off lo len = s.fld off lo len := by
  unfold State.fld
  rw [h]

/-! ## Lanes and links that go down -/

/-- The registers of a lane's row (Table 18-11) and the words of LANE_FAILED. -/
def laneReg (off : Nat) : Prop := 0x400000 ≤ off ∧ off < 0x480064

theorem laneReg_lane {l : Nat} (hl : l < 288) {r : Nat} (hr : r < 0x400) : laneReg (R.lane l + r) := by
  unfold laneReg R.lane
  omega

theorem State.endScan_reg_ne (s : State) (l st : Nat) {off : Nat} (h14 : off ≠ R.lane l + 0x14) (h18 : off ≠ R.lane l + 0x18) :
    (s.endScan l st).reg off = s.reg off := by
  unfold State.endScan
  split
  · rw [State.tookFree_reg, State.reg_setReg_ne _ _ h18, State.reg_setReg_ne _ _ h14]
  · rfl

theorem State.laneTo_reg_ne (s : State) (l : Nat) (st : LaneState) {off : Nat} (h14 : off ≠ R.lane l + 0x14) (h18 : off ≠ R.lane l + 0x18)
    (hf : off ≠ R.laneFailed + 4 * (l / 32)) : (s.laneTo l st).reg off = s.reg off := by
  have hset : ((s.modLane l fun y => { y with state := st }).setArrayBit R.laneFailed l (st == .failed)).reg off = s.reg off := by
    rw [State.reg_setArrayBit_ne _ _ hf, State.modLane_reg]
  unfold State.laneTo
  dsimp only
  split
  · exact hset
  · rw [State.endScan_reg_ne _ _ _ h14 h18, hset]

theorem State.laneTo_reg (s : State) {l : Nat} (hl : l < 288) (st : LaneState) {off : Nat} (h : ¬ laneReg off) : (s.laneTo l st).reg off = s.reg off := by
  have hrow {r : Nat} (hr : r < 0x400) : off ≠ R.lane l + r := fun he => h (he ▸ laneReg_lane hl hr)
  refine State.laneTo_reg_ne s l st (hrow (by decide)) (hrow (by decide)) fun he => h ?_
  subst he
  unfold laneReg R.laneFailed
  omega

theorem State.laneOff_reg (s : State) {l : Nat} (hl : l < 288) {off : Nat} (h : ¬ laneReg off) : (s.laneOff l).reg off = s.reg off := by
  unfold State.laneOff
  split
  · rfl
  · rw [State.modLane_reg, State.laneTo_reg _ hl _ h]

/-- One link of a fall of all links. -/
def State.oneLinkDown (cause : Nat) (before : List Cell) (t : State) (n : Nat) : State :=
  let x := t.link n
  if x.state = .disabled then t
  else
    let cells := if x.state = .up then before ++ t.downCells n (if cause = 6 then 6 else 5) else []
    let t1 := t.setLink n { x with state := .down, width := 0, downCause := BitVec.ofNat 3 cause, downAt := some t.clk.count
                                   txq := [], pool := [], held := [], replay := [], floods := [], passed := [], ctl := cells }
    (List.range 9).foldl (fun u k => u.laneOff (9 * n + k)) t1

theorem State.allLinksDown_eq (s : State) (cause : Nat) (before : List Cell) :
    s.allLinksDown cause before = (List.range 32).foldl (State.oneLinkDown cause before) s := rfl

theorem State.oneLinkDown_reg (cause : Nat) (before : List Cell) (t : State) {n : Nat} (hn : n < 32) {off : Nat} (h : ¬ laneReg off) :
    (State.oneLinkDown cause before t n).reg off = t.reg off := by
  unfold State.oneLinkDown
  dsimp only
  split
  · rfl
  · rw [foldl_keeps_mem (fun u => u.reg off) (List.range 9)
      fun u k hk => State.laneOff_reg u (l := 9 * n + k) (by have := List.mem_range.mp hk; omega) h]
    exact State.setLink_reg ..

theorem State.laneOff_links (s : State) (l : Nat) : (s.laneOff l).links = s.links := State.agree_of_allBut .links (by simp)

/-- What a fall makes of a link: a DISABLED one stays, any other is DOWN with the cause. -/
theorem State.oneLinkDown_link (cause : Nat) (before : List Cell) (t : State) (n k : Nat) :
    (k ≠ n ∨ (t.link n).state = .disabled → (State.oneLinkDown cause before t n).link k = t.link k) ∧
    ((t.link n).state ≠ .disabled → ((State.oneLinkDown cause before t n).link n).state = .down ∧
      ((State.oneLinkDown cause before t n).link n).downCause = BitVec.ofNat 3 cause) := by
  have hlanes (u : State) : ((List.range 9).foldl (fun u k => u.laneOff (9 * n + k)) u).links = u.links :=
    foldl_keeps State.links (fun u k => u.laneOff_links _) _ _
  unfold State.oneLinkDown
  dsimp only
  split
  · rename_i hd
    exact ⟨fun _ => rfl, fun h => absurd hd h⟩
  · rename_i hd
    simp only [State.link_congr (hlanes _), State.link_setLink]
    exact ⟨fun h => if_neg (h.resolve_right hd), fun _ => by simp⟩

theorem State.allLinksDown_reg (s : State) (cause : Nat) (before : List Cell) {off : Nat} (h : ¬ laneReg off) :
    (s.allLinksDown cause before).reg off = s.reg off := by
  rw [State.allLinksDown_eq]
  exact foldl_keeps_mem (fun u => u.reg off) _ (fun t n hn => State.oneLinkDown_reg cause before t (List.mem_range.mp hn) h) s

/-- After the first `m` links have fallen, each of them is DOWN with the cause or was DISABLED, and the others are as they were. -/
theorem State.linksDownTo_link (s : State) (cause : Nat) (before : List Cell) (m n : Nat) :
    (m ≤ n → (((List.range m).foldl (State.oneLinkDown cause before) s).link n) = s.link n) ∧
    (n < m → (s.link n).state = .disabled → (((List.range m).foldl (State.oneLinkDown cause before) s).link n) = s.link n) ∧
    (n < m → (s.link n).state ≠ .disabled → (((List.range m).foldl (State.oneLinkDown cause before) s).link n).state = .down ∧
      (((List.range m).foldl (State.oneLinkDown cause before) s).link n).downCause = BitVec.ofNat 3 cause) := by
  induction m with
  | zero => exact ⟨fun _ => rfl, fun h => absurd h (Nat.not_lt_zero n), fun h => absurd h (Nat.not_lt_zero n)⟩
  | succ m ih =>
    obtain ⟨ihAbove, ihDisabled, ihDown⟩ := ih
    rw [List.range_succ, List.foldl_append]
    simp only [List.foldl_cons, List.foldl_nil]
    have hlast := State.oneLinkDown_link cause before ((List.range m).foldl (State.oneLinkDown cause before) s) m n
    refine ⟨fun h => ?_, fun h hd => ?_, fun h hd => ?_⟩
    · rw [hlast.1 (.inl (by omega)), ihAbove (by omega)]
    · rcases Nat.lt_succ_iff_lt_or_eq.mp h with hlt | rfl
      · rw [hlast.1 (.inl (by omega)), ihDisabled hlt hd]
      · rw [hlast.1 (.inr (by rw [ihAbove (Nat.le_refl n)]; exact hd)), ihAbove (Nat.le_refl n)]
    · rcases Nat.lt_succ_iff_lt_or_eq.mp h with hlt | rfl
      · rw [hlast.1 (.inl (by omega))]
        exact ihDown hlt hd
      · exact hlast.2 (by rw [ihAbove (Nat.le_refl n)]; exact hd)

theorem State.allLinksDown_link_down (s : State) (cause : Nat) (before : List Cell) {n : Nat} (hn : n < 32) (h : (s.link n).state ≠ .disabled) :
    ((s.allLinksDown cause before).link n).state = .down ∧ ((s.allLinksDown cause before).link n).downCause = BitVec.ofNat 3 cause :=
  (s.linksDownTo_link cause before 32 n).2.2 hn h

theorem State.allLinksDown_link_disabled (s : State) (cause : Nat) (before : List Cell) {n : Nat} (hn : n < 32) (h : (s.link n).state = .disabled) :
    (s.allLinksDown cause before).link n = s.link n :=
  (s.linksDownTo_link cause before 32 n).2.1 hn h

@[simp] theorem State.allLinksDown_kpr (s : State) (cause : Nat) (before : List Cell) : (s.allLinksDown cause before).kpr = s.kpr :=
  State.agree_of_allBut .kpr (by simp)

/-! ## Events -/

@[simp] theorem State.event_ring (s : State) (w k : Nat) : (s.event w k).kpr.ring = s.kpr.ring := by
  simp [State.event]

@[simp] theorem State.events_links (s : State) (ws : List Nat) (k : Nat) : (s.events ws k).links = s.links := State.agree_of_allBut .links (by simp)
@[simp] theorem State.events_plt (s : State) (ws : List Nat) (k : Nat) : (s.events ws k).plt = s.plt := State.agree_of_allBut .plt (by simp)

/-- The events that are set are all that changes in the Keeper. -/
theorem State.events_kpr (s : State) (ws : List Nat) (k : Nat) : (s.events ws k).kpr = { s.kpr with eventAt := (s.events ws k).kpr.eventAt } := by
  refine List.foldlRecOn (motive := fun t : State => t.kpr = { s.kpr with eventAt := t.kpr.eventAt }) ws _ rfl fun t ht w _ => ?_
  have hevent : (t.event w k).kpr = { t.kpr with eventAt := (t.event w k).kpr.eventAt } := by simp [State.event]
  rw [hevent]
  conv_lhs => rw [ht]

theorem State.event_reg (s : State) (w k : Nat) {off : Nat} (h : off ≠ R.win w + R.hwEvent) : (s.event w k).reg off = s.reg off := by
  have hregs : (s.event w k).regs = (s.setFld (R.win w + R.hwEvent) k 1 1).regs := by simp only [State.event]
  rw [State.reg_congr hregs, State.reg_setFld_ne s _ _ _ h]

theorem State.events_reg (s : State) (ws : List Nat) (k : Nat) {off : Nat} (h : ∀ w ∈ ws, off ≠ R.win w + R.hwEvent) :
    (s.events ws k).reg off = s.reg off :=
  foldl_keeps_mem (fun t => t.reg off) ws (fun t w hw => t.event_reg w k (h w hw)) s

/-! ## The record of a fault -/

/-- The registers of lanes and the windows' event registers: all that a recorded fault may touch besides its own record's. -/
def farReg (off : Nat) : Prop := laneReg off ∨ ∃ w, w < 16 ∧ off = R.win w + R.hwEvent

theorem not_farReg_of_lt {off : Nat} (h : off < 0x400000) : ¬ farReg off := by
  rintro (⟨h1, -⟩ | ⟨w, -, rfl⟩)
  · omega
  · unfold R.win at h
    omega

theorem State.events_reg_of_near (s : State) {ws : List Nat} (hws : ∀ w ∈ ws, w < 16) (k : Nat) {off : Nat} (h : ¬ farReg off) :
    (s.events ws k).reg off = s.reg off :=
  s.events_reg ws k fun w hw he => h (.inr ⟨w, hws w hw, he⟩)

theorem State.failStop_reg (s : State) (r : BitVec 256) {off : Nat} (h : ¬ farReg off) : (s.failStop r).reg off = s.reg off := by
  obtain ⟨cells, hregs⟩ : ∃ cells, (s.failStop r).regs = ((s.events (List.range 16) 1).allLinksDown 6 cells).regs := by
    simp only [State.failStop]
    exact ⟨_, rfl⟩
  rw [State.reg_congr hregs, State.allLinksDown_reg _ 6 _ fun hl => h (.inl hl), s.events_reg_of_near (fun w hw => List.mem_range.mp hw) 1 h]

/-- The record is logged, its bit is set and SEQ advances. -/
def State.markFault (s : State) (code unit count detail : Nat) : State :=
  let s1 := s.logRecord (s.faultRecord code unit count detail)
  let s2 : State := { s1 with kpr := { s1.kpr with activeAt := tabInsert s1.kpr.activeAt code s1.clk.count } }
  (s2.setReg R.faultSeq (s2.reg R.faultSeq + 1)).setArrayBit R.faultActive code true

/-- The event of a code whose policy raises one. -/
def State.faultEvent (s : State) (code : Nat) : State := if s.irq code then s.events s.fmWindows 0 else s

/-- What follows from a recorded fault: the event, and fail-stop or the reports to other nodes. -/
def State.followFault (s : State) (code : Nat) (r : BitVec 256) : State :=
  let s3 := s.faultEvent code
  if s3.classOf code = 2 then
    if s3.kpr.power = .failStop then s3 else s3.failStop r
  else if s3.reported code then
    s3.reportNodes.foldl (fun t d => t.injectCell (t.mkCell 0x33 d 0 0 (recordPayload r t.nodeId))) s3
  else s3

theorem State.recordFault_eq (s : State) (code unit count detail : Nat) :
    s.recordFault code unit count detail = (s.markFault code unit count detail).followFault code (s.faultRecord code unit count detail) := rfl

theorem State.logRecord_ring (s : State) (r : BitVec 256) :
    tabFind (s.logRecord r).kpr.ring (s.kpr.ringNext % 512) = some { record := r, seen := false } ∧
      (s.logRecord r).kpr.ringNext = s.kpr.ringNext + 1 := by
  unfold State.logRecord
  dsimp only
  split
  · split <;> simp
  · simp

theorem State.logRecord_reg (s : State) (r : BitVec 256) {off : Nat} (h : off ≠ R.faultLost) : (s.logRecord r).reg off = s.reg off := by
  unfold State.logRecord
  dsimp only
  split
  · split
    · rfl
    · exact State.reg_bump_ne s h
  · rfl

theorem State.logRecord_kpr (s : State) (r : BitVec 256) :
    (s.logRecord r).kpr = { s.kpr with ring := (s.logRecord r).kpr.ring, ringNext := (s.logRecord r).kpr.ringNext } := by
  unfold State.logRecord
  dsimp only
  split
  · split <;> simp
  · rfl

theorem State.markFault_reg (s : State) (code unit count detail : Nat) {off : Nat} (hlost : off ≠ R.faultLost) (hseq : off ≠ R.faultSeq)
    (hact : off ≠ R.faultActive + 4 * (code / 32)) : (s.markFault code unit count detail).reg off = s.reg off := by
  unfold State.markFault
  dsimp only
  rw [State.reg_setArrayBit_ne _ _ hact, State.reg_setReg_ne _ _ hseq]
  exact s.logRecord_reg (s.faultRecord code unit count detail) hlost

theorem State.markFault_logged (s : State) (code unit count detail : Nat) :
    s.logged (s.markFault code unit count detail) code unit count detail := by
  have hring := s.logRecord_ring (s.faultRecord code unit count detail)
  refine ⟨hring.1, hring.2, State.arrayBit_setArrayBit_self .., ?_⟩
  have hne : R.faultSeq ≠ R.faultActive + 4 * (code / 32) := by simp only [R.faultSeq, R.faultActive]; omega
  unfold State.markFault
  dsimp only
  rw [State.reg_setArrayBit_ne _ _ hne, State.reg_setReg_self]
  exact congrArg (· + 1) (s.logRecord_reg (s.faultRecord code unit count detail) (by decide))

theorem State.faultEvent_reg (s : State) (code : Nat) {off : Nat} (h : ¬ farReg off) :
    (s.faultEvent code).reg off = s.reg off := by
  unfold State.faultEvent
  split
  · exact s.events_reg_of_near (fun w hw => List.mem_range.mp (List.mem_filter.mp hw).1) 0 h
  · rfl

theorem State.faultEvent_kpr (s : State) (code : Nat) :
    (s.faultEvent code).kpr =
      { s.kpr with eventAt := (s.faultEvent code).kpr.eventAt } := by
  unfold State.faultEvent
  split
  · exact s.events_kpr _ _
  · rfl

theorem State.followFault_reg (s : State) (code : Nat) (r : BitVec 256) {off : Nat} (h : ¬ farReg off) : (s.followFault code r).reg off = s.reg off := by
  have hevent := s.faultEvent_reg code h
  unfold State.followFault
  dsimp only
  split
  · split
    · exact hevent
    · rw [State.failStop_reg _ _ h, hevent]
  · split
    · rw [foldl_keeps (fun t : State => t.reg off) (f := fun t d => t.injectCell (t.mkCell 0x33 d 0 0 (recordPayload r t.nodeId))) fun t d => t.injectCell_reg _ off]
      exact hevent
    · exact hevent

theorem State.failStop_ring (s : State) (r : BitVec 256) :
    (s.failStop r).kpr.ring = s.kpr.ring ∧ (s.failStop r).kpr.ringNext = s.kpr.ringNext := by
  have hkpr := s.events_kpr (List.range 16) 1
  constructor <;> simp only [State.failStop, State.allLinksDown_kpr] <;> rw [hkpr]

theorem State.injectCells_kpr (s : State) (f : State → Nat → Cell) (ds : List Nat) : (ds.foldl (fun t d => t.injectCell (f t d)) s).kpr = s.kpr :=
  foldl_keeps State.kpr (fun t d => t.injectCell_kpr (f t d)) ds s

theorem State.followFault_ring (s : State) (code : Nat) (r : BitVec 256) :
    (s.followFault code r).kpr.ring = s.kpr.ring ∧ (s.followFault code r).kpr.ringNext = s.kpr.ringNext := by
  have hevent := s.faultEvent_kpr code
  have hring : (s.faultEvent code).kpr.ring = s.kpr.ring := by rw [hevent]
  have hnext : (s.faultEvent code).kpr.ringNext = s.kpr.ringNext := by rw [hevent]
  unfold State.followFault
  dsimp only
  split
  · split
    · exact ⟨hring, hnext⟩
    · have hstop := State.failStop_ring (s.faultEvent code) r
      exact ⟨hstop.1.trans hring, hstop.2.trans hnext⟩
  · split
    · rw [State.injectCells_kpr]
      exact ⟨hring, hnext⟩
    · exact ⟨hring, hnext⟩

/-- The registers that a recorded fault may change (Table 18-7), besides those of lanes and events. -/
theorem State.recordFault_reg (s : State) {code : Nat} (unit count detail : Nat) {off : Nat} (hfar : ¬ farReg off) (hlost : off ≠ R.faultLost)
    (hseq : off ≠ R.faultSeq) (hact : off ≠ R.faultActive + 4 * (code / 32)) : (s.recordFault code unit count detail).reg off = s.reg off := by
  rw [State.recordFault_eq, State.followFault_reg _ _ _ hfar, State.markFault_reg _ _ _ _ _ hlost hseq hact]

theorem State.recordFault_logged (s : State) {code : Nat} (hcode : code < 128) (unit count detail : Nat) :
    s.logged (s.recordFault code unit count detail) code unit count detail := by
  obtain ⟨hring, hnext, hact, hseq⟩ := s.markFault_logged code unit count detail
  have hfollow := (s.markFault code unit count detail).followFault_ring code (s.faultRecord code unit count detail)
  have hreg {off : Nat} (h : off < 0x400000) := State.followFault_reg (s.markFault code unit count detail) code
    (s.faultRecord code unit count detail) (not_farReg_of_lt h)
  rw [State.recordFault_eq]
  refine ⟨hfollow.1 ▸ hring, hfollow.2.trans hnext, ?_, (hreg (by decide)).trans hseq⟩
  exact (State.arrayBit_of_reg (hreg (by simp only [R.faultActive]; omega))).trans hact

/-- A fault of no source, or of a source whose pair is whole, is recorded. -/
theorem State.raiseFault_eq {s : State} {code unit : Nat} (h : ∀ k, sourceOf code unit = some k → s.arrayBit R.railState k = false)
    (count detail : Nat) : s.raiseFault code unit count detail = s.recordFault code unit count detail := by
  unfold State.raiseFault
  split
  · rename_i k hk
    simp [h k hk]
  · rfl

theorem State.raiseFault_reg (s : State) {code : Nat} (unit count detail : Nat) {off : Nat} (hfar : ¬ farReg off) (hlost : off ≠ R.faultLost)
    (hseq : off ≠ R.faultSeq) (hact : off ≠ R.faultActive + 4 * (code / 32)) : (s.raiseFault code unit count detail).reg off = s.reg off := by
  unfold State.raiseFault
  split
  · split
    · rfl
    · exact s.recordFault_reg unit count detail hfar hlost hseq hact
  · exact s.recordFault_reg unit count detail hfar hlost hseq hact

/-! ## Fail-stop -/

theorem State.markFault_plt (s : State) (code unit count detail : Nat) : (s.markFault code unit count detail).plt = s.plt :=
  (State.agree_of_allBut .plt (by simp) : (s.logRecord (s.faultRecord code unit count detail)).plt = s.plt)

theorem State.markFault_links (s : State) (code unit count detail : Nat) : (s.markFault code unit count detail).links = s.links :=
  (State.agree_of_allBut .links (by simp) : (s.logRecord (s.faultRecord code unit count detail)).links = s.links)

theorem State.markFault_power (s : State) (code unit count detail : Nat) : (s.markFault code unit count detail).kpr.power = s.kpr.power := by
  simp only [State.markFault, State.setArrayBit_kpr, State.setReg_kpr]
  rw [State.logRecord_kpr]

theorem State.faultEvent_power (s : State) (code : Nat) : (s.faultEvent code).kpr.power = s.kpr.power := by
  rw [s.faultEvent_kpr code]

theorem State.faultEvent_plt (s : State) (code : Nat) : (s.faultEvent code).plt = s.plt := by
  unfold State.faultEvent
  split
  · exact State.events_plt ..
  · rfl

theorem State.faultEvent_links (s : State) (code : Nat) : (s.faultEvent code).links = s.links := by
  unfold State.faultEvent
  split
  · exact State.events_links ..
  · rfl

theorem State.followFault_fatal {s : State} {code : Nat} (hclass : s.classOf code = 2) (hpower : s.kpr.power ≠ .failStop) (r : BitVec 256) :
    s.followFault code r = (s.faultEvent code).failStop r := by
  unfold State.followFault
  dsimp only
  rw [if_pos ((State.classOf_congr (s.faultEvent_plt code) code).trans hclass), if_neg (by rwa [s.faultEvent_power code])]

theorem State.followFault_power_of_notFatal {s : State} {code : Nat} (hclass : s.classOf code ≠ 2) (r : BitVec 256) :
    (s.followFault code r).kpr.power = s.kpr.power := by
  unfold State.followFault
  dsimp only
  rw [if_neg (by rwa [State.classOf_congr (s.faultEvent_plt code) code])]
  split
  · rw [State.injectCells_kpr, s.faultEvent_power code]
  · exact s.faultEvent_power code

/-- Fail-stop erases the keys and takes every link that is not DISABLED down with cause FATAL (R479). -/
theorem State.failStop_stops (s : State) (r : BitVec 256) : (s.failStop r).kpr.power = .failStop ∧ (s.failStop r).sec.slots = [] ∧
    ∀ n, n < 32 → (s.link n).state ≠ .disabled → ((s.failStop r).link n).state = .down ∧ ((s.failStop r).link n).downCause = 6 := by
  obtain ⟨cells, hlinks⟩ : ∃ cells, (s.failStop r).links = ((s.events (List.range 16) 1).allLinksDown 6 cells).links := by
    simp only [State.failStop]
    exact ⟨_, rfl⟩
  refine ⟨by simp only [State.failStop], by simp only [State.failStop], fun n hn hlink => ?_⟩
  rw [State.link_congr hlinks]
  exact State.allLinksDown_link_down _ 6 cells hn (by rwa [State.link_congr (State.events_links ..)])

theorem State.recordFault_fatal {s : State} {code : Nat} (hclass : s.classOf code = 2) (hpower : s.kpr.power ≠ .failStop) (unit count detail : Nat) :
    (s.recordFault code unit count detail).kpr.power = .failStop ∧ (s.recordFault code unit count detail).sec.slots = [] ∧
      ∀ n, n < 32 → (s.link n).state ≠ .disabled → ((s.recordFault code unit count detail).link n).state = .down ∧
        ((s.recordFault code unit count detail).link n).downCause = 6 := by
  rw [State.recordFault_eq, State.followFault_fatal ((State.classOf_congr (s.markFault_plt code unit count detail) code).trans hclass)
    (by rwa [s.markFault_power])]
  obtain ⟨hstop, hslots, hlinks⟩ := State.failStop_stops ((s.markFault code unit count detail).faultEvent code) (s.faultRecord code unit count detail)
  refine ⟨hstop, hslots, fun n hn hlink => hlinks n hn ?_⟩
  rwa [State.link_congr (State.faultEvent_links ..), State.link_congr (s.markFault_links ..)]

theorem State.recordFault_power_of_notFatal {s : State} {code : Nat} (hclass : s.classOf code ≠ 2) (unit count detail : Nat) :
    (s.recordFault code unit count detail).kpr.power = s.kpr.power := by
  rw [State.recordFault_eq, State.followFault_power_of_notFatal (by rwa [State.classOf_congr (s.markFault_plt ..)]), s.markFault_power]

/-- Settles O13: the record is that of the recorded fault, and what follows keeps it. -/
theorem raisedFaultIsRecorded : Obligations.RaisedFaultIsRecorded := by
  intro s code unit count detail hcode hwhole
  rw [State.raiseFault_eq hwhole]
  exact ⟨s.recordFault_logged hcode unit count detail, fun hclass hpower => State.recordFault_fatal hclass hpower unit count detail,
    fun hclass => State.recordFault_power_of_notFatal hclass unit count detail⟩

end Sys2Proof.Machine
end

section
/-! The commands of the fault sources and of the Keeper's inputs (R469 to R475, R515, R516, R541, R546). -/

namespace Sys2Proof.Machine

/-! ## Rules of registers -/

theorem bit_eq_getLsbD {n : Nat} (x : BitVec n) (k : Nat) : bit x k = x.getLsbD k := by
  simp only [bit, bits, pow_one, BitVec.getLsbD, Nat.testBit_eq_decide_div_mod_eq]
  rfl

theorem State.arrayBit_setArrayBit_other (s : State) {base base2 k j : Nat} (b : Bool) (h : base2 + 4 * (j / 32) ≠ base + 4 * (k / 32)) :
    (s.setArrayBit base k b).arrayBit base2 j = s.arrayBit base2 j :=
  State.arrayBit_of_reg (State.reg_setArrayBit_ne s b h)

theorem State.toNat_reg_bump_self (s : State) (off : Nat) : ((s.bump off).reg off).toNat = min ((s.reg off).toNat + 1) 0xFFFFFFFF := by
  simp only [State.bump, State.reg_bumpBy_self, BitVec.toNat_ofNat]
  exact Nat.mod_eq_of_lt (by omega)

/-! ## Fault sources -/

theorem sourceCode_lt {src code : Nat} {u : Option Nat} (h : sourceCode src = some (code, u)) : code < 128 := by
  unfold sourceCode at h
  dsimp only at h
  split_ifs at h <;> simp only [Option.some.injEq, Prod.mk.injEq] at h <;> omega

theorem sourceOf_lt {code unit k : Nat} (hcode : code < 128) (h : sourceOf code unit = some k) : k < 2048 := by
  unfold sourceOf at h
  split_ifs at h <;> simp only [Option.some.injEq] at h <;> omega

/-- A source of the accumulator store has no unit of its own. -/
theorem sourceCode_store {src code : Nat} {u : Option Nat} (h : sourceCode src = some (code, u)) (hcode : code = 50) : u = none := by
  unfold sourceCode at h
  dsimp only at h
  split_ifs at h <;> simp only [Option.some.injEq, Prod.mk.injEq] at h <;> first | exact h.2.symm | omega

/-- Every pair is whole for a code's own source. -/
theorem State.railsWhole_source {s : State} (h : s.railsWhole) {code unit : Nat} (hcode : code < 128) :
    ∀ k, sourceOf code unit = some k → s.arrayBit R.railState k = false :=
  fun k hk => h k (sourceOf_lt hcode hk)

theorem State.railsWhole_of_regs {s t : State} (h : s.railsWhole) (hreg : ∀ k, k < 2048 → t.reg (R.railState + 4 * (k / 32)) = s.reg (R.railState + 4 * (k / 32))) :
    t.railsWhole :=
  fun k hk => (State.arrayBit_of_reg (hreg k hk)).trans (h k hk)

theorem State.raiseFault_logged {s : State} (h : s.railsWhole) {code : Nat} (hcode : code < 128) (unit count detail : Nat) :
    s.logged (s.raiseFault code unit count detail) code unit count detail := by
  rw [State.raiseFault_eq (s.railsWhole_source h hcode)]
  exact s.recordFault_logged hcode unit count detail

/-- A register of the Keeper that no fault record touches. -/
theorem State.raiseFault_reg_near (s : State) {code off : Nat} (hcode : code < 128) (hoff : 0x250 ≤ off ∧ off < 0x400000) (unit count detail : Nat) :
    (s.raiseFault code unit count detail).reg off = s.reg off := by
  refine s.raiseFault_reg unit count detail (not_farReg_of_lt hoff.2) ?_ ?_ ?_ <;>
    simp only [R.faultLost, R.faultSeq, R.faultActive] <;> omega

theorem State.raiseFault_arrayBit_srcAssert (s : State) {code src : Nat} (hcode : code < 128) (hsrc : src < 2048) (unit count detail : Nat) :
    (s.raiseFault code unit count detail).arrayBit R.srcAssert src = s.arrayBit R.srcAssert src := by
  refine State.arrayBit_of_reg (s.raiseFault_reg_near hcode ?_ unit count detail)
  unfold R.srcAssert
  omega

/-! ### Broken pairs -/

/-- RAIL_LAST names the source, and the fault of a broken pair is active: it has no source of its own (R471). -/
theorem State.railBreak_reports (s : State) {src : Nat} :
    (s.railBreak src).reg R.railLast = BitVec.ofNat 32 src ∧ (s.railBreak src).arrayBit R.faultActive 1 = true := by
  have hnone : sourceOf 1 src = none := by simp [sourceOf]
  unfold State.railBreak
  rw [State.raiseFault_eq (by simp [hnone])]
  have hlogged := State.recordFault_logged ((s.bump R.railBreaks).setReg R.railLast (BitVec.ofNat 32 src)) (code := 1) (by decide) src 1 src
  refine ⟨?_, hlogged.2.2.1⟩
  rw [State.recordFault_reg _ _ _ _ (not_farReg_of_lt (by decide)) (by decide) (by decide) (by decide), State.reg_setReg_self]

theorem State.railBreak_arrayBit (s : State) (src : Nat) {base k : Nat} (h : 0x258 ≤ base + 4 * (k / 32) ∧ base + 4 * (k / 32) < 0x400000) :
    (s.railBreak src).arrayBit base k = s.arrayBit base k := by
  refine State.arrayBit_of_reg ?_
  unfold State.railBreak
  rw [State.raiseFault_reg_near _ (by decide) (by omega), State.reg_setReg_ne _ _ (by unfold R.railLast; omega),
    State.reg_bump_ne _ (by unfold R.railBreaks; omega)]

/-- A pair that breaks stands in for its source and names it; one that is broken is broken already. -/
theorem State.pairBroken_breaks (s : State) {src : Nat} (hsrc : src < 2048) :
    (s.pairBroken src).arrayBit R.railState src = true ∧
      (s.arrayBit R.railState src = true → s.pairBroken src = s) ∧
      (s.arrayBit R.railState src = false → (s.pairBroken src).arrayBit R.srcAssert src = false ∧
        (s.pairBroken src).reg R.railLast = BitVec.ofNat 32 src ∧ (s.pairBroken src).arrayBit R.faultActive 1 = true) := by
  have hbase : R.railState + 4 * (src / 32) ≠ R.srcAssert + 4 * (src / 32) := by unfold R.railState R.srcAssert; omega
  by_cases hbroken : s.arrayBit R.railState src = true
  · have heq : s.pairBroken src = s := by simp [State.pairBroken, hbroken]
    rw [heq]
    exact ⟨hbroken, fun _ => rfl, fun h => by simp [hbroken] at h⟩
  · have heq : s.pairBroken src = ((s.setArrayBit R.railState src true).setArrayBit R.srcAssert src false).railBreak src := by
      simp [State.pairBroken, hbroken]
    rw [heq]
    refine ⟨?_, fun h => absurd h hbroken, fun _ => ⟨?_, (State.railBreak_reports _).1, (State.railBreak_reports _).2⟩⟩
    · rw [State.railBreak_arrayBit _ _ (by unfold R.railState; omega), State.arrayBit_setArrayBit_other _ _ hbase, State.arrayBit_setArrayBit_self]
    · rw [State.railBreak_arrayBit _ _ (by unfold R.srcAssert; omega), State.arrayBit_setArrayBit_self]

/-! ### Samples -/

theorem State.pairReads_reg_ne (s : State) {src off : Nat} (h : off ≠ R.railState + 4 * (src / 32)) : (s.pairReads src).reg off = s.reg off :=
  State.reg_setArrayBit_ne _ _ h

theorem State.pairReads_railsWhole {s : State} (h : s.railsWhole) {src : Nat} : (s.pairReads src).railsWhole := by
  intro k hk
  by_cases hks : k = src
  · subst hks
    exact State.arrayBit_setArrayBit_self ..
  · exact (State.arrayBit_setArrayBit_ne _ _ _ _ _ hks).trans (h k hk)

/-- The state of a source that has just been seen to assert. -/
def State.assertedState (s : State) (src : Nat) : State := (s.pairReads src).setArrayBit R.srcAssert src true

theorem State.assertedState_reg_ne (s : State) {src off : Nat} (hr : off ≠ R.railState + 4 * (src / 32)) (ha : off ≠ R.srcAssert + 4 * (src / 32)) :
    (s.assertedState src).reg off = s.reg off := by
  rw [State.assertedState, State.reg_setArrayBit_ne _ _ ha, State.pairReads_reg_ne _ hr]

theorem State.assertedState_railsWhole {s : State} (h : s.railsWhole) {src : Nat} (hsrc : src < 2048) : (s.assertedState src).railsWhole :=
  State.railsWhole_of_regs (State.pairReads_railsWhole h) fun k hk =>
    State.reg_setArrayBit_ne _ _ (by unfold R.railState R.srcAssert; omega)

@[simp] theorem State.assertedState_ringNext (s : State) (src : Nat) : (s.assertedState src).kpr.ringNext = s.kpr.ringNext := by
  simp [State.assertedState, State.pairReads]

theorem execFaultSourceAssert_first {src : Fin 2048} {code : Nat} {u : Option Nat} {s : State} (hsrc : sourceCode src = some (code, u))
    (h : s.arrayBit R.srcAssert src = false) (unit : BitVec 16) (d : Word) :
    execFaultSourceAssert src true false unit d s = .next ((s.assertedState src).sourceRecord code (u.getD unit.toNat) d.toNat) := by
  simp [execFaultSourceAssert, hsrc, h, State.assertedState]

theorem execFaultSourceAssert_again {src : Fin 2048} {code : Nat} {u : Option Nat} {s : State} (hsrc : sourceCode src = some (code, u))
    (h : s.arrayBit R.srcAssert src = true) (unit : BitVec 16) (d : Word) :
    execFaultSourceAssert src true false unit d s = .next (s.assertedState src) := by
  simp [execFaultSourceAssert, hsrc, h, State.assertedState]

theorem execFaultSourceAssert_quiet {src : Fin 2048} {code : Nat} {u : Option Nat} {s : State} (hsrc : sourceCode src = some (code, u))
    (unit : BitVec 16) (d : Word) :
    execFaultSourceAssert src false true unit d s = .next ((s.pairReads src).setArrayBit R.srcAssert src false) := by
  simp [execFaultSourceAssert, hsrc]

theorem execFaultSourceAssert_equal {src : Fin 2048} {code : Nat} {u : Option Nat} {s : State} (hsrc : sourceCode src = some (code, u))
    (b : Bool) (unit : BitVec 16) (d : Word) : execFaultSourceAssert src b b unit d s = .next (s.equalReading src) := by
  simp [execFaultSourceAssert, hsrc]

/-- A source that is no store error's raises its code, whose record leaves the assertion. -/
theorem State.sourceRecord_plain {s : State} (h : s.railsWhole) {code src : Nat} (hcode : code < 128) (hsrc : src < 2048) (h49 : code ≠ 49)
    (h50 : code ≠ 50) (unit d : Nat) : (s.sourceRecord code unit d).arrayBit R.srcAssert src = s.arrayBit R.srcAssert src ∧
      s.logged (s.sourceRecord code unit d) code unit 1 d := by
  simp only [State.sourceRecord, State.storeError, h49, h50, if_false]
  exact ⟨s.raiseFault_arrayBit_srcAssert hcode hsrc unit 1 d, State.raiseFault_logged h hcode unit 1 d⟩

theorem State.raiseKeyed_reg (s : State) (key : Nat) {code off : Nat} (hfar : ¬ farReg off) (hlost : off ≠ R.faultLost) (hseq : off ≠ R.faultSeq)
    (hact : off ≠ R.faultActive + 4 * (code / 32)) (unit d : Nat) : (s.raiseKeyed key code unit d).reg off = s.reg off := by
  unfold State.raiseKeyed
  dsimp only
  split
  · split
    · rfl
    · exact State.raiseFault_reg _ unit 1 d hfar hlost hseq hact
  · exact State.raiseFault_reg _ unit 1 d hfar hlost hseq hact

theorem not_farReg_eruCount {k : Nat} (hk : k < 8) : ¬ farReg (R.eruCount k) := by
  rintro (⟨-, h⟩ | ⟨w, hw, h⟩) <;> simp only [R.eruCount, R.win, R.hwEvent] at h <;> omega

/-- A corrected store error counts, whether its millisecond lets it raise a record or not (R359, R360). -/
theorem State.sourceRecord_corrected (s : State) {src : Nat} (hsrc : src < 2048) (unit d : Nat) :
    (s.sourceRecord 49 unit d).arrayBit R.srcAssert src = s.arrayBit R.srcAssert src ∧
      ((s.sourceRecord 49 unit d).reg (R.eruCount 4)).toNat = min ((s.reg (R.eruCount 4)).toNat + 1) 0xFFFFFFFF := by
  have heq : s.sourceRecord 49 unit d = (s.bump (R.eruCount 4)).raiseKeyed (49 * 65536) 49 unit d := by
    simp [State.sourceRecord, State.storeError]
  rw [heq]
  constructor
  · refine State.arrayBit_of_reg ((?_ : _ = (s.bump (R.eruCount 4)).reg _).trans (State.reg_bump_ne s ?_))
    · refine State.raiseKeyed_reg _ _ (not_farReg_of_lt ?_) ?_ ?_ ?_ unit d <;>
        simp only [R.srcAssert, R.faultLost, R.faultSeq, R.faultActive] <;> omega
    · simp only [R.srcAssert, R.eruCount]; omega
  · rw [State.raiseKeyed_reg _ _ (not_farReg_eruCount (by decide)) (by decide) (by decide) (by decide), State.toNat_reg_bump_self]

theorem mem_addOnce (l : List Nat) (x : Nat) : x ∈ addOnce l x := by
  unfold addOnce
  split
  · rename_i h
    exact List.contains_iff_mem.mp h
  · simp

/-- An error of an exact cell counts, is raised, and poisons the cell that DETAIL names (R359). -/
theorem State.sourceRecord_cell {s : State} (h : s.railsWhole) {src : Nat} (hsrc : src < 2048) (d : Nat) :
    (s.sourceRecord 50 0xFFFF d).arrayBit R.srcAssert src = s.arrayBit R.srcAssert src ∧
      (s.sourceRecord 50 0xFFFF d).arrayBit R.faultActive 50 = true ∧
      ((s.sourceRecord 50 0xFFFF d).reg (R.eruCount 5)).toNat = min ((s.reg (R.eruCount 5)).toNat + 1) 0xFFFFFFFF ∧
      (d < 64 * s.cellBlocks → d ∈ (s.sourceRecord 50 0xFFFF d).eru.badCells) := by
  obtain ⟨t, heq, hregs, hbad⟩ : ∃ t : State, s.sourceRecord 50 0xFFFF d = t.raiseFault 50 0xFFFF 1 d ∧ t.regs = (s.bump (R.eruCount 5)).regs ∧
      (d < 64 * s.cellBlocks → d ∈ t.eru.badCells) := by
    by_cases hd : d < 64 * s.cellBlocks
    · refine ⟨(s.bump (R.eruCount 5)).setEru { (s.bump (R.eruCount 5)).eru with badCells := addOnce (s.bump (R.eruCount 5)).eru.badCells d }, ?_, rfl, ?_⟩
      · simp [State.sourceRecord, State.storeError, hd]
      · exact fun _ => mem_addOnce _ _
    · refine ⟨s.bump (R.eruCount 5), ?_, rfl, fun h => absurd h hd⟩
      simp [State.sourceRecord, State.storeError, hd]
  have hreg {off : Nat} (hoff : off ≠ R.eruCount 5) : t.reg off = s.reg off := (State.reg_congr hregs off).trans (State.reg_bump_ne s hoff)
  have hwhole : t.railsWhole := State.railsWhole_of_regs h fun k hk => hreg (by simp only [R.railState, R.eruCount]; omega)
  have heru : (t.raiseFault 50 0xFFFF 1 d).eru = t.eru := State.agree_of_allBut .eru (by simp)
  rw [heq, heru]
  refine ⟨?_, (State.raiseFault_logged hwhole (by decide) 0xFFFF 1 d).2.2.1, ?_, hbad⟩
  · rw [State.raiseFault_arrayBit_srcAssert _ (by decide) hsrc]
    exact State.arrayBit_of_reg (hreg (by simp only [R.srcAssert, R.eruCount]; omega))
  · rw [State.raiseFault_reg _ _ _ _ (not_farReg_eruCount (by decide)) (by decide) (by decide) (by decide), State.reg_congr hregs,
      State.toNat_reg_bump_self]

theorem State.cellBlocks_assertedState (s : State) {src : Nat} (hsrc : src < 2048) : (s.assertedState src).cellBlocks = s.cellBlocks := by
  refine State.fld_of_reg (s.assertedState_reg_ne ?_ ?_) 0 11 <;> simp only [R.eruCellCfg, R.railState, R.srcAssert] <;> omega

theorem State.reg_eruCount_assertedState (s : State) {src : Nat} (hsrc : src < 2048) (k : Nat) :
    (s.assertedState src).reg (R.eruCount k) = s.reg (R.eruCount k) := by
  refine s.assertedState_reg_ne ?_ ?_ <;> simp only [R.eruCount, R.railState, R.srcAssert] <;> omega

@[simp] theorem State.assertedState_srcAssert (s : State) (src : Nat) : (s.assertedState src).arrayBit R.srcAssert src = true :=
  State.arrayBit_setArrayBit_self ..

/-- The third equal reading in a row breaks the pair; the first two only end the assertion (R470). -/
theorem State.equalReading_reads (s : State) {src : Nat} (hsrc : src < 2048) : (s.equalReading src).arrayBit R.srcAssert src = false ∧
    (tabGet 0 s.kpr.equalRun src < 2 → (s.equalReading src).arrayBit R.railState src = s.arrayBit R.railState src ∧
      tabGet 0 (s.equalReading src).kpr.equalRun src = tabGet 0 s.kpr.equalRun src + 1) ∧
    (2 ≤ tabGet 0 s.kpr.equalRun src → (s.equalReading src).arrayBit R.railState src = true ∧
      (s.arrayBit R.railState src = false → (s.equalReading src).reg R.railLast = BitVec.ofNat 32 src ∧
        (s.equalReading src).arrayBit R.faultActive 1 = true)) := by
  let t : State := { s with kpr := { s.kpr with equalRun := tabSet 0 s.kpr.equalRun src (min (tabGet 0 s.kpr.equalRun src + 1) 3) } }
  let t1 : State := t.setArrayBit R.srcAssert src false
  have hbase : R.railState + 4 * (src / 32) ≠ R.srcAssert + 4 * (src / 32) := by unfold R.railState R.srcAssert; omega
  have hassert : t1.arrayBit R.srcAssert src = false := State.arrayBit_setArrayBit_self ..
  have hrail : t1.arrayBit R.railState src = s.arrayBit R.railState src := State.arrayBit_setArrayBit_other t false hbase
  by_cases hrun : tabGet 0 s.kpr.equalRun src < 2
  · have heq : s.equalReading src = t1 := by
      unfold State.equalReading
      exact if_pos (by omega)
    have hset : t1.kpr.equalRun = t.kpr.equalRun := by simp [t1]
    rw [heq]
    refine ⟨hassert, fun _ => ⟨hrail, ?_⟩, fun h => by omega⟩
    rw [hset]
    exact (tabGet_set_self ..).trans (by omega)
  · have heq : s.equalReading src = t1.pairBroken src := by
      unfold State.equalReading
      exact if_neg (by omega)
    obtain ⟨hbroken, hsame, hbreaks⟩ := t1.pairBroken_breaks hsrc
    rw [heq]
    refine ⟨?_, fun h => absurd h hrun, fun _ => ⟨hbroken, fun h => (hbreaks (hrail.trans h)).2⟩⟩
    cases hst : t1.arrayBit R.railState src with
    | true => rw [hsame hst]; exact hassert
    | false => exact (hbreaks hst).1

theorem execRailTest_due {src : Fin 2048} {x : Nat × Option Nat} {s : State} (hsource : sourceCode src = some x)
    (h : tabGet 0 s.kpr.tested src ≠ s.now / 1000000 + 1) (a b : BitVec 2) : execRailTest src a b s = .next
      (if a = 1 ∧ b = 1 then { s with kpr := { s.kpr with tested := tabInsert s.kpr.tested src (s.now / 1000000 + 1) } }
       else ({ s with kpr := { s.kpr with tested := tabInsert s.kpr.tested src (s.now / 1000000 + 1) } } : State).railBreak src) := by
  unfold execRailTest
  simp only [hsource]
  exact if_neg h

/-- Settles O14. -/
theorem faultSourcesAreSampled : Obligations.FaultSourcesAreSampled := by
  refine ⟨?first, ?again, ?quiet, ?equal, ?broken, ?test⟩
  case first =>
    intro src code u unit d s hsource hwhole hquiet
    have hw := State.assertedState_railsWhole hwhole src.isLt
    refine ⟨_, execFaultSourceAssert_first hsource hquiet unit d, fun h49 h50 => ?_, ?_, ?_⟩
    · obtain ⟨hassert, -, hnext, hactive, -⟩ :=
        State.sourceRecord_plain hw (sourceCode_lt hsource) src.isLt h49 h50 (u.getD unit.toNat) d.toNat
      exact ⟨hassert.trans (s.assertedState_srcAssert src), hactive, hnext.trans (by simp)⟩
    · rintro rfl
      obtain ⟨hassert, hcount⟩ := State.sourceRecord_corrected (s.assertedState src) src.isLt (u.getD unit.toNat) d.toNat
      rw [hassert, hcount, s.reg_eruCount_assertedState src.isLt]
      exact ⟨s.assertedState_srcAssert src, rfl⟩
    · rintro rfl rfl
      rw [sourceCode_store hsource rfl]
      obtain ⟨hassert, hactive, hcount, hbad⟩ := State.sourceRecord_cell hw src.isLt d.toNat
      rw [s.reg_eruCount_assertedState src.isLt] at hcount
      rw [s.cellBlocks_assertedState src.isLt] at hbad
      exact ⟨hassert.trans (s.assertedState_srcAssert src), hactive, hcount, hbad⟩
  case again =>
    intro src code u unit d s hsource hassert
    exact ⟨_, execFaultSourceAssert_again hsource hassert unit d, s.assertedState_srcAssert src, s.assertedState_ringNext src⟩
  case quiet =>
    intro src code u unit d s hsource
    refine ⟨_, execFaultSourceAssert_quiet hsource unit d, State.arrayBit_setArrayBit_self .., ?_, by simp [State.pairReads]⟩
    rw [State.arrayBit_setArrayBit_other _ _ (by unfold R.railState R.srcAssert; omega)]
    exact State.arrayBit_setArrayBit_self ..
  case equal =>
    intro src code u b unit d s hsource
    exact ⟨_, execFaultSourceAssert_equal hsource b unit d, s.equalReading_reads src.isLt⟩
  case broken =>
    intro src x s hsource
    have hexec : execRailBreak src s = .next (({ s with kpr := { s.kpr with equalRun := tabSet 0 s.kpr.equalRun src 3 } } : State).pairBroken src) := by
      simp [execRailBreak, hsource]
    obtain ⟨hbroken, hsame, hbreaks⟩ :=
      State.pairBroken_breaks { s with kpr := { s.kpr with equalRun := tabSet 0 s.kpr.equalRun src 3 } } src.isLt
    exact ⟨_, hexec, hbroken, fun h => by rw [hsame h], hbreaks⟩
  case test =>
    intro src x a b s hsource
    by_cases hdone : tabGet 0 s.kpr.tested src = s.now / 1000000 + 1
    · exact ⟨s, by simp [exec, execRailTest, hsource, hdone], fun _ => rfl, fun h => absurd hdone h⟩
    · refine ⟨_, execRailTest_due hsource hdone a b, fun h => absurd h hdone, fun _ => ⟨fun ha hb => ?_, fun h => ?_⟩⟩
      · rw [if_pos ⟨ha, hb⟩]
      · rw [if_neg h]
        exact State.railBreak_reports _

end Sys2Proof.Machine
end

section
/-! The Keeper's own inputs: power and clock warnings, temperature, throttle, sideband inputs and the clearing of fault bits (R9, R475, R515, R516,
R541, R546). -/

namespace Sys2Proof.Machine

/-! ## Warnings -/

/-- A fault of class FT leaves the node in fail-stop, whether it was there or not (R479). -/
theorem State.recordFault_failStop {s : State} {code : Nat} (hclass : s.classOf code = 2) (unit count detail : Nat) :
    (s.recordFault code unit count detail).kpr.power = .failStop := by
  by_cases hpower : s.kpr.power = .failStop
  · let t := s.markFault code unit count detail
    have hclass' : (t.faultEvent code).classOf code = 2 := by
      rw [State.classOf_congr (t.faultEvent_plt code), State.classOf_congr (s.markFault_plt ..)]
      exact hclass
    have hpower' : (t.faultEvent code).kpr.power = .failStop := by
      rw [t.faultEvent_power code, s.markFault_power]
      exact hpower
    have heq : t.followFault code (s.faultRecord code unit count detail) = t.faultEvent code := by
      unfold State.followFault
      dsimp only
      rw [if_pos hclass', if_pos hpower']
    rw [State.recordFault_eq, heq]
    exact hpower'
  · exact (State.recordFault_fatal hclass hpower unit count detail).1

theorem State.raiseFault_warns {s : State} (h : s.railsWhole) {code : Nat} (hcode : code < 128) (unit count detail : Nat) :
    s.logged (s.raiseFault code unit count detail) code unit count detail ∧
      (s.classOf code = 2 → (s.raiseFault code unit count detail).kpr.power = .failStop) := by
  rw [State.raiseFault_eq (s.railsWhole_source h hcode)]
  exact ⟨s.recordFault_logged hcode unit count detail, fun hclass => State.recordFault_failStop hclass unit count detail⟩

/-! ## Temperature -/

/-- The largest of the first readings is at the index that a search for it keeps. -/
theorem le_foldl_hottest (f : Nat → Int) (l : List Nat) (b : Nat) :
    f b ≤ f (l.foldl (fun b k => if f b < f k then k else b) b) ∧ ∀ k ∈ l, f k ≤ f (l.foldl (fun b k => if f b < f k then k else b) b) := by
  induction l generalizing b with
  | nil => simp
  | cons x t ih =>
    simp only [List.foldl_cons, List.mem_cons, forall_eq_or_imp]
    by_cases h : f b < f x
    · rw [if_pos h]
      exact ⟨h.le.trans (ih x).1, (ih x).1, (ih x).2⟩
    · rw [if_neg h]
      exact ⟨(ih b).1, (not_lt.mp h).trans (ih b).1, (ih b).2⟩

theorem State.tempOf_le_hottest (s : State) {k : Nat} (hk : k < 8) : s.tempOf k ≤ s.tempOf s.hottest :=
  (le_foldl_hottest s.tempOf (List.range 8) 0).2 k (List.mem_range.mpr hk)

theorem foldl_hottest_lt (f : Nat → Int) (l : List Nat) (b : Nat) (hb : b < 8) (hl : ∀ k ∈ l, k < 8) :
    l.foldl (fun b k => if f b < f k then k else b) b < 8 :=
  List.foldlRecOn (motive := fun b => b < 8) l _ hb fun b hb k hk => by
    split
    · exact hl k hk
    · exact hb

theorem State.hottest_lt (s : State) : s.hottest < 8 :=
  foldl_hottest_lt s.tempOf (List.range 8) 0 (by decide) fun _ hk => List.mem_range.mp hk

theorem signedBits_reading (x : BitVec 12) : signedBits (BitVec.ofNat 32 x.toNat) 0 12 = x.toInt := by
  have hx := x.isLt
  have hbits : bits (BitVec.ofNat 32 x.toNat) 0 12 = x.toNat := by
    simp only [bits, BitVec.toNat_ofNat]
    omega
  simp only [signedBits, hbits, BitVec.toInt_eq_toNat_cond]

/-- The state that keeps the eight readings. -/
def State.keepTemps (s : State) (temps : Vector (BitVec 12) 8) : State :=
  (List.range 8).foldl (fun t k => t.setReg (R.kprTemp + 4 * k) (BitVec.ofNat 32 (temps.toList.getD k 0).toNat))
    { s with kpr := { s.kpr with tempAt := s.now / 10000 + 1 } }

/-- A fold of writes to different registers leaves each with its own value. -/
theorem State.reg_foldl_setReg (l : List Nat) (at0 : Nat → Nat) (v : Nat → Word) (hinj : ∀ a b, at0 a = at0 b → a = b) (s : State) :
    (∀ k ∈ l, (l.foldl (fun t k => t.setReg (at0 k) (v k)) s).reg (at0 k) = v k) ∧
      ∀ off, (∀ k ∈ l, off ≠ at0 k) → (l.foldl (fun t k => t.setReg (at0 k) (v k)) s).reg off = s.reg off := by
  induction l generalizing s with
  | nil => simp
  | cons x t ih =>
    obtain ⟨hin, hout⟩ := ih (s.setReg (at0 x) (v x))
    simp only [List.foldl_cons, List.mem_cons, forall_eq_or_imp]
    refine ⟨⟨?_, hin⟩, fun off h => (hout off h.2).trans (State.reg_setReg_ne s _ h.1)⟩
    by_cases hx : x ∈ t
    · exact hin x hx
    · rw [hout _ fun k hk he => hx (by rwa [hinj _ _ he]), State.reg_setReg_self]

theorem State.keepTemps_reg (s : State) (temps : Vector (BitVec 12) 8) {k : Nat} (hk : k < 8) :
    (s.keepTemps temps).reg (R.kprTemp + 4 * k) = BitVec.ofNat 32 (temps.toList.getD k 0).toNat :=
  (State.reg_foldl_setReg (List.range 8) (R.kprTemp + 4 * ·) (fun k => BitVec.ofNat 32 (temps.toList.getD k 0).toNat)
    (fun a b h => by simpa using h) _).1 k (List.mem_range.mpr hk)

theorem State.keepTemps_reg_ne (s : State) (temps : Vector (BitVec 12) 8) {off : Nat} (h : ∀ k, k < 8 → off ≠ R.kprTemp + 4 * k) :
    (s.keepTemps temps).reg off = s.reg off :=
  (State.reg_foldl_setReg (List.range 8) (R.kprTemp + 4 * ·) (fun k => BitVec.ofNat 32 (temps.toList.getD k 0).toNat)
    (fun a b h => by simpa using h) _).2 off fun k hk => h k (List.mem_range.mp hk)

theorem State.keepTemps_kpr (s : State) (temps : Vector (BitVec 12) 8) : (s.keepTemps temps).kpr = { s.kpr with tempAt := s.now / 10000 + 1 } :=
  foldl_keeps State.kpr (fun t k => t.setReg_kpr (R.kprTemp + 4 * k) _) _ _

theorem State.keepTemps_tempOf (s : State) (temps : Vector (BitVec 12) 8) {k : Nat} (hk : k < 8) :
    (s.keepTemps temps).tempOf k = (temps.toList.getD k 0).toInt := by
  rw [State.tempOf, s.keepTemps_reg temps hk, signedBits_reading]

theorem State.keepTemps_railsWhole {s : State} (h : s.railsWhole) (temps : Vector (BitVec 12) 8) : (s.keepTemps temps).railsWhole :=
  State.railsWhole_of_regs h fun j hj => s.keepTemps_reg_ne temps fun k hk => by unfold R.railState R.kprTemp; omega

theorem execTempSample_due {s : State} (h : s.kpr.tempAt ≠ s.now / 10000 + 1) (temps : Vector (BitVec 12) 8) :
    execTempSample temps s = .next (if 2000 ≤ (s.keepTemps temps).tempOf (s.keepTemps temps).hottest then
      (s.keepTemps temps).raiseFault 115 0xFFFF 1 0 else s.keepTemps temps) := by
  unfold execTempSample
  exact (if_neg h).trans (apply_ite Host.Outcome.next _ _ _).symm

/-! ## Throttle -/

/-- A throttle step that is due upwards (R516). -/
def State.throttleUp (s : State) : Prop := 16 * (s.fld R.thermalCfg 0 8 : Int) < s.tempOf s.hottest ∧ s.kpr.throttleAt + 100000 ≤ s.now

/-- A throttle step that is due downwards (R516). -/
def State.throttleDown (s : State) : Prop :=
  s.tempOf s.hottest < 16 * ((s.fld R.thermalCfg 0 8 : Int) - (s.fld R.thermalCfg 8 4 : Int)) ∧ s.kpr.throttleAt + 1000000 ≤ s.now

theorem execThrottleStep_up {s : State} (h : s.throttleUp) : execThrottleStep s =
    .next { s with kpr := { s.kpr with level := BitVec.ofNat 3 (min 7 (s.kpr.level.toNat + 1)), throttleAt := s.now } } := by
  unfold execThrottleStep
  exact if_pos (by simpa [State.throttleUp] using h)

theorem execThrottleStep_down {s : State} (hup : ¬ s.throttleUp) (h : s.throttleDown) : execThrottleStep s =
    .next { s with kpr := { s.kpr with level := BitVec.ofNat 3 (s.kpr.level.toNat - 1), throttleAt := s.now } } := by
  unfold execThrottleStep
  exact (if_neg (by simpa [State.throttleUp] using hup)).trans (if_pos (by simpa [State.throttleDown] using h))

theorem execThrottleStep_none {s : State} (hup : ¬ s.throttleUp) (hdown : ¬ s.throttleDown) : execThrottleStep s = .next s := by
  unfold execThrottleStep
  exact (if_neg (by simpa [State.throttleUp] using hup)).trans (if_neg (by simpa [State.throttleDown] using hdown))

/-- The threshold to fall back lies no higher than the one to rise. -/
theorem State.not_throttleUp_of_down {s : State} (h : s.throttleDown) : ¬ s.throttleUp := by
  rintro ⟨hup, -⟩
  obtain ⟨hdown, -⟩ := h
  omega

/-! ## Clearing of fault bits -/

/-- The bits of a word that software may clear now: codes that are not FT and were not set in this cycle (R9, R475). -/
theorem State.bit_clearable (s : State) (word : Nat) {k : Nat} (hk : k < 32) : bit (s.clearable word) k =
    decide (s.classOf (32 * word + k) ≠ 2 ∧ tabFind s.kpr.activeAt (32 * word + k) ≠ some s.clk.count) :=
  bit_pack rfl (List.mem_map.mpr ⟨k, List.mem_range.mpr hk, rfl⟩) hk

theorem bit_clear (x v m : Word) {k : Nat} (hk : k < 32) : bit (x &&& ~~~ (v &&& m)) k = (bit x k && !(bit v k && bit m k)) := by
  simp [bit_eq_getLsbD, hk]

theorem execFaultActiveClear_eq {a : Source} {s : State} (h : s.srcFm a = true) (k : Fin 4) (v : Word) : execFaultActiveClear a k v s =
    .next (s.setReg (R.faultActive + 4 * k) (s.reg (R.faultActive + 4 * k) &&& ~~~ (v &&& s.clearable k))) := by
  unfold execFaultActiveClear State.fmWrite
  simp only [h, if_true]

/-- Settles O15. -/
theorem faultInputsAct : Obligations.FaultInputsAct := by
  refine ⟨?power, ?clock, ?temp, ?throttle, ?holdup, fun r s => ?retained, fun l s => ?level, ?clear⟩
  case power =>
    intro s h
    exact ⟨_, rfl, State.raiseFault_warns h (by decide) 0xFFFF 1 0⟩
  case clock =>
    intro s h
    exact ⟨_, rfl, State.raiseFault_warns h (by decide) 0xFFFF 1 0⟩
  case temp =>
    intro temps s hwhole
    by_cases hdue : s.kpr.tempAt = s.now / 10000 + 1
    · exact ⟨s, by simp [exec, execTempSample, hdue], fun _ => rfl, fun h => absurd hdue h⟩
    refine ⟨_, execTempSample_due hdue temps, fun h => absurd h hdue, fun _ => ⟨fun k hk => ?_, ?_, fun h => ?_⟩⟩
    · refine Eq.trans ?_ (s.keepTemps_reg temps hk)
      split
      · refine State.raiseFault_reg _ _ _ _ (not_farReg_of_lt ?_) ?_ ?_ ?_ <;>
          simp only [R.kprTemp, R.faultLost, R.faultSeq, R.faultActive] <;> omega
      · rfl
    · rintro ⟨k, hk, hhot⟩
      rw [← s.keepTemps_tempOf temps hk] at hhot
      rw [if_pos (hhot.trans (State.tempOf_le_hottest _ hk))]
      exact (State.raiseFault_logged (State.keepTemps_railsWhole hwhole temps) (by decide) 0xFFFF 1 0).2.2.1
    · have hcool : (s.keepTemps temps).tempOf (s.keepTemps temps).hottest < 2000 := by
        rw [s.keepTemps_tempOf temps (State.hottest_lt _)]
        exact h _ (State.hottest_lt _)
      rw [if_neg (not_le.mpr hcool), State.keepTemps_kpr]
  case throttle =>
    intro s
    have hlevel := s.kpr.level.isLt
    by_cases hup : s.throttleUp
    · refine ⟨_, execThrottleStep_up hup, rfl, fun _ _ => ⟨?_, rfl⟩, fun h1 h2 => absurd hup (State.not_throttleUp_of_down ⟨h1, h2⟩), fun h => ?_,
        fun h _ => ?_⟩
      · simp only [BitVec.toNat_ofNat]
        omega
      · exact absurd hup.2 (by omega)
      · exact absurd hup.1 (by omega)
    by_cases hdown : s.throttleDown
    · refine ⟨_, execThrottleStep_down hup hdown, rfl, fun h1 h2 => absurd ⟨h1, h2⟩ hup, fun _ _ => ?_, fun h => ?_, fun _ h => ?_⟩
      · simp only [BitVec.toNat_ofNat]
        omega
      · exact absurd hdown.2 (by omega)
      · exact absurd hdown.1 (by omega)
    exact ⟨s, execThrottleStep_none hup hdown, rfl, fun h1 h2 => absurd ⟨h1, h2⟩ hup, fun h1 h2 => absurd ⟨h1, h2⟩ hdown, fun _ => rfl, fun _ _ => rfl⟩
  case holdup =>
    intro e v s
    have hlaid : laidFrom 0 [(0, 16, if v then e.toNat else 0), (16, 1, b2n v)] = true := rfl
    refine ⟨_, if_pos rfl, ?_, ?_⟩
    · rw [State.fld_setReg_self, bits_pack hlaid (List.mem_cons_self ..) (by decide), Nat.mod_eq_of_lt]
      split
      · exact e.isLt
      · decide
    · rw [State.fld_setReg_self, bits_pack hlaid (v := b2n v) (by simp) (by decide), Nat.mod_eq_of_lt]
      cases v <;> decide
  case retained => simp only [exec, execSidebandInput, if_true]
  case level => simp only [exec, execSidebandInput, if_true]
  case clear =>
    intro a k v s hfm
    refine ⟨_, execFaultActiveClear_eq hfm k v, fun c hlo hhi => ?_⟩
    obtain ⟨hword, hbit⟩ : c / 32 = k.val ∧ 32 * k.val + c % 32 = c := by omega
    simp only [State.arrayBit, hword, State.reg_setReg_self]
    rw [bit_clear _ _ _ (Nat.mod_lt c (by decide)), s.bit_clearable k (Nat.mod_lt c (by decide)), hbit]

end Sys2Proof.Machine
end

section
/-! The commands of the Plate controller (chapter 3): what the engraving window does, how versions take effect, and what is refused. -/

namespace Sys2Proof.Machine

/-! ## The engraving window -/

theorem State.verifiedNow_iff (s : State) :
    s.verifiedNow = true ↔ s.plt.cancelledAt = some s.clk.count ∧ (s.plt.eng = .ready ∨ s.plt.eng = .failed) := by
  simp [State.verifiedNow]

theorem execOpenEng_opens {w : Win} {s : State} (hfm : s.winFm w = true) (howned : s.plt.owned = false) (harmed : s.plt.armed = false)
    (hretiring : s.plt.retiring = none) : execOpenEng w s = .next ((s.setPlt { s.plt.discarded with
      eng := .loading, owned := true, owner := BitVec.ofNat 4 w, count := 0 }).pltErr 0 0) := by
  simp [execOpenEng, hfm, howned, harmed, hretiring]

theorem execPltEngLenWrite_owner {w : Win} {s : State} (howns : s.ownsLoad w = true) (heng : s.plt.eng = .loading) (v : Word) :
    execPltEngLenWrite w v s = if 96 ≤ v.toNat ∧ v.toNat ≤ 2097152 then .next (s.setReg R.pltEngLen v)
      else .next ((s.setPlt s.plt.failed).pltErr 3 s.plt.count) :=
  if_pos ⟨howns, heng⟩

/-- A length written out of range ends the load (R61). -/
theorem execPltEngLenWrite_outOfRange {w : Win} {s : State} (howns : s.ownsLoad w = true) (heng : s.plt.eng = .loading) {v : Word}
    (h : v.toNat < 96 ∨ 2097152 < v.toNat) : execPltEngLenWrite w v s = .next ((s.setPlt s.plt.failed).pltErr 3 s.plt.count) := by
  rw [execPltEngLenWrite_owner howns heng]
  exact if_neg (by omega)

/-- What the end of a verification leaves in the controller, whatever its verdict. -/
def Plt.verified (p q : Plt) : Prop :=
  q.owned = false ∧ q.active = p.active ∧ q.words = [] ∧
    (q.eng = .failed ∧ q.standby = p.standby ∨ q.eng = .ready ∧ ∃ v, q.standby = some v)

theorem Plt.verified_of_failed (p : Plt) (k : Option Nat) : p.verified { p.failed with cancelledAt := k } :=
  ⟨rfl, rfl, rfl, .inl ⟨rfl, rfl⟩⟩

theorem Plt.verified_of_ready (p : Plt) (v : PlateV) (k : Option Nat) :
    p.verified { p with eng := .ready, owned := false, words := [], standby := some v, cancelledAt := k } :=
  ⟨rfl, rfl, rfl, .inr ⟨rfl, v, rfl⟩⟩

theorem State.verify_verified (s : State) (k : Option Nat) : s.plt.verified { s.verify.plt with cancelledAt := k } := by
  rcases s.verify_plt with h | ⟨v, -, h⟩
  · rw [h]
    exact s.plt.verified_of_failed k
  · rw [h]
    exact s.plt.verified_of_ready v k

theorem execVerificationDone_ends {s : State} (h : s.plt.eng = .verifying ∨ (s.plt.eng = .idle ∧ s.plt.cancelledAt = some s.clk.count)) :
    ∃ t, execVerificationDone s = .next t ∧ s.plt.verified t.plt :=
  ⟨_, if_pos h, State.verify_verified { s with plt := { s.plt with eng := .verifying, cancelledAt := none } } _⟩

theorem execCancel_owner {w : Win} {s : State} (howns : s.ownsLoad w = true) (heng : s.plt.eng = .loading ∨ s.plt.eng = .verifying) :
    execCancel w s = .next (s.setPlt (s.plt.stopped s.clk.count)) := by
  rcases heng with h | h <;> simp [execCancel, h, howns]

theorem execCancel_ended {w : Win} {s : State} (hfm : s.winFm w = true) (heng : s.plt.eng = .ready ∨ s.plt.eng = .failed) :
    execCancel w s = if s.verifiedNow then .next s else if s.plt.armed then .next (s.pltErr 12 0) else .next (s.setPlt s.plt.discarded) := by
  rcases heng with h | h <;> simp [execCancel, h, hfm]

/-- Settles O18: each command of the window, at the state that the statement gives it. -/
theorem engravingWindowLoads : Obligations.EngravingWindowLoads := by
  refine ⟨?opens, ?length, ?word, ?close, fun _ h => execVerificationDone_ends h, ?stop, ?discard, ?late⟩
  case opens =>
    intro w s hfm howned harmed hretiring
    exact ⟨_, execOpenEng_opens hfm howned harmed hretiring, rfl, by simp⟩
  case length =>
    intro w v s howns heng
    by_cases hv : 96 ≤ v.toNat ∧ v.toNat ≤ 2097152
    · exact ⟨_, (execPltEngLenWrite_owner howns heng v).trans (if_pos hv), fun _ _ => ⟨State.reg_setReg_self _ _ _, by simp⟩, by omega⟩
    · refine ⟨_, execPltEngLenWrite_outOfRange howns heng (by omega), by omega, fun _ => ⟨rfl, by simp⟩⟩
  case word => exact fun _ _ _ howns heng => congrArg _ (if_pos ⟨howns, heng⟩)
  case close =>
    intro w s howns heng
    change execCloseEng w s = _
    simp [execCloseEng, howns, heng, State.setPlt]
  case stop =>
    refine fun w s howns => ⟨fun heng => ?_, fun heng => ?_⟩
    · refine (execCancel_owner howns (.inl heng)).trans ?_
      simp [Plt.stopped, heng, State.setPlt]
    · refine (execCancel_owner howns (.inr heng)).trans ?_
      simp [Plt.stopped, heng, State.setPlt]
  case discard =>
    intro w s hfm heng hnow harmed
    refine (execCancel_ended hfm heng).trans ?_
    simp [hnow, harmed, Plt.discarded, State.setPlt]
  case late =>
    intro w s hfm hnow
    exact (execCancel_ended hfm (s.verifiedNow_iff.mp hnow).2).trans (if_pos hnow)

/-! ## Versions -/

theorem State.sealed_plt (s : State) (v : PlateV) : (s.sealed v).plt = { s.plt with sealedAt := some s.clk.count } := by
  refine State.agree_of_allBut (s := { s with plt := { s.plt with sealedAt := some s.clk.count } }) .plt ?_
  unfold State.sealed
  simp [State.mask_foldl (allBut .plt) (fun t n => t.roleLink n) (fun _ _ => by simp)]

theorem State.flipped_plt (s : State) (old v : PlateV) : (s.flipped old v).plt = s.plt :=
  State.agree_of_allBut .plt (by simp)

theorem execSealPlate_seals {w : Win} {v : PlateV} {s : State} (hfm : s.winFm w = true) (heng : s.plt.eng = .ready)
    (hstandby : s.plt.standby = some v) (hfull : v.full = true) (hopen : s.isSealed = false) : execSealPlate w s = .next
      ((s.setPlt { s.plt with eng := .idle, standby := none, active := some v, cancelledAt := none }).sealed v) := by
  simp [execSealPlate, hfm, heng, hstandby, hfull, hopen]

theorem execFlip_flips {old v : PlateV} {s : State} (hactive : s.plt.active = some old) (hstandby : s.plt.standby = some v)
    (harmed : s.plt.armed = true) (htime : s.plt.flipTime ≤ s.now) :
    execFlip s = .next ((s.setPlt (s.plt.flip s.clk.count old v)).flipped old v) := by
  simp [execFlip, hactive, hstandby, harmed, htime]

theorem execArm_eq {a : Source} {s : State} (hfm : s.srcFm a = true) : execArm a s =
    if s.plt.armed then .next (s.pltErr 12 0) else if ! s.stepReady then .next (s.pltErr 17 0)
    else if s.reg64 R.pltStepTime < s.now + 100000 then .next (s.pltErr 15 0)
    else .next ((s.setPlt { s.plt with armed := true, flipTime := s.reg64 R.pltStepTime }).pltErr 0 0) := by
  simp [execArm, hfm]

theorem execDisarm_armed {a : Source} {s : State} (hfm : s.srcFm a = true) (harmed : s.plt.armed = true) : execDisarm a s =
    if s.plt.flipTime ≤ s.now then .next (s.pltErr 15 0) else .next ((s.setPlt { s.plt with armed := false }).pltErr 0 0) := by
  simp [execDisarm, hfm, harmed]

theorem execRetireRelease_frees {old v : PlateV} {s : State} (hactive : s.plt.active = some v) (hretiring : s.plt.retiring = some old)
    (htime : s.plt.retireAt ≤ s.now) (hpins : s.pinsRetiring old = false) : execRetireRelease s = .next
      ((((s.setPlt { s.plt with retiring := none }).releaseRegions old v).slotsRelease v).journalPlate 3 old) := by
  simp [execRetireRelease, hactive, hretiring, hpins, htime]

/-! ## What a fault leaves of the security block: all of it, or all but the keys -/

/-- The security block of `t` is that of `s`, or what fail-stop leaves of it (R479). -/
def State.keysKeptOrErased (s t : State) : Prop := t.sec = s.sec ∨ t.sec = { s.sec with slots := [], sessions := [] }

theorem State.keysKeptOrErased_of_eq {s t u : State} (h : t.sec = s.sec) (hu : t.keysKeptOrErased u) : s.keysKeptOrErased u := by
  unfold State.keysKeptOrErased at hu
  rwa [h] at hu

theorem State.failStop_sec (s : State) (r : BitVec 256) : (s.failStop r).sec = { s.sec with slots := [], sessions := [] } := by
  have hlinks (t : State) (cells : List Cell) : (t.allLinksDown 6 cells).sec = t.sec := State.agree_of_allBut .sec (by simp)
  have hevents : (s.events (List.range 16) 1).sec = s.sec := State.agree_of_allBut .sec (by simp)
  simp only [State.failStop, hlinks, hevents]

theorem State.followFault_sec (s : State) (code : Nat) (r : BitVec 256) : s.keysKeptOrErased (s.followFault code r) := by
  have hevent : (s.faultEvent code).sec = s.sec := by
    unfold State.faultEvent
    split
    · exact State.agree_of_allBut .sec (by simp)
    · rfl
  refine State.keysKeptOrErased_of_eq hevent ?_
  unfold State.followFault
  dsimp only
  split
  · split
    · exact .inl rfl
    · exact .inr (State.failStop_sec _ r)
  · split
    · exact .inl (foldl_keeps State.sec (fun t d => State.agree_of_allBut .sec (by simp)) _ _)
    · exact .inl rfl

theorem State.recordFault_sec (s : State) (code unit count detail : Nat) : s.keysKeptOrErased (s.recordFault code unit count detail) := by
  have hmark : (s.markFault code unit count detail).sec = s.sec := by
    simp only [State.markFault, State.setArrayBit_sec, State.setReg_sec]
    exact State.agree_of_allBut .sec (by simp)
  rw [State.recordFault_eq]
  exact State.keysKeptOrErased_of_eq hmark (State.followFault_sec _ _ _)

theorem State.raiseFault_sec (s : State) (code unit count detail : Nat) : s.keysKeptOrErased (s.raiseFault code unit count detail) := by
  have hrecord := s.recordFault_sec code unit count detail
  unfold State.raiseFault
  split
  · split
    · exact .inl rfl
    · exact hrecord
  · exact hrecord

theorem State.raiseKeyed_sec (s : State) (key code unit detail : Nat) : s.keysKeptOrErased (s.raiseKeyed key code unit detail) := by
  have hnoted {t : State} (h : t.sec = s.sec) : s.keysKeptOrErased (t.raiseFault code unit 1 detail) :=
    State.keysKeptOrErased_of_eq h (t.raiseFault_sec code unit 1 detail)
  unfold State.raiseKeyed
  dsimp only
  split
  · split
    · exact .inl rfl
    · exact hnoted (by rfl)
  · exact hnoted (by rfl)

theorem State.paceScript_sec (s : State) : s.keysKeptOrErased s.paceScript := by
  have hhold (t : State) (b : Bool) : (if b then t.bump R.scriptSeatHolds else t).sec = t.sec := by
    split <;> simp
  unfold State.paceScript
  dsimp only
  split
  · rw [State.raiseLimited]
    refine State.keysKeptOrErased_of_eq ?_ (State.raiseKeyed_sec _ _ _ _ _)
    exact hhold _ _
  · exact .inl (hhold _ _)

theorem State.journal_sec (s : State) (kind source : Nat) (body : List Byte) : s.keysKeptOrErased (s.journal kind source body) := by
  have happend (t : State) (k n : Nat) (b : List Byte) : (t.appendEntry k n b).sec = t.sec := State.agree_of_allBut .sec (by simp)
  unfold State.journal
  dsimp only
  split
  · refine State.keysKeptOrErased_of_eq ?_ (State.paceScript_sec _)
    rw [happend]
    split
    · rw [happend]
    · rfl
  · exact .inl rfl

/-- RETIRE_RELEASE keeps no key slot of a principal that the active version no longer binds here (R75). -/
theorem State.journalPlate_slotsRelease (s : State) (v old : PlateV) {e : Nat × Slot}
    (he : e ∈ ((s.slotsRelease v).journalPlate 3 old).sec.slots) : v.holds e.2.pkey s.nodeId = true := by
  rcases State.journal_sec (s.slotsRelease v) 4 32 _ with h | h
  · rw [State.journalPlate, h] at he
    exact (List.mem_filter.mp he).2
  · rw [State.journalPlate, h] at he
    exact nomatch he

/-- Settles O19: the commands that move a version, each at the state that lets it. -/
theorem versionsTakeEffect : Obligations.VersionsTakeEffect := by
  refine ⟨?seals, ?arm, ?disarm, ?flip, ?release⟩
  case seals =>
    intro w v s hfm heng hstandby hfull hopen
    refine ⟨_, execSealPlate_seals hfm heng hstandby hfull hopen, ?_⟩
    rw [State.sealed_plt]
    exact ⟨rfl, rfl, rfl⟩
  case arm =>
    intro a s hfm harmed hready htime
    refine ⟨_, (execArm_eq hfm).trans ?_, State.pltErr_plt (s.setPlt _) 0 0, State.fld_pltErr_code _ 0 0⟩
    simp [harmed, hready, show ¬ s.reg64 R.pltStepTime < s.now + 100000 by omega]
  case disarm => exact fun a s hfm harmed htime => ⟨_, (execDisarm_armed hfm harmed).trans (if_neg (by omega)), rfl⟩
  case flip =>
    intro old v s hactive hstandby harmed htime
    refine ⟨_, execFlip_flips hactive hstandby harmed htime, ?_⟩
    rw [State.flipped_plt]
    exact ⟨rfl, rfl, rfl, rfl, rfl⟩
  case release =>
    intro old v s hactive hretiring htime hpins
    refine ⟨_, execRetireRelease_frees hactive hretiring htime hpins, ?_,
      fun e he => State.journalPlate_slotsRelease ((s.setPlt { s.plt with retiring := none }).releaseRegions old v) v old he⟩
    exact (State.agree_of_allBut (s := s.setPlt { s.plt with retiring := none }) .plt (by simp)).trans rfl

/-! ## Refusals -/

/-- A refusal of the controller: its code shows, and the controller is as before. -/
theorem State.pltErr_refuses (s : State) {code : Nat} (h : code < 32) :
    (s.pltErr code 0).plt = s.plt ∧ (s.pltErr code 0).fld R.pltError 0 5 = code :=
  ⟨rfl, (s.fld_pltErr_code code 0).trans (Nat.mod_eq_of_lt h)⟩

theorem execArm_refused {a : Source} {s : State} (hfm : s.srcFm a = true)
    (h : s.plt.armed = true ∨ s.stepReady = false ∨ s.reg64 R.pltStepTime < s.now + 100000) :
    execArm a s = .next (s.pltErr (if s.plt.armed then 12 else if s.stepReady then 15 else 17) 0) := by
  rw [execArm_eq hfm]
  by_cases harmed : s.plt.armed = true
  · simp [harmed]
  by_cases hready : s.stepReady = true
  · have htime : s.reg64 R.pltStepTime < s.now + 100000 := by simpa [harmed, hready] using h
    simp [harmed, hready, htime]
  · simp [harmed, hready]

theorem execDisarm_flippedNow {a : Source} {s : State} (hfm : s.srcFm a = true) (harmed : s.plt.armed = false)
    (hflip : s.plt.flippedAt = some s.clk.count) : execDisarm a s = .next (s.pltErr 15 0) := by
  simp [execDisarm, hfm, harmed, hflip]

/-- Settles O20: each refusal is a code in PLT_ERROR, or a violation. -/
theorem plateControllerRefuses : Obligations.PlateControllerRefuses := by
  refine ⟨?opens, ?arm, ?right, ?late, ?flipped⟩
  case opens =>
    intro w s h
    have hrefuse := s.pltErr_refuses (code := 13) (by decide)
    refine ⟨_, if_pos ?_, hrefuse.2, hrefuse.1⟩
    simpa using h
  case arm =>
    intro a s hfm h
    refine ⟨_, execArm_refused hfm h, s.pltErr_refuses ?_⟩
    split_ifs <;> decide
  case right =>
    intro a s hfm
    have hnot : (! s.srcFm a) = true := by simp [hfm]
    exact ⟨if_pos hnot, if_pos hnot⟩
  case late =>
    exact fun a s hfm harmed htime => ⟨_, (execDisarm_armed hfm harmed).trans (if_pos htime), s.pltErr_refuses (by decide)⟩
  case flipped => exact fun a s hfm harmed hflip => ⟨_, execDisarm_flippedNow hfm harmed hflip, s.pltErr_refuses (by decide)⟩

end Sys2Proof.Machine
end

section
/-! Gating and waking of domains (R40 to R43). -/

namespace Sys2Proof.Machine

@[simp] theorem State.setDomain_domain_self (s : State) (k : Nat) (d : DomainState) : (s.setDomain k d).domain k = d :=
  tabGet_set_self _ _ _ _

theorem State.laneTo_domain (s : State) (l : Nat) (st : LaneState) (k : Nat) : (s.laneTo l st).domain k = s.domain k :=
  State.domain_congr (State.agree_of_allBut .kpr (by simp)) k

theorem State.setDomain_domain (s : State) (k j : Nat) (d : DomainState) : (s.setDomain k d).domain j = if j = k then d else s.domain j := by
  unfold State.setDomain State.domain
  exact tabGet_set _ _ _ _ _

theorem State.wakeLane_domain (s : State) (l k : Nat) : (s.wakeLane l).domain k = if k = l then .running else s.domain k := by
  have hset := s.setDomain_domain l k .running
  unfold State.wakeLane
  dsimp only
  split
  · rw [State.modLane_domain, State.laneTo_domain, hset]
  · exact hset

theorem State.wakeLanes_domain (s : State) (f : Nat → Nat) (ks : List Nat) (j : Nat) :
    (ks.foldl (fun t k => t.wakeLane (f k)) s).domain j = if j ∈ ks.map f then .running else s.domain j := by
  induction ks generalizing s with
  | nil => simp
  | cons k ks ih =>
    rw [List.foldl_cons, ih, State.wakeLane_domain]
    by_cases h : j = f k <;> simp [h]

/-- A woken link runs with its nine lanes. -/
theorem State.wakeLink_domain (s : State) (n j : Nat) :
    (s.wakeLink n).domain j = if j / 9 = n ∨ j = 288 + n then .running else s.domain j := by
  have hlanes : j ∈ (List.range 9).map (fun k => 9 * n + k) ↔ j / 9 = n := by
    simp only [List.mem_map, List.mem_range]
    exact ⟨by omega, fun h => ⟨j % 9, by omega⟩⟩
  have hlink (t : State) (h : t.kpr = (s.setDomain (288 + n) .running).kpr) : t.domain j = if j = 288 + n then .running else s.domain j :=
    (State.domain_congr h j).trans (s.setDomain_domain _ _ _)
  unfold State.wakeLink
  dsimp only
  rw [State.wakeLanes_domain, hlink _ (by split <;> simp)]
  simp only [hlanes]
  split_ifs <;> simp_all

theorem State.wakeEru_domain (s : State) : s.wakeEru.domain (domainKey .eru) = .running := by
  have hset := s.setDomain_domain_self (domainKey .eru) .running
  unfold State.wakeEru
  dsimp only
  split
  · exact (State.setFld_domain _ _ _ _ _ _).trans hset
  · exact hset

theorem execDomainGate_may {d : Domain} {s : State} (hrun : s.running = true) (hmay : s.mayGate d = true) {stopped : Bool}
    (hnow : s.domain (domainKey d) = if stopped then .entering else .running) : execDomainGate d stopped s = .next (s.gateDomain d stopped) := by
  cases stopped <;> simp_all [execDomainGate]

theorem execDomainGate_abandons {d : Domain} {s : State} (hrun : s.running = true) (hmay : s.mayGate d = false)
    (hnow : s.domain (domainKey d) = .entering) (stopped : Bool) : execDomainGate d stopped s = .next (s.setDomain (domainKey d) .running) := by
  simp [execDomainGate, hrun, hmay, hnow]

theorem State.gateDomain_domain (s : State) (d : Domain) (stopped : Bool) :
    (s.gateDomain d stopped).domain (domainKey d) = if stopped then .gated else .entering := by
  have hset (x : DomainState) := s.setDomain_domain_self (domainKey d) x
  cases d <;> cases stopped
  case lane.false l =>
    change ((s.setDomain l .entering).dozeLane l).domain l = .entering
    rw [State.dozeLane, State.modLane_domain]
    exact hset _
  case lane.true l =>
    change (s.gateLane l).domain l = .gated
    rw [State.gateLane, State.modLane_domain, State.laneTo_domain]
    exact State.setDomain_domain_self _ _ _
  all_goals exact hset _

/-- DOMAIN_WAKE leaves its domain running, whether it was or not. -/
theorem execDomainWake_runs (d : Domain) {s : State} (hrun : s.running = true) :
    ∃ t, execDomainWake d s = .next t ∧ t.domain (domainKey d) = .running := by
  by_cases hdomain : s.domain (domainKey d) = .running
  · exact ⟨s, if_pos (.inr hdomain), hdomain⟩
  have hgo : ¬ ((! s.running) = true ∨ s.domain (domainKey d) = .running) := by simp [hrun, hdomain]
  unfold execDomainWake
  rw [if_neg hgo]
  cases d with
  | lane l => exact ⟨_, rfl, by simp [domainKey, State.wakeLane_domain]⟩
  | link n => exact ⟨_, rfl, by simp [domainKey, State.wakeLink_domain]⟩
  | eru => exact ⟨_, rfl, s.wakeEru_domain⟩

/-- Settles O12: entry, gating and waking, by the domain that each command leaves. -/
theorem domainsGateAndWake : Obligations.DomainsGateAndWake := by
  refine ⟨?enter, ?gate, ?abandon, fun d s hrun => execDomainWake_runs d hrun, ?sync, ?later⟩
  case enter => exact fun d s hrun hmay hnow => ⟨_, execDomainGate_may hrun hmay hnow, s.gateDomain_domain d false⟩
  case gate => exact fun d s hrun hmay hnow => ⟨_, execDomainGate_may hrun hmay hnow, s.gateDomain_domain d true⟩
  case abandon =>
    exact fun d s b hrun hmay hnow => ⟨_, execDomainGate_abandons hrun hmay hnow b, s.setDomain_domain_self _ _⟩
  case sync =>
    intro n s hrun hsoon hgated
    refine ⟨s.wakeLink n, if_pos ⟨hrun, hsoon, .inl (by simp [hgated])⟩, by simp [State.wakeLink_domain], fun k hk => ?_⟩
    rw [State.wakeLink_domain, if_pos (.inl (by omega))]
  case later =>
    intro n s hsoon
    exact if_neg (by simp [hsoon])

end Sys2Proof.Machine
end

section
/-! The security unit's events (chapter 14) and the rows of the stage clock (chapter 15). -/

namespace Sys2Proof.Machine

/-! ## Fuses, sessions and the random generator -/

theorem State.signer_congr {s t : State} (h : t.fuses = s.fuses) (k : Nat) : t.signer k = s.signer k := by
  unfold State.signer
  rw [h]

/-- What a finished fuse write makes of its slot (R430). -/
def FuseWrite.burnt (f : FuseWrite) (old : Signer) : Signer :=
  if f.revoke then { old with revoked := true }
  else if old.enrolled then old
  else { old with cut := false, enrolled := true, key := f.key }

/-- The state with the fuse burnt, before the mailbox shows its answer. -/
def State.burn (s : State) (f : FuseWrite) : State :=
  ({ s with fuses := tabInsert s.fuses f.slot (f.burnt (s.signer f.slot)) }).setSec { s.sec with fuse := none }

theorem State.mbxAnswer_status (s : State) (w typ seq n : Nat) (body : List Byte) : (s.mbxAnswer w typ seq n body).winReg w R.mbxStatus = 2 :=
  State.reg_setReg_self _ _ _

theorem State.finishFuse_eq (s : State) (f : FuseWrite) : s.finishFuse f = (s.burn f).mbxAnswer f.window (if f.revoke then 6 else 5)
    (le (s.mbxIn f.window 16) 4 4) 32 (natBytes 0 1) := rfl

theorem State.burn_signer (s : State) (f : FuseWrite) (k : Nat) :
    (s.burn f).signer k = if k = f.slot then f.burnt (s.signer f.slot) else s.signer k := by
  change tabGet signerBlank (tabInsert s.fuses f.slot _) k = _
  rw [tabGet, tabFind_insert]
  split <;> rfl

theorem State.finishFuse_signer (s : State) (f : FuseWrite) (k : Nat) :
    (s.finishFuse f).signer k = if k = f.slot then f.burnt (s.signer f.slot) else s.signer k := by
  rw [← State.burn_signer, State.finishFuse_eq]
  exact State.signer_congr (State.agree_of_allBut .fuses (by simp)) k

theorem State.finishFuse_fuse (s : State) (f : FuseWrite) : (s.finishFuse f).sec.fuse = none := by
  have hsec : (s.finishFuse f).sec = (s.burn f).sec := State.agree_of_allBut .sec (by simp [State.finishFuse_eq])
  rw [hsec]
  rfl

theorem execSessionExpire_of_session {x : Fin 16} {y : Session} {s : State} (h : s.sec.sessions[x.val]? = some y) :
    execSessionExpire x s = if y.since + s.fld R.secCfg 0 10 * 1000000000 ≤ s.now then
      .next (s.setSec { s.sec with sessions := s.sec.sessions.filter fun z => z.number != y.number }) else .next s := by
  obtain ⟨hx, rfl⟩ := List.getElem?_eq_some_iff.mp h
  rw [execSessionExpire, List.drop_eq_getElem_cons hx]

/-- A failed health test is fault 68 (R427). -/
theorem State.rngFails {s : State} (h : s.railsWhole) :
    ((s.setSec { s.sec with rngOk := false }).raiseFault 68 0xFFFF 1 0).sec.rngOk = false ∧
      ((s.setSec { s.sec with rngOk := false }).raiseFault 68 0xFFFF 1 0).arrayBit R.faultActive 68 = true := by
  constructor
  · rcases State.raiseFault_sec (s.setSec { s.sec with rngOk := false }) 68 0xFFFF 1 0 with hsec | hsec <;> rw [hsec] <;> rfl
  · have hlogged := State.raiseFault_logged (s := s.setSec { s.sec with rngOk := false }) h (code := 68) (by decide) 0xFFFF 1 0
    exact hlogged.2.2.1

/-- Settles O50: the end of a fuse write, of a session's life and of the generator's health. -/
theorem securityEventsAct : Obligations.SecurityEventsAct := by
  refine ⟨?fuse, ?session, fun s h => ⟨_, rfl, s.rngFails h⟩⟩
  case fuse =>
    intro f s hfuse
    have hsigner := s.finishFuse_signer f
    refine ⟨s.finishFuse f, by change execFuseWriteDone s = _; simp only [execFuseWriteDone, hfuse], s.finishFuse_fuse f, fun hrevoke => ?_,
      fun henrol hfree => ?_, fun k hk => (hsigner k).trans (if_neg hk), State.mbxAnswer_status _ _ _ _ _ _⟩
    · rw [hsigner, if_pos rfl, FuseWrite.burnt, if_pos hrevoke]
      exact ⟨rfl, rfl⟩
    · rw [hsigner, if_pos rfl]
      simp [FuseWrite.burnt, henrol, hfree]
  case session =>
    intro x y s hy
    refine ⟨if y.since + s.fld R.secCfg 0 10 * 1000000000 ≤ s.now then
        s.setSec { s.sec with sessions := s.sec.sessions.filter fun z => z.number != y.number } else s,
      (execSessionExpire_of_session hy).trans (apply_ite Host.Outcome.next _ _ _).symm, fun hdue z => ?_, fun hlive => if_neg (by omega)⟩
    rw [if_pos hdue]
    simp [State.setSec]

/-! ## The stage clock -/

/-- The SYNC cell that SYNC_TX queues on a link (R454). -/
def State.syncCell (s : State) (n : Nat) : Cell :=
  withCheck { s.mkCell 0x30 (s.fld (R.link n + 0x14) 0 15) 0 0 (s.syncPayload n) with cls := 5 }

theorem State.syncCell_is (s : State) (n : Nat) : cellIs (s.syncCell n) 0x30 = true ∧ (s.syncCell n).payload = s.syncPayload n :=
  ⟨rfl, rfl⟩

/-- The state behind a SYNC_TX that is due. -/
def State.syncSent (s : State) (n : Nat) : State :=
  let s1 := s.setLink n { s.link n with txq := (s.link n).txq ++ [s.syncCell n] }
  { s1 with clk := { s1.clk with
      syncAt := tabSet 0 s1.clk.syncAt n (s.syncPeriod n)
      syncNo := tabSet 0 s1.clk.syncNo n ((tabGet 0 s1.clk.syncNo n + 1) % 65536) } }

theorem execSyncTx_due {n : LinkIx} {s : State} (hrun : s.running = true) (hup : (s.link n).state = .up) (hroom : (s.link n).queued 5 < 8)
    (hdue : tabGet 0 s.clk.syncAt n < s.syncPeriod n) : execSyncTx n s = .next (s.syncSent n) := by
  have hgo : ¬ (! s.running) = true := by simp [hrun]
  exact (if_neg hgo).trans (if_pos ⟨hup, hroom, hdue⟩)

theorem State.syncSent_link (s : State) (n : Nat) : ((s.syncSent n).link n).txq = (s.link n).txq ++ [s.syncCell n] := by
  have hlink : (s.syncSent n).link n = (s.setLink n { s.link n with txq := (s.link n).txq ++ [s.syncCell n] }).link n :=
    State.link_congr rfl n
  rw [hlink, State.link_setLink_self]

theorem execCandidateExpire_of_candidate {n : LinkIx} {x : Candidate} {s : State} (h : tabFind s.clk.cands n = some x) :
    execCandidateExpire n s = .next (if x.heard + 300000 ≤ s.now then
      ({ s with clk := { s.clk with cands := tabErase s.clk.cands n } } : State).chooseParent else s) := by
  simp only [execCandidateExpire, h, apply_ite Host.Outcome.next]

theorem execClockFreeTimeout_free {s : State} (hfree : s.clk.state = .free) (hroot : s.noRoot = false) : execClockFreeTimeout s =
    .next (if s.clk.freeSince + 1000000 ≤ s.now then s.becomeRoot.refreshSync else s) := by
  simp [execClockFreeTimeout, hfree, hroot, apply_ite Host.Outcome.next]

/-- Settles O51: each row of the clock at the state that lets it act, and at one that does not. -/
theorem stageClockFollows : Obligations.StageClockFollows := by
  refine ⟨?send, ?sent, ?receive, ?candidate, ?free, fun _ => rfl⟩
  case send =>
    intro n s hrun hup hroom hdue
    refine ⟨s.syncSent n, s.syncCell n, execSyncTx_due hrun hup hroom hdue, s.syncSent_link n, (s.syncCell_is n).1, (s.syncCell_is n).2,
      tabGet_set_self _ _ _ _, ?_, rfl⟩
    change tabFind (tabSet 0 s.clk.syncAt n (s.syncPeriod n)) n = some (s.syncPeriod n)
    rw [tabSet, if_neg (by omega), tabFind_insert_self]
  case sent =>
    intro n s hrun hsent
    have hgo : ¬ (! s.running) = true := by simp [hrun]
    exact (if_neg hgo).trans (if_neg fun h => absurd h.2.2 (by omega))
  case receive =>
    intro n c s hrun hc
    have hgo : ¬ (! s.running) = true := by simp [hrun]
    exact (if_neg hgo).trans (if_pos hc)
  case candidate => exact fun n x s hx => ⟨_, execCandidateExpire_of_candidate hx, fun hold => if_pos hold, fun hnew => if_neg (by omega)⟩
  case free => exact fun s hfree hroot => ⟨_, execClockFreeTimeout_free hfree hroot, fun hdue => if_pos hdue, fun hnot => if_neg (by omega)⟩

end Sys2Proof.Machine
end

section
/-! The port of a routed cell (R175). -/

namespace Sys2Proof.Machine

theorem bestBy_eq_none {f : Nat → Nat} {l : List Nat} : bestBy f l = none ↔ l = [] := by
  cases l with
  | nil => simp [bestBy]
  | cons a t =>
    simp only [bestBy, reduceCtorEq, iff_false]
    split
    · split <;> simp
    · simp

theorem mem_of_bestBy {f : Nat → Nat} {l : List Nat} {p : Nat} (h : bestBy f l = some p) : p ∈ l := by
  induction l with
  | nil => exact nomatch h
  | cons a t ih =>
    rw [bestBy] at h
    split at h
    · next y hy =>
      split at h <;> cases h
      · exact List.mem_cons_of_mem _ (ih hy)
      · exact List.mem_cons_self
    · cases h
      exact List.mem_cons_self

/-- The ports that a cell may take at all. -/
def State.openPorts (s0 s : State) (b : Budget) (c : Cell) (x : Option Nat) : List Nat :=
  (List.range 32).filter fun p => x != some p && !s0.seatPort p && !(s0.takers s b p c).isEmpty

theorem State.mem_openPorts {s0 s : State} {b : Budget} {c : Cell} {x : Option Nat} {p : Nat} :
    p ∈ s0.openPorts s b c x ↔ p < 32 ∧ x ≠ some p ∧ s0.seatPort p = false ∧ s0.takers s b p c ≠ [] := by
  simp [State.openPorts, and_assoc]

/-- Whether the cell is to leave by another productive port than its preferred one. -/
def State.wantsOther (s0 s : State) (b : Budget) (e : Route) (c : Cell) (x : Option Nat) : Bool :=
  c.alt && epNode c.src.toNat == s.nodeId && !(((s0.openPorts s b c x).filter fun p => bit e.productive p).filter fun p => p != e.preferred).isEmpty

/-- The ports that are no deflection, without the preferred one where the cell asks for another. -/
def State.goodPorts (s0 s : State) (b : Budget) (e : Route) (c : Cell) (x : Option Nat) : List Nat :=
  if s0.wantsOther s b e c x then ((s0.openPorts s b c x).filter fun p => bit e.productive p).filter fun p => p != e.preferred
  else (s0.openPorts s b c x).filter fun p => bit e.productive p

theorem State.routePort_eq (s0 s : State) (b : Budget) (e : Route) (c : Cell) (x : Option Nat) : s0.routePort s b e c x =
    if (s0.openPorts s b c x).contains e.preferred = true ∧ ¬ s0.wantsOther s b e c x = true then some (e.preferred, false)
    else match s0.bestPort s c (s0.goodPorts s b e c x) with
      | some p => some (p, false)
      | none =>
        if s.senior c then none
        else match s0.bestPort s c ((s0.openPorts s b c x).filter fun p => bit e.neutral p) with
          | some p => some (p, true)
          | none => (s0.bestPort s c (s0.openPorts s b c x)).map fun p => (p, true) := by
  simp only [State.routePort, Bool.not_eq_true', Bool.not_eq_true]
  rfl

theorem State.mem_goodPorts {s0 s : State} {b : Budget} {e : Route} {c : Cell} {x : Option Nat} {p : Nat} (h : p ∈ s0.goodPorts s b e c x) :
    p ∈ s0.openPorts s b c x ∧ bit e.productive p = true := by
  unfold State.goodPorts at h
  split at h
  · exact List.mem_filter.mp (List.mem_filter.mp h).1
  · exact List.mem_filter.mp h

/-- Without a port that is no deflection, every productive port is closed. -/
theorem State.productive_closed {s0 s : State} {b : Budget} {e : Route} {c : Cell} {x : Option Nat} (h : s0.goodPorts s b e c x = [])
    {q : Nat} (hq : q < 32) (hbit : bit e.productive q = true) : s0.takers s b q c = [] ∨ s0.seatPort q = true ∨ x = some q := by
  have hother : s0.wantsOther s b e c x = false := by
    by_contra hw
    have hw' : s0.wantsOther s b e c x = true := by simpa using hw
    rw [State.goodPorts, if_pos hw'] at h
    simp [State.wantsOther, h] at hw'
  have hempty : (s0.openPorts s b c x).filter (fun p => bit e.productive p) = [] := by simpa [State.goodPorts, hother] using h
  have hclosed : q ∉ s0.openPorts s b c x := fun hopen => List.not_mem_nil (hempty ▸ List.mem_filter.mpr ⟨hopen, hbit⟩)
  rw [State.mem_openPorts] at hclosed
  by_contra hc
  obtain ⟨htake, hseat, hx⟩ : s0.takers s b q c ≠ [] ∧ s0.seatPort q = false ∧ x ≠ some q := by simpa using hc
  exact hclosed ⟨hq, hx, hseat, htake⟩

/-- How a cell leaves: by its preferred port, by a productive one, or deflected by any open one. -/
theorem State.routePort_cases {s0 s : State} {b : Budget} {e : Route} {c : Cell} {x : Option Nat} {p : Nat} {d : Bool}
    (h : s0.routePort s b e c x = some (p, d)) : p ∈ s0.openPorts s b c x ∧ (d = false → p = e.preferred ∨ bit e.productive p = true) ∧
      (d = true → s.senior c = false ∧ s0.goodPorts s b e c x = []) := by
  rw [State.routePort_eq] at h
  split at h
  · next hpref =>
    cases h
    exact ⟨by simpa using hpref.1, fun _ => .inl rfl, nofun⟩
  split at h
  · next p' hbest =>
    cases h
    have hgood := State.mem_goodPorts (mem_of_bestBy hbest)
    exact ⟨hgood.1, fun _ => .inr hgood.2, nofun⟩
  next hnone =>
  split at h
  · cases h
  next hjunior =>
  have hdeflect : s.senior c = false ∧ s0.goodPorts s b e c x = [] := ⟨by simpa using hjunior, bestBy_eq_none.mp hnone⟩
  split at h
  · next p' hbest =>
    cases h
    exact ⟨(List.mem_filter.mp (mem_of_bestBy hbest)).1, nofun, fun _ => hdeflect⟩
  · obtain ⟨p', hbest, heq⟩ := Option.map_eq_some_iff.mp h
    cases heq
    exact ⟨mem_of_bestBy hbest, nofun, fun _ => hdeflect⟩

/-- Settles O30, by the three ways of leaving. -/
theorem routingFollowsR175 : Obligations.RoutingFollowsR175 := by
  intro s0 s b e c x
  refine ⟨fun hlt htake hseat hx hstay => ?_, fun p d h => ?_⟩
  · have hopen : e.preferred ∈ s0.openPorts s b c x := State.mem_openPorts.mpr ⟨hlt, hx, hseat, htake⟩
    have hother : s0.wantsOther s b e c x = false := by rcases hstay with h | h <;> simp [State.wantsOther, h]
    rw [State.routePort_eq, if_pos (by simp [hopen, hother])]
  · obtain ⟨hopen, hgood, hdeflect⟩ := State.routePort_cases h
    obtain ⟨hlt, hx, hseat, htake⟩ := State.mem_openPorts.mp hopen
    exact ⟨hlt, htake, hseat, hx, hgood, fun hd => ⟨(hdeflect hd).1, fun q hq hbit => State.productive_closed (hdeflect hd).2 hq hbit⟩⟩

end Sys2Proof.Machine
end

section
/-! Registers behind the journal, and two families of rows that write them: injection rates (R185, R188, R189) and completion queues
(R221, R229, R230). -/

namespace Sys2Proof.Machine

/-! ## What an entry of the journal leaves of the registers -/

/-- An offset in the blocks from the switch to the ERU, where neither the journal nor a fault writes. -/
def blockReg (off : Nat) : Prop := 0x480064 ≤ off ∧ off < 0x3000000

theorem not_farReg_of_block {off : Nat} (h : blockReg off) : ¬ farReg off := by
  obtain ⟨hlo, hhi⟩ := h
  rintro (⟨-, h1⟩ | ⟨w, -, rfl⟩)
  · omega
  · unfold R.win at hhi
    omega

theorem State.raiseKeyed_reg_block (s : State) (key : Nat) {code off : Nat} (hcode : code < 128) (h : blockReg off) (unit d : Nat) :
    (s.raiseKeyed key code unit d).reg off = s.reg off := by
  obtain ⟨hlo, hhi⟩ := h
  refine s.raiseKeyed_reg key (not_farReg_of_block ⟨hlo, hhi⟩) ?_ ?_ ?_ unit d <;>
    simp only [R.faultLost, R.faultSeq, R.faultActive] <;> omega

theorem State.appendEntry_reg_block (s : State) (kind source : Nat) (body : List Byte) {off : Nat} (h : blockReg off) :
    (s.appendEntry kind source body).reg off = s.reg off := by
  obtain ⟨hlo, -⟩ := h
  exact State.reg_setReg_ne _ _ (by unfold R.scriptSeq; omega)

theorem State.paceScript_reg_block (s : State) {off : Nat} (h : blockReg off) : s.paceScript.reg off = s.reg off := by
  have hne : off ≠ R.scriptSeatHolds := by unfold blockReg at h; unfold R.scriptSeatHolds; omega
  have hhold (t : State) (b : Bool) : (if b then t.bump R.scriptSeatHolds else t).reg off = t.reg off := by
    split
    · exact State.reg_bump_ne _ hne
    · rfl
  unfold State.paceScript
  dsimp only
  split
  · rw [State.raiseLimited, State.raiseKeyed_reg_block _ _ (by decide) h, hhold]
    rfl
  · rw [hhold]
    rfl

theorem State.journal_reg_block (s : State) (kind source : Nat) (body : List Byte) {off : Nat} (h : blockReg off) :
    (s.journal kind source body).reg off = s.reg off := by
  unfold State.journal
  dsimp only
  split
  · rw [State.paceScript_reg_block _ h, State.appendEntry_reg_block _ _ _ _ h]
    split
    · exact State.appendEntry_reg_block _ _ _ _ h
    · rfl
  · rfl

theorem State.taken_reg_block (s : State) (a off : Nat) (v : Word) {o : Nat} (h : blockReg o) : (s.taken a off v).reg o = s.reg o :=
  State.journal_reg_block _ _ _ _ h

theorem State.taken_plt (s : State) (a off : Nat) (v : Word) : (s.taken a off v).plt = s.plt := by
  have hjournal (t : State) : (t.journalReg a off v).plt = t.plt := State.agree_of_allBut .plt (by simp)
  exact hjournal _

theorem State.taken_clk (s : State) (a off : Nat) (v : Word) : (s.taken a off v).clk = s.clk := by
  have hjournal (t : State) : (t.journalReg a off v).clk = t.clk := State.agree_of_allBut .clk (by simp)
  exact hjournal _

/-! ## Injection rates and echoes -/

@[simp] theorem State.setRate_rateOf_self (s : State) (node r : Nat) : (s.setRate node r).rateOf node = r := tabGet_set_self _ _ _ _

theorem State.setRate_rateOf_ne (s : State) {node k : Nat} (r : Nat) (h : k ≠ node) : (s.setRate node r).rateOf k = s.rateOf k :=
  tabGet_set_ne _ _ _ h

theorem State.rateOf_congr {s t : State} (h : t.csw.rates = s.csw.rates) (k : Nat) : t.rateOf k = s.rateOf k := by
  unfold State.rateOf
  rw [h]

/-- Whether an echo came within DEC_GAP of the node's last decrease (R188). -/
def State.echoSoon (s : State) (node : Nat) : Bool :=
  match tabFind s.csw.lastDec node with
  | some t => decide (s.now < t + s.decGap)
  | none => false

theorem State.applyEcho_soon {s : State} {node : Nat} (h : s.echoSoon node = true) :
    s.applyEcho node = (s.setCsw { s.csw with lastEcho := tabInsert s.csw.lastEcho node s.now }).bump R.echoIgnored :=
  if_pos h

theorem State.applyEcho_rates {s : State} {node : Nat} (h : s.echoSoon node = false) :
    (s.applyEcho node).csw.rates = (s.setRate node (max 1 (s.rateOf node - max 1 (s.rateOf node / 8)))).csw.rates := by
  unfold State.applyEcho
  dsimp only
  rw [if_neg (by rw [← Bool.not_eq_true] at h; exact h)]
  simp only [State.setCsw_csw, State.bump_csw]
  rfl

theorem State.echoSoon_eq_false {s : State} {node : Nat} (h : ∀ u, tabFind s.csw.lastDec node = some u → u + s.decGap ≤ s.now) :
    s.echoSoon node = false := by
  unfold State.echoSoon
  split
  · next t ht => simpa using h t ht
  · rfl

theorem State.takeEjected_rates (s : State) (c : Cell) :
    (s.takeEjected c).csw.rates = s.csw.rates ∧ (s.takeEjected c).csw.lastDec = s.csw.lastDec := by
  unfold State.takeEjected
  split
  · exact ⟨rfl, rfl⟩
  · constructor <;> (simp only [Csw.relatch]; split_ifs <;> rfl)

theorem State.echoSoon_takeEjected (s : State) (c : Cell) (node : Nat) : (s.takeEjected c).echoSoon node = s.echoSoon node := by
  unfold State.echoSoon State.decGap
  rw [(s.takeEjected_rates c).2, State.takeEjected_now, State.takeEjected_fld]

theorem execEchoRx_applies {c : Cell} {s : State} (hrun : s.running = true) (hc : cellIs c 0x15 = true) :
    execEchoRx c s = .next ((s.takeEjected c).applyEcho (epNode c.src.toNat)) := by
  simp [execEchoRx, hrun, hc]

/-- An echo moves no other node's rate. -/
theorem State.applyEcho_rateOf_ne (s : State) {node k : Nat} (h : k ≠ node) : (s.applyEcho node).rateOf k = s.rateOf k := by
  cases hsoon : s.echoSoon node with
  | true => rw [State.applyEcho_soon hsoon]; exact State.rateOf_congr (by simp) k
  | false => exact (State.rateOf_congr (State.applyEcho_rates hsoon) k).trans (s.setRate_rateOf_ne _ h)

/-- Settles O32: an echo, the end of its wait, the period without one, and the fence. -/
theorem ratesFollowEchoes : Obligations.RatesFollowEchoes := by
  refine ⟨?echo, ?wait, ?period, ?fence⟩
  case echo =>
    intro c s hrun hc
    have hrate (k : Nat) : (s.takeEjected c).rateOf k = s.rateOf k := State.rateOf_congr (s.takeEjected_rates c).1 k
    refine ⟨_, execEchoRx_applies hrun hc, fun hlate => ?_, fun u hu hearly => ?_, fun k hk => (State.applyEcho_rateOf_ne _ hk).trans (hrate k)⟩
    · have hsoon := (s.echoSoon_takeEjected c _).trans (State.echoSoon_eq_false hlate)
      rw [State.rateOf_congr (State.applyEcho_rates hsoon), State.setRate_rateOf_self, hrate]
    · have hsoon : (s.takeEjected c).echoSoon (epNode c.src.toNat) = true := by
        rw [State.echoSoon_takeEjected, State.echoSoon, hu]
        exact decide_eq_true hearly
      rw [State.applyEcho_soon hsoon, State.toNat_reg_bump_self]
      refine ⟨?_, by simp⟩
      simp only [State.bump_csw, State.setCsw_csw]
      exact (s.takeEjected_rates c).1
  case wait =>
    intro node since s hrun hsince hlate
    have hgo : execEchoWait node s =
        .next (((s.setCsw { s.csw with echoes := tabErase s.csw.echoes node }).injectCell (s.mkCell 0x15 node 0 0 0)).bump R.echoTx) := by
      simp [execEchoWait, hsince, hrun, hlate]
    refine ⟨_, hgo, ?_, ?_⟩ <;> simp only [State.bump_csw]
    · exact tabFind_erase_self _ _
    · rfl
  case period =>
    intro node s hrun hrate hlate
    have hgo : ¬ (! s.running) = true := by simp [hrun]
    exact ⟨_, (if_neg hgo).trans (if_pos ⟨hrate, hlate⟩), s.setRate_rateOf_self _ _, fun k hk => s.setRate_rateOf_ne _ hk⟩
  case fence =>
    intro a v s hmay
    refine ⟨_, congrArg Host.Outcome.next (State.fmRw_eq v _ hmay), ?_, ?_⟩
    · rw [State.fld_setFld_self _ _ _ _ _ (by decide), Nat.mod_eq_of_lt (bits_lt _ _ _)]
    · rw [State.fld_setFld_above _ _ _ _ _ _ _ (by decide) (by decide)]
      exact State.fld_of_reg (s.taken_reg_block a _ v (by unfold blockReg R.seatFence; omega)) 16 16

/-! ## Completion queues -/

/-- What a write of CQ_CFG that is made leaves in the register. -/
def cqCfgFields (log : Nat) (want : Bool) (owner : Nat) : List (Nat × Nat × Nat) := [(0, 5, log), (5, 1, b2n want), (6, 4, owner)]

/-- The state with a CQ_CFG write noted and journalled, and its fields stored. -/
def State.cqConfigured (s : State) (a q : Nat) (v : Word) (log : Nat) : State :=
  (s.taken a (R.cqCfg q) v).setReg (R.cqCfg q) (pack 32 (cqCfgFields log (bit v 5) (bits v 6 4)))

theorem State.cqConfigured_reads (s : State) (a q : Nat) (v : Word) {log : Nat} (hlog : log < 32) :
    (s.cqConfigured a q v log).cqEnabled q = bit v 5 ∧ (s.cqConfigured a q v log).fld (R.cqCfg q) 0 5 = log ∧
      (s.cqConfigured a q v log).cqOwner q = bits v 6 4 := by
  have hlaid : laidFrom 0 (cqCfgFields log (bit v 5) (bits v 6 4)) = true := rfl
  have hreg : (s.cqConfigured a q v log).reg (R.cqCfg q) = pack 32 (cqCfgFields log (bit v 5) (bits v 6 4)) := State.reg_setReg_self _ _ _
  refine ⟨?_, ?_, ?_⟩
  · rw [State.cqEnabled, hreg]
    exact bit_pack hlaid (by simp [cqCfgFields]) (by decide)
  · rw [State.fld, hreg, bits_pack hlaid (v := log) (by simp [cqCfgFields]) (by decide), Nat.mod_eq_of_lt (by omega)]
  · rw [State.cqOwner, State.fld, hreg, bits_pack hlaid (v := bits v 6 4) (by simp [cqCfgFields]) (by decide), Nat.mod_eq_of_lt (bits_lt _ _ _)]

theorem State.cqCfgWrite_refused {s : State} {a q : Nat} {v : Word} (h : s.mayWriteCq a q = false ∨ (s.srcFm a = false ∧ bits v 6 4 ≠ s.cqOwner q)) :
    s.cqCfgWrite a q v = s.violation a 4 true (R.cqCfg q) :=
  if_pos (by simpa using h)

theorem State.mayConfigureCq {s : State} {a q : Nat} {v : Word} (hmay : s.mayWriteCq a q = true)
    (howner : s.srcFm a = true ∨ bits v 6 4 = s.cqOwner q) : ¬ (! s.mayWriteCq a q || (! s.srcFm a && bits v 6 4 != s.cqOwner q)) = true := by
  rcases howner with h | h <;> simp [hmay, h]

theorem State.cqCfgWrite_enables {s : State} {a q : Nat} {v : Word} (hmay : s.mayWriteCq a q = true)
    (howner : s.srcFm a = true ∨ bits v 6 4 = s.cqOwner q) (hacts : s.writeActs a (R.cqCfg q)) (hoff : s.cqEnabled q = false)
    (hlo : 6 ≤ bits v 0 5) (hhi : bits v 0 5 ≤ 16) (hfits : s.ringFits (s.reg64 (R.cqBase q)) (bits v 0 5) = true) :
    s.cqCfgWrite a q v = s.cqConfigured a q v (bits v 0 5) := by
  unfold State.cqCfgWrite
  dsimp only
  rw [if_neg (State.mayConfigureCq hmay howner), if_neg (by simp [hoff, hlo, hhi, hfits]), if_neg (by simp [hoff, hlo, hhi]),
    State.lastWins_eq _ hacts.2, State.unlessHeld_eq _ _ _ (by exact hacts.1), if_neg (by simp [hoff]), hoff]
  rfl

theorem State.cqCfgWrite_disables {s : State} {a q : Nat} {v : Word} (hmay : s.mayWriteCq a q = true)
    (howner : s.srcFm a = true ∨ bits v 6 4 = s.cqOwner q) (hacts : s.writeActs a (R.cqCfg q)) (hon : s.cqEnabled q = true)
    (hwant : bit v 5 = false) : ∃ drains, s.cqCfgWrite a q v =
      (s.cqConfigured a q v (s.fld (R.cqCfg q) 0 5)).setXfr { (s.cqConfigured a q v (s.fld (R.cqCfg q) 0 5)).xfr with drains := drains } ∧
      (Drain.queue (Fin.ofNat 256 q), s.now, s.now + s.timer 2 * 1000) ∈ drains := by
  have hnow : (s.cqConfigured a q v (s.fld (R.cqCfg q) 0 5)).now = s.now :=
    State.now_congr (s.taken_clk _ _ _)
  have htimer : (s.cqConfigured a q v (s.fld (R.cqCfg q) 0 5)).timer 2 = s.timer 2 :=
    State.timer_congr (s.taken_plt _ _ _) 2
  refine ⟨((s.cqConfigured a q v (s.fld (R.cqCfg q) 0 5)).xfr.drains.filter fun e => decide (e.1 ≠ .queue (Fin.ofNat 256 q))) ++
    [(.queue (Fin.ofNat 256 q), s.now, s.now + s.timer 2 * 1000)], ?_, by simp⟩
  unfold State.cqCfgWrite
  dsimp only
  rw [if_neg (State.mayConfigureCq hmay howner), if_neg (by simp [hwant]), if_neg (by simp [hon]),
    State.lastWins_eq _ hacts.2, State.unlessHeld_eq _ _ _ (by exact hacts.1), if_pos (by simp [hon, hwant]), hon, if_pos rfl, ← hnow, ← htimer]
  rfl

/-- The state behind a HEAD write that is made, before the records that waited for room. -/
def State.cqHeadMoved (s : State) (a q : Nat) (v : Word) : State :=
  let t : State := { s with kpr := { s.kpr with wroteAt := tabInsert s.kpr.wroteAt (R.cqHead q) (s.clk.count, a) } }
  (t.setReg (R.cqHead q) (BitVec.ofNat 32 (bits v 0 16))).setCq q
    { t.cq q with consumed := consumedTo (t.cq q).written (t.cq q).consumed (bits v 0 16) }

theorem State.cq_setCq_self (s : State) (q : Nat) (c : Cq) : (s.setCq q c).cq q = c := tabGet_set_self _ _ _ _

theorem State.cqHeadSet_moves {s : State} {a q : Nat} {v : Word} (hmay : s.mayWriteCq a q = true) (hfirst : s.foremost a (R.cqHead q))
    (hwaiting : (s.cq q).waiting = []) : s.cqHeadSet a q v = s.cqHeadMoved a q v := by
  have hempty : ((s.cqHeadMoved a q v).cq q).waiting = [] := by
    rw [State.cqHeadMoved, State.cq_setCq_self]
    exact hwaiting
  have hset : s.cqHeadSet a q v = (s.cqHeadMoved a q v).drainWaiting q ((s.cqHeadMoved a q v).cq q).waiting.length := by
    unfold State.cqHeadSet
    rw [if_neg (by simp [hmay]), State.lastWins_eq _ hfirst]
    rfl
  rw [hset, hempty]
  rfl

/-- Settles O41: the owner's HEAD, its CFG with ENABLE rising and falling, and the window without the right. -/
theorem completionQueuesFollowTheirOwner : Obligations.CompletionQueuesFollowTheirOwner := by
  refine ⟨?head, ?enable, ?disable, ?refused⟩
  case head =>
    intro a q v s hmay hfirst hwaiting
    refine ⟨_, congrArg Host.Outcome.next (State.cqHeadSet_moves hmay hfirst hwaiting), ?_, rfl, ?_⟩
    swap
    · exact State.cq_setCq_self _ _ _
    have hreg : (s.cqHeadMoved a q v).reg (R.cqHead q) = BitVec.ofNat 32 (bits v 0 16) := State.reg_setReg_self _ _ _
    rw [State.fld, hreg, bits, BitVec.toNat_ofNat]
    have := bits_lt v 0 16
    omega
  case enable =>
    intro a q v s hmay howner hacts hoff hwant hlo hhi hfits
    obtain ⟨hon, hlog, hown⟩ := s.cqConfigured_reads a q v (log := bits v 0 5) (by omega)
    exact ⟨_, congrArg Host.Outcome.next (State.cqCfgWrite_enables hmay howner hacts hoff hlo hhi hfits), hon.trans hwant, hlog, hown⟩
  case disable =>
    intro a q v s _ hmay howner hacts hon hwant
    obtain ⟨drains, hwrite, hdrain⟩ := State.cqCfgWrite_disables hmay howner hacts hon hwant
    obtain ⟨hoff, hlog, -⟩ := s.cqConfigured_reads a q v (log := s.fld (R.cqCfg q) 0 5) (bits_lt _ _ _)
    refine ⟨_, congrArg Host.Outcome.next hwrite, ?_, ?_, hdrain⟩
    · rw [State.cqEnabled, State.setXfr_reg]
      exact hoff.trans hwant
    · rw [State.setXfr_fld]
      exact hlog
  case refused =>
    refine fun a q v s h => ⟨fun hmay => ?_, congrArg Host.Outcome.next (State.cqCfgWrite_refused h), congrArg Host.Outcome.next (State.cqCfgWrite_refused h)⟩
    exact congrArg Host.Outcome.next (if_pos (by simp [hmay]))

end Sys2Proof.Machine
end

section
/-! Admission and the timers of contexts (chapters 10 and 11), and the rows of the UPDATE engine (chapter 12). -/

namespace Sys2Proof.Machine

theorem if_running {s : State} (h : s.running = true) {α : Type} (a b : α) : (if (! s.running) = true then a else b) = b :=
  if_neg (by simp [h])

theorem State.ctx_setCtx_self (s : State) (k : Nat) (c : Ctx) : (s.setCtx k c).ctx k = some c := tabFind_insert_self _ _ _

/-! ## Contexts -/

theorem execContextAdmit_of_open {w : Waiting} {s : State} (hrun : s.running = true) (hgrant : s.mayGrant = true) (hopen : s.nextOpen = some w) :
    execContextAdmit s = .next (s.admitOpen w).settleAll := by
  rw [execContextAdmit, if_running hrun, if_pos hgrant, hopen]

/-- Whether a member has waited one context timeout for its context. -/
def State.waitedOut (s : State) (w : Waiting) : Bool := decide (w.since + s.ctxTimeout ≤ s.now)

theorem execMemberWaitTimeout_grants {s : State} (hrun : s.running = true) (hgrant : s.mayGrant = true) : execMemberWaitTimeout s =
    .next ((s.col.waiting.filter s.waitedOut).foldl (fun t w => t.refuseJoin w.issue ⟨2, 40⟩)
      (s.setCol { s.col with waiting := s.col.waiting.filter fun w => !s.waitedOut w })) := by
  rw [execMemberWaitTimeout, if_running hrun, if_neg (by simp [hgrant])]
  rfl

theorem execRegrant_live {k : CtxIx} {c : Ctx} {s : State} (hrun : s.running = true) (hctx : s.ctx k = some c) (hlive : c.live = true)
    (hgrant : s.mayGrant = true) : execRegrant k s = .next (s.regrantCtx k c false).settleAll := by
  simp [execRegrant, hrun, hctx, hlive, hgrant]

/-- What a context timeout settles, by the operation of the context. -/
def State.timeoutCtx (s : State) (k : Nat) (c : Ctx) : State :=
  match c.code with
  | 0x20 => (s.timeoutRed k c).settleAll
  | 0x24 => (s.timeoutValue k c).settleAll
  | 0x26 => (s.timeoutValue k c).settleAll
  | 0x22 => (s.timeoutGather k c).settleAll
  | 0x25 => (s.timeoutGather k c).settleAll
  | 0x23 => (s.timeoutA2a k c).settleAll
  | 0x50 => (s.timeoutSweep k c).settleAll
  | _ => s

theorem execContextTimeout_live {k : CtxIx} {c : Ctx} {s : State} (hrun : s.running = true) (hctx : s.ctx k = some c) (hlive : c.live = true)
    (hgrant : s.mayGrant = true) : execContextTimeout k s = .next (s.timeoutCtx k c) := by
  simp only [execContextTimeout, State.timeoutCtx, if_running hrun, hctx, hlive, hgrant, Bool.not_true, Bool.false_eq_true, or_self, if_false]
  split <;> simp [*]

/-- The state of a deferred segment whose replay begins: its turn is taken, and its context replays it. -/
def State.replayStarted (s : State) (k : Nat) (c : Ctx) (n : Nat) (x : Seg) (rest : List (Nat × Nat)) : State :=
  (s.setCol { s.col with defers := rest }).setCtx k { c.putSeg n { x with sstate := 3 } with replaying := some n }

theorem execReplayPass_starts {k : CtxIx} {c : Ctx} {n : Nat} {x : Seg} {rest : List (Nat × Nat)} {s : State} (hrun : s.running = true)
    (hdefers : s.col.defers = (k.val, n) :: rest) (hctx : s.ctx k = some c) (hactive : c.state = .active) (hsegs : c.liveSegs = [])
    (hgrant : s.mayGrant = true) (hidle : (s.col.ctxs.any fun e => e.2.replaying.isSome) = false) (hseg : c.seg n = some x) :
    execReplayPass k s = .next ((s.replayStarted k c n x rest).replaySenders k n).settleAll := by
  simp only [execReplayPass, if_running hrun, hdefers, hctx, hactive, hsegs, hgrant, hidle, hseg, State.replayStarted, ne_eq, not_true, List.isEmpty_nil,
    Bool.not_true, Bool.false_eq_true, or_self, if_false]

theorem State.releaseBarrier_of_release {k : Nat} {c : Ctx} {r : Nat} {s : State} (hctx : s.ctx k = some c) (hrelease : c.release = some r) :
    s.releaseBarrier k = if s.now < r ∨ (! s.mayGrant) = true then s else (s.closeBarrier k c ⟨0, 0⟩ r).advanceStep c.desc := by
  simp only [State.releaseBarrier, hctx, hrelease]

theorem execBarrierRelease_running {k : CtxIx} {s : State} (hrun : s.running = true) : execBarrierRelease k s = .next (s.releaseBarrier k) := by
  rw [execBarrierRelease, if_running hrun]

/-- A sweep whose members all answered has nothing to send again: its context is written as it stands. -/
theorem execSweepResend_done {k : CtxIx} {c : Ctx} {s : State} (hrun : s.running = true) (hctx : s.ctx k = some c) (hcode : c.code = 0x50)
    (hlive : c.live = true) (hdone : ∀ y, y ∈ c.sweeps → y.done = true) : execSweepResend k s = .next (s.setCtx k c) := by
  have hnone (p : SentSweep → Bool) (q : SentSweep → Bool) : c.sweeps.filter (fun y => !y.done && p y && q y) = [] := by
    rw [List.filter_eq_nil_iff]
    intro y hy
    simp [hdone y hy]
  have hmap (p : SentSweep → Bool) (q : SentSweep → Bool) :
      c.sweeps.map (fun y => if (!y.done && p y && q y) = true then { y with last := s.now } else y) = c.sweeps := by
    refine (List.map_congr_left fun y hy => ?_).trans (List.map_id _)
    simp [hdone y hy]
  simp only [execSweepResend, if_running hrun, hctx, hcode, hlive, ne_eq, not_true, Bool.not_true, Bool.false_eq_true, or_self, if_false,
    hnone, hmap, List.foldl_nil]

/-- In a freeze no context is granted, admitted, timed out or released. -/
theorem contextTimers_frozen {s : State} (hfrozen : s.mayGrant = false) (k : CtxIx) :
    execContextAdmit s = .next s ∧ execMemberWaitTimeout s = .next s ∧ execRegrant k s = .next s ∧ execContextTimeout k s = .next s ∧
      execReplayPass k s = .next s ∧ execBarrierRelease k s = .next s := by
  refine ⟨?_, ?_, ?_, ?_, ?_, ?_⟩
  · simp [execContextAdmit, hfrozen]
  · simp [execMemberWaitTimeout, hfrozen]
  · unfold execRegrant
    split
    · rfl
    · split <;> simp [hfrozen]
  · unfold execContextTimeout
    split
    · rfl
    · split <;> simp [hfrozen]
  · unfold execReplayPass
    split
    · rfl
    · split <;> simp [hfrozen]
  · unfold execBarrierRelease State.releaseBarrier
    split
    · rfl
    · split
      · rfl
      · split <;> simp [hfrozen]

/-- Settles O45: each timer of contexts at a running node, and in a freeze. -/
theorem contextTimersAct : Obligations.ContextTimersAct := by
  refine ⟨fun w s hrun hgrant hopen => execContextAdmit_of_open hrun hgrant hopen, ?wait, fun k c s => execRegrant_live, ?timeout, ?replay,
    ?barrier, ?sweep, ?frozen⟩
  case wait =>
    refine fun s hrun hgrant => ⟨_, execMemberWaitTimeout_grants hrun hgrant, fun hnone => ?_, fun w hone hlate => ?_⟩
    · have hkeep : ∀ w ∈ s.col.waiting, s.waitedOut w = false := fun w hw => decide_eq_false (Nat.not_le.mpr (hnone w hw))
      have hstay : s.col.waiting.filter (fun w => !s.waitedOut w) = s.col.waiting := by
        rw [List.filter_eq_self]
        intro w hw
        simp [hkeep w hw]
      have hout : s.col.waiting.filter s.waitedOut = [] := by
        rw [List.filter_eq_nil_iff]
        intro w hw
        simp [hkeep w hw]
      rw [hstay, hout]
      rfl
    · have hout : s.waitedOut w = true := decide_eq_true hlate
      simp [hone, hout]
  case timeout =>
    refine fun k c s hrun hctx hlive hgrant => ⟨_, execContextTimeout_live hrun hctx hlive hgrant, ?_, ?_, ?_, ?_, ?_⟩
    · intro h
      simp only [State.timeoutCtx, h]
    · rintro (h | h) <;> simp only [State.timeoutCtx, h]
    · rintro (h | h) <;> simp only [State.timeoutCtx, h]
    · intro h
      simp only [State.timeoutCtx, h]
    · intro h
      simp only [State.timeoutCtx, h]
  case replay =>
    intro k c n x rest s hrun hdefers hctx hactive hsegs hgrant hidle hseg
    exact ⟨s.replayStarted k c n x rest, execReplayPass_starts hrun hdefers hctx hactive hsegs hgrant hidle hseg, rfl, State.ctx_setCtx_self _ _ _⟩
  case barrier =>
    intro k c r s hrun hctx hrelease
    have hrelease' := State.releaseBarrier_of_release hctx hrelease
    refine ⟨fun hdue hgrant => ?_, fun hearly => ?_⟩ <;> refine (execBarrierRelease_running hrun).trans (congrArg _ (hrelease'.trans ?_))
    · exact if_neg (by simp [hgrant, hdue])
    · exact if_pos (.inl hearly)
  case sweep => exact fun k c s hrun hctx hcode hlive hdone => ⟨_, execSweepResend_done hrun hctx hcode hlive hdone, State.ctx_setCtx_self _ _ _, rfl⟩
  case frozen =>
    intro k s _ hfrozen x hx
    obtain ⟨hadmit, hwait, hregrant, htimeout, hreplay, hrelease⟩ := contextTimers_frozen hfrozen k
    simp only [List.mem_cons, List.not_mem_nil, or_false] at hx
    obtain rfl | rfl | rfl | rfl | rfl | rfl := hx
    exacts [hadmit, hwait, hregrant, htimeout, hreplay, hrelease]

/-! ## The UPDATE engine -/

theorem execUpdateSegment_of_update {u : Fin 64} {x : Update} {s : State} (hrun : s.running = true) (hx : s.upd.queue[u.val]? = some x) :
    execUpdateSegment u s = .next (if s.runPlaces.any fun y => sameUpdate y x then (s.updateUnit x).settleAll else s) := by
  simp only [execUpdateSegment, if_running hrun, hx]

theorem execUpdateContextTimeout_of_update {u : Fin 64} {x : Update} {s : State} (hrun : s.running = true) (hx : s.upd.queue[u.val]? = some x)
    (hsrc : x.gsrc = 0) (hctx : x.ctx = none) (hopen : x.ended = false) : execUpdateContextTimeout u s =
      .next (if s.mayGrant = true ∧ x.since + s.ctxTimeout ≤ s.now then s.endUpdate x ⟨2, 40⟩ 0 else s) := by
  simp only [execUpdateContextTimeout, if_running hrun, hx, hsrc, hctx, hopen, Option.isNone_none, Bool.not_false, true_and]

theorem execUpdateGateTimeout_of_update {u : Fin 64} {x : Update} {s : State} (hrun : s.running = true) (hx : s.upd.queue[u.val]? = some x)
    (hgate : x.gateOpen = false) (hctxs : s.col.ctxs = []) (hqueue : s.col.queue = []) : execUpdateGateTimeout u s =
      .next (if s.mayGrant = true ∧ x.since + s.ctxTimeout ≤ s.now then ((s.raiseFault 58 0xFFFF 1 0).endUpdate x ⟨2, 51⟩ 0).settleAll else s) := by
  simp only [execUpdateGateTimeout, if_running hrun, hx, hgate, hctxs, hqueue, List.any_nil, Bool.or_self, Bool.not_false, true_and]

theorem timeout_if {s a b : State} {x : Update} : (s.mayGrant = true → x.since + s.ctxTimeout ≤ s.now →
      (if s.mayGrant = true ∧ x.since + s.ctxTimeout ≤ s.now then a else b) = a) ∧
    (s.mayGrant = false ∨ s.now < x.since + s.ctxTimeout → (if s.mayGrant = true ∧ x.since + s.ctxTimeout ≤ s.now then a else b) = b) := by
  refine ⟨fun hgrant hlate => if_pos ⟨hgrant, hlate⟩, fun h => if_neg fun ⟨hgrant, hlate⟩ => ?_⟩
  rcases h with h | h
  · simp [h] at hgrant
  · omega

/-- What a key written to a block of cells does: a changed one empties the block (R374). -/
def State.cellsKeyed (s : State) (b key : Nat) : State :=
  (s.setFld (R.cellKey b) 0 16 key).setEru { s.eru with
    cells := s.eru.cells.filter fun e => e.1 / 64 != b
    badCells := s.eru.badCells.filter fun k => k / 64 != b
    keyed := s.eru.keyed ++ [b] }

theorem execEruCellKeyWrite_eq {a : Source} {b : Fin 1024} {v : Word} {s : State} (hmay : s.mayWrite a (R.cellKey b)) :
    execEruCellKeyWrite a b v s = .next (if bits v 0 16 = (s.taken a (R.cellKey b) v).fld (R.cellKey b) 0 16 then s.taken a (R.cellKey b) v
      else (s.taken a (R.cellKey b) v).cellsKeyed b (bits v 0 16)) :=
  congrArg Host.Outcome.next (State.fmRw_eq v _ hmay)

theorem State.cellsKeyed_key (s : State) (b : Nat) (v : Word) : (s.cellsKeyed b (bits v 0 16)).fld (R.cellKey b) 0 16 = bits v 0 16 := by
  rw [State.cellsKeyed, State.setEru_fld, State.fld_setFld_self _ _ _ _ _ (by decide), Nat.mod_eq_of_lt (bits_lt _ _ _)]

/-- Settles O46: a unit of work, the two timeouts, and the key of a block. -/
theorem updatesRunAndTimeOut : Obligations.UpdatesRunAndTimeOut := by
  refine ⟨?run, ?context, ?gate, ?key⟩
  case run =>
    intro u x s hrun hx
    exact ⟨_, execUpdateSegment_of_update hrun hx, fun h => if_pos h, fun h => if_neg (by simp [h])⟩
  case context =>
    intro u x s hrun hx hsrc hctx hopen
    exact ⟨_, execUpdateContextTimeout_of_update hrun hx hsrc hctx hopen, timeout_if⟩
  case gate =>
    intro u x s hrun hx hgate hctxs hqueue
    exact ⟨_, execUpdateGateTimeout_of_update hrun hx hgate hctxs hqueue, timeout_if⟩
  case key =>
    rintro a b v s _ hmay rfl
    refine ⟨_, execEruCellKeyWrite_eq hmay, ?_, fun hchanged => ?_, fun hsame => if_pos hsame⟩
    · split
      · next hsame => exact hsame.symm
      · exact State.cellsKeyed_key _ _ _
    · rw [if_neg hchanged]
      exact ⟨by simp [State.cellsKeyed, State.setEru], fun e => by simp [State.cellsKeyed, State.setEru]⟩

end Sys2Proof.Machine
end

section
/-! The intermission (R409 to R415, R493), COMMIT (R494) and the rows of the script journal (R417, R419). -/

namespace Sys2Proof.Machine

/-! ## The intermission -/

/-- The state at the freeze time, in the hush. -/
def State.hushed (s : State) : State :=
  s.setIntm { s.intm with state := .hush, seqAt := s.reg R.scriptSeq, stateAt := (s.plt.active.map fun v => v.state).getD 0 }

theorem execFreeze_due {s : State} (hrun : s.running = true) (harmed : s.intm.state = .armed) (hdue : s.intm.freeze ≤ s.now) :
    execFreeze s = .next s.hushed := by
  rw [execFreeze, if_running hrun]
  exact if_pos ⟨harmed, hdue⟩

theorem State.quiet_iff (s : State) :
    s.quiet = true ↔ s.xfr.ops = [] ∧ (s.col.ctxs.any fun e => e.2.partly) = false ∧ s.prm.trackers = [] := by
  simp [State.quiet, and_assoc]

/-- At the limit a machine without operations and contexts loses the pieces that have arrived in part, and leaves the hush (R410). -/
theorem execHushLimit_due {s : State} (hrun : s.running = true) (hhush : s.intm.state = .hush) (hdue : s.intm.freeze + s.intm.limit ≤ s.now)
    (hops : s.xfr.ops = []) (hctxs : s.col.ctxs = []) : execHushLimit s = .next (if s.prm.trackers = [] then s.leaveHush else
      ((s.setPrm { s.prm with trackers := [] }).raiseFault 60 0xFFFF 1 0).leaveHush) := by
  have hnot : ¬ (s.intm.state ≠ .hush ∨ s.now < s.intm.freeze + s.intm.limit) := by
    simp only [hhush, ne_eq, not_true, false_or]
    omega
  rw [execHushLimit, if_running hrun, if_neg hnot]
  simp only [hops, List.filter_nil, List.foldl_nil, hctxs, List.map_nil, List.any_nil, List.isEmpty_nil, Bool.not_true, Bool.false_or]
  by_cases htrackers : s.prm.trackers = []
  · have hsame : s.setPrm { s.prm with trackers := [] } = s := by rw [← htrackers]; rfl
    have hquiet : s.quiet = true := s.quiet_iff.mpr ⟨hops, by simp [hctxs], htrackers⟩
    rw [hsame, if_pos htrackers]
    simp [htrackers, hquiet]
  · have hkeep (t : State) : (t.raiseFault 60 0xFFFF 1 0).xfr = t.xfr ∧ (t.raiseFault 60 0xFFFF 1 0).col = t.col ∧
        (t.raiseFault 60 0xFFFF 1 0).prm = t.prm :=
      ⟨State.agree_of_allBut .xfr (by simp), State.agree_of_allBut .col (by simp), State.agree_of_allBut .prm (by simp)⟩
    obtain ⟨hxfr, hcol, hprm⟩ := hkeep (s.setPrm { s.prm with trackers := [] })
    have hquiet : ((s.setPrm { s.prm with trackers := [] }).raiseFault 60 0xFFFF 1 0).quiet = true := by
      rw [State.quiet_iff, hxfr, hcol, hprm]
      exact ⟨hops, by simp [State.setPrm, hctxs], rfl⟩
    rw [if_neg htrackers]
    simp [htrackers, hquiet]

theorem execResumeTime_due {s : State} (hrun : s.running = true) (hrestore : s.intm.state = .restore) (hdue : s.intm.resumeAt ≤ s.now)
    (hctxs : s.col.ctxs = []) (hlost : s.intm.lost = []) (hresume : s.intm.resume = none) : execResumeTime s =
      .next ((s.setIntm { s.intm with state := .running, resume := none, onChip := false, lost := [] }).restartTimers).settleAll := by
  have hnot : ¬ (s.intm.state ≠ .restore ∨ s.now < s.intm.resumeAt) := by
    simp only [hrestore, ne_eq, not_true, false_or]
    omega
  have hempty (x : Intm) : (s.setIntm x).restartTimers.col.ctxs = [] := by
    simp [State.restartTimers, State.setUpd, State.setCol, State.setIntm, hctxs]
  rw [execResumeTime, if_running hrun, if_neg hnot]
  simp only [hempty, hlost, hresume, List.map_nil, List.foldl_nil]

/-- The state that the check of the hold-up energy has noted its period in. -/
def State.recheckNoted (s : State) : State := { s with kpr := { s.kpr with recheckAt := s.now / 10000 + 1 } }

theorem execHoldupRecheck_due {s : State} (hperiod : s.kpr.recheckAt ≠ s.now / 10000 + 1) (hcommits : s.commits = []) : execHoldupRecheck s =
    .next (if s.intm.state = .save then
      if s.holdupOk 256 then s.recheckNoted.showNeed 256 else (s.recheckNoted.holdupLow 256).endIntm { okComp with status := 13 }
    else s.recheckNoted) := by
  have hnone (f : State → Commit → State) : (s.recheckNoted.commits.filter fun c => !c.slot).foldl f s.recheckNoted = s.recheckNoted := by
    rw [show s.recheckNoted.commits = [] from hcommits]
    rfl
  refine (if_neg hperiod).trans ?_
  exact congrArg (fun u : State => Host.Outcome.next (if u.intm.state = .save then
      if u.holdupOk 256 then u.showNeed 256 else (u.holdupLow 256).endIntm { okComp with status := 13 }
    else u)) (hnone _)

/-- The state with the image's digest shown. -/
def State.digestShown (s : State) (h : BitVec 384) : State :=
  (List.range 12).foldl (fun t k => t.setReg (R.intmDigest + 4 * k) (BitVec.ofNat 32 (bytesAt h (4 * k) 4))) s

theorem State.digestShown_memory (s : State) (h : BitVec 384) : (s.digestShown h).memory = s.memory :=
  foldl_keeps State.memory (f := fun t k => t.setReg (R.intmDigest + 4 * k) (BitVec.ofNat 32 (bytesAt h (4 * k) 4))) (fun _ _ => rfl) _ s

/-- The state with the image of `s0` kept. -/
def State.imageKept (s s0 : State) (h : BitVec 384) : State :=
  (s.digestShown h).setIntm { (s.digestShown h).intm with imageOk := true, images := s0.snapshot h :: (s.digestShown h).intm.images }

theorem State.imageKept_memory (s s0 : State) (h : BitVec 384) : (s.imageKept s0 h).memory = s.memory := by
  rw [State.imageKept, State.setIntm_memory, State.digestShown_memory]

theorem State.imageKept_imageOk (s s0 : State) (h : BitVec 384) : (s.imageKept s0 h).intm.imageOk = true := by
  rw [State.imageKept, State.setIntm_intm]

theorem execImageWritten_written {i : Issue} {s s1 s2 : State} (hrun : s.running = true) (hsave : s.intm.state = .save)
    (hissue : s.intm.issue = some i)
    (hbody : (s.imageRecords.2).putBytes 0 (dDst i.desc + 256) (s.imageRecords.2.image s.imageRecords.1).2.1 = .ok s1)
    (hheld : s1.holdupOk 256 = true)
    (hhead : (s1.showNeed 256).putBytes 0 (dDst i.desc) (s.imageRecords.2.image s.imageRecords.1).1 = .ok s2) : ∃ u : State,
    execImageWritten s = .next (u.endIntm { okComp with value := (s.imageRecords.2.image s.imageRecords.1).2.2.toNat % 2 ^ 64 }) ∧
      u.intm.imageOk = true ∧ u.memory = s2.memory := by
  refine ⟨s2.imageKept s (s.imageRecords.2.image s.imageRecords.1).2.2, ?_, State.imageKept_imageOk _ _ _, State.imageKept_memory _ _ _⟩
  rw [execImageWritten, if_running hrun]
  simp only [hsave, hissue, hbody, hheld, hhead, Bool.not_true, Bool.false_eq_true, if_false]
  rfl

/-- Settles O47: the rows of the intermission in the order of its states. -/
theorem intermissionAdvances : Obligations.IntermissionAdvances := by
  refine ⟨fun s hrun harmed hdue => ⟨_, execFreeze_due hrun harmed hdue, rfl, rfl⟩, ?quiet, ?limit, fun s => execResumeTime_due, ?recheck,
    fun i s s1 s2 => execImageWritten_written⟩
  case quiet =>
    intro s hrun hhush hquiet
    change execHushQuiet s = _
    rw [execHushQuiet, if_running hrun, if_pos ⟨hhush, hquiet⟩]
  case limit =>
    intro s hrun hhush hdue hops hctxs
    have hlimit := execHushLimit_due hrun hhush hdue hops hctxs
    exact ⟨fun h => hlimit.trans (congrArg _ (if_pos h)), fun h => hlimit.trans (congrArg _ (if_neg h))⟩
  case recheck =>
    refine fun s => ⟨fun h => if_pos h, ?_⟩
    rintro hperiod hcommits u rfl
    exact execHoldupRecheck_due hperiod hcommits

/-! ## COMMIT -/

theorem execCommitSlotWrite_of_commit {c : Commit} {s : State} (hrun : s.running = true)
    (hc : (s.commits.find? fun x => !x.slot && s.commitAccepted x) = some c) : execCommitSlotWrite s =
      if (s.rangeFailed (dDst c.issue.desc) (dLen c.issue.desc) || s.rangeFailed c.slotAt 128) = true then .next (s.failCommit c ⟨8, 32⟩)
      else if (! s.holdupOk 128) = true then .next ((s.holdupLow 128).failCommit c ⟨13, 0⟩)
      else .next { (s.showNeed 128).writeAt c.slotAt (s.slotBytes c.issue.desc (c.seq + 1) c.digest) with
        commits := ((s.showNeed 128).writeAt c.slotAt (s.slotBytes c.issue.desc (c.seq + 1) c.digest)).commits.map fun x =>
          if x = c then { c with slot := true } else x } := by
  simp only [execCommitSlotWrite, if_running hrun, hc]

/-- A COMMIT whose slot is written stays in the list, marked. -/
theorem State.slotWritten_mem {c : Commit} {s : State} (hc : (s.commits.find? fun x => !x.slot && s.commitAccepted x) = some c) (d : List Byte) :
    { c with slot := true } ∈ ((s.showNeed 128).writeAt c.slotAt d).commits.map fun x => if x = c then { c with slot := true } else x := by
  have hsame : ((s.showNeed 128).writeAt c.slotAt d).commits = s.commits := State.agree_of_allBut .commits (by simp)
  rw [hsame]
  exact List.mem_map.mpr ⟨c, List.mem_of_find?_eq_some hc, if_pos rfl⟩

theorem State.dropCommit_only {c : Commit} {s : State} (h : s.commits = [c]) : (s.dropCommit c).commits = [] := by
  simp [State.dropCommit, h]

/-! ## The script journal -/

theorem State.scriptCfgSet_badRing {a : Nat} {v : Word} {u : State} (hon : bit v 0 = true) (hoff : u.scriptOn = false)
    (hring : u.scriptRingOk (u.reg64 R.scriptBase) (2 ^ bits v 8 6) = false) : u.scriptCfgSet a v = u.violation a 6 true R.scriptCfg := by
  simp [State.scriptCfgSet, hon, hoff, hring]

/-- Settles O48: the slot of a COMMIT and its end, and the three rows of the journal. -/
theorem commitAndScriptRowsAct : Obligations.CommitAndScriptRowsAct := by
  refine ⟨⟨?slot, ?none, ?done⟩, ?enable, ?close, ?release⟩
  case slot =>
    intro c s hrun hc
    have hwrite := execCommitSlotWrite_of_commit hrun hc
    refine ⟨fun hdata hslot => ⟨fun hheld => ?_, fun hlow => ?_⟩, fun hfailed => hwrite.trans (if_pos (by simpa using hfailed))⟩
    all_goals rw [if_neg (by simp [hdata, hslot])] at hwrite
    · exact ⟨_, hwrite.trans (if_neg (by simp [hheld])), State.slotWritten_mem hc _, rfl⟩
    · exact hwrite.trans (if_pos (by simp [hlow]))
  case none =>
    intro s hrun hnone
    change execCommitSlotWrite s = _
    simp only [execCommitSlotWrite, if_running hrun, hnone]
  case done =>
    intro c s hcommits hslot haccepted hchannel
    refine ⟨?_, State.dropCommit_only hcommits⟩
    simp [State.endCommit, hslot, haccepted, hchannel]
  case enable =>
    rintro a v s _ hmay rfl
    have hcfg : s.scriptCfgWrite a v = (s.taken a R.scriptCfg v).scriptCfgSet a v := State.fmRw_eq v _ hmay
    have hon (h : bit v 0 = true) : exec (.scriptEnable a v) s = .next ((s.taken a R.scriptCfg v).scriptCfgSet a v) :=
      congrArg Host.Outcome.next ((if_pos h).trans hcfg)
    refine ⟨hon, fun hoff => congrArg Host.Outcome.next (if_neg (by simp [hoff])), fun h hoff hring => (hon h).trans (congrArg _ ?_)⟩
    exact State.scriptCfgSet_badRing h hoff hring
  case close =>
    intro r s hr
    have hclose : execHostDataClose s = .next (if r.last + 1000 ≤ s.now then s.closeRun else s) := by simp only [execHostDataClose, hr]
    exact ⟨_, hclose, fun hdue => if_pos hdue, fun hearly => if_neg (by omega)⟩
  case release => exact fun s hheld => ⟨fun hroom => if_pos ⟨hheld, hroom⟩, fun hfull => if_neg fun h => absurd h.2 (by omega)⟩

end Sys2Proof.Machine
end

section
/-! The mailbox (R424 to R430). -/

namespace Sys2Proof.Machine

/-- The commands of the mailbox, each with the type of its message. -/
def mailboxRows (w : Win) : List (Instr × Nat) :=
  [(.attestReq w, 1), (.share w, 2), (.certReq w, 3), (.recordGet w, 4), (.enrol w, 5), (.revoke w, 6)]

/-- What an accepted message of type `n` leaves: its answer in the window, or a fuse write that has started (R428, R430). -/
def State.mailboxAnswered (t : State) (w : Win) (n : Nat) : Prop :=
  t.winReg w R.mbxStatus = 2 ∨ (4 < n ∧ t.winReg w R.mbxStatus = 1 ∧ ∃ f, t.sec.fuse = some f ∧ f.window = w.val ∧ f.revoke = decide (n = 6))

theorem State.mbxAnswer_answered (s : State) (w : Win) (n typ seq len : Nat) (body : List Byte) : (s.mbxAnswer w typ seq len body).mailboxAnswered w n :=
  .inl (s.mbxAnswer_status w typ seq len body)

theorem State.startFuse_answered (s : State) (w : Win) {n : Nat} (hn : 4 < n) {f : FuseWrite} (hw : f.window = w.val)
    (hr : f.revoke = decide (n = 6)) : (s.startFuse w f).mailboxAnswered w n :=
  .inr ⟨hn, State.reg_setReg_self _ _ _, f, rfl, hw, hr⟩

theorem State.ite_answered {t u : State} {w : Win} {n : Nat} {p : Prop} [Decidable p] (ht : t.mailboxAnswered w n) (hu : u.mailboxAnswered w n) :
    (if p then t else u).mailboxAnswered w n := by
  split
  · exact ht
  · exact hu

theorem State.attest_answered (s : State) (w : Win) (m : List Byte) : (s.attest w m).mailboxAnswered w 1 := by
  unfold State.attest
  exact State.mbxAnswer_answered _ _ _ _ _ _ _

/-- Each command of the mailbox runs its window's message, if it is of its type, and answers it. -/
theorem exec_mailbox {w : Win} {x : Instr} {n : Nat} (h : (x, n) ∈ mailboxRows w) (s : State) :
    ∃ f : List Byte → State, exec x s = .next (s.mbxRun w n f) ∧ ∀ m, (f m).mailboxAnswered w n := by
  simp only [mailboxRows, List.mem_cons, Prod.mk.injEq, List.not_mem_nil, or_false] at h
  obtain ⟨rfl, rfl⟩ | ⟨rfl, rfl⟩ | ⟨rfl, rfl⟩ | ⟨rfl, rfl⟩ | ⟨rfl, rfl⟩ | ⟨rfl, rfl⟩ := h
  · exact ⟨_, rfl, s.attest_answered w⟩
  · refine ⟨_, rfl, fun m => ?_⟩
    dsimp only
    exact State.mbxAnswer_answered _ _ _ _ _ _ _
  · refine ⟨_, rfl, fun m => ?_⟩
    dsimp only
    exact State.mbxAnswer_answered _ _ _ _ _ _ _
  · refine ⟨_, rfl, fun m => ?_⟩
    dsimp only
    split <;> exact State.mbxAnswer_answered _ _ _ _ _ _ _
  · exact ⟨_, rfl, fun m => State.ite_answered (State.mbxAnswer_answered _ _ _ _ _ _ _)
      (State.ite_answered (State.mbxAnswer_answered _ _ _ _ _ _ _) (State.startFuse_answered _ _ (by decide) rfl rfl))⟩
  · exact ⟨_, rfl, fun m => State.ite_answered (State.mbxAnswer_answered _ _ _ _ _ _ _)
      (State.ite_answered (State.mbxAnswer_answered _ _ _ _ _ _ _) (State.startFuse_answered _ _ (by decide) rfl rfl))⟩

theorem exists_mailboxRow {w : Win} {x : Instr}
    (h : x ∈ ([.attestReq w, .share w, .certReq w, .recordGet w, .enrol w, .revoke w] : List Instr)) : ∃ n, (x, n) ∈ mailboxRows w := by
  have hmap : x ∈ (mailboxRows w).map Prod.fst := h
  simpa using hmap

/-- The commands of the mailbox reach neither memory nor the fuses. -/
theorem exec_mailbox_keeps {w : Win} {x : Instr} {n : Nat} (h : (x, n) ∈ mailboxRows w) {s t : State} (ht : exec x s = .next t) :
    t.memory = s.memory ∧ t.fuses = s.fuses := by
  have hparts : StateField.memory ∉ mayChange x ∧ StateField.fuses ∉ mayChange x := by
    simp only [mailboxRows, List.mem_cons, Prod.mk.injEq, List.not_mem_nil, or_false] at h
    obtain ⟨rfl, -⟩ | ⟨rfl, -⟩ | ⟨rfl, -⟩ | ⟨rfl, -⟩ | ⟨rfl, -⟩ | ⟨rfl, -⟩ := h <;> exact ⟨by simp [mayChange, faultParts], by simp [mayChange, faultParts]⟩
  exact ⟨exec_agree ht hparts.1, exec_agree ht hparts.2⟩

theorem State.mbxRun_ignored {s : State} {w : Nat} (h : bit (s.winReg w R.mbxStatus) 0 = true ∨ s.kpr.power = .boot ∨ s.kpr.power = .failStop)
    (n : Nat) (f : List Byte → State) : s.mbxRun w n f = s := by
  unfold State.mbxRun
  split
  · rfl
  · next hidle => exact if_pos (h.resolve_left hidle)

theorem State.mbxRun_held {s : State} {w : Nat} (hidle : bit (s.winReg w R.mbxStatus) 0 = false) (hrun : s.running = false)
    (hboot : s.kpr.power ≠ .boot) (hstop : s.kpr.power ≠ .failStop) (n : Nat) (f : List Byte → State) :
    s.mbxRun w n f = ({ s with kpr := { s.kpr with heldGo := insertNat s.kpr.heldGo w } } : State).autoWake := by
  simp [State.mbxRun, hidle, hrun, hboot, hstop]

theorem State.mbxRun_running {s : State} {w : Nat} (hidle : bit (s.winReg w R.mbxStatus) 0 = false) (hrun : s.running = true) (n : Nat)
    (f : List Byte → State) : s.mbxRun w n f = if le (s.mbxIn w 16) 0 2 ≠ n then s.mbxError w 2
      else if some (le (s.mbxIn w 16) 2 2) ≠ mbxLength n then s.mbxError w 1 else f (s.mbxIn w (le (s.mbxIn w 16) 2 2)) := by
  have hpower : s.kpr.power = .run := of_decide_eq_true hrun
  have hon : ¬ (s.kpr.power = .boot ∨ s.kpr.power = .failStop) := by simp [hpower]
  unfold State.mbxRun
  rw [if_neg (by simp [hidle]), if_neg hon, if_running hrun]

/-- Settles O49: a GO that is ignored, one that is held, and one that runs. -/
theorem mailboxAnswers : Obligations.MailboxAnswers := by
  refine ⟨?ignored, ?held, ?runs⟩
  case ignored =>
    intro w x s hx h
    obtain ⟨n, hn⟩ := exists_mailboxRow hx
    obtain ⟨f, hexec, -⟩ := exec_mailbox hn s
    exact hexec.trans (congrArg _ (State.mbxRun_ignored h n f))
  case held =>
    intro w x s hx hidle hrun hboot hstop
    obtain ⟨n, hn⟩ := exists_mailboxRow hx
    obtain ⟨f, hexec, -⟩ := exec_mailbox hn s
    exact hexec.trans (congrArg _ (State.mbxRun_held hidle hrun hboot hstop n f))
  case runs =>
    intro w x n s hx hidle hrun
    obtain ⟨f, hexec, hanswer⟩ := exec_mailbox (w := w) hx s
    rw [State.mbxRun_running hidle hrun] at hexec
    refine ⟨fun htype => hexec.trans (congrArg _ (if_pos htype)), fun htype hlen => ?_, fun htype hlen => ?_⟩
    · exact hexec.trans (congrArg _ ((if_neg (not_not.mpr htype)).trans (if_pos hlen)))
    · rw [if_neg (not_not.mpr htype), if_neg (not_not.mpr hlen)] at hexec
      exact ⟨_, hexec, hanswer _, exec_mailbox_keeps (w := w) hx hexec⟩

end Sys2Proof.Machine
end

section
/-! The timers of transfers, and the tag that a closed operation releases (R207, R219, R224, R226, R227, R229). -/

namespace Sys2Proof.Machine

/-! ## What a completion leaves of the tags -/

/-- The tables of tags: the operations under way, the generations, and the tags that rest. -/
def State.tagTables (s : State) : Tab Op × Tab Nat × Tab Nat := (s.xfr.ops, s.xfr.gens, s.xfr.heldTags)

theorem State.tagTables_of_xfr {s t : State} (h : t.xfr = s.xfr) : t.tagTables = s.tagTables := by
  unfold State.tagTables
  rw [h]

theorem State.leaveFlow_tagTables (s : State) (o : Op) (k : Nat) : (s.leaveFlow o k).tagTables = s.tagTables := by
  unfold State.leaveFlow
  split
  · rfl
  · split <;> rfl

theorem State.leavePart_tagTables (s : State) (o : Op) (k : Nat) : (s.leavePart o k).tagTables = s.tagTables := by
  unfold State.leavePart
  split
  · rfl
  · split
    · rfl
    · exact s.leaveFlow_tagTables o k

theorem State.leaveAll_tagTables (s : State) (fuel : Nat) (o : Op) : (s.leaveAll fuel o).tagTables = s.tagTables := by
  induction fuel generalizing s o with
  | zero => rfl
  | succ fuel ih =>
    rw [State.leaveAll]
    split
    · rfl
    · rw [ih, State.leavePart_tagTables]

theorem State.forJob_none (s : State) (f : Job → Job) : s.forJob none f = s := rfl

/-- A line that no work waits for is queued without a change to transfers. -/
theorem State.queueLine_none_xfr (s : State) (v : PlateV) (key : Nat) (kind : LineKind) (size : Nat) :
    (s.queueLine v key kind none size).xfr = s.xfr := by
  have hheal (t : State) (p : Nat) : (t.cancelHeal p key).xfr = t.xfr := State.agree_of_allBut .xfr (by simp)
  have hstart (t : State) : (if kind = .read then t else t.cancelHeal (v.portOf key) key).xfr = t.xfr := by
    split
    · rfl
    · exact hheal _ _
  unfold State.queueLine
  simp only [State.forJob_none]
  rw [apply_ite State.xfr, State.bump_xfr, ite_self, State.setChan_xfr, hstart]

theorem State.queueWrites_none_xfr (s : State) (v : PlateV) (g : Region) (off n : Nat) : (s.queueWrites v g off n none).xfr = s.xfr := by
  refine foldl_keeps State.xfr (f := fun t o => t.queueWrite v g off n none o) (fun t o => ?_) _ s
  unfold State.queueWrite
  dsimp only
  split
  · split
    · rfl
    · exact t.queueLine_none_xfr _ _ _ _
  · exact t.queueLine_none_xfr _ _ _ _

theorem State.writeAt_xfr (s : State) (addr : Nat) (d : List Byte) : (s.writeAt addr d).xfr = s.xfr := by
  unfold State.writeAt
  split
  · rw [State.queueWrites_none_xfr]
    exact State.agree_of_allBut .xfr (by simp)
  · rfl

theorem State.writeRecord_tagTables (s : State) (q : Nat) (r : BitVec 256) : (s.writeRecord q r).tagTables = s.tagTables := by
  unfold State.writeRecord
  exact (rfl : _ = (s.writeAt _ _).tagTables).trans (State.tagTables_of_xfr (s.writeAt_xfr _ _))

theorem State.completeAt_tagTables (s : State) (i : Issue) (c : Comp) (time : Nat) : (s.completeAt i c time).tagTables = s.tagTables := by
  have hcount : (s.countStatus c.status).tagTables = s.tagTables := State.tagTables_of_xfr (State.agree_of_allBut .xfr (by simp))
  have hput (t : State) (q : Nat) (r : BitVec 256) : (t.putReserved q r).tagTables = t.tagTables := State.writeRecord_tagTables _ _ _
  have hend (t : State) : ((t.answerSeat i c time).eventOf i c).tagTables = t.tagTables :=
    State.tagTables_of_xfr (State.agree_of_allBut .xfr (by simp))
  have hfire (t : State) : (t.fireCtr i.desc (whoIdx i.who)).tagTables = t.tagTables := State.tagTables_of_xfr (State.agree_of_allBut .xfr (by simp))
  have hcase (t u v : State) (p q : Prop) [Decidable p] [Decidable q] (ht : t.tagTables = s.tagTables) (hu : u.tagTables = s.tagTables)
      (hv : v.tagTables = s.tagTables) : (if p then t else if q then u else v).tagTables = s.tagTables := by
    split_ifs <;> assumption
  have hdone := (hend _).trans (hcase (s.countStatus c.status)
    ((s.countStatus c.status).putReserved (dQueue i.desc) (recordAt time i.desc c)) ((s.countStatus c.status).unreserve (dQueue i.desc))
    ((dSeatQ i.desc || dNoRecord i.desc) = true) (recordDue i.desc c = true) hcount ((hput _ _ _).trans hcount) hcount)
  unfold State.completeAt
  dsimp only
  split
  · exact (hfire _).trans hdone
  · exact hdone

theorem State.advanceCtx_tagTables (s : State) (c : Option Nat) : (s.advanceCtx c).tagTables = s.tagTables := by
  unfold State.advanceCtx
  split
  · rfl
  · split <;> rfl

theorem State.answerRelay_tagTables (s : State) (o : Op) (r : Relay) (c : Comp) : (s.answerRelay o r c).tagTables = s.tagTables := by
  unfold State.answerRelay
  dsimp only
  rw [State.advanceCtx_tagTables]
  split <;> rfl

/-- An operation that left its flow and is kept for its outcome, where it is. -/
def State.opLeft (s : State) (t : Nat) (o : Op) (c : Comp) : State :=
  if c.status = 4 ∨ o.relay.isSome then (s.leaveAll o.msgs.length o).keepOp t { o with bytes := c.bytes } else s.leaveAll o.msgs.length o

theorem State.opLeft_tagTables (s : State) (t : Nat) (o : Op) (c : Comp) : (s.opLeft t o c).tagTables = s.tagTables := by
  unfold State.opLeft
  split <;> exact s.leaveAll_tagTables _ o

theorem State.opLeft_time (s : State) (t : Nat) (o : Op) (c : Comp) : (s.opLeft t o c).now + (s.opLeft t o c).opTimeout = s.now + s.opTimeout := by
  have hclk : (s.opLeft t o c).clk = s.clk := State.agree_of_allBut .clk (by unfold State.opLeft; split <;> simp)
  have hplt : (s.opLeft t o c).plt = s.plt := State.agree_of_allBut .plt (by unfold State.opLeft; split <;> simp)
  rw [State.opTimeout, State.opTimeout, State.now_congr hclk, State.timer_congr hplt]

/-- Closing an operation moves the tables of tags as releasing its tag does (R207). -/
theorem State.closeOp_tagTables (s : State) (t : Nat) (o : Op) (c : Comp) (time : Nat) : (s.closeOp t o c time).tagTables =
    (tabErase s.xfr.ops t, tabSet 0 s.xfr.gens t ((o.gen + 1) % 4),
      if o.dirty then tabInsert s.xfr.heldTags t (s.now + s.opTimeout) else s.xfr.heldTags) := by
  have hrelease : ((s.opLeft t o c).releaseTag t o).tagTables = (tabErase s.xfr.ops t, tabSet 0 s.xfr.gens t ((o.gen + 1) % 4),
      if o.dirty then tabInsert s.xfr.heldTags t (s.now + s.opTimeout) else s.xfr.heldTags) := by
    have hleft := s.opLeft_tagTables t o c
    simp only [State.tagTables, Prod.mk.injEq] at hleft
    obtain ⟨hops, hgens, hheld⟩ := hleft
    simp only [State.releaseTag, State.setXfr, State.tagTables, hops, hgens, hheld, s.opLeft_time]
  have hseat : (match o.issue.who with
      | .seat q => ((s.opLeft t o c).releaseTag t o).setXfr { ((s.opLeft t o c).releaseTag t o).xfr with
          dropped := ((s.opLeft t o c).releaseTag t o).xfr.dropped.filter fun k =>
            ! (k.1 == ((s.opLeft t o c).releaseTag t o).seatEp q && k.2.1 == o.issue.tag.toNat) }
      | .window _ => (s.opLeft t o c).releaseTag t o).tagTables = ((s.opLeft t o c).releaseTag t o).tagTables := by
    split <;> rfl
  rw [← hrelease, ← hseat]
  unfold State.closeOp
  dsimp only
  split
  · exact State.answerRelay_tagTables _ _ _ _
  · exact State.completeAt_tagTables _ _ _ _

/-! ## The timers -/

/-- Work that has ended is done, and nothing of an ordering context is held. -/
theorem State.runTurns_idle {s : State} (hrflows : s.xfr.rflows = []) (hjobs : s.xfr.jobs = []) : s.runTurns = s := by
  simp [State.runTurns, hrflows, hjobs, State.endJobs, State.runHeld]

/-- An atomic of one request times out one operation timeout behind it (R224). -/
theorem State.opTimeoutDue_atom {tag k : Nat} {o : Op} {m : Msg} {s : State} (hop : s.op tag = some o) (habort : o.abortAt = none)
    (hkind : o.kind = .atom) (hmsgs : o.msgs = [(k, m)]) (hbackoff : m.backoff = none) (hpend : m.pend = false) :
    s.opTimeoutDue tag = if m.lastIssue + s.opTimeout ≤ s.now then (s.setOp tag { o with dirty := true }).endOp tag ⟨4, 29⟩ else s := by
  simp [State.opTimeoutDue, hop, habort, hmsgs, hbackoff, hpend, State.expireOp, hkind]

theorem execTagReuseHold_of_held {tag : Fin 16384} {d : Nat} {s : State} (hrun : s.running = true) (hd : tabFind s.xfr.heldTags tag = some d) :
    execTagReuseHold tag s =
      .next (if d ≤ s.now then s.setXfr { s.xfr with heldTags := tabErase s.xfr.heldTags tag } else s) := by
  simp only [execTagReuseHold, if_running hrun, hd]

theorem execOrderingContextRelease_of_flow {n : Fin 4096} {f : RFlow} {s : State} (hrun : s.running = true) (hf : tabFind s.xfr.rflows n = some f)
    (hheld : f.held = []) (hbusy : s.ctxBusy n = false) : execOrderingContextRelease n s =
      .next (if f.last + s.opTimeout ≤ s.now then s.setXfr { s.xfr with rflows := tabErase s.xfr.rflows n } else s) := by
  simp only [execOrderingContextRelease, if_running hrun, hf, hheld, hbusy, List.isEmpty_nil, Bool.not_false, true_and, apply_ite Host.Outcome.next]

/-- Whether a drain stops relayed COPYs as well (R229; the model's choice, log entry 44). -/
def drainStopsRelays : Drain → Bool
  | .partition _ => true
  | _ => false

theorem execDrainDeadline_of_drain {d : Drain} {from0 due : Nat} {s : State} (hrun : s.running = true)
    (hd : (s.xfr.drains.find? fun e => decide (e.1 = d)) = some (d, from0, due)) : execDrainDeadline d s = .next (if s.now < due then s
      else ((s.setXfr { s.xfr with drains := s.xfr.drains.filter fun x => decide (x.1 ≠ d) }).stopWork (drainHits d from0) (drainStopsRelays d)).settleAll) := by
  simp only [execDrainDeadline, if_running hrun, hd, apply_ite Host.Outcome.next]
  rfl

theorem drainStopsRelays_iff (d : Drain) : drainStopsRelays d = true ↔ ∃ k, d = .partition k := by
  cases d <;> simp [drainStopsRelays]

/-- Settles O40: each timer, due and not, and the tag of a closed operation. -/
theorem transferTimersEndWhatIsDue : Obligations.TransferTimersEndWhatIsDue := by
  refine ⟨⟨?timeout, ?hold, ?execs, ?closures, ?context, ?drain⟩, ?close⟩
  case timeout =>
    intro tag o k m s hrun hop habort hkind hmsgs hbackoff hpend hrflows hjobs
    have hexec : execOperationTimeout tag s = .next (s.opTimeoutDue tag).runTurns := by rw [execOperationTimeout, if_running hrun]
    rw [State.opTimeoutDue_atom hop habort hkind hmsgs hbackoff hpend] at hexec
    refine ⟨fun hdue => hexec.trans (by rw [if_pos hdue]), fun hearly => hexec.trans ?_⟩
    rw [if_neg (by omega), State.runTurns_idle hrflows hjobs]
  case hold =>
    intro tag d s hrun hd
    refine ⟨_, execTagReuseHold_of_held hrun hd, fun hdue => ?_, fun hearly => if_neg (by omega)⟩
    rw [if_pos hdue]
    exact ⟨tabFind_erase_self _ _, fun k hk => tabFind_erase_ne _ hk⟩
  case execs =>
    intro s hrun
    have hexec : execExecutedTagRecordExpire s = .next (s.setXfr { s.xfr with execs := s.xfr.execs.filter fun e => decide (s.now < e.2.since + 1000000) }) := by
      rw [execExecutedTagRecordExpire, if_running hrun]
    exact ⟨_, hexec, fun e => by simp [State.setXfr], rfl⟩
  case closures =>
    intro s hrun
    have hexec : execOutcomeClosureExpire s = .next (s.setXfr { s.xfr with closures := s.xfr.closures.filter fun k => decide (s.now < k.since + s.opTimeout) }) := by
      rw [execOutcomeClosureExpire, if_running hrun]
    exact ⟨_, hexec, fun e => by simp [State.setXfr], rfl⟩
  case context =>
    intro n f s hrun hf hheld hbusy
    refine ⟨_, execOrderingContextRelease_of_flow hrun hf hheld hbusy, fun hdue => ?_, fun hearly => if_neg (by omega)⟩
    rw [if_pos hdue]
    exact tabFind_erase_self _ _
  case drain =>
    intro d from0 due relays s hrun hd hrelays
    obtain rfl : relays = drainStopsRelays d := Bool.eq_iff_iff.mpr (hrelays.trans (drainStopsRelays_iff d).symm)
    exact ⟨_, execDrainDeadline_of_drain hrun hd, fun hearly => if_pos hearly, fun hdue => if_neg (by omega)⟩
  case close =>
    intro s t o c time
    have htables := s.closeOp_tagTables t o c time
    simp only [State.tagTables, Prod.mk.injEq] at htables
    obtain ⟨hops, hgens, hheld⟩ := htables
    refine ⟨?_, ?_, fun hdirty => ?_, fun k hk => ?_⟩
    · rw [State.op, hops, tabFind_erase_self]
    · rw [hgens, tabGet_set_self]
    · rw [hheld, if_pos hdirty, tabFind_insert_self]
    · rw [State.op, hops, tabFind_erase_ne _ hk, State.op]

end Sys2Proof.Machine
end

section
/-! Which commands complete (log entry 2). -/

namespace Sys2Proof.Machine

/-- The command answers a next state. -/
def completes (o : Host.Outcome State Fault Refusal) : Prop := ∃ t, o = .next t

theorem completes_next (t : State) : completes (.next t) := ⟨t, rfl⟩

theorem completes_ite {p : Prop} [Decidable p] {a b : Host.Outcome State Fault Refusal} (ha : completes a) (hb : completes b) :
    completes (if p then a else b) := by
  split
  · exact ha
  · exact hb

/-- What a row answers, whose operands are well formed where `ok`: a next state, but for the fault of a running node whose operands are not. -/
def State.rowAnswers (s : State) (ok : Bool) (o : Host.Outcome State Fault Refusal) : Prop :=
  completes o ∧ (ok = true ∨ s.running = false) ∨ o = .fault .illFormed ∧ ok = false

theorem State.rowAnswers_of_completes {s : State} {o : Host.Outcome State Fault Refusal} (h : completes o) : s.rowAnswers true o := .inl ⟨h, .inl rfl⟩

theorem State.rowAnswers_then {s : State} {p : Prop} [Decidable p] {ok : Bool} (hp : p ↔ ok = true) {a : Host.Outcome State Fault Refusal}
    (ha : completes a) : s.rowAnswers ok (if p then a else .fault .illFormed) := by
  split
  · next h => exact .inl ⟨ha, .inl (hp.mp h)⟩
  · next h => exact .inr ⟨rfl, by simpa using mt hp.mpr h⟩

theorem State.rowAnswers_else {s : State} {p : Prop} [Decidable p] {ok : Bool} (hp : p ↔ ok = false) {b : Host.Outcome State Fault Refusal}
    (hb : completes b) : s.rowAnswers ok (if p then .fault .illFormed else b) := by
  split
  · next h => exact .inr ⟨rfl, hp.mp h⟩
  · next h => exact .inl ⟨hb, .inl (by simpa using mt hp.mpr h)⟩

/-- A row that a node which does not run passes over. -/
theorem State.rowAnswers_running {s : State} {ok : Bool} {o : Host.Outcome State Fault Refusal} (h : s.running = true → s.rowAnswers ok o) :
    s.rowAnswers ok (if (! s.running) = true then .next s else o) := by
  cases hrun : s.running with
  | true => exact h hrun
  | false => exact .inl ⟨⟨s, rfl⟩, .inr hrun⟩

theorem execNodeReset_completes (src : ResetBy) (s : State) : completes (execNodeReset src s) := by
  unfold execNodeReset
  dsimp only
  split <;> exact completes_next _

theorem execHostWindowReset_completes (w : Win) (s : State) : completes (execHostWindowReset w s) :=
  completes_ite (completes_next _) (completes_next _)

theorem execFirmwareBoot_completes (image : List Byte) (s : State) : completes (execFirmwareBoot image s) :=
  completes_ite (completes_next _) (completes_ite (completes_next _) (completes_ite (completes_next _) (completes_ite (completes_next _) (completes_next _))))

theorem execRun_completes (w : Option Win) (s : State) : completes (execRun w s) :=
  completes_ite (completes_next _) (by
    dsimp only
    split <;> exact completes_next _)

theorem execWakeTablesReady_completes (s : State) : completes (execWakeTablesReady s) :=
  completes_ite (completes_next _) (completes_ite (completes_next _) (completes_next _))

theorem execSleep_completes (w : Win) (s : State) : completes (execSleep w s) :=
  completes_ite (completes_next _) (completes_ite (completes_next _) (completes_next _))

theorem execSleepEntryDone_completes (s : State) : completes (execSleepEntryDone s) :=
  completes_ite (completes_next _) (completes_next _)

theorem execFaultSourceAssert_completes (src : Fin 2048) (t c : Bool) (unit : BitVec 16) (detail : Word) (s : State) : completes (execFaultSourceAssert src t c unit detail s) := by
  unfold execFaultSourceAssert
  dsimp only
  split
  · exact completes_next _
  · exact completes_ite (completes_next _) (completes_ite (completes_ite (completes_next _) (completes_next _)) (completes_next _))

theorem execRailBreak_completes (src : Fin 2048) (s : State) : completes (execRailBreak src s) := by
  unfold execRailBreak
  dsimp only
  split <;> exact completes_next _

theorem execRailTest_completes (src : Fin 2048) (first second : BitVec 2) (s : State) : completes (execRailTest src first second s) := by
  unfold execRailTest
  dsimp only
  split
  · exact completes_next _
  · exact completes_ite (completes_next _) (completes_next _)

theorem execTempSample_completes (temps : Vector (BitVec 12) 8) (s : State) : completes (execTempSample temps s) :=
  completes_ite (completes_next _) (completes_ite (completes_next _) (completes_next _))

theorem execThrottleStep_completes (s : State) : completes (execThrottleStep s) :=
  completes_ite (completes_next _) (completes_ite (completes_next _) (completes_next _))

theorem execSidebandInput_completes (i : Sideband) (s : State) : completes (execSidebandInput i s) := by
  unfold execSidebandInput
  dsimp only
  split
  · exact completes_ite (completes_next _) (completes_next _)
  · exact completes_ite (completes_next _) (completes_next _)
  · exact completes_ite (completes_next _) (completes_next _)

theorem execDomainGate_completes (d : Domain) (stopped : Bool) (s : State) : completes (execDomainGate d stopped s) :=
  completes_ite (completes_next _) (completes_ite (completes_next _) (completes_ite (completes_next _) (completes_next _)))

theorem execDomainWake_completes (d : Domain) (s : State) : completes (execDomainWake d s) :=
  completes_ite (completes_next _) (by
    dsimp only
    split <;> exact completes_next _)

theorem execSyncWake_completes (n : LinkIx) (s : State) : completes (execSyncWake n s) :=
  completes_ite (completes_next _) (completes_next _)

theorem execOpenEng_completes (w : Win) (s : State) : completes (execOpenEng w s) :=
  completes_ite (completes_next _) (completes_ite (completes_next _) (completes_next _))

theorem execPltEngLenWrite_completes (w : Win) (value : Word) (s : State) : completes (execPltEngLenWrite w value s) :=
  completes_ite (completes_ite (completes_next _) (completes_next _)) (completes_next _)

theorem execCloseEng_completes (w : Win) (s : State) : completes (execCloseEng w s) :=
  completes_ite (completes_next _) (completes_ite (completes_next _) (completes_next _))

theorem execVerificationDone_completes (s : State) : completes (execVerificationDone s) :=
  completes_ite (completes_next _) (completes_next _)

theorem execCancel_completes (w : Win) (s : State) : completes (execCancel w s) := by
  unfold execCancel
  split
  · exact completes_next _
  · exact completes_ite (completes_next _) (completes_next _)
  · exact completes_ite (completes_next _) (completes_next _)
  · exact completes_ite (completes_next _) (completes_ite (completes_next _) (completes_ite (completes_next _) (completes_next _)))
  · exact completes_ite (completes_next _) (completes_ite (completes_next _) (completes_ite (completes_next _) (completes_next _)))

theorem execSealPlate_completes (w : Win) (s : State) : completes (execSealPlate w s) :=
  completes_ite (completes_next _) (by
    dsimp only
    split
    · exact completes_ite (completes_next _) (completes_next _)
    · exact completes_next _)

theorem execArm_completes (a : Source) (s : State) : completes (execArm a s) :=
  completes_ite (completes_next _) (completes_ite (completes_next _) (completes_ite (completes_next _) (completes_ite (completes_next _) (completes_next _))))

theorem execDisarm_completes (a : Source) (s : State) : completes (execDisarm a s) :=
  completes_ite (completes_next _) (completes_ite (completes_next _) (completes_ite (completes_next _) (completes_next _)))

theorem execFlip_completes (s : State) : completes (execFlip s) := by
  unfold execFlip
  split
  · exact completes_ite (completes_next _) (completes_next _)
  · exact completes_next _

theorem execRetireRelease_completes (s : State) : completes (execRetireRelease s) := by
  unfold execRetireRelease
  dsimp only
  split
  · exact completes_ite (completes_next _) (completes_next _)
  · exact completes_next _

theorem execProofSweep_answers (i : Issue) (s : State) :
    s.rowAnswers (dOp i.desc == 0x50 && dMod i.desc == 1) (execProofSweep i s) :=
  State.rowAnswers_then (by simp) (completes_next _)

theorem execSweepRx_answers (c : Cell) (s : State) :
    s.rowAnswers (cellIs c 0x34) (execSweepRx c s) :=
  State.rowAnswers_running fun _ => State.rowAnswers_then (by simp) (completes_next _)

theorem execSweepResend_completes (k : CtxIx) (s : State) : completes (execSweepResend k s) :=
  completes_ite (completes_next _) (by
    dsimp only
    split
    · exact completes_next _
    · exact completes_ite (completes_next _) (completes_next _))

theorem execTrainingFrameRx_completes (l : LaneIx) (frame : BitVec 2048) (ppm : BitVec 16) (s : State) : completes (execTrainingFrameRx l frame ppm s) :=
  completes_ite (completes_next _) (completes_ite (completes_next _) (completes_next _))

theorem execTrainTimeout_completes (l : LaneIx) (s : State) : completes (execTrainTimeout l s) :=
  completes_ite (by
    split
    · exact completes_ite (completes_next _) (completes_next _)
    · exact completes_next _) (completes_next _)

theorem execLos_completes (l : LaneIx) (s : State) : completes (execLos l s) :=
  completes_ite (completes_next _) (completes_ite (completes_next _) (completes_next _))

theorem execLol_completes (l : LaneIx) (s : State) : completes (execLol l s) :=
  completes_ite (completes_next _) (completes_next _)

theorem execStandbyCheck_completes (l : LaneIx) (s : State) : completes (execStandbyCheck l s) :=
  completes_ite (completes_next _) (completes_next _)

theorem execWakeFailure_completes (l : LaneIx) (s : State) : completes (execWakeFailure l s) := by
  unfold execWakeFailure
  dsimp only
  split
  · exact completes_ite (completes_next _) (completes_next _)
  · exact completes_next _

theorem execTxIdleEnter_completes (l : LaneIx) (s : State) : completes (execTxIdleEnter l s) :=
  completes_ite (completes_next _) (completes_next _)

theorem execSignalDetect_completes (l : LaneIx) (s : State) : completes (execSignalDetect l s) := by
  unfold execSignalDetect
  dsimp only
  split <;> exact completes_next _

theorem execEngineBringup_completes (e : Fin 64) (revision : Byte) (moduleState : BitVec 3) (activated : Bool) (s : State) : completes (execEngineBringup e revision moduleState activated s) :=
  completes_ite (completes_next _) (completes_next _)

theorem execEnginePoll_completes (e : Fin 64) (flags : Option (BitVec 160)) (s : State) : completes (execEnginePoll e flags s) :=
  completes_ite (completes_next _) (completes_next _)

theorem execCmisReadDone_completes (b : Option Byte) (s : State) : completes (execCmisReadDone b s) :=
  completes_ite (completes_next _) (by
    split <;> exact completes_next _)

theorem execScanDone_completes (l : LaneIx) (errors : Word) (s : State) : completes (execScanDone l errors s) :=
  completes_ite (completes_next _) (completes_next _)

theorem execLinkTxSlot_completes (n : LinkIx) (s : State) : completes (execLinkTxSlot n s) :=
  completes_ite (completes_next _) (by
    split <;> exact completes_next _)

theorem execSequencedCellRx_completes (n : LinkIx) (form : BitVec 2) (parts : List SlotPart) (s : State) : completes (execSequencedCellRx n form parts s) :=
  completes_ite (completes_next _) (completes_next _)

theorem execNullCellRx_answers (n : LinkIx) (c : Cell) (s : State) :
    s.rowAnswers (cellIs c 0x38) (execNullCellRx n c s) :=
  State.rowAnswers_then (by simp) (completes_next _)

theorem execAckCellRx_answers (n : LinkIx) (c : Cell) (s : State) :
    s.rowAnswers (cellIs c 0x39) (execAckCellRx n c s) :=
  State.rowAnswers_then (by simp) (completes_next _)

theorem execCreditCellRx_answers (n : LinkIx) (c : Cell) (s : State) :
    s.rowAnswers (cellIs c 0x3A) (execCreditCellRx n c s) :=
  State.rowAnswers_then (by simp) (completes_next _)

theorem execIdentRx_answers (n : LinkIx) (c : Cell) (s : State) :
    s.rowAnswers (cellIs c 0x3B) (execIdentRx n c s) :=
  State.rowAnswers_else (by simp) (completes_ite (completes_next _) (completes_ite (completes_next _) (by
    dsimp only
    split <;> exact completes_next _)))

theorem execRetrainCellRx_answers (n : LinkIx) (c : Cell) (s : State) :
    s.rowAnswers (cellIs c 0x3C) (execRetrainCellRx n c s) :=
  State.rowAnswers_else (by simp) (completes_ite (completes_next _) (completes_next _))

theorem execDownCellRx_answers (n : LinkIx) (c : Cell) (s : State) :
    s.rowAnswers (cellIs c 0x3D) (execDownCellRx n c s) :=
  State.rowAnswers_else (by simp) (completes_ite (completes_next _) (completes_next _))

theorem execProtestRx_answers (n : LinkIx) (c : Cell) (s : State) :
    s.rowAnswers (cellIs c 0x3E) (execProtestRx n c s) :=
  State.rowAnswers_then (by simp) (completes_next _)

theorem execReplayTimeout_completes (n : LinkIx) (s : State) : completes (execReplayTimeout n s) := by
  unfold execReplayTimeout
  dsimp only
  split
  · exact completes_ite (completes_next _) (completes_ite (completes_next _) (completes_next _))
  · exact completes_next _

theorem execAckDelay_completes (n : LinkIx) (s : State) : completes (execAckDelay n s) := by
  unfold execAckDelay
  dsimp only
  split
  · exact completes_ite (completes_next _) (completes_next _)
  · exact completes_next _

theorem execTrainComplete_completes (n : LinkIx) (s : State) : completes (execTrainComplete n s) :=
  completes_ite (completes_ite (completes_next _) (completes_next _)) (completes_next _)

theorem execIdentLimit_completes (n : LinkIx) (s : State) : completes (execIdentLimit n s) :=
  completes_ite (completes_next _) (completes_next _)

theorem execRetrainLimit_completes (n : LinkIx) (s : State) : completes (execRetrainLimit n s) :=
  completes_ite (completes_next _) (completes_next _)

theorem execRealignDone_completes (n : LinkIx) (words : List (Fin 9 × BitVec 2720)) (s : State) : completes (execRealignDone n words s) :=
  completes_ite (by
    split
    · exact completes_next _
    · exact completes_ite (completes_next _) (completes_next _)) (completes_next _)

theorem execRealignTimeout_completes (n : LinkIx) (s : State) : completes (execRealignTimeout n s) :=
  completes_ite (completes_next _) (completes_next _)

theorem execLinkDrainDeadline_completes (n : LinkIx) (s : State) : completes (execLinkDrainDeadline n s) := by
  unfold execLinkDrainDeadline
  dsimp only
  split
  · exact completes_next _
  · exact completes_ite (completes_next _) (completes_next _)

theorem execDeferredEjection_completes (n : LinkIx) (s : State) : completes (execDeferredEjection n s) :=
  completes_ite (completes_next _) (by
    split <;> exact completes_next _)

theorem execEchoRx_answers (c : Cell) (s : State) :
    s.rowAnswers (cellIs c 0x15) (execEchoRx c s) :=
  State.rowAnswers_running fun _ => State.rowAnswers_else (by simp) (completes_next _)

theorem execEchoWait_completes (node : Fin 1024) (s : State) : completes (execEchoWait node s) := by
  unfold execEchoWait
  dsimp only
  split
  · exact completes_ite (completes_next _) (completes_next _)
  · exact completes_next _

theorem execIncPeriod_completes (node : Fin 1024) (s : State) : completes (execIncPeriod node s) :=
  completes_ite (completes_next _) (completes_ite (completes_next _) (completes_next _))

theorem execDoorbell_completes (w : Win) (value : Word) (s : State) : completes (execDoorbell w value s) :=
  completes_ite (completes_next _) (completes_ite (completes_next _) (completes_next _))

theorem execDescRx_answers (c : Cell) (s : State) :
    s.rowAnswers (cellIs c 0x08 && decide (0x4000 ≤ c.src.toNat) && epNode c.src.toNat == s.nodeId) (execDescRx c s) := by
  by_cases hidle : (! s.running) = true ∧ s.kpr.power ≠ .sleeping
  · exact .inl ⟨⟨s, if_pos hidle⟩, .inr (by simpa using hidle.1)⟩
  · rw [execDescRx, if_neg hidle]
    exact State.rowAnswers_else (by simp [or_iff_not_imp_left]) (completes_ite (completes_next _) (completes_next _))

theorem execIssueResume_completes (who : Submitter) (s : State) : completes (execIssueResume who s) :=
  completes_ite (completes_next _) (completes_next _)

theorem execLoad_answers (i : Issue) (s : State) :
    s.rowAnswers (dOp i.desc == 0x01) (execLoad i s) :=
  State.rowAnswers_then (by simp) (completes_next _)

theorem execStore_answers (i : Issue) (s : State) :
    s.rowAnswers (dOp i.desc == 0x02) (execStore i s) :=
  State.rowAnswers_then (by simp) (completes_next _)

theorem execStoreOrd_answers (i : Issue) (s : State) :
    s.rowAnswers (dOp i.desc == 0x03) (execStoreOrd i s) :=
  State.rowAnswers_then (by simp) (completes_next _)

theorem execCopy_answers (i : Issue) (s : State) :
    s.rowAnswers (dOp i.desc == 0x04) (execCopy i s) :=
  State.rowAnswers_then (by simp) (completes_next _)

theorem execFill_answers (i : Issue) (s : State) :
    s.rowAnswers (dOp i.desc == 0x05) (execFill i s) :=
  State.rowAnswers_then (by simp) (completes_next _)

theorem execAtomIadd_answers (i : Issue) (s : State) :
    s.rowAnswers (dOp i.desc == 0x10) (execAtomIadd i s) :=
  State.rowAnswers_then (by simp) (completes_next _)

theorem execAtomCas_answers (i : Issue) (s : State) :
    s.rowAnswers (dOp i.desc == 0x11) (execAtomCas i s) :=
  State.rowAnswers_then (by simp) (completes_next _)

theorem execAtomSwap_answers (i : Issue) (s : State) :
    s.rowAnswers (dOp i.desc == 0x12) (execAtomSwap i s) :=
  State.rowAnswers_then (by simp) (completes_next _)

theorem execAtomFaddF_answers (i : Issue) (s : State) :
    s.rowAnswers (dOp i.desc == 0x14) (execAtomFaddF i s) :=
  State.rowAnswers_then (by simp) (completes_next _)

theorem execAtomFaddXAdd_answers (i : Issue) (s : State) :
    s.rowAnswers (dOp i.desc == 0x13 && faddAction i.desc == 0) (execAtomFaddXAdd i s) :=
  State.rowAnswers_then (by simp) (completes_next _)

theorem execAtomFaddXRead_answers (i : Issue) (s : State) :
    s.rowAnswers (dOp i.desc == 0x13 && faddAction i.desc == 1) (execAtomFaddXRead i s) :=
  State.rowAnswers_then (by simp) (completes_next _)

theorem execAtomFaddXClear_answers (i : Issue) (s : State) :
    s.rowAnswers (dOp i.desc == 0x13 && faddAction i.desc == 2) (execAtomFaddXClear i s) :=
  State.rowAnswers_then (by simp) (completes_next _)

theorem execOutcome_answers (i : Issue) (s : State) :
    s.rowAnswers (dOp i.desc == 0x38) (execOutcome i s) :=
  State.rowAnswers_then (by simp) (completes_next _)

theorem execAbort_answers (i : Issue) (s : State) :
    s.rowAnswers (dOp i.desc == 0x3A && dMod i.desc % 2 == 0) (execAbort i s) :=
  State.rowAnswers_then (by simp) (completes_next _)

theorem execAbortContext_answers (i : Issue) (s : State) :
    s.rowAnswers (dOp i.desc == 0x3A && dMod i.desc % 2 == 1) (execAbortContext i s) :=
  State.rowAnswers_then (by simp) (completes_next _)

theorem execCueAdd_answers (i : Issue) (s : State) :
    s.rowAnswers (dOp i.desc == 0x40) (execCueAdd i s) :=
  State.rowAnswers_then (by simp) (completes_next _)

theorem execCueArmCues_answers (i : Issue) (s : State) :
    s.rowAnswers (dOp i.desc == 0x41 && armKind i.desc == 0) (execCueArmCues i s) :=
  State.rowAnswers_then (by simp) (completes_next _)

theorem execCueArmArrival_answers (i : Issue) (s : State) :
    s.rowAnswers (dOp i.desc == 0x41 && armKind i.desc == 1) (execCueArmArrival i s) :=
  State.rowAnswers_then (by simp) (completes_next _)

theorem execCueArmDisarm_answers (i : Issue) (s : State) :
    s.rowAnswers (dOp i.desc == 0x41 && armKind i.desc == 2) (execCueArmDisarm i s) :=
  State.rowAnswers_then (by simp) (completes_next _)

theorem execRedInOpen_answers (i : Issue) (s : State) :
    s.rowAnswers (dOp i.desc == 0x20 && cOpen i.desc) (execRedInOpen i s) :=
  State.rowAnswers_then (by simp) (completes_next _)

theorem execRedInMember_answers (i : Issue) (s : State) :
    s.rowAnswers (dOp i.desc == 0x20 && !cOpen i.desc) (execRedInMember i s) :=
  State.rowAnswers_then (by simp) (completes_next _)

theorem execRedOut_answers (i : Issue) (s : State) :
    s.rowAnswers (dOp i.desc == 0x21) (execRedOut i s) :=
  State.rowAnswers_then (by simp) (completes_next _)

theorem execAllgatherOpen_answers (i : Issue) (s : State) :
    s.rowAnswers (dOp i.desc == 0x22 && cOpen i.desc) (execAllgatherOpen i s) :=
  State.rowAnswers_then (by simp) (completes_next _)

theorem execAllgatherMember_answers (i : Issue) (s : State) :
    s.rowAnswers (dOp i.desc == 0x22 && !cOpen i.desc) (execAllgatherMember i s) :=
  State.rowAnswers_then (by simp) (completes_next _)

theorem execBcastOpen_answers (i : Issue) (s : State) :
    s.rowAnswers (dOp i.desc == 0x25 && cOpen i.desc) (execBcastOpen i s) :=
  State.rowAnswers_then (by simp) (completes_next _)

theorem execBcastMember_answers (i : Issue) (s : State) :
    s.rowAnswers (dOp i.desc == 0x25 && !cOpen i.desc) (execBcastMember i s) :=
  State.rowAnswers_then (by simp) (completes_next _)

theorem execAlltoallOpen_answers (i : Issue) (s : State) :
    s.rowAnswers (dOp i.desc == 0x23 && cOpen i.desc) (execAlltoallOpen i s) :=
  State.rowAnswers_then (by simp) (completes_next _)

theorem execAlltoallMember_answers (i : Issue) (s : State) :
    s.rowAnswers (dOp i.desc == 0x23 && !cOpen i.desc) (execAlltoallMember i s) :=
  State.rowAnswers_then (by simp) (completes_next _)

theorem execBarrierOpen_answers (i : Issue) (s : State) :
    s.rowAnswers (dOp i.desc == 0x24 && cOpen i.desc) (execBarrierOpen i s) :=
  State.rowAnswers_then (by simp) (completes_next _)

theorem execBarrierMember_answers (i : Issue) (s : State) :
    s.rowAnswers (dOp i.desc == 0x24 && !cOpen i.desc) (execBarrierMember i s) :=
  State.rowAnswers_then (by simp) (completes_next _)

theorem execNormOpen_answers (i : Issue) (s : State) :
    s.rowAnswers (dOp i.desc == 0x26 && cOpen i.desc) (execNormOpen i s) :=
  State.rowAnswers_then (by simp) (completes_next _)

theorem execNormMember_answers (i : Issue) (s : State) :
    s.rowAnswers (dOp i.desc == 0x26 && !cOpen i.desc) (execNormMember i s) :=
  State.rowAnswers_then (by simp) (completes_next _)

theorem execUpdate_answers (i : Issue) (s : State) :
    s.rowAnswers (dOp i.desc == 0x30) (execUpdate i s) :=
  State.rowAnswers_then (by simp) (completes_next _)

theorem execDigestRegion_answers (i : Issue) (s : State) :
    s.rowAnswers (dOp i.desc == 0x50 && dMod i.desc == 2) (execDigestRegion i s) :=
  State.rowAnswers_then (by simp) (completes_next _)

theorem execDigestVerify_answers (i : Issue) (s : State) :
    s.rowAnswers (dOp i.desc == 0x50 && dMod i.desc == 3) (execDigestVerify i s) :=
  State.rowAnswers_then (by simp) (completes_next _)

theorem execSealRecord_answers (i : Issue) (s : State) :
    s.rowAnswers (dOp i.desc == 0x51) (execSealRecord i s) :=
  State.rowAnswers_then (by simp) (completes_next _)

theorem execIntermission_answers (i : Issue) (s : State) :
    s.rowAnswers (dOp i.desc == 0x60) (execIntermission i s) :=
  State.rowAnswers_then (by simp) (completes_next _)

theorem execResume_answers (i : Issue) (s : State) :
    s.rowAnswers (dOp i.desc == 0x61) (execResume i s) :=
  State.rowAnswers_then (by simp) (completes_next _)

theorem execCommit_answers (i : Issue) (s : State) :
    s.rowAnswers (dOp i.desc == 0x62) (execCommit i s) :=
  State.rowAnswers_then (by simp) (completes_next _)

theorem execCommitSlotWrite_completes (s : State) : completes (execCommitSlotWrite s) :=
  completes_ite (completes_next _) (by
    dsimp only
    split
    · exact completes_next _
    · exact completes_ite (completes_next _) (completes_ite (completes_next _) (completes_next _)))

theorem execHoldupRecheck_completes (s : State) : completes (execHoldupRecheck s) :=
  completes_ite (completes_next _) (completes_next _)

theorem execLoadReqRx_answers (c : Cell) (s : State) :
    s.rowAnswers (cellIs c 0x01) (execLoadReqRx c s) :=
  State.rowAnswers_running fun _ => State.rowAnswers_else (by simp) (completes_next _)

theorem execStoreDataRx_answers (c : Cell) (s : State) :
    s.rowAnswers (cellIs c 0x02) (execStoreDataRx c s) :=
  State.rowAnswers_running fun _ => State.rowAnswers_else (by simp) (completes_next _)

theorem execBulkDataRx_answers (c : Cell) (s : State) :
    s.rowAnswers (cellIs c 0x20) (execBulkDataRx c s) :=
  State.rowAnswers_running fun _ => State.rowAnswers_else (by simp) (completes_ite (by
    split <;> exact completes_next _) (by
    split
    · exact completes_next _
    · exact by
        split
        · exact completes_next _
        · exact completes_ite (completes_next _) (completes_next _)))

theorem execAtomicReqRx_answers (c : Cell) (s : State) :
    s.rowAnswers (cellIs c 0x03) (execAtomicReqRx c s) :=
  State.rowAnswers_running fun _ => State.rowAnswers_else (by simp) (completes_next _)

theorem execCopyFwdRx_answers (c : Cell) (s : State) :
    s.rowAnswers (cellIs c 0x04) (execCopyFwdRx c s) :=
  State.rowAnswers_running fun _ => State.rowAnswers_else (by simp) (completes_next _)

theorem execFillReqRx_answers (c : Cell) (s : State) :
    s.rowAnswers (cellIs c 0x05) (execFillReqRx c s) :=
  State.rowAnswers_running fun _ => State.rowAnswers_else (by simp) (completes_next _)

theorem execOutcomeReqRx_answers (c : Cell) (s : State) :
    s.rowAnswers (cellIs c 0x06) (execOutcomeReqRx c s) :=
  State.rowAnswers_running fun _ => State.rowAnswers_else (by simp) (completes_next _)

theorem execAbortReqRx_answers (c : Cell) (s : State) :
    s.rowAnswers (cellIs c 0x07 && !bit c.payload 13) (execAbortReqRx c s) :=
  State.rowAnswers_running fun _ => State.rowAnswers_else (by simp [or_iff_not_imp_left]) (by
    dsimp only
    split <;> exact completes_next _)

theorem execCollectiveAbortReqRx_answers (c : Cell) (s : State) :
    s.rowAnswers (cellIs c 0x07 && bit c.payload 13) (execCollectiveAbortReqRx c s) :=
  State.rowAnswers_running fun _ => State.rowAnswers_else (by simp [or_iff_not_imp_left]) (completes_next _)

theorem execLoadDataRx_answers (c : Cell) (s : State) :
    s.rowAnswers (cellIs c 0x10) (execLoadDataRx c s) :=
  State.rowAnswers_running fun _ => State.rowAnswers_else (by simp) (by
    dsimp only
    split
    · exact completes_next _
    · exact completes_ite (completes_next _) (completes_ite (completes_next _) (by
        split
        · exact completes_next _
        · exact completes_ite (completes_next _) (completes_ite (completes_next _) (by
            split <;> exact completes_next _)))))

theorem execCompletionChunkRx_answers (c : Cell) (s : State) :
    s.rowAnswers (cellIs c 0x11 && bytesAt c.payload 0 1 != 4) (execCompletionChunkRx c s) :=
  State.rowAnswers_running fun _ => State.rowAnswers_else (by simp [or_iff_not_imp_left]) (completes_next _)

theorem execAtomicRspRx_answers (c : Cell) (s : State) :
    s.rowAnswers (cellIs c 0x12) (execAtomicRspRx c s) :=
  State.rowAnswers_running fun _ => State.rowAnswers_else (by simp) (by
    dsimp only
    split
    · exact completes_next _
    · exact completes_ite (completes_next _) (completes_ite (completes_next _) (completes_ite (completes_next _) (completes_ite (completes_next _) (completes_next _)))))

theorem execOutcomeRspRx_answers (c : Cell) (s : State) :
    s.rowAnswers (cellIs c 0x13) (execOutcomeRspRx c s) :=
  State.rowAnswers_running fun _ => State.rowAnswers_else (by simp) (by
    dsimp only
    split
    · exact completes_next _
    · exact completes_ite (completes_next _) (completes_ite (completes_ite (completes_next _) (completes_next _)) (completes_next _)))

theorem execNoticeRx_answers (c : Cell) (s : State) :
    s.rowAnswers (cellIs c 0x14) (execNoticeRx c s) :=
  State.rowAnswers_running fun _ => State.rowAnswers_else (by simp) (completes_ite (completes_next _) (completes_next _))

theorem execOperationTimeout_completes (tag : Fin 16384) (s : State) : completes (execOperationTimeout tag s) :=
  completes_ite (completes_next _) (completes_next _)

theorem execBusyBackoff_completes (tag : Fin 16384) (s : State) : completes (execBusyBackoff tag s) :=
  completes_ite (completes_next _) (completes_next _)

theorem execTagReuseHold_completes (tag : Fin 16384) (s : State) : completes (execTagReuseHold tag s) :=
  completes_ite (completes_next _) (by
    dsimp only
    split <;> exact completes_next _)

theorem execOrderingContextRelease_completes (k : Fin 4096) (s : State) : completes (execOrderingContextRelease k s) :=
  completes_ite (completes_next _) (by
    dsimp only
    split
    · exact completes_next _
    · exact completes_ite (completes_next _) (completes_next _))

theorem execDrainDeadline_completes (d : Drain) (s : State) : completes (execDrainDeadline d s) :=
  completes_ite (completes_next _) (by
    dsimp only
    split
    · exact completes_next _
    · exact completes_ite (completes_next _) (completes_next _))

theorem execChanHold_completes (p : Port) (s : State) : completes (execChanHold p s) :=
  completes_ite (completes_next _) (completes_next _)

theorem execRspTimeout_completes (p : Port) (s : State) : completes (execRspTimeout p s) :=
  completes_ite (completes_next _) (completes_next _)

theorem execZeroingDone_completes (region : BitVec 16) (s : State) : completes (execZeroingDone region s) :=
  completes_ite (completes_next _) (completes_ite (completes_next _) (by
    dsimp only
    split
    · exact completes_next _
    · exact by
        split <;> exact completes_next _))

theorem execScrubDone_completes (s : State) : completes (execScrubDone s) :=
  completes_ite (completes_next _) (by
    dsimp only
    split
    · exact completes_next _
    · exact completes_ite (completes_next _) (completes_next _))

theorem execCueFire_completes (cue : Fin 16384) (s : State) : completes (execCueFire cue s) :=
  completes_ite (completes_next _) (by
    dsimp only
    split
    · exact completes_next _
    · exact completes_ite (completes_next _) (completes_next _))

theorem execCueAddRx_answers (c : Cell) (s : State) :
    s.rowAnswers (cellIs c 0x28) (execCueAddRx c s) :=
  State.rowAnswers_running fun _ => State.rowAnswers_else (by simp) (completes_next _)

theorem execGatherDataRx_answers (c : Cell) (s : State) :
    s.rowAnswers (cellIs c 0x1A) (execGatherDataRx c s) :=
  State.rowAnswers_running fun _ => State.rowAnswers_then (by simp) (completes_next _)

theorem execPieceEntry_completes (t : Fin 4352) (s : State) : completes (execPieceEntry t s) :=
  completes_ite (completes_next _) (by
    dsimp only
    split
    · exact completes_next _
    · exact by
        split
        · exact completes_next _
        · exact completes_ite (completes_next _) (completes_ite (completes_ite (completes_next _) (completes_next _)) (completes_ite (completes_next _) (completes_next _))))

theorem execContextAdmit_completes (s : State) : completes (execContextAdmit s) :=
  completes_ite (completes_next _) (by
    split <;> exact completes_next _)

theorem execMemberWaitTimeout_completes (s : State) : completes (execMemberWaitTimeout s) :=
  completes_ite (completes_next _) (completes_ite (completes_next _) (completes_next _))

theorem execGrantRx_answers (c : Cell) (s : State) :
    s.rowAnswers (isGrant c && !(grantOf c).isDone) (execGrantRx c s) :=
  State.rowAnswers_running fun _ => State.rowAnswers_else (by simp [or_iff_not_imp_left]) (completes_next _)

theorem execDoneRx_answers (c : Cell) (s : State) :
    s.rowAnswers (isGrant c && (grantOf c).isDone) (execDoneRx c s) :=
  State.rowAnswers_running fun _ => State.rowAnswers_else (by simp [or_iff_not_imp_left]) (completes_next _)

theorem execRegrant_completes (k : CtxIx) (s : State) : completes (execRegrant k s) :=
  completes_ite (completes_next _) (by
    split
    · exact completes_next _
    · exact completes_ite (completes_next _) (completes_next _))

theorem execContribRx_answers (c : Cell) (s : State) :
    s.rowAnswers (cellIs c 0x18) (execContribRx c s) :=
  State.rowAnswers_running fun _ => State.rowAnswers_then (by simp) (completes_next _)

theorem execPartialCfRx_answers (c : Cell) (s : State) :
    s.rowAnswers (cellIs c 0x19) (execPartialCfRx c s) :=
  State.rowAnswers_running fun _ => State.rowAnswers_then (by simp) (completes_next _)

theorem execA2aCountsRx_answers (c : Cell) (s : State) :
    s.rowAnswers (cellIs c 0x1C) (execA2aCountsRx c s) :=
  State.rowAnswers_running fun _ => State.rowAnswers_then (by simp) (completes_next _)

theorem execA2aDataRx_answers (c : Cell) (s : State) :
    s.rowAnswers (cellIs c 0x1B) (execA2aDataRx c s) :=
  State.rowAnswers_running fun _ => State.rowAnswers_then (by simp) (completes_next _)

theorem execContextTimeout_completes (k : CtxIx) (s : State) : completes (execContextTimeout k s) :=
  completes_ite (completes_next _) (by
    split
    · exact completes_next _
    · exact completes_ite (completes_next _) (by
        split <;> exact completes_next _))

theorem execReplayPass_completes (k : CtxIx) (s : State) : completes (execReplayPass k s) :=
  completes_ite (completes_next _) (by
    dsimp only
    split
    · exact completes_ite (completes_next _) (by
        split <;> exact completes_next _)
    · exact completes_next _)

theorem execBarrierRelease_completes (k : CtxIx) (s : State) : completes (execBarrierRelease k s) :=
  completes_ite (completes_next _) (completes_next _)

theorem execUpdateSegment_completes (u : Fin 64) (s : State) : completes (execUpdateSegment u s) :=
  completes_ite (completes_next _) (by
    split <;> exact completes_next _)

theorem execUpdateContextTimeout_completes (u : Fin 64) (s : State) : completes (execUpdateContextTimeout u s) :=
  completes_ite (completes_next _) (by
    split <;> exact completes_next _)

theorem execUpdateGateTimeout_completes (u : Fin 64) (s : State) : completes (execUpdateGateTimeout u s) :=
  completes_ite (completes_next _) (by
    dsimp only
    split <;> exact completes_next _)

theorem execFreeze_completes (s : State) : completes (execFreeze s) :=
  completes_ite (completes_next _) (completes_ite (completes_next _) (completes_next _))

theorem execHushQuiet_completes (s : State) : completes (execHushQuiet s) :=
  completes_ite (completes_next _) (completes_next _)

theorem execHushLimit_completes (s : State) : completes (execHushLimit s) :=
  completes_ite (completes_next _) (completes_ite (completes_next _) (completes_next _))

theorem execImageWritten_completes (s : State) : completes (execImageWritten s) :=
  completes_ite (completes_next _) (by
    dsimp only
    split
    · exact by
        split
        · exact completes_next _
        · exact completes_ite (completes_next _) (by
            split <;> exact completes_next _)
    · exact completes_next _)

theorem execResumeTime_completes (s : State) : completes (execResumeTime s) :=
  completes_ite (completes_next _) (completes_ite (completes_next _) (completes_next _))

theorem execHostDataClose_completes (s : State) : completes (execHostDataClose s) := by
  unfold execHostDataClose
  split <;> exact completes_next _

theorem execDoorbellRelease_completes (s : State) : completes (execDoorbellRelease s) :=
  completes_ite (completes_next _) (completes_next _)

theorem execSeatInputRelease_completes (s : State) : completes (execSeatInputRelease s) :=
  completes_ite (completes_next _) (completes_next _)

theorem execFuseWriteDone_completes (s : State) : completes (execFuseWriteDone s) := by
  unfold execFuseWriteDone
  split <;> exact completes_next _

theorem execSessionExpire_completes (x : Fin 16) (s : State) : completes (execSessionExpire x s) := by
  unfold execSessionExpire
  dsimp only
  split
  · exact completes_next _
  · exact completes_ite (completes_next _) (completes_next _)

theorem execSyncTx_completes (n : LinkIx) (s : State) : completes (execSyncTx n s) :=
  completes_ite (completes_next _) (completes_ite (completes_next _) (completes_next _))

theorem execSyncRx_answers (n : LinkIx) (c : Cell) (s : State) :
    s.rowAnswers (cellIs c 0x30) (execSyncRx n c s) :=
  State.rowAnswers_running fun _ => State.rowAnswers_then (by simp) (completes_next _)

theorem execCandidateExpire_completes (n : LinkIx) (s : State) : completes (execCandidateExpire n s) := by
  unfold execCandidateExpire
  dsimp only
  split
  · exact completes_ite (completes_next _) (completes_next _)
  · exact completes_next _

theorem execClockFreeTimeout_completes (s : State) : completes (execClockFreeTimeout s) :=
  completes_ite (completes_next _) (completes_next _)

theorem execNodeSilence_completes (node : Fin 1024) (s : State) : completes (execNodeSilence node s) := by
  unfold execNodeSilence
  split
  · exact completes_ite (completes_next _) (completes_next _)
  · exact completes_next _

theorem execProbe_completes (node : Fin 1024) (s : State) : completes (execProbe node s) :=
  completes_ite (completes_next _) (by
    split
    · exact completes_next _
    · exact completes_ite (completes_next _) (completes_ite (completes_next _) (completes_next _)))

theorem execLostRx_answers (n : LinkIx) (c : Cell) (s : State) :
    s.rowAnswers (faultRecKind c 2) (execLostRx n c s) :=
  State.rowAnswers_running fun _ => State.rowAnswers_else (by simp) (completes_ite (completes_next _) (completes_next _))

theorem execBeacon_completes (s : State) : completes (execBeacon s) :=
  completes_ite (completes_next _) (completes_next _)

theorem execBeaconRx_answers (n : LinkIx) (c : Cell) (s : State) :
    s.rowAnswers (faultRecKind c 3) (execBeaconRx n c s) :=
  State.rowAnswers_running fun _ => State.rowAnswers_else (by simp) (completes_ite (completes_next _) (completes_next _))

theorem execCurtainLowered_completes (slot : Fin 4096) (s : State) : completes (execCurtainLowered slot s) := by
  refine completes_ite (completes_next _) ?_
  split
  · split
    · exact completes_next _
    · exact completes_ite (completes_next _) (completes_ite (completes_next _) (completes_next _))
  · exact completes_next _

theorem execFaultRecRx_answers (c : Cell) (s : State) :
    s.rowAnswers (faultRecKind c 1) (execFaultRecRx c s) :=
  State.rowAnswers_running fun _ => State.rowAnswers_else (by simp) (completes_next _)

theorem execFmReadRx_answers (c : Cell) (s : State) :
    s.rowAnswers (fmReqIs c 1) (execFmReadRx c s) :=
  State.rowAnswers_running fun _ => State.rowAnswers_else (by simp) (by
    dsimp only
    split <;> exact completes_next _)

theorem execFmWriteRx_answers (c : Cell) (s : State) :
    s.rowAnswers (fmReqIs c 2) (execFmWriteRx c s) :=
  State.rowAnswers_running fun _ => State.rowAnswers_else (by simp) (by
    dsimp only
    split <;> exact completes_next _)

theorem execFmPingRx_answers (c : Cell) (s : State) :
    s.rowAnswers (fmReqIs c 3) (execFmPingRx c s) :=
  State.rowAnswers_running fun _ => State.rowAnswers_then (by simp) (completes_next _)

theorem execFmRspRx_answers (c : Cell) (s : State) :
    s.rowAnswers (cellIs c 0x32) (execFmRspRx c s) :=
  State.rowAnswers_running fun _ => State.rowAnswers_else (by simp) (by
    dsimp only
    split
    · exact completes_ite (completes_next _) (completes_next _)
    · exact completes_next _)

theorem execHostMapAccess_answers (w : Win) (off : BitVec 26) (acc : MapAccess) (s : State) :
    s.rowAnswers (decide (R.mapRange ≤ off.toNat) && decide (off.toNat < 0x100000)) (execHostMapAccess w off acc s) :=
  State.rowAnswers_else (by simp [or_iff_not_imp_left]) (completes_next _)

theorem execChannelRequestAccept_completes (p : Port) (s : State) : completes (execChannelRequestAccept p s) :=
  completes_ite (completes_next _) (by
    dsimp only
    split <;> exact completes_next _)

theorem execFmRequestTimeout_completes (w : Win) (s : State) : completes (execFmRequestTimeout w s) := by
  unfold execFmRequestTimeout
  split
  · exact completes_next _
  · exact completes_ite (completes_next _) (completes_next _)

theorem execBurstRx_completes (b : Burst) (s : State) : completes (execBurstRx b s) :=
  completes_ite (completes_next _) (completes_next _)

theorem execRxIdleEnter_completes (l : LaneIx) (s : State) : completes (execRxIdleEnter l s) :=
  completes_ite (completes_next _) (completes_next _)

theorem execExecutedTagRecordExpire_completes (s : State) : completes (execExecutedTagRecordExpire s) :=
  completes_ite (completes_next _) (completes_next _)

theorem execOutcomeClosureExpire_completes (s : State) : completes (execOutcomeClosureExpire s) :=
  completes_ite (completes_next _) (completes_next _)

/-! ## The commands together -/

/-- Every command answers as its row does. -/
theorem exec_answers (c : Instr) (s : State) : s.rowAnswers (c.wf s.nodeId) (exec c s) := by
  cases c with
  | keeperPowerOnReset straps => exact State.rowAnswers_of_completes (completes_next _)
  | nodeReset src => exact State.rowAnswers_of_completes (execNodeReset_completes src s)
  | hostWindowReset w => exact State.rowAnswers_of_completes (execHostWindowReset_completes w s)
  | firmwareBoot image => exact State.rowAnswers_of_completes (execFirmwareBoot_completes image s)
  | run w => exact State.rowAnswers_of_completes (execRun_completes w s)
  | wakeTablesReady => exact State.rowAnswers_of_completes (execWakeTablesReady_completes s)
  | sleep w => exact State.rowAnswers_of_completes (execSleep_completes w s)
  | sleepEntryDone => exact State.rowAnswers_of_completes (execSleepEntryDone_completes s)
  | faultSourceAssert src t c unit detail => exact State.rowAnswers_of_completes (execFaultSourceAssert_completes src t c unit detail s)
  | railBreak src => exact State.rowAnswers_of_completes (execRailBreak_completes src s)
  | railTest src first second => exact State.rowAnswers_of_completes (execRailTest_completes src first second s)
  | faultActiveClear a word value => exact State.rowAnswers_of_completes (completes_next _)
  | powerFailWarning => exact State.rowAnswers_of_completes (completes_next _)
  | refClockLost => exact State.rowAnswers_of_completes (completes_next _)
  | tempSample temps => exact State.rowAnswers_of_completes (execTempSample_completes temps s)
  | throttleStep => exact State.rowAnswers_of_completes (execThrottleStep_completes s)
  | sidebandInput i0 => exact State.rowAnswers_of_completes (execSidebandInput_completes i0 s)
  | domainGate d stopped => exact State.rowAnswers_of_completes (execDomainGate_completes d stopped s)
  | domainWake d => exact State.rowAnswers_of_completes (execDomainWake_completes d s)
  | syncWake n => exact State.rowAnswers_of_completes (execSyncWake_completes n s)
  | openEng w => exact State.rowAnswers_of_completes (execOpenEng_completes w s)
  | pltEngLenWrite w value => exact State.rowAnswers_of_completes (execPltEngLenWrite_completes w value s)
  | engraveWord w value => exact State.rowAnswers_of_completes (completes_next _)
  | closeEng w => exact State.rowAnswers_of_completes (execCloseEng_completes w s)
  | verificationDone => exact State.rowAnswers_of_completes (execVerificationDone_completes s)
  | cancel w => exact State.rowAnswers_of_completes (execCancel_completes w s)
  | sealPlate w => exact State.rowAnswers_of_completes (execSealPlate_completes w s)
  | arm a => exact State.rowAnswers_of_completes (execArm_completes a s)
  | disarm a => exact State.rowAnswers_of_completes (execDisarm_completes a s)
  | flip => exact State.rowAnswers_of_completes (execFlip_completes s)
  | retireRelease => exact State.rowAnswers_of_completes (execRetireRelease_completes s)
  | proofSweep i0 => exact execProofSweep_answers i0 s
  | sweepRx c => exact execSweepRx_answers c s
  | sweepResend k => exact State.rowAnswers_of_completes (execSweepResend_completes k s)
  | trainingFrameRx l frame ppm => exact State.rowAnswers_of_completes (execTrainingFrameRx_completes l frame ppm s)
  | laneLocked l met => exact State.rowAnswers_of_completes (completes_next _)
  | trainTimeout l => exact State.rowAnswers_of_completes (execTrainTimeout_completes l s)
  | los l => exact State.rowAnswers_of_completes (execLos_completes l s)
  | lol l => exact State.rowAnswers_of_completes (execLol_completes l s)
  | fecLimit l word more => exact State.rowAnswers_of_completes (completes_next _)
  | standbyCheck l => exact State.rowAnswers_of_completes (execStandbyCheck_completes l s)
  | wakeFailure l => exact State.rowAnswers_of_completes (execWakeFailure_completes l s)
  | forceFail a l => exact State.rowAnswers_of_completes (completes_next _)
  | clearFail a l => exact State.rowAnswers_of_completes (completes_next _)
  | laneRetrain a l => exact State.rowAnswers_of_completes (completes_next _)
  | txIdleEnter l => exact State.rowAnswers_of_completes (execTxIdleEnter_completes l s)
  | signalDetect l => exact State.rowAnswers_of_completes (execSignalDetect_completes l s)
  | engineBringup e revision moduleState activated => exact State.rowAnswers_of_completes (execEngineBringup_completes e revision moduleState activated s)
  | enginePoll e flags => exact State.rowAnswers_of_completes (execEnginePoll_completes e flags s)
  | engineInterrupt e flags => exact State.rowAnswers_of_completes (completes_next _)
  | cmisReadGo a value => exact State.rowAnswers_of_completes (completes_next _)
  | cmisReadDone b => exact State.rowAnswers_of_completes (execCmisReadDone_completes b s)
  | scanStart a l value => exact State.rowAnswers_of_completes (completes_next _)
  | scanStop a l => exact State.rowAnswers_of_completes (completes_next _)
  | scanDone l errors => exact State.rowAnswers_of_completes (execScanDone_completes l errors s)
  | linkTxSlot n => exact State.rowAnswers_of_completes (execLinkTxSlot_completes n s)
  | sequencedCellRx n form parts => exact State.rowAnswers_of_completes (execSequencedCellRx_completes n form parts s)
  | nullCellRx n c => exact execNullCellRx_answers n c s
  | ackCellRx n c => exact execAckCellRx_answers n c s
  | creditCellRx n c => exact execCreditCellRx_answers n c s
  | identRx n c => exact execIdentRx_answers n c s
  | retrainCellRx n c => exact execRetrainCellRx_answers n c s
  | downCellRx n c => exact execDownCellRx_answers n c s
  | protestRx n c => exact execProtestRx_answers n c s
  | replayTimeout n => exact State.rowAnswers_of_completes (execReplayTimeout_completes n s)
  | ackDelay n => exact State.rowAnswers_of_completes (execAckDelay_completes n s)
  | trainComplete n => exact State.rowAnswers_of_completes (execTrainComplete_completes n s)
  | identLimit n => exact State.rowAnswers_of_completes (execIdentLimit_completes n s)
  | retrainLimit n => exact State.rowAnswers_of_completes (execRetrainLimit_completes n s)
  | realignDone n words => exact State.rowAnswers_of_completes (execRealignDone_completes n words s)
  | realignTimeout n => exact State.rowAnswers_of_completes (execRealignTimeout_completes n s)
  | linkRetrain a n => exact State.rowAnswers_of_completes (completes_next _)
  | restart a n => exact State.rowAnswers_of_completes (completes_next _)
  | forceDown a n => exact State.rowAnswers_of_completes (completes_next _)
  | clearRestrict a n => exact State.rowAnswers_of_completes (completes_next _)
  | linkDisable a n value => exact State.rowAnswers_of_completes (completes_next _)
  | linkEnable a n value => exact State.rowAnswers_of_completes (completes_next _)
  | linkDrainDeadline n => exact State.rowAnswers_of_completes (execLinkDrainDeadline_completes n s)
  | cellOutputChoice => exact State.rowAnswers_of_completes (completes_next _)
  | deferredEjection n => exact State.rowAnswers_of_completes (execDeferredEjection_completes n s)
  | echoRx c => exact execEchoRx_answers c s
  | echoWait node => exact State.rowAnswers_of_completes (execEchoWait_completes node s)
  | incPeriod node => exact State.rowAnswers_of_completes (execIncPeriod_completes node s)
  | seatFenceWrite a value => exact State.rowAnswers_of_completes (completes_next _)
  | doorbell w value => exact State.rowAnswers_of_completes (execDoorbell_completes w value s)
  | descRx c => exact execDescRx_answers c s
  | issueResume who => exact State.rowAnswers_of_completes (execIssueResume_completes who s)
  | load i0 => exact execLoad_answers i0 s
  | store i0 => exact execStore_answers i0 s
  | storeOrd i0 => exact execStoreOrd_answers i0 s
  | copy i0 => exact execCopy_answers i0 s
  | fill i0 => exact execFill_answers i0 s
  | atomIadd i0 => exact execAtomIadd_answers i0 s
  | atomCas i0 => exact execAtomCas_answers i0 s
  | atomSwap i0 => exact execAtomSwap_answers i0 s
  | atomFaddF i0 => exact execAtomFaddF_answers i0 s
  | atomFaddXAdd i0 => exact execAtomFaddXAdd_answers i0 s
  | atomFaddXRead i0 => exact execAtomFaddXRead_answers i0 s
  | atomFaddXClear i0 => exact execAtomFaddXClear_answers i0 s
  | outcome i0 => exact execOutcome_answers i0 s
  | abort i0 => exact execAbort_answers i0 s
  | abortContext i0 => exact execAbortContext_answers i0 s
  | cueAdd i0 => exact execCueAdd_answers i0 s
  | cueArmCues i0 => exact execCueArmCues_answers i0 s
  | cueArmArrival i0 => exact execCueArmArrival_answers i0 s
  | cueArmDisarm i0 => exact execCueArmDisarm_answers i0 s
  | redInOpen i0 => exact execRedInOpen_answers i0 s
  | redInMember i0 => exact execRedInMember_answers i0 s
  | redOut i0 => exact execRedOut_answers i0 s
  | allgatherOpen i0 => exact execAllgatherOpen_answers i0 s
  | allgatherMember i0 => exact execAllgatherMember_answers i0 s
  | bcastOpen i0 => exact execBcastOpen_answers i0 s
  | bcastMember i0 => exact execBcastMember_answers i0 s
  | alltoallOpen i0 => exact execAlltoallOpen_answers i0 s
  | alltoallMember i0 => exact execAlltoallMember_answers i0 s
  | barrierOpen i0 => exact execBarrierOpen_answers i0 s
  | barrierMember i0 => exact execBarrierMember_answers i0 s
  | normOpen i0 => exact execNormOpen_answers i0 s
  | normMember i0 => exact execNormMember_answers i0 s
  | update i0 => exact execUpdate_answers i0 s
  | digestRegion i0 => exact execDigestRegion_answers i0 s
  | digestVerify i0 => exact execDigestVerify_answers i0 s
  | sealRecord i0 => exact execSealRecord_answers i0 s
  | intermission i0 => exact execIntermission_answers i0 s
  | resume i0 => exact execResume_answers i0 s
  | commit i0 => exact execCommit_answers i0 s
  | commitSlotWrite => exact State.rowAnswers_of_completes (execCommitSlotWrite_completes s)
  | holdupRecheck => exact State.rowAnswers_of_completes (execHoldupRecheck_completes s)
  | loadReqRx c => exact execLoadReqRx_answers c s
  | storeDataRx c => exact execStoreDataRx_answers c s
  | bulkDataRx c => exact execBulkDataRx_answers c s
  | atomicReqRx c => exact execAtomicReqRx_answers c s
  | copyFwdRx c => exact execCopyFwdRx_answers c s
  | fillReqRx c => exact execFillReqRx_answers c s
  | outcomeReqRx c => exact execOutcomeReqRx_answers c s
  | abortReqRx c => exact execAbortReqRx_answers c s
  | collectiveAbortReqRx c => exact execCollectiveAbortReqRx_answers c s
  | loadDataRx c => exact execLoadDataRx_answers c s
  | completionChunkRx c => exact execCompletionChunkRx_answers c s
  | atomicRspRx c => exact execAtomicRspRx_answers c s
  | outcomeRspRx c => exact execOutcomeRspRx_answers c s
  | noticeRx c => exact execNoticeRx_answers c s
  | operationTimeout tag => exact State.rowAnswers_of_completes (execOperationTimeout_completes tag s)
  | busyBackoff tag => exact State.rowAnswers_of_completes (execBusyBackoff_completes tag s)
  | tagReuseHold tag => exact State.rowAnswers_of_completes (execTagReuseHold_completes tag s)
  | orderingContextRelease k => exact State.rowAnswers_of_completes (execOrderingContextRelease_completes k s)
  | cqHeadWrite a q value => exact State.rowAnswers_of_completes (completes_next _)
  | cqEnable a q value => exact State.rowAnswers_of_completes (completes_next _)
  | cqDisable a q value => exact State.rowAnswers_of_completes (completes_next _)
  | drainDeadline d => exact State.rowAnswers_of_completes (execDrainDeadline_completes d s)
  | channelResponse p id wr stat data code poison => exact State.rowAnswers_of_completes (completes_next _)
  | channelReadyFall p => exact State.rowAnswers_of_completes (completes_next _)
  | channelReadyRise p => exact State.rowAnswers_of_completes (completes_next _)
  | chanHold p => exact State.rowAnswers_of_completes (execChanHold_completes p s)
  | rspTimeout p => exact State.rowAnswers_of_completes (execRspTimeout_completes p s)
  | zeroingDone region => exact State.rowAnswers_of_completes (execZeroingDone_completes region s)
  | scrubDone => exact State.rowAnswers_of_completes (execScrubDone_completes s)
  | ctrKeyWrite a b value => exact State.rowAnswers_of_completes (completes_next _)
  | cueFire cue => exact State.rowAnswers_of_completes (execCueFire_completes cue s)
  | pause a value => exact State.rowAnswers_of_completes (completes_next _)
  | cueAddRx c => exact execCueAddRx_answers c s
  | gatherDataRx c => exact execGatherDataRx_answers c s
  | pieceEntry t => exact State.rowAnswers_of_completes (execPieceEntry_completes t s)
  | arrHeadWrite a ch value => exact State.rowAnswers_of_completes (completes_next _)
  | contextAdmit => exact State.rowAnswers_of_completes (execContextAdmit_completes s)
  | memberWaitTimeout => exact State.rowAnswers_of_completes (execMemberWaitTimeout_completes s)
  | grantRx c => exact execGrantRx_answers c s
  | doneRx c => exact execDoneRx_answers c s
  | regrant k => exact State.rowAnswers_of_completes (execRegrant_completes k s)
  | contribRx c => exact execContribRx_answers c s
  | partialCfRx c => exact execPartialCfRx_answers c s
  | a2aCountsRx c => exact execA2aCountsRx_answers c s
  | a2aDataRx c => exact execA2aDataRx_answers c s
  | contextTimeout k => exact State.rowAnswers_of_completes (execContextTimeout_completes k s)
  | replayPass k => exact State.rowAnswers_of_completes (execReplayPass_completes k s)
  | barrierRelease k => exact State.rowAnswers_of_completes (execBarrierRelease_completes k s)
  | eruCellKeyWrite a b value => exact State.rowAnswers_of_completes (completes_next _)
  | updateSegment u => exact State.rowAnswers_of_completes (execUpdateSegment_completes u s)
  | updateContextTimeout u => exact State.rowAnswers_of_completes (execUpdateContextTimeout_completes u s)
  | updateGateTimeout u => exact State.rowAnswers_of_completes (execUpdateGateTimeout_completes u s)
  | freeze => exact State.rowAnswers_of_completes (execFreeze_completes s)
  | hushQuiet => exact State.rowAnswers_of_completes (execHushQuiet_completes s)
  | hushLimit => exact State.rowAnswers_of_completes (execHushLimit_completes s)
  | imageWritten => exact State.rowAnswers_of_completes (execImageWritten_completes s)
  | resumeTime => exact State.rowAnswers_of_completes (execResumeTime_completes s)
  | scriptEnable a value => exact State.rowAnswers_of_completes (completes_next _)
  | hostDataClose => exact State.rowAnswers_of_completes (execHostDataClose_completes s)
  | doorbellRelease => exact State.rowAnswers_of_completes (execDoorbellRelease_completes s)
  | seatInputRelease => exact State.rowAnswers_of_completes (execSeatInputRelease_completes s)
  | attestReq w => exact State.rowAnswers_of_completes (completes_next _)
  | share w => exact State.rowAnswers_of_completes (completes_next _)
  | certReq w => exact State.rowAnswers_of_completes (completes_next _)
  | recordGet w => exact State.rowAnswers_of_completes (completes_next _)
  | enrol w => exact State.rowAnswers_of_completes (completes_next _)
  | revoke w => exact State.rowAnswers_of_completes (completes_next _)
  | fuseWriteDone => exact State.rowAnswers_of_completes (execFuseWriteDone_completes s)
  | sessionExpire x => exact State.rowAnswers_of_completes (execSessionExpire_completes x s)
  | rngHealthFail => exact State.rowAnswers_of_completes (completes_next _)
  | syncTx n => exact State.rowAnswers_of_completes (execSyncTx_completes n s)
  | syncRx n c => exact execSyncRx_answers n c s
  | candidateExpire n => exact State.rowAnswers_of_completes (execCandidateExpire_completes n s)
  | clockFreeTimeout => exact State.rowAnswers_of_completes (execClockFreeTimeout_completes s)
  | holdoverBound => exact State.rowAnswers_of_completes (completes_next _)
  | nodeSilence node => exact State.rowAnswers_of_completes (execNodeSilence_completes node s)
  | probe node => exact State.rowAnswers_of_completes (execProbe_completes node s)
  | lostRx n c => exact execLostRx_answers n c s
  | beacon => exact State.rowAnswers_of_completes (execBeacon_completes s)
  | beaconRx n c => exact execBeaconRx_answers n c s
  | curtainLowered slot => exact State.rowAnswers_of_completes (execCurtainLowered_completes slot s)
  | faultRecRx c => exact execFaultRecRx_answers c s
  | goRead w => exact State.rowAnswers_of_completes (completes_next _)
  | goWrite w => exact State.rowAnswers_of_completes (completes_next _)
  | goPing w => exact State.rowAnswers_of_completes (completes_next _)
  | fmReadRx c => exact execFmReadRx_answers c s
  | fmWriteRx c => exact execFmWriteRx_answers c s
  | fmPingRx c => exact execFmPingRx_answers c s
  | fmRspRx c => exact execFmRspRx_answers c s
  | badSizeAccess w wr off => exact State.rowAnswers_of_completes (completes_next _)
  | hostMapAccess w off acc => exact execHostMapAccess_answers w off acc s
  | registerWrite w off value => exact State.rowAnswers_of_completes (completes_next _)
  | channelRequestAccept p => exact State.rowAnswers_of_completes (execChannelRequestAccept_completes p s)
  | registerRead w off => exact State.rowAnswers_of_completes (completes_next _)
  | fmRequestTimeout w => exact State.rowAnswers_of_completes (execFmRequestTimeout_completes w s)
  | burstRx b => exact State.rowAnswers_of_completes (execBurstRx_completes b s)
  | rxIdleEnter l => exact State.rowAnswers_of_completes (execRxIdleEnter_completes l s)
  | executedTagRecordExpire => exact State.rowAnswers_of_completes (execExecutedTagRecordExpire_completes s)
  | outcomeClosureExpire => exact State.rowAnswers_of_completes (execOutcomeClosureExpire_completes s)

theorem exec_completes {c : Instr} {s : State} (h : c.wf s.nodeId = true) : ∃ t, exec c s = .next t := by
  rcases exec_answers c s with ⟨hnext, -⟩ | ⟨-, hbad⟩
  · exact hnext
  · exact absurd (h.symm.trans hbad) (by decide)

/-- A well-formed command completes and leaves the waiting commands. -/
theorem exec_completes_pending {c : Instr} {s : State} (h : c.wf s.nodeId = true) : ∃ t, exec c s = .next t ∧ t.pending = s.pending :=
  (exec_completes h).imp fun _ ht => ⟨ht, exec_pending ht⟩

theorem exec_not_refused (c : Instr) (s : State) (r : Refusal) : exec c s ≠ .refused r := by
  rcases exec_answers c s with ⟨⟨t, ht⟩, -⟩ | ⟨hfault, -⟩
  · simp [ht]
  · simp [hfault]

theorem wf_of_exec_fault {c : Instr} {s : State} {f : Fault} (h : exec c s = .fault f) : c.wf s.nodeId = false := by
  rcases exec_answers c s with ⟨⟨t, ht⟩, -⟩ | ⟨-, hbad⟩
  · simp [ht] at h
  · exact hbad

theorem exec_illFormed {c : Instr} {s : State} (hrun : s.running = true) (h : c.wf s.nodeId = false) : exec c s = .fault .illFormed := by
  rcases exec_answers c s with ⟨-, hok | hidle⟩ | ⟨hfault, -⟩
  · exact absurd (hok.symm.trans h) (by decide)
  · exact absurd (hrun.symm.trans hidle) (by decide)
  · exact hfault

/-- The commands of a list whose rows take any operands complete. -/
theorem complete_of_all {s : State} {l : List Instr} (h : (l.all fun c => c.wf s.nodeId) = true) :
    ∀ c, c ∈ l → ∃ t, exec c s = .next t ∧ t.pending = s.pending :=
  fun c hc => exec_completes_pending (List.all_eq_true.mp h c hc)

/-- The commands of a list that names beside each row what it asks of its operands. -/
theorem complete_of_map {s : State} {l : List (Instr × Bool)} (h : l.map (fun x => x.1.wf s.nodeId) = l.map Prod.snd) :
    ∀ x, x ∈ l → x.2 = true → ∃ t, exec x.1 s = .next t ∧ t.pending = s.pending :=
  fun x hx hok => exec_completes_pending ((List.map_inj_left.mp h x hx).trans hok)

/-- Settles O5: by what each row answers, for all commands together and row by row. -/
theorem commandsStopOnlyWhereIllFormed : Obligations.CommandsStopOnlyWhereIllFormed := by
  refine ⟨fun c s => exec_completes, fun c s => ⟨exec_not_refused c s, fun f => wf_of_exec_fault, exec_illFormed⟩, ?_, ?_, ?_, ?_, ?_, ?_, ?map⟩
  case map => exact fun s w off acc hlo hhi => exec_completes_pending (by simp [Instr.wf, hlo, hhi])
  · exact fun s => complete_of_all rfl
  · exact fun s w n v a k l p words => complete_of_all rfl
  · exact fun s b who g f a q v dr u tr e ss => complete_of_all rfl
  · exact fun s straps r image o src b1 b2 u v x y a j temps i d l frame word more e z m flags ob n parts p data w off ui => complete_of_all rfl
  · exact fun s i => complete_of_map rfl
  · exact fun s n c => complete_of_map rfl

end Sys2Proof.Machine
end

section
/-! Issue of descriptors: the opcode rows, and the sources of issue (chapters 7, 9 and 13). -/

namespace Sys2Proof.Machine

@[simp] theorem State.setWaitingAt_waitingAt_self (s : State) (k : Nat) (l : List Queued) : (s.setWaitingAt k l).waitingAt k = l :=
  tabGet_set_self _ _ _ _

/-! ## The head of a queue -/

/-- A head that has passed no step yet and is refused at none has passed them (R198 to R203). -/
theorem State.issueHead_passes {s : State} {k : Nat} {q : Queued} {rest : List Queued} (hhead : s.waitingAt k = q :: rest) (hstamp : q.stamp = none)
    (hfreeze : s.waitsFreeze q.issue = false) (hop : s.opStep q.issue = none) (hcheck : (s.journalDesc q.issue).preCheck q.issue = none) :
    s.issueHead k = (true, (s.journalDesc q.issue).setWaitingAt k ((s.journalDesc q.issue).translated q :: rest)) := by
  simp only [State.issueHead, hhead, hstamp, hfreeze, hop, hcheck, Bool.false_eq_true, if_false]

/-- Whether a head that has passed the steps still waits (R201, R205). -/
def State.headWaits (s : State) (i : Issue) : Prop :=
  (i.cue && (tabFind s.prm.retries (whoIdx i.who)).any fun r => decide (s.now < r.1)) = true ∨ s.stepWaits i = true ∨
    (needsPlace i.desc = true ∧ (! s.cqFree (dQueue i.desc)) = true)

theorem State.not_headWaits {s : State} {i : Issue} (hcue : i.cue = false) (hstep : s.stepWaits i = false)
    (hplace : needsPlace i.desc = false ∨ s.cqFree (dQueue i.desc) = true) : ¬ s.headWaits i := by
  unfold State.headWaits
  rcases hplace with h | h <;> simp [hcue, hstep, h]

/-- A head that waits for nothing does what its opcode does, where that takes no tag. -/
theorem State.issueHead_runs {s : State} {k stamp : Nat} {q : Queued} {rest : List Queued} (hhead : s.waitingAt k = q :: rest)
    (hstamp : q.stamp = some stamp) (hgo : ¬ s.headWaits q.issue) (htag : takesTag q.issue.desc = false) :
    s.issueHead k = (true, ((s.dropHead k).reserve q.issue.desc).runOther q.issue stamp) := by
  unfold State.headWaits at hgo
  simp only [State.issueHead, hhead, hstamp]
  rw [if_neg hgo, if_neg (by simp [htag])]

/-- A head that waits for nothing starts an operation, where its opcode takes a tag and one is free (R206). -/
theorem State.issueHead_starts {s : State} {k stamp : Nat} {q : Queued} {rest : List Queued} (hhead : s.waitingAt k = q :: rest)
    (hstamp : q.stamp = some stamp) (hcue : q.issue.cue = false) (hgo : ¬ s.headWaits q.issue) (htag : takesTag q.issue.desc = true)
    (hfree : s.tagStep (s.opFor q) = none) (hspace : s.spaceWaits (s.opFor q) = false) :
    s.issueHead k = (true, ((s.dropHead k).reserve q.issue.desc).startIssue (s.opFor q)) := by
  unfold State.headWaits at hgo
  simp only [State.issueHead, hhead, hstamp]
  rw [if_neg hgo, if_pos htag, hfree]
  simp [hspace, hcue]

theorem State.runQueueFor_true {s t : State} {k : Nat} (h : s.issueHead k = (true, t)) (f : Nat) :
    State.runQueueFor k (f + 1) s = State.runQueueFor k f t := by
  simp only [State.runQueueFor, h, if_true]

theorem State.runQueue_running {s : State} (hrun : s.running = true) (k : Nat) :
    s.runQueue k = State.runQueueFor k (2 * (s.waitingAt k).length + 2) s := if_pos hrun

/-! ## The opcode rows -/

/-- A row whose descriptor is of its opcode submits it. -/
theorem exec_of_issueOf {c : Instr} {i : Issue} {s : State} (h : c.issueOf = some i) (hwf : c.wf s.nodeId = true) :
    exec c s = .next (s.submit i) := by
  cases c <;> simp only [Instr.issueOf, reduceCtorEq, Option.some.injEq] at h <;> subst h <;> exact if_pos (by simpa [Instr.wf] using hwf)

theorem State.submit_running {s : State} {i : Issue} (hrun : s.running = true) (hgrant : s.mayGrant = true ∨ ∃ w, i.who = .window w) :
    s.submit i = ((s.enqueue i).runQueue (queueOf i.who i.cue)).settleAll := by
  unfold State.submit
  dsimp only
  rw [if_running hrun, if_neg]
  rintro ⟨hseat, -, hfrozen⟩
  rcases hgrant with h | ⟨w, h⟩
  · simp [h] at hfrozen
  · simp [h] at hseat

theorem State.enqueue_waitingAt {s : State} {i : Issue} (h : s.waitingAt (queueOf i.who i.cue) = []) :
    (s.enqueue i).waitingAt (queueOf i.who i.cue) = [queuedBlank i] := by
  rw [State.enqueue, State.setWaitingAt_waitingAt_self, h]
  rfl

/-- A descriptor alone in its queue, refused at no step, has passed them all. -/
theorem State.enqueue_passes {s : State} {i : Issue} (halone : s.waitingAt (queueOf i.who i.cue) = []) (hfreeze : (s.enqueue i).waitsFreeze i = false)
    (hop : (s.enqueue i).opStep i = none) (hcheck : ((s.enqueue i).journalDesc i).preCheck i = none) :
    (s.enqueue i).issueHead (queueOf i.who i.cue) = (true, s.passed i) :=
  State.issueHead_passes (q := queuedBlank i) (State.enqueue_waitingAt halone) rfl hfreeze hop hcheck

theorem State.passed_waitingAt (s : State) (i : Issue) :
    (s.passed i).waitingAt (queueOf i.who i.cue) = [((s.enqueue i).journalDesc i).translated (queuedBlank i)] := by
  rw [State.passed, State.setWaitingAt_waitingAt_self]

/-- What an opcode row does with a descriptor alone in its queue whose head, once passed, leaves the state `t`. -/
theorem exec_issues {c : Instr} {i : Issue} {s t : State} (h : c.issueOf = some i) (hwf : c.wf s.nodeId = true) (hrun : s.running = true)
    (hgrant : s.mayGrant = true ∨ ∃ w, i.who = .window w) (halone : s.waitingAt (queueOf i.who i.cue) = [])
    (hpass : (s.enqueue i).issueHead (queueOf i.who i.cue) = (true, s.passed i))
    (hhead : (s.passed i).issueHead (queueOf i.who i.cue) = (true, t)) :
    exec c s = .next (State.runQueueFor (queueOf i.who i.cue) 2 t).settleAll := by
  rw [exec_of_issueOf h hwf, State.submit_running hrun hgrant, State.runQueue_running (s := s.enqueue i) hrun, State.enqueue_waitingAt halone]
  rw [show 2 * [queuedBlank i].length + 2 = 3 + 1 from rfl, State.runQueueFor_true hpass, State.runQueueFor_true hhead]

/-- Settles O33: the descriptor passes the steps, then its head runs or starts. -/
theorem opcodeRowsStart : Obligations.OpcodeRowsStart := by
  intro c i s hissue hwf hrun hcue hgrant halone hfreeze hop hcheck hstep hplace
  have hpass := State.enqueue_passes halone hfreeze hop hcheck
  have hgo : ¬ (s.passed i).headWaits i := State.not_headWaits hcue hstep hplace
  have hwaiting := s.passed_waitingAt i
  refine ⟨fun htag => ?_, fun htag q hq hfree hspace => ?_⟩
  · exact ⟨2, _, exec_issues hissue hwf hrun hgrant halone hpass (State.issueHead_runs hwaiting rfl hgo htag)⟩
  · have hsame : [q] = [((s.enqueue i).journalDesc i).translated (queuedBlank i)] := by
      rw [← hwaiting, hq, State.setWaitingAt_waitingAt_self]
    obtain rfl : q = ((s.enqueue i).journalDesc i).translated (queuedBlank i) := List.singleton_inj.mp hsame
    exact ⟨2, exec_issues hissue hwf hrun hgrant halone hpass (State.issueHead_starts hwaiting rfl hcue hgo htag hfree hspace)⟩

/-! ## The sources of issue -/

/-- Whether a tail would put more than 256 descriptors in the ring (R196). -/
def State.overruns (s : State) (w : Win) (v : Word) : Prop := 256 < (bits v 0 16 + 65536 - bits (s.winReg w R.sqHead) 0 16) % 65536

theorem State.ringBell_overruns {s : State} {w : Win} {v : Word} (h : s.overruns w v) : s.ringBell w v = s.violation w 3 true (R.win w + R.sqTail) :=
  if_pos h

theorem State.ringBell_running {s : State} {w : Win} {v : Word} (h : ¬ s.overruns w v) (hrun : s.running = true) : s.ringBell w v =
    ((s.setWinReg w R.sqTail (setBits (s.winReg w R.sqTail) 0 16 (bits v 0 16))).fetchRing w).settleAll := by
  unfold State.ringBell
  dsimp only
  rw [if_neg (by exact h), if_pos (by rw [State.setWinReg_running]; exact hrun)]

theorem execDoorbell_present {w : Win} {s : State} (hpresent : s.winPresent w = true ∨ s.winFm w = true) (v : Word) : execDoorbell w v s =
    if s.script.holdBells then .next ((s.setScript { s.script with bells := s.script.bells ++ [(w.val, v)] }).bump R.scriptHeld)
    else .next (s.ringBell w v) :=
  if_neg (by rcases hpresent with h | h <;> simp [h])

/-- The issue that a seat's DESC cell carries. -/
def descIssue (c : Cell) : Issue :=
  { who := .seat (Fin.ofNat 16 c.src.toNat), cue := false, tag := c.tag, time := c.time, desc := c.payload }

theorem execDescRx_of_seat {c : Cell} {s : State} (hon : s.running = true ∨ s.kpr.power = .sleeping) (hc : cellIs c 0x08 = true)
    (hseat : 0x4000 ≤ c.src.toNat) (hnode : epNode c.src.toNat = s.nodeId) : execDescRx c s =
      if s.kpr.power = .sleeping ∨ (! s.mayGrant) = true then .next ((s.takeEjected c).answerSeat (descIssue c) ⟨12, 52, 0, 0, 0, 0⟩ (s.takeEjected c).now)
      else .next (((s.takeEjected c).enqueue (descIssue c)).runQueue (queueOf (descIssue c).who (descIssue c).cue)).settleAll := by
  have hgo : ¬ ((! s.running) = true ∧ s.kpr.power ≠ .sleeping) := by rcases hon with h | h <;> simp [h]
  have hwf : ¬ ((! cellIs c 0x08) = true ∨ ¬ (0x4000 ≤ c.src.toNat ∧ epNode c.src.toNat = s.nodeId)) := by simp [hc, hseat, hnode]
  exact (if_neg hgo).trans (if_neg (by simpa using hwf))

/-- A queue whose only head waits no more goes on with it (R201). -/
theorem State.runQueue_resumes {s : State} {q : Queued} {k stamp : Nat} (hrun : s.running = true) (hhead : s.waitingAt k = [q])
    (hstamp : q.stamp = some stamp) (hgo : ¬ s.headWaits q.issue) (htag : takesTag q.issue.desc = false) :
    s.runQueue k = State.runQueueFor k 3 (((s.dropHead k).reserve q.issue.desc).runOther q.issue stamp) := by
  rw [State.runQueue_running hrun, hhead, show 2 * [q].length + 2 = 3 + 1 from rfl,
    State.runQueueFor_true (State.issueHead_runs hhead hstamp hgo htag)]

/-- A message alone in its operation, whose backoff has passed, is sent again (R214). -/
theorem State.retryBusy_due {s : State} {t k b : Nat} {o : Op} {m : Msg} (hop : s.op t = some o) (habort : o.abortAt = none)
    (hmsgs : o.msgs = [(k, m)]) (hreq : m.req = k) (hb : m.backoff = some b) (hdue : b ≤ s.now) :
    s.retryBusy t = s.resendMsg t k (if o.kind = .load then o.requestLen k else m.len) := by
  simp [State.retryBusy, hop, habort, hmsgs, hreq, hb, hdue, tabFind]

theorem execBusyBackoff_due {tag : Fin 16384} {u s : State} (hrun : s.running = true) (hretry : s.retryBusy tag.val = u) (hnone : u.prm.retries = []) :
    execBusyBackoff tag s = .next u.runTurns.settleAll := by
  simp only [execBusyBackoff, if_running hrun, hretry, hnone, List.filter_nil, List.foldl_nil]

theorem execCueFire_ready {cue : Fin 16384} {x : Cue} {s : State} (hrun : s.running = true) (hx : tabFind s.prm.cues cue.val = some x)
    (hgrant : s.mayGrant = true) (hgo : (s.cycleToFire cue x).paused = false) (hready : x.ready.isSome = true) (hfirst : s.cueBehind cue x = false)
    (hroom : s.cueRoom x = true) : execCueFire cue s = .next ((((((s.cycleToFire cue x).setPrm { (s.cycleToFire cue x).prm with
      cues := tabErase (s.cycleToFire cue x).prm.cues cue.val, fired := (s.cycleToFire cue x).prm.fired ++ [cue.val] }).bump
      (R.prmCount 0)).enqueue (x.issue cue.val)).runQueue (queueOf x.who true)).settleAll) := by
  have hnot : ¬ (s.firingFrozen = true ∨ (s.cycleToFire cue x).paused = true ∨ x.ready.isNone = true ∨ s.cueBehind cue x = true ∨
      (! s.cueRoom x) = true) := by
    simp only [State.firingFrozen, hgrant, hgo, hfirst, hroom, Option.isNone_iff_eq_none]
    simpa [Option.isSome_iff_ne_none] using hready
  simp only [execCueFire, if_running hrun, hx]
  exact if_neg hnot

/-- Settles O34: each source of issue at the state that lets it issue, hold or refuse. -/
theorem issueSourcesAct : Obligations.IssueSourcesAct := by
  refine ⟨?bell, ?heldBell, ?refusedBell, fun s hheld hroom => if_pos ⟨hheld, hroom⟩, ?desc, ?resume, ?backoff, ?cue⟩
  case bell =>
    intro w v s hpresent hfree
    refine ⟨s.ringBell w v, (execDoorbell_present hpresent v).trans (if_neg (by simp [hfree])), State.ringBell_overruns, fun hfits hrun => ?_⟩
    exact State.ringBell_running (Nat.not_lt.mpr hfits) hrun
  case heldBell =>
    intro w v s hpresent hheld
    refine ⟨_, (execDoorbell_present hpresent v).trans (if_pos hheld), rfl, rfl, ?_⟩
    exact State.toNat_reg_bump_self _ _
  case refusedBell => exact fun w v s hpresent hfm => if_pos (by simp [hpresent, hfm])
  case desc =>
    rintro c s hon hc hseat hnode i rfl
    have hexec := execDescRx_of_seat hon hc hseat hnode
    refine ⟨fun hrun hgrant => hexec.trans (if_neg ?_), fun hrefuse => hexec.trans ((if_pos ?_).trans ?_)⟩
    · have hpower : s.kpr.power = .run := of_decide_eq_true hrun
      simp [hpower, hgrant]
    · simpa using hrefuse
    · rw [State.takeEjected_now]
      rfl
  case resume =>
    intro q stamp s hrun hstamp hcue hhead hstep hplace htag
    refine ⟨3, ?_⟩
    change execIssueResume q.issue.who s = _
    rw [execIssueResume, if_running hrun]
    unfold State.resumeIssue
    dsimp only
    rw [State.runQueue_resumes hrun hhead hstamp (State.not_headWaits hcue hstep hplace) htag] <;> rfl
  case backoff =>
    intro tag o k m b s hrun hop habort hmsgs hreq hb hdue hnone
    exact execBusyBackoff_due hrun (State.retryBusy_due hop habort hmsgs hreq hb hdue) hnone
  case cue =>
    rintro cue x s _ hrun hx rfl hgrant hgo hready hfirst hroom
    exact execCueFire_ready hrun hx hgrant hgo hready hfirst hroom

end Sys2Proof.Machine
end

section
/-! Requests at their target: the answer cells, and requests executed before (R225). -/

namespace Sys2Proof.Machine

/-! ## Cells and their fields -/

theorem cellIs_ne {c : Cell} {a b : Nat} (h : cellIs c a = true) (hne : a ≠ b) : cellIs c b = false := by
  simp only [cellIs, beq_iff_eq] at h
  simp [cellIs, h, hne]

/-- A field of a payload reads as it was packed, where the fields are laid out in rising order. -/
theorem bytesAt_packBytes {n : Nat} {fs : List (Nat × Nat × Nat)} (hlaid : laidFrom 0 (fs.map fun f => (8 * f.1, 8 * f.2.1, f.2.2)) = true)
    {k m v : Nat} (hf : (k, m, v) ∈ fs) (hn : 8 * k + 8 * m ≤ n) : bytesAt (packBytes n fs) k m = v % 2 ^ (8 * m) :=
  bits_pack hlaid (List.mem_map.mpr ⟨(k, m, v), hf, rfl⟩) hn

/-- The fields of an answer's payload (Table 07-15). -/
def answerFields (kind : Nat) (a : Answer) (outcome chunk orig : Nat) (more : List (Nat × Nat × Nat)) : List (Nat × Nat × Nat) :=
  [(0, 1, kind), (1, 1, a.status), (2, 1, a.reason), (3, 1, outcome), (4, 4, chunk), (8, 8, orig)] ++ more

/-- The answer to the request `c`: its type and kind follow the request's. -/
def State.answerTo (s : State) (c : Cell) (chunk : Nat) (a : Answer) (more : List (Nat × Nat × Nat)) : Cell :=
  altCell (s.answerCell (if cellIs c 0x03 then 0x12 else 0x11) (if cellIs c 0x03 || cellIs c 0x28 then 2 else 0) c.src.toNat c.pkey.toNat c.tag.toNat a 0
    chunk (hOrig c) more) c.alt

theorem State.respond_eq (s : State) (c : Cell) (chunk : Nat) (a : Answer) (more : List (Nat × Nat × Nat)) :
    s.respond c chunk a more = (s.countAnswer c a).injectCell (s.answerTo c chunk a more) := rfl

theorem State.answerTo_tag (s : State) (c : Cell) (chunk : Nat) (a : Answer) (more : List (Nat × Nat × Nat)) : (s.answerTo c chunk a more).tag = c.tag :=
  (by simp : BitVec.ofNat 16 c.tag.toNat = c.tag)

theorem State.answerTo_payload (s : State) (c : Cell) (chunk : Nat) (a : Answer) (more : List (Nat × Nat × Nat)) :
    (s.answerTo c chunk a more).payload =
      packBytes 512 (answerFields (if cellIs c 0x03 || cellIs c 0x28 then 2 else 0) a 0 chunk (hOrig c) more) := rfl

theorem State.answerTo_typ (s : State) (c : Cell) (chunk : Nat) (a : Answer) (more : List (Nat × Nat × Nat)) :
    cellIs (s.answerTo c chunk a more) (if cellIs c 0x03 then 0x12 else 0x11) = true := by
  have htyp : (s.answerTo c chunk a more).typ = BitVec.ofNat 6 (if cellIs c 0x03 then 0x12 else 0x11) := rfl
  rw [cellIs, htyp]
  split <;> rfl

/-- The value that an atomic's answer carries behind the other fields. -/
def oldValue (v : Nat) : List (Nat × Nat × Nat) := [(32, 8, v)]

theorem State.answerTo_status (s : State) (c : Cell) (chunk : Nat) (a : Answer) {more : List (Nat × Nat × Nat)} (hmore : more = [] ∨ ∃ v, more = oldValue v) :
    bytesAt (s.answerTo c chunk a more).payload 1 1 = a.status % 256 ∧ bytesAt (s.answerTo c chunk a more).payload 2 1 = a.reason % 256 := by
  have hlaid : ∀ kind, laidFrom 0 ((answerFields kind a 0 chunk (hOrig c) more).map fun f => (8 * f.1, 8 * f.2.1, f.2.2)) = true := by
    rcases hmore with rfl | ⟨v, rfl⟩ <;> exact fun _ => rfl
  rw [State.answerTo_payload]
  exact ⟨bytesAt_packBytes (hlaid _) (by simp [answerFields]) (by decide), bytesAt_packBytes (hlaid _) (by simp [answerFields]) (by decide)⟩

theorem State.answerTo_value (s : State) (c : Cell) (chunk : Nat) (a : Answer) (v : Nat) :
    bytesAt (s.answerTo c chunk a (oldValue v)).payload 32 8 = v % 2 ^ 64 :=
  bytesAt_packBytes rfl (by simp [oldValue]) (by decide)

/-! ## What answering leaves unchanged -/

theorem State.takeEjected_inject (s : State) (c : Cell) : (s.takeEjected c).csw.inject = s.csw.inject := by
  unfold State.takeEjected
  split
  · rfl
  · simp only [Csw.relatch]
    split_ifs <;> rfl

theorem State.takeEjected_eq (s : State) (c : Cell) : ∃ x, s.takeEjected c = { s with csw := x } ∧ x.inject = s.csw.inject := by
  refine ⟨(s.takeEjected c).csw, ?_, s.takeEjected_inject c⟩
  unfold State.takeEjected
  split <;> rfl

/-- An answer of a status other than the memory error counts in a register at most. -/
theorem State.countAnswer_eq {s : State} {c : Cell} {a : Answer} (h : a.status ≠ 8) :
    s.countAnswer c a = s ∨ ∃ off, s.countAnswer c a = s.bump off := by
  unfold State.countAnswer
  split
  · exact .inl rfl
  · split
    · exact .inr ⟨_, rfl⟩
    · exact .inl rfl

/-- The parts of the state that answering leaves, and the cell that it sends. -/
def State.answeredWith (s t : State) (y : Cell) : Prop :=
  t.memory = s.memory ∧ t.prm = s.prm ∧ t.xfr = s.xfr ∧ t.mem = s.mem ∧ t.csw.inject = s.csw.inject ++ [y]

theorem State.respond_answers {s : State} {a : Answer} (h : a.status ≠ 8) (c : Cell) (chunk : Nat) (more : List (Nat × Nat × Nat)) :
    s.answeredWith (s.respond c chunk a more) (s.answerTo c chunk a more) := by
  rw [State.respond_eq]
  rcases State.countAnswer_eq (s := s) (c := c) h with hcount | ⟨off, hcount⟩ <;> rw [hcount] <;> exact ⟨rfl, rfl, rfl, rfl, rfl⟩

/-! ## Requests executed before -/

/-- A request that is recorded is answered so, unless it is under way (R225). -/
theorem State.takeHead_recorded {s : State} {c : Cell} {chunk : Nat} {e : Exec} (run : State → State)
    (hopen : s.closed c.src.toNat c.tag.toNat (orig48 c) = false) (hidle : s.underWay c chunk = false) (hrecord : s.recordFor c chunk = some e) :
    s.takeHead c chunk run = ((s.takeEjected c).swallow c).respondRecorded c e := by
  obtain ⟨x, hx, -⟩ := s.takeEjected_eq c
  have hopen' : ({ s with csw := x } : State).closed c.src.toNat c.tag.toNat (orig48 c) = false := hopen
  have hidle' : ({ s with csw := x } : State).underWay c chunk = false := hidle
  have hrecord' : ({ s with csw := x } : State).recordFor c chunk = some e := hrecord
  unfold State.takeHead
  rw [hx]
  simp only [hopen', hidle', hrecord', Bool.false_eq_true, if_false]

theorem State.swallow_of_other {s : State} {c : Cell} (h : cellIs c 0x02 = false) : s.swallow c = s := if_neg (by simp [h])

theorem State.respondRecorded_known {s : State} {c : Cell} {e : Exec} (h : e.unknown = false) : s.respondRecorded c e =
    (s.bump (R.xfrCount 5)).respond c e.chunk ⟨e.status, e.reason⟩ (if e.atomic then oldValue e.value else []) := by
  unfold State.respondRecorded
  dsimp only
  rw [if_neg (by simp [h])]
  rfl

/-- A recorded request, its cell no STORE's, is answered with its status and its reason. -/
theorem State.takeHead_answers {s : State} {c : Cell} {chunk : Nat} {e : Exec} (run : State → State)
    (hopen : s.closed c.src.toNat c.tag.toNat (orig48 c) = false) (hidle : s.underWay c chunk = false) (hrecord : s.recordFor c chunk = some e)
    (hknown : e.unknown = false) (hstatus : e.status ≠ 8) (hc : cellIs c 0x02 = false) : ∃ y, s.answeredWith (s.takeHead c chunk run) y ∧
      bytesAt y.payload 1 1 = e.status % 256 ∧ bytesAt y.payload 2 1 = e.reason % 256 ∧ y.tag = c.tag := by
  obtain ⟨x, hx, hinject⟩ := s.takeEjected_eq c
  have hmore : (if e.atomic then oldValue e.value else []) = [] ∨ ∃ v, (if e.atomic then oldValue e.value else []) = oldValue v := by
    split
    · exact .inr ⟨_, rfl⟩
    · exact .inl rfl
  rw [State.takeHead_recorded run hopen hidle hrecord, State.swallow_of_other hc, State.respondRecorded_known hknown, hx]
  obtain ⟨hmemory, hprm, hxfr, hmem, hsent⟩ := State.respond_answers (s := ({ s with csw := x } : State).bump (R.xfrCount 5))
    (a := ⟨e.status, e.reason⟩) hstatus c e.chunk (if e.atomic then oldValue e.value else [])
  exact ⟨_, ⟨hmemory, hprm, hxfr, hmem, hsent.trans (congrArg (· ++ _) hinject)⟩, (State.answerTo_status _ c _ _ hmore).1,
    (State.answerTo_status _ c _ _ hmore).2, State.answerTo_tag _ _ _ _ _⟩

/-- What a CUE_ADD does at its counter's node when its turn comes (R261, R411). -/
def State.runCueAdd (s : State) (c : Cell) : State :=
  if s.intm.state = .save ∨ s.intm.state = .frozen then s.respond c 0 ⟨12, 52⟩ []
  else if ! s.ctrDenied (hLow c) c.pkey.toNat ∧ s.execFull then s.respond c 0 ⟨12, 24⟩ []
  else
    let r := s.updateCtr (hLow c) c.pkey.toNat (hAddr c % 2 == 1) false (hChunk c) (0x10000 + c.src.toNat)
    match r.2 with
    | some old => r.1.answerAtomic c old.toNat
    | none => r.1.respond c 0 ⟨9, 35⟩ []

/-- The three rows whose cells are no STORE's heads and that keep records. -/
theorem exec_takesHead {c : Cell} {s : State} (hrun : s.running = true) :
    (cellIs c 0x03 = true → exec (.atomicReqRx c) s = .next (s.takeHead c 0 fun t => t.inTurn c)) ∧
    (cellIs c 0x05 = true → exec (.fillReqRx c) s = .next (s.takeHead c (hChunk c) fun t => t.inTurn c)) ∧
    (cellIs c 0x28 = true → exec (.cueAddRx c) s = .next (s.takeHead c 0 fun t => t.runCueAdd c)) := by
  refine ⟨fun hc => ?_, fun hc => ?_, fun hc => ?_⟩
  · change execAtomicReqRx c s = _
    rw [execAtomicReqRx, if_running hrun, if_neg (by simp [hc])]
  · change execFillReqRx c s = _
    rw [execFillReqRx, if_running hrun, if_neg (by simp [hc])]
  · change execCueAddRx c s = _
    rw [execCueAddRx, if_running hrun, if_neg (by simp [hc])]
    rfl

/-- Settles O35: each of the three rows finds the record and answers from it. -/
theorem duplicatesAreAnsweredAsRecorded : Obligations.DuplicatesAreAnsweredAsRecorded := by
  intro c e s x hrun hopen hknown hstatus hrow
  obtain ⟨hatomic, hfill, hcue⟩ := exec_takesHead (c := c) hrun
  have hanswer {chunk : Nat} {run : State → State} (hexec : exec x s = .next (s.takeHead c chunk run)) (hidle : s.underWay c chunk = false)
      (hrecord : s.recordFor c chunk = some e) (hc : cellIs c 0x02 = false) : ∃ t y, exec x s = .next t ∧ t.memory = s.memory ∧ t.prm = s.prm ∧
        t.xfr = s.xfr ∧ t.csw.inject = s.csw.inject ++ [y] ∧ bytesAt y.payload 1 1 = e.status % 256 ∧ bytesAt y.payload 2 1 = e.reason % 256 ∧
        y.tag = c.tag := by
    obtain ⟨y, ⟨hmemory, hprm, hxfr, -, hsent⟩, hst, hre, htag⟩ := State.takeHead_answers run hopen hidle hrecord hknown hstatus hc
    exact ⟨_, y, hexec, hmemory, hprm, hxfr, hsent, hst, hre, htag⟩
  rcases hrow with ⟨rfl, hc, hidle, hrecord⟩ | ⟨rfl, hc, hidle, hrecord⟩ | ⟨rfl, hc, hidle, hrecord⟩
  · exact hanswer (hatomic hc) hidle hrecord (cellIs_ne hc (by decide))
  · exact hanswer (hfill hc) hidle hrecord (cellIs_ne hc (by decide))
  · exact hanswer (hcue hc) hidle hrecord (cellIs_ne hc (by decide))

end Sys2Proof.Machine
end

section
/-! Lines of memory, read and written (R244). -/

namespace Sys2Proof.Machine

/-! ## Bytes of words -/

theorem toBytes_getD {n : Nat} (x : BitVec n) {m i : Nat} (hi : i < m) : (toBytes x m).getD i 0 = BitVec.ofNat 8 (bytesAt x i 1) := by
  simp [toBytes, List.getD_eq_getElem?_getD, hi]

/-- A run of bytes out of a word spells the bits that it covers. -/
theorem ofBytes_drop_take {n : Nat} (x : BitVec n) {m k w : Nat} (h : k + w ≤ m) : ofBytes (((toBytes x m).drop k).take w) = bytesAt x k w := by
  have hrun : ((toBytes x m).drop k).take w = toBytes (x >>> (8 * k)) w := by
    apply List.ext_getElem (by simp; omega)
    intro i hi _
    simp only [toBytes, List.getElem_take, List.getElem_drop, List.getElem_map, List.getElem_range, bytesAt_one, BitVec.toNat_ushiftRight,
      Nat.shiftRight_eq_div_pow, pow_add, Nat.div_div_eq_div_mul]
    rw [show (256 : Nat) = 2 ^ 8 from rfl, pow_mul 2 8 k, mul_comm]
  rw [hrun, ofBytes_toBytes, bytesAt, bits, BitVec.toNat_ushiftRight, Nat.shiftRight_eq_div_pow, show (256 : Nat) = 2 ^ 8 from rfl, ← pow_mul]

theorem ofBytes_natBytes (v m : Nat) : ofBytes (natBytes v m) = v % 2 ^ (8 * m) := by
  suffices h : ∀ j, ofBytes ((List.range' j m).map fun k => BitVec.ofNat 8 (v / 256 ^ k)) = v / 256 ^ j % 256 ^ m by
    simpa [natBytes, List.range_eq_range', pow_mul] using h 0
  induction m with
  | zero => intro j; simp [ofBytes, Nat.mod_one]
  | succ m ih =>
    intro j
    rw [List.range'_succ, List.map_cons, ofBytes, ih, BitVec.toNat_ofNat, pow_succ' 256 m, Nat.mod_mul, pow_succ 256 j, Nat.div_div_eq_div_mul]

@[simp] theorem length_natBytes (v m : Nat) : (natBytes v m).length = m := by simp [natBytes]

/-- The merged bytes read back as they were merged. -/
theorem bytesAt_mergeLine_self (l : Line) {k : Nat} (d : List Byte) (h : k + d.length ≤ 64) :
    bytesAt (mergeLine l k d) k d.length = ofBytes d := by
  rw [bytesAt, mergeLine, bits_setBits_self _ _ _ _ (by omega), Nat.mod_eq_of_lt]
  rw [pow_mul]
  exact ofBytes_lt d

/-- A byte beside the merged ones is as it was. -/
theorem bytesAt_mergeLine_ne (l : Line) {k i : Nat} (d : List Byte) (h : k + d.length ≤ 64) (hi : i < k ∨ k + d.length ≤ i) :
    bytesAt (mergeLine l k d) i 1 = bytesAt l i 1 := by
  rcases hi with hi | hi
  · exact bits_setBits_below _ _ _ _ _ _ (by omega) (by omega)
  · exact bits_setBits_above _ _ _ _ _ _ (by omega) (by omega)

/-! ## Lines -/

theorem State.toBytes_rawLine (s : State) (key : Nat) : toBytes (s.rawLine key) 64 = Memory.bytes s.memory (64 * key) 64 := by
  have hlen : (Memory.bytes s.memory (64 * key) 64).length = 64 := by simp [Memory.bytes]
  have hback := toBytes_ofBytes (n := 512) (Memory.bytes s.memory (64 * key) 64) (by rw [hlen])
  rwa [hlen] at hback

/-- A byte of memory is the byte of its line. -/
theorem State.get_eq_rawLine (s : State) (a : Nat) : Memory.get s.memory a = BitVec.ofNat 8 (bytesAt (s.rawLine (a / 64)) (a % 64) 1) := by
  have hlt : a % 64 < 64 := Nat.mod_lt _ (by decide)
  rw [← toBytes_getD _ hlt, State.toBytes_rawLine]
  simp [Memory.bytes, List.getD_eq_getElem?_getD, hlt, Nat.div_add_mod]

/-- Memory behind a written line: the line's bytes there, and every other byte as before. -/
theorem State.get_setRawLine {s : State} (hwf : Memory.wf s.memory = true) (key a : Nat) (l : Line) :
    Memory.get (s.setRawLine key l).memory a = if a / 64 = key then BitVec.ofNat 8 (bytesAt l (a % 64) 1) else Memory.get s.memory a := by
  have hget := Memory.get_setBytes hwf (64 * key) a (toBytes l 64)
  rw [length_toBytes] at hget
  rw [State.setRawLine, hget]
  by_cases ha : a / 64 = key
  · have hi : a - 64 * key = a % 64 := by omega
    rw [if_pos (by omega), if_pos ha, hi, toBytes_getD _ (Nat.mod_lt _ (by decide))]
  · rw [if_neg (by omega), if_neg ha]

theorem State.rawLine_setRawLine_self {s : State} (hwf : Memory.wf s.memory = true) (key : Nat) (l : Line) : (s.setRawLine key l).rawLine key = l := by
  have hbytes : Memory.bytes (s.setRawLine key l).memory (64 * key) 64 = toBytes l 64 := by
    apply List.ext_getElem (by simp [Memory.bytes])
    intro i hi _
    have hi64 : i < 64 := by simpa [Memory.bytes] using hi
    simp only [Memory.bytes, toBytes, List.getElem_map, List.getElem_range]
    rw [State.get_setRawLine hwf, if_pos (by omega), show (64 * key + i) % 64 = i by omega]
  rw [State.rawLine, hbytes]
  exact ofNat_ofBytes_toBytes l rfl

theorem State.rawLine_congr {s t : State} (h : t.memory = s.memory) (key : Nat) : t.rawLine key = s.rawLine key := by
  unfold State.rawLine
  rw [h]

theorem State.writeLine_memory (s : State) (v : PlateV) (g : Region) (off : Nat) (l : Line) : (s.writeLine v g off l).memory =
    (s.setRawLine (v.lineAt g.num off) (if g.xts then xtsEncrypt (s.xtsKey g.pkey) (xtsTweak g.num off) l else l)).memory := rfl

theorem State.readLine_plain (s : State) (v : PlateV) {g : Region} (h : g.xts = false) (off : Nat) : s.readLine v g off = s.rawLine (v.lineAt g.num off) :=
  if_neg (by simp [h])

/-! ## The switch and the transfers take no part in reading and writing -/

theorem State.readBytes_switch (s : State) (x : Csw) (v : PlateV) (g : Region) (off n : Nat) :
    ({ s with csw := x } : State).readBytes v g off n = s.readBytes v g off n := by
  have hfrom : ∀ f off n, ({ s with csw := x } : State).readFrom v g f off n = s.readFrom v g f off n := by
    intro f
    induction f with
    | zero => exact fun _ _ => rfl
    | succ f ih =>
      intro off n
      simp only [State.readFrom, ih]
      rfl
  exact hfrom _ _ _

/-- A state with another switch and other transfers. -/
def State.withTraffic (s : State) (x : Csw) (y : Xfr) : State := { s with csw := x, xfr := y }

theorem State.writeBytes_withTraffic (s : State) (x : Csw) (y : Xfr) (v : PlateV) (g : Region) (off : Nat) (d : List Byte) :
    (s.withTraffic x y).writeBytes v g off d = (s.writeBytes v g off d).withTraffic x y := by
  have hline (t : State) (o : Nat) (l : Line) : (t.withTraffic x y).writeLine v g o l = (t.writeLine v g o l).withTraffic x y := rfl
  have hfrom : ∀ f off d (t : State), State.writeFrom v g f off d (t.withTraffic x y) = (State.writeFrom v g f off d t).withTraffic x y := by
    intro f
    induction f with
    | zero => exact fun _ _ _ => rfl
    | succ f ih =>
      intro off d t
      have hread : (t.withTraffic x y).readLine v g off = t.readLine v g off := rfl
      have hsound : (t.withTraffic x y).poisoned (v.lineAt g.num off) = t.poisoned (v.lineAt g.num off) := rfl
      simp only [State.writeFrom, hread, hsound, hline, ← apply_ite (fun u : State => u.withTraffic x y), ih]
  exact hfrom _ _ _ _

/-- Memory behind a write depends on neither the switch nor the transfers. -/
theorem State.writeBytes_memory_of_traffic {s t : State} (x : Csw) (y : Xfr) (h : t = s.withTraffic x y) (v : PlateV) (g : Region) (off : Nat)
    (d : List Byte) : (t.writeBytes v g off d).memory = (s.writeBytes v g off d).memory := by
  rw [h, State.writeBytes_withTraffic]
  rfl

/-! ## A run of bytes within one line -/

theorem State.readBytes_withinLine (s : State) (v : PlateV) (g : Region) {off w : Nat} (hw : 0 < w) (h : off % 64 + w ≤ 64) :
    s.readBytes v g off w = ((toBytes (s.readLine v g off) 64).drop (off % 64)).take w := by
  have hrest : ∀ f o, s.readFrom v g f o 0 = [] := fun f o => by cases f <;> simp [State.readFrom]
  rw [State.readBytes, State.readFrom, if_neg (by omega)]
  dsimp only
  rw [Nat.min_eq_left (by omega), Nat.sub_self, hrest, List.append_nil]

theorem State.writeBytes_withinLine {s : State} {v : PlateV} {g : Region} {off : Nat} {d : List Byte} (hd : 0 < d.length) (h64 : d.length < 64)
    (h : off % 64 + d.length ≤ 64) (hsound : s.poisoned (v.lineAt g.num off) = false) :
    s.writeBytes v g off d = s.writeLine v g off (mergeLine (s.readLine v g off) (off % 64) d) := by
  have hrest : ∀ f o t, State.writeFrom v g f o [] t = t := fun f o t => by cases f <;> simp [State.writeFrom]
  have hne : d.isEmpty = false := by cases d <;> simp_all
  rw [State.writeBytes, State.writeFrom]
  simp only [hne, hsound, Bool.false_eq_true, if_false]
  rw [Nat.min_eq_left (by omega), if_neg (by omega), List.drop_length, List.take_length, hrest]

/-- Behind a write within one line that is not encrypted, the run reads as written. -/
theorem State.readBytes_writeBytes {s : State} {v : PlateV} {g : Region} {off : Nat} {d : List Byte} (hwf : Memory.wf s.memory = true)
    (hplain : g.xts = false) (hd : 0 < d.length) (h64 : d.length < 64) (h : off % 64 + d.length ≤ 64)
    (hsound : s.poisoned (v.lineAt g.num off) = false) {t : State} (ht : t.memory = (s.writeBytes v g off d).memory) :
    ofBytes (t.readBytes v g off d.length) = ofBytes d := by
  have hline : t.readLine v g off = mergeLine (s.readLine v g off) (off % 64) d := by
    rw [State.readLine_plain t v hplain, State.rawLine_congr ht, State.writeBytes_withinLine hd h64 h hsound,
      State.rawLine_congr (State.writeLine_memory _ _ _ _ _), hplain, if_neg (by decide)]
    exact State.rawLine_setRawLine_self hwf _ _
  rw [State.readBytes_withinLine t v g hd h, ofBytes_drop_take _ h, hline, bytesAt_mergeLine_self _ _ h]

/-- A write within one line changes no byte of another line, and of its own, where it is not encrypted, only those written. -/
theorem State.get_writeBytes {s : State} {v : PlateV} {g : Region} {off : Nat} {d : List Byte} (hwf : Memory.wf s.memory = true)
    (hd : 0 < d.length) (h64 : d.length < 64) (h : off % 64 + d.length ≤ 64) (hsound : s.poisoned (v.lineAt g.num off) = false) {a : Nat}
    (ha : a / 64 ≠ v.lineAt g.num off ∨ (g.xts = false ∧ (a % 64 < off % 64 ∨ off % 64 + d.length ≤ a % 64))) :
    Memory.get (s.writeBytes v g off d).memory a = Memory.get s.memory a := by
  rw [State.writeBytes_withinLine hd h64 h hsound, State.writeLine_memory, State.get_setRawLine hwf]
  split
  · next hkey =>
    obtain ⟨hplain, hout⟩ := ha.resolve_left (not_not.mpr hkey)
    rw [hplain, if_neg (by decide), bytesAt_mergeLine_ne _ _ h hout, State.readLine_plain s v hplain, ← hkey, ← State.get_eq_rawLine]
  · rfl

end Sys2Proof.Machine
end

section
/-! Work at a target that waits for its lines, and atomics (R226, R247). -/

namespace Sys2Proof.Machine

/-! ## Work that waits and work that ends -/

/-- One piece of work that still waits keeps waiting, where nothing of an ordering context is held. -/
theorem State.runTurns_waiting {s : State} {n : Nat} {j : Job} (hrflows : s.xfr.rflows = []) (hjobs : s.xfr.jobs = [(n, j)])
    (hwaits : (j.closed && j.left == 0) = false) : s.runTurns = s := by
  simp [State.runTurns, hrflows, hjobs, State.endJobs, State.runHeld, hwaits]

/-- One piece of work that has its last line ends. -/
theorem State.runTurns_ends {s : State} {n : Nat} {j : Job} (hrflows : s.xfr.rflows = []) (hjobs : s.xfr.jobs = [(n, j)])
    (hclosed : j.closed = true) (hleft : j.left = 0) (hflows : (s.endJob n j).xfr.rflows = []) (hdone : (s.endJob n j).xfr.jobs = []) :
    s.runTurns = s.endJob n j := by
  simp [State.runTurns, hrflows, hjobs, State.endJobs, State.runHeld, hclosed, hleft, hflows, hdone]

/-- Queueing a line for a piece of work: the work waits for one line more. -/
theorem State.queueLine_job {s : State} {n : Nat} {j : Job} (hjobs : s.xfr.jobs = [(n, j)]) (v : PlateV) (key : Nat) (kind : LineKind) (size : Nat) :
    (s.queueLine v key kind (some n) size).xfr = { s.xfr with jobs := [(n, { j with left := j.left + 1 })] } := by
  have hheal (t : State) (p : Nat) : (t.cancelHeal p key).xfr = t.xfr := State.agree_of_allBut .xfr (by simp)
  have hstart (t : State) : (if kind = .read then t else t.cancelHeal (v.portOf key) key).xfr = t.xfr := by
    split
    · rfl
    · exact hheal _ _
  have hmod (t : State) (ht : t.xfr = s.xfr) : (t.forJob (some n) fun j => { j with left := j.left + 1 }).xfr =
      { s.xfr with jobs := [(n, { j with left := j.left + 1 })] } := by
    simp [State.forJob, State.modJob, ht, hjobs, tabFind, tabInsert]
  unfold State.queueLine
  rw [apply_ite State.xfr, State.bump_xfr, ite_self]
  exact hmod _ ((State.setChan_xfr _ _ _).trans (hstart s))

/-- The transfers behind a new piece of work, where there was none. -/
def withWork (x : Xfr) (j : Job) : Xfr := { x with execNo := x.execNo + 1, jobs := [(x.execNo, j)] }

/-- A piece of work of which `n` lines are still to come. -/
def workOf (use : JobUse) (closed : Bool) (n : Nat) : Job :=
  { use := use, closed := closed, left := n, bad := none, short := 0, unknown := false, got := [] }

theorem State.newJob_xfr {s : State} (h : s.xfr.jobs = []) (use : JobUse) (closed : Bool) :
    (s.newJob use closed).2.xfr = withWork s.xfr (workOf use closed 0) := by
  simp [State.newJob, h, tabInsert, withWork, workOf]

theorem State.queueLine_work {s : State} {x : Xfr} {use : JobUse} {closed : Bool} {n : Nat} (h : s.xfr = withWork x (workOf use closed n)) (v : PlateV)
    (key : Nat) (kind : LineKind) (size : Nat) :
    (s.queueLine v key kind (some x.execNo) size).xfr = withWork x (workOf use closed (n + 1)) := by
  rw [State.queueLine_job (by rw [h]; rfl), h]
  rfl

/-! ## A request taken for the first time -/

theorem State.takeHead_fresh {s : State} {c : Cell} {chunk : Nat} (h : s.freshRequest c chunk) (run : State → State) :
    ∃ x, s.takeEjected c = { s with csw := x } ∧ x.inject = s.csw.inject ∧ s.takeHead c chunk run = (run { s with csw := x }).runTurns := by
  obtain ⟨-, -, -, -, hidle, hopen, hrecord, hstale⟩ := h
  obtain ⟨x, hx, hinject⟩ := s.takeEjected_eq c
  refine ⟨x, hx, hinject, ?_⟩
  have hidle' : ({ s with csw := x } : State).underWay c chunk = false := hidle
  have hopen' : ({ s with csw := x } : State).closed c.src.toNat c.tag.toNat (orig48 c) = false := hopen
  have hrecord' : ({ s with csw := x } : State).recordFor c chunk = none := hrecord
  have hstale' : ¬ (hFlag c 3 && ({ s with csw := x } : State).stale c.time.toNat) = true := by
    rw [Bool.and_eq_true, not_and, Bool.not_eq_true]
    exact hstale
  unfold State.takeHead
  rw [hx]
  simp only [hopen', hidle', hrecord', if_neg hstale', Bool.false_eq_true, if_false]

theorem State.inTurn_unordered {s : State} {c : Cell} (h : hFlag c 0 = false) : s.inTurn c = s.runHead c none := by
  have hturn : s.turnOf c = (.now none, s) := by
    unfold State.turnOf
    rw [if_pos (by simp [h])]
  unfold State.inTurn
  rw [hturn]

theorem State.requested_address {s : State} {c : Cell} {n : Nat} {wr : Bool} {r : PlateV × Region} (h : s.requested c n wr = .ok r) :
    badAddress (hAddr c) = false := by
  unfold State.requested at h
  split at h
  · simp at h
  · simpa using ‹¬ badAddress (hAddr c) = true›

/-! ## An atomic is taken -/

/-- The width of an atomic's operand, but for ATOM_FADD_F. -/
def operandWidth (c : Cell) : Nat := if (hLow c).testBit 12 then 8 else 4

theorem operandWidth_eq (c : Cell) : operandWidth c = 4 ∨ operandWidth c = 8 := by
  unfold operandWidth
  split <;> simp

/-- The value that an atomic leaves in its operand. -/
def State.atomNew (s : State) (c : Cell) (v : PlateV) (g : Region) : Nat :=
  atomResult (hOp c) (hLow c) (hArg c 8 1) (ofBytes (s.readBytes v g (offsetOf (hAddr c)) (operandWidth c))) c

/-- What an atomic's work keeps: its cell, and the operand's old value. -/
def State.atomUse (s : State) (c : Cell) (v : PlateV) (g : Region) : JobUse :=
  .atomic c none (ofBytes (s.readBytes v g (offsetOf (hAddr c)) (operandWidth c)))

/-- The state behind an atomic that is taken: its work is new, and the operand's line holds the new value. -/
def State.atomWritten (s : State) (c : Cell) (v : PlateV) (g : Region) : State :=
  (s.newJob (s.atomUse c v g) true).2.writeBytes v g (offsetOf (hAddr c)) (natBytes (s.atomNew c v g) (operandWidth c))

theorem State.atomUse_switch (s : State) (x : Csw) (c : Cell) (v : PlateV) (g : Region) :
    ({ s with csw := x } : State).atomUse c v g = s.atomUse c v g := by
  unfold State.atomUse
  rw [State.readBytes_switch]

theorem State.atomNew_switch (s : State) (x : Csw) (c : Cell) (v : PlateV) (g : Region) :
    ({ s with csw := x } : State).atomNew c v g = s.atomNew c v g := by
  unfold State.atomNew
  rw [State.readBytes_switch]

theorem State.atomWritten_memory (s : State) (x : Csw) (c : Cell) (v : PlateV) (g : Region) :
    (({ s with csw := x } : State).atomWritten c v g).memory =
      (s.writeBytes v g (offsetOf (hAddr c)) (natBytes (({ s with csw := x } : State).atomNew c v g) (operandWidth c))).memory := by
  unfold State.atomWritten
  exact State.writeBytes_memory_of_traffic (s := s) x _ rfl v g _ _

theorem State.runAtomic_accepts {s : State} {c : Cell} {v : PlateV} {g : Region} (hlow : 0x10 ≤ hOp c) (hhigh : hOp c ≤ 0x12)
    (hfull : s.execFull = false) (hregion : s.requested c (operandWidth c) true = .ok (v, g)) (halign : offsetOf (hAddr c) % operandWidth c = 0)
    (hchannel : s.channelAnswer v g [offsetOf (hAddr c)] = none) (hsound : s.poisoned (v.lineAt g.num (offsetOf (hAddr c))) = false) :
    s.runAtomic c none = (s.atomWritten c v g).queueLine v (v.lineAt g.num (offsetOf (hAddr c))) .lockedRead (some s.xfr.execNo) (operandWidth c) := by
  have hwidth : (if hOp c = 0x14 then elemBits (hArg c 8 1) / 8 else if (hLow c).testBit 12 then 8 else 4) = operandWidth c := if_neg (by omega)
  have hcode : ¬ ((!decide (0x10 ≤ hOp c ∧ hOp c ≤ 0x12)) = true ∧ (!decide (hOp c = 0x14 ∧ faddFormat (hArg c 8 1) = true)) = true) := by
    simp [hlow, hhigh]
  unfold State.runAtomic
  dsimp only
  rw [if_neg (by simp [State.requested_address hregion]), if_neg (by simp [hfull]), if_neg (by omega), if_neg hcode, hwidth, hregion]
  dsimp only
  rw [if_neg (by omega), hchannel]
  dsimp only
  rw [if_neg (by simp [hsound])]
  rfl

theorem State.atomWritten_xfr {s : State} (h : s.xfr.jobs = []) (c : Cell) (v : PlateV) (g : Region) :
    (s.atomWritten c v g).xfr = withWork s.xfr (workOf (s.atomUse c v g) true 0) :=
  (State.agree_of_allBut .xfr (by unfold State.atomWritten; simp) : (s.atomWritten c v g).xfr = (s.newJob (s.atomUse c v g) true).2.xfr).trans
    (State.newJob_xfr h _ _)

theorem State.runHead_atomic {c : Cell} (h : cellIs c 0x03 = true) (s : State) (ctx : Option Nat) : s.runHead c ctx = s.runAtomic c ctx := by
  unfold State.runHead
  rw [if_neg (by simp [cellIs_ne h]), if_neg (by simp [cellIs_ne h]), if_neg (by simp [cellIs_ne h]), if_neg (by simp [cellIs_ne h])]

/-- An atomic that is taken waits for its one line, and its operand holds the new value. -/
theorem State.inTurn_atomic {s : State} {c : Cell} {v : PlateV} {g : Region} (hcell : cellIs c 0x03 = true) (hflag : hFlag c 0 = false)
    (hrflows : s.xfr.rflows = []) (hjobs : s.xfr.jobs = []) (hlow : 0x10 ≤ hOp c) (hhigh : hOp c ≤ 0x12)
    (hfull : s.execFull = false) (hregion : s.requested c (operandWidth c) true = .ok (v, g)) (halign : offsetOf (hAddr c) % operandWidth c = 0)
    (hchannel : s.channelAnswer v g [offsetOf (hAddr c)] = none) (hsound : s.poisoned (v.lineAt g.num (offsetOf (hAddr c))) = false) :
    ((s.inTurn c).runTurns).memory = (s.atomWritten c v g).memory ∧ ((s.inTurn c).runTurns).csw.inject = s.csw.inject ∧
      ((s.inTurn c).runTurns).xfr = withWork s.xfr (workOf (s.atomUse c v g) true 1) := by
  have hrun := State.runAtomic_accepts hlow hhigh hfull hregion halign hchannel hsound
  have hxfr := State.queueLine_work (State.atomWritten_xfr hjobs c v g) v (v.lineAt g.num (offsetOf (hAddr c))) .lockedRead (operandWidth c)
  have hmemory : (s.runAtomic c none).memory = (s.atomWritten c v g).memory := hrun ▸ State.agree_of_allBut .memory (by simp)
  have hcsw : (s.runAtomic c none).csw = s.csw := hrun ▸ State.agree_of_allBut .csw (by unfold State.atomWritten; simp)
  rw [← hrun] at hxfr
  have hidle : ((s.runAtomic c none).runTurns) = s.runAtomic c none :=
    State.runTurns_waiting (by rw [hxfr]; exact hrflows) (by rw [hxfr]; rfl) rfl
  rw [State.inTurn_unordered hflag, State.runHead_atomic hcell, hidle]
  exact ⟨hmemory, by rw [hcsw], hxfr⟩

theorem exec_atomicReqRx_fresh {c : Cell} {v : PlateV} {g : Region} {s : State} (hcell : cellIs c 0x03 = true) (hfresh : s.freshRequest c 0)
    (hlow : 0x10 ≤ hOp c) (hhigh : hOp c ≤ 0x12) (hfull : s.execFull = false) (hregion : s.requested c (operandWidth c) true = .ok (v, g))
    (halign : offsetOf (hAddr c) % operandWidth c = 0) (hchannel : s.channelAnswer v g [offsetOf (hAddr c)] = none)
    (hsound : s.poisoned (v.lineAt g.num (offsetOf (hAddr c))) = false) : ∃ t, exec (.atomicReqRx c) s = .next t ∧
      t.memory = (s.writeBytes v g (offsetOf (hAddr c)) (natBytes (s.atomNew c v g) (operandWidth c))).memory ∧ t.csw.inject = s.csw.inject ∧
      t.xfr = withWork s.xfr (workOf (s.atomUse c v g) true 1) := by
  obtain ⟨x, -, hinject, htake⟩ := State.takeHead_fresh hfresh fun t => t.inTurn c
  obtain ⟨hrun, hflag, hrflows, hjobs, -, -, -, -⟩ := hfresh
  obtain ⟨hatomic, -, -⟩ := exec_takesHead (c := c) hrun
  obtain ⟨hmemory, hsent, hxfr⟩ := State.inTurn_atomic (s := { s with csw := x }) hcell hflag hrflows hjobs hlow hhigh hfull hregion halign hchannel hsound
  rw [State.atomUse_switch] at hxfr
  rw [State.atomWritten_memory, State.atomNew_switch] at hmemory
  exact ⟨_, (hatomic hcell).trans (congrArg Host.Outcome.next htake), hmemory, hsent.trans hinject, hxfr⟩

/-- The condition under which a byte is none of the operand's. -/
def outsideOperand (c : Cell) (v : PlateV) (g : Region) (a : Nat) : Prop :=
  a / 64 ≠ v.lineAt g.num (offsetOf (hAddr c)) ∨
    (g.xts = false ∧ (a % 64 < offsetOf (hAddr c) % 64 ∨ offsetOf (hAddr c) % 64 + operandWidth c ≤ a % 64))

/-- The operand reads as written, and no other byte changed. -/
theorem State.operand_written {s t : State} {c : Cell} {v : PlateV} {g : Region} (hwf : Memory.wf s.memory = true)
    (halign : offsetOf (hAddr c) % operandWidth c = 0) (hsound : s.poisoned (v.lineAt g.num (offsetOf (hAddr c))) = false) {n : Nat}
    (ht : t.memory = (s.writeBytes v g (offsetOf (hAddr c)) (natBytes n (operandWidth c))).memory) :
    (g.xts = false → ofBytes (t.readBytes v g (offsetOf (hAddr c)) (operandWidth c)) = n % 2 ^ (8 * operandWidth c)) ∧
    ∀ a, outsideOperand c v g a → Memory.get t.memory a = Memory.get s.memory a := by
  have hwidth := operandWidth_eq c
  have hlen : (natBytes n (operandWidth c)).length = operandWidth c := length_natBytes _ _
  have hfits : offsetOf (hAddr c) % 64 + operandWidth c ≤ 64 := by
    rcases hwidth with hw | hw <;> rw [hw] at halign ⊢ <;> omega
  rw [← hlen] at hfits
  have hpos : 0 < (natBytes n (operandWidth c)).length := by omega
  have h64 : (natBytes n (operandWidth c)).length < 64 := by omega
  constructor
  · intro hplain
    have hread := State.readBytes_writeBytes hwf hplain hpos h64 hfits hsound ht
    rwa [hlen, ofBytes_natBytes] at hread
  · intro a ha
    rw [ht]
    exact State.get_writeBytes hwf hpos h64 hfits hsound (by rw [hlen]; exact ha)

/-! ## The last answer -/

theorem find?_tabInsert {α : Type} {p : Nat × α → Bool} {t : Tab α} {k : Nat} {u : α} (hnone : t.find? p = none) (hp : p (k, u) = true) :
    (tabInsert t k u).find? p = some (k, u) := by
  induction t with
  | nil => simp [tabInsert, hp]
  | cons e t ih =>
    obtain ⟨i, w⟩ := e
    rw [List.find?_eq_none, List.forall_mem_cons, ← List.find?_eq_none] at hnone
    obtain ⟨hhead, htail⟩ := hnone
    rw [tabInsert]
    split
    · simp [hp]
    · split
      · simp [hp]
      · rw [List.find?_cons_of_neg (by simpa using hhead), ih htail]

/-- A request that had no record has the one that is entered for it. -/
theorem State.recordFor_record {s : State} {c : Cell} {chunk : Nat} (hnone : s.recordFor c chunk = none) (n value : Nat) (atomic unknown : Bool)
    {t : State} (ht : t.xfr.execs = tabInsert s.xfr.execs n (s.execOf c chunk atomic value unknown)) :
    t.recordFor c chunk = some (s.execOf c chunk atomic value unknown) := by
  unfold State.recordFor State.recordsOf at hnone ⊢
  rw [List.find?_filter, Option.map_eq_none_iff] at hnone
  rw [List.find?_filter, ht, find?_tabInsert hnone (by simp [State.execOf])]
  rfl

/-- The state in which the one piece of work has its last line. -/
def State.withLastAnswer (s : State) (m : Mem) (n : Nat) (j : Job) : State :=
  { s with mem := m, xfr := { s.xfr with jobs := [(n, { j with left := 0 })] } }

/-- The last answer that a piece of work waits for ends it. -/
theorem State.channelResponse_lastAnswer {p : Port} {id : Byte} {q : LineReq} {n : Nat} {j : Job} {s : State} (h : s.lastAnswer p id q n j)
    (hkind : q.kind ≠ .read ∧ q.kind ≠ .lockedRead) (stat : BitVec 2) (data : Line) (code : BitVec 16) (poison : Bool) :
    ∃ m, (s.channelResponse p id stat data code poison) =
s.withLastAnswer m n j := by
  obtain ⟨hused, hlive, hreq, hjob, hjobs, -, -, hleft, -, -⟩ := h
  obtain ⟨a, ha, rfl⟩ := Option.map_eq_some_iff.mp hreq
  unfold State.channelResponse
  dsimp only
  rw [if_neg (by simp [hused, hlive]), ha]
  dsimp only
  have hmod (t : State) (ht : t.xfr = s.xfr) : (t.lineDone a.req fun k => k) = { t with xfr := { s.xfr with jobs := [(n, { j with left := 0 })] } } := by
    simp [State.lineDone, hjob, State.forJob, State.modJob, ht, hjobs, tabFind, tabInsert, hleft]
  split
  · exact absurd ‹_› hkind.1
  · exact absurd ‹_› hkind.2
  · rw [hmod]
    · exact ⟨_, rfl⟩
    · rfl

/-- The value in the record of an atomic or of a FILL. -/
def endAnswer (atomic : Bool) (value : Nat) : List (Nat × Nat × Nat) := if atomic then oldValue value else []

/-- A write whose last line is answered is recorded, and answered with the status OK. -/
theorem State.endWrite_ok {s : State} {n : Nat} {j : Job} {c : Cell} (atomic : Bool) (value : Nat) (hbad : j.bad = none) (hunknown : j.unknown = false) :
    s.endWrite n j c atomic value =
      (s.record n (s.execOf c (if atomic then 0 else hChunk c) atomic value false)).respond c (if atomic then 0 else hChunk c) ⟨0, 0⟩
        (endAnswer atomic value) := by
  unfold State.endWrite
  dsimp only
  rw [if_neg (by simp [hunknown]), hbad]
  rfl

theorem State.endJob_write {s : State} {n : Nat} {j : Job} {c : Cell} {atomic : Bool} {value : Nat}
    (huse : j.use = if atomic then .atomic c none value else .fill c none) (hvalue : atomic = false → value = hLen c) :
    s.endJob n j = (s.dropJob n).endWrite n j c atomic value := by
  unfold State.endJob
  dsimp only
  rw [huse]
  cases atomic with
  | false => rw [hvalue rfl]; rfl
  | true => rfl

/-- The last answer to an atomic's or a FILL's work: the record is entered and the answer sent (R209, R226). -/
theorem State.lastAnswer_ends {p : Port} {id : Byte} {q : LineReq} {n : Nat} {j : Job} {s : State} (h : s.lastAnswer p id q n j)
    (hkind : q.kind ≠ .read ∧ q.kind ≠ .lockedRead) {c : Cell} {atomic : Bool} {value : Nat}
    (huse : j.use = if atomic then .atomic c none value else .fill c none) (hvalue : atomic = false → value = hLen c)
    (hnone : s.recordFor c (if atomic then 0 else hChunk c) = none) (wr : Bool) (stat : BitVec 2) (data : Line) (code : BitVec 16) (poison : Bool) :
    ∃ t e y, exec (.channelResponse p id wr stat data code poison) s = .next t ∧ t.recordFor c (if atomic then 0 else hChunk c) = some e ∧
      e.status = 0 ∧ e.value = value ∧ t.xfr.jobs = [] ∧ t.memory = s.memory ∧ t.csw.inject = s.csw.inject ++ [y] ∧
      cellIs y (if cellIs c 0x03 then 0x12 else 0x11) = true ∧ y.tag = c.tag ∧ bytesAt y.payload 1 1 = 0 ∧
      (atomic = true → bytesAt y.payload 32 8 = value % 2 ^ 64) := by
  obtain ⟨m, hresponse⟩ := State.channelResponse_lastAnswer h hkind stat data code poison
  obtain ⟨-, -, -, -, -, hrflows, hclosed, -, hbad, hunknown⟩ := h
  have hend : (s.withLastAnswer m n j).endJob n { j with left := 0 } = (((s.withLastAnswer m n j).dropJob n).record n
      (((s.withLastAnswer m n j).dropJob n).execOf c (if atomic then 0 else hChunk c) atomic value false)).respond c
        (if atomic then 0 else hChunk c) ⟨0, 0⟩ (endAnswer atomic value) :=
    (State.endJob_write (j := { j with left := 0 }) huse hvalue).trans (State.endWrite_ok atomic value hbad hunknown)
  have hmore : endAnswer atomic value = [] ∨ ∃ v, endAnswer atomic value = oldValue v := by
    unfold endAnswer
    split
    · exact .inr ⟨_, rfl⟩
    · exact .inl rfl
  obtain ⟨hmemory, -, hxfr, -, hsent⟩ := State.respond_answers (s := ((s.withLastAnswer m n j).dropJob n).record n
    (((s.withLastAnswer m n j).dropJob n).execOf c (if atomic then 0 else hChunk c) atomic value false)) (a := ⟨0, 0⟩) (by decide) c
      (if atomic then 0 else hChunk c) (endAnswer atomic value)
  rw [← hend] at hmemory hxfr hsent
  have hdone : ((s.withLastAnswer m n j).endJob n { j with left := 0 }).xfr.jobs = [] := by
    rw [hxfr]
    exact if_pos rfl
  have hflows : ((s.withLastAnswer m n j).endJob n { j with left := 0 }).xfr.rflows = [] := by
    rw [hxfr]
    exact hrflows
  have hexec : exec (.channelResponse p id wr stat data code poison) s = .next ((s.withLastAnswer m n j).endJob n { j with left := 0 }) := by
    rw [← State.runTurns_ends (s := s.withLastAnswer m n j) hrflows rfl hclosed rfl hflows hdone, ← hresponse]
    rfl
  refine ⟨_, _, _, hexec, State.recordFor_record (s := (s.withLastAnswer m n j).dropJob n) hnone n value atomic false ?_, rfl, rfl, hdone, hmemory,
    hsent, State.answerTo_typ .., State.answerTo_tag .., (State.answerTo_status _ _ _ _ hmore).1, ?_⟩
  · rw [hxfr]
    rfl
  · rintro rfl
    exact State.answerTo_value _ _ _ _ _

/-- Settles O36: an atomic's work waits for its one line, whose operand is written already, and its last answer ends it. -/
theorem atomicsReadModifyWrite : Obligations.AtomicsReadModifyWrite := by
  refine ⟨?_, ?_⟩
  · intro c v g w s hwf hcell hfresh hlow hhigh hw hfull hregion halign hchannel hsound
    obtain rfl : w = operandWidth c := hw
    obtain ⟨t, hexec, hmemory, hsent, hxfr⟩ := exec_atomicReqRx_fresh hcell hfresh hlow hhigh hfull hregion halign hchannel hsound
    obtain ⟨hoperand, hothers⟩ := State.operand_written hwf halign hsound hmemory
    exact ⟨t, workOf (s.atomUse c v g) true 1, hexec, hoperand, hothers, by rw [hxfr]; rfl, rfl, rfl, by rw [hxfr]; rfl, hsent⟩
  · intro p id wr stat data code poison q n old c j s hlast hkind huse hcell hnone _
    obtain ⟨t, e, y, hexec, hrecord, hstatus, hvalue, hjobs, hmemory, hsent, htyp, htag, hst, hold⟩ :=
      State.lastAnswer_ends (atomic := true) hlast (by simp [hkind]) huse (by simp) hnone wr stat data code poison
    rw [if_pos hcell] at htyp
    exact ⟨t, e, y, hexec, hrecord, hstatus, hvalue, hjobs, hmemory, hsent, htyp, htag, hst, hold rfl⟩

end Sys2Proof.Machine
end

section
/-! LOAD, STORE, FILL and COPY_FWD at their target (R209 to R215, R226). -/

namespace Sys2Proof.Machine

/-! ## Lines queued for one piece of work -/

theorem State.poisoned_congr {s t : State} (h : t.mem.poisoned = s.mem.poisoned) (key : Nat) : t.poisoned key = s.poisoned key := by
  unfold State.poisoned
  rw [h]

theorem State.cancelHeal_poisoned (s : State) (p key k : Nat) : (s.cancelHeal p key).poisoned k = s.poisoned k := by
  unfold State.cancelHeal
  dsimp only
  split <;> rfl

theorem State.forJob_mem (s : State) (n : Option Nat) (f : Job → Job) : (s.forJob n f).mem = s.mem := by
  unfold State.forJob State.modJob
  repeat' split
  all_goals rfl

theorem State.queueLine_poisoned (s : State) (v : PlateV) (key : Nat) (kind : LineKind) (job : Option Nat) (size k : Nat) :
    (s.queueLine v key kind job size).poisoned k = s.poisoned k := by
  have hstart : (if kind = .read then s else s.cancelHeal (v.portOf key) key).poisoned k = s.poisoned k := by
    split
    · rfl
    · exact State.cancelHeal_poisoned _ _ _ _
  unfold State.queueLine
  dsimp only
  rw [← hstart]
  generalize (if kind = .read then s else s.cancelHeal (v.portOf key) key) = u
  split <;> exact State.poisoned_congr (congrArg Mem.poisoned (State.forJob_mem _ _ _)) k

theorem State.writeLine_sound {s : State} {v : PlateV} {g : Region} {k : Nat} (h : s.poisoned k = false) (off : Nat) (l : Line) :
    (s.writeLine v g off l).poisoned k = false := by
  have hnot : k ∉ s.mem.poisoned := by simpa [State.poisoned] using h
  have hrest : (s.writeLine v g off l).mem.poisoned = s.mem.poisoned.filter fun x => x != v.lineAt g.num off := rfl
  simp [State.poisoned, hrest, hnot]

/-- A write poisons no line. -/
theorem State.writeBytes_sound {s : State} {v : PlateV} {g : Region} {k : Nat} (h : s.poisoned k = false) (off : Nat) (d : List Byte) :
    (s.writeBytes v g off d).poisoned k = false := by
  have hfrom : ∀ f off d (t : State), t.poisoned k = false → (State.writeFrom v g f off d t).poisoned k = false := by
    intro f
    induction f with
    | zero => exact fun _ _ _ ht => ht
    | succ f ih =>
      intro off d t ht
      rw [State.writeFrom]
      dsimp only
      split
      · exact ht
      · refine ih _ _ _ ?_
        split_ifs
        · exact State.writeLine_sound ht _ _
        · exact ht
        · exact State.writeLine_sound ht _ _
  exact hfrom _ _ _ _ h

section OneWork

variable {x : Xfr} {use : JobUse} {closed : Bool}

/-- Queueing the reads of a run of lines: the work waits for as many. -/
theorem State.queueReads_work {s : State} (h : s.xfr = withWork x (workOf use closed 0)) (v : PlateV) (g : Region) (off n : Nat) :
    (s.queueReads v g off n (some x.execNo)).xfr = withWork x (workOf use closed (linesOf off n).length) := by
  have hfold : ∀ (os : List Nat) (m : Nat) (t : State), t.xfr = withWork x (workOf use closed m) →
      (os.foldl (fun t o => t.queueLine v (v.lineAt g.num o) .read (some x.execNo) (lineSpan off n o).2) t).xfr =
        withWork x (workOf use closed (m + os.length)) := by
    intro os
    induction os with
    | nil => exact fun _ _ ht => ht
    | cons o os ih =>
      intro m t ht
      rw [List.foldl_cons, ih (m + 1) _ (State.queueLine_work ht _ _ _ _), List.length_cons, Nat.add_right_comm, Nat.add_assoc]
  rw [← Nat.zero_add (linesOf off n).length]
  exact hfold _ 0 s h

/-- Queueing the write of a sound line: the work waits for one more. -/
theorem State.queueWrite_work {s : State} {m : Nat} (h : s.xfr = withWork x (workOf use closed m)) {v : PlateV} {g : Region} {o : Nat}
    (hsound : s.poisoned (v.lineAt g.num o) = false) (off n : Nat) :
    (s.queueWrite v g off n (some x.execNo) o).xfr = withWork x (workOf use closed (m + 1)) := by
  unfold State.queueWrite
  dsimp only
  split
  · rw [if_neg (by simp [hsound])]
    exact State.queueLine_work h _ _ _ _
  · exact State.queueLine_work h _ _ _ _

theorem State.queueWrite_poisoned {s : State} {v : PlateV} {g : Region} {o : Nat} (hsound : s.poisoned (v.lineAt g.num o) = false) (off n : Nat)
    (job : Option Nat) (k : Nat) : (s.queueWrite v g off n job o).poisoned k = s.poisoned k := by
  unfold State.queueWrite
  dsimp only
  split
  · rw [if_neg (by simp [hsound])]
    exact State.queueLine_poisoned _ _ _ _ _ _ _
  · exact State.queueLine_poisoned _ _ _ _ _ _ _

theorem State.queueWrites_work {s : State} (h : s.xfr = withWork x (workOf use closed 0)) {v : PlateV} {g : Region}
    (hsound : ∀ o, s.poisoned (v.lineAt g.num o) = false) (off n : Nat) :
    (s.queueWrites v g off n (some x.execNo)).xfr = withWork x (workOf use closed (linesOf off n).length) := by
  have hfold : ∀ (os : List Nat) (m : Nat) (t : State), t.xfr = withWork x (workOf use closed m) → (∀ o, t.poisoned (v.lineAt g.num o) = false) →
      (os.foldl (fun t o => t.queueWrite v g off n (some x.execNo) o) t).xfr = withWork x (workOf use closed (m + os.length)) := by
    intro os
    induction os with
    | nil => exact fun _ _ ht _ => ht
    | cons o os ih =>
      intro m t ht hs
      rw [List.foldl_cons, ih (m + 1) _ (State.queueWrite_work ht (hs o) _ _) fun k => (State.queueWrite_poisoned (hs o) _ _ _ _).trans (hs k),
        List.length_cons, Nat.add_right_comm, Nat.add_assoc]
  rw [← Nat.zero_add (linesOf off n).length]
  exact hfold _ 0 s h hsound

end OneWork

theorem linesOf_ne_nil (off : Nat) {n : Nat} (h : 0 < n) : linesOf off n ≠ [] := by
  rw [linesOf, if_neg (by omega), ne_eq, List.map_eq_nil_iff, List.range_eq_nil]
  have hle : off / 64 ≤ (off + n - 1) / 64 := Nat.div_le_div_right (by omega)
  omega

/-! ## A LOAD at its target -/

theorem State.channelFailed_of_answer {s : State} {v : PlateV} {g : Region} {offs : List Nat} (h : s.channelAnswer v g offs = none) :
    s.channelFailed v g offs = false := by
  unfold State.channelAnswer at h
  by_contra hfailed
  rw [Bool.not_eq_false] at hfailed
  rw [hfailed] at h
  split at h <;> simp at h

theorem State.passLoad_none (s : State) (c : Cell) : s.passLoad c none = s := ite_self s

/-- A LOAD of one chunk queues the reads of its lines. -/
theorem State.runLoad_accepts {s : State} {c : Cell} {v : PlateV} {g : Region} (hpos : 0 < hLen c) (hmax : hLen c ≤ 4096)
    (hregion : s.requested c (hLen c) false = .ok (v, g)) (hchannel : s.channelAnswer v g (linesOf (offsetOf (hAddr c)) (hLen c)) = none)
    (hsound : s.rangePoisoned v g (offsetOf (hAddr c)) (hLen c) = false) :
    s.runLoad c none = (s.newJob (.load c 0 1 none) true).2.queueReads v g (offsetOf (hAddr c)) (hLen c) (some s.xfr.execNo) := by
  have htotal : (hLen c + 4095) / 4096 = 1 := by omega
  have hserve : s.serveChunk c none v g 0 1 =
      (s.newJob (.load c 0 1 none) true).2.queueReads v g (offsetOf (hAddr c)) (hLen c) (some s.xfr.execNo) := by
    unfold State.serveChunk
    dsimp only
    rw [Nat.mul_zero, Nat.sub_zero, Nat.add_zero, Nat.min_eq_right hmax, if_neg (by simp [hsound]),
      if_neg (by simp [State.channelFailed_of_answer hchannel])]
    rfl
  unfold State.runLoad
  rw [hregion]
  dsimp only
  rw [hchannel]
  dsimp only
  rw [htotal, State.passLoad_none]
  exact hserve

theorem State.runHead_load {c : Cell} (h : cellIs c 0x01 = true) (s : State) (ctx : Option Nat) : s.runHead c ctx = s.runLoad c ctx := by
  unfold State.runHead
  rw [if_neg (by simp [cellIs_ne h]), if_neg (by simp [cellIs_ne h]), if_pos h]

/-- A LOAD that is taken waits for its lines, and changes no byte of memory. -/
theorem State.inTurn_load {s : State} {c : Cell} {v : PlateV} {g : Region} (hcell : cellIs c 0x01 = true) (hflag : hFlag c 0 = false)
    (hrflows : s.xfr.rflows = []) (hjobs : s.xfr.jobs = []) (hpos : 0 < hLen c) (hmax : hLen c ≤ 4096)
    (hregion : s.requested c (hLen c) false = .ok (v, g)) (hchannel : s.channelAnswer v g (linesOf (offsetOf (hAddr c)) (hLen c)) = none)
    (hsound : s.rangePoisoned v g (offsetOf (hAddr c)) (hLen c) = false) :
    ((s.inTurn c).runTurns).memory = s.memory ∧ ((s.inTurn c).runTurns).csw.inject = s.csw.inject ∧
      ((s.inTurn c).runTurns).xfr = withWork s.xfr (workOf (.load c 0 1 none) true (linesOf (offsetOf (hAddr c)) (hLen c)).length) := by
  have hrun := State.runLoad_accepts hpos hmax hregion hchannel hsound
  have hxfr := State.queueReads_work (State.newJob_xfr hjobs (.load c 0 1 none) true) v g (offsetOf (hAddr c)) (hLen c)
  have hmemory : (s.runLoad c none).memory = s.memory := hrun ▸ State.agree_of_allBut .memory (by simp)
  have hcsw : (s.runLoad c none).csw = s.csw := hrun ▸ State.agree_of_allBut .csw (by simp)
  rw [← hrun] at hxfr
  have hidle : ((s.runLoad c none).runTurns) = s.runLoad c none :=
    State.runTurns_waiting (by rw [hxfr]; exact hrflows) (by rw [hxfr]; rfl) (by simpa [workOf] using linesOf_ne_nil _ hpos)
  rw [State.inTurn_unordered hflag, State.runHead_load hcell, hidle]
  exact ⟨hmemory, by rw [hcsw], hxfr⟩

/-- The three other rows whose heads come in turn. -/
theorem exec_takesTurn {c : Cell} {s : State} (hrun : s.running = true) :
    (cellIs c 0x01 = true → exec (.loadReqRx c) s = .next (s.takeHead c (hChunk c) fun t => t.inTurn c)) ∧
    (cellIs c 0x02 = true → exec (.storeDataRx c) s = .next (s.takeHead c (hChunk c) fun t => t.inTurn c)) ∧
    (cellIs c 0x04 = true → exec (.copyFwdRx c) s = .next (s.takeHead c 0 fun t => t.inTurn c)) := by
  refine ⟨fun hc => ?_, fun hc => ?_, fun hc => ?_⟩
  · change execLoadReqRx c s = _
    rw [execLoadReqRx, if_running hrun, if_neg (by simp [hc])]
  · change execStoreDataRx c s = _
    rw [execStoreDataRx, if_running hrun, if_neg (by simp [hc])]
  · change execCopyFwdRx c s = _
    rw [execCopyFwdRx, if_running hrun, if_neg (by simp [hc])]

/-! ## The end of a LOAD -/

/-- One data cell of a chunk (R213). -/
def State.dataCell (s : State) (c : Cell) (k count : Nat) (d : Line × Nat) : Cell :=
  placed (s.mkCell 0x10 c.src.toNat c.pkey.toNat c.tag.toNat d.1) ((k % 64) * 64 + d.2) (d.2 + 1 == count) c.alt

theorem State.dataCell_fields (s : State) (c : Cell) (k count : Nat) (d : Line × Nat) : (s.dataCell c k count d).payload = d.1 ∧
    cellIs (s.dataCell c k count d) 0x10 = true ∧ (s.dataCell c k count d).dest.toNat = c.src.toNat ∧ (s.dataCell c k count d).tag = c.tag := by
  refine ⟨rfl, rfl, ?_, ?_⟩
  · exact (congrArg BitVec.toNat (BitVec.ofNat_toNat 15 c.src)).trans (by simp)
  · exact (by simp : BitVec.ofNat 16 c.tag.toNat = c.tag)

/-- What is sent one by one stands behind the rest. -/
theorem State.inject_foldl {α β : Type} {f : State → α → Cell} {key : Cell → β} {of : α → β} {P : Cell → Prop} (hkey : ∀ u d, key (f u d) = of d)
    (hP : ∀ u d, P (f u d)) (ds : List α) (s : State) : ∃ x cs, ds.foldl (fun u d => u.injectCell (f u d)) s = { s with csw := x } ∧
      x.inject = s.csw.inject ++ cs ∧ cs.map key = ds.map of ∧ ∀ z, z ∈ cs → P z := by
  induction ds generalizing s with
  | nil => exact ⟨s.csw, [], rfl, (List.append_nil _).symm, rfl, fun z hz => absurd hz List.not_mem_nil⟩
  | cons d ds ih =>
    obtain ⟨x, cs, hfold, hsent, hkeys, hcells⟩ := ih (s.injectCell (f s d))
    refine ⟨x, f s d :: cs, hfold, ?_, ?_, List.forall_mem_cons.mpr ⟨hP s d, hcells⟩⟩
    · rw [hsent]
      simp [State.injectCell]
    · rw [List.map_cons, List.map_cons, hkey, hkeys]

/-- The data cells of a chunk, sent one by one. -/
theorem State.dataCells_sent (s : State) (c : Cell) (k : Nat) (ds : List Line) : ∃ x cs,
    ds.zipIdx.foldl (fun u d => u.injectCell (u.dataCell c k ds.length d)) s = { s with csw := x } ∧ x.inject = s.csw.inject ++ cs ∧
    cs.map (fun z => z.payload) = ds ∧ ∀ z, z ∈ cs → cellIs z 0x10 = true ∧ z.dest.toNat = c.src.toNat ∧ z.tag = c.tag := by
  obtain ⟨x, cs, hfold, hsent, hkeys, hcells⟩ := State.inject_foldl (f := fun u d => u.dataCell c k ds.length d)
    (P := fun z => cellIs z 0x10 = true ∧ z.dest.toNat = c.src.toNat ∧ z.tag = c.tag) (fun u d => (u.dataCell_fields c k _ d).1) (fun u d => (u.dataCell_fields c k _ d).2) ds.zipIdx s
  exact ⟨x, cs, hfold, hsent, hkeys.trans (List.zipIdx_map_fst 0 ds), hcells⟩

/-- The bytes that a LOAD of one chunk answers with. -/
def State.loadBytes (s : State) (c : Cell) (v : PlateV) (g : Region) (got : Tab Line) : List Byte := s.gotBytes v g (offsetOf (hAddr c)) (hLen c) got

theorem State.countAnswer_ok (s : State) (c : Cell) : s.countAnswer c ⟨0, 0⟩ = s := by
  unfold State.countAnswer
  split
  · rfl
  · rw [if_neg (by decide), if_neg (by decide)]

/-- A LOAD of one chunk that has all its lines sends them, and answers OK. -/
theorem State.endLoad_ok {s : State} {j : Job} {c : Cell} {v : PlateV} {g : Region} (hmax : hLen c ≤ 4096) (hbad : j.bad = none)
    (hregion : s.requested c (hLen c) false = .ok (v, g)) (hplain : s.sealedKey c.pkey.toNat = false) (hcell : cellIs c 0x01 = true) :
    ∃ x cs y, s.endLoad j c 0 1 none = { s with csw := x } ∧ x.inject = s.csw.inject ++ cs ++ [y] ∧
      cs.map (fun z => z.payload) = dataCells (s.loadBytes c v g j.got) ∧
      (∀ z, z ∈ cs → cellIs z 0x10 = true ∧ z.dest.toNat = c.src.toNat ∧ z.tag = c.tag) ∧ cellIs y 0x11 = true ∧ bytesAt y.payload 1 1 = 0 := by
  obtain ⟨x, cs, hfold, hsent, hkeys, hcells⟩ := s.dataCells_sent c (hChunk c) (dataCells (s.loadBytes c v g j.got))
  have hend : s.endLoad j c 0 1 none = ({ s with csw := x } : State).respond c (hChunk c) ⟨0, 0⟩
      [(16, 16, (BitVec.ofNat 128 (crc64 (s.loadBytes c v g j.got))).toNat), (40, 12, 0)] := by
    unfold State.endLoad
    dsimp only
    rw [hbad, hregion, State.passLoad_none]
    dsimp only
    simp only [hplain, Bool.false_eq_true, if_false, Nat.mul_zero, Nat.sub_zero, Nat.add_zero, Nat.min_eq_right hmax, sealChunk]
    rw [← hfold]
    rfl
  rw [hend, State.respond_eq, State.countAnswer_ok]
  have htyp := State.answerTo_typ ({ s with csw := x } : State) c (hChunk c) ⟨0, 0⟩
    [(16, 16, (BitVec.ofNat 128 (crc64 (s.loadBytes c v g j.got))).toNat), (40, 12, 0)]
  rw [if_neg (by simp [cellIs_ne hcell])] at htyp
  refine ⟨_, cs, _, rfl, congrArg (· ++ _) hsent, hkeys, hcells, htyp, ?_⟩
  exact bytesAt_packBytes (v := 0) rfl (by simp) (by decide)

/-- The state behind the last line that a LOAD's work reads: the line is in memory and with the work. -/
def State.withLastLine (s : State) (l : List Host.Cell) (m : Tab Chan) (n : Nat) (j : Job) (q : LineReq) (data : Line) : State :=
  { s with memory := l, mem := { s.mem with chans := m }, xfr := { s.xfr with jobs := [(n, { j with left := 0, got := tabInsert j.got q.line data })] } }

/-- The last line that a piece of work reads reaches it. -/
theorem State.channelResponse_lastRead {p : Port} {id : Byte} {q : LineReq} {n : Nat} {j : Job} {s : State} (h : s.lastAnswer p id q n j)
    (hkind : q.kind = .read) {data : Line} {code : BitVec 16} (hcode : code.toNat = memoryCode data q.line) :
    ∃ l m, s.channelResponse p id 0 data code false = s.withLastLine l m n j q data := by
  obtain ⟨hused, hlive, hreq, hjob, hjobs, -, -, hleft, -, -⟩ := h
  obtain ⟨a, ha, rfl⟩ := Option.map_eq_some_iff.mp hreq
  have hgood (t : State) : t.readResponse p a.req (0 : BitVec 2).toNat data code.toNat false = t.readGood p a.req false data := by
    unfold State.readResponse
    dsimp only
    rw [if_neg (by decide), if_neg (by decide), if_neg (by simp [hcode])]
    rfl
  have hdone (t : State) (ht : t.xfr = s.xfr) : (t.lineDone a.req fun k => { k with got := tabInsert k.got a.req.line data }) =
      { t with xfr := { s.xfr with jobs := [(n, { j with left := 0, got := tabInsert j.got a.req.line data })] } } := by
    simp [State.lineDone, hjob, State.forJob, State.modJob, ht, hjobs, tabFind, tabInsert, hleft]
  unfold State.channelResponse
  dsimp only
  rw [if_neg (by simp [hused, hlive]), ha]
  dsimp only
  rw [hkind]
  dsimp only
  rw [hgood]
  unfold State.readGood
  dsimp only
  rw [if_neg (by simp [hkind]), if_neg (by simp), hdone]
  · split <;> exact ⟨_, _, rfl⟩
  · split <;> rfl

theorem State.lastRead_ends {p : Port} {id : Byte} {q : LineReq} {n : Nat} {j : Job} {s : State} (h : s.lastAnswer p id q n j)
    (hkind : q.kind = .read) {data : Line} {code : BitVec 16} (hcode : code.toNat = memoryCode data q.line) {c : Cell} {v : PlateV} {g : Region}
    (huse : j.use = .load c 0 1 none) (hcell : cellIs c 0x01 = true) (hmax : hLen c ≤ 4096) (hregion : s.requested c (hLen c) false = .ok (v, g))
    (hplain : s.sealedKey c.pkey.toNat = false) (wr : Bool) : ∃ t cs y,
      exec (.channelResponse p id wr 0 data code false) s = .next t ∧ t.xfr.jobs = [] ∧ t.csw.inject = s.csw.inject ++ cs ++ [y] ∧
      cs.map (fun z => z.payload) = dataCells (t.gotBytes v g (offsetOf (hAddr c)) (hLen c) (tabInsert j.got q.line data)) ∧
      (∀ z, z ∈ cs → cellIs z 0x10 = true ∧ z.dest.toNat = c.src.toNat ∧ z.tag = c.tag) ∧ cellIs y 0x11 = true ∧ bytesAt y.payload 1 1 = 0 := by
  obtain ⟨l, m, hresponse⟩ := State.channelResponse_lastRead h hkind hcode
  obtain ⟨-, -, -, -, -, hrflows, hclosed, -, hbad, -⟩ := h
  obtain ⟨x, cs, y, hload, hsent, hkeys, hcells, htyp, hst⟩ := State.endLoad_ok (s := (s.withLastLine l m n j q data).dropJob n)
    (j := { j with left := 0, got := tabInsert j.got q.line data }) hmax hbad hregion hplain hcell
  have hend : (s.withLastLine l m n j q data).endJob n { j with left := 0, got := tabInsert j.got q.line data } =
      { (s.withLastLine l m n j q data).dropJob n with csw := x } := by
    rw [← hload]
    unfold State.endJob
    dsimp only
    rw [huse]
  have hdone : ((s.withLastLine l m n j q data).endJob n { j with left := 0, got := tabInsert j.got q.line data }).xfr.jobs = [] := by
    rw [hend]
    exact if_pos rfl
  have hflows : ((s.withLastLine l m n j q data).endJob n { j with left := 0, got := tabInsert j.got q.line data }).xfr.rflows = [] := by
    rw [hend]
    exact hrflows
  have hexec : exec (.channelResponse p id wr 0 data code false) s = .next { (s.withLastLine l m n j q data).dropJob n with csw := x } := by
    rw [← hend, ← State.runTurns_ends (s := s.withLastLine l m n j q data) hrflows rfl hclosed rfl hflows hdone, ← hresponse]
    rfl
  rw [hend] at hdone
  exact ⟨_, cs, y, hexec, hdone, hsent, hkeys, hcells, htyp, hst⟩

/-! ## A STORE's head and its data cells -/

theorem State.runHead_store {c : Cell} (h : cellIs c 0x02 = true) (s : State) (ctx : Option Nat) : s.runHead c ctx = s.runStore c ctx := if_pos h

/-- The chunk that a STORE's head opens. -/
def chunkOf (c : Cell) (n : Nat) : Inbound := { head := c, cells := [], refuse := false, ctx := none, number := n }

/-- A chunk whose head is here is found by its message and its number. -/
theorem State.inboundFor_put {s t : State} {i k : Inbound} (hhead : k.head = i.head)
    (ht : t.xfr.inbound = (s.xfr.inbound.filter fun j => !(j.head.src == i.head.src && j.head.tag == i.head.tag && j.slot == i.slot)) ++ [k]) :
    t.inboundFor i.head.src.toNat i.head.tag.toNat i.slot = some k := by
  have hslot : k.slot = i.slot := by rw [Inbound.slot, Inbound.slot, hhead]
  have hnone : (s.xfr.inbound.filter fun j => !(j.head.src == i.head.src && j.head.tag == i.head.tag && j.slot == i.slot)).find?
      (fun j => j.head.src.toNat == i.head.src.toNat && j.head.tag.toNat == i.head.tag.toNat && j.slot == i.slot) = none := by
    rw [List.find?_eq_none]
    intro j hj hmine
    obtain ⟨-, hother⟩ := List.mem_filter.mp hj
    simp only [Bool.and_eq_true, beq_iff_eq, BitVec.toNat_inj] at hmine
    simp [hmine] at hother
  rw [State.inboundFor, ht, List.find?_append, hnone, Option.none_or, List.find?_cons_of_pos (by simp [hhead, hslot])]

theorem State.takeLanded_none {s : State} (hrflows : s.xfr.rflows = []) (hlanding : s.xfr.landing = []) (i : Inbound) : s.takeLanded i = s := by
  have hxfr : s.xfr = { s.xfr with landing := [], rflows := [] } := by rw [← hlanding, ← hrflows]
  unfold State.takeLanded
  dsimp only
  rw [hlanding, hrflows]
  exact congrArg s.setXfr hxfr.symm

/-- A STORE's head opens its chunk. -/
theorem State.runStore_accepts {s : State} {c : Cell} {v : PlateV} {g : Region} (hfirst : s.inboundFor c.src.toNat c.tag.toNat (hChunk c % 64) = none)
    (hdropped : s.xfr.dropped = []) (hlanding : s.xfr.landing = []) (hrflows : s.xfr.rflows = []) (hregion : s.requested c (hLen c) true = .ok (v, g))
    (hfull : s.execFull = false) (hchannel : s.channelAnswer v g (linesOf (offsetOf (hAddr c)) (hLen c)) = none) :
    s.runStore c none = (s.newJob .chunk false).2.putInbound (chunkOf c s.xfr.execNo) (some (chunkOf c s.xfr.execNo)) := by
  have hsuper : s.supersede c = s := by rw [State.supersede, hfirst]
  unfold State.runStore
  dsimp only
  rw [hsuper, if_neg (by simp [hdropped]), hregion]
  dsimp only
  rw [if_neg (by simp [hfull]), hchannel]
  exact State.takeLanded_none (s := (s.newJob .chunk false).2.putInbound (chunkOf c s.xfr.execNo) (some (chunkOf c s.xfr.execNo))) hrflows hlanding _

theorem State.inTurn_store {s : State} {c : Cell} {v : PlateV} {g : Region} (hcell : cellIs c 0x02 = true) (hflag : hFlag c 0 = false)
    (hrflows : s.xfr.rflows = []) (hjobs : s.xfr.jobs = []) (hfirst : s.inboundFor c.src.toNat c.tag.toNat (hChunk c % 64) = none)
    (hdropped : s.xfr.dropped = []) (hlanding : s.xfr.landing = []) (hregion : s.requested c (hLen c) true = .ok (v, g))
    (hfull : s.execFull = false) (hchannel : s.channelAnswer v g (linesOf (offsetOf (hAddr c)) (hLen c)) = none) :
    (s.inTurn c).runTurns.memory = s.memory ∧
      (s.inTurn c).runTurns.inboundFor c.src.toNat c.tag.toNat (hChunk c % 64) = some (chunkOf c s.xfr.execNo) := by
  have hrun := State.runStore_accepts hfirst hdropped hlanding hrflows hregion hfull hchannel
  have hxfr := State.newJob_xfr hjobs .chunk false
  have hidle : (s.runStore c none).runTurns = s.runStore c none := by
    rw [hrun]
    refine State.runTurns_waiting (n := s.xfr.execNo) (j := workOf .chunk false 0) hrflows ?_ rfl
    exact congrArg Xfr.jobs hxfr
  rw [State.inTurn_unordered hflag, State.runHead_store hcell, hidle, hrun]
  exact ⟨rfl, State.inboundFor_put (s := s) (i := chunkOf c s.xfr.execNo) rfl rfl⟩

/-- A state whose one piece of work is of number `n`, beside the transfers of `x`. -/
def State.worksOn (s : State) (x : Xfr) (n : Nat) (closed : Bool) : Prop :=
  ∃ j, j.closed = closed ∧ s.xfr = { x with jobs := [(n, j)] }

theorem State.worksOn_of_xfr {s t : State} {x : Xfr} {n : Nat} {closed : Bool} (h : s.worksOn x n closed) (hxfr : t.xfr = s.xfr) :
    t.worksOn x n closed := by
  obtain ⟨j, hj, hs⟩ := h
  exact ⟨j, hj, hxfr.trans hs⟩

theorem State.worksOn_queueLine {s : State} {x : Xfr} {n : Nat} {closed : Bool} (h : s.worksOn x n closed) (v : PlateV) (key : Nat) (kind : LineKind)
    (size : Nat) : (s.queueLine v key kind (some n) size).worksOn x n closed := by
  obtain ⟨j, hj, hs⟩ := h
  have hjobs : s.xfr.jobs = [(n, j)] := by rw [hs]
  exact ⟨{ j with left := j.left + 1 }, hj, by rw [State.queueLine_job hjobs, hs]⟩

theorem State.worksOn_modJob {s : State} {x : Xfr} {n : Nat} {a b : Bool} (h : s.worksOn x n a) {f : Job → Job}
    (hf : ∀ j, j.closed = a → (f j).closed = b) : (s.modJob n f).worksOn x n b := by
  obtain ⟨j, hj, hs⟩ := h
  have hjobs : s.xfr.jobs = [(n, j)] := by rw [hs]
  refine ⟨f j, hf j hj, ?_⟩
  simp [State.modJob, hs, tabFind, tabInsert]

/-- Queueing a write for a chunk neither ends nor drops its work. -/
theorem State.worksOn_queueWrite {s : State} {x : Xfr} {n : Nat} {closed : Bool} (h : s.worksOn x n closed) (v : PlateV) (g : Region) (off len o : Nat) :
    (s.queueWrite v g off len (some n) o).worksOn x n closed := by
  unfold State.queueWrite
  dsimp only
  split
  · split
    · exact State.worksOn_modJob h fun j hj => hj
    · exact State.worksOn_queueLine h _ _ _ _
  · exact State.worksOn_queueLine h _ _ _ _

theorem State.worksOn_landLines {s : State} {x : Xfr} {closed : Bool} (v : PlateV) (g : Region) (i : Inbound) (by0 : CheckBy) (k : Nat)
    (h : s.worksOn x i.number closed) : (s.landLines v g i by0 k).worksOn x i.number closed := by
  have hwrite (t : State) (off : Nat) (d : List Byte) : (t.writeBytes v g off d).xfr = t.xfr := State.agree_of_allBut .xfr (by simp)
  unfold State.landLines
  dsimp only
  generalize linesOf _ _ = os
  induction os generalizing s with
  | nil => exact h
  | cons o os ih =>
    rw [List.foldl_cons]
    refine ih ?_
    split
    · exact h
    · exact State.worksOn_queueWrite (State.worksOn_of_xfr h (hwrite _ _ _)) _ _ _ _ _

theorem length_tabInsert_of_none {α : Type} {t : Tab α} {k : Nat} (h : tabFind t k = none) (u : α) : (tabInsert t k u).length = t.length + 1 := by
  induction t with
  | nil => rfl
  | cons e t ih =>
    obtain ⟨i, w⟩ := e
    rw [tabFind] at h
    split at h
    · simp at h
    · next hne =>
      rw [tabInsert, if_neg (Ne.symm hne)]
      split
      · rfl
      · rw [List.length_cons, ih h, List.length_cons]

/-- The chunk with one cell more. -/
def withCell (i : Inbound) (k : Nat) (p : Line) : Inbound := { i with cells := tabInsert i.cells k p }

/-- A data cell that does not complete its chunk joins it. -/
theorem State.landCell_joins {s : State} {i : Inbound} {k : Nat} (p : Line) {j : Job} {v : PlateV} {g : Region} (hwaits : i.refuse = false)
    (hjobs : s.xfr.jobs = [(i.number, j)]) (hopen : j.closed = false) (hregion : s.requested i.head (hLen i.head) true = .ok (v, g))
    (hnew : tabFind i.cells k = none) (hrange : k < i.total) (hmore : i.cells.length + 1 < i.total) (hrflows : s.xfr.rflows = []) :
    (s.landCell i k p).runTurns = s.landCell i k p ∧
      (s.landCell i k p).inboundFor i.head.src.toNat i.head.tag.toNat i.slot = some (withCell i k p) := by
  have hcount : (tabInsert i.cells k p).length = i.cells.length + 1 := length_tabInsert_of_none hnew p
  have hland : s.landCell i k p = ((s.landLines v g (withCell i k p) (s.chunkCheck i.head) k).putInbound i (some (withCell i k p))).modJob i.number
      fun j => { j with closed := false } := by
    unfold State.landCell
    rw [if_neg (by simp [hnew]; omega)]
    dsimp only
    rw [if_neg (by simp [hwaits]), hregion]
    dsimp only
    rw [hcount, decide_eq_false (by omega)]
    rfl
  have hwork : s.worksOn s.xfr i.number false := ⟨j, hopen, by rw [← hjobs]⟩
  obtain ⟨j1, -, hxfr1⟩ := State.worksOn_landLines v g (withCell i k p) (s.chunkCheck i.head) k hwork
  have hput (u : State) (hu : u.xfr = { s.xfr with jobs := [(i.number, j1)] }) :
      ((u.putInbound i (some (withCell i k p))).modJob i.number fun j => { j with closed := false }).xfr = { s.xfr with
        jobs := [(i.number, { j1 with closed := false })]
        inbound := (s.xfr.inbound.filter fun j => !(j.head.src == i.head.src && j.head.tag == i.head.tag && j.slot == i.slot)) ++ [withCell i k p] } := by
    simp [State.modJob, State.putInbound, State.setXfr, hu, tabFind, tabInsert]
  have hxfr := hput _ hxfr1
  rw [← hland] at hxfr
  refine ⟨State.runTurns_waiting (n := i.number) (j := { j1 with closed := false }) ?_ ?_ rfl, ?_⟩
  · rw [hxfr]
    exact hrflows
  · rw [hxfr]
  · exact State.inboundFor_put (s := s) rfl (by rw [hxfr])

/-- A data cell of another node's STORE: it joins the chunk whose head is here, or waits for it. -/
theorem exec_bulkDataRx {c : Cell} {s : State} (hrun : s.running = true) (hcell : cellIs c 0x20 = true)
    (hother : ¬ (0x4000 ≤ c.src.toNat ∧ epNode c.src.toNat = s.nodeId)) : ∃ x, s.takeEjected c = { s with csw := x } ∧
      (∀ i, s.inboundFor c.src.toNat c.tag.toNat (c.index.toNat / 64) = some i →
        exec (.bulkDataRx c) s = .next ((({ s with csw := x } : State).landCell i (c.index.toNat % 64) c.payload).runTurns)) ∧
      (s.inboundFor c.src.toNat c.tag.toNat (c.index.toNat / 64) = none → s.xfr.rflows = [] → s.xfr.closures = [] →
        exec (.bulkDataRx c) s = .next (({ s with csw := x } : State).land c (c.index.toNat / 64))) := by
  obtain ⟨x, hx, -⟩ := s.takeEjected_eq c
  have hother' : ¬ (0x4000 ≤ c.src.toNat ∧ epNode c.src.toNat = ({ s with csw := x } : State).nodeId) := hother
  have hfound : exec (.bulkDataRx c) s = (match ({ s with csw := x } : State).inboundFor c.src.toNat c.tag.toNat (c.index.toNat / 64) with
      | some i => .next ((({ s with csw := x } : State).landCell i (c.index.toNat % 64) c.payload).runTurns)
      | none =>
        match ({ s with csw := x } : State).heldHead c with
        | some (n, f) => .next (({ s with csw := x } : State).setRflow n
            { f with data := (f.data.filter fun d => !(d.src == c.src && d.tag == c.tag && d.index == c.index)) ++ [c] })
        | none => if s.xfr.closures.any fun k => k.src == c.src.toNat && k.tag == c.tag.toNat then .next { s with csw := x }
            else .next (({ s with csw := x } : State).land c (c.index.toNat / 64))) := by
    change execBulkDataRx c s = _
    rw [execBulkDataRx, if_running hrun, if_neg (by simp [hcell]), hx]
    exact if_neg hother'
  refine ⟨x, hx, fun i hi => ?_, fun hnone hrflows hclosures => ?_⟩
  · have hi' : ({ s with csw := x } : State).inboundFor c.src.toNat c.tag.toNat (c.index.toNat / 64) = some i := hi
    rw [hfound, hi']
  · have hnone' : ({ s with csw := x } : State).inboundFor c.src.toNat c.tag.toNat (c.index.toNat / 64) = none := hnone
    have hheld : ({ s with csw := x } : State).heldHead c = none := by
      unfold State.heldHead
      rw [show ({ s with csw := x } : State).xfr.rflows = [] from hrflows]
      rfl
    rw [hfound, hnone', hheld, hclosures]
    rfl

/-! ## A FILL at its target -/

theorem State.runHead_fill {c : Cell} (h : cellIs c 0x05 = true) (s : State) (ctx : Option Nat) : s.runHead c ctx = s.runFill c ctx := by
  unfold State.runHead
  rw [if_neg (by simp [cellIs_ne h]), if_neg (by simp [cellIs_ne h]), if_neg (by simp [cellIs_ne h]), if_pos h]

/-- The bytes of a FILL's window. -/
def windowBytes (c : Cell) : List Byte := fillBytes (hArg c 0 8) (offsetOf (hAddr c)) (hLen c)

/-- The state behind a FILL's write, its work new. -/
def State.fillWritten (s : State) (c : Cell) (v : PlateV) (g : Region) : State :=
  (s.newJob (.fill c none) true).2.writeBytes v g (offsetOf (hAddr c)) (windowBytes c)

theorem State.fillWritten_memory (s : State) (x : Csw) (c : Cell) (v : PlateV) (g : Region) :
    (({ s with csw := x } : State).fillWritten c v g).memory = (s.writeBytes v g (offsetOf (hAddr c)) (windowBytes c)).memory := by
  unfold State.fillWritten
  exact State.writeBytes_memory_of_traffic (s := s) x _ rfl v g _ _

theorem State.fillWritten_sound {s : State} {k : Nat} (h : s.poisoned k = false) (c : Cell) (v : PlateV) (g : Region) :
    (s.fillWritten c v g).poisoned k = false := by
  unfold State.fillWritten
  exact State.writeBytes_sound (s := (s.newJob (.fill c none) true).2) h _ _

theorem State.runFill_accepts {s : State} {c : Cell} {v : PlateV} {g : Region} (hplain : s.sealedKey c.pkey.toNat = false)
    (hregion : s.requested c (hLen c) true = .ok (v, g)) (hfull : s.execFull = false)
    (hchannel : s.channelAnswer v g (linesOf (offsetOf (hAddr c)) (hLen c)) = none) :
    s.runFill c none = (s.fillWritten c v g).queueWrites v g (offsetOf (hAddr c)) (hLen c) (some s.xfr.execNo) := by
  unfold State.runFill
  dsimp only
  rw [if_neg (by simp [State.requested_address hregion]), if_neg (by simp [hplain]), hregion]
  dsimp only
  rw [if_neg (by simp [hfull]), hchannel]
  rfl

/-- A FILL that is taken has written its window, and waits for its lines. -/
theorem State.inTurn_fill {s : State} {c : Cell} {v : PlateV} {g : Region} (hcell : cellIs c 0x05 = true) (hflag : hFlag c 0 = false)
    (hrflows : s.xfr.rflows = []) (hjobs : s.xfr.jobs = []) (hplain : s.sealedKey c.pkey.toNat = false) (hpos : 0 < hLen c)
    (hregion : s.requested c (hLen c) true = .ok (v, g)) (hfull : s.execFull = false)
    (hchannel : s.channelAnswer v g (linesOf (offsetOf (hAddr c)) (hLen c)) = none) (hsound : ∀ o, s.poisoned (v.lineAt g.num o) = false) :
    (s.inTurn c).runTurns.memory = (s.fillWritten c v g).memory ∧ (s.inTurn c).runTurns.csw.inject = s.csw.inject ∧
      (s.inTurn c).runTurns.xfr = withWork s.xfr (workOf (.fill c none) true (linesOf (offsetOf (hAddr c)) (hLen c)).length) := by
  have hrun := State.runFill_accepts hplain hregion hfull hchannel
  have hwritten : (s.fillWritten c v g).xfr = withWork s.xfr (workOf (.fill c none) true 0) :=
    (State.agree_of_allBut .xfr (by unfold State.fillWritten; simp) : (s.fillWritten c v g).xfr = (s.newJob (.fill c none) true).2.xfr).trans
      (State.newJob_xfr hjobs _ _)
  have hxfr := State.queueWrites_work hwritten (fun o => State.fillWritten_sound (hsound o) c v g) (offsetOf (hAddr c)) (hLen c)
  have hmemory : (s.runFill c none).memory = (s.fillWritten c v g).memory := hrun ▸ State.agree_of_allBut .memory (by simp)
  have hcsw : (s.runFill c none).csw = s.csw := hrun ▸ State.agree_of_allBut .csw (by unfold State.fillWritten; simp)
  rw [← hrun] at hxfr
  have hidle : (s.runFill c none).runTurns = s.runFill c none :=
    State.runTurns_waiting (by rw [hxfr]; exact hrflows) (by rw [hxfr]; rfl) (by simpa [workOf] using linesOf_ne_nil _ hpos)
  rw [State.inTurn_unordered hflag, State.runHead_fill hcell, hidle]
  exact ⟨hmemory, by rw [hcsw], hxfr⟩

/-! ## A COPY_FWD at its target -/

theorem State.runHead_forward {c : Cell} (h : cellIs c 0x04 = true) (s : State) (ctx : Option Nat) : s.runHead c ctx = s.runForward c ctx := by
  unfold State.runHead
  rw [if_neg (by simp [cellIs_ne h]), if_pos h]

/-- Whom a relayed COPY's end is told. -/
def relayOf (c : Cell) : Relay := { src := c.src.toNat, tag := c.tag.toNat, orig := hOrig c, ctx := none, abort := false }

/-- The operation that a COPY_FWD starts (R215). -/
def forwardOp (c : Cell) (now : Nat) : Op :=
  { opBlank { who := .window 0, cue := false, tag := 0, time := 0, desc := forwardDesc c } .store now with
    relay := some (relayOf c), target := epNode (hArg c 0 2) }

theorem bytesAt_lt {n : Nat} (x : BitVec n) (k m : Nat) : bytesAt x k m < 2 ^ (8 * m) := Nat.mod_lt _ (by positivity)

theorem forwardOp_fields (c : Cell) (now : Nat) :
    (forwardOp c now).src = hAddr c ∧ (forwardOp c now).dst = hArg c 8 8 ∧ (forwardOp c now).length = hArg c 2 5 := by
  refine ⟨?_, ?_, ?_⟩
  · exact (bytesAt_packBytes rfl (by simp) (by decide)).trans (Nat.mod_eq_of_lt (bytesAt_lt c.payload 8 8))
  · exact (bytesAt_packBytes rfl (by simp) (by decide)).trans (Nat.mod_eq_of_lt (bytesAt_lt c.payload 56 8))
  · exact (bytesAt_packBytes rfl (by simp) (by decide)).trans (Nat.mod_eq_of_lt (bytesAt_lt c.payload 50 5))

theorem State.runForward_starts {s : State} {c : Cell} {r : PlateV × Region} {tag : Nat} (hops : s.xfr.ops = []) (hkept : s.xfr.kept = [])
    (haddress : badAddress (hArg c 8 8) = false) (hregion : s.requested c (hArg c 2 5) false = .ok r) (htag : s.freeTag = some tag) :
    s.runForward c none = s.startOp tag (forwardOp c s.now) := by
  unfold State.runForward
  dsimp only
  rw [hops, hkept, if_neg (by simp), if_neg (by simp [haddress]), hregion, htag]
  rfl

/-- Settles O37: each row's head is taken in its turn, and the last line of its work ends it. -/
theorem targetsExecuteRequests : Obligations.TargetsExecuteRequests := by
  refine ⟨?_, ?_, ?_, ?_, ?_, ?_, ?_, ?_⟩
  · intro c v g s hcell hfresh hpos hmax hregion hchannel hsound
    obtain ⟨x, -, hinject, htake⟩ := State.takeHead_fresh hfresh fun t => t.inTurn c
    obtain ⟨hrun, hflag, hrflows, hjobs, -⟩ := hfresh
    obtain ⟨hmemory, hsent, hxfr⟩ := State.inTurn_load (s := { s with csw := x }) hcell hflag hrflows hjobs hpos hmax hregion hchannel hsound
    exact ⟨_, _, ((exec_takesTurn hrun).1 hcell).trans (congrArg Host.Outcome.next htake), hmemory, hsent.trans hinject, congrArg Xfr.jobs hxfr, rfl, rfl⟩
  · intro p id wr data code q n c v g j s hcode hlast hkind huse hcell _ hmax hregion hplain
    exact State.lastRead_ends hlast hkind hcode huse hcell hmax hregion hplain wr
  · intro c v g s hcell hfresh hfirst hdropped hlanding hregion hfull hchannel
    obtain ⟨x, -, -, htake⟩ := State.takeHead_fresh hfresh fun t => t.inTurn c
    obtain ⟨hrun, hflag, hrflows, hjobs, -⟩ := hfresh
    obtain ⟨hmemory, hopened⟩ := State.inTurn_store (s := { s with csw := x }) hcell hflag hrflows hjobs hfirst hdropped hlanding hregion hfull hchannel
    exact ⟨_, _, ((exec_takesTurn hrun).2.1 hcell).trans (congrArg Host.Outcome.next htake), hopened, rfl, rfl, rfl, hmemory⟩
  · intro c s hrun hcell hother hnone hrflows hclosures hlanding
    obtain ⟨x, -, -, hwaits⟩ := exec_bulkDataRx hrun hcell hother
    refine ⟨_, hwaits hnone hrflows hclosures, ?_, ?_⟩ <;> simp [State.land, State.setXfr, hlanding]
  · intro c i j v g s hrun hcell hother hi hwaits hrflows hjobs hopen hregion hnew hrange hmore
    obtain ⟨x, -, hjoins, -⟩ := exec_bulkDataRx hrun hcell hother
    obtain ⟨hidle, hin⟩ := State.landCell_joins (s := { s with csw := x }) c.payload hwaits hjobs hopen hregion hnew hrange hmore hrflows
    have hname : i.head.src.toNat = c.src.toNat ∧ i.head.tag.toNat = c.tag.toNat ∧ i.slot = c.index.toNat / 64 := by
      simpa [and_assoc] using List.find?_some hi
    obtain ⟨hsrc, htag, hslot⟩ := hname
    rw [hsrc, htag, hslot, ← hidle] at hin
    exact ⟨_, _, hjoins i hi, hin, rfl, tabFind_insert_self _ _ _⟩
  · intro c v g s hcell hfresh hplain hpos hregion hfull hchannel hsound
    obtain ⟨x, -, hinject, htake⟩ := State.takeHead_fresh hfresh fun t => t.inTurn c
    obtain ⟨hrun, hflag, hrflows, hjobs, -⟩ := hfresh
    obtain ⟨hmemory, hsent, hxfr⟩ := State.inTurn_fill (s := { s with csw := x }) hcell hflag hrflows hjobs hplain hpos hregion hfull hchannel hsound
    rw [State.fillWritten_memory] at hmemory
    exact ⟨_, _, ((exec_takesHead hrun).2.1 hcell).trans (congrArg Host.Outcome.next htake), hmemory, congrArg Xfr.jobs hxfr, rfl, rfl,
      hsent.trans hinject⟩
  · intro p id wr stat data code poison q n c j s hlast hkind huse hcell hnone _
    have hwrites : q.kind ≠ .read ∧ q.kind ≠ .lockedRead := by rcases hkind with hkind | hkind <;> simp [hkind]
    obtain ⟨t, e, y, hexec, hrecord, hstatus, hvalue, hjobs, hmemory, hsent, htyp, htag, hst, -⟩ :=
      State.lastAnswer_ends (atomic := false) hlast hwrites huse (fun _ => rfl) hnone wr stat data code poison
    rw [if_neg (by simp [cellIs_ne hcell])] at htyp
    exact ⟨t, e, y, hexec, hrecord, hstatus, hvalue, hjobs, hmemory, hsent, htyp, htag, hst⟩
  · intro c v g tag s hcell hfresh hops hkept haddress hregion htag
    obtain ⟨x, hx, -, htake⟩ := State.takeHead_fresh hfresh fun t => t.inTurn c
    obtain ⟨hrun, hflag, -⟩ := hfresh
    obtain ⟨hsrc, hdst, hlen⟩ := forwardOp_fields c s.now
    have hstart : ({ s with csw := x } : State).inTurn c = ({ s with csw := x } : State).startOp tag (forwardOp c s.now) := by
      rw [State.inTurn_unordered hflag, State.runHead_forward hcell]
      exact State.runForward_starts hops hkept haddress hregion htag
    rw [hstart, ← hx] at htake
    exact ⟨forwardOp c s.now, rfl, rfl, hsrc, hdst, hlen, rfl, ((exec_takesTurn hrun).2.2 hcell).trans (congrArg Host.Outcome.next htake)⟩

end Sys2Proof.Machine
end

section
/-! OUTCOME, ABORT_REQ and CUE_ADD at their target (R227, R228, R260, R261, R273, R411). -/

namespace Sys2Proof.Machine

/-! ## Outcomes -/

theorem State.advanceCtx_of_none {s : State} (h : s.xfr.rflows = []) (c : Option Nat) : s.advanceCtx c = s := by
  cases c with
  | none => rfl
  | some n =>
    unfold State.advanceCtx
    dsimp only
    rw [h]
    rfl

theorem foldl_advanceCtx_of_none {α : Type} {s : State} (h : s.xfr.rflows = []) (l : List α) (f : α → Option Nat) :
    l.foldl (fun t i => t.advanceCtx (f i)) s = s := by
  induction l with
  | nil => rfl
  | cons a l ih => rw [List.foldl_cons, State.advanceCtx_of_none h, ih]

/-- Closing an operation where no work is under way and nothing is in order: only the transfers move. -/
theorem State.closeHere_idle {s : State} (hrflows : s.xfr.rflows = []) (hjobs : s.xfr.jobs = []) (src tag orig : Nat) :
    ∃ x, s.closeHere src tag orig = s.setXfr x ∧ x.rflows = [] ∧ x.jobs = [] ∧
      (x.closures.any fun k => k.src == src && k.tag == tag && k.orig == orig) = true := by
  unfold State.closeHere
  dsimp only
  rw [foldl_advanceCtx_of_none, foldl_advanceCtx_of_none]
  · exact ⟨_, rfl, by simp [hrflows], by simp [hjobs], by simp⟩
  · simp [State.setXfr, hrflows]
  · rw [foldl_advanceCtx_of_none] <;> simp [State.setXfr, hrflows]

/-- The answer to a query (Table 07-15). -/
def State.outcomeCell (s : State) (c : Cell) (outcome value : Nat) : Cell :=
  altCell (s.answerCell 0x13 3 c.src.toNat c.pkey.toNat c.tag.toNat ⟨0, 0⟩ outcome 0 (hOrig c) (oldValue value)) c.alt

theorem State.respondOutcome_eq (s : State) (c : Cell) (outcome value : Nat) :
    s.respondOutcome c outcome value = s.injectCell (s.outcomeCell c outcome value) := rfl

theorem State.outcomeCell_fields (s : State) (c : Cell) (outcome value : Nat) : cellIs (s.outcomeCell c outcome value) 0x13 = true ∧
    (s.outcomeCell c outcome value).tag = c.tag ∧ bytesAt (s.outcomeCell c outcome value).payload 3 1 = outcome % 256 := by
  refine ⟨rfl, (by simp : BitVec.ofNat 16 c.tag.toNat = c.tag), ?_⟩
  exact bytesAt_packBytes (n := 512) (fs := answerFields 3 ⟨0, 0⟩ outcome 0 (hOrig c) (oldValue value)) rfl (by simp [answerFields]) (by decide)

theorem outcomeOf_lt (recs : List (Nat × Exec)) (n : Nat) : (outcomeOf recs n).1 < 256 := by
  unfold outcomeOf
  dsimp only
  split_ifs <;> decide

theorem State.outcomeAnswer_lt (s : State) (src tag orig n last : Nat) : (s.outcomeAnswer src tag orig n last).1 < 256 := by
  rw [State.outcomeAnswer]
  refine (apply_ite (fun r : Nat × Nat => r.1 < 256) _ _ _).mpr ?_
  split
  · norm_num
  · split
    · dsimp only
      split_ifs <;> norm_num
    · split
      · norm_num
      · split
        · norm_num
        · exact outcomeOf_lt _ _

theorem State.closed_setXfr {s : State} {x : Xfr} {src tag orig : Nat}
    (h : (x.closures.any fun k => k.src == src && k.tag == tag && k.orig == orig) = true) : (s.setXfr x).closed src tag orig = true := h

/-- An OUTCOME is answered, and closes its operation where the answer is final. -/
theorem exec_outcomeReqRx {c : Cell} {s : State} (hrun : s.running = true) (hcell : cellIs c 0x06 = true) (hrflows : s.xfr.rflows = [])
    (hjobs : s.xfr.jobs = []) {r : Nat × Nat} (hr : s.outcomeAnswer c.src.toNat (hArg c 0 2) (hArg c 2 6) (hArg c 8 4) (hArg c 12 4) = r) :
    ∃ u : State, exec (.outcomeReqRx c) s = .next (u.respondOutcome c r.1 r.2) ∧ u.csw.inject = s.csw.inject ∧
      (r.1 = 0 → u.closed c.src.toNat (hArg c 0 2) (hArg c 2 6) = true) := by
  obtain ⟨x, hx, hinject⟩ := s.takeEjected_eq c
  have hr' : ({ s with csw := x } : State).outcomeAnswer c.src.toNat (hArg c 0 2) (hArg c 2 6) (hArg c 8 4) (hArg c 12 4) = r := hr
  have hexec : exec (.outcomeReqRx c) s = .next (((if r.1 = 0 ∨ r.1 = 2 then
      ({ s with csw := x } : State).closeHere c.src.toNat (hArg c 0 2) (hArg c 2 6) else { s with csw := x }).respondOutcome c r.1 r.2).runTurns) := by
    change execOutcomeReqRx c s = _
    rw [execOutcomeReqRx, if_running hrun, if_neg (by simp [hcell]), hx]
    dsimp only
    rw [hr']
  obtain ⟨y, hclose, hflows, hwork, hclosed⟩ := State.closeHere_idle (s := { s with csw := x }) hrflows hjobs c.src.toNat (hArg c 0 2) (hArg c 2 6)
  rw [hclose] at hexec
  by_cases hfinal : r.1 = 0 ∨ r.1 = 2
  · rw [if_pos hfinal, State.runTurns_idle (by exact hflows) (by exact hwork)] at hexec
    exact ⟨_, hexec, hinject, fun _ => State.closed_setXfr hclosed⟩
  · rw [if_neg hfinal, State.runTurns_idle (by exact hrflows) (by exact hjobs)] at hexec
    exact ⟨_, hexec, hinject, fun h => absurd (.inl h) hfinal⟩

theorem exec_abortReqRx {c : Cell} {s : State} (hrun : s.running = true) (hcell : cellIs c 0x07 = true) (hbit : bit c.payload 13 = false)
    (hrflows : s.xfr.rflows = []) (hjobs : s.xfr.jobs = [])
    (hrelay : (s.xfr.ops.find? fun e => e.2.relayNamed e.1 c.src.toNat (hArg c 0 2) (hArg c 2 6)) = none) :
    ∃ (u : State) (o v : Nat), exec (.abortReqRx c) s = .next (u.respondOutcome c o v) ∧ u.csw.inject = s.csw.inject ∧ u.memory = s.memory ∧
      u.closed c.src.toNat (hArg c 0 2) (hArg c 2 6) = true := by
  obtain ⟨x, hx, hinject⟩ := s.takeEjected_eq c
  obtain ⟨y, hclose, hflows, hwork, hclosed⟩ := State.closeHere_idle (s := { s with csw := x }) hrflows hjobs c.src.toNat (hArg c 0 2) (hArg c 2 6)
  have hexec : ∃ r : Nat × Nat, exec (.abortReqRx c) s =
      .next ((((({ s with csw := x } : State).closeHere c.src.toNat (hArg c 0 2) (hArg c 2 6)).respondOutcome c r.1 r.2)).runTurns) := by
    refine ⟨outcomeOf (({ s with csw := x } : State).recordsOf c.src.toNat (hArg c 0 2) (hArg c 2 6) ++
      ({ s with csw := x } : State).made c.src.toNat (hArg c 0 2) (hArg c 2 6)) (hArg c 8 4), ?_⟩
    change execAbortReqRx c s = _
    rw [execAbortReqRx, if_running hrun, if_neg (by simp [hcell, hbit]), hx]
    dsimp only
    rw [hrelay]
  obtain ⟨r, hexec⟩ := hexec
  rw [hclose, State.runTurns_idle (by exact hflows) (by exact hwork)] at hexec
  exact ⟨_, r.1, r.2, hexec, hinject, rfl, State.closed_setXfr hclosed⟩

/-! ## Counters -/

theorem State.cycleFor_switch (s : State) (x : Csw) (k : Nat) (set done : Bool) (src : Nat) :
    ({ s with csw := x } : State).cycleFor k set done src = { s.cycleFor k set done src with csw := x } := by
  unfold State.cycleFor
  dsimp only
  split_ifs <;> rfl

theorem State.cycleFor_cases (s : State) (k : Nat) (set done : Bool) (src : Nat) :
    s.cycleFor k set done src = s.nextCycle ∨ s.cycleFor k set done src = s := by
  unfold State.cycleFor
  dsimp only
  split_ifs <;> simp

/-- A new cycle of the Prompter changes no counter, no key, no transfer and no cell. -/
theorem State.cycleFor_keeps (s : State) (k : Nat) (set done : Bool) (src : Nat) : (s.cycleFor k set done src).prm.counters = s.prm.counters ∧
    (s.cycleFor k set done src).xfr = s.xfr ∧ (s.cycleFor k set done src).csw = s.csw ∧ (s.cycleFor k set done src).regs = s.regs := by
  rcases s.cycleFor_cases k set done src with h | h <;> rw [h] <;> exact ⟨rfl, rfl, rfl, rfl⟩

theorem State.ctr_putCtr (s : State) (k i : Nat) (w : Word) : (s.putCtr k w).ctr i = if i = k then w else s.ctr i := tabGet_set _ _ _ _ _

theorem State.ctr_congr {s t : State} (h : t.prm.counters = s.prm.counters) (k : Nat) : t.ctr k = s.ctr k := by
  unfold State.ctr
  rw [h]

/-- An update that is applied: the counter holds the cycle's sum, capped, and every other counter is as before (R259, R261). -/
theorem State.ctr_applyUpdate (s : State) (k : Nat) (set done : Bool) (n src i : Nat) : (s.applyUpdate k set done n src).ctr i =
    if i = k then BitVec.ofNat 32 (min (((s.newsOf k).take set n src).sum) 0xFFFFFFFF) else s.ctr i := by
  have hraise (t : State) (a b c d : Nat) : (t.raiseFault a b c d).prm = t.prm := State.agree_of_allBut .prm (by simp)
  unfold State.applyUpdate
  dsimp only
  split
  · exact State.ctr_putCtr _ _ _ _
  · split
    · exact State.ctr_putCtr _ _ _ _
    · exact (State.ctr_congr (congrArg Prm.counters (hraise _ _ _ _ _)) i).trans (State.ctr_putCtr _ _ _ _)

theorem toNat_capped (n : Nat) : (BitVec.ofNat 32 (min n 0xFFFFFFFF)).toNat = min n 0xFFFFFFFF := by
  rw [BitVec.toNat_ofNat]
  omega

theorem State.applyUpdate_xfr (s : State) (k : Nat) (set done : Bool) (n src : Nat) : (s.applyUpdate k set done n src).xfr = s.xfr :=
  State.agree_of_allBut .xfr (by simp)

/-- What a CUE_ADD leads to, in each of its three cases (R260, R261, R411). -/
theorem State.runCueAdd_cases {s : State} {c : Cell} (hfull : s.execFull = false) :
    (s.intm.state = .save ∨ s.intm.state = .frozen → s.runCueAdd c = s.respond c 0 ⟨12, 52⟩ []) ∧
    (s.intm.state ≠ .save → s.intm.state ≠ .frozen → ∀ u, u = s.cycleFor (hLow c) (hAddr c % 2 == 1) false (0x10000 + c.src.toNat) →
      (u.prm.keyed.contains (hLow c / 64) = true ∨ u.ctrDenied (hLow c) c.pkey.toNat = true →
        ∃ off, s.runCueAdd c = (u.bump off).respond c 0 ⟨9, 35⟩ []) ∧
      (u.prm.keyed.contains (hLow c / 64) = false → u.ctrDenied (hLow c) c.pkey.toNat = false →
        s.runCueAdd c = (u.applyUpdate (hLow c) (hAddr c % 2 == 1) false (hChunk c) (0x10000 + c.src.toNat)).answerAtomic c
          (if hAddr c % 2 == 1 then (u.newsOf (hLow c)).base else u.ctr (hLow c)).toNat)) := by
  refine ⟨fun hfrozen => if_pos hfrozen, fun hsave hfroz u hu => ?_⟩
  have hrun (r : State × Option Word) (hr : s.updateCtr (hLow c) c.pkey.toNat (hAddr c % 2 == 1) false (hChunk c) (0x10000 + c.src.toNat) = r) :
      s.runCueAdd c = match r.2 with
        | some old => r.1.answerAtomic c old.toNat
        | none => r.1.respond c 0 ⟨9, 35⟩ [] := by
    unfold State.runCueAdd
    rw [if_neg (by simp [hsave, hfroz]), if_neg (by simp [hfull])]
    dsimp only
    rw [hr]
  have hupdate : s.updateCtr (hLow c) c.pkey.toNat (hAddr c % 2 == 1) false (hChunk c) (0x10000 + c.src.toNat) =
      if u.prm.keyed.contains (hLow c / 64) then (u.bump (R.prmCount 8), none)
      else if u.ctrDenied (hLow c) c.pkey.toNat then (u.denyCtr, none)
      else (u.applyUpdate (hLow c) (hAddr c % 2 == 1) false (hChunk c) (0x10000 + c.src.toNat),
        some (if hAddr c % 2 == 1 then (u.newsOf (hLow c)).base else u.ctr (hLow c))) := by
    rw [hu]
    rfl
  refine ⟨fun hdenied => ?_, fun hkeyed hright => ?_⟩
  · by_cases hkeyed : u.prm.keyed.contains (hLow c / 64) = true
    · exact ⟨_, hrun _ (hupdate.trans (if_pos hkeyed))⟩
    · exact ⟨_, hrun _ (hupdate.trans ((if_neg hkeyed).trans (if_pos (hdenied.resolve_left hkeyed))))⟩
  · exact hrun _ (hupdate.trans ((if_neg (Bool.eq_false_iff.mp hkeyed)).trans (if_neg (Bool.eq_false_iff.mp hright))))

theorem State.injectCell_last (s : State) (y : Cell) : (s.injectCell y).csw.inject.getLast? = some y := by
  simp [State.injectCell]

theorem State.ctrDenied_congr {s t : State} (h : t.regs = s.regs) (k part : Nat) : t.ctrDenied k part = s.ctrDenied k part := by
  unfold State.ctrDenied State.ctrKey State.fld State.reg
  rw [h]

/-- The fields that an answer has behind the others: an atomic's old value. -/
def moreOf (v : Option Nat) : List (Nat × Nat × Nat) := (v.map oldValue).getD []

theorem moreOf_cases (v : Option Nat) : moreOf v = [] ∨ ∃ n, moreOf v = oldValue n := by
  cases v with
  | none => exact .inl rfl
  | some n => exact .inr ⟨n, rfl⟩

/-- What a CUE_ADD shows when it ends: its answer last in the injection buffer, the Prompter, and no work. -/
structure State.cueAddShows (t : State) (a : Answer) (v : Option Nat) (prm : Prm) : Prop where
  sent : ∃ y, t.csw.inject.getLast? = some y ∧ bytesAt y.payload 1 1 = a.status % 256 ∧ bytesAt y.payload 2 1 = a.reason % 256 ∧
    ∀ n, v = some n → bytesAt y.payload 32 8 = n % 2 ^ 64
  same : t.prm = prm
  idle : t.runTurns = t

theorem State.respond_shows {u : State} (hrflows : u.xfr.rflows = []) (hjobs : u.xfr.jobs = []) {a : Answer} (hstatus : a.status ≠ 8) (c : Cell)
    (v : Option Nat) : (u.respond c 0 a (moreOf v)).cueAddShows a v u.prm := by
  obtain ⟨-, hprm, hxfr, -, -⟩ := State.respond_answers (s := u) hstatus c 0 (moreOf v)
  obtain ⟨hst, hre⟩ := State.answerTo_status u c 0 a (moreOf_cases v)
  have hlast : (u.respond c 0 a (moreOf v)).csw.inject.getLast? = some (u.answerTo c 0 a (moreOf v)) := by
    rw [State.respond_eq]
    exact State.injectCell_last _ _
  refine ⟨⟨_, hlast, hst, hre, ?_⟩, hprm, State.runTurns_idle (by rw [hxfr]; exact hrflows) (by rw [hxfr]; exact hjobs)⟩
  rintro n rfl
  exact State.answerTo_value _ _ _ _ _

/-- The operands of a CUE_ADD's update: whether it is a SET, and who sent it. -/
def cueSet (c : Cell) : Bool := hAddr c % 2 == 1

def cueSource (c : Cell) : Nat := 0x10000 + c.src.toNat

/-- What a CUE_ADD shows, in each of its three cases. -/
theorem State.runCueAdd_shows {s u : State} {c : Cell} (hfull : s.execFull = false) (hrflows : s.xfr.rflows = []) (hjobs : s.xfr.jobs = [])
    (hu : s.cycleFor (hLow c) (cueSet c) false (cueSource c) = u) :
    (s.intm.state = .save ∨ s.intm.state = .frozen → (s.runCueAdd c).cueAddShows ⟨12, 52⟩ none s.prm) ∧
    (s.intm.state ≠ .save → s.intm.state ≠ .frozen → u.prm.keyed.contains (hLow c / 64) = true ∨ u.ctrDenied (hLow c) c.pkey.toNat = true →
      (s.runCueAdd c).cueAddShows ⟨9, 35⟩ none u.prm) ∧
    (s.intm.state ≠ .save → s.intm.state ≠ .frozen → u.prm.keyed.contains (hLow c / 64) = false → u.ctrDenied (hLow c) c.pkey.toNat = false →
      (s.runCueAdd c).cueAddShows ⟨0, 0⟩ (some (if cueSet c then (u.newsOf (hLow c)).base else u.ctr (hLow c)).toNat)
        (u.applyUpdate (hLow c) (cueSet c) false (hChunk c) (cueSource c)).prm) := by
  obtain ⟨hfrozen, hcases⟩ := State.runCueAdd_cases (c := c) hfull
  obtain ⟨-, hxfr, -, -⟩ := s.cycleFor_keeps (hLow c) (cueSet c) false (cueSource c)
  rw [hu] at hxfr
  refine ⟨fun h => ?_, fun hsave hfroz hdenied => ?_, fun hsave hfroz hkeyed hright => ?_⟩
  · rw [hfrozen h]
    exact State.respond_shows hrflows hjobs (by decide) c none
  · obtain ⟨off, hrun⟩ := (hcases hsave hfroz u hu.symm).1 hdenied
    rw [hrun]
    exact State.respond_shows (u := u.bump off) (by rw [State.bump_xfr, hxfr]; exact hrflows) (by rw [State.bump_xfr, hxfr]; exact hjobs) (by decide) c none
  · rw [(hcases hsave hfroz u hu.symm).2 hkeyed hright]
    have hrecorded (t : State) (ht : t.xfr = s.xfr) (n : Nat) : (t.answerAtomic c n).cueAddShows ⟨0, 0⟩ (some n) t.prm :=
      State.respond_shows (u := t.newNumber.2.record t.newNumber.1 (t.newNumber.2.execOf c 0 true n false))
        (show t.xfr.rflows = [] by rw [ht]; exact hrflows) (show t.xfr.jobs = [] by rw [ht]; exact hjobs) (by decide) c (some n)
    exact hrecorded _ ((State.applyUpdate_xfr _ _ _ _ _ _).trans hxfr) _

/-- Settles O38: an OUTCOME and an ABORT_REQ close what they name, and a CUE_ADD ends in one of three ways. -/
theorem targetsAnswerQueriesAndCues : Obligations.TargetsAnswerQueriesAndCues := by
  refine ⟨?_, ?_, ?_⟩
  · intro c s hrun hcell hrflows hjobs
    obtain ⟨u, hexec, hinject, hclosed⟩ := exec_outcomeReqRx hrun hcell hrflows hjobs rfl
    obtain ⟨htyp, htag, houtcome⟩ := u.outcomeCell_fields c (s.outcomeAnswer c.src.toNat (hArg c 0 2) (hArg c 2 6) (hArg c 8 4) (hArg c 12 4)).1
      (s.outcomeAnswer c.src.toNat (hArg c 0 2) (hArg c 2 6) (hArg c 8 4) (hArg c 12 4)).2
    rw [Nat.mod_eq_of_lt (State.outcomeAnswer_lt _ _ _ _ _ _)] at houtcome
    exact ⟨_, _, hexec, congrArg (· ++ _) hinject, htyp, htag, houtcome, hclosed⟩
  · intro c s hrun hcell hbit hrflows hjobs hrelay
    obtain ⟨u, o, v, hexec, hinject, hmemory, hclosed⟩ := exec_abortReqRx hrun hcell hbit hrflows hjobs hrelay
    exact ⟨_, _, hexec, hclosed, congrArg (· ++ _) hinject, (u.outcomeCell_fields c o v).1, hmemory⟩
  · intro c s u hcell hfresh hfull hu
    obtain ⟨x, -, hinject, htake⟩ := State.takeHead_fresh hfresh fun t => t.runCueAdd c
    obtain ⟨hrun, -, hrflows, hjobs, -⟩ := hfresh
    have hexec := ((exec_takesHead hrun).2.2 hcell).trans (congrArg Host.Outcome.next htake)
    obtain ⟨hcounters, -, -, hregs⟩ := s.cycleFor_keeps (hLow c) (cueSet c) false (cueSource c)
    have hu1 : ({ s with csw := x } : State).cycleFor (hLow c) (cueSet c) false (cueSource c) = { u with csw := x } := by
      rw [State.cycleFor_switch, hu]
      rfl
    have hdeny : ({ u with csw := x } : State).ctrDenied (hLow c) c.pkey.toNat = s.ctrDenied (hLow c) c.pkey.toNat :=
      State.ctrDenied_congr (by rw [hu]; exact hregs) _ _
    obtain ⟨hfrozen, hdenied, happlied⟩ := State.runCueAdd_shows (s := { s with csw := x }) hfull hrflows hjobs hu1
    rw [hdeny] at hdenied happlied
    by_cases hstop : s.intm.state = .save ∨ s.intm.state = .frozen
    · obtain ⟨⟨y, hlast, hst, hre, -⟩, hprm, hidle⟩ := hfrozen hstop
      rw [hidle] at hexec
      exact ⟨_, y, hexec, hlast, fun _ => ⟨hprm, hst, hre⟩, fun h1 h2 => absurd hstop (not_or.mpr ⟨h1, h2⟩),
        fun h1 h2 => absurd hstop (not_or.mpr ⟨h1, h2⟩)⟩
    · obtain ⟨hsave, hfroz⟩ := not_or.mp hstop
      by_cases hrefused : u.prm.keyed.contains (hLow c / 64) = true ∨ s.ctrDenied (hLow c) c.pkey.toNat = true
      · obtain ⟨⟨y, hlast, hst, hre, -⟩, hprm, hidle⟩ := hdenied hsave hfroz hrefused
        rw [hidle] at hexec
        refine ⟨_, y, hexec, hlast, fun h => absurd h hstop, fun _ _ _ => ⟨hprm, ?_, hst, hre⟩, fun _ _ h1 h2 => ?_⟩
        · rw [hprm, hu]
          exact hcounters
        · rw [h1, h2] at hrefused
          exact absurd hrefused (by decide)
      · obtain ⟨hkeyed, hright⟩ := not_or.mp hrefused
        obtain ⟨⟨y, hlast, hst, -, hvalue⟩, hprm, hidle⟩ := happlied hsave hfroz (Bool.eq_false_iff.mpr hkeyed) (Bool.eq_false_iff.mpr hright)
        rw [hidle] at hexec
        have hctr (k : Nat) : (({ s with csw := x } : State).runCueAdd c).ctr k = if k = hLow c then
            BitVec.ofNat 32 (min (((u.newsOf (hLow c)).take (cueSet c) (hChunk c) (cueSource c)).sum) 0xFFFFFFFF) else s.ctr k := by
          rw [State.ctr_congr (congrArg Prm.counters hprm), State.ctr_applyUpdate,
            State.ctr_congr (s := s) (t := { u with csw := x }) (by rw [hu]; exact hcounters)]
          rfl
        refine ⟨_, y, hexec, hlast, fun h => absurd h hstop, fun _ _ h => absurd h hrefused, fun _ _ _ _ => ⟨?_, fun k hk => ?_, hst, ?_⟩⟩
        · rw [hctr, if_pos rfl, toNat_capped]
          rfl
        · rw [hctr, if_neg hk]
        · rw [hvalue _ rfl, Nat.mod_eq_of_lt (lt_trans (BitVec.isLt _) (by decide)), cueSet,
            State.ctr_congr (s := s) (t := { u with csw := x }) (by rw [hu]; exact hcounters)]
          simp only [beq_iff_eq]
          rfl

end Sys2Proof.Machine
end

section
/-! Answers at the requester (R213, R214, R220, R227). -/

namespace Sys2Proof.Machine

theorem State.op_of_opByTag {s : State} {tag t : Nat} {o : Op} (h : s.opByTag tag = some (t, o)) : s.op t = some o := by
  unfold State.opByTag at h
  split at h
  · next o1 hop =>
    split at h
    · simp only [Option.some.injEq, Prod.mk.injEq] at h
      obtain ⟨rfl, rfl⟩ := h
      exact hop
    · simp at h
  · simp at h

theorem State.op_setOp_self (s : State) (t : Nat) (o : Op) : (s.setOp t o).op t = some o := tabFind_insert_self _ _ _

theorem State.setMsg_of_op {s : State} {t : Nat} {o : Op} (h : s.op t = some o) (k : Nat) (m : Msg) :
    s.setMsg t k m = s.setOp t { o with msgs := tabInsert o.msgs k m } := by
  rw [State.setMsg, h]

/-! ## A LOAD's data cells -/

/-- A chunk whose COMPLETION has not come waits for it. -/
theorem State.tryChunk_unanswered {s : State} {t k : Nat} {o : Op} {m : Msg} (hop : s.op t = some o) (hmsg : tabFind o.msgs k = some m)
    (hanswer : m.answer = none) : s.tryChunk t k = s := by
  unfold State.tryChunk
  rw [hop]
  dsimp only
  rw [hmsg]
  dsimp only
  rw [hanswer]

theorem State.putBytes_xfr {s x : State} {part addr : Nat} {b : List Byte} (h : s.putBytes part addr b = .ok x) : x.xfr = s.xfr := by
  have hwrite (v : PlateV) (g : Region) (off : Nat) : (s.writeBytes v g off b).xfr = s.xfr := State.agree_of_allBut .xfr (by simp)
  unfold State.putBytes at h
  dsimp only at h
  split at h
  · simp only [Except.ok.injEq] at h
    rw [← h]
  · split at h
    · simp at h
    · split at h
      · simp at h
      · split at h
        · simp at h
        · simp only [Except.ok.injEq] at h
          rw [← h, State.queueWrites_none_xfr, hwrite]

/-- A new data cell of a LOAD's chunk, with the state that keeps it. -/
theorem execLoadDataRx_of_new {c : Cell} {t k : Nat} {o : Op} {m : Msg} {s : State} (hrun : s.running = true) (hcell : cellIs c 0x10 = true)
    (hop : s.opByTag c.tag.toNat = some (t, o)) (hkind : o.kind = .load) (habort : o.abortAt = none)
    (hchunk : o.chunkAt (c.index.toNat / 64) = some (k, m)) (hnew : tabFind m.got (c.index.toNat % 64) = none) :
    exec (.loadDataRx c) s =
      (if seatMem o.dst || s.sealedKey o.part then
        .next (((s.takeEjected c).setMsg t k { m with got := tabInsert m.got (c.index.toNat % 64) c.payload }).tryChunk t k)
      else
        match ((s.takeEjected c).setMsg t k { m with got := tabInsert m.got (c.index.toNat % 64) c.payload }).writeLocal o
            (4096 * k + 64 * (c.index.toNat % 64)) ((toBytes c.payload 64).take (m.len - 64 * (c.index.toNat % 64))) with
        | .ok s2 => .next (s2.tryChunk t k)
        | .error a => .next (((((s.takeEjected c).setMsg t k { m with got := tabInsert m.got (c.index.toNat % 64) c.payload }).refusedPut a)).doneMsg
            t k a 0 0)) := by
  obtain ⟨x, hx, -⟩ := s.takeEjected_eq c
  have hop' : ({ s with csw := x } : State).opByTag c.tag.toNat = some (t, o) := hop
  change execLoadDataRx c s = _
  rw [execLoadDataRx, if_running hrun, if_neg (by simp [hcell]), hx]
  dsimp only
  rw [hop']
  dsimp only
  rw [if_neg (by simp [hkind]), if_neg (by simp [habort]), hchunk]
  dsimp only
  rw [if_neg (by simp [hnew])] <;> rfl

/-! ## Completions -/

theorem execCompletionChunkRx_of_store {c : Cell} {t : Nat} {o : Op} {s : State} (hrun : s.running = true) (hcell : cellIs c 0x11 = true)
    (hkind0 : bytesAt c.payload 0 1 = 0) (hop : s.opByTag c.tag.toNat = some (t, o)) (hkind : o.kind = .store) (habort : o.abortAt = none) :
    exec (.completionChunkRx c) s = .next (((s.takeEjected c).writeAnswer t (bytesAt c.payload 4 4)
      ⟨bytesAt c.payload 1 1, bytesAt c.payload 2 1⟩ c.payload).runTurns) := by
  obtain ⟨x, hx, -⟩ := s.takeEjected_eq c
  have hop' : ({ s with csw := x } : State).opByTag c.tag.toNat = some (t, o) := hop
  change execCompletionChunkRx c s = _
  rw [execCompletionChunkRx, if_running hrun, if_neg (by simp [hcell, hkind0]), State.completionRx, hx]
  dsimp only
  rw [hop']
  dsimp only
  rw [if_neg (by simp [habort]), hkind]

theorem State.writeAnswer_of_msg {s : State} {t k : Nat} {o : Op} {m : Msg} (hop : s.op t = some o) (hmsg : tabFind o.msgs k = some m) (a : Answer)
    (p : Line) : (a.status = 0 → s.writeAnswer t k a p = s.doneMsg t k a m.len (o.msgXor k m)) ∧
      (a.status = 12 → s.writeAnswer t k a p = s.busyMsg t k a) := by
  unfold State.writeAnswer
  rw [hop]
  dsimp only
  rw [hmsg]
  dsimp only
  exact ⟨fun h => if_pos h, fun h => (if_neg (by omega)).trans (if_pos h)⟩

/-- A message that is answered BUSY waits for its backoff (R214). -/
theorem State.busyMsg_of_tries {s : State} {t k : Nat} {o : Op} {m : Msg} (hop : s.op t = some o) (hmsg : tabFind o.msgs k = some m) (a : Answer)
    (htries : m.busyTries < s.fld R.xfrCfg 12 4) : s.busyMsg t k a = (s.bump (R.xfrCount 1)).setOp t
      (o.mapReq m fun x => { x with busyTries := m.busyTries + 1, backoff := some (s.now + s.fld R.xfrCfg 0 8 * 100) }) := by
  unfold State.busyMsg
  rw [hop]
  dsimp only
  rw [hmsg]
  dsimp only
  rw [if_neg (by omega)]

/-! ## Answers that end their operation -/

/-- Outside an ordered flow an outcome closes its operation at once. -/
theorem State.fixOp_unordered {s : State} {t : Nat} {o : Op} (hop : s.op t = some o) (hflow : o.flow = none) (c : Comp) :
    s.fixOp t c = s.closeOp t o c s.now := by
  have hfirst : s.earlierInFlow o (fun _ => true) = false := by rw [State.earlierInFlow, hflow]
  unfold State.fixOp
  rw [hop]
  dsimp only
  rw [if_neg (by simp [hfirst]), hflow]

theorem execAtomicRspRx_of_atom {c : Cell} {t : Nat} {o : Op} {m : Msg} {s : State} (hrun : s.running = true) (hcell : cellIs c 0x12 = true)
    (hop : s.opByTag c.tag.toNat = some (t, o)) (hkind : o.kind = .atom) (habort : o.abortAt = none) (hmsg : tabFind o.msgs 0 = some m)
    (hok : bytesAt c.payload 1 1 = 0) : exec (.atomicRspRx c) s = .next ((s.takeEjected c).fixOp t
      { okComp with reason := bytesAt c.payload 2 1, bytes := atomWidth o.issue.desc, value := bytesAt c.payload 32 8 }) := by
  obtain ⟨x, hx, -⟩ := s.takeEjected_eq c
  have hop' : ({ s with csw := x } : State).opByTag c.tag.toNat = some (t, o) := hop
  change execAtomicRspRx c s = _
  rw [execAtomicRspRx, if_running hrun, if_neg (by simp [hcell]), hx]
  dsimp only
  rw [hop']
  dsimp only
  rw [if_neg (by simp [hkind]), if_neg (by simp [habort]), if_neg (by simp [hmsg]), hok]
  rfl

theorem execOutcomeRspRx_of_query {c : Cell} {t : Nat} {o : Op} {s : State} (hrun : s.running = true) (hcell : cellIs c 0x13 = true)
    (hop : s.opByTag c.tag.toNat = some (t, o)) (hkind : o.kind = .query) (habort : o.abortAt = none) (hbusy : bytesAt c.payload 1 1 ≠ 12) :
    exec (.outcomeRspRx c) s = .next ((s.takeEjected c).fixOp t
      { okComp with status := bytesAt c.payload 1 1, reason := bytesAt c.payload 2 1, outcome := bytesAt c.payload 3 1
                    value := bytesAt c.payload 32 8 }) := by
  obtain ⟨x, hx, -⟩ := s.takeEjected_eq c
  have hop' : ({ s with csw := x } : State).opByTag c.tag.toNat = some (t, o) := hop
  change execOutcomeRspRx c s = _
  rw [execOutcomeRspRx, if_running hrun, if_neg (by simp [hcell]), hx]
  dsimp only
  rw [hop']
  dsimp only
  rw [if_neg (by simp [habort]), if_pos hkind, if_neg hbusy]

/-! ## Answers to a tag that no operation holds -/

/-- An answer to a tag that no operation holds is counted. -/
theorem exec_answer_unknown {c : Cell} {s : State} (hrun : s.running = true) (hop : s.opByTag c.tag.toNat = none) (hrflows : s.xfr.rflows = [])
    (hjobs : s.xfr.jobs = []) :
    (cellIs c 0x10 = true → exec (.loadDataRx c) s = .next ((s.takeEjected c).bump (R.xfrCount 8))) ∧
    (cellIs c 0x11 = true → bytesAt c.payload 0 1 ≠ 4 → exec (.completionChunkRx c) s = .next ((s.takeEjected c).bump (R.xfrCount 8))) ∧
    (cellIs c 0x12 = true → exec (.atomicRspRx c) s = .next ((s.takeEjected c).bump (R.xfrCount 8))) ∧
    (cellIs c 0x13 = true → exec (.outcomeRspRx c) s = .next ((s.takeEjected c).bump (R.xfrCount 8))) := by
  obtain ⟨x, hx, -⟩ := s.takeEjected_eq c
  have hop' : ({ s with csw := x } : State).opByTag c.tag.toNat = none := hop
  rw [hx]
  refine ⟨fun hcell => ?_, fun hcell hkind => ?_, fun hcell => ?_, fun hcell => ?_⟩
  · change execLoadDataRx c s = _
    rw [execLoadDataRx, if_running hrun, if_neg (by simp [hcell]), hx]
    dsimp only
    rw [hop']
  · change execCompletionChunkRx c s = _
    rw [execCompletionChunkRx, if_running hrun, if_neg (by simp [hcell, hkind]), State.completionRx, hx]
    dsimp only
    rw [hop']
    exact congrArg Host.Outcome.next (State.runTurns_idle hrflows hjobs)
  · change execAtomicRspRx c s = _
    rw [execAtomicRspRx, if_running hrun, if_neg (by simp [hcell]), hx]
    dsimp only
    rw [hop']
  · change execOutcomeRspRx c s = _
    rw [execOutcomeRspRx, if_running hrun, if_neg (by simp [hcell]), hx]
    dsimp only
    rw [hop']

/-- Settles O39: each answer finds its operation by the tag, and the message that waits for it. -/
theorem answersReachTheirOperations : Obligations.AnswersReachTheirOperations := by
  refine ⟨?_, ?_, ?_, ?_, ?_⟩
  · intro c t o k m s hrun hcell hop hkind habort hchunk hnew hanswer hmsg u hu
    obtain ⟨x, hx, -⟩ := s.takeEjected_eq c
    have hset : u = ({ s with csw := x } : State).setOp t
        { o with msgs := tabInsert o.msgs k { m with got := tabInsert m.got (c.index.toNat % 64) c.payload } } := by
      rw [hu, hx]
      exact State.setMsg_of_op (s := { s with csw := x }) (State.op_of_opByTag hop) _ _
    have hwaits (y : State) (hy : y.xfr = u.xfr) : y.tryChunk t k = y := by
      refine State.tryChunk_unanswered (o := { o with msgs := tabInsert o.msgs k { m with got := tabInsert m.got (c.index.toNat % 64) c.payload } })
        ?_ (tabFind_insert_self _ _ _) hanswer
      rw [State.op, hy, hset]
      exact State.op_setOp_self _ _ _
    have hexec := execLoadDataRx_of_new hrun hcell hop hkind habort hchunk hnew
    rw [← hu] at hexec
    refine ⟨fun hkept => ⟨?_, ?_⟩, fun hmemory hplain y hy => ?_⟩
    · rw [hexec, if_pos (by simpa using hkept), hwaits u rfl]
    · rw [hset]
      rfl
    · rw [hexec, if_neg (by simp [hmemory, hplain]), State.writeLocal, hy]
      exact congrArg Host.Outcome.next (hwaits y (State.putBytes_xfr hy))
  · intro c t o m s hrun hcell hkind0 hop hkind habort hmsg hrflows hjobs
    obtain ⟨x, hx, -⟩ := s.takeEjected_eq c
    have hexec := execCompletionChunkRx_of_store hrun hcell hkind0 hop hkind habort
    obtain ⟨hdone, hbusy⟩ := State.writeAnswer_of_msg (s := { s with csw := x }) (State.op_of_opByTag hop) hmsg
      ⟨bytesAt c.payload 1 1, bytesAt c.payload 2 1⟩ c.payload
    rw [hx] at hexec
    refine ⟨fun hok => ?_, fun hst htries => ?_⟩
    · rw [hexec, hdone hok, hx, hok]
    · rw [hbusy hst, State.busyMsg_of_tries (s := { s with csw := x }) (State.op_of_opByTag hop) hmsg _ htries,
        State.runTurns_idle (by exact hrflows) (by exact hjobs)] at hexec
      exact ⟨_, hexec, State.op_setOp_self _ _ _⟩
  · intro c t o m s hrun hcell hop hkind habort hmsg hok hflow
    obtain ⟨x, hx, -⟩ := s.takeEjected_eq c
    rw [execAtomicRspRx_of_atom hrun hcell hop hkind habort hmsg hok, hx]
    exact congrArg Host.Outcome.next (State.fixOp_unordered (s := { s with csw := x }) (State.op_of_opByTag hop) hflow _)
  · intro c t o s hrun hcell hop hkind habort hflow hbusy
    obtain ⟨x, hx, -⟩ := s.takeEjected_eq c
    rw [execOutcomeRspRx_of_query hrun hcell hop hkind habort hbusy, hx]
    exact congrArg Host.Outcome.next (State.fixOp_unordered (s := { s with csw := x }) (State.op_of_opByTag hop) hflow _)
  · intro c x s hrun hop hrflows hjobs hrow
    obtain ⟨hload, hcompletion, hatomic, houtcome⟩ := exec_answer_unknown hrun hop hrflows hjobs
    rcases hrow with ⟨rfl, hc⟩ | ⟨rfl, hc, hkind⟩ | ⟨rfl, hc⟩ | ⟨rfl, hc⟩
    · exact hload hc
    · exact hcompletion hc hkind
    · exact hatomic hc
    · exact houtcome hc

end Sys2Proof.Machine
end

section
/-! A lane that has failed: what keeps it so (R112 to R116). -/

namespace Sys2Proof.Machine

/-! ## One lane's record -/

theorem State.endScan_lanes (s : State) (l status : Nat) : (s.endScan l status).lanes = s.lanes := by
  unfold State.endScan
  split <;> rfl

theorem State.lane_laneTo (s : State) (l k : Nat) (st : LaneState) :
    (s.laneTo l st).lane k = if k = l then { s.lane l with state := st } else s.lane k := by
  have hmark (t : State) (b : Bool) : (t.setArrayBit R.laneFailed l b).lane k = t.lane k := State.setArrayBit_lane _ _ _ _ _
  unfold State.laneTo
  dsimp only
  split
  · rw [hmark, State.lane_modLane]
  · rw [State.lane_congr (State.endScan_lanes _ _ _), hmark, State.lane_modLane]

/-! ## Failed lanes are left -/

/-- What a lane shows of its failure. -/
def Lane.failure (y : Lane) : LaneState × BitVec 4 := (y.state, y.cause)

/-- Every failed lane is as it was, its cause included. -/
def State.leavesFailed (s t : State) : Prop := ∀ l, (s.lane l).state = .failed → (t.lane l).failure = (s.lane l).failure

namespace State.leavesFailed

theorem refl (s : State) : s.leavesFailed s := fun _ _ => rfl

theorem of_lanes {s t : State} (h : t.lanes = s.lanes) : s.leavesFailed t := fun l _ => congrArg Lane.failure (State.lane_congr h l)

theorem trans {s t u : State} (h1 : s.leavesFailed t) (h2 : t.leavesFailed u) : s.leavesFailed u := fun l hl =>
  (h2 l ((congrArg Prod.fst (h1 l hl)).trans hl)).trans (h1 l hl)

theorem foldl {α : Type} {f : State → α → State} (hf : ∀ (t : State) a, t.leavesFailed (f t a)) (l : List α) (s : State) : s.leavesFailed (l.foldl f s) := by
  induction l generalizing s with
  | nil => exact refl s
  | cons a l ih => exact (hf s a).trans (ih (f s a))

theorem ite {s t u : State} {p : Prop} [Decidable p] (ht : s.leavesFailed t) (hu : s.leavesFailed u) : s.leavesFailed (if p then t else u) := by
  split
  · exact ht
  · exact hu

end State.leavesFailed

/-- Work on a lane that has not failed leaves those that have. -/
theorem State.leavesFailed_of_other {s t : State} {l : Nat} (hl : (s.lane l).state ≠ .failed) (h : ∀ k, k ≠ l → t.lane k = s.lane k) :
    s.leavesFailed t := fun k hk => congrArg Lane.failure (h k fun hkl => hl (hkl ▸ hk))

theorem State.laneOff_leavesFailed (s : State) (l : Nat) : s.leavesFailed (s.laneOff l) := by
  unfold State.laneOff
  split
  · exact .refl s
  · next hl =>
    refine State.leavesFailed_of_other hl fun k hk => ?_
    rw [State.lane_modLane, if_neg hk, State.lane_laneTo, if_neg hk]

theorem State.lanesOff_leavesFailed (s : State) (n : Nat) : s.leavesFailed (s.lanesOff n) :=
  .foldl (fun t k => t.laneOff_leavesFailed (9 * n + k)) _ s

theorem State.allLinksDown_leavesFailed (s : State) (cause : Nat) (before : List Cell) : s.leavesFailed (s.allLinksDown cause before) := by
  refine .foldl (fun t n => ?_) _ s
  dsimp only
  refine .ite (.refl t) ?_
  exact State.leavesFailed.trans (t := t.setLink n _) (.of_lanes rfl) (State.lanesOff_leavesFailed _ n)

theorem State.events_lanes (s : State) (ws : List Nat) (k : Nat) : (s.events ws k).lanes = s.lanes := State.agree_of_allBut .lanes (by simp)

theorem State.failStop_leavesFailed (s : State) (r : BitVec 256) : s.leavesFailed (s.failStop r) := by
  have hkeep (t : State) (x : Kpr) (y : Sec) : t.leavesFailed { t with kpr := x, sec := y } := .of_lanes rfl
  unfold State.failStop
  dsimp only
  generalize (List.map _ _) = cells
  exact (State.leavesFailed.of_lanes (s.events_lanes (List.range 16) 1)).trans ((State.allLinksDown_leavesFailed _ 6 cells).trans (hkeep _ _ _))

theorem State.recordFault_leavesFailed (s : State) (code unit count detail : Nat) : s.leavesFailed (s.recordFault code unit count detail) := by
  have hmark : (s.markFault code unit count detail).lanes = s.lanes :=
    (State.agree_of_allBut .lanes (by simp) : (s.logRecord (s.faultRecord code unit count detail)).lanes = s.lanes)
  have hevent (t : State) : (t.faultEvent code).lanes = t.lanes := by
    unfold State.faultEvent
    split
    · exact State.events_lanes _ _ _
    · rfl
  rw [State.recordFault_eq]
  refine (State.leavesFailed.of_lanes ((hevent _).trans hmark)).trans ?_
  unfold State.followFault
  dsimp only
  refine .ite (.ite (.refl _) (State.failStop_leavesFailed _ _)) (.ite (.of_lanes ?_) (.refl _))
  exact foldl_keeps State.lanes (f := fun t d => t.injectCell (t.mkCell 0x33 d 0 0 (recordPayload (s.faultRecord code unit count detail) t.nodeId)))
    (fun t d => rfl) _ _

theorem State.raiseFault_leavesFailed (s : State) (code unit count detail : Nat) : s.leavesFailed (s.raiseFault code unit count detail) := by
  have hrecord := s.recordFault_leavesFailed code unit count detail
  unfold State.raiseFault
  split
  · exact .ite (.refl s) hrecord
  · exact hrecord

/-! ## What raises and side work leave -/

/-- The state with its clock, registers, Keeper, switch and draws changed: what the side work of a fall of a link touches. -/
def State.sideWork (s : State) (r : Tab Word) (k : Kpr) (c : Clk) (w : Csw) (f : Nat) : State :=
  { s with regs := r, kpr := k, clk := c, csw := w, free := f }

/-- The registers of links below the counters of cells given up (Table 18-1). -/
def shownReg (off : Nat) : Prop := 0x800000 ≤ off ∧ off < 0x880000 ∧ off % 0x4000 < 0x44

theorem not_shownReg_of_ge {off : Nat} (h : 0x880000 ≤ off) : ¬ shownReg off := fun hshown => absurd hshown.2.1 (Nat.not_lt.mpr h)

theorem not_shownReg_link {n k : Nat} (hk : 0x44 ≤ k ∧ k < 0x4000) : ¬ shownReg (R.link n + k) := fun hshown => by
  have hlow := hshown.2.2
  unfold R.link at hlow
  omega

/-- A relation that side work and the raising of a fault's record keep. -/
structure Tolerates (Q : State → State → Prop) : Prop where
  trans : ∀ {s t u}, Q s t → Q t u → Q s u
  side : ∀ (s : State) r k c w f, (∀ off, shownReg off → tabGet (regReset off) r off = s.reg off) → Q s (s.sideWork r k c w f)
  raise : ∀ s code unit, code < 112 → Q s (s.raiseFault code unit 1 0)

theorem rel_ite {Q : State → State → Prop} {s t u : State} {p : Prop} [Decidable p] (ht : Q s t) (hu : Q s u) : Q s (if p then t else u) := by
  split
  · exact ht
  · exact hu

section Tolerated

variable {Q : State → State → Prop} (hQ : Tolerates Q)

include hQ

theorem Tolerates.sideParts (s : State) (k : Kpr) (c : Clk) (w : Csw) (f : Nat) : Q s (s.sideWork s.regs k c w f) := hQ.side s s.regs k c w f fun _ _ => rfl

theorem Tolerates.refl (s : State) : Q s s := hQ.sideParts s s.kpr s.clk s.csw s.free

theorem Tolerates.stamped (s : State) {off : Nat} (hoff : off < 0x7FFFF0) (v : Nat) (c : Clk) : Q s { s.setReg64 off v with clk := c } :=
  hQ.side s (s.setReg64 off v).regs s.kpr c s.csw s.free fun o ho => by
    have hfar := ho.1
    exact State.reg_setReg64_ne s v (by omega) (by omega)

theorem Tolerates.refreshSync (s : State) : Q s s.refreshSync := by
  unfold State.refreshSync
  dsimp only
  split
  · exact hQ.trans (hQ.stamped s (by decide) _ _) (hQ.raise _ 72 0xFFFF (by decide))
  · split
    · exact hQ.stamped s (by decide) _ _
    · exact hQ.sideParts s s.kpr _ s.csw s.free

theorem Tolerates.chooseParent (s : State) : Q s s.chooseParent := by
  have hend (c : Clk) (p : Prop) [Decidable p] :
      Q s (if p then ({ s with clk := c } : State).raiseFault 73 0xFFFF 1 0 else { s with clk := c }).refreshSync :=
    hQ.trans (hQ.trans (hQ.sideParts s s.kpr c s.csw s.free) (rel_ite (hQ.raise _ 73 0xFFFF (by decide)) (hQ.refl _))) (hQ.refreshSync _)
  have hsame (u : State) (hu : u = { s with clk := u.clk }) (p : Prop) [Decidable p] :
      Q s (if p then u.raiseFault 73 0xFFFF 1 0 else u).refreshSync := by
    rw [hu]
    exact hend _ _
  unfold State.chooseParent
  refine hsame _ ?_ _
  split
  · rfl
  · dsimp only
    split
    · split
      · rfl
      · rfl
    · split <;> rfl
    · rfl
    · rfl

theorem Tolerates.suspect (s : State) (node : Nat) : Q s (s.suspect node) := by
  unfold State.suspect
  split
  · exact hQ.refl s
  · exact hQ.sideParts s _ s.clk _ s.free

theorem Tolerates.leaveUp (s : State) (n : Nat) : Q s (s.leaveUp n) := by
  unfold State.leaveUp
  dsimp only
  have hlost (p : Prop) [Decidable p] : Q s (if p then s.suspect (s.rolePeer n) else s) := rel_ite (hQ.suspect _ _) (hQ.refl s)
  exact rel_ite (hQ.trans (hlost _) (hQ.chooseParent _)) (hlost _)

theorem Tolerates.injectCell (s : State) (y : Cell) : Q s (s.injectCell y) := hQ.sideParts s s.kpr s.clk (s.injectCell y).csw s.free

theorem Tolerates.bump (s : State) {off : Nat} (hoff : ¬ shownReg off) : Q s (s.bump off) :=
  hQ.side s (s.bump off).regs s.kpr s.clk s.csw s.free fun _ ho => State.reg_bump_ne s fun heq => hoff (heq.subst (motive := shownReg) ho)

theorem Tolerates.giveUpCell (s : State) (status reason n : Nat) (c : Cell) (unsent : Bool) (told : List (Nat × Nat)) :
    Q s (s.giveUpCell status reason n c unsent told).1 := by
  have hgiven : Q s (s.bump (R.link n + 0x44)) := hQ.bump s (not_shownReg_link (by decide))
  unfold State.giveUpCell
  dsimp only
  split
  · exact hgiven
  · split
    · exact hQ.trans hgiven (hQ.sideParts _ _ _ _ _)
    · split
      · exact hgiven
      · exact hQ.trans (hQ.trans hgiven (hQ.injectCell _ _)) (hQ.bump _ (not_shownReg_of_ge (by decide)))

theorem Tolerates.rerouteCell (s : State) (n : Nat) (c : Cell) (told : List (Nat × Nat)) : Q s (s.rerouteCell n c told).1 := by
  have hmoved : Q s (s.bump (R.link n + 0x48)) := hQ.bump s (not_shownReg_link (by decide))
  unfold State.rerouteCell
  dsimp only
  split
  · exact hQ.trans (hQ.trans hmoved (hQ.bump _ (not_shownReg_of_ge (by decide)))) (hQ.sideParts _ _ _ _ _)
  · split
    · exact hQ.giveUpCell _ _ _ _ _ _ _
    · exact hQ.trans (hQ.trans (hQ.trans hmoved (hQ.giveUpCell _ _ _ _ _ _ _)) (hQ.bump _ (not_shownReg_of_ge (by decide)))) (hQ.raise _ 18 n (by decide))

theorem Tolerates.foldl_fst {α β : Type} {f : State × β → α → State × β} (hf : ∀ (e : State × β) a, Q e.1 (f e a).1) (l : List α) (e : State × β) :
    Q e.1 (l.foldl f e).1 := by
  induction l generalizing e with
  | nil => exact hQ.refl e.1
  | cons a l ih => exact hQ.trans (hf e a) (ih (f e a))

end Tolerated

/-- A link whose cells to send are gone. -/
def emptied (x : Link) : Link := { x with txq := [], replay := [], held := [], floods := [] }

/-- What becomes of the cells of a link that goes down: those not yet sent are given up, the others find another way where there is one. -/
theorem State.dispose_eq (s : State) (n : Nat) : s.dispose n = ((s.link n).replay.foldl (fun e y => e.1.rerouteCell n y.cell e.2)
    (((s.link n).txq ++ (s.link n).floods).foldl (fun e c => e.1.giveUpCell 3 6 n c true e.2) (s.setLink n (emptied (s.link n)), []))).1 := rfl

/-- Behind the emptying of its queues a fall of a link is side work and raises. -/
theorem Tolerates.dispose {Q : State → State → Prop} (hQ : Tolerates Q) (s : State) (n : Nat) : Q (s.setLink n (emptied (s.link n))) (s.dispose n) := by
  rw [State.dispose_eq]
  refine hQ.trans ?_ (hQ.foldl_fst (fun e y => hQ.rerouteCell _ _ _ _) _ _)
  exact hQ.foldl_fst (f := fun e c => e.1.giveUpCell 3 6 n c true e.2) (fun e c => hQ.giveUpCell _ _ _ _ _ _ _) _
    (s.setLink n (emptied (s.link n)), [])

theorem tolerates_leavesFailed : Tolerates State.leavesFailed where
  trans := State.leavesFailed.trans
  side _ _ _ _ _ _ _ := .of_lanes rfl
  raise s code unit _ := s.raiseFault_leavesFailed code unit 1 0

/-! ## What a failure sets off -/

theorem State.wakeLane_leavesFailed (s : State) (l : Nat) : s.leavesFailed (s.wakeLane l) := by
  unfold State.wakeLane
  dsimp only
  split
  · next hgated =>
    refine State.leavesFailed_of_other (l := l) (fun hfailed => ?_) fun k hk => ?_
    · rw [State.setDomain_lane, hfailed] at hgated
      exact absurd hgated (by decide)
    · rw [State.lane_modLane, if_neg hk, State.lane_laneTo, if_neg hk, State.setDomain_lane]
  · exact .of_lanes (State.setDomain_lanes _ _ _)

theorem State.wakeLink_leavesFailed (s : State) (n : Nat) : s.leavesFailed (s.wakeLink n) := by
  unfold State.wakeLink
  dsimp only
  refine State.leavesFailed.trans (.of_lanes ?_) (.foldl (fun t k => t.wakeLane_leavesFailed (9 * n + k)) _ _)
  split
  · rw [State.setFld_lanes, State.setDomain_lanes]
  · exact State.setDomain_lanes _ _ _

theorem State.stopStream_lanes (s : State) (n : Nat) : (s.stopStream n).lanes = s.lanes := State.agree_of_allBut .lanes (by simp)

theorem State.acksFirst_lanes (s : State) (n : Nat) : (s.acksFirst n).lanes = s.lanes := State.agree_of_allBut .lanes (by simp)

/-- A new map moves working lanes only. -/
theorem State.applyMap_leavesFailed (s : State) (n : Nat) (ks : List Nat) : s.leavesFailed (s.applyMap n ks) := by
  have hfold : ∀ (js : List Nat) (t : State), (∀ k, k ∈ js → (t.lane (9 * n + k)).state ≠ .failed) →
      t.leavesFailed (js.foldl (fun u k => u.laneTo (9 * n + k) (if ks.contains k then .active else .standby)) t) := by
    intro js
    induction js with
    | nil => exact fun t _ => .refl t
    | cons j js ih =>
      intro t hjs
      have hstep : t.leavesFailed (t.laneTo (9 * n + j) (if ks.contains j then .active else .standby)) :=
        State.leavesFailed_of_other (hjs j List.mem_cons_self) fun k hk => by rw [State.lane_laneTo, if_neg hk]
      refine hstep.trans (ih _ fun k hk => ?_)
      rw [State.lane_laneTo]
      split
      · split <;> simp
      · exact hjs k (List.mem_cons_of_mem _ hk)
  unfold State.applyMap
  dsimp only
  refine State.leavesFailed.trans (.of_lanes (State.setReg_lanes _ _ _)) (hfold _ _ fun k hk => ?_)
  have hworks := (List.mem_filter.mp hk).2
  simpa [State.laneWorks] using hworks

theorem State.mapRecords_leavesFailed (s : State) (n : Nat) (old ks : List Nat) : s.leavesFailed (s.mapRecords n old ks) := by
  unfold State.mapRecords
  dsimp only
  have hspare : s.leavesFailed (if ks.contains 8 && ! old.contains 8 then s.raiseFault 8 n 1 0 else s) := .ite (s.raiseFault_leavesFailed _ _ _ _) (.refl s)
  exact .ite (hspare.trans (State.raiseFault_leavesFailed _ _ _ _ _)) hspare

theorem State.goDown_leavesFailed (s : State) (n cause : Nat) : s.leavesFailed (s.goDown n cause) := by
  have hset (t : State) (f : Link → Link) : t.leavesFailed (t.modLink n f) := .of_lanes rfl
  unfold State.goDown
  dsimp only
  refine .ite (.refl s) (.ite (.ite (.of_lanes rfl) (.refl s)) ?_)
  have hstart (p : Prop) [Decidable p] : s.leavesFailed (if p then (s.wakeLink n).acksFirst n else s.stopStream n) :=
    .ite ((s.wakeLink_leavesFailed n).trans (.of_lanes (State.acksFirst_lanes _ _))) (.of_lanes (State.stopStream_lanes _ _))
  have hdispose (t : State) : t.leavesFailed (t.dispose n) :=
    State.leavesFailed.trans (t := t.setLink n (emptied (t.link n))) (.of_lanes rfl) (tolerates_leavesFailed.dispose t n)
  have hdown (t : State) (f g : Link → Link) : t.leavesFailed ((((t.modLink n f).dispose n).lanesOff n).modLink n g |>.raiseFault 11 n 1 0) :=
    ((hset t f).trans (hdispose _)).trans ((State.lanesOff_leavesFailed _ _).trans
      ((hset _ g).trans (State.raiseFault_leavesFailed _ _ _ _ _)))
  exact .ite (((hstart _).trans (hdown _ _ _)).trans (tolerates_leavesFailed.leaveUp _ _)) ((hstart _).trans (hdown _ _ _))

theorem State.realign_leavesFailed (s : State) (n : Nat) : s.leavesFailed (s.realign n) := by
  have hset (t : State) (f : Link → Link) : t.leavesFailed (t.modLink n f) := .of_lanes rfl
  have hburst (t : State) (k : Nat) : t.leavesFailed (t.modLane k fun y => { y with burstAt := none }) := fun l _ => by
    rw [State.lane_modLane]
    split
    · next h => rw [h]; rfl
    · rfl
  unfold State.realign
  split
  · exact State.goDown_leavesFailed _ _ _
  · next w ks _ =>
    dsimp only
    have hwoken : s.leavesFailed ((s.wakeLink n).stopStream n) := (s.wakeLink_leavesFailed n).trans (.of_lanes (State.stopStream_lanes _ _))
    have hmapped (t : State) (f : Link → Link) : t.leavesFailed (((List.range 9).foldl (fun t k => t.modLane (9 * n + k) fun y =>
        { y with burstAt := none }) ((t.modLink n f).applyMap n ks)).mapRecords n (s.mapped n) ks) :=
      ((hset t f).trans (State.applyMap_leavesFailed _ _ _)).trans
        ((State.leavesFailed.foldl (fun u k => hburst u (9 * n + k)) _ _).trans (State.mapRecords_leavesFailed _ _ _ _))
    have hall := hwoken.trans (hmapped ((s.wakeLink n).stopStream n)
      fun x => { x with state := .realign, width := w, form := w, realignAt := s.now })
    exact .ite (hall.trans (tolerates_leavesFailed.leaveUp _ _)) hall

/-! ## A lane fails -/

theorem State.markFailed_failure (s : State) (l cause : Nat) : ((s.markFailed l cause).lane l).failure = (.failed, BitVec.ofNat 4 cause) := by
  unfold State.markFailed
  dsimp only
  rw [State.lane_modLane, if_pos rfl, State.bump_lane, State.lane_laneTo, if_pos rfl]
  rfl

/-- What follows the failure of a lane leaves failed lanes. -/
theorem State.failLane_leavesFailed {s : State} {l : Nat} (h : (s.lane l).state ≠ .failed) (cause : Nat) :
    (s.markFailed l cause).leavesFailed (s.failLane l cause) := by
  unfold State.failLane
  dsimp only
  rw [if_neg h]
  split
  · exact .ite (State.realign_leavesFailed _ _) (.refl _)
  · exact .ite (State.realign_leavesFailed _ _) (.refl _)
  · exact .ite (State.goDown_leavesFailed _ _ _) (.refl _)
  · exact .refl _

/-- A lane that has not failed fails with the cause. -/
theorem State.failLane_failure {s : State} {l : Nat} (h : (s.lane l).state ≠ .failed) (cause : Nat) :
    ((s.failLane l cause).lane l).failure = (.failed, BitVec.ofNat 4 cause) := by
  have hmark := s.markFailed_failure l cause
  exact (State.failLane_leavesFailed h cause l (congrArg Prod.fst hmark)).trans hmark

/-- However it stood, the lane has failed. -/
theorem State.failLane_failed (s : State) (l cause : Nat) : ((s.failLane l cause).lane l).state = .failed := by
  by_cases h : (s.lane l).state = .failed
  · unfold State.failLane
    rw [if_pos h, State.lane_modLane, if_pos rfl]
    unfold Lane.alsoFails
    split
    · split <;> exact h
    · exact h
  · exact congrArg Prod.fst (State.failLane_failure h cause)

end Sys2Proof.Machine
end

section
/-! Failures of lanes (R95, R112 to R116, R120). -/

namespace Sys2Proof.Machine

/-! ## Registers and requests -/

theorem State.toNat_reg_bumpBy_self (s : State) (off n : Nat) : ((s.bumpBy off n).reg off).toNat = min ((s.reg off).toNat + n) 0xFFFFFFFF := by
  rw [State.reg_bumpBy_self, BitVec.toNat_ofNat]
  omega

/-- A request of a fabric manager's that the Script holds no input of. -/
theorem State.fmReg_acts {s : State} {a off : Nat} (hfm : s.srcFm a = true) (hfree : s.script.holdInput = false) (v : Word) (f : State → State) :
    s.fmReg a off v f = f (s.journalReg a off v) := by
  unfold State.fmReg State.fmWrite State.unlessHeld
  rw [if_pos hfm]
  exact if_neg (by simp [hfree])

/-- A lane that has not failed shows, once it fails, FAILED and its cause. -/
theorem State.failLane_shows {s : State} {l : Nat} {n : Nat} {c : BitVec 4} (h : (s.lane l).state ≠ .failed) (hc : BitVec.ofNat 4 n = c) :
    ((s.failLane l n).lane l).state = .failed ∧ ((s.failLane l n).lane l).cause = c :=
  ⟨State.failLane_failed s l n, (congrArg Prod.snd (State.failLane_failure h n)).trans hc⟩

/-! ## Signal, lock and codewords -/

theorem Lane.criteria_quiet {y : Lane} (h : y.signal = false) : y.criteria = false := by
  simp [Lane.criteria, h]

/-- A LOCKED lane that no longer meets the criteria trains again. -/
theorem State.judgeLock_unlocks {s : State} {l : Nat} (hlocked : (s.lane l).state = .locked) (hnot : (s.lane l).criteria = false) :
    (s.judgeLock l).lane l = { s.lane l with state := .training, rxLock := false } := by
  unfold State.judgeLock
  dsimp only
  rw [if_neg (by simp [hlocked]), if_pos (by simp [hlocked, hnot]), State.lane_modLane, if_pos rfl, State.lane_laneTo, if_pos rfl]

/-- The uncorrectable codewords of the last millisecond, the new one included (R114). -/
def State.recentUncorr (s : State) (l : Nat) : List Nat := (s.lane l).uncorr.filter (fun t => decide (s.now < t + 1000000)) ++ [s.now]

/-- The state behind an uncorrectable codeword, but for the lane's failure. -/
def State.uncorrCounted (s : State) (l : Nat) : State := (s.bump (R.lane l + 0x20)).modLane l fun y => { y with uncorr := s.recentUncorr l }

theorem State.countWord_none (s : State) (l : Nat) : s.countWord l none =
    if (s.lane l).state = .active ∧ s.fld R.laneCfg 8 10 < (s.recentUncorr l).length then (s.uncorrCounted l).failLane l 6 else s.uncorrCounted l := by
  have hstate : ((s.uncorrCounted l).lane l).state = (s.lane l).state := by
    unfold State.uncorrCounted
    rw [State.lane_modLane, if_pos rfl, State.bump_lane]
  have hfld : (s.uncorrCounted l).fld R.laneCfg 8 10 = s.fld R.laneCfg 8 10 :=
    congrArg (fun w => bits w 8 10) (State.reg_bump_ne s (show R.laneCfg ≠ R.lane l + 0x20 by simp only [R.laneCfg, R.lane]; omega))
  rw [← hstate, ← hfld]
  rfl

theorem State.uncorrCounted_lane (s : State) (l k : Nat) :
    (s.uncorrCounted l).lane k = if k = l then { s.lane l with uncorr := s.recentUncorr l } else s.lane k := by
  unfold State.uncorrCounted
  rw [State.lane_modLane, State.bump_lane, State.bump_lane]

theorem State.uncorrCounted_reg (s : State) (l off : Nat) : (s.uncorrCounted l).reg off = (s.bump (R.lane l + 0x20)).reg off := rfl

theorem exec_fecLimit (l : LaneIx) (w : BitVec 2720) (s : State) :
    exec (.fecLimit l w []) s = .next (s.countWord l ((rsDecode (fromPins (s.rxInvert l) w)).map fun r => r.2)) := rfl

theorem State.countWord_some (s : State) (l k : Nat) : (s.countWord l (some k)).lanes = s.lanes ∧
    ((s.countWord l (some k)).reg (R.lane l + 0x1C)).toNat = min ((s.reg (R.lane l + 0x1C)).toNat + k) 0xFFFFFFFF ∧
    (s.countWord l (some k)).reg (R.lane l + 0x20) = s.reg (R.lane l + 0x20) := by
  unfold State.countWord
  dsimp only
  split
  · next hk =>
    have hlt := (s.reg (R.lane l + 0x1C)).isLt
    exact ⟨rfl, by rw [hk, Nat.min_eq_left (by omega)]; rfl, rfl⟩
  · exact ⟨rfl, State.toNat_reg_bumpBy_self _ _ _, State.reg_bumpBy_ne _ _ (by omega)⟩

/-! ## FORCE_FAIL and CLEAR_FAIL -/

theorem State.laneClearFail_cases {s : State} {l : Nat} (hrun : s.running = true) (hfailed : (s.lane l).state = .failed) :
    ((s.lane l).failedAt ≠ some s.clk.count → ((s.laneClearFail l).lane l).state = .off ∧ ((s.laneClearFail l).lane l).cause = 0) ∧
    ((s.lane l).failedAt = some s.clk.count → ((s.laneClearFail l).lane l).state = .failed) := by
  unfold State.laneClearFail
  dsimp only
  rw [if_neg (by simp [hrun, hfailed])]
  refine ⟨fun hearlier => ?_, fun hnow => ?_⟩
  · rw [if_neg hearlier, State.lane_modLane, if_pos rfl, State.lane_laneTo, if_pos rfl]
    exact ⟨rfl, rfl⟩
  · rw [if_pos hnow]
    split
    · exact hfailed
    · rw [State.lane_modLane, if_pos rfl, State.bump_lane]
      exact hfailed

theorem exec_lanes_of_request {a : Source} {l : LaneIx} {s : State} (hfm : s.srcFm a = true) (hfree : s.script.holdInput = false) :
    exec (.forceFail a l) s = .next ((s.journalReg a (R.lane l + 4) 1).laneForceFail l) ∧
    exec (.clearFail a l) s = .next ((s.journalReg a (R.lane l + 4) 2).laneClearFail l) :=
  ⟨congrArg Host.Outcome.next (State.fmReg_acts hfm hfree 1 _), congrArg Host.Outcome.next (State.fmReg_acts hfm hfree 2 _)⟩

/-- Settles O22: each row fails its lane by the one function that takes a lane to FAILED, which nothing that follows undoes. -/
theorem laneFailuresFailTheLane : Obligations.LaneFailuresFailTheLane := by
  refine ⟨?_, ?_, ?_, ?_, ?_, ?_, ?_, ?_, ?_⟩
  · intro l s hsignal hquiet hidle hoff hgated hfailed
    have hexec : exec (.los l) s = .next ((s.modLane l fun z => { z with signal := false }).failLane l 4) := by
      change execLos l s = _
      unfold execLos
      dsimp only
      rw [if_pos (by simp [hsignal, hquiet, hidle, hoff, hgated])]
    exact ⟨_, hexec, State.failLane_shows (by rwa [State.lane_modLane, if_pos rfl]) rfl⟩
  · intro l s hquiet hlocked
    have hlane : (s.modLane l fun z => { z with signal := false }).lane l = { s.lane l with signal := false } := by
      rw [State.lane_modLane, if_pos rfl]
    have hjudged := State.judgeLock_unlocks (s := s.modLane l fun z => { z with signal := false }) (l := l) (by rw [hlane]; exact hlocked)
      (by rw [hlane]; exact Lane.criteria_quiet rfl)
    have hexec : exec (.los l) s = .next ((s.modLane l fun z => { z with signal := false }).judgeLock l) := by
      change execLos l s = _
      unfold execLos
      dsimp only
      rw [if_neg (by simp [hquiet]), if_pos hquiet, if_pos (.inr hlocked)]
    rw [hlane] at hjudged
    exact ⟨_, hexec, by rw [hjudged], by rw [hjudged], by rw [hjudged]⟩
  · intro l s hactive
    exact ⟨_, if_pos hactive, State.failLane_shows (by simp [hactive]) rfl⟩
  · intro l w s hdecode
    have hexec := exec_fecLimit l w s
    rw [hdecode, Option.map_none, State.countWord_none] at hexec
    have hcount : (s.recentUncorr l).length = ((s.lane l).uncorr.filter fun x => decide (s.now < x + 1000000)).length + 1 := by
      simp [State.recentUncorr]
    refine ⟨_, hexec, fun hactive hmany => ?_, fun hfew => ?_⟩
    · rw [if_pos ⟨hactive, by rw [hcount]; exact hmany⟩]
      exact State.failLane_shows (by rw [State.uncorrCounted_lane, if_pos rfl]; simp [hactive]) rfl
    · rw [if_neg (by rw [hcount]; rintro ⟨h1, h2⟩; rcases hfew with h | h <;> [exact h h1; omega])]
      refine ⟨by rw [State.uncorrCounted_lane, if_pos rfl], ?_, fun k hk => by rw [State.uncorrCounted_lane, if_neg hk]⟩
      rw [State.uncorrCounted_reg]
      exact State.toNat_reg_bump_self _ _
  · intro l w r s hdecode
    have hexec := exec_fecLimit l w s
    rw [hdecode] at hexec
    exact ⟨_, hexec, s.countWord_some l r.2⟩
  · intro l s hstandby hidle
    have hchecked : (s.lane l).checked = true := by simp [Lane.checked, hstandby, hidle]
    have hexec : exec (.standbyCheck l) s = .next (if (s.lane l).checkFails then s.failLane l 9 else s) := by
      change execStandbyCheck l s = _
      unfold execStandbyCheck
      rw [hchecked, Bool.true_and, ← apply_ite Host.Outcome.next]
    refine ⟨_, hexec, fun hfails => ?_, fun hpasses => if_neg (by simp [hpasses])⟩
    rw [if_pos hfails]
    exact State.failLane_shows (by simp [hstandby]) rfl
  · intro l w s hstate hwoke hsignal
    have hexec : exec (.wakeFailure l) s = .next (if w + 2000 ≤ s.now then s.failLane l 8 else s) := by
      change execWakeFailure l s = _
      unfold execWakeFailure
      dsimp only
      rw [hwoke]
      simp only [hsignal, hstate, Bool.false_eq_true, not_false_eq_true, and_true, apply_ite Host.Outcome.next]
    refine ⟨_, hexec, fun hlate => ?_, fun hearly => if_neg (by omega)⟩
    rw [if_pos hlate]
    exact State.failLane_shows (by rcases hstate with h | h <;> simp [h]) rfl
  · intro a l s hfm hfree
    refine ⟨_, (exec_lanes_of_request hfm hfree).1, fun hrun => ?_⟩
    rw [State.laneForceFail, if_pos hrun]
    exact ⟨State.failLane_failed _ _ _, fun hnot => (State.failLane_shows hnot rfl).2⟩
  · intro a l s hfm hfree
    exact ⟨_, (exec_lanes_of_request hfm hfree).2, fun hrun hfailed => State.laneClearFail_cases hrun hfailed⟩

end Sys2Proof.Machine
end

section
/-! Training and lock (R88, R91 to R98). -/

namespace Sys2Proof.Machine

/-! ## The judgement of lock -/

theorem State.judgeLock_waits {s : State} {l : Nat} (htrains : (s.lane l).state = .training) (hnot : (s.lane l).criteria = false) :
    s.judgeLock l = s := by
  unfold State.judgeLock
  dsimp only
  rw [if_neg (by simp [hnot]), if_neg (by simp [htrains]), if_neg (by simp [Lane.checked, htrains])]

theorem State.judgeLock_off {s : State} {l : Nat} (h : (s.lane l).state = .off) : s.judgeLock l = s := by
  unfold State.judgeLock
  dsimp only
  rw [if_neg (by simp [h]), if_neg (by simp [h]), if_neg (by simp [Lane.checked, h])]

/-- A training lane that meets the criteria locks, and carries the link at once where the peer has locked too. -/
theorem State.judgeLock_locks {s : State} {l : Nat} (htrains : (s.lane l).state = .training) (hmet : (s.lane l).criteria = true) :
    ((s.judgeLock l).lane l).rxLock = true ∧ ((s.judgeLock l).lane l).state =
      (if (s.lane l).remoteLock then (if l % 9 = 8 then .standby else .active) else .locked) := by
  have hjudged : s.judgeLock l =
      ((s.laneTo l .locked).modLane l fun z => { z with rxLock := true, lockedAt := z.lockedAt.or (some s.now) }).laneReady l := if_pos ⟨htrains, hmet⟩
  have hlane : ((s.laneTo l .locked).modLane l fun z => { z with rxLock := true, lockedAt := z.lockedAt.or (some s.now) }).lane l =
      { s.lane l with state := .locked, rxLock := true, lockedAt := (s.lane l).lockedAt.or (some s.now) } := by
    rw [State.lane_modLane, if_pos rfl, State.lane_laneTo, if_pos rfl]
  rw [hjudged]
  unfold State.laneReady
  dsimp only
  rw [hlane]
  by_cases hremote : (s.lane l).remoteLock = true
  · rw [if_pos ⟨rfl, hremote⟩, if_pos hremote, State.lane_laneTo, if_pos rfl, hlane]
    exact ⟨rfl, rfl⟩
  · rw [if_neg (by simp [hremote]), if_neg hremote, hlane]
    exact ⟨rfl, rfl⟩

/-- A lane that trains or has locked and that does not meet the criteria trains on, without a lock. -/
theorem State.judgeLock_unmet {s : State} {l : Nat} (hnot : (s.lane l).criteria = false) :
    ((s.lane l).state = .training → (s.judgeLock l).lane l = s.lane l) ∧
    ((s.lane l).state = .locked → (s.judgeLock l).lane l = { s.lane l with state := .training, rxLock := false }) :=
  ⟨fun h => by rw [State.judgeLock_waits h hnot], fun h => State.judgeLock_unlocks h hnot⟩

/-! ## Frames -/

theorem Lane.criteria_of_frameRun {y : Lane} (h : y.frameRun = 0) : y.criteria = false := by
  simp [Lane.criteria, h]

theorem Lane.criteria_of_frames {y : Lane} (h : y.frames = 0) : y.criteria = false := by
  simp [Lane.criteria, h, patternFrames]

theorem Lane.frameSeen_good (y : Lane) (f : BitVec 2048) (notice : Nat) : (y.frameSeen f true notice).frameRun = y.frameRun + 1 ∧
    (y.frameSeen f true notice).state = y.state ∧ (y.frameSeen f true notice).signal = y.signal ∧ (y.frameSeen f true notice).ppm = y.ppm := by
  unfold Lane.frameSeen
  simp only [if_true, Bool.true_and]
  split <;> exact ⟨rfl, rfl, rfl, rfl⟩

theorem Lane.track_fields (y : Lane) (p : BitVec 16) : (y.track p).state = y.state ∧ (y.track p).signal = y.signal ∧ (y.track p).frameRun = y.frameRun ∧
    (y.frozen = false → (y.track p).ppm = p) := by
  unfold Lane.track
  split
  · next h => exact ⟨rfl, rfl, rfl, fun hfree => by simp [hfree] at h⟩
  · exact ⟨rfl, rfl, rfl, fun _ => rfl⟩

/-- The lane behind a frame that has its marker, before its header is read. -/
def Lane.frameTaken (y : Lane) (now : Nat) (p : BitVec 16) (f : BitVec 2048) (good : Bool) : Lane :=
  ((y.hasSignal now).track p).frameSeen f good (bits (frameHeader f) 5 3)

/-- A good frame on an OFF lane is applied, and the lane stays OFF. -/
theorem State.applyFrame_off {s : State} {l : Nat} {f : BitVec 2048} (hgood : headerGood (frameHeader f) = true) (hoff : (s.lane l).state = .off)
    (p : BitVec 16) (k : Nat) : (s.applyFrame l f p).lane k =
      if k = l then ((s.lane l).frameTaken s.now p f true).header (l % 9) (frameHeader f) else s.lane k := by
  have hlane (j : Nat) : ((s.modLane l fun y => y.frameTaken s.now p f true).modLane l fun y => y.header (l % 9) (frameHeader f)).lane j =
      if j = l then ((s.lane l).frameTaken s.now p f true).header (l % 9) (frameHeader f) else s.lane j := by
    rw [State.lane_modLane, State.lane_modLane, State.lane_modLane, if_pos rfl]
    split <;> rfl
  have hstate : (((s.modLane l fun y => y.frameTaken s.now p f true).modLane l fun y => y.header (l % 9) (frameHeader f)).lane l).state = .off := by
    rw [hlane, if_pos rfl]
    exact ((Lane.frameSeen_good _ _ _).2.1.trans (Lane.track_fields _ _).1).trans hoff
  have happly : s.applyFrame l f p = (s.modLane l fun y => y.frameTaken s.now p f true).modLane l fun y => y.header (l % 9) (frameHeader f) := by
    unfold State.applyFrame
    dsimp only
    rw [hgood, if_pos rfl]
    unfold State.applyHeader
    dsimp only
    exact (congrArg (fun u : State => u.judgeLock l) (if_pos (.inl hstate))).trans (State.judgeLock_off hstate)
  rw [happly, hlane]

/-- A frame whose header is not good breaks the run, and a lane that trains or has locked is left to train. -/
theorem State.applyFrame_bad {s : State} {l : Nat} {f : BitVec 2048} (hbad : headerGood (frameHeader f) = false) (p : BitVec 16) :
    ((s.lane l).state = .training → ((s.applyFrame l f p).lane l).state = .training ∧ ((s.applyFrame l f p).lane l).badHeader = true ∧
      ((s.applyFrame l f p).lane l).frameRun = 0) ∧
    ((s.lane l).state = .locked → ((s.applyFrame l f p).lane l).state = .training ∧ ((s.applyFrame l f p).lane l).rxLock = false ∧
      ((s.applyFrame l f p).lane l).badHeader = true) := by
  have happly : s.applyFrame l f p = ((s.modLane l fun y => y.frameTaken s.now p f false).modLane l fun y => { y with badHeader := true }).judgeLock l := by
    unfold State.applyFrame
    dsimp only
    rw [hbad]
    rfl
  have hlane : ((s.modLane l fun y => y.frameTaken s.now p f false).modLane l fun y => { y with badHeader := true }).lane l =
      { (s.lane l).frameTaken s.now p f false with badHeader := true } := by
    rw [State.lane_modLane, if_pos rfl, State.lane_modLane, if_pos rfl]
  have hstate : ((s.lane l).frameTaken s.now p f false).state = (s.lane l).state := (Lane.track_fields _ _).1
  obtain ⟨htrains, hlocked⟩ := State.judgeLock_unmet (l := l)
    (s := (s.modLane l fun y => y.frameTaken s.now p f false).modLane l fun y => { y with badHeader := true })
    (by rw [hlane]; exact Lane.criteria_of_frameRun rfl)
  rw [happly]
  rw [hlane] at htrains hlocked
  refine ⟨fun h => ?_, fun h => ?_⟩
  · rw [htrains (hstate.trans h)]
    exact ⟨hstate.trans h, rfl, rfl⟩
  · rw [hlocked (hstate.trans h)]
    exact ⟨rfl, rfl, rfl⟩

theorem exec_trainingFrameRx_good {l : LaneIx} {f : BitVec 2048} {s : State} (hmarker : 56 ≤ markerHits (fromPins (s.rxInvert l) f))
    (hcall : (s.lane l).callDone = false) (p : BitVec 16) :
    exec (.trainingFrameRx l f p) s = .next (s.applyFrame l (fromPins (s.rxInvert l) f) p) := by
  change execTrainingFrameRx l f p s = _
  unfold execTrainingFrameRx
  dsimp only
  rw [if_neg (by omega), if_neg (by simp [hcall])]

/-- The lane behind a frame without its marker. -/
def Lane.frameMissed (y : Lane) (f : BitVec 2048) : Lane := if y.frames = 0 then y else y.frameSeen f false 0

theorem Lane.frameMissed_unmet (y : Lane) (f : BitVec 2048) : (y.frameMissed f).criteria = false ∧ (y.frameMissed f).state = y.state ∧
    (y.frames ≠ 0 → (y.frameMissed f).frameRun = 0) := by
  unfold Lane.frameMissed
  split
  · next h => exact ⟨Lane.criteria_of_frames h, rfl, fun hne => absurd h hne⟩
  · exact ⟨Lane.criteria_of_frameRun rfl, rfl, fun _ => rfl⟩

theorem exec_trainingFrameRx_missed {l : LaneIx} {f : BitVec 2048} {s : State} (hmarker : markerHits (fromPins (s.rxInvert l) f) < 56) (p : BitVec 16) :
    exec (.trainingFrameRx l f p) s = .next ((s.modLane l fun y => y.frameMissed (fromPins (s.rxInvert l) f)).judgeLock l) := by
  change execTrainingFrameRx l f p s = _
  unfold execTrainingFrameRx
  dsimp only
  rw [if_pos hmarker]
  rfl

theorem exec_trainTimeout {l : LaneIx} {from0 : Nat} {s : State} (hstate : (s.lane l).state = .training ∨ (s.lane l).state = .locked)
    (hfrom : s.trainFrom l = some from0) : exec (.trainTimeout l) s =
      .next (if from0 + s.fld R.laneCfg 0 8 * 10000 ≤ s.now then s.failLane l 2 else s) := by
  change execTrainTimeout l s = _
  unfold execTrainTimeout
  dsimp only
  rw [if_pos hstate, hfrom]
  exact (apply_ite Host.Outcome.next _ _ _).symm

/-- Settles O21: what a frame leaves of the criteria decides the lock. -/
theorem lanesTrainAndLock : Obligations.LanesTrainAndLock := by
  refine ⟨?_, ?_, ?_, ?_, ?_, ?_, ?_⟩
  · intro l f p s hmarker hgood hcall hoff
    have hlane := State.applyFrame_off hgood hoff p
    obtain ⟨hrun, hstate, hsignal, hppm⟩ := Lane.frameSeen_good (((s.lane l).hasSignal s.now).track p) (fromPins (s.rxInvert l) f)
      (bits (frameHeader (fromPins (s.rxInvert l) f)) 5 3)
    obtain ⟨htstate, htsignal, htrun, htppm⟩ := Lane.track_fields ((s.lane l).hasSignal s.now) p
    refine ⟨_, exec_trainingFrameRx_good hmarker hcall p, ?_, ?_, ?_, ?_, fun hfree => ?_, ?_, fun k hk => by rw [hlane, if_neg hk]⟩ <;>
      rw [hlane, if_pos rfl]
    · rfl
    · rfl
    · exact hsignal.trans htsignal
    · exact hrun.trans (congrArg (· + 1) htrun)
    · exact hppm.trans (htppm hfree)
    · exact (hstate.trans htstate).trans hoff
  · intro l f p s hmarker
    obtain ⟨hunmet, hstate, hrun⟩ := (s.lane l).frameMissed_unmet (fromPins (s.rxInvert l) f)
    have hlane : (s.modLane l fun y => y.frameMissed (fromPins (s.rxInvert l) f)).lane l = (s.lane l).frameMissed (fromPins (s.rxInvert l) f) := by
      rw [State.lane_modLane, if_pos rfl]
    obtain ⟨htrains, hlocked⟩ := State.judgeLock_unmet (l := l) (s := s.modLane l fun y => y.frameMissed (fromPins (s.rxInvert l) f))
      (by rw [hlane]; exact hunmet)
    rw [hlane] at htrains hlocked
    refine ⟨_, exec_trainingFrameRx_missed hmarker p, fun h hframes => ?_, fun h => ?_⟩
    · rw [htrains (hstate.trans h)]
      exact ⟨hstate.trans h, hrun hframes⟩
    · rw [hlocked (hstate.trans h)]
      exact ⟨rfl, rfl⟩
  · intro l f p s hmarker hbad hcall
    exact ⟨_, exec_trainingFrameRx_good hmarker hcall p, State.applyFrame_bad hbad p⟩
  · intro l s htrains hsignal hruns hframes hpattern
    have hlane : (s.modLane l fun y => { y with loop := true }).lane l = { s.lane l with loop := true } := by
      rw [State.lane_modLane, if_pos rfl]
    obtain ⟨hlock, hstate⟩ := State.judgeLock_locks (s := s.modLane l fun y => { y with loop := true }) (l := l) (by rw [hlane]; exact htrains)
      (by rw [hlane]; simp only [Lane.patternSum] at hpattern; simp [Lane.criteria, Lane.patternSum, hsignal, hruns, hframes, hpattern])
    rw [hlane] at hstate
    exact ⟨_, rfl, hlock, hstate⟩
  · intro l s htrains hnot
    have hlane : (s.modLane l fun y => { y with loop := true }).lane l = { s.lane l with loop := true } := by
      rw [State.lane_modLane, if_pos rfl]
    refine ⟨_, rfl, ?_⟩
    rw [State.judgeLock_waits (by rw [hlane]; exact htrains), hlane]
    · exact htrains
    · rw [hlane]
      refine Bool.eq_false_iff.mpr fun hmet => hnot ?_
      simp only [Lane.criteria, Bool.and_eq_true, decide_eq_true_eq] at hmet
      obtain ⟨⟨⟨⟨hsignal, -⟩, hruns⟩, hframes⟩, hpattern⟩ := hmet
      exact ⟨hsignal, hruns, hframes, hpattern⟩
  · intro l s hlocked
    have hlane : (s.modLane l fun y => { y with loop := false }).lane l = { s.lane l with loop := false } := by
      rw [State.lane_modLane, if_pos rfl]
    have hjudged := State.judgeLock_unlocks (s := s.modLane l fun y => { y with loop := false }) (l := l) (by rw [hlane]; exact hlocked)
      (by rw [hlane]; simp [Lane.criteria])
    exact ⟨_, rfl, by rw [hjudged], by rw [hjudged]⟩
  · intro l from0 s hstate hfrom
    refine ⟨_, exec_trainTimeout hstate hfrom, fun hdue => ?_, fun hearly => if_neg (by omega)⟩
    rw [if_pos hdue]
    exact State.failLane_shows (by rcases hstate with h | h <;> simp [h]) rfl

end Sys2Proof.Machine
end

section
/-! Electrical idle, signal detection and the burst (R108 to R111, R121, R125). -/

namespace Sys2Proof.Machine

/-! ## The nine lanes of a link -/

/-- A change to some lanes of a link, one by one, changes each of them once. -/
theorem State.lane_modLanes (s : State) (n : Nat) (f : Lane → Lane) {ks : List Nat} (hks : ks.Nodup) (j : Nat) :
    (ks.foldl (fun t k => t.modLane (9 * n + k) f) s).lane j = if j ∈ ks.map (fun k => 9 * n + k) then f (s.lane j) else s.lane j := by
  induction ks generalizing s with
  | nil => simp
  | cons k ks ih =>
    obtain ⟨hk, hrest⟩ := List.nodup_cons.mp hks
    rw [List.foldl_cons, ih _ hrest, State.lane_modLane]
    by_cases hj : j = 9 * n + k
    · subst hj
      simp [hk]
    · simp [hj]

theorem mem_laneIndices (n j : Nat) : j ∈ (List.range 9).map (fun k => 9 * n + k) ↔ j / 9 = n := by
  simp only [List.mem_map, List.mem_range]
  exact ⟨by omega, fun h => ⟨j % 9, by omega⟩⟩

/-! ## Idle transmitters -/

/-- A transmitter that falls quiet (R108). -/
def Lane.quieted (y : Lane) (now : Nat) : Lane :=
  if y.carriesLink && ! y.txIdle then { y with txIdle := true, sentNotice := 1, sentCount := 1, idleAt := now } else y

theorem State.stopStream_txPos (s : State) (n : Nat) : ((s.stopStream n).link n).txPos = 0 := by
  unfold State.stopStream
  dsimp only
  split
  · assumption
  · rw [State.link_modLink, if_pos rfl]

theorem State.linkIdles_shows (s : State) (n : Nat) : ((s.linkIdles n).link n).txPos = 0 ∧
    ∀ k, k < 9 → (s.linkIdles n).lane (9 * n + k) = (s.lane (9 * n + k)).quieted s.now := by
  have hlinks (t : State) : ((List.range 9).foldl (fun t k => t.modLane (9 * n + k) fun y => y.quieted s.now) t).links = t.links :=
    foldl_keeps State.links (f := fun t k => t.modLane (9 * n + k) fun y => y.quieted s.now) (fun t k => rfl) _ _
  refine ⟨(congrArg Link.txPos (State.link_congr (hlinks _) n)).trans (s.stopStream_txPos n), fun k hk => ?_⟩
  refine (State.lane_modLanes _ n (fun y => y.quieted s.now) List.nodup_range _).trans ?_
  rw [if_pos ((mem_laneIndices _ _).mpr (by omega)), State.lane_congr (s.stopStream_lanes n)]

theorem execTxIdleEnter_of_due {l : LaneIx} {s : State} (hcarries : (s.lane l).carriesLink = true) (hup : (s.link (l.val / 9)).state = .up)
    (hon : s.fld R.laneCfg 18 10 ≠ 0) (hdue : (s.link (l.val / 9)).lastSend + s.fld R.laneCfg 18 10 * 10 ≤ s.now) :
    execTxIdleEnter l s = .next (if (s.link (l.val / 9)).hasToSend then s else s.linkIdles (l.val / 9)) := by
  unfold execTxIdleEnter
  simp only [hcarries, hup, hon, hdue, ne_eq, not_false_eq_true, and_true, true_and]
  cases (s.link (l.val / 9)).hasToSend <;> rfl

/-! ## Signal and the burst -/

/-- Waking a lane changes neither its signal nor its receiver's idle. -/
theorem State.wakeLane_signal (s : State) (l k : Nat) : ((s.wakeLane l).lane k).signal = (s.lane k).signal ∧
    ((s.wakeLane l).lane k).rxIdle = (s.lane k).rxIdle := by
  unfold State.wakeLane
  dsimp only
  split
  · rw [State.lane_modLane, State.lane_laneTo, State.lane_laneTo, if_pos rfl]
    split
    · next h => rw [h, State.setDomain_lane]; exact ⟨rfl, rfl⟩
    · rw [State.setDomain_lane]; exact ⟨rfl, rfl⟩
  · rw [State.setDomain_lane]; exact ⟨rfl, rfl⟩

theorem State.wakeLink_signal (s : State) (n k : Nat) : ((s.wakeLink n).lane k).signal = (s.lane k).signal ∧
    ((s.wakeLink n).lane k).rxIdle = (s.lane k).rxIdle := by
  have hfold (js : List Nat) (t : State) : ((js.foldl (fun u j => u.wakeLane (9 * n + j)) t).lane k).signal = (t.lane k).signal ∧
      ((js.foldl (fun u j => u.wakeLane (9 * n + j)) t).lane k).rxIdle = (t.lane k).rxIdle := by
    induction js generalizing t with
    | nil => exact ⟨rfl, rfl⟩
    | cons j js ih =>
      obtain ⟨hsignal, hidle⟩ := t.wakeLane_signal (9 * n + j) k
      exact ⟨(ih _).1.trans hsignal, (ih _).2.trans hidle⟩
  unfold State.wakeLink
  dsimp only
  have hstart : (if s.domain (288 + n) == .gated then
      (s.setDomain (288 + n) .running).setFld R.kprDomain 16 8 (min 255 ((s.setDomain (288 + n) .running).fld R.kprDomain 16 8 + 1))
      else s.setDomain (288 + n) .running).lanes = s.lanes := by
    split
    · rw [State.setFld_lanes, State.setDomain_lanes]
    · exact State.setDomain_lanes _ _ _
  have hlane := State.lane_congr hstart k
  rw [(hfold _ _).1, (hfold _ _).2, hlane]
  exact ⟨rfl, rfl⟩

/-- A detected signal ends the receiver's idle, and the lane runs. -/
theorem exec_signalDetect (l : LaneIx) (s : State) : ∃ t, exec (.signalDetect l) s = .next t ∧ (t.lane l).signal = true ∧
    (t.lane l).rxIdle = false ∧ t.domain l = .running := by
  change ∃ t, execSignalDetect l s = .next t ∧ _
  have hlane : (s.modLane l fun y => { y.hasSignal s.now with rxIdle := false }).lane l = { (s.lane l).hasSignal s.now with rxIdle := false } := by
    rw [State.lane_modLane, if_pos rfl]
  unfold execSignalDetect
  dsimp only
  generalize s.modLane l (fun y => { y.hasSignal s.now with rxIdle := false }) = u at hlane ⊢
  split
  · next hdomain => exact ⟨_, rfl, by rw [hlane]; rfl, by rw [hlane], hdomain⟩
  · exact ⟨_, rfl, by rw [State.setDomain_lane, hlane]; rfl, by rw [State.setDomain_lane, hlane], State.setDomain_domain_self _ _ _⟩
  · have hwoken (t : State) (ht : (t.lane l).signal = (u.lane l).signal ∧ (t.lane l).rxIdle = (u.lane l).rxIdle) :
        ((t.wakeLane l).lane l).signal = true ∧ ((t.wakeLane l).lane l).rxIdle = false ∧ (t.wakeLane l).domain l = .running := by
      obtain ⟨hsignal, hidle⟩ := t.wakeLane_signal l l
      rw [hsignal, hidle, ht.1, ht.2, hlane, State.wakeLane_domain, if_pos rfl]
      exact ⟨rfl, rfl, rfl⟩
    split
    · exact ⟨_, rfl, hwoken _ (State.wakeLink_signal _ _ _)⟩
    · exact ⟨_, rfl, hwoken _ ⟨rfl, rfl⟩⟩

theorem State.mapped_congr {s t : State} {n : Nat} (h : t.reg (R.link n + 0xC) = s.reg (R.link n + 0xC)) : t.mapped n = s.mapped n := by
  unfold State.mapped State.mapAt State.fld
  rw [h]

theorem State.skewOf_congr {s t : State} (h : t.lanes = s.lanes) (n : Nat) (ks : List Nat) : t.skewOf n ks = s.skewOf n ks := by
  unfold State.skewOf
  simp only [State.lane_congr h]

/-- The burst ends the receiver's idle; once every mapped lane of an UP link has it, the link shows its skew. -/
theorem State.takeBurst_shows (s : State) (l ui : Nat) : (s.takeBurst l ui).lane l = ((s.lane l).hasSignal s.now).burst ui ∧
    ∀ skew, (s.link (l / 9)).state = .up → (s.takeBurst l ui).skewOf (l / 9) ((s.takeBurst l ui).mapped (l / 9)) = some skew → skew ≤ 4096 →
      (s.takeBurst l ui).reg (R.link (l / 9) + 0x18) = BitVec.ofNat 32 skew := by
  have hlane : (s.modLane l fun y => (y.hasSignal s.now).burst ui).lane l = ((s.lane l).hasSignal s.now).burst ui := by
    rw [State.lane_modLane, if_pos rfl]
  have htake : s.takeBurst l ui = (match ((s.modLane l fun y => (y.hasSignal s.now).burst ui).link (l / 9)).state,
      (s.modLane l fun y => (y.hasSignal s.now).burst ui).skewOf (l / 9) ((s.modLane l fun y => (y.hasSignal s.now).burst ui).mapped (l / 9)) with
    | .up, some k => if k ≤ 4096 then (s.modLane l fun y => (y.hasSignal s.now).burst ui).showSkew (l / 9) k
        else s.modLane l fun y => (y.hasSignal s.now).burst ui
    | _, _ => s.modLane l fun y => (y.hasSignal s.now).burst ui) := rfl
  have hlink : (s.modLane l fun y => (y.hasSignal s.now).burst ui).link (l / 9) = s.link (l / 9) := rfl
  generalize s.modLane l (fun y => (y.hasSignal s.now).burst ui) = u at hlane htake hlink
  have hlanes : (s.takeBurst l ui).lanes = u.lanes := by
    rw [htake]
    split
    · split <;> rfl
    · rfl
  have hmapped : (s.takeBurst l ui).mapped (l / 9) = u.mapped (l / 9) := by
    refine State.mapped_congr ?_
    rw [htake]
    split
    · split
      · exact State.reg_setReg_ne _ _ (by omega)
      · rfl
    · rfl
  refine ⟨(State.lane_congr hlanes l).trans hlane, fun skew hup hskew hsmall => ?_⟩
  rw [hmapped, State.skewOf_congr hlanes] at hskew
  rw [htake, hlink, hup, hskew]
  dsimp only
  rw [if_pos hsmall]
  exact State.reg_setReg_self _ _ _

theorem carriesLink_iff (y : Lane) : y.carriesLink = true ↔ y.state = .active ∨ y.state = .standby := by simp [Lane.carriesLink]

/-- Settles O23: idle is entered by all transmitters of a link together, and left by a signal and by the burst. -/
theorem lanesIdleAndWake : Obligations.LanesIdleAndWake := by
  refine ⟨?_, exec_signalDetect, ?_, ?_, ?_⟩
  · intro l s hstate hup hon hdue
    refine ⟨_, execTxIdleEnter_of_due ((carriesLink_iff _).mpr hstate) hup hon hdue, fun hsends => if_pos hsends, fun hquiet => ?_⟩
    rw [if_neg (by simp [hquiet])]
    obtain ⟨hpos, hlanes⟩ := s.linkIdles_shows (l.val / 9)
    refine ⟨hpos, fun k hk => ⟨fun hcarries hloud => ?_, fun hnot => ?_⟩⟩
    · rw [hlanes k hk, Lane.quieted, if_pos (by simp [hcarries, hloud])]
    · rw [hlanes k hk, Lane.quieted, if_neg (by simp [hnot])]
  · intro l ui s hstate
    have hexec : exec (.burstRx ⟨l, ui⟩) s = .next (if (s.lane l).lastNotice = 3 ∧ ¬ (s.lane l).callDone = true then s else s.takeBurst l ui) := by
      change execBurstRx ⟨l, ui⟩ s = _
      unfold execBurstRx
      dsimp only
      simp only [hstate, true_and, ite_not, apply_ite Host.Outcome.next]
    refine ⟨_, hexec, fun hnotice hcall => if_pos ⟨hnotice, by simp [hcall]⟩, fun hwhole => ?_⟩
    rw [if_neg (by rintro ⟨h1, h2⟩; rcases hwhole with h | h <;> contradiction)]
    exact s.takeBurst_shows l ui
  · intro l f p s hmarker hcall
    have hexec : exec (.trainingFrameRx l f p) s = .next (s.takeBurst l 64) := by
      change execTrainingFrameRx l f p s = _
      unfold execTrainingFrameRx
      dsimp only
      rw [if_neg (by omega), if_pos hcall]
    exact ⟨_, hexec, (s.takeBurst_shows l 64).1⟩
  · intro l s hnotice hstate
    refine ⟨_, if_pos ⟨hnotice, hstate⟩, ?_, rfl⟩
    rw [State.lane_modLane, if_pos rfl]

end Sys2Proof.Machine
end

section
/-! Eye scans, module reads and optical engines (R103 to R107, R117, R533). -/

namespace Sys2Proof.Machine

/-! ## Neighbouring fields -/

/-- Two neighbouring fields read together. -/
theorem bits_add {n : Nat} (x : BitVec n) (lo a b : Nat) : bits x lo (a + b) = bits x lo a + 2 ^ a * bits x (lo + a) b := by
  rw [bits, bits, bits, pow_add 2 a b, Nat.mod_mul, pow_add 2 lo a, Nat.div_div_eq_div_mul]

/-- Packed fields are the same where they add up to the same number. -/
theorem pack_congr {n : Nat} {fs gs : List (Nat × Nat × Nat)} (h : fieldSum fs = fieldSum gs) : pack n fs = pack n gs := by
  rw [pack_eq, pack_eq, h]

theorem State.fmWrite_acts {s : State} {a : Nat} (hfm : s.srcFm a = true) (off : Nat) (f : State → State) : s.fmWrite a off f = f s := if_pos hfm

/-! ## Eye scans -/

theorem execScanStart_fits {a : Source} {l : LaneIx} {v : Word} {s : State} (hfm : s.srcFm a = true) (hrun : s.running = true)
    (hfits : scanFits v = true) : execScanStart a l v s = .next (if (s.lane l).state = .active ∨ (s.lane l).state = .standby ∨ (s.lane l).state = .gated then
        (((s.setReg (R.lane l + 0x10) (scanSettings v)).setReg (R.lane l + 0x14) 1).setReg (R.lane l + 0x18) 0).modLane l fun y => { y with scanAt := s.now }
      else (s.setReg (R.lane l + 0x10) (scanSettings v)).setReg (R.lane l + 0x14) 4) := by
  have hrun' : ¬ ((! (s.setReg (R.lane l + 0x10) (scanSettings v)).running) = true) := by simp [hrun]
  unfold execScanStart
  rw [State.fmWrite_acts hfm]
  dsimp only
  rw [if_neg (by simp [hfits]), if_neg hrun', State.setReg_lane]

theorem execScanStart_unfit {a : Source} {l : LaneIx} {v : Word} {s : State} (hfm : s.srcFm a = true) (hfits : scanFits v = false) :
    execScanStart a l v s = .next s := by
  unfold execScanStart
  rw [State.fmWrite_acts hfm]
  dsimp only
  rw [if_pos (by simp [hfits])]

theorem execScanStop_running {a : Source} {l : LaneIx} {s : State} (hfm : s.srcFm a = true) (hrun : s.running = true) :
    execScanStop a l s = .next (s.endScan l 3) := by
  unfold execScanStop
  rw [State.fmWrite_acts hfm]
  exact congrArg Host.Outcome.next (if_pos hrun)

theorem State.endScan_status {s : State} {l : Nat} (h : s.scanning l = true) (status : Nat) :
    (s.endScan l status).reg (R.lane l + 0x14) = BitVec.ofNat 32 status := by
  unfold State.endScan
  rw [if_pos h, State.tookFree_reg, State.reg_setReg_ne _ _ (by omega), State.reg_setReg_self]

/-! ## Module reads -/

theorem cmisGo_fields (v : Nat) : bits (pack 32 [(0, 22, v), (22, 1, 1)]) 0 22 = v % 2 ^ 22 ∧ bits (pack 32 [(0, 22, v), (22, 1, 1)]) 22 1 = 1 ∧
    bits (pack 32 [(0, 22, v), (22, 1, 1)]) 23 2 = 0 := by
  have hlonger : pack 32 [(0, 22, v), (22, 1, 1)] = pack 32 [(0, 22, v), (22, 1, 1), (23, 2, 0)] := pack_congr (by simp [fieldSum])
  rw [hlonger]
  exact ⟨bits_pack rfl (by simp) (by decide), bits_pack (v := 1) rfl (by simp) (by decide), bits_pack (v := 0) rfl (by simp) (by decide)⟩

theorem cmisDone_fields (x : Word) (k : Nat) (hk : k = 23 ∨ k = 24) : bits (setBits (setBits x 22 1 0) k 1 1) 22 1 = 0 ∧
    bits (setBits (setBits x 22 1 0) k 1 1) k 1 = 1 := by
  refine ⟨?_, bits_setBits_self _ _ _ _ (by omega)⟩
  rw [bits_setBits_below _ _ _ _ _ _ (by omega) (by omega), bits_setBits_self _ _ _ _ (by decide)]
  rfl

/-! ## Engines -/

theorem State.entry_congr {s t : State} {l : Nat} (hlane : t.lane l = s.lane l) (h8 : t.reg (R.lane l + 8) = s.reg (R.lane l + 8))
    (hc : t.reg (R.lane l + 0xC) = s.reg (R.lane l + 0xC)) : t.entry l = s.entry l := by
  unfold State.entry
  rw [hlane, h8, hc]

theorem State.engineLanes_congr {s t : State} (hlanes : t.lanes = s.lanes) (hregs : ∀ l, l < 288 → ∀ r, r < 0x400 → t.reg (R.lane l + r) = s.reg (R.lane l + r))
    (e : Nat) : t.engineLanes e = s.engineLanes e := by
  unfold State.engineLanes
  refine List.filter_congr fun l hl => ?_
  have hlt := List.mem_range.mp hl
  rw [State.entry_congr (State.lane_congr hlanes l) (hregs l hlt 8 (by decide)) (hregs l hlt 0xC (by decide))]

theorem engineState_ne_lane {e l r : Nat} (hl : l < 288) (hr : r < 0x400) : R.lane l + r ≠ R.engineState + 4 * e := by
  unfold R.lane R.engineState
  omega

theorem State.engineLanes_setEngine (s : State) (e : Nat) (w : Word) : (s.setReg (R.engineState + 4 * e) w).engineLanes e = s.engineLanes e :=
  State.engineLanes_congr (State.setReg_lanes _ _ _) (fun _ hl _ hr => State.reg_setReg_ne _ _ (engineState_ne_lane hl hr)) e

theorem engineUp_fields (rev : Byte) : bits (pack 32 [(0, 3, moduleReady.toNat), (3, 1, 1), (8, 8, rev.toNat)]) 0 5 = 11 ∧
    bits (pack 32 [(0, 3, moduleReady.toNat), (3, 1, 1), (8, 8, rev.toNat)]) 8 8 = rev.toNat := by
  have hjoined : pack 32 [(0, 3, moduleReady.toNat), (3, 1, 1), (8, 8, rev.toNat)] = pack 32 [(0, 5, 11), (8, 8, rev.toNat)] :=
    pack_congr (by simp [fieldSum, moduleReady]; omega)
  rw [hjoined]
  exact ⟨bits_pack (v := 11) rfl (by simp) (by decide), (bits_pack rfl (by simp) (by decide)).trans (Nat.mod_eq_of_lt rev.isLt)⟩

theorem engineFailed_fields (m : BitVec 3) (rev : Nat) : bits (pack 32 [(0, 3, m.toNat), (4, 1, 1), (8, 8, rev)]) 0 5 = 16 + m.toNat := by
  have hm := m.isLt
  have hjoined : pack 32 [(0, 3, m.toNat), (4, 1, 1), (8, 8, rev)] = pack 32 [(0, 5, 16 + m.toNat), (8, 8, rev)] := by
    refine pack_congr ?_
    simp only [fieldSum]
    omega
  rw [hjoined, bits_pack (v := 16 + m.toNat) rfl (by simp) (by decide)]
  exact Nat.mod_eq_of_lt (by omega)

/-! ### Engines that fail -/

/-- The failure of a lane leaves FAILED whatever lane is. -/
theorem State.failLane_keepsFailed (s : State) (l cause k : Nat) (h : (s.lane k).state = .failed) : ((s.failLane l cause).lane k).state = .failed := by
  by_cases hk : k = l
  · exact hk ▸ State.failLane_failed s l cause
  · by_cases hl : (s.lane l).state = .failed
    · unfold State.failLane
      rw [if_pos hl, State.lane_modLane, if_neg hk]
      exact h
    · have hmark : (s.markFailed l cause).lane k = s.lane k := by
        unfold State.markFailed
        dsimp only
        rw [State.lane_modLane, if_neg hk, State.bump_lane, State.lane_laneTo, if_neg hk]
      have hafter := State.failLane_leavesFailed hl cause k (by rw [hmark]; exact h)
      exact (congrArg Prod.fst hafter).trans (by rw [hmark]; exact h)

theorem State.failLanes_failed (cause : Nat) (ls : List Nat) (s : State) : ∀ k, k ∈ ls ∨ (s.lane k).state = .failed →
    ((ls.foldl (fun t l => t.failLane l cause) s).lane k).state = .failed := by
  induction ls generalizing s with
  | nil => exact fun k hk => hk.resolve_left List.not_mem_nil
  | cons l ls ih =>
    intro k hk
    refine ih _ k ?_
    rcases hk with hk | hk
    · rcases List.mem_cons.mp hk with rfl | hk
      · exact .inr (State.failLane_failed s k cause)
      · exact .inl hk
    · exact .inr (State.failLane_keepsFailed s l cause k hk)

/-- An engine that fails shows so, and takes its lanes with it (R105). -/
theorem State.failEngine_shows (s : State) (e : Nat) (m : BitVec 3) (rev : Nat) :
    (s.engineLanes e = [] → (s.failEngine e m.toNat rev).fld (R.engineState + 4 * e) 0 5 = 16 + m.toNat) ∧
    ∀ l, l ∈ s.engineLanes e → ((s.failEngine e m.toNat rev).lane l).state = .failed := by
  have hfail : s.failEngine e m.toNat rev = (s.engineLanes e).foldl (fun t l => t.failLane l 7)
      (s.setReg (R.engineState + 4 * e) (pack 32 [(0, 3, m.toNat), (4, 1, 1), (8, 8, rev)])) := by
    unfold State.failEngine
    dsimp only
    rw [State.engineLanes_setEngine]
  rw [hfail]
  refine ⟨fun hnone => ?_, fun l hl => State.failLanes_failed 7 _ _ l (.inl hl)⟩
  rw [hnone, List.foldl_nil, State.fld, State.reg_setReg_self, engineFailed_fields]

/-! ### Engines that are ready -/

theorem State.markFailed_reg (s : State) {l : Nat} (hl : l < 288) (cause : Nat) {off : Nat} (h : ¬ laneReg off) :
    (s.markFailed l cause).reg off = s.reg off := by
  unfold State.markFailed
  dsimp only
  rw [State.modLane_reg, State.reg_bump_ne, State.laneTo_reg _ hl _ h]
  rintro rfl
  exact h (laneReg_lane hl (by decide))

theorem State.markFailed_app (s : State) (l cause k : Nat) : ((s.markFailed l cause).lane k).app = (s.lane k).app := by
  unfold State.markFailed
  dsimp only
  rw [State.lane_modLane, State.bump_lane, State.bump_lane, State.lane_laneTo, State.lane_laneTo, if_pos rfl]
  split
  · next h => rw [h]
  · rfl

/-- Training a lane changes registers of lanes only, and no lane's application. -/
theorem State.trainLane_keeps (s : State) (l : Nat) : (l < 288 → ∀ off, ¬ laneReg off → (s.trainLane l).reg off = s.reg off) ∧
    ∀ k, ((s.trainLane l).lane k).app = (s.lane k).app := by
  have hto (t : State) (st : LaneState) (k : Nat) (ht : (t.lane k).app = (s.lane k).app) : ((t.laneTo l st).lane k).app = (s.lane k).app := by
    rw [State.lane_laneTo]
    split
    · next h => rw [← ht, h]
    · exact ht
  have hset (x : Lane) (hx : x.app = (s.lane l).app) (k : Nat) : ((s.setLane l x).lane k).app = (s.lane k).app := by
    rw [State.lane_setLane]
    split
    · next h => rw [hx, h]
    · rfl
  unfold State.trainLane
  split
  · exact ⟨fun _ _ _ => rfl, fun _ => rfl⟩
  · dsimp only
    split
    · exact ⟨fun hl _ h => State.markFailed_reg s hl 1 h, fun k => State.markFailed_app s l 1 k⟩
    · split
      · exact ⟨fun hl _ h => State.markFailed_reg s hl 7 h, fun k => State.markFailed_app s l 7 k⟩
      · split
        · exact ⟨fun hl _ h => (State.laneTo_reg _ hl _ h).trans (State.modLane_reg _ _ _ _), fun k => hto _ _ k (hset _ (by rfl) k)⟩
        · exact ⟨fun hl _ h => (State.laneTo_reg _ hl _ h).trans (State.modLane_reg _ _ _ _), fun k => hto _ _ k (hset _ (by rfl) k)⟩

/-- One lane of an engine that is ready: its application, and its training where it waited for the engine. -/
def State.engineLaneUp (app : BitVec 4) (t : State) (l : Nat) : State :=
  if ((t.link (l / 9)).state = .train ∨ (t.link (l / 9)).state = .retrain) ∧ ((t.modLane l fun y => { y with app := app }).lane l).state = .off then
    (t.modLane l fun y => { y with app := app }).trainLane l
  else t.modLane l fun y => { y with app := app }

theorem State.engineLaneUp_app (app : BitVec 4) (t : State) (l k : Nat) :
    ((State.engineLaneUp app t l).lane k).app = if k = l then app else (t.lane k).app := by
  have hset : ((t.modLane l fun y => { y with app := app }).lane k).app = if k = l then app else (t.lane k).app := by
    rw [State.lane_modLane]
    split <;> rfl
  unfold State.engineLaneUp
  split
  · rw [(State.trainLane_keeps _ l).2 k, hset]
  · exact hset

theorem State.engineLaneUp_reg (app : BitVec 4) (t : State) {l : Nat} (hl : l < 288) {off : Nat} (h : ¬ laneReg off) :
    (State.engineLaneUp app t l).reg off = t.reg off := by
  unfold State.engineLaneUp
  split
  · rw [(State.trainLane_keeps _ l).1 hl off h, State.modLane_reg]
  · exact State.modLane_reg _ _ _ _

theorem State.engineLanesUp_app (app : BitVec 4) (ls : List Nat) (s : State) : ∀ k, k ∈ ls ∨ (s.lane k).app = app →
    ((ls.foldl (State.engineLaneUp app) s).lane k).app = app := by
  induction ls generalizing s with
  | nil => exact fun k hk => hk.resolve_left List.not_mem_nil
  | cons l ls ih =>
    intro k hk
    refine ih _ k ?_
    by_cases hkl : k = l
    · exact .inr (by rw [State.engineLaneUp_app, if_pos hkl])
    · rcases hk with hk | hk
      · exact .inl ((List.mem_cons.mp hk).resolve_left hkl)
      · exact .inr (by rw [State.engineLaneUp_app, if_neg hkl]; exact hk)

theorem not_laneReg_engineState (e : Nat) : ¬ laneReg (R.engineState + 4 * e) := by
  unfold laneReg R.engineState
  omega

theorem State.mem_engineLanes_lt {s : State} {e l : Nat} (h : l ∈ s.engineLanes e) : l < 288 := List.mem_range.mp (List.mem_filter.mp h).1

/-- The state in which an engine shows that it is ready, before its lanes are told. -/
def State.engineShown (s : State) (e rev : Nat) : State :=
  let s1 := s.setReg (R.engineState + 4 * e) (pack 32 [(0, 3, moduleReady.toNat), (3, 1, 1), (8, 8, rev)])
  { s1 with kpr := { s1.kpr with enginePolled := tabSet 0 s1.kpr.enginePolled e s1.now, engineMiss := tabSet 0 s1.kpr.engineMiss e 0 } }

theorem State.engineReady_eq (s : State) (e rev : Nat) : s.engineReady e rev =
    ((s.engineShown e rev).engineLanes e).foldl (State.engineLaneUp (BitVec.ofNat 4 ((s.engineShown e rev).fld (R.laneEngine + 4 * e) 8 4)))
      (s.engineShown e rev) := rfl

theorem State.engineReady_shows (s : State) (e : Nat) (r : Byte) :
    (s.engineReady e r.toNat).fld (R.engineState + 4 * e) 0 5 = 11 ∧ (s.engineReady e r.toNat).fld (R.engineState + 4 * e) 8 8 = r.toNat ∧
    ∀ l, l ∈ s.engineLanes e → ((s.engineReady e r.toNat).lane l).app = BitVec.ofNat 4 (s.fld (R.laneEngine + 4 * e) 8 4) := by
  have hlanes : (s.engineShown e r.toNat).engineLanes e = s.engineLanes e := s.engineLanes_setEngine e _
  have happ : (s.engineShown e r.toNat).fld (R.laneEngine + 4 * e) 8 4 = s.fld (R.laneEngine + 4 * e) 8 4 :=
    State.fld_of_reg (State.reg_setReg_ne s _ (by unfold R.laneEngine R.engineState; omega)) 8 4
  have hreg : (s.engineReady e r.toNat).reg (R.engineState + 4 * e) =
      pack 32 [(0, 3, moduleReady.toNat), (3, 1, 1), (8, 8, r.toNat)] := by
    rw [State.engineReady_eq]
    refine (foldl_keeps_mem (fun t : State => t.reg (R.engineState + 4 * e)) _ (fun t l hl => ?_) _).trans (State.reg_setReg_self s _ _)
    exact State.engineLaneUp_reg _ t (State.mem_engineLanes_lt hl) (not_laneReg_engineState e)
  obtain ⟨hready, hrev⟩ := engineUp_fields r
  refine ⟨(congrArg (fun w => bits w 0 5) hreg).trans hready, (congrArg (fun w => bits w 8 8) hreg).trans hrev, fun l hl => ?_⟩
  rw [State.engineReady_eq, hlanes, happ]
  exact State.engineLanesUp_app _ _ _ l (.inl hl)

/-! ### Engines that are read -/

/-- The state in which an engine has missed `k` reads. -/
def State.withMiss (s : State) (e k : Nat) : State := { s with kpr := { s.kpr with engineMiss := tabSet 0 s.kpr.engineMiss e k } }

theorem State.withMiss_miss (s : State) (e k : Nat) : tabGet 0 (s.withMiss e k).kpr.engineMiss e = k := tabGet_set_self 0 s.kpr.engineMiss e k

theorem State.readFlags_missed {s : State} {e : Nat} (hup : bit (s.reg (R.engineState + 4 * e)) 3 = true) : s.readFlags e none =
    if 3 ≤ tabGet 0 s.kpr.engineMiss e + 1 then
      (s.withMiss e 0).failEngine e (bits (s.reg (R.engineState + 4 * e)) 0 3) (bits (s.reg (R.engineState + 4 * e)) 8 8)
    else s.withMiss e (tabGet 0 s.kpr.engineMiss e + 1) := by
  unfold State.readFlags
  dsimp only
  rw [if_neg (by simp [hup])]
  rfl

/-- One lane of an engine whose flags were read: they are shown, and a flagged lane fails (R106). -/
def State.flagLane (f : BitVec 160) (t : State) (l : Nat) : State :=
  let v := engineFlagsOf f (bits (t.entry l).2 22 5)
  let t1 := t.setReg (R.lane l + 0x2C) (BitVec.ofNat 32 v)
  if v ≠ 0 ∧ (t1.lane l).state ≠ .off ∧ (t1.lane l).state ≠ .failed then t1.failLane l 7 else t1

theorem State.readFlags_read {s : State} {e : Nat} (hup : bit (s.reg (R.engineState + 4 * e)) 3 = true) (f : BitVec 160) :
    s.readFlags e (some f) = (s.engineLanes e).foldl (State.flagLane f) (s.withMiss e 0) := by
  unfold State.readFlags
  dsimp only
  rw [if_neg (by simp [hup])]
  rfl

/-- Settles O24: scans and module reads show in their own registers, and an engine's state follows its lanes. -/
theorem enginesScansAndModuleReads : Obligations.EnginesScansAndModuleReads := by
  refine ⟨⟨?_, ?_, ?_, ?_, ?_, ?_, ?_⟩, ?_, ?_, ?_, ?_, ?_⟩
  · intro a l v s hfm hrun hfits
    refine ⟨_, execScanStart_fits hfm hrun hfits, ?_, fun hcarries => ?_, fun h1 h2 h3 => ?_⟩
    · split
      · rw [State.modLane_reg, State.reg_setReg_ne _ _ (by omega), State.reg_setReg_ne _ _ (by omega), State.reg_setReg_self]
      · rw [State.reg_setReg_ne _ _ (by omega), State.reg_setReg_self]
    · rw [if_pos hcarries, State.modLane_reg, State.modLane_reg, State.reg_setReg_ne _ _ (by omega), State.reg_setReg_self, State.reg_setReg_self,
        State.lane_modLane, if_pos rfl]
      exact ⟨rfl, rfl, rfl⟩
    · rw [if_neg (by simp [h1, h2, h3]), State.reg_setReg_self]
  · intro a l v s hfm hfits
    exact execScanStart_unfit hfm hfits
  · intro a l s hfm hrun hscans
    exact ⟨_, execScanStop_running hfm hrun, State.endScan_status hscans 3, fun off h14 h18 => State.endScan_reg_ne _ _ _ h14 h18⟩
  · intro l v s hscans hcarries
    have hexec : exec (.scanDone l v) s = .next (if s.scanDue l = true then (s.setReg (R.lane l + 0x14) 2).setReg (R.lane l + 0x18) v else s) := by
      change execScanDone l v s = _
      unfold execScanDone
      simp only [hscans, hcarries, true_and, apply_ite Host.Outcome.next]
    refine ⟨_, hexec, fun hdue => ?_, fun hearly => if_neg (by simp [hearly])⟩
    rw [if_pos hdue, State.reg_setReg_ne _ _ (by omega), State.reg_setReg_self, State.reg_setReg_self]
    exact ⟨rfl, rfl⟩
  · intro a v s hfm hrun
    have hexec : exec (.cmisReadGo a v) s = .next (s.setReg R.cmisRd (pack 32 [(0, 22, bits v 0 22), (22, 1, 1)])) := by
      change execCmisReadGo a v s = _
      unfold execCmisReadGo
      rw [State.fmWrite_acts hfm, hrun]
      rfl
    obtain ⟨hlow, hgo, hrest⟩ := cmisGo_fields (bits v 0 22)
    refine ⟨_, hexec, ?_, ?_, ?_⟩ <;> rw [State.fld, State.reg_setReg_self]
    · rw [hlow, Nat.mod_eq_of_lt (bits_lt v 0 22)]
    · exact hgo
    · exact hrest
  · intro b s hgo
    have hexec : exec (.cmisReadDone (some b)) s =
        .next (((s.setFld R.cmisRd 22 1 0).setFld R.cmisRd 23 1 1).setReg R.cmisRdata (BitVec.ofNat 32 b.toNat)) := by
      change execCmisReadDone (some b) s = _
      unfold execCmisReadDone
      rw [if_neg (by simp [hgo])]
    refine ⟨_, hexec, ?_, State.reg_setReg_self _ _ _⟩
    obtain ⟨hidle, hdone⟩ := cmisDone_fields (s.reg R.cmisRd) 23 (.inl rfl)
    rw [State.fld, State.reg_setReg_ne _ _ (by decide), State.reg_setFld_self, State.reg_setFld_self, bits_add _ 22 1 1, hidle, hdone]
    rfl
  · intro s hgo
    have hexec : exec (.cmisReadDone none) s = .next ((s.setFld R.cmisRd 22 1 0).setFld R.cmisRd 24 1 1) := by
      change execCmisReadDone none s = _
      unfold execCmisReadDone
      rw [if_neg (by simp [hgo])]
    obtain ⟨hidle, hdone⟩ := cmisDone_fields (s.reg R.cmisRd) 24 (.inr rfl)
    refine ⟨_, hexec, ?_, ?_, ?_⟩
    · rw [State.fld, State.reg_setFld_self, State.reg_setFld_self, hidle]
    · rw [State.fld, State.reg_setFld_self, State.reg_setFld_self, hdone]
    · rw [State.reg_setFld_ne _ _ _ _ (by decide), State.reg_setFld_ne _ _ _ _ (by decide)]
  · intro e r s hrev hpresent
    have hexec : exec (.engineBringup e r moduleReady true) s = .next (s.engineReady e r.toNat) := if_pos ⟨hrev, rfl, rfl, hpresent⟩
    exact ⟨_, hexec, s.engineReady_shows e r⟩
  · intro e r m d s hnot
    have hexec : exec (.engineBringup e r m d) s = .next (s.failEngine e m.toNat r.toNat) := if_neg hnot
    exact ⟨_, hexec, s.failEngine_shows e m r.toNat⟩
  · intro e f s hup
    have hexec : exec (.engineInterrupt e (some f)) s = .next ((s.engineLanes e).foldl (State.flagLane f) (s.withMiss e 0)) :=
      congrArg Host.Outcome.next (State.readFlags_read hup f)
    refine ⟨fun hnone => ?_, fun l hone hflags hoff hfailed => ?_⟩
    · rw [hnone, List.foldl_nil] at hexec
      exact ⟨_, hexec, State.withMiss_miss _ _ _, rfl⟩
    · rw [hone, List.foldl_cons, List.foldl_nil] at hexec
      have hflag : State.flagLane f (s.withMiss e 0) l =
          ((s.withMiss e 0).setReg (R.lane l + 0x2C) (BitVec.ofNat 32 (engineFlagsOf f (bits (s.entry l).2 22 5)))).failLane l 7 := if_pos ⟨hflags, hoff, hfailed⟩
      rw [hflag] at hexec
      exact ⟨_, hexec, State.failLane_shows hfailed rfl⟩
  · intro e s hup
    have hexec : exec (.engineInterrupt e none) s = .next (s.readFlags e none) := rfl
    rw [State.readFlags_missed hup] at hexec
    refine ⟨_, hexec, fun hfew => ?_, fun hmany l hl => ?_⟩
    · rw [if_neg (by omega)]
      exact ⟨State.withMiss_miss _ _ _, rfl⟩
    · rw [if_pos (by omega)]
      have hm : bits (s.reg (R.engineState + 4 * e)) 0 3 = (BitVec.ofNat 3 (bits (s.reg (R.engineState + 4 * e)) 0 3)).toNat := by
        rw [BitVec.toNat_ofNat, Nat.mod_eq_of_lt (bits_lt _ 0 3)]
      rw [hm]
      exact (State.failEngine_shows (s.withMiss e 0) e _ _).2 l hl
  · intro e f s
    exact ⟨fun hdue => ⟨_, if_pos hdue, rfl⟩, fun hearly => if_neg (by omega)⟩

end Sys2Proof.Machine
end

section
/-! Boot, RUN, wake and SLEEP (R504 to R512). -/

namespace Sys2Proof.Machine

/-! ## Runs of registers -/

theorem State.reg_setWords_below (s : State) {o off : Nat} (h : o < off) (ws : List Word) : (s.setWords off ws).reg o = s.reg o := by
  induction ws generalizing s off with
  | nil => rfl
  | cons w ws ih => rw [State.setWords, ih _ (by omega), State.reg_setReg_ne _ _ (by omega)]

/-! ## The firmware starts -/

theorem State.startFirmware_shows (s : State) (image : List Byte) (meas : BitVec 384) (h : le image 5 1 = 1) :
    (s.startFirmware image meas).kpr.boot = .running ∧ (s.startFirmware image meas).kpr.power = .keeper ∧
    (s.startFirmware image meas).sec.ready = true ∧ (s.startFirmware image meas).fld R.kprId 8 8 = 1 ∧
    (s.startFirmware image meas).memory = s.memory := by
  refine ⟨rfl, rfl, rfl, ?_, State.agree_of_allBut .memory (by unfold State.startFirmware; simp)⟩
  have hreg (t : State) : (t.deriveIdentity meas).reg R.kprId = t.reg R.kprId := by
    unfold State.deriveIdentity
    dsimp only
    rw [State.setSec_reg, State.reg_setWords_below _ (by decide), State.reg_setWords_below _ (by decide)]
  unfold State.startFirmware
  dsimp only
  rw [State.setKpr_fld, State.fld, hreg, State.reg_setFld_self, bits_setBits_below _ _ _ _ _ _ (by decide) (by decide), State.reg_setFld_self,
    bits_setBits_self _ _ _ _ (by decide), h]
  rfl

/-- An image is taken or refused by the first check that it fails (Table 17-8). -/
theorem execFirmwareBoot_of_rom {image : List Byte} {s : State} (hpower : s.kpr.power = .boot) (hboot : s.kpr.boot = .rom) :
    execFirmwareBoot image s = .next (if le image 0 4 ≠ 0x57464B5A ∨ 0x100000 < le image 8 4 + 160 then s.bootFails 1
      else if ecdsaVerify Config.firmwareKey (sha384 (image.take (64 + le image 8 4))) (BitVec.ofNat 768 (le image (64 + le image 8 4) 96)) = false then
        s.bootFails 2
      else if le image 5 1 ≠ 1 then s.bootFails 3
      else s.startFirmware image (sha384 (image.take (64 + le image 8 4)))) := by
  unfold execFirmwareBoot
  dsimp only
  rw [if_neg (by simp [hpower, hboot])]
  simp only [Bool.not_eq_eq_eq_not, Bool.not_true, apply_ite Host.Outcome.next]

/-! ## RUN -/

theorem State.startWake_shows (s : State) : s.startWake.kpr.power = .waking ∧ s.startWake.kpr.refuse = 0 ∧ s.startWake.kpr.runHeld = false ∧
    s.startWake.memory = s.memory ∧ s.startWake.plt = s.plt ∧ s.startWake.intm = s.intm ∧ s.startWake.xfr = s.xfr ∧ s.startWake.col = s.col ∧
    s.startWake.commits = s.commits ∧ s.startWake.verifies = s.verifies := by
  have hports (t : State) (v : PlateV) : (t.holdPorts v).kpr = t.kpr ∧ (t.holdPorts v).memory = t.memory ∧ (t.holdPorts v).plt = t.plt ∧
      (t.holdPorts v).intm = t.intm ∧ (t.holdPorts v).xfr = t.xfr ∧ (t.holdPorts v).col = t.col ∧ (t.holdPorts v).commits = t.commits ∧
      (t.holdPorts v).verifies = t.verifies :=
    ⟨State.agree_of_allBut .kpr (by simp), State.agree_of_allBut .memory (by simp), State.agree_of_allBut .plt (by simp),
      State.agree_of_allBut .intm (by simp), State.agree_of_allBut .xfr (by simp), State.agree_of_allBut .col (by simp),
      State.agree_of_allBut .commits (by simp), State.agree_of_allBut .verifies (by simp)⟩
  unfold State.startWake
  dsimp only
  split
  · obtain ⟨hkpr, hmemory, hplt, hintm, hxfr, hcol, hcommits, hverifies⟩ := hports
      { s with kpr := { s.kpr with power := .waking, refuse := 0, runHeld := false, runAt := some s.clk.count, memIdle := false, domains := [] } } ‹_›
    rw [hkpr, hmemory, hplt, hintm, hxfr, hcol, hcommits, hverifies]
    exact ⟨rfl, rfl, rfl, rfl, rfl, rfl, rfl, rfl, rfl, rfl⟩
  · exact ⟨rfl, rfl, rfl, rfl, rfl, rfl, rfl, rfl, rfl, rfl⟩

/-- A RUN by its power state. -/
theorem execRun_of_allowed {o : Option Win} {s : State} (h : ∀ w, o = some w → s.winFm w = true) : execRun o s =
    (match s.kpr.power with
      | .keeper => .next (if s.kpr.resetLow then s else s.startWake)
      | .sleeping => .next (s.setKpr { s.kpr with runHeld := true, refuse := 0 })
      | _ => .next (s.refusePower 4)) := by
  unfold execRun
  cases o with
  | none => rfl
  | some w =>
    dsimp only
    rw [if_neg (by simp [h w rfl])] <;> rfl

/-! ## Reset and sleep -/

/-- Once the keys are erased, side work and raises leave them so. -/
theorem tolerates_noKeys : Tolerates fun s t => s.sec.slots = [] → t.sec.slots = [] where
  trans h1 h2 h := h2 (h1 h)
  side _ _ _ _ _ _ _ h := h
  raise s code unit _ h := by
    rcases s.raiseFault_sec code unit 1 0 with heq | heq <;> rw [heq]
    exact h

theorem State.loseSync_slots {s : State} (h : s.sec.slots = []) : s.loseSync.sec.slots = [] :=
  tolerates_noKeys.chooseParent { s with clk := { s.clk with cands := [] } } h

theorem State.clearPlate_shows (s : State) : s.clearPlate.plt = Plt.reset ∧ s.clearPlate.sec = s.sec ∧ s.clearPlate.col = s.col := ⟨rfl, rfl, rfl⟩

/-- The work on chip is gone (R512). -/
theorem State.loseWork_shows (s : State) : s.loseWork.xfr.ops = [] ∧ s.loseWork.col = Col.reset ∧ s.loseWork.commits = [] ∧
    s.loseWork.verifies = [] ∧ s.loseWork.sec = s.sec := ⟨rfl, rfl, rfl, rfl, rfl⟩

/-- What a reset of the node leaves (R39, R512). -/
theorem State.resetNode_shows {s : State} (hpower : s.kpr.power ≠ .boot) (last : Nat) : (s.resetNode last).kpr.power = .keeper ∧
    (s.resetNode last).kpr.lastReset = BitVec.ofNat 3 last ∧ (s.resetNode last).plt = Plt.reset ∧ (s.resetNode last).sec.slots = [] ∧
    (s.resetNode last).col = Col.reset := by
  have hdown (t : State) : (t.allLinksDown 5 []).sec = t.sec := State.agree_of_allBut .sec (by simp)
  have herased (t : State) : (t.eraseKeys.allLinksDown 5 []).sec.slots = [] := by
    rw [hdown]
    rfl
  unfold State.resetNode
  dsimp only
  rw [if_neg hpower, State.setKpr_plt, State.setKpr_sec, State.setKpr_col, (State.clearPlate_shows _).1, (State.clearPlate_shows _).2.1,
    (State.clearPlate_shows _).2.2, (State.loseWork_shows _).2.1, (State.loseWork_shows _).2.2.2.2]
  exact ⟨rfl, rfl, rfl, State.loseSync_slots (herased _), rfl⟩

theorem State.startSleep_shows (s : State) : s.startSleep.kpr.power = .sleeping ∧ s.startSleep.kpr.refuse = 0 ∧
    ∀ n, n < 32 → (s.startSleep.link n).state = .down ∨ (s.startSleep.link n).state = .disabled := by
  unfold State.startSleep
  dsimp only
  rw [State.allLinksDown_kpr]
  refine ⟨rfl, rfl, fun n hn => ?_⟩
  generalize s.closeRun.drainScript.setKpr _ = u
  by_cases h : (u.link n).state = .disabled
  · exact .inr (by rw [State.allLinksDown_link_disabled _ _ _ hn h, h])
  · exact .inl (State.allLinksDown_link_down _ _ _ hn h).1

/-- The state at the end of a sleep entry, before a wake that waited. -/
def State.slept (s : State) : State :=
  let s1 := s.enginesLow.loseSync.holdClock.loseWork
  let s2 : State := { s1 with intm := { s1.intm with onChip := false }, mem := { s1.mem with chans := idleChans s1.mem.chans true } }
  s2.setKpr { s2.kpr with power := .keeper, memIdle := true, domains := [], suspects := [] }

theorem execSleepEntryDone_ready {s : State} (hpower : s.kpr.power = .sleeping) (hready : s.sleepReady = true) :
    execSleepEntryDone s = .next (if s.kpr.runHeld then s.slept.startWake else s.slept) := by
  unfold execSleepEntryDone
  rw [if_neg (by simp [hpower, hready])]
  rfl

theorem State.slept_plt (s : State) : s.slept.plt = s.plt :=
  (State.agree_of_allBut .plt (by simp) : (s.enginesLow.loseSync.holdClock.loseWork).plt = s.plt)

theorem State.slept_shows (s : State) : s.slept.kpr.power = .keeper ∧ s.slept.intm.onChip = false ∧ s.slept.xfr.ops = [] ∧ s.slept.col = Col.reset ∧
    s.slept.commits = [] ∧ s.slept.verifies = [] := by
  unfold State.slept
  dsimp only
  generalize s.enginesLow.loseSync.holdClock = u
  exact ⟨rfl, rfl, rfl, rfl, rfl, rfl⟩

/-- Settles O11: each command by the power state that it finds. -/
theorem powerStatesFollowTheirCommands : Obligations.PowerStatesFollowTheirCommands := by
  refine ⟨?_, ?_, ?_, ?_, ?_, ?_, ?_, ?_⟩
  · intro image s hpower hboot
    refine ⟨_, execFirmwareBoot_of_rom hpower hboot, fun hheader => if_pos hheader, fun hmagic hlen => ?_⟩
    rw [if_neg (by rw [not_or, not_lt]; exact ⟨not_not.mpr hmagic, hlen⟩)]
    refine ⟨fun hsign => if_pos hsign, fun hsign => ?_⟩
    rw [if_neg (by simp [hsign])]
    refine ⟨fun hversion => if_pos hversion, fun hversion => ?_⟩
    rw [if_neg (not_not.mpr hversion)]
    exact State.startFirmware_shows s image _ hversion
  · exact fun k s => ⟨rfl, rfl, rfl⟩
  · intro o s hallowed
    have hexec : exec (.run o) s = _ := execRun_of_allowed hallowed
    refine ⟨fun hkeeper hhigh => ?_, fun hkeeper hlow => ?_, fun hsleeping => ?_, fun hnot1 hnot2 => ?_⟩
    · rw [hkeeper] at hexec
      dsimp only at hexec
      rw [hhigh] at hexec
      obtain ⟨hpower, hrefuse, hheld, hmemory, hplt, -⟩ := s.startWake_shows
      exact ⟨_, hexec, hpower, hrefuse, hheld, hmemory, hplt⟩
    · rw [hkeeper] at hexec
      dsimp only at hexec
      rw [hlow] at hexec
      exact hexec
    · rw [hsleeping] at hexec
      exact ⟨_, hexec, rfl⟩
    · refine ⟨_, hexec.trans ?_, rfl⟩
      split
      · contradiction
      · contradiction
      · rfl
  · intro s hpower hlost
    have hexec : exec .wakeTablesReady s = .next (s.resetNode 4) := by
      change execWakeTablesReady s = _
      unfold execWakeTablesReady
      rw [if_neg (by simp [hpower]), if_pos hlost]
    exact ⟨_, hexec, State.resetNode_shows (by simp [hpower]) 4⟩
  · intro s hpower hkept
    refine ⟨_, ?_, rfl⟩
    change execWakeTablesReady s = _
    unfold execWakeTablesReady
    rw [if_neg (by simp [hpower]), if_neg (by simp [hkept])]
  · intro w s hfm
    have hexec : exec (.sleep w) s = .next (if s.sleepRefused = 0 then s.startSleep else s.refusePower s.sleepRefused) := by
      change execSleep w s = _
      unfold execSleep
      rw [if_neg (by simp [hfm]), apply_ite Host.Outcome.next]
    refine ⟨_, hexec, fun hzero => ?_, fun hwhy => if_neg hwhy⟩
    rw [if_pos hzero]
    exact s.startSleep_shows
  · intro s hpower hready
    refine ⟨_, execSleepEntryDone_ready hpower hready, ?_⟩
    obtain ⟨hkeeper, hchip, hops, hcol, hcommits, hverifies⟩ := s.slept_shows
    obtain ⟨hwaking, -, -, -, hwplt, hwintm, hwxfr, hwcol, hwcommits, hwverifies⟩ := s.slept.startWake_shows
    cases s.kpr.runHeld with
    | false =>
      rw [if_neg (by decide)]
      exact ⟨fun _ => hkeeper, fun h => absurd h (by decide), hchip, hops, hcol, hcommits, hverifies, s.slept_plt⟩
    | true =>
      rw [if_pos rfl]
      exact ⟨fun h => absurd h (by decide), fun _ => hwaking, (congrArg Intm.onChip hwintm).trans hchip, (congrArg Xfr.ops hwxfr).trans hops,
        hwcol.trans hcol, hwcommits.trans hcommits, hwverifies.trans hverifies, hwplt.trans s.slept_plt⟩
  · intro s hpower hnot
    change execSleepEntryDone s = _
    unfold execSleepEntryDone
    rw [if_pos (by simp [hnot])]

end Sys2Proof.Machine
end

section
/-! The states of a link: falls, retraining and training (R121, R142 to R144, R153). -/

namespace Sys2Proof.Machine

/-! ## Raises at a calm node -/

theorem State.calm_congr {s t : State} (h : t.plt = s.plt) (hs : s.calm) : t.calm := fun c hc => by
  rw [State.classOf_congr h]
  exact hs c hc

/-- At a calm node a raise, and so an entry of the journal, leaves what a request on a link reads. -/
def State.undisturbed (s t : State) : Prop := s.calm → t.plt = s.plt ∧ t.links = s.links ∧ t.lanes = s.lanes ∧ t.clk = s.clk ∧
  t.kpr.power = s.kpr.power ∧ ∀ off, 0x202000 ≤ off ∧ off < 0x3000000 → t.reg off = s.reg off

namespace State.undisturbed

theorem trans {s t u : State} (h1 : s.undisturbed t) (h2 : t.undisturbed u) : s.undisturbed u := fun hcalm => by
  obtain ⟨hplt1, hlinks1, hlanes1, hclk1, hpower1, hreg1⟩ := h1 hcalm
  obtain ⟨hplt2, hlinks2, hlanes2, hclk2, hpower2, hreg2⟩ := h2 (State.calm_congr hplt1 hcalm)
  exact ⟨hplt2.trans hplt1, hlinks2.trans hlinks1, hlanes2.trans hlanes1, hclk2.trans hclk1, hpower2.trans hpower1,
    fun off hoff => (hreg2 off hoff).trans (hreg1 off hoff)⟩

theorem of_parts {s t : State} (hplt : t.plt = s.plt) (hlinks : t.links = s.links) (hlanes : t.lanes = s.lanes) (hclk : t.clk = s.clk)
    (hpower : t.kpr.power = s.kpr.power) (hreg : ∀ off, 0x202000 ≤ off → t.reg off = s.reg off) : s.undisturbed t :=
  fun _ => ⟨hplt, hlinks, hlanes, hclk, hpower, fun off hoff => hreg off hoff.1⟩

theorem refl (s : State) : s.undisturbed s := .of_parts rfl rfl rfl rfl rfl fun _ _ => rfl

end State.undisturbed

theorem State.faultEvent_near (s : State) (code : Nat) {off : Nat} (hoff : off < 0x3000000) : (s.faultEvent code).reg off = s.reg off := by
  unfold State.faultEvent
  split
  · refine s.events_reg _ 0 fun w _ => ?_
    unfold R.win
    omega
  · rfl

/-- A fault that is not fatal follows with its event and its reports alone. -/
theorem State.followFault_notFatal {s : State} {code : Nat} (hclass : s.classOf code ≠ 2) (r : BitVec 256) :
    ∃ w, s.followFault code r = { s.faultEvent code with csw := w } := by
  have hsent : ∀ (l : List Nat) (u : State), ∃ w, l.foldl (fun t d => t.injectCell (t.mkCell 0x33 d 0 0 (recordPayload r t.nodeId))) u = { u with csw := w } := by
    intro l
    induction l with
    | nil => exact fun u => ⟨u.csw, rfl⟩
    | cons d l ih =>
      intro u
      obtain ⟨w, hw⟩ := ih (u.injectCell (u.mkCell 0x33 d 0 0 (recordPayload r u.nodeId)))
      exact ⟨w, hw⟩
  unfold State.followFault
  dsimp only
  rw [if_neg (by rwa [State.classOf_congr (s.faultEvent_plt code) code])]
  split
  · exact hsent _ _
  · exact ⟨_, rfl⟩

theorem State.raiseFault_undisturbed (s : State) {code : Nat} (hcode : code < 112) (unit count detail : Nat) :
    s.undisturbed (s.raiseFault code unit count detail) := by
  have hmarkLanes : (s.markFault code unit count detail).lanes = s.lanes :=
    (State.agree_of_allBut .lanes (by simp) : (s.logRecord (s.faultRecord code unit count detail)).lanes = s.lanes)
  have hmarkClk : (s.markFault code unit count detail).clk = s.clk :=
    (State.agree_of_allBut .clk (by simp) : (s.logRecord (s.faultRecord code unit count detail)).clk = s.clk)
  have heventLanes (t : State) : (t.faultEvent code).lanes = t.lanes ∧ (t.faultEvent code).clk = t.clk := by
    unfold State.faultEvent
    split
    · exact ⟨State.events_lanes _ _ _, State.agree_of_allBut .clk (by simp)⟩
    · exact ⟨rfl, rfl⟩
  have hrecord : s.undisturbed (s.recordFault code unit count detail) := fun hcalm => by
    rw [State.recordFault_eq]
    obtain ⟨w, hw⟩ := State.followFault_notFatal (s := s.markFault code unit count detail) (code := code)
      (by rw [State.classOf_congr (s.markFault_plt ..)]; exact hcalm code hcode) (s.faultRecord code unit count detail)
    obtain ⟨hlanes, hclk⟩ := heventLanes (s.markFault code unit count detail)
    have hplt := ((s.markFault code unit count detail).faultEvent_plt code).trans (s.markFault_plt ..)
    have hlinks := ((s.markFault code unit count detail).faultEvent_links code).trans (s.markFault_links ..)
    have hpower : ((s.markFault code unit count detail).faultEvent code).kpr.power = s.kpr.power := by
      rw [State.faultEvent_kpr]
      exact s.markFault_power code unit count detail
    have hreg (off : Nat) (hoff : 0x202000 ≤ off ∧ off < 0x3000000) : ((s.markFault code unit count detail).faultEvent code).reg off = s.reg off := by
      rw [State.faultEvent_near _ code hoff.2]
      exact s.markFault_reg code unit count detail (by simp only [R.faultLost]; omega) (by simp only [R.faultSeq]; omega)
        (by simp only [R.faultActive]; omega)
    rw [hw]
    exact ⟨hplt, hlinks, hlanes.trans hmarkLanes, hclk.trans hmarkClk, hpower, hreg⟩
  unfold State.raiseFault
  split
  · split
    · exact .refl s
    · exact hrecord
  · exact hrecord

/-- At a calm node links and lanes stay, and so does what makes the node calm. -/
def State.linksHold (s t : State) : Prop := s.calm → t.plt = s.plt ∧ t.links = s.links ∧ t.lanes = s.lanes

theorem State.raiseFault_linksHold (s : State) {code : Nat} (hcode : code < 112) (unit count detail : Nat) :
    s.linksHold (s.raiseFault code unit count detail) := fun hcalm => by
  obtain ⟨hplt, hlinks, hlanes, -⟩ := s.raiseFault_undisturbed hcode unit count detail hcalm
  exact ⟨hplt, hlinks, hlanes⟩

theorem tolerates_linksHold : Tolerates State.linksHold where
  trans h1 h2 hcalm := by
    obtain ⟨hplt1, hlinks1, hlanes1⟩ := h1 hcalm
    obtain ⟨hplt2, hlinks2, hlanes2⟩ := h2 (State.calm_congr hplt1 hcalm)
    exact ⟨hplt2.trans hplt1, hlinks2.trans hlinks1, hlanes2.trans hlanes1⟩
  side _ _ _ _ _ _ _ _ := ⟨rfl, rfl, rfl⟩
  raise s code unit hcode := s.raiseFault_linksHold hcode unit 1 0

/-- The registers of a link's state and counters stay. -/
def State.shows (s t : State) : Prop := ∀ off, shownReg off → t.reg off = s.reg off

theorem State.shows.of_regs {s t : State} (h : t.regs = s.regs) : s.shows t := fun off _ => State.reg_congr h off

theorem State.shows.trans {s t u : State} (h1 : s.shows t) (h2 : t.shows u) : s.shows u := fun off hoff => (h2 off hoff).trans (h1 off hoff)

theorem not_farReg_of_shownReg {off : Nat} (h : shownReg off) : ¬ farReg off := by
  obtain ⟨hlow, hhigh, -⟩ := h
  rintro (⟨-, hlane⟩ | ⟨w, -, rfl⟩)
  · omega
  · unfold R.win at hhigh
    omega

theorem State.raiseFault_shows (s : State) {code : Nat} (hcode : code < 112) (unit count detail : Nat) : s.shows (s.raiseFault code unit count detail) :=
  fun _ hoff => by
    have hlow := hoff.1
    exact s.raiseFault_reg unit count detail (not_farReg_of_shownReg hoff) (by simp only [R.faultLost]; omega) (by simp only [R.faultSeq]; omega)
      (by simp only [R.faultActive]; omega)

theorem tolerates_shows : Tolerates State.shows where
  trans := State.shows.trans
  side _ _ _ _ _ _ h := h
  raise s _ unit hcode := s.raiseFault_shows hcode unit 1 0

/-! ## What leaves links alone -/

theorem State.wakeLink_links (s : State) (n : Nat) : (s.wakeLink n).links = s.links ∧ (s.wakeLink n).plt = s.plt :=
  ⟨State.agree_of_allBut .links (by simp), State.agree_of_allBut .plt (by simp)⟩

theorem State.lanesOff_links (s : State) (n : Nat) : (s.lanesOff n).links = s.links ∧ (s.lanesOff n).plt = s.plt :=
  ⟨State.agree_of_allBut .links (by simp), State.agree_of_allBut .plt (by simp)⟩

theorem State.trainLanes_links (s : State) (n : Nat) : (s.trainLanes n).links = s.links ∧ (s.trainLanes n).plt = s.plt :=
  ⟨State.agree_of_allBut .links (by simp), State.agree_of_allBut .plt (by simp)⟩

/-! ## The stream of a link -/

/-- What the transmitter's stream leaves of a link's record. -/
def Link.unstreamed (x : Link) : List Replay × BitVec 3 × List Cell × BitVec 16 := (x.replay, x.lastRetrain, x.pool, x.expect)

theorem State.pushSlot_unstreamed (s : State) (n : Nat) (slot : BitVec 768) : ((s.pushSlot n slot).link n).unstreamed = (s.link n).unstreamed := by
  have hset (x : Link) (line : Tab (BitVec 2720)) (msg : Tab Nat) (pos : Nat) :
      Link.unstreamed { x with txLine := line, txMsg := msg, txPos := pos } = x.unstreamed := rfl
  have hsetMsg (x : Link) (msg : Tab Nat) (pos : Nat) : Link.unstreamed { x with txMsg := msg, txPos := pos } = x.unstreamed := rfl
  unfold State.pushSlot
  dsimp only
  split
  · rw [State.link_setLink_self, hsetMsg]
  · rw [State.link_setLink_self, hset]

theorem State.sendSlot_unstreamed (s : State) (n : Nat) (c : Cell) : ((s.sendSlot n c).link n).unstreamed = (s.link n).unstreamed := by
  have hset (x : Link) (slot : Option Cell) : Link.unstreamed { x with txSlot := slot } = x.unstreamed := rfl
  unfold State.sendSlot
  rw [State.link_modLink, if_pos rfl, hset, State.pushSlot_unstreamed]

theorem State.stopStream_unstreamed (s : State) (n : Nat) : ((s.stopStream n).link n).unstreamed = (s.link n).unstreamed := by
  unfold State.stopStream
  dsimp only
  split
  · rfl
  · rw [State.link_modLink, if_pos rfl]
    exact foldl_keeps (fun t : State => (t.link n).unstreamed) (fun t _ => t.sendSlot_unstreamed n _) _ _

theorem State.stopStream_plt (s : State) (n : Nat) : (s.stopStream n).plt = s.plt := State.agree_of_allBut .plt (by simp)

theorem not_laneReg_of_shownReg {off : Nat} (h : shownReg off) : ¬ laneReg off := fun hlane => not_farReg_of_shownReg h (.inl hlane)

theorem State.wakeLink_shows (s : State) {n : Nat} (hn : n < 32) : s.shows (s.wakeLink n) := fun off hoff => by
  have hwake (t : State) (l : Nat) (hl : l < 288) : (t.wakeLane l).reg off = t.reg off := by
    unfold State.wakeLane
    dsimp only
    split
    · exact (State.modLane_reg _ _ _ _).trans ((State.laneTo_reg _ hl _ (not_laneReg_of_shownReg hoff)).trans (State.setDomain_reg _ _ _ _))
    · exact State.setDomain_reg _ _ _ _
  unfold State.wakeLink
  dsimp only
  refine (foldl_keeps_mem (fun t : State => t.reg off) (List.range 9) (fun t k hk => hwake t _ ?_) _).trans ?_
  · have hk9 := List.mem_range.mp hk
    omega
  · have hlow := hoff.1
    split
    · exact (State.reg_setFld_ne _ _ _ _ (by simp only [R.kprDomain]; omega)).trans (State.setDomain_reg _ _ _ _)
    · exact State.setDomain_reg _ _ _ _

theorem State.lanesOff_shows (s : State) {n : Nat} (hn : n < 32) : s.shows (s.lanesOff n) := fun off hoff =>
  foldl_keeps_mem (fun t : State => t.reg off) (List.range 9) (fun t k hk => t.laneOff_reg (by
    have hk9 := List.mem_range.mp hk
    omega) (not_laneReg_of_shownReg hoff)) s

theorem State.acksFirst_received (s : State) (n : Nat) :
    ((s.acksFirst n).link n).pool = (s.link n).pool ∧ ((s.acksFirst n).link n).expect = (s.link n).expect := by
  have hack (x : Link) (a : BitVec 16) : (x.takeAck a).pool = x.pool ∧ (x.takeAck a).expect = x.expect := by
    unfold Link.takeAck
    dsimp only
    split <;> exact ⟨rfl, rfl⟩
  unfold State.acksFirst
  rw [State.link_modLink, if_pos rfl]
  exact ⟨foldl_keeps Link.pool (f := fun y (c : Cell) => y.takeAck c.ack) (fun y c => (hack y c.ack).1) _ _,
    foldl_keeps Link.expect (f := fun y (c : Cell) => y.takeAck c.ack) (fun y c => (hack y c.ack).2) _ _⟩

/-! ## A link goes down -/

/-- A fall of a link: its record set, its cells disposed of, its lanes off, and then what it is to send. -/
def State.fallen (s : State) (n : Nat) (f g : Link → Link) : State := (((s.modLink n f).dispose n).lanesOff n).modLink n g

/-- A fall of a link at a calm node: its record as it is set, its queues emptied. -/
theorem State.fallen_link {s : State} (hcalm : s.calm) (n : Nat) (f g : Link → Link) :
    (s.fallen n f g).link n = g (emptied (f (s.link n))) ∧ (s.fallen n f g).calm := by
  obtain ⟨hplt, hlinks, -⟩ := tolerates_linksHold.dispose (s.modLink n f) n (State.calm_congr (s := s) rfl hcalm)
  obtain ⟨hofflinks, hoffplt⟩ := ((s.modLink n f).dispose n).lanesOff_links n
  have hplt' : (((s.modLink n f).dispose n).lanesOff n).plt = s.plt := hoffplt.trans (hplt.trans rfl)
  have hlink : (((s.modLink n f).dispose n).lanesOff n).link n = emptied (f (s.link n)) := by
    rw [State.link_congr hofflinks, State.link_congr hlinks, State.link_setLink_self, State.link_modLink, if_pos rfl]
  unfold State.fallen
  generalize ((s.modLink n f).dispose n).lanesOff n = u at hplt' hlink
  refine ⟨?_, State.calm_congr (t := u.modLink n g) hplt' hcalm⟩
  rw [State.link_modLink, if_pos rfl, hlink]

/-- How a link's record falls. -/
def Link.fell (y : Link) (cause count : Nat) : Link :=
  { y with state := .down, width := 0, downCause := BitVec.ofNat 3 cause, drainAt := none, downAt := some count }

/-- The link's record with its control cells. -/
def Link.told (y : Link) (cells : List Cell) : Link := { y with ctl := cells }

theorem State.goDown_eq {s : State} {n : Nat} (hdis : (s.link n).state ≠ .disabled) (hdown : (s.link n).state ≠ .down) (cause : Nat) :
    s.goDown n cause = if (s.link n).state = .up
      then ((((s.wakeLink n).acksFirst n).fallen n (fun y => y.fell cause s.clk.count) (·.told (s.downCells n cause))).raiseFault 11 n 1 0).leaveUp n
      else ((s.stopStream n).fallen n (fun y => y.fell cause s.clk.count) (·.told [])).raiseFault 11 n 1 0 := by
  unfold State.goDown
  dsimp only
  rw [if_neg hdis, if_neg hdown]
  by_cases hup : (s.link n).state = .up
  · rw [if_pos hup, decide_eq_true hup]
    rfl
  · have hno : decide ((s.link n).state = .up) = false := decide_eq_false hup
    rw [if_neg hup, hno]
    rfl

/-- A link that is neither DOWN nor DISABLED goes DOWN with the cause, its pool and its place in the sequence kept. -/
theorem State.goDown_link {s : State} {n : Nat} (hcalm : s.calm) (hdis : (s.link n).state ≠ .disabled) (hdown : (s.link n).state ≠ .down) (cause : Nat) :
    ∃ (y : Link) (cells : List Cell), y.pool = (s.link n).pool ∧ y.expect = (s.link n).expect ∧
      (s.goDown n cause).link n = (emptied (y.fell cause s.clk.count)).told cells := by
  rw [State.goDown_eq hdis hdown]
  split
  · obtain ⟨hlink, hcalm'⟩ := State.fallen_link (State.calm_congr (State.agree_of_allBut .plt (by simp) : ((s.wakeLink n).acksFirst n).plt = s.plt) hcalm) n
      (fun y => y.fell cause s.clk.count) (·.told (s.downCells n cause))
    have hend := tolerates_linksHold.trans (tolerates_linksHold.raise _ 11 n (by decide)) (tolerates_linksHold.leaveUp _ n) hcalm'
    obtain ⟨hpool, hexpect⟩ := (s.wakeLink n).acksFirst_received n
    rw [State.link_congr (s.wakeLink_links n).1] at hpool hexpect
    exact ⟨_, _, hpool, hexpect, (State.link_congr hend.2.1 n).trans hlink⟩
  · obtain ⟨hlink, hcalm'⟩ := State.fallen_link (State.calm_congr (s.stopStream_plt n) hcalm) n (fun y => y.fell cause s.clk.count) (·.told [])
    have hend := tolerates_linksHold.raise _ 11 n (by decide) hcalm'
    obtain ⟨-, -, hpool, hexpect⟩ := Prod.ext_iff.mp (s.stopStream_unstreamed n) |>.imp_right fun h => Prod.ext_iff.mp h |>.imp_right Prod.ext_iff.mp
    exact ⟨_, _, hpool, hexpect, (State.link_congr hend.2.1 n).trans hlink⟩

theorem State.goDown_shows (s : State) {n : Nat} (hn : n < 32) (cause : Nat) : s.shows (s.goDown n cause) := by
  have hfallen (t : State) (f g : Link → Link) : t.shows (t.fallen n f g) := fun off hoff => by
    have hdispose := tolerates_shows.dispose (t.modLink n f) n off hoff
    rw [State.setLink_reg, State.modLink_reg] at hdispose
    unfold State.fallen
    rw [State.modLink_reg, State.lanesOff_shows _ hn off hoff, hdispose]
  have hraised (t : State) (f g : Link → Link) (h : s.shows t) : s.shows ((t.fallen n f g).raiseFault 11 n 1 0) :=
    (h.trans (hfallen t f g)).trans (State.raiseFault_shows _ (by decide) n 1 0)
  by_cases hdis : (s.link n).state = .disabled
  · unfold State.goDown
    dsimp only
    rw [if_pos hdis]
    exact .of_regs rfl
  · by_cases hdown : (s.link n).state = .down
    · unfold State.goDown
      dsimp only
      rw [if_neg hdis, if_pos hdown]
      split
      · exact .of_regs rfl
      · exact .of_regs rfl
    · rw [State.goDown_eq hdis hdown]
      split
      · have hstart : s.shows ((s.wakeLink n).acksFirst n) := (s.wakeLink_shows hn).trans (.of_regs (State.agree_of_allBut .regs (by simp)))
        exact (hraised _ _ _ hstart).trans (tolerates_shows.leaveUp _ n)
      · have hstart : s.shows (s.stopStream n) := .of_regs (State.agree_of_allBut .regs (by simp))
        exact hraised _ _ _ hstart

theorem State.goDown_down {s : State} {n : Nat} (hcalm : s.calm) (hdis : (s.link n).state ≠ .disabled) (hdown : (s.link n).state ≠ .down) (cause : Nat) :
    ((s.goDown n cause).link n).state = .down ∧ ((s.goDown n cause).link n).downCause = BitVec.ofNat 3 cause := by
  obtain ⟨y, cells, -, -, hlink⟩ := State.goDown_link hcalm hdis hdown cause
  rw [hlink]
  exact ⟨rfl, rfl⟩

/-! ## A link retrains -/

/-- How a link's record enters RETRAIN. -/
def Link.retrains (y : Link) (reason : Nat) (cells : List Cell) (now : Nat) : Link :=
  { y with state := .retrain, fromRetrain := true, ctl := cells, enteredAt := now
           lastRetrain := if reason = 0 then y.lastRetrain else BitVec.ofNat 3 reason }

theorem State.enterRetrain_link {s : State} {n : Nat} (hcalm : (s.link n).state = .up → s.calm) (reason : Nat) :
    ∃ (y : Link) (cells : List Cell), y.unstreamed = (s.link n).unstreamed ∧ (s.enterRetrain n reason).link n = y.retrains reason cells s.now := by
  have hset (u : State) (f : Link → Link) : (((u.modLink n f).bump (R.link n + 0x40)).trainLanes n).link n = f (u.link n) := by
    rw [State.link_congr (State.trainLanes_links _ n).1, State.bump_link, State.link_modLink, if_pos rfl]
  unfold State.enterRetrain
  dsimp only
  by_cases hup : (s.link n).state = .up
  · rw [decide_eq_true hup]
    have hheld := tolerates_linksHold.leaveUp ((((s.wakeLink n).modLink n fun y => y.retrains reason (List.replicate 8 (s.linkCell n 0x3C 0)) s.now).bump
      (R.link n + 0x40)).trainLanes n) n (State.calm_congr (State.agree_of_allBut .plt (by simp)) (hcalm hup))
    refine ⟨(s.wakeLink n).link n, _, ?_, (State.link_congr hheld.2.1 n).trans (hset _ _)⟩
    rw [State.link_congr (s.wakeLink_links n).1]
  · rw [decide_eq_false hup]
    exact ⟨(s.stopStream n).link n, _, s.stopStream_unstreamed n, hset _ _⟩

end Sys2Proof.Machine
end

section
/-! The states of Table 05-6: training, the time limits and realignment (R121, R142, R143, R153). -/

namespace Sys2Proof.Machine

/-- A link that enters RETRAIN shows the reason, 0 keeping the last one, and keeps its replay buffer. -/
theorem State.enterRetrain_retrains {s : State} {n : Nat} (hup : (s.link n).state = .up → s.calm) (reason : Nat) :
    ((s.enterRetrain n reason).link n).state = .retrain ∧
    ((s.enterRetrain n reason).link n).lastRetrain = (if reason = 0 then (s.link n).lastRetrain else BitVec.ofNat 3 reason) ∧
    ((s.enterRetrain n reason).link n).replay = (s.link n).replay := by
  obtain ⟨y, cells, hy, hlink⟩ := State.enterRetrain_link hup reason
  obtain ⟨hreplay, hlast, -⟩ := Prod.ext_iff.mp hy |>.imp_right Prod.ext_iff.mp
  rw [hlink]
  refine ⟨rfl, ?_, hreplay⟩
  rw [show (s.link n).lastRetrain = y.lastRetrain from hlast.symm]
  rfl

/-- The attempts of the last second (R143). -/
def State.recentAttempts (s : State) (n : Nat) : List Nat := (s.link n).attempts.filter fun a => decide (s.now < a + 1000000000)

/-- A failed attempt is followed by the next, the third of a second by DOWN. -/
theorem State.failedAttempt_acts {s : State} {n : Nat} (hcalm : s.calm) (hdis : (s.link n).state ≠ .disabled)
    (hdown : (s.link n).state ≠ .down) (reason : Nat) :
    ((s.recentAttempts n).length < 2 → ((s.failedAttempt n reason).link n).state = .retrain ∧
      ((s.failedAttempt n reason).link n).lastRetrain = (if reason = 0 then (s.link n).lastRetrain else BitVec.ofNat 3 reason) ∧
      ((s.failedAttempt n reason).link n).replay = (s.link n).replay) ∧
    (2 ≤ (s.recentAttempts n).length → ((s.failedAttempt n reason).link n).state = .down ∧ ((s.failedAttempt n reason).link n).downCause = 2) := by
  have hlink : (s.modLink n fun y => { y with attempts := s.recentAttempts n ++ [s.now] }).link n =
      { s.link n with attempts := s.recentAttempts n ++ [s.now] } := by
    rw [State.link_modLink, if_pos rfl]
  have heq : s.failedAttempt n reason = if 2 ≤ (s.recentAttempts n).length then (s.modLink n fun y => { y with attempts := s.recentAttempts n ++ [s.now] }).goDown n 2
      else (s.modLink n fun y => { y with attempts := s.recentAttempts n ++ [s.now] }).enterRetrain n reason := rfl
  have hcalm' : (s.modLink n fun y => { y with attempts := s.recentAttempts n ++ [s.now] }).calm := State.calm_congr (s := s) rfl hcalm
  generalize (s.modLink n fun y => { y with attempts := s.recentAttempts n ++ [s.now] }) = u at hlink heq hcalm'
  rw [heq]
  refine ⟨fun hfew => ?_, fun hmany => ?_⟩
  · rw [if_neg (Nat.not_le.mpr hfew)]
    obtain ⟨hstate, hlast, hreplay⟩ := u.enterRetrain_retrains (n := n) (fun _ => hcalm') reason
    rw [hlink] at hlast hreplay
    exact ⟨hstate, hlast, hreplay⟩
  · rw [if_pos hmany]
    exact State.goDown_down hcalm' (by rw [hlink]; exact hdis) (by rw [hlink]; exact hdown) 2

/-- Settles O25: with every lane ready a training link enters IDENT or goes DOWN, and the time limits start the next attempt. -/
theorem linkStatesFollowTable56 : Obligations.LinkStatesFollowTable56 := by
  unfold Obligations.LinkStatesFollowTable56
  refine ⟨fun n s hcalm hstate hlanes => ?_, fun n s hcalm hstate => ?_, fun n s hcalm hstate => ?_, fun n words skew s hstate hgood hskew => ?_,
    fun n s hstate hdue => ?_⟩
  · have hready : ((List.range 9).all fun k => (s.lane (9 * n.val + k)).state == .active || (s.lane (9 * n.val + k)).state == .standby ||
        (s.lane (9 * n.val + k)).state == .failed) = true := by
      refine List.all_eq_true.mpr fun k hk => ?_
      obtain h | h | h := hlanes k (List.mem_range.mp hk) <;> simp [h]
    have hdis : (s.link n).state ≠ .disabled ∧ (s.link n).state ≠ .down := by
      obtain h | h := hstate <;> simp [h]
    change ∃ t, execTrainComplete n s = .next t ∧ _
    unfold execTrainComplete
    dsimp only
    rw [if_pos ⟨hstate, hready⟩]
    split
    · next hfew => exact ⟨_, rfl, fun hmany => absurd hmany (Nat.not_le.mpr hfew), fun _ => State.goDown_down hcalm hdis.1 hdis.2 3⟩
    · next hmany =>
      refine ⟨_, rfl, fun _ => ?_, fun hfew => absurd hfew hmany⟩
      refine ⟨?_, ?_, ?_, ?_, fun m hm => ?_⟩
      · rw [State.tookFree_link, State.link_setLink_self]
      · rw [State.tookFree_link, State.link_setLink_self]
      · rw [State.tookFree_link, State.link_setLink_self]
      · rw [State.tookFree_link, State.link_setLink_self]
      · rw [State.tookFree_link, State.link_setLink, if_neg hm]
  · change ∃ t, execIdentLimit n s = .next t ∧ _
    unfold execIdentLimit
    dsimp only
    split
    · next hdue =>
      obtain ⟨hfew, hmany⟩ := State.failedAttempt_acts hcalm (by rw [hstate]; decide) (by rw [hstate]; decide) 5
      exact ⟨_, rfl, fun hearly => absurd hdue.2 (Nat.not_le.mpr hearly), fun _ => ⟨hfew, hmany⟩⟩
    · next hnot => exact ⟨s, rfl, fun _ => rfl, fun hdue => absurd ⟨hstate, hdue⟩ hnot⟩
  · change ∃ t, execRetrainLimit n s = .next t ∧ _
    unfold execRetrainLimit
    dsimp only
    split
    · next hdue =>
      obtain ⟨hfew, hmany⟩ := State.failedAttempt_acts hcalm (by rw [hstate]; decide) (by rw [hstate]; decide) 0
      exact ⟨_, rfl, fun hearly => absurd hdue.2 (Nat.not_le.mpr hearly), fun _ => ⟨fun h => ⟨(hfew h).1, (hfew h).2.1⟩, hmany⟩⟩
    · next hnot => exact ⟨s, rfl, fun _ => rfl, fun hdue => absurd ⟨hstate, hdue⟩ hnot⟩
  · have hretrain := s.enterRetrain_retrains (n := n.val) (fun hup => absurd (hstate.symm.trans hup) (by decide)) 3
    change ∃ t, execRealignDone n words s = .next t ∧ _
    unfold execRealignDone
    rw [if_pos ⟨hstate, hgood⟩, hskew]
    dsimp only
    split
    · next hsmall =>
      refine ⟨_, rfl, fun _ => ⟨?_, ?_⟩, fun hlarge => absurd hsmall (Nat.not_le.mpr hlarge)⟩
      · unfold State.showSkew
        rw [State.setReg_link, State.link_modLink, if_pos rfl]
      · exact State.reg_setReg_self _ _ _
    · next hlarge => exact ⟨_, rfl, fun hsmall => absurd hsmall hlarge, fun _ => ⟨hretrain.1, hretrain.2.1⟩⟩
  · have hretrain := s.enterRetrain_retrains (n := n.val) (fun hup => absurd (hstate.symm.trans hup) (by decide)) 3
    exact ⟨_, if_pos ⟨hstate, hdue⟩, hretrain.1, hretrain.2.1⟩

end Sys2Proof.Machine
end

section
/-! Receipt on a link (R126, R128, R129, R133, R135, R141, R154). -/

namespace Sys2Proof.Machine

/-! ## Acknowledgements -/

/-- What is still to be acknowledged is no more than before. -/
theorem Link.takeAck_overResent {x : Link} {limit : Nat} (h : x.overResent limit = false) (ack : BitVec 16) : (x.takeAck ack).overResent limit = false := by
  unfold Link.takeAck Link.applyAck
  dsimp only
  split
  · exact h
  · unfold Link.overResent at h ⊢
    rw [List.any_eq_false] at h ⊢
    exact fun r hr => h r (List.mem_of_mem_filter hr)

theorem Link.takeAck_state (x : Link) (ack : BitVec 16) : (x.takeAck ack).state = x.state := by
  unfold Link.takeAck
  dsimp only
  split <;> rfl

/-- An acknowledgement of nothing new leaves the link as it was. -/
theorem Link.takeAck_quiet (x : Link) : x.takeAck x.lastAck = x := by
  unfold Link.takeAck
  exact if_pos (.inl (by rw [BitVec.sub_self]; rfl))

theorem Link.takeAck_releases {x : Link} {ack : BitVec 16} (hin : (ack - x.lastAck).toNat ≤ (x.nextSeq - 1 - x.lastAck).toNat) :
    (x.takeAck ack).lastAck = ack ∧
    ∀ r, r ∈ (x.takeAck ack).replay ↔ r ∈ x.replay ∧ (ack = x.lastAck ∨ (ack - x.lastAck).toNat < (r.seq - x.lastAck).toNat) := by
  by_cases hsame : ack = x.lastAck
  · rw [hsame, Link.takeAck_quiet]
    exact ⟨rfl, fun r => ⟨fun hr => ⟨hr, .inl rfl⟩, And.left⟩⟩
  · have hnew : (ack - x.lastAck).toNat ≠ 0 := fun h => hsame (by
      have hzero : ack - x.lastAck = 0 := BitVec.eq_of_toNat_eq h
      exact sub_eq_zero.mp hzero)
    have htake : x.takeAck ack = x.applyAck ack := if_neg fun h => h.elim hnew fun hlt => absurd hin (Nat.not_le.mpr hlt)
    rw [htake]
    refine ⟨rfl, fun r => ?_⟩
    unfold Link.applyAck
    dsimp only
    rw [List.mem_filter, decide_eq_true_iff, or_iff_right hsame]

/-- An ACK number of what was sent, with no NAK, releases what it acknowledges. -/
theorem State.receiveAck_within {s : State} {n : Nat} {c : Cell} (hnak : c.nak = 0)
    (hin : (c.ack - (s.link n).lastAck).toNat ≤ ((s.link n).nextSeq - 1 - (s.link n).lastAck).toNat)
    (hres : (s.link n).state = .up → (s.link n).overResent (s.fld R.linkCfg 24 8) = false) (seq : Nat) :
    s.receiveAck n c seq = (true, s.setLink n ((s.link n).takeAck c.ack)) := by
  have hnone : ((List.range 16).filter fun i => bit c.nak i) = [] := by
    rw [hnak]
    decide
  have hnew : ¬ ((s.link n).nextSeq - 1 - (s.link n).lastAck).toNat < (c.ack - (s.link n).lastAck).toNat := Nat.not_lt.mpr hin
  have hfine : ¬ (((s.link n).takeAck c.ack).state = .up ∧
      ((s.link n).takeAck c.ack).overResent ((s.setLink n ((s.link n).takeAck c.ack)).fld R.linkCfg 24 8) = true) := fun ⟨hup, hover⟩ => by
    rw [Link.takeAck_state] at hup
    rw [State.setLink_fld, Link.takeAck_overResent (hres hup)] at hover
    exact absurd hover (by decide)
  unfold State.receiveAck
  dsimp only
  rw [hnone, if_neg fun h => hnew h.1]
  exact (if_neg Bool.false_ne_true).trans (if_neg hfine)

/-- A cell of the link's own with a sound header: its acknowledgement is taken and its number may show a gap. -/
theorem State.localRx_within {s : State} {n : Nat} {c : Cell} (hfault : s.localFault c = none) (hnak : c.nak = 0)
    (hin : (c.ack - (s.link n).lastAck).toNat ≤ ((s.link n).nextSeq - 1 - (s.link n).lastAck).toNat)
    (hres : (s.link n).state = .up → (s.link n).overResent (s.fld R.linkCfg 24 8) = false) :
    ∃ u top, s.localRx n c = (true, u) ∧ u = { s with links := u.links } ∧ u.link n = { (s.link n).takeAck c.ack with top := top } := by
  have hlink := s.link_setLink_self n ((s.link n).takeAck c.ack)
  have hrx : s.localRx n c = (true, (s.setLink n ((s.link n).takeAck c.ack)).localSeq n c) := by
    unfold State.localRx
    rw [hfault, State.receiveAck_within hnak hin hres]
  have hseq (u : State) : ∃ top, u.localSeq n c = { u with links := (u.localSeq n c).links } ∧ (u.localSeq n c).link n = { u.link n with top := top } := by
    unfold State.localSeq
    dsimp only
    split
    · exact ⟨c.seq, rfl, State.link_setLink_self _ _ _⟩
    · exact ⟨(u.link n).top, rfl, rfl⟩
  obtain ⟨top, hparts, htop⟩ := hseq (s.setLink n ((s.link n).takeAck c.ack))
  rw [hlink] at htop
  exact ⟨_, top, hrx, hparts, htop⟩

theorem State.localRx_quiet {s : State} {n : Nat} {c : Cell} (hfault : s.localFault c = none) (hquiet : quietAck (s.link n) c)
    (hres : (s.link n).state = .up → (s.link n).overResent (s.fld R.linkCfg 24 8) = false) :
    ∃ u top, s.localRx n c = (true, u) ∧ u = { s with links := u.links } ∧ u.link n = { s.link n with top := top } := by
  obtain ⟨hack, hnak⟩ := hquiet
  have hin : (c.ack - (s.link n).lastAck).toNat ≤ ((s.link n).nextSeq - 1 - (s.link n).lastAck).toNat := by
    rw [hack, BitVec.sub_self]
    exact Nat.zero_le _
  obtain ⟨u, top, hrx, hparts, htop⟩ := State.localRx_within hfault hnak hin hres
  rw [hack, Link.takeAck_quiet] at htop
  exact ⟨u, top, hrx, hparts, htop⟩

theorem State.onLink_of_localRx {s u : State} {n : Nat} {c : Cell} (hreads : (s.link n).readsSlots = true) (hrx : s.localRx n c = (true, u)) (f : State → State) :
    s.onLink n c f = f u := by
  unfold State.onLink
  rw [if_pos hreads]
  dsimp only
  rw [hrx]
  exact if_pos rfl

/-! ## Credit -/

/-- One kind's freed count of a CREDIT. -/
def State.takeFreedCount (n : Nat) (c : Cell) (t : State) (k : Nat) : State :=
  let f := bytesAt c.payload (2 * k) 2
  let x := t.link n
  let sent := tabGet 0 x.sent k
  if (sent + 65536 - f) % 65536 < 32768 then t.setLink n { x with peerFreed := tabSet 0 x.peerFreed k f }
  else t.linkViolation n 6 c 0

theorem State.receiveCredit_eq (s : State) (n : Nat) (c : Cell) : s.receiveCredit n c = (List.range 6).foldl (State.takeFreedCount n c) s := rfl

/-- A freed count that no cell was sent beyond. -/
def freedWithin (x : Link) (c : Cell) (k : Nat) : Prop := (tabGet 0 x.sent k + 65536 - bytesAt c.payload (2 * k) 2) % 65536 < 32768

theorem State.takeFreedCount_within {t : State} {n : Nat} {c : Cell} {k : Nat} (h : freedWithin (t.link n) c k) :
    (State.takeFreedCount n c t k).link n = { t.link n with peerFreed := tabSet 0 (t.link n).peerFreed k (bytesAt c.payload (2 * k) 2) } := by
  unfold freedWithin at h
  unfold State.takeFreedCount
  dsimp only
  rw [if_pos h, State.link_setLink_self]

/-- The freed counts that no cell was sent beyond are taken, kind by kind (R133). -/
theorem State.takeFreedCounts (s : State) (n : Nat) (c : Cell) (m : Nat) (hsent : ∀ k, k < m → freedWithin (s.link n) c k) :
    (((List.range m).foldl (State.takeFreedCount n c) s).link n).sent = (s.link n).sent ∧
    ∀ k, k < m → tabGet 0 (((List.range m).foldl (State.takeFreedCount n c) s).link n).peerFreed k = bytesAt c.payload (2 * k) 2 := by
  induction m with
  | zero => exact ⟨rfl, fun k hk => absurd hk (Nat.not_lt_zero k)⟩
  | succ m ih =>
    obtain ⟨hsame, hfreed⟩ := ih fun k hk => hsent k (Nat.lt_succ_of_lt hk)
    have hwithin : freedWithin (((List.range m).foldl (State.takeFreedCount n c) s).link n) c m := by
      unfold freedWithin
      rw [hsame]
      exact hsent m (Nat.lt_succ_self m)
    rw [List.range_succ, List.foldl_append, List.foldl_cons, List.foldl_nil, State.takeFreedCount_within hwithin]
    refine ⟨hsame, fun k hk => ?_⟩
    dsimp only
    rw [tabGet_set]
    split
    · next heq => rw [heq]
    · next hne => exact hfreed k (Nat.lt_of_le_of_ne (Nat.le_of_lt_succ hk) hne)

theorem State.receiveCredit_takes (s : State) (n : Nat) (c : Cell) (hsent : ∀ k, k < 6 → freedWithin (s.link n) c k) :
    ∀ k, k < 6 → tabGet 0 ((s.receiveCredit n c).link n).peerFreed k = bytesAt c.payload (2 * k) 2 := by
  rw [State.receiveCredit_eq]
  exact (State.takeFreedCounts s n c 6 hsent).2

/-! ## Slots -/

/-- The count of the words of a slot leaves links and their registers. -/
theorem State.countWord_slots (s : State) (l k off : Nat) (hoff : off % 0x400 ≠ 0x1C) :
    (s.countWord l (some k)).links = s.links ∧ (s.countWord l (some k)).reg off = s.reg off := by
  unfold State.countWord
  dsimp only
  split
  · exact ⟨rfl, rfl⟩
  · exact ⟨State.bumpBy_links _ _ _, State.reg_bumpBy_ne _ _ (by unfold R.lane; omega)⟩

theorem State.passUp_pools {s : State} {n : Nat} {c : Cell} (hbound : linkBound c = false) :
    s.passUp n c = (s.setReg64 (R.link n + 0x58) (s.reg64 (R.link n + 0x58) + 1)).setLink n { s.link n with pool := (s.link n).pool ++ [c] } := by
  unfold State.passUp
  simp only [hbound, Bool.false_eq_true, false_and, if_false]

/-- The next cell of the link's sequence, with nothing held before it, enters the pool and is counted. -/
theorem State.receiveSequenced_next {s : State} {n : Nat} {c : Cell} (hseq : c.seq = (s.link n).expect) (hheld : (s.link n).held = [])
    (hopen : (s.link n).restrict = 0) (hfault : s.arrivalFault n c = none) (hbound : linkBound c = false) :
    ((s.receiveSequenced n c).link n).pool = (s.link n).pool ++ [c] ∧ ((s.receiveSequenced n c).link n).expect = (s.link n).expect + 1 ∧
    ((s.receiveSequenced n c).link n).held = [] ∧
    (s.receiveSequenced n c).reg64 (R.link n + 0x58) = (s.reg64 (R.link n + 0x58) + 1) % 2 ^ 64 := by
  have hplain : cellIs c 0x30 = false := by
    unfold linkBound at hbound
    exact (Bool.or_eq_false_iff.mp hbound).1
  have hzero : (c.seq - (s.link n).expect).toNat = 0 := by
    rw [hseq, BitVec.sub_self]
    rfl
  have hnote (t : State) : ((t.noteChange n).link n).pool = (t.link n).pool ∧ ((t.noteChange n).link n).expect = (t.link n).expect ∧
      ((t.noteChange n).link n).held = (t.link n).held ∧ (t.noteChange n).reg64 (R.link n + 0x58) = t.reg64 (R.link n + 0x58) := by
    unfold State.noteChange
    rw [State.link_modLink, if_pos rfl, State.modLink_reg64]
    split <;> exact ⟨rfl, rfl, rfl, rfl⟩
  have htaken : s.receiveSequenced n c = s.takeSequenced n c := by
    unfold State.receiveSequenced
    dsimp only
    rw [hzero, hheld, hplain]
    rfl
  have hkept : s.takeSequenced n c = ((s.setLink n { s.link n with
      held := [{ seq := c.seq, cell := some c }], top := if ((s.link n).top - (s.link n).expect).toNat < (c.seq + 1 - (s.link n).expect).toNat
        then c.seq + 1 else (s.link n).top }).releaseHeld n 1).noteChange n := by
    unfold State.takeSequenced
    dsimp only
    rw [if_neg fun h => h.1 hopen, hfault]
    dsimp only
    rw [hheld]
    rfl
  have hrelease (t : State) (ht : (t.link n).held = [{ seq := c.seq, cell := some c }]) (hexp : (t.link n).expect = c.seq) :
      t.releaseHeld n 1 = (t.setLink n { t.link n with held := [], expect := (t.link n).expect + 1 }).passUp n c := by
    unfold State.releaseHeld
    dsimp only
    rw [ht, hexp]
    simp only [List.find?_cons, beq_self_eq_true, List.filter_cons, bne_self_eq_false, Bool.false_eq_true, if_false, List.filter_nil]
    rfl
  obtain ⟨hpool, hexpect, hnone, hcount⟩ := hnote ((s.setLink n { s.link n with
      held := [{ seq := c.seq, cell := some c }], top := if ((s.link n).top - (s.link n).expect).toNat < (c.seq + 1 - (s.link n).expect).toNat
        then c.seq + 1 else (s.link n).top }).releaseHeld n 1)
  rw [htaken, hkept, hpool, hexpect, hnone, hcount, hrelease _ (by rw [State.link_setLink_self]) (by rw [State.link_setLink_self]; exact hseq.symm),
    State.passUp_pools hbound]
  simp only [State.link_setLink_self, State.setLink_reg64, State.reg64_setReg64_self, and_self]

/-- A good slot of the mapped lanes' form on an UP link gives its cell to the sequence. -/
theorem State.receiveSlot_sequenced {s : State} {n : Nat} {form : BitVec 2} {slot : BitVec 768} {decoded : Bool} (hup : (s.link n).state = .up)
    (hform : form = (s.link n).width) (hform3 : form ≠ 3) (hgood : slotErrored slot decoded = false) (htyp : (slotCell slot).typ.toNat < 0x38)
    (hquiet : quietAck (s.link n) (slotCell slot)) (hres : (s.link n).overResent (s.fld R.linkCfg 24 8) = false) :
    s.receiveSlot n form.toNat slot decoded = (s.setLink n (s.link n)).receiveSequenced n (slotCell slot) := by
  obtain ⟨hack, hnak⟩ := hquiet
  have hreads : (s.link n).readsSlots = true := decide_eq_true (.inl hup)
  have hnot3 : form.toNat ≠ 3 := fun h => hform3 (BitVec.eq_of_toNat_eq h)
  have hexpected : s.formExpected n = form.toNat := by
    unfold State.formExpected
    dsimp only
    rw [if_pos (by rw [hup]; decide), hform]
  have hin : ((slotCell slot).ack - (s.link n).lastAck).toNat ≤ ((s.link n).nextSeq - 1 - (s.link n).lastAck).toNat := by
    rw [hack, BitVec.sub_self]
    exact Nat.zero_le _
  have hrx := State.receiveAck_within hnak hin (fun _ => hres) (slotCell slot).seq.toNat
  rw [hack, Link.takeAck_quiet] at hrx
  have hsound : ¬ (slotErrored slot decoded = true ∨ (form.toNat ≠ 3 ∧ form.toNat ≠ s.formExpected n) ∨
      (form.toNat = 3 ∧ (s.link n).state = .ident ∧ s.formExpected n ≠ 3)) := by
    rintro (h | ⟨-, h⟩ | ⟨h, -⟩)
    · exact absurd (hgood.symm.trans h) (by decide)
    · exact h hexpected.symm
    · exact hnot3 h
  have hnotLocal : decide (0x38 ≤ (slotCell slot).typ.toNat) = false := decide_eq_false (Nat.not_le.mpr htyp)
  unfold State.receiveSlot
  rw [hreads]
  refine (if_neg (by decide)).trans ((if_neg hsound).trans ?_)
  unfold State.goodSlot
  dsimp only
  rw [hnotLocal]
  refine (if_neg fun h => hnot3 h.1).trans ((if_neg Bool.false_ne_true).trans ?_)
  rw [if_neg Bool.false_ne_true, hrx]
  exact if_pos rfl

/-- An errored slot is counted; whatever follows, the pool and the place in the sequence stay. -/
theorem State.erroredCell_counts {s : State} (hcalm : s.calm) {n : Nat} (hn : n < 32) (hreads : (s.link n).readsSlots = true) :
    ((s.erroredCell n).link n).pool = (s.link n).pool ∧ ((s.erroredCell n).link n).expect = (s.link n).expect ∧
    ((s.erroredCell n).reg (R.link n + 0x24)).toNat = min ((s.reg (R.link n + 0x24)).toNat + 1) 0xFFFFFFFF := by
  have hshown : shownReg (R.link n + 0x24) := by
    unfold shownReg R.link
    omega
  have hstate := of_decide_eq_true hreads
  have hmarked (e : Tab Nat) : (((s.bump (R.link n + 0x24)).modLink n fun y => { y with errors := e }).link n) = { s.link n with errors := e } := by
    rw [State.link_modLink, if_pos rfl, State.bump_link]
  have hreg (e : Tab Nat) : (((s.bump (R.link n + 0x24)).modLink n fun y => { y with errors := e }).reg (R.link n + 0x24)).toNat =
      min ((s.reg (R.link n + 0x24)).toNat + 1) 0xFFFFFFFF := by
    rw [State.modLink_reg]
    exact s.toNat_reg_bump_self _
  unfold State.erroredCell
  dsimp only
  generalize (s.bump (R.link n + 0x24)).now / _ = k
  generalize windowAdd ((s.bump (R.link n + 0x24)).link n).errors k = e
  have hcalm' : ((s.bump (R.link n + 0x24)).modLink n fun y => { y with errors := e }).calm := State.calm_congr (s := s) rfl hcalm
  specialize hmarked e
  specialize hreg e
  generalize (s.bump (R.link n + 0x24)).modLink n (fun y => { y with errors := e }) = u at hmarked hreg hcalm'
  have hparts : (u.link n).state = (s.link n).state ∧ (u.link n).pool = (s.link n).pool ∧ (u.link n).expect = (s.link n).expect := by
    rw [hmarked]
    exact ⟨rfl, rfl, rfl⟩
  obtain ⟨hustate, hupool, huexpect⟩ := hparts
  split
  · obtain ⟨y, cells, hpool, hexpect, hlink⟩ := State.goDown_link (n := n) hcalm' (by rw [hustate]; rcases hstate with h | h <;> rw [h] <;> decide)
      (by rw [hustate]; rcases hstate with h | h <;> rw [h] <;> decide) 1
    rw [u.goDown_shows hn 1 _ hshown, hlink]
    exact ⟨hpool.trans hupool, hexpect.trans huexpect, hreg⟩
  · exact ⟨hupool, huexpect, hreg⟩

/-- Settles O28: what a slot, an ACK, a CREDIT, a RETRAIN and a PROTEST cell each do to the link that receives them. -/
theorem linkReceiptActs : Obligations.LinkReceiptActs := by
  unfold Obligations.LinkReceiptActs
  refine ⟨fun n form parts c s hup hform hform3 hcut hgood hended hc htyp hquiet hres hseq hheld hopen hfault hbound => ?_,
    fun n form parts s hcalm hreads hcut hended hbad => ?_, fun n c s hreads hc hfault hnak hres hin => ?_,
    fun n c s hreads hquiet hfault hres hsent => ?_, fun n c s hcalm hup hc hquiet hfault hres => ?_, fun n c s hup hc hquiet hfault hres => ?_⟩
  · subst hc
    have hreads : (s.link n).readsSlots = true := decide_eq_true (.inl hup)
    have hexec : exec (.sequencedCellRx n form parts) s = .next ((s.readSlot n form.toNat parts).ended.foldl
        (fun t e => t.countWord (9 * n.val + e.1) e.2) ((s.setLink n (s.link n)).receiveSequenced n (slotCell (s.readSlot n form.toNat parts).slot))) := by
      change execSequencedCellRx n form parts s = _
      unfold execSequencedCellRx
      rw [hreads]
      simp only [Bool.not_true, Bool.false_eq_true, if_false, hcut]
      rw [State.receiveSlot_sequenced hup hform hform3 hgood htyp hquiet hres]
    have hself : (s.setLink n (s.link n)).link n = s.link n := s.link_setLink_self n _
    obtain ⟨hpool, hexpect, hnone, hcount⟩ := State.receiveSequenced_next (s := s.setLink n (s.link n)) (n := n.val) (by rw [hself]; exact hseq)
      (by rw [hself]; exact hheld) (by rw [hself]; exact hopen) (by unfold State.arrivalFault; rw [hself]; exact hfault) hbound
    rw [hself] at hpool hexpect
    generalize (s.setLink n (s.link n)).receiveSequenced n (slotCell (s.readSlot n form.toNat parts).slot) = u at *
    have hwords (t : State) (e : Nat × Option Nat) (he : e ∈ (s.readSlot n form.toNat parts).ended) (off : Nat) (hoff : off % 0x400 ≠ 0x1C) :
        (t.countWord (9 * n.val + e.1) e.2).links = t.links ∧ (t.countWord (9 * n.val + e.1) e.2).reg off = t.reg off := by
      obtain ⟨k, hk⟩ := Option.isSome_iff_exists.mp (hended e he)
      rw [hk]
      exact t.countWord_slots _ k off hoff
    have hlinks := foldl_keeps_mem State.links (f := fun t e => t.countWord (9 * n.val + e.1) e.2) (s.readSlot n form.toNat parts).ended
      (fun t e he => (hwords t e he 0 (by decide)).1) u
    have hregs (off : Nat) (hoff : off % 0x400 ≠ 0x1C) := foldl_keeps_mem (fun t : State => t.reg off) (f := fun t e => t.countWord (9 * n.val + e.1) e.2)
      (s.readSlot n form.toNat parts).ended (fun t e he => (hwords t e he off hoff).2) u
    refine ⟨_, hexec, ?_, ?_, ?_, ?_⟩
    · rw [State.link_congr hlinks]; exact hpool
    · rw [State.link_congr hlinks]; exact hexpect
    · rw [State.link_congr hlinks]; exact hnone
    · rw [State.setLink_reg64] at hcount
      refine Eq.trans ?_ hcount
      unfold State.reg64
      rw [hregs _ (by unfold R.link; omega), hregs _ (by unfold R.link; omega)]
  · have hexec : exec (.sequencedCellRx n form parts) s = .next (s.erroredCell n) := by
      change execSequencedCellRx n form parts s = _
      unfold execSequencedCellRx
      rw [hreads]
      simp only [Bool.not_true, Bool.false_eq_true, if_false, hcut, hended, List.foldl_nil]
      unfold State.receiveSlot
      rw [hreads]
      exact congrArg Host.Outcome.next ((if_neg (by decide)).trans (if_pos (.inl hbad)))
    exact ⟨_, hexec, State.erroredCell_counts hcalm n.isLt hreads⟩
  · obtain ⟨u, top, hrx, hparts, hlink⟩ := State.localRx_within hfault hnak hin fun _ => hres
    obtain ⟨hack, hreplay⟩ := Link.takeAck_releases hin
    exact ⟨u, (if_pos hc).trans (congrArg Host.Outcome.next (State.onLink_of_localRx hreads hrx _)), by rw [hlink]; exact hack,
      by rw [hlink]; exact hreplay, by rw [hparts]⟩
  · obtain ⟨u, top, hrx, hparts, hlink⟩ := State.localRx_quiet hfault hquiet fun _ => hres
    have hfreed := u.receiveCredit_takes n.val c (by rw [hlink]; exact hsent)
    exact ⟨fun hc => ⟨_, (if_pos hc).trans (congrArg Host.Outcome.next (State.onLink_of_localRx hreads hrx _)), hfreed⟩,
      fun hc => ⟨_, (if_pos hc).trans (congrArg Host.Outcome.next (State.onLink_of_localRx hreads hrx _)), hfreed⟩⟩
  · obtain ⟨u, top, hrx, hparts, hlink⟩ := State.localRx_quiet hfault hquiet fun _ => hres
    have hustate : (u.link n).state = .up := by rw [hlink]; exact hup
    have hexec : exec (.retrainCellRx n c) s = .next (u.enterRetrain n 2) := by
      change execRetrainCellRx n c s = _
      unfold execRetrainCellRx
      rw [hc]
      refine (if_neg (by decide)).trans ((if_pos (.inl hup)).trans ?_)
      dsimp only
      rw [hrx]
      exact congrArg Host.Outcome.next (if_pos ⟨rfl, .inl hustate⟩)
    obtain ⟨hstate, hlast, -⟩ := u.enterRetrain_retrains (n := n.val) (fun _ => State.calm_congr (by rw [hparts]) hcalm) 2
    exact ⟨_, hexec, hstate, hlast⟩
  · obtain ⟨u, top, hrx, hparts, hlink⟩ := State.localRx_quiet hfault hquiet fun _ => hres
    have hreads : (s.link n).readsSlots = true := decide_eq_true (.inl hup)
    refine ⟨u.bump (R.link n + 0x38), (if_pos hc).trans (congrArg Host.Outcome.next (State.onLink_of_localRx hreads hrx _)), ?_, ?_⟩
    · rw [State.bump_link, hlink]
      exact hup
    · rw [State.toNat_reg_bump_self, hparts]
      rfl

end Sys2Proof.Machine
end

section
/-! The IDENT exchange (R121, R145 to R149, R154). -/

namespace Sys2Proof.Machine

/-! ## The map that both ends agree on -/

theorem State.agreedMap_congr {s t : State} {n : Nat} (hkpr : t.kpr = s.kpr) (hnonce : (t.link n).nonce = (s.link n).nonce) (hlanes : t.lanes = s.lanes)
    (hcap : t.reg (R.link n + 8) = s.reg (R.link n + 8)) (p : Line) : t.agreedMap n p = s.agreedMap n p := by
  have hworks : t.workingLanes n = s.workingLanes n := by
    unfold State.workingLanes State.laneWorks
    simp only [State.lane_congr hlanes]
  unfold State.agreedMap State.leads State.leaderMap
  rw [State.nodeId_congr hkpr, hnonce, hworks, hcap]

/-! ## What an IDENT that completes sets -/

/-- What the exchange fixes of a link. -/
def Link.identity (x : Link) : LinkState × Option Line × BitVec 2 × Bool := (x.state, x.peerIdent, x.width, x.known)

/-- At a calm node what the exchange fixes stays, and the node stays calm. -/
def State.keepsIdentity (n : Nat) (s t : State) : Prop := s.calm → t.calm ∧ (t.link n).identity = (s.link n).identity

namespace State.keepsIdentity

theorem trans {n : Nat} {s t u : State} (h1 : s.keepsIdentity n t) (h2 : t.keepsIdentity n u) : s.keepsIdentity n u := fun hcalm => by
  obtain ⟨hcalm1, hsame1⟩ := h1 hcalm
  obtain ⟨hcalm2, hsame2⟩ := h2 hcalm1
  exact ⟨hcalm2, hsame2.trans hsame1⟩

theorem of_hold {n : Nat} {s t : State} (h : s.linksHold t) : s.keepsIdentity n t := fun hcalm =>
  ⟨State.calm_congr (h hcalm).1 hcalm, congrArg Link.identity (State.link_congr (h hcalm).2.1 n)⟩

theorem of_parts {n : Nat} {s t : State} (hplt : t.plt = s.plt) (hlinks : t.links = s.links) : s.keepsIdentity n t := fun hcalm =>
  ⟨State.calm_congr hplt hcalm, congrArg Link.identity (State.link_congr hlinks n)⟩

theorem refl (n : Nat) (s : State) : s.keepsIdentity n s := .of_parts rfl rfl

theorem raise {n : Nat} (s : State) {code : Nat} (hcode : code < 112) (unit : Nat) : s.keepsIdentity n (s.raiseFault code unit 1 0) :=
  .of_hold (s.raiseFault_linksHold hcode unit 1 0)

end State.keepsIdentity

theorem State.restrictLink_keepsIdentity (s : State) (n k : Nat) (on : Bool) : s.keepsIdentity n (s.restrictLink n k on) := by
  have hset : s.keepsIdentity n (s.setLink n { s.link n with restrict := setBits (s.link n).restrict k 1 (b2n on) }) := fun hcalm =>
    ⟨State.calm_congr (s := s) rfl hcalm, by rw [State.link_setLink_self]; rfl⟩
  unfold State.restrictLink
  dsimp only
  exact rel_ite (hset.trans (.raise _ (by decide) n)) hset

theorem State.mapRecords_keepsIdentity (s : State) (n : Nat) (old ks : List Nat) : s.keepsIdentity n (s.mapRecords n old ks) := by
  have hspare : s.keepsIdentity n (if ks.contains 8 && ! old.contains 8 then s.raiseFault 8 n 1 0 else s) := rel_ite (.raise s (by decide) n) (.refl n s)
  unfold State.mapRecords
  dsimp only
  exact rel_ite (hspare.trans (.raise _ (by decide) n)) hspare

theorem State.matchState_keepsIdentity (s : State) (n st tag : Nat) : s.keepsIdentity n (s.matchState n st tag) := by
  have hrun (x : Tab Nat) : s.keepsIdentity n ({ s with plt := { s.plt with mismatchRun := x } } : State) := fun hcalm => ⟨hcalm, rfl⟩
  have hmark (t : State) (b : Bool) : t.keepsIdentity n (t.setArrayBit R.pltMismatch n b) := .of_parts rfl rfl
  unfold State.matchState
  split
  · exact .refl n s
  · dsimp only
    split
    · exact (hrun _).trans ((hmark _ _).trans (State.restrictLink_keepsIdentity _ _ _ _))
    · have hseen (u : State) : u.keepsIdentity n (if s.arrayBit R.pltMismatch n then u else (u.setArrayBit R.pltMismatch n true).raiseFault 2 n 1 0) :=
        rel_ite (.refl n u) ((hmark _ _).trans (.raise _ (by decide) n))
      exact rel_ite (((hrun _).trans (hseen _)).trans (State.restrictLink_keepsIdentity _ _ _ _)) ((hrun _).trans (hseen _))

theorem State.checkIdent_keepsIdentity (s : State) (n : Nat) (p : Line) : s.keepsIdentity n (s.checkIdent n p) := by
  have hrestrict (t : State) (k : Nat) (on : Bool) := t.restrictLink_keepsIdentity n k on
  unfold State.checkIdent
  dsimp only
  refine rel_ite ((hrestrict _ _ _).trans (hrestrict _ _ _)) (rel_ite ?_ ?_)
  · exact ((hrestrict _ _ _).trans (hrestrict _ _ _)).trans (hrestrict _ _ _)
  · exact (((hrestrict _ _ _).trans (hrestrict _ _ _)).trans (hrestrict _ _ _)).trans (State.matchState_keepsIdentity _ _ _ _)

/-- The exchange that ends with a map brings the link UP with it. -/
theorem State.completeIdent_up {s : State} (hcalm : s.calm) {n : Nat} {p : Line} {w : BitVec 2} {ks : List Nat} (hmap : s.agreedMap n p = some (w, ks)) :
    ((s.completeIdent n p).link n).identity = (.up, some p, w, true) := by
  have hfresh (q : Prop) [Decidable q] : (if q then (s.dispose n).modLink n fun y => { y.fresh with ctl := y.ctl } else s).calm := by
    split
    · exact State.calm_congr (s := s) (tolerates_linksHold.dispose s n (State.calm_congr (s := s) rfl hcalm)).1 hcalm
    · exact hcalm
  have hfinish (u : State) (f : Link → Link) (old : List Nat) (g : Lane → Lane) (hu : u.calm) :
      (((List.range 9).foldl (fun t k => t.modLane (9 * n + k) g) ((((u.modLink n f).applyMap n ks).mapRecords n old ks).checkIdent n p)).link n).identity =
        (f (u.link n)).identity := by
    have hmapped : (u.modLink n f).keepsIdentity n ((u.modLink n f).applyMap n ks) :=
      .of_parts (State.agree_of_allBut .plt (by simp)) (State.agree_of_allBut .links (by simp))
    have hlanes (t : State) : ((List.range 9).foldl (fun t k => t.modLane (9 * n + k) g) t).links = t.links :=
      foldl_keeps State.links (f := fun t k => t.modLane (9 * n + k) g) (fun _ _ => rfl) _ t
    have hall := (hmapped.trans ((State.mapRecords_keepsIdentity _ n old ks).trans (State.checkIdent_keepsIdentity _ n p)))
      (State.calm_congr (s := u) rfl hu)
    rw [State.link_congr (hlanes _), hall.2, State.link_modLink, if_pos rfl]
  unfold State.completeIdent
  rw [hmap]
  exact hfinish _ _ _ _ (hfresh _)

theorem State.showSkew_identity (s : State) (n k : Nat) : ((s.showSkew n k).link n).identity = (s.link n).identity :=
  congrArg Link.identity (s.setReg_link _ _ n)

/-! ## An IDENT that is taken -/

/-- The word that LINK_PEER shows of an IDENT. -/
def peerWord (p : Line) : Word :=
  pack 32 [(0, 15, bytesAt p 0 2), (15, 5, bits p 16 5), (20, 4, bits p 28 4), (24, 4, bits p 24 4), (28, 1, b2n (bit p 66))]

/-- An IDENT of this end's own. -/
def State.ownIdent (s : State) (n : Nat) (p : Line) : Prop :=
  bytesAt p 0 2 % 2 ^ 15 = s.nodeId ∧ bits p 16 5 = n ∧ bytesAt p 56 4 = (s.link n).nonce.toNat

/-- The link with the peer's IDENT in it. -/
def Link.heard (x : Link) (p : Line) : Link := { x with peerIdent := some p, peerFinal := x.peerFinal || bit p 65 }

/-- The state in which the peer's IDENT stands. -/
def State.heardIdent (s : State) (n : Nat) (p : Line) : State := (s.setReg (R.link n + 0x14) (peerWord p)).setLink n ((s.link n).heard p)

theorem State.heardIdent_link (s : State) (n : Nat) (p : Line) : (s.heardIdent n p).link n = (s.link n).heard p := State.link_setLink_self _ _ _

theorem State.heardIdent_plt (s : State) (n : Nat) (p : Line) : (s.heardIdent n p).plt = s.plt := by
  unfold State.heardIdent
  rw [State.setLink_plt, State.setReg_plt]

theorem State.takeIdent_own {s : State} {n : Nat} {p : Line} (h : s.ownIdent n p) : s.takeIdent n p =
    ((s.setReg (R.link n + 0x14) (peerWord p)).setLink n { s.link n with
      nonce := BitVec.ofNat 32 ((s.setReg (R.link n + 0x14) (peerWord p)).freshVal 32), peerIdent := none, identSent := 0 }).tookFree := by
  obtain ⟨hnode, hport, hnonce⟩ := h
  exact if_pos (by rw [Bool.and_eq_true, Bool.and_eq_true, beq_iff_eq, beq_iff_eq, beq_iff_eq]; exact ⟨⟨hnode, hport⟩, hnonce⟩)

theorem State.takeIdent_peer {s : State} {n : Nat} {p : Line} (h : ¬ s.ownIdent n p) : s.takeIdent n p =
    match (s.heardIdent n p).agreedMap n p with
    | none => (s.heardIdent n p).goDown n 3
    | some _ => (s.heardIdent n p).tryComplete n :=
  (if_neg (by
    rw [Bool.and_eq_true, Bool.and_eq_true, beq_iff_eq, beq_iff_eq, beq_iff_eq]
    exact fun ⟨⟨hnode, hport⟩, hnonce⟩ => h ⟨hnode, hport, hnonce⟩)).trans rfl

theorem State.heardIdent_agreedMap (s : State) (n : Nat) (p : Line) : (s.heardIdent n p).agreedMap n p = s.agreedMap n p := by
  refine State.agreedMap_congr ?_ ?_ ?_ ?_ p
  · unfold State.heardIdent
    rw [State.setLink_kpr, State.setReg_kpr]
  · rw [State.heardIdent_link]
    rfl
  · unfold State.heardIdent
    rw [State.setLink_lanes, State.setReg_lanes]
  · unfold State.heardIdent
    rw [State.setLink_reg, State.reg_setReg_ne _ _ (by omega)]

/-- Before both ends have said that they are done, nothing completes. -/
theorem State.tryComplete_early {s : State} {n : Nat} (h : (s.link n).identSent < 8 ∨ (s.link n).peerFinal = false) : s.tryComplete n = s := by
  unfold State.tryComplete
  dsimp only
  split
  · refine if_neg ?_
    rintro ⟨hsent, hfinal⟩
    rcases h with h | h
    · omega
    · exact absurd (h.symm.trans hfinal) (by decide)
  · rfl

/-- With both ends done and the mapped lanes within 4,096 UI the exchange completes. -/
theorem State.tryComplete_done {s : State} {n : Nat} {p : Line} {w : BitVec 2} {ks : List Nat} {skew : Nat} (hpeer : (s.link n).peerIdent = some p)
    (hsent : 8 ≤ (s.link n).identSent) (hfinal : (s.link n).peerFinal = true) (hmap : s.agreedMap n p = some (w, ks)) (hskew : s.skewOf n ks = some skew)
    (hsmall : skew ≤ 4096) : s.tryComplete n = (s.completeIdent n p).showSkew n skew := by
  unfold State.tryComplete
  dsimp only
  rw [hpeer]
  refine (if_pos ⟨hsent, hfinal⟩).trans ?_
  rw [hmap]
  dsimp only
  rw [hskew]
  exact if_pos hsmall

/-! ## Violations -/

theorem State.raiseFault_peerIdent (s : State) (n code unit count detail : Nat) :
    ((s.raiseFault code unit count detail).link n).peerIdent = (s.link n).peerIdent := by
  have hoff (t : State) (l : Nat) : ((t.laneOff l).link n) = t.link n := State.link_congr (State.agree_of_allBut .links (by simp)) n
  have hone (cause : Nat) (before : List Cell) (t : State) (m : Nat) : ((State.oneLinkDown cause before t m).link n).peerIdent = (t.link n).peerIdent := by
    unfold State.oneLinkDown
    dsimp only
    split
    · rfl
    · refine (foldl_keeps (fun u : State => (u.link n).peerIdent) (f := fun u k => u.laneOff (9 * m + k)) (fun u k => by rw [hoff]) _ _).trans ?_
      rw [State.link_setLink]
      split
      · next h => rw [h]
      · rfl
  have hstop (t : State) (r : BitVec 256) : ((t.failStop r).link n).peerIdent = (t.link n).peerIdent := by
    have hparts (v : State) (k : Kpr) (y : Sec) : ({ v with kpr := k, sec := y } : State).link n = v.link n := rfl
    unfold State.failStop
    dsimp only
    generalize (List.map _ _) = cells
    rw [hparts, State.allLinksDown_eq]
    refine (foldl_keeps (fun u : State => (u.link n).peerIdent) (f := State.oneLinkDown 6 cells) (hone 6 cells) _ _).trans ?_
    rw [State.link_congr (State.events_links _ _ _)]
  have hrecord : ((s.recordFault code unit count detail).link n).peerIdent = (s.link n).peerIdent := by
    rw [State.recordFault_eq]
    have hmarked : ((s.markFault code unit count detail).faultEvent code).link n = s.link n :=
      State.link_congr ((State.faultEvent_links _ code).trans (s.markFault_links code unit count detail)) n
    unfold State.followFault
    dsimp only
    split
    · split
      · rw [hmarked]
      · rw [hstop, hmarked]
    · split
      · refine (foldl_keeps (fun u : State => (u.link n).peerIdent)
          (f := fun t d => t.injectCell (t.mkCell 0x33 d 0 0 (recordPayload (s.faultRecord code unit count detail) t.nodeId))) (fun _ _ => rfl) _ _).trans ?_
        rw [hmarked]
      · rw [hmarked]
  unfold State.raiseFault
  split
  · split
    · rfl
    · exact hrecord
  · exact hrecord

/-- The link's record with its violations. -/
def Link.withViolations (x : Link) (v : Tab Nat) : Link := { x with violations := v }

/-- The link's record with a PROTEST to send. -/
def Link.protests (x : Link) (c : Cell) (now : Nat) : Link := { x with ctl := x.ctl ++ [c], lastProtest := some now }

/-- The link's record restricted by its violations. -/
def Link.violatedAt (x : Link) (count : Nat) : Link := { x with violAt := some count }

/-- A violation sets two registers and the link's record, and beyond its limit restricts the link. -/
theorem State.linkViolation_eq (s : State) (n code : Nat) (c : Cell) (seq : Nat) : ∃ (x : Link) (beyond : Bool),
    x.peerIdent = (((s.bump (R.link n + 0x30)).setReg (R.link n + 0x34) (pack 32 [(0, 4, code), (16, 16, seq)])).link n).peerIdent ∧
    s.linkViolation n code c seq = if beyond
      then (((s.bump (R.link n + 0x30)).setReg (R.link n + 0x34) (pack 32 [(0, 4, code), (16, 16, seq)])).setLink n x).restrictLink n 2 true
      else ((s.bump (R.link n + 0x30)).setReg (R.link n + 0x34) (pack 32 [(0, 4, code), (16, 16, seq)])).setLink n x := by
  have hkeep (y : Link) (protest beyond : Bool) (v : Tab Nat) (d : Cell) (now count : Nat) :
      (if beyond then (if protest then (y.withViolations v).protests d now else y.withViolations v).violatedAt count
        else if protest then (y.withViolations v).protests d now else y.withViolations v).peerIdent = y.peerIdent := by
    cases beyond <;> cases protest <;> rfl
  exact ⟨_, _, hkeep _ _ _ _ _ _ _, rfl⟩

/-- A violation is counted, and takes nothing of what the exchange fixed. -/
theorem State.linkViolation_counts (s : State) {n : Nat} (hn : n < 32) (code : Nat) (c : Cell) (seq : Nat) :
    ((s.linkViolation n code c seq).link n).peerIdent = (s.link n).peerIdent ∧
    ((s.linkViolation n code c seq).reg (R.link n + 0x30)).toNat = min ((s.reg (R.link n + 0x30)).toNat + 1) 0xFFFFFFFF := by
  have hshown : shownReg (R.link n + 0x30) := by
    unfold shownReg R.link
    omega
  have hrestrict (t : State) (k : Nat) : ((t.restrictLink n k true).link n).peerIdent = (t.link n).peerIdent ∧ t.shows (t.restrictLink n k true) := by
    have hset : ((t.setLink n { t.link n with restrict := setBits (t.link n).restrict k 1 (b2n true) }).link n).peerIdent = (t.link n).peerIdent := by
      rw [State.link_setLink_self]
    unfold State.restrictLink
    dsimp only
    split
    · exact ⟨(State.raiseFault_peerIdent _ _ _ _ _ _).trans hset, (State.shows.of_regs rfl).trans (State.raiseFault_shows _ (by decide) _ _ _)⟩
    · exact ⟨hset, .of_regs rfl⟩
  have hcount : (((s.bump (R.link n + 0x30)).setReg (R.link n + 0x34) (pack 32 [(0, 4, code), (16, 16, seq)])).reg (R.link n + 0x30)).toNat =
      min ((s.reg (R.link n + 0x30)).toNat + 1) 0xFFFFFFFF := by
    rw [State.reg_setReg_ne _ _ (by omega)]
    exact s.toNat_reg_bump_self _
  have hlink : ((s.bump (R.link n + 0x30)).setReg (R.link n + 0x34) (pack 32 [(0, 4, code), (16, 16, seq)])).link n = s.link n := by
    rw [State.setReg_link, State.bump_link]
  obtain ⟨x, beyond, hx, heq⟩ := s.linkViolation_eq n code c seq
  generalize (s.bump (R.link n + 0x30)).setReg (R.link n + 0x34) (pack 32 [(0, 4, code), (16, 16, seq)]) = u at hcount hlink hx heq
  have hpeer : ((u.setLink n x).link n).peerIdent = (s.link n).peerIdent := by rw [State.link_setLink_self, hx, hlink]
  rw [heq]
  cases beyond
  · exact ⟨hpeer, hcount⟩
  · obtain ⟨hpeer', hshows⟩ := hrestrict (u.setLink n x) 2
    refine ⟨hpeer'.trans hpeer, ?_⟩
    rw [if_pos rfl, hshows _ hshown, State.setLink_reg]
    exact hcount

/-! ## The exchange -/

/-- An IDENT without a fault reaches the link in IDENT, whose record is as before but for the highest number seen. -/
theorem State.identRx_taken {s : State} {n : LinkIx} {c : Cell} (hstate : (s.link n).state = .ident) (hc : cellIs c 0x3B = true)
    (hfault : s.identFault c = none) (hquiet : quietAck (s.link n) c) :
    ∃ (u : State) (top : BitVec 16), exec (.identRx n c) s = .next (u.takeIdent n c.payload) ∧ u = { s with links := u.links } ∧
      u.link n = { s.link n with top := top } := by
  have hlocal : s.localFault c = none := by
    unfold State.identFault at hfault
    split at hfault
    · exact absurd hfault (by simp)
    · next h => exact h
  have hup : (s.link n).state ≠ .up := by rw [hstate]; decide
  obtain ⟨u, top, hrx, hparts, hlink⟩ := State.localRx_quiet hlocal hquiet fun h => absurd h hup
  refine ⟨u, top, ?_, hparts, hlink⟩
  change execIdentRx n c s = _
  unfold execIdentRx
  rw [hc, if_neg (by decide), if_neg hup, if_neg (fun h => h hstate), hfault]
  dsimp only
  rw [hrx]
  exact congrArg Host.Outcome.next (if_pos rfl)

theorem peerWord_node (p : Line) : bits (peerWord p) 0 15 = bytesAt p 0 2 % 2 ^ 15 := by
  unfold peerWord
  exact bits_pack (by rfl) (List.mem_cons_self ..) (by decide)

/-- An IDENT of this end's own makes the link draw its nonce anew. -/
theorem State.identRx_own {n : LinkIx} {c : Cell} {s : State} (hstate : (s.link n).state = .ident) (hc : cellIs c 0x3B = true)
    (hfault : s.identFault c = none) (hquiet : quietAck (s.link n) c) (hnode : bytesAt c.payload 0 2 % 2 ^ 15 = s.nodeId) (hport : bits c.payload 16 5 = n.val)
    (hnonce : bytesAt c.payload 56 4 = (s.link n).nonce.toNat) :
    ∃ t, exec (.identRx n c) s = .next t ∧ (t.link n).state = .ident ∧ (t.link n).peerIdent = none ∧ (t.link n).identSent = 0 ∧
      t.fld (R.link n + 0x14) 0 15 = s.nodeId % 2 ^ 15 ∧ t.free = s.free + 1 := by
  obtain ⟨u, top, hexec, hparts, hlink⟩ := State.identRx_taken hstate hc hfault hquiet
  have hown : u.ownIdent n c.payload := by
    refine ⟨?_, hport, ?_⟩
    · rw [State.nodeId_congr (show u.kpr = s.kpr by rw [hparts])]; exact hnode
    · rw [hlink]; exact hnonce
  have hfree (x : Link) : ((u.setReg (R.link n + 0x14) (peerWord c.payload)).setLink n x).tookFree.free = u.free + 1 := by
    unfold State.tookFree
    dsimp only
    rw [State.setLink_free, State.setReg_free]
  rw [State.takeIdent_own hown] at hexec
  refine ⟨_, hexec, ?_, ?_, ?_, ?_, ?_⟩
  · rw [State.tookFree_link, State.link_setLink_self, hlink]; exact hstate
  · rw [State.tookFree_link, State.link_setLink_self]
  · rw [State.tookFree_link, State.link_setLink_self]
  · unfold State.fld
    rw [State.tookFree_reg, State.setLink_reg, State.reg_setReg_self, peerWord_node, ← hnode, Nat.mod_mod]
  · rw [hfree, show s.free = u.free by rw [hparts]]

/-- The peer's IDENT ends DOWN without a map, is kept before the end of the exchange, and at its end brings the link UP. -/
theorem State.identRx_peer {n : LinkIx} {c : Cell} {s : State} (hcalm : s.calm) (hstate : (s.link n).state = .ident) (hc : cellIs c 0x3B = true)
    (hfault : s.identFault c = none) (hquiet : quietAck (s.link n) c) (hother : ¬ s.ownIdent n c.payload) :
    ∃ t, exec (.identRx n c) s = .next t ∧
      (s.agreedMap n c.payload = none → (t.link n).state = .down ∧ (t.link n).downCause = 3) ∧
      (s.agreedMap n c.payload ≠ none → (s.link n).identSent < 8 ∨ ((s.link n).peerFinal = false ∧ bit c.payload 65 = false) →
        ∃ top, t.link n = { s.link n with peerIdent := some c.payload, peerFinal := (s.link n).peerFinal || bit c.payload 65, top := top }) ∧
      (∀ w ks skew, s.agreedMap n c.payload = some (w, ks) → 8 ≤ (s.link n).identSent → bit c.payload 65 = true →
        s.skewOf n ks = some skew → skew ≤ 4096 →
        (t.link n).state = .up ∧ (t.link n).peerIdent = some c.payload ∧ (t.link n).width = w ∧ (t.link n).known = true ∧
          t.reg (R.link n + 0x18) = BitVec.ofNat 32 skew) := by
  obtain ⟨u, top, hexec, hparts, hlink⟩ := State.identRx_taken hstate hc hfault hquiet
  have hkpr : u.kpr = s.kpr := by rw [hparts]
  have hlanes : u.lanes = s.lanes := by rw [hparts]
  have hregs : u.regs = s.regs := by rw [hparts]
  have hnot : ¬ u.ownIdent n c.payload := by
    rintro ⟨hnode, hport, hnonce⟩
    rw [State.nodeId_congr hkpr] at hnode
    rw [hlink] at hnonce
    exact hother ⟨hnode, hport, hnonce⟩
  have hmap : (u.heardIdent n c.payload).agreedMap n c.payload = s.agreedMap n c.payload :=
    (u.heardIdent_agreedMap n c.payload).trans (State.agreedMap_congr hkpr (by rw [hlink]) hlanes (State.reg_congr hregs _) _)
  have hheard := u.heardIdent_link n.val c.payload
  rw [hlink] at hheard
  have hcalm' : (u.heardIdent n c.payload).calm := State.calm_congr (u.heardIdent_plt n c.payload) (State.calm_congr (by rw [hparts]) hcalm)
  have hskew (ks : List Nat) : (u.heardIdent n c.payload).skewOf n ks = s.skewOf n ks := by
    refine State.skewOf_congr ?_ n ks
    unfold State.heardIdent
    rw [State.setLink_lanes, State.setReg_lanes, hlanes]
  rw [State.takeIdent_peer hnot] at hexec
  generalize u.heardIdent n c.payload = v at hexec hmap hheard hcalm' hskew
  rw [hmap] at hexec
  have hstate' : (v.link n).state = .ident := by rw [hheard]; exact hstate
  refine ⟨_, hexec, fun hnone => ?_, fun hsome hearly => ?_, fun w ks skew hmap' hsent hfinal hskew' hsmall => ?_⟩
  · rw [hnone]
    exact State.goDown_down hcalm' (by rw [hstate']; decide) (by rw [hstate']; decide) 3
  · obtain ⟨m, hm⟩ := Option.ne_none_iff_exists'.mp hsome
    rw [hm]
    dsimp only
    rw [State.tryComplete_early (by
      rw [hheard]
      rcases hearly with h | ⟨h1, h2⟩
      · exact .inl h
      · refine .inr ?_
        unfold Link.heard
        dsimp only
        rw [h1, h2]
        rfl), hheard]
    exact ⟨top, rfl⟩
  · rw [hmap']
    dsimp only
    rw [State.tryComplete_done (p := c.payload) (w := w) (ks := ks) (skew := skew) (by rw [hheard]; rfl) (by rw [hheard]; exact hsent)
      (by rw [hheard]; unfold Link.heard; dsimp only; rw [hfinal, Bool.or_true]) (hmap.trans hmap') ((hskew ks).trans hskew') hsmall]
    have hup := State.completeIdent_up hcalm' (hmap.trans hmap')
    rw [← State.showSkew_identity _ n.val skew] at hup
    obtain ⟨h1, h2, h3, h4⟩ := Prod.ext_iff.mp hup |>.imp_right fun h => Prod.ext_iff.mp h |>.imp_right Prod.ext_iff.mp
    refine ⟨h1, h2, h3, h4, ?_⟩
    unfold State.showSkew
    exact State.reg_setReg_self _ _ _

/-- Settles O26: what an IDENT does to a link in IDENT. -/
theorem identExchangeCompletes : Obligations.IdentExchangeCompletes := by
  unfold Obligations.IdentExchangeCompletes
  refine ⟨fun n c s hstate hc hfault hquiet hnode hport hnonce => State.identRx_own hstate hc hfault hquiet hnode hport hnonce,
    fun n c s hcalm hstate hc hfault hquiet hother => State.identRx_peer hcalm hstate hc hfault hquiet hother, fun n c k s hstate hc hfault => ?_⟩
  have hexec : exec (.identRx n c) s = .next (s.linkViolation n k c 0) := by
    change execIdentRx n c s = _
    unfold execIdentRx
    rw [hc, if_neg (by decide), if_neg (by rw [hstate]; decide), if_neg (fun h => h hstate), hfault]
  exact ⟨_, hexec, s.linkViolation_counts n.isLt k c 0⟩

end Sys2Proof.Machine
end

section
/-! Software's requests on a link and the drain deadline (R21, R142, R144, R155, R156, R158). -/

namespace Sys2Proof.Machine

/-! ## An entry of the journal at a calm node -/

theorem State.raiseLimited_undisturbed (s : State) {code : Nat} (hcode : code < 112) (unit detail : Nat) : s.undisturbed (s.raiseLimited code unit detail) := by
  have hput (x : Tab Raised) : s.undisturbed ({ s with kpr := { s.kpr with raised := x } } : State) := .of_parts rfl rfl rfl rfl rfl fun _ _ => rfl
  unfold State.raiseLimited State.raiseKeyed
  dsimp only
  split
  · split
    · exact hput _
    · exact (hput _).trans (State.raiseFault_undisturbed _ hcode unit 1 detail)
  · exact (hput _).trans (State.raiseFault_undisturbed _ hcode unit 1 detail)

theorem State.paceScript_undisturbed (s : State) : s.undisturbed s.paceScript := by
  have hset (x : Script) : s.undisturbed (s.setScript x) := .of_parts rfl rfl rfl rfl rfl fun _ _ => rfl
  have hhold (t : State) : t.undisturbed (t.bump R.scriptSeatHolds) := .of_parts rfl rfl rfl rfl rfl fun off hoff =>
    State.reg_bump_ne t (by unfold R.scriptSeatHolds; omega)
  unfold State.paceScript
  dsimp only
  have hpaced (x : Script) (p : Prop) [Decidable p] : s.undisturbed (if p then (s.setScript x).bump R.scriptSeatHolds else s.setScript x) :=
    rel_ite ((hset x).trans (hhold _)) (hset x)
  exact rel_ite ((hpaced _ _).trans (State.raiseLimited_undisturbed _ (by decide) _ _)) (hpaced _ _)

theorem State.journal_undisturbed (s : State) (kind source : Nat) (body : List Byte) : s.undisturbed (s.journal kind source body) := by
  have happend (t : State) (k src : Nat) (b : List Byte) : t.undisturbed (t.appendEntry k src b) := .of_parts rfl rfl rfl rfl rfl fun off hoff =>
    State.reg_setReg_ne _ _ (by unfold R.scriptSeq; omega)
  unfold State.journal
  dsimp only
  refine rel_ite ?_ (.refl s)
  exact ((rel_ite (happend _ _ _ _) (.refl s)).trans (happend _ _ _ _)).trans (State.paceScript_undisturbed _)

theorem State.taken_undisturbed (s : State) (a off : Nat) (v : Word) : s.undisturbed (s.taken a off v) := by
  have hnote (x : Tab (Nat × Nat)) : s.undisturbed ({ s with kpr := { s.kpr with wroteAt := x } } : State) := .of_parts rfl rfl rfl rfl rfl fun _ _ => rfl
  exact (hnote _).trans (State.journal_undisturbed _ _ _ _)

/-! ## Lanes that fit train -/

/-- A lane that can be trained: not failed, present, and with an engine that has not failed (R88, R103). -/
def State.laneFits (s : State) (l : Nat) : Prop := (s.lane l).state ≠ .failed ∧ bit (s.reg (R.lane l + 8)) 0 = true ∧
  bit (s.reg (R.engineState + 4 * bits (s.reg (R.lane l + 0xC)) 16 6)) 4 = false

/-- Training a lane that fits leaves every lane that fits so. -/
theorem State.trainLane_laneFits {s : State} {l : Nat} (hl : l < 288) (hfits : s.laneFits l) {k : Nat} (hother : s.laneFits k) :
    (s.trainLane l).laneFits k := by
  obtain ⟨hstate, hpresent, hengine⟩ := hfits
  obtain ⟨hstatek, hpresentk, henginek⟩ := hother
  have hto (t : State) (st : LaneState) (hst : st ≠ .failed) (htlane : (t.lane k).state ≠ .failed) (htreg : ∀ off, t.reg off = s.reg off) :
      (t.laneTo l st).laneFits k := by
    have hreg (r : Nat) (hr : r = 8 ∨ r = 0xC) : (t.laneTo l st).reg (R.lane k + r) = s.reg (R.lane k + r) := by
      rw [State.laneTo_reg_ne _ _ _ ?_ ?_ ?_, htreg]
      · unfold R.lane
        omega
      · unfold R.lane
        omega
      · unfold R.lane R.laneFailed
        omega
    have hengineReg (e : Nat) : (t.laneTo l st).reg (R.engineState + 4 * e) = s.reg (R.engineState + 4 * e) := by
      rw [State.laneTo_reg _ hl _ (not_laneReg_engineState e), htreg]
    refine ⟨?_, ?_, ?_⟩
    · rw [State.lane_laneTo]
      split
      · exact hst
      · exact htlane
    · rw [hreg 8 (.inl rfl)]; exact hpresentk
    · rw [hreg 0xC (.inr rfl), hengineReg]; exact henginek
  have hmod (x : Lane) (hx : x.state = (s.lane l).state) : ((s.setLane l x).lane k).state ≠ .failed := by
    rw [State.lane_setLane]
    split
    · rw [hx]; exact hstate
    · exact hstatek
  unfold State.trainLane
  dsimp only
  rw [if_neg hstate, hpresent, hengine]
  refine (congrArg (State.laneFits · k) ((if_neg (by decide)).trans (if_neg (by decide)))).mpr ?_
  split
  · exact hto _ _ (by decide) (hmod _ (by rfl)) fun _ => State.modLane_reg _ _ _ _
  · exact hto _ _ (by decide) (hmod _ (by rfl)) fun _ => State.modLane_reg _ _ _ _

/-- Where every lane of a link fits, none has failed once they train. -/
theorem State.trainLanes_work {s : State} {n : Nat} (hn : n < 32) (hfits : ∀ k, k < 9 → s.laneFits (9 * n + k)) :
    (s.trainLanes n).workingLanes n = List.range 9 := by
  have hfold (ks : List Nat) (hks : ∀ k ∈ ks, k < 9) (t : State) (ht : ∀ k, k < 9 → t.laneFits (9 * n + k)) :
      ∀ k, k < 9 → (ks.foldl (fun u k => u.trainLane (9 * n + k)) t).laneFits (9 * n + k) := by
    induction ks generalizing t with
    | nil => exact ht
    | cons j js ih =>
      have hj := hks j List.mem_cons_self
      refine ih (fun k hk => hks k (List.mem_cons_of_mem _ hk)) _ fun k hk => ?_
      exact State.trainLane_laneFits (by omega) (ht j hj) (ht k hk)
  refine List.filter_eq_self.mpr fun k hk => ?_
  exact decide_eq_true (hfold (List.range 9) (fun j hj => List.mem_range.mp hj) s hfits k (List.mem_range.mp hk)).1

/-- A link whose lanes fit starts to train, its queues empty and a session drawn. -/
theorem State.startTrain_trains {s : State} {n : Nat} (hn : n < 32) (hfits : ∀ k, k < 9 → s.laneFits (9 * n + k)) :
    ((s.startTrain n).link n).state = .train ∧ ((s.startTrain n).link n).session ≠ 0 ∧ ((s.startTrain n).link n).pool = [] ∧
    ((s.startTrain n).link n).replay = [] := by
  have hsession (v : Nat) (hv : v < 65536) : BitVec.ofNat 16 (if v = 0 then 1 else v) ≠ 0 := fun h => by
    have hnat := congrArg BitVec.toNat h
    simp only [BitVec.toNat_ofNat] at hnat
    split at hnat
    · exact absurd hnat (by decide)
    · change v % 65536 = 0 at hnat
      omega
  unfold State.startTrain
  dsimp only
  rw [if_neg]
  · rw [State.link_congr (State.trainLanes_links _ n).1, State.link_setLink_self]
    exact ⟨rfl, hsession _ (Nat.mod_lt _ (by decide)), rfl, rfl⟩
  · rw [State.trainLanes_work hn]
    · decide
    · exact fun k hk => hfits k hk

/-! ## What a request reads -/

/-- What a request on a link reads is the same in both states. -/
structure State.sameInput (s t : State) : Prop where
  plt : t.plt = s.plt
  links : t.links = s.links
  lanes : t.lanes = s.lanes
  clk : t.clk = s.clk
  power : t.kpr.power = s.kpr.power
  reg : ∀ off, 0x202000 ≤ off ∧ off < 0x800000 → t.reg off = s.reg off

theorem State.undisturbed.sameInput {s t : State} (h : s.undisturbed t) (hcalm : s.calm) : s.sameInput t := by
  obtain ⟨hplt, hlinks, hlanes, hclk, hpower, hreg⟩ := h hcalm
  exact ⟨hplt, hlinks, hlanes, hclk, hpower, fun off hoff => hreg off ⟨hoff.1, hoff.2.trans (by decide)⟩⟩

namespace State.sameInput

variable {s t : State} (h : s.sameInput t)

include h

theorem running : t.running = s.running := by
  unfold State.running
  rw [h.power]

theorem mayTrain {n : Nat} (hn : n < 32) : t.mayTrain n = s.mayTrain n := by
  have hlane : ∀ k ∈ List.range 8, bit (t.reg (R.lane (9 * n + k) + 8)) 0 = bit (s.reg (R.lane (9 * n + k) + 8)) 0 := fun k hk => by
    have hk8 := List.mem_range.mp hk
    rw [h.reg _ (by unfold R.lane; omega)]
  unfold State.mayTrain
  rw [State.isSealed_congr h.plt, State.role_congr h.plt, Bool.eq_iff_iff.mpr (List.all_eq_true.trans
    ((forall₂_congr fun k hk => by rw [hlane k hk]).trans List.all_eq_true.symm))]

theorem laneFits {n : Nat} (hn : n < 32) (hfit : s.lanesFit n) : ∀ k, k < 9 → t.laneFits (9 * n + k) := fun k hk => by
  obtain ⟨hstate, hpresent, hengine⟩ := hfit k hk
  have hsix : bits (s.reg (R.lane (9 * n + k) + 0xC)) 16 6 < 64 := Nat.mod_lt _ (by decide)
  refine ⟨?_, ?_, ?_⟩
  · rw [State.lane_congr h.lanes]; exact hstate
  · rw [h.reg _ (by unfold R.lane; omega)]; exact hpresent
  · rw [h.reg (R.lane (9 * n + k) + 0xC) (by unfold R.lane; omega), h.reg _ (by unfold R.engineState; omega)]; exact hengine

end State.sameInput

/-- What an accepted request acts on reads as before. -/
theorem State.request_acts {a : Source} {s : State} (hcalm : s.calm) (hfm : s.srcFm a = true) (hfree : s.script.holdInput = false) (off : Nat) (v : Word)
    (f : State → State) : ∃ u, s.fmReg a off v f = f u ∧ s.sameInput u ∧ u.calm := by
  have hsame := (State.journal_undisturbed s 3 (if a.val < 16 then a else 32) (natBytes off 4 ++ toBytes v 4)).sameInput hcalm
  exact ⟨_, State.fmReg_acts hfm hfree v f, hsame, State.calm_congr hsame.plt hcalm⟩

theorem State.linkAskRetrain_retrains {s t : State} (hsame : s.sameInput t) (hcalm : t.calm) {n : Nat} (hrun : s.running = true)
    (hstate : (s.link n).state = .up ∨ (s.link n).state = .realign) :
    ((t.linkAskRetrain n).link n).state = .retrain ∧ ((t.linkAskRetrain n).link n).lastRetrain = 1 := by
  unfold State.linkAskRetrain
  rw [if_pos ⟨hsame.running.trans hrun, by rw [State.link_congr hsame.links]; exact hstate⟩]
  obtain ⟨hretrain, hlast, -⟩ := t.enterRetrain_retrains (n := n) (fun _ => hcalm) 1
  exact ⟨hretrain, hlast⟩

/-- CLEAR_RESTRICT clears the restriction of violations, but for one of the same cycle. -/
theorem State.linkClearRestrict_clears {s t : State} (hsame : s.sameInput t) {n : Nat} (hrun : s.running = true) :
    ((s.link n).violAt ≠ some s.clk.count → bit ((t.linkClearRestrict n).link n).restrict 2 = false ∧
      ∀ k, k ≠ 2 → bit ((t.linkClearRestrict n).link n).restrict k = bit (s.link n).restrict k) ∧
    ((s.link n).violAt = some s.clk.count → (t.linkClearRestrict n).link n = s.link n) := by
  have hlink := State.link_congr hsame.links n
  have hrun' := hsame.running.trans hrun
  unfold State.linkClearRestrict
  rw [hlink, hsame.clk]
  refine ⟨fun hearlier => ?_, fun hnow => ?_⟩
  · rw [if_pos ⟨hrun', hearlier⟩]
    unfold State.restrictLink
    simp only [Bool.false_and, Bool.false_eq_true, if_false, State.link_setLink_self, hlink]
    exact ⟨bit_setBits_self _ 2 _ (by decide), fun k hk => bit_setBits_ne _ 2 k _ (by decide) hk⟩
  · rw [if_neg fun h => h.2 hnow, hlink]

/-- At the drain's deadline the link is DISABLED and empty. -/
theorem State.drainDeadline_disables {n : LinkIx} {due : Nat} {s : State} (hcalm : s.calm) (hdrain : (s.link n).drainAt = some due) (hdue : due ≤ s.now) :
    ∃ t, exec (.linkDrainDeadline n) s = .next t ∧ (t.link n).state = .disabled ∧ (t.link n).txq = [] ∧ (t.link n).replay = [] ∧
    (t.link n).held = [] ∧ (t.link n).floods = [] ∧ (t.link n).drainAt = none := by
  have hexec : ∃ u, s.linksHold u ∧ exec (.linkDrainDeadline n) s = .next (if (s.link n).state = .up
      then (((u.wakeLink n).modLink n fun y => { y with state := .disabled, width := 0, txq := [], replay := [], held := [], floods := []
                                                        drainAt := none, ctl := s.downCells n 5 }).lanesOff n).leaveUp n
      else ((u.wakeLink n).modLink n fun y => { y with state := .disabled, width := 0, txq := [], replay := [], held := [], floods := []
                                                       drainAt := none, ctl := s.downCells n 5 }).lanesOff n) := by
    have hgiven : s.linksHold ((s.link n).replay.foldl (fun e r => e.1.giveUpCell 5 27 n r.cell false e.2)
        (((s.link n).txq ++ (s.link n).floods).foldl (fun e c => e.1.giveUpCell 5 27 n c true e.2) (s, ([] : List (Nat × Nat))))).1 :=
      tolerates_linksHold.trans (tolerates_linksHold.foldl_fst (fun e c => tolerates_linksHold.giveUpCell e.1 5 27 n c true e.2) _ (s, []))
        (tolerates_linksHold.foldl_fst (fun e (r : Replay) => tolerates_linksHold.giveUpCell e.1 5 27 n r.cell false e.2) _ _)
    refine ⟨_, hgiven, ?_⟩
    change execLinkDrainDeadline n s = _
    unfold execLinkDrainDeadline
    dsimp only
    rw [hdrain]
    exact if_neg (Nat.not_lt.mpr hdue)
  obtain ⟨u, hhold, hexec⟩ := hexec
  generalize hset : (fun y : Link => { y with state := .disabled, width := 0, txq := [], replay := [], held := [], floods := []
                                              drainAt := none, ctl := s.downCells n 5 }) = f at hexec
  have hlink : (((u.wakeLink n).modLink n f).lanesOff n).link n = f (u.link n) := by
    rw [State.link_congr (State.lanesOff_links _ n).1, State.link_modLink, if_pos rfl, State.link_congr (u.wakeLink_links n).1]
  have hcalm' : (((u.wakeLink n).modLink n f).lanesOff n).calm := by
    refine State.calm_congr ?_ hcalm
    rw [(State.lanesOff_links _ n).2, State.modLink_plt, (u.wakeLink_links n).2, (hhold hcalm).1]
  have hends : ∃ t, exec (.linkDrainDeadline n) s = .next t ∧ t.link n = f (u.link n) := by
    refine ⟨_, hexec, ?_⟩
    split
    · rw [State.link_congr (tolerates_linksHold.leaveUp _ n hcalm').2.1, hlink]
    · exact hlink
  obtain ⟨t, hnext, hfinal⟩ := hends
  rw [← hset] at hfinal
  refine ⟨t, hnext, ?_⟩
  rw [hfinal]
  exact ⟨rfl, rfl, rfl, rfl, rfl, rfl⟩

/-- What disabling writes starts the drain. -/
theorem State.startDrain_drains {t : State} {n : Nat} (hdis : (t.link n).state ≠ .disabled) (hdrain : (t.link n).drainAt = none) :
    (t.startDrain n).link n = { t.link n with drainAt := some (t.now + t.timer 2 * 1000) } ∧ (t.startDrain n).regs = t.regs := by
  unfold State.startDrain
  dsimp only
  rw [if_neg (by rw [hdrain]; rintro (h | h) <;> [exact hdis h; exact absurd h (by decide)]), State.link_setLink_self]
  exact ⟨rfl, State.setLink_regs _ _ _⟩

/-- A link that starts to train keeps the registers that it shows. -/
theorem State.startTrain_shows (s : State) {n : Nat} (hn : n < 32) : s.shows (s.startTrain n) := by
  have hlanes (t : State) : t.shows (t.trainLanes n) := fun off hoff =>
    foldl_keeps_mem (fun u : State => u.reg off) (List.range 9) (fun u k hk => (u.trainLane_keeps (9 * n + k)).1 (by
      have hk9 := List.mem_range.mp hk
      omega) off (not_laneReg_of_shownReg hoff)) t
  have hset (x : Link) : s.shows (s.tookFree.setLink n x) := .of_regs ((State.setLink_regs _ _ _).trans s.tookFree_regs)
  unfold State.startTrain
  dsimp only
  exact rel_ite (((hset _).trans (hlanes _)).trans (State.goDown_shows _ hn 3)) ((hset _).trans (hlanes _))

/-- What LINK_CFG shows of a link that is disabled or enabled. -/
theorem linkCfgWord (cap : Nat) : bits (pack 32 [(0, 1, 1), (1, 1, cap)]) 0 1 = 1 ∧ bits (pack 32 [(1, 1, cap)]) 0 1 = 0 := by
  refine ⟨bits_pack (by rfl) (List.mem_cons_self ..) (by decide), ?_⟩
  rw [pack_congr (gs := [(0, 1, 0), (1, 1, cap)]) (by simp [fieldSum])]
  exact bits_pack (by rfl) (List.mem_cons_self ..) (by decide)

/-- The effect of enabling on the state that has the write (R155, R158). -/
def State.enabled (n : Nat) (t : State) : State :=
  if (t.link n).state = .disabled then if t.running && t.mayTrain n then t.startTrain n else t
  else if t.isSealed && t.role n == 0 then t
  else t.setLink n { t.link n with drainAt := none }

theorem State.enabled_shows (t : State) {n : Nat} (hn : n < 32) : t.shows (t.enabled n) := by
  unfold State.enabled
  exact rel_ite (rel_ite (t.startTrain_shows hn) (.of_regs rfl)) (rel_ite (.of_regs rfl) (.of_regs rfl))

/-- Settles O27: what each request does to the link, and the end of a drain. -/
theorem linkRequestsAct : Obligations.LinkRequestsAct := by
  unfold Obligations.LinkRequestsAct
  refine ⟨fun a n s hcalm hfm hfree hrun hstate => ?_, fun a l s hcalm hfm hfree hrun hstate => ?_, fun a n s hcalm hfm hfree hrun hdown => ?_,
    fun a n s hcalm hfm hfree hrun hdown hdis => ?_, fun a n s hcalm hfm hfree hrun => ?_, fun a n v s hcalm hmay hdis hdrain => ?_,
    fun a n v s hcalm hmay => ?_, fun n due s hcalm hdrain hdue => State.drainDeadline_disables hcalm hdrain hdue⟩
  · obtain ⟨u, hacts, hsame, hcalm'⟩ := State.request_acts hcalm hfm hfree (R.link n + 4) 1 fun t => t.linkAskRetrain n
    exact ⟨_, congrArg Host.Outcome.next hacts, State.linkAskRetrain_retrains hsame hcalm' hrun hstate⟩
  · obtain ⟨u, hacts, hsame, hcalm'⟩ := State.request_acts hcalm hfm hfree (R.lane l + 4) 4 fun t => t.linkAskRetrain (l.val / 9)
    exact ⟨_, congrArg Host.Outcome.next hacts, State.linkAskRetrain_retrains hsame hcalm' hrun hstate⟩
  · obtain ⟨u, hacts, hsame, -⟩ := State.request_acts hcalm hfm hfree (R.link n + 4) 2 fun t => t.linkRestart n
    refine ⟨_, congrArg Host.Outcome.next hacts, fun htrain hfit => ?_, fun hnot => ?_⟩
    · unfold State.linkRestart
      rw [if_pos ⟨hsame.running.trans hrun, by rw [State.link_congr hsame.links]; exact hdown, (hsame.mayTrain n.isLt).trans htrain⟩]
      exact State.startTrain_trains n.isLt (hsame.laneFits n.isLt hfit)
    · unfold State.linkRestart
      rw [if_neg fun h => absurd ((hsame.mayTrain n.isLt).symm.trans h.2.2) (by rw [hnot]; decide), State.link_congr hsame.links]
  · obtain ⟨u, hacts, hsame, hcalm'⟩ := State.request_acts hcalm hfm hfree (R.link n + 4) 4 fun t => t.linkForceDown n
    have hlink := State.link_congr hsame.links n
    refine ⟨_, congrArg Host.Outcome.next hacts, ?_⟩
    unfold State.linkForceDown
    rw [if_pos (hsame.running.trans hrun)]
    exact State.goDown_down hcalm' (by rw [hlink]; exact hdis) (by rw [hlink]; exact hdown) 5
  · obtain ⟨u, hacts, hsame, -⟩ := State.request_acts hcalm hfm hfree (R.link n + 4) 8 fun t => t.linkClearRestrict n
    exact ⟨_, congrArg Host.Outcome.next hacts, State.linkClearRestrict_clears hsame hrun⟩
  · have hsame := (State.taken_undisturbed s a (R.link n + 8) v).sameInput hcalm
    have hacts := State.fmRw_eq v (fun t => (t.setReg (R.link n + 8) (pack 32 [(0, 1, 1), (1, 1, bits v 1 1)])).startDrain n) hmay
    generalize s.taken a (R.link n + 8) v = u at hsame hacts
    have hlink : (u.setReg (R.link n + 8) (pack 32 [(0, 1, 1), (1, 1, bits v 1 1)])).link n = s.link n :=
      (State.setReg_link _ _ _ _).trans (State.link_congr hsame.links n)
    obtain ⟨hdrains, hregs⟩ := State.startDrain_drains (t := u.setReg (R.link n + 8) (pack 32 [(0, 1, 1), (1, 1, bits v 1 1)])) (n := n.val)
      (by rw [hlink]; exact hdis) (by rw [hlink]; exact hdrain)
    refine ⟨_, congrArg Host.Outcome.next hacts, ?_, ?_⟩
    · rw [hdrains, hlink, State.now_congr (State.setReg_clk _ _ _), State.now_congr hsame.clk, State.timer_congr (State.setReg_plt _ _ _),
        State.timer_congr hsame.plt]
    · rw [State.fld, State.reg_congr hregs, State.reg_setReg_self]
      exact (linkCfgWord _).1
  · have hsame := (State.taken_undisturbed s a (R.link n + 8) v).sameInput hcalm
    have hacts : s.fmRw a (R.link n + 8) v _ = ((s.taken a (R.link n + 8) v).setReg (R.link n + 8) (pack 32 [(1, 1, bits v 1 1)])).enabled n :=
      State.fmRw_eq v (fun t => (t.setReg (R.link n + 8) (pack 32 [(1, 1, bits v 1 1)])).enabled n) hmay
    have hset : s.sameInput ((s.taken a (R.link n + 8) v).setReg (R.link n + 8) (pack 32 [(1, 1, bits v 1 1)])) :=
      ⟨(State.setReg_plt _ _ _).trans hsame.plt, (State.setReg_links _ _ _).trans hsame.links, (State.setReg_lanes _ _ _).trans hsame.lanes,
        (State.setReg_clk _ _ _).trans hsame.clk, (congrArg Kpr.power (State.setReg_kpr _ _ _)).trans hsame.power, fun off hoff => (State.reg_setReg_ne _ _ (by unfold R.link; omega)).trans (hsame.reg off hoff)⟩
    have hfld := State.reg_setReg_self (s.taken a (R.link n + 8) v) (R.link n + 8) (pack 32 [(1, 1, bits v 1 1)])
    have hshown : shownReg (R.link n + 8) := by
      unfold shownReg R.link
      omega
    refine ⟨_, congrArg Host.Outcome.next hacts, ?_, ?_⟩
    · rw [State.fld, State.enabled_shows _ n.isLt _ hshown, hfld]
      exact (linkCfgWord _).2
    generalize (s.taken a (R.link n + 8) v).setReg (R.link n + 8) (pack 32 [(1, 1, bits v 1 1)]) = u at hset
    have hlink := State.link_congr hset.links n
    unfold State.enabled
    rw [hlink, hset.running, hset.mayTrain n.isLt, State.isSealed_congr hset.plt, State.role_congr hset.plt]
    refine ⟨fun hdis hrun htrain hfit => ?_, fun hdis hfree => ?_, fun hdis hsealed hrole => ?_⟩
    · rw [if_pos hdis, hrun, htrain, if_pos (by rfl)]
      exact (State.startTrain_trains n.isLt (hset.laneFits n.isLt hfit)).1
    · rw [if_neg hdis, if_neg, State.link_setLink_self]
      rw [Bool.and_eq_true, beq_iff_eq]
      rintro ⟨hsealed, hrole⟩
      rcases hfree with h | h
      · exact absurd (h.symm.trans hsealed) (by decide)
      · exact h hrole
    · rw [if_neg hdis, if_pos, hlink]
      rw [hsealed, hrole]
      rfl

end Sys2Proof.Machine
end

section
/-! Accesses of windows: wrong sizes, the mapping range and plain registers (R6, R497, R519, R520, R522, R525). -/

namespace Sys2Proof.Machine

/-! ## Violations -/

theorem State.violation_memory (s : State) (a kind : Nat) (wr : Bool) (off : Nat) : (s.violation a kind wr off).memory = s.memory :=
  State.agree_of_allBut .memory (by simp)

/-- A violation of a window is counted, and the first of its kind or lower in a cycle is recorded. -/
theorem State.violation_shows (s : State) {a : Nat} (ha : a < 16) (kind : Nat) (wr : Bool) (off : Nat) :
    ((s.violation a kind wr off).winReg a R.hwViol).toNat = min ((s.winReg a R.hwViol).toNat + 1) 0xFFFFFFFF ∧
    (s.loggedLower a kind = false → bits ((s.violation a kind wr off).winReg a R.hwViolLog) 0 4 = kind % 16 ∧
      bit ((s.violation a kind wr off).winReg a R.hwViolLog) 4 = wr ∧
      bits ((s.violation a kind wr off).winReg a R.hwViolAddr) 0 26 = off % 2 ^ 26) ∧
    ∀ o, o ≠ R.win a + R.hwViol → o ≠ R.win a + R.hwViolLog → o ≠ R.win a + R.hwViolAddr → (s.violation a kind wr off).reg o = s.reg o := by
  have hcount := s.toNat_reg_bump_self (R.win a + R.hwViol)
  have hne : R.hwViol ≠ R.hwViolLog ∧ R.hwViol ≠ R.hwViolAddr ∧ R.hwViolLog ≠ R.hwViolAddr := by decide
  obtain ⟨hne1, hne2, hne3⟩ := hne
  unfold State.violation State.winReg State.setWinReg
  dsimp only
  rw [if_neg (by omega)]
  split
  · next hlower => exact ⟨hcount, fun h => absurd (h.symm.trans hlower) (by decide), fun o h1 _ _ => State.reg_bump_ne s h1⟩
  · have hparts (t : State) (k : Kpr) (o : Nat) : ({ t with kpr := k } : State).reg o = t.reg o := rfl
    simp only [hparts]
    refine ⟨?_, fun _ => ⟨?_, ?_, ?_⟩, fun o h1 h2 h3 => ?_⟩
    · rw [State.reg_setReg_ne _ _ (by omega), State.reg_setReg_ne _ _ (by omega)]
      exact hcount
    · rw [State.reg_setReg_ne _ _ (by omega), State.reg_setReg_self]
      exact bits_pack (by rfl) (List.mem_cons_self ..) (by decide)
    · rw [State.reg_setReg_ne _ _ (by omega), State.reg_setReg_self]
      exact bit_pack (by rfl) (List.mem_cons_of_mem _ (List.mem_cons_self ..)) (by decide)
    · rw [State.reg_setReg_self]
      exact bits_pack (by rfl) (List.mem_cons_self ..) (by decide)
    · rw [State.reg_setReg_ne _ _ h3, State.reg_setReg_ne _ _ h2, State.reg_bump_ne s h1]

/-! ## Plain registers -/

/-- The plain registers that only a fabric manager writes. -/
def fmPlainRegs : List Nat := [R.kprIdle, R.holdupCfg, R.powerCfg, R.thermalCfg, R.clkCfg, R.laneCfg, R.linkCfg, R.linkCfg2, R.cswCfg, R.xfrCfg, R.colCfg,
  R.updCfg, R.memCfg, R.secCfg]

/-- Two fields of a word that share no bit. -/
abbrev fieldsApart (f g : Nat × Nat × Nat × Nat) : Prop := f.1 + f.2.1 ≤ g.1 ∨ g.1 + g.2.1 ≤ f.1

/-- Fields that lie in a word side by side are each set to what is written. -/
theorem bits_foldl_setBits {fs : Fields} (v : Word) (hin : ∀ g ∈ fs, g.1 + g.2.1 ≤ 32) (hapart : fs.Pairwise fieldsApart) (x : Word)
    {f : Nat × Nat × Nat × Nat} (hf : f ∈ fs ∨ (bits x f.1 f.2.1 = bits v f.1 f.2.1 ∧ ∀ g ∈ fs, fieldsApart f g)) :
    bits (fs.foldl (fun x f => setBits x f.1 f.2.1 (bits v f.1 f.2.1)) x) f.1 f.2.1 = bits v f.1 f.2.1 := by
  induction fs generalizing x with
  | nil => exact hf.elim (fun h => absurd h List.not_mem_nil) fun h => h.1
  | cons g fs ih =>
    obtain ⟨hhead, htail⟩ := List.pairwise_cons.mp hapart
    have hg := hin g List.mem_cons_self
    have hself : bits (setBits x g.1 g.2.1 (bits v g.1 g.2.1)) g.1 g.2.1 = bits v g.1 g.2.1 := by
      rw [bits_setBits_self _ _ _ _ hg]
      exact Nat.mod_mod _ _
    refine ih (fun k hk => hin k (List.mem_cons_of_mem _ hk)) htail _ ?_
    rcases hf with hmem | ⟨hset, hother⟩
    · rcases List.mem_cons.mp hmem with rfl | hmem
      · exact .inr ⟨hself, hhead⟩
      · exact .inl hmem
    · refine .inr ⟨?_, fun k hk => hother k (List.mem_cons_of_mem _ hk)⟩
      rcases hother g List.mem_cons_self with h | h
      · rw [bits_setBits_below _ _ _ _ _ _ hg h]; exact hset
      · rw [bits_setBits_above _ _ _ _ _ _ hg h]; exact hset

theorem fmPlainRegs_route : ∀ off ∈ fmPlainRegs, off % 4 = 0 ∧ inWindows off = false ∧ regAccess off = .rw ∧ selectorBits off = none ∧
    ¬ (0x1402000 ≤ off ∧ off < 0x1404000) ∧ ¬ (0x1802000 ≤ off ∧ off < 0x1802800 ∧ off % 32 = 0x10) ∧
    ¬ (off = R.pltEngCtl ∨ off = R.pltEngLen ∨ off = R.pltStepCtl ∨ (R.pltEngData ≤ off ∧ off < 0x102000)) ∧ off < 2 ^ 26 := by
  decide

theorem fmPlainRegs_fields : ∀ off ∈ fmPlainRegs, ∀ fs, plainFields off = some fs → (∀ g ∈ fs, g.1 + g.2.1 ≤ 32) ∧ fs.Pairwise fieldsApart := by
  have hall : ∀ off ∈ fmPlainRegs, (plainFields off).all (fun fs => decide ((∀ g ∈ fs, g.1 + g.2.1 ≤ 32) ∧
      fs.Pairwise fun f g => f.1 + f.2.1 ≤ g.1 ∨ g.1 + g.2.1 ≤ f.1)) = true := by decide
  intro off hoff fs hfs
  have hlaid := hall off hoff
  rw [hfs] at hlaid
  exact of_decide_eq_true hlaid

/-- A write of a plain register goes to the fabric manager's registers. -/
theorem State.regWrite_plain (s : State) {off : Nat} (hoff : off ∈ fmPlainRegs) (a : Nat) (v : Word) :
    s.regWrite a off v = if s.srcFm a then s.fmBlockWrite a off v else s.violation a 4 true off := by
  obtain ⟨haligned, hwindow, haccess, hsel, hcq, harr, heng, -⟩ := fmPlainRegs_route off hoff
  unfold State.regWrite
  rw [if_neg (not_not.mpr haligned), hwindow, if_neg Bool.false_ne_true, haccess, hsel]
  dsimp only
  rw [if_neg hcq, if_neg harr, if_neg heng]
  cases s.srcFm a <;> rfl

theorem State.fmBlockWrite_plain (s : State) {off : Nat} {fs : Fields} (hfs : plainFields off = some fs) (a : Nat) (v : Word) :
    s.fmBlockWrite a off v = if fs.all (fits v) then s.lastWins a off fun t => t.writeFields off v fs else s := by
  unfold State.fmBlockWrite
  rw [hfs]

/-- A plain register takes what is written in range; its fields read as written. -/
theorem State.writeFields_takes (s : State) {off : Nat} (hoff : off ∈ fmPlainRegs) {fs : Fields} (hfs : plainFields off = some fs) {v : Word}
    (hfit : fs.all (fits v) = true) : ∀ f ∈ fs, (s.writeFields off v fs).fld off f.1 f.2.1 = bits v f.1 f.2.1 := fun f hf => by
  obtain ⟨hin, hapart⟩ := fmPlainRegs_fields off hoff fs hfs
  unfold State.writeFields State.fld
  rw [if_pos hfit, State.reg_setReg_self]
  exact bits_foldl_setBits v hin hapart _ (.inl hf)

/-! ## The mapping range -/

theorem State.mapRead_outside {s : State} {w r n : Nat} (h : s.mapAccess w r n = none) :
    s.mapRead w r n = (allOnes n, s.violation w 1 false (R.win w + r)) := by
  unfold State.mapRead
  rw [h]

theorem State.mapWrite_outside {s : State} {w r : Nat} {d : List Byte} (h : s.mapAccess w r d.length = none) :
    s.mapWrite w r d = s.violation w 1 true (R.win w + r) := by
  unfold State.mapWrite
  dsimp only
  rw [h]

/-- A mapped read of a plain line answers what memory holds. -/
theorem State.mapRead_plain {s : State} {w r n : Nat} {v : PlateV} {g : Region} {o : Nat} (h : s.mapAccess w r n = some (v, g, o)) (hrun : s.running = true)
    (hfence : s.mapFenced v g o = false) (hmode : v.mode g.pkey ≠ 2) (hpoison : s.poisoned (v.lineAt g.num o) = false) :
    s.mapRead w r n = (BitVec.ofNat 512 (bytesAt (s.readLine v g o) (o % 64) n),
      (s.queueReads v g o n none).tagHost (v.portOf (v.lineAt g.num o)) (v.lineAt g.num o) w n) := by
  unfold State.mapRead
  rw [h]
  dsimp only
  rw [hrun, hfence, hpoison, if_neg hmode]
  rfl

/-- Queueing writes touches no register but the counters of memory. -/
theorem State.queueWrites_reg (s : State) (v : PlateV) (g : Region) (off n : Nat) (job : Option Nat) {r : Nat} (hr : ∀ k, r ≠ R.memCount k) :
    (s.queueWrites v g off n job).reg r = s.reg r := by
  have hheal (t : State) (p key : Nat) : (t.cancelHeal p key).reg r = t.reg r := by
    unfold State.cancelHeal
    dsimp only
    split
    · exact (State.reg_bump_ne _ (hr 3)).trans (State.setChan_reg _ _ _ _)
    · rfl
  have hjob (u : State) (f : Job → Job) : (u.forJob job f).reg r = u.reg r := State.reg_congr (State.agree_of_allBut .regs (by simp)) r
  have hline (t : State) (key : Nat) (kind : LineKind) (size : Nat) : (t.queueLine v key kind job size).reg r = t.reg r := by
    have hstart : (if kind = .read then t else t.cancelHeal (v.portOf key) key).reg r = t.reg r := by
      split
      · rfl
      · exact hheal t _ key
    have hcount (u : State) (p : Prop) [Decidable p] : (if p then u.bump (R.memCount 6) else u).reg r = u.reg r := by
      split
      · exact State.reg_bump_ne u (hr 6)
      · rfl
    unfold State.queueLine
    dsimp only
    rw [hcount, hjob, State.setChan_reg, hstart]
  refine foldl_keeps (fun t : State => t.reg r) (f := fun t o => t.queueWrite v g off n job o) (fun t o => ?_) _ s
  unfold State.queueWrite
  dsimp only
  split
  · split
    · exact hjob _ _
    · exact hline _ _ _ _
  · exact hline _ _ _ _

/-- A mapped write of a plain line is in memory, and the Script takes no data of it while it is off. -/
theorem State.mapWrite_plain {s : State} {w r : Nat} {v : PlateV} {g : Region} {o : Nat} {d : List Byte} (hlen : d.length = 64)
    (h : s.mapAccess w r 64 = some (v, g, o)) (hrun : s.running = true) (hfence : s.mapFenced v g o = false) (hmode : v.mode g.pkey ≠ 2)
    (hrw : g.readOnly = false) (hoff : s.scriptOn = false) :
    s.mapWrite w r d = (s.writeBytes v g o d).queueWrites v g o 64 none := by
  have hsecret : (v.mode g.pkey == 2) = false := beq_eq_false_iff_ne.mpr hmode
  have hscript : ((s.writeBytes v g o d).queueWrites v g o 64 none).scriptOn = false := by
    have hregs : (s.writeBytes v g o d).regs = s.regs := State.agree_of_allBut .regs (by simp)
    unfold State.scriptOn
    rw [State.queueWrites_reg _ _ _ _ _ _ (fun k => by unfold R.scriptCfg R.memCount; omega), State.reg_congr hregs]
    exact hoff
  unfold State.mapWrite
  dsimp only
  rw [hlen, h]
  dsimp only
  rw [hrw, hsecret, hrun, hfence]
  simp only [hscript, Bool.false_and, Bool.or_false, Bool.false_eq_true, if_false, Bool.not_true, bne_self_eq_false, Bool.and_false]

theorem exec_badSizeAccess (w : Win) (wr : Bool) (off : BitVec 26) (s : State) : exec (.badSizeAccess w wr off) s =
    .next (if wr then s.violation w 1 wr off.toNat else (s.violation w 1 wr off.toNat).answerRead w (allOnes 64)) := rfl

theorem exec_hostMapAccess {w : Win} {off : BitVec 26} {s : State} (hlo : R.mapRange ≤ off.toNat) (hhi : off.toNat < 0x100000) :
    exec (.hostMapAccess w off .read64) s = .next ((s.mapRead w off.toNat 64).2.answerRead w (s.mapRead w off.toNat 64).1) ∧
    ∀ d, exec (.hostMapAccess w off (.write64 d)) s = .next (s.mapWrite w off.toNat (toBytes d 64)) := by
  have hin : ¬ (off.toNat < R.mapRange ∨ 0x100000 ≤ off.toNat) := by omega
  exact ⟨if_neg hin, fun d => if_neg hin⟩

theorem State.answerRead_shows (s : State) (w : Nat) (l : Line) : tabGet 0 (s.answerRead w l).hostRead w = l ∧ (s.answerRead w l).memory = s.memory ∧
    (∀ a o, (s.answerRead w l).winReg a o = s.winReg a o) ∧ ∀ o, (s.answerRead w l).reg o = s.reg o :=
  ⟨tabGet_set_self .., rfl, fun _ _ => rfl, fun _ => rfl⟩

/-- Settles O56: an access of a wrong size, one of the mapping range, and a write of a plain register. -/
theorem windowAccessesAct : Obligations.WindowAccessesAct := by
  unfold Obligations.WindowAccessesAct
  refine ⟨fun w wr off s => ?_, fun w off s hlo hhi hnone d => ?_, fun w off v g o s hlo hhi haccess hrun hfence hmode => ?_,
    fun w off fs v s hoff hfs => ?_⟩
  · obtain ⟨hcount, hlog, hregs⟩ := s.violation_shows w.isLt 1 wr off.toNat
    have hmem := s.violation_memory w 1 wr off.toNat
    rw [Nat.mod_eq_of_lt off.isLt] at hlog
    cases wr
    · obtain ⟨hanswer, hsame, hwin, hreg⟩ := (s.violation w 1 false off.toNat).answerRead_shows w (allOnes 64)
      refine ⟨(s.violation w 1 false off.toNat).answerRead w (allOnes 64), by rw [exec_badSizeAccess, if_neg Bool.false_ne_true], ?_, ?_,
        fun _ => hanswer, hsame.trans hmem, fun o h1 h2 h3 => (hreg o).trans (hregs o h1 h2 h3)⟩
      · rw [hwin]
        exact hcount
      · rw [hwin, hwin]
        exact hlog
    · exact ⟨s.violation w 1 true off.toNat, by rw [exec_badSizeAccess, if_pos rfl], hcount, hlog, fun h => absurd h (by decide), hmem, hregs⟩
  · obtain ⟨hread, hwrite⟩ := exec_hostMapAccess (w := w) (s := s) hlo hhi
    rw [State.mapRead_outside hnone] at hread
    obtain ⟨hanswer, hsame, -⟩ := (s.violation w 1 false (R.win w + off.toNat)).answerRead_shows w (allOnes 64)
    refine ⟨⟨_, hread, hanswer, hsame.trans (s.violation_memory _ _ _ _)⟩, ?_⟩
    rw [hwrite d, State.mapWrite_outside (by rw [length_toBytes]; exact hnone)]
  · obtain ⟨hread, hwrite⟩ := exec_hostMapAccess (w := w) (s := s) hlo hhi
    refine ⟨fun hpoison => ?_, fun d hrw hscript => ?_⟩
    · rw [State.mapRead_plain haccess hrun hfence hmode hpoison] at hread
      obtain ⟨hanswer, hsame, -⟩ := State.answerRead_shows ((s.queueReads v g o 64 none).tagHost (v.portOf (v.lineAt g.num o)) (v.lineAt g.num o) w 64) w
        (BitVec.ofNat 512 (bytesAt (s.readLine v g o) (o % 64) 64))
      exact ⟨_, hread, hanswer, hsame.trans (State.agree_of_allBut .memory (by simp))⟩
    · have hexec := hwrite d
      rw [State.mapWrite_plain (length_toBytes d 64) haccess hrun hfence hmode hrw hscript] at hexec
      exact ⟨_, hexec, State.agree_of_allBut .memory (by simp)⟩
  · have hreg : off ∈ fmPlainRegs := hoff
    have hword : (BitVec.ofNat 26 off).toNat = off := by
      obtain ⟨-, -, -, -, -, -, -, hlt⟩ := fmPlainRegs_route off hreg
      rw [BitVec.toNat_ofNat, Nat.mod_eq_of_lt hlt]
    have hexec : exec (.registerWrite w (BitVec.ofNat 26 off) v) s = .next (s.regWrite w off v) := by
      change Host.Outcome.next (s.regWrite w (BitVec.ofNat 26 off).toNat v) = _
      rw [hword]
    refine ⟨_, hexec, fun hfm hfit hfirst f hf => ?_, fun hfm hno => ?_, fun hfm => ?_, ?_⟩
    · rw [State.regWrite_plain s hreg, hfm, if_pos rfl, State.fmBlockWrite_plain s hfs, hfit, if_pos rfl, State.lastWins_eq _ hfirst]
      exact State.writeFields_takes _ hreg hfs hfit f hf
    · rw [State.regWrite_plain s hreg, hfm, if_pos rfl, State.fmBlockWrite_plain s hfs]
      split
      · next hfit => exact State.lastWins_behind _ (hno.resolve_left (by rw [hfit]; decide))
      · rfl
    · rw [State.regWrite_plain s hreg, hfm]
      rfl
    · have hput (t : State) : (t.writeFields off v fs).memory = t.memory := State.agree_of_allBut .memory (by simp)
      rw [State.regWrite_plain s hreg, State.fmBlockWrite_plain s hfs]
      split
      · split
        · by_cases hfirst : s.foremost w off
          · rw [State.lastWins_eq _ hfirst]
            exact hput _
          · rw [State.lastWins_behind _ hfirst]
        · rfl
      · exact s.violation_memory _ _ _ _

end Sys2Proof.Machine
end

section
/-! One cell through the switch (R166 to R169, R175, R177, R187). -/

namespace Sys2Proof.Machine

/-! ## A cycle with one cell -/

/-- Nothing waits at the inputs of the switch but what is in the injection buffer. -/
def State.onlyInject (s : State) : Prop := (∀ n, (s.link n).pool = [] ∧ (s.link n).passed = []) ∧ s.csw.reroutes = []

theorem State.onlyInject.inputCells {s : State} (h : s.onlyInject) (n : Nat) : s.inputCells n = if n = 32 then s.csw.inject else [] := by
  obtain ⟨hlinks, hrerouted⟩ := h
  obtain ⟨hpool, hpassed⟩ := hlinks n
  unfold State.inputCells
  split
  · rfl
  · split
    · rw [hrerouted]
      rfl
    · dsimp only
      rw [hpool, hpassed]
      split <;> rfl

theorem State.onlyInject.dropBadClass {s : State} (h : s.onlyInject) : s.dropBadClass = s := by
  unfold State.dropBadClass
  refine List.foldlRecOn (motive := fun t => t = s) (List.range 32) _ rfl fun t ht n _ => ?_
  obtain ⟨hpool, hpassed⟩ := h.1 n
  rw [ht, hpool, hpassed]
  rfl

/-- With nothing at the inputs nothing is presented. -/
theorem State.presented_nil {s : State} (h : s.onlyInject) (hinject : s.csw.inject = []) (b : Budget) : s.presented b = [] := by
  have hempty (n : Nat) : s.inputCells n = [] := by
    rw [h.inputCells]
    split
    · exact hinject
    · rfl
  unfold State.presented
  simp [hempty]

theorem classOfType_lt {ty k : Nat} (h : classOfType ty = some k) : k < 6 := by
  unfold classOfType at h
  split_ifs at h <;> cases h <;> decide

/-- The one cell of an input stands for its class alone. -/
theorem find?_single (c : Cell) (k : Nat) : ([c].find? fun x => x.cls.toNat == k) = if c.cls.toNat = k then some c else none := by
  rw [List.find?_singleton]
  simp only [beq_iff_eq]

/-- A cell alone in the injection buffer is all that is presented. -/
theorem State.presented_one {s : State} {c : Cell} (h : s.onlyInject) (hinject : s.csw.inject = [c]) (hcls : c.cls.toNat < 6) :
    s.presented Budget.fresh = [(32, c)] := by
  have hone : ((List.range 6).filterMap fun k => if Budget.fresh.blocked.contains (32, k) then none
      else ((s.inputCells 32).find? fun x => x.cls.toNat == k).map fun x => (32, x)) = [(32, c)] := by
    have hclass (k : Nat) : (if Budget.fresh.blocked.contains (32, k) then none
        else ((s.inputCells 32).find? fun x => x.cls.toNat == k).map fun x => ((32 : Nat), x)) = if c.cls.toNat = k then some (32, c) else none := by
      rw [if_neg (by simp [Budget.fresh]), h.inputCells, if_pos rfl, hinject, find?_single]
      split <;> rfl
    simp only [hclass]
    generalize c.cls.toNat = m at hcls
    interval_cases m <;> rfl
  have hnone (n : Nat) (hn : n ≠ 32) : (if inputLimit n ≤ (Budget.fresh.taken.filter fun x => x == n).length then []
      else (List.range 6).filterMap fun k => if Budget.fresh.blocked.contains (n, k) then none
        else ((s.inputCells n).find? fun x => x.cls.toNat == k).map fun x => (n, x)) = [] := by
    rw [h.inputCells, if_neg hn]
    simp
  unfold State.presented allInputs
  rw [List.flatMap_append, show List.range 33 = List.range 32 ++ [32] from List.range_succ, List.flatMap_append, List.flatMap_singleton, List.flatMap_eq_nil_iff.mpr, List.flatMap_eq_nil_iff.mpr,
    if_neg (by decide), hone]
  · rfl
  · intro n hn
    obtain ⟨m, -, rfl⟩ := List.mem_map.mp hn
    exact hnone _ (by omega)
  · exact fun n hn => hnone n (by have hlt := List.mem_range.mp hn; omega)

/-- A cycle with one cell in the injection buffer ends with that cell's turn, where it leaves its input. -/
theorem State.choose_one {s u : State} {c : Cell} {b : Budget} (h : s.onlyInject) (hinject : s.csw.inject = [c]) (hcls : c.cls.toNat < 6)
    (hturn : s.cellTurn Budget.fresh 32 c s = (b, u)) (htaken : b.taken ≠ []) (hafter : u.onlyInject) (hgone : u.csw.inject = []) : s.choose = u := by
  have hoffer : s.offerTurn (Budget.fresh, s) (32, c) = (b, u) := by
    unfold State.offerTurn
    dsimp only
    rw [hturn]
    exact if_neg fun hlen => htaken (List.length_eq_zero_iff.mp hlen)
  have hturns : s.turns [(32, c)] Budget.fresh s = (b, u) := hoffer
  unfold State.choose
  rw [h.dropBadClass]
  unfold State.rounds
  dsimp only
  rw [State.presented_one h hinject hcls]
  dsimp only
  rw [hturns]
  unfold State.rounds
  rw [State.presented_nil hafter hgone]

/-! ## Leaving the injection buffer, and ejection -/

theorem Csw.relatch_parts (x : Csw) (n : Nat) : (x.relatch n).ejected = x.ejected ∧ (x.relatch n).inject = x.inject ∧ (x.relatch n).reroutes = x.reroutes := by
  unfold Csw.relatch
  split
  · exact ⟨rfl, rfl, rfl⟩
  · split <;> exact ⟨rfl, rfl, rfl⟩

theorem State.eject_parts (s : State) (input : Nat) (c : Cell) (neverSent : Bool) :
    (s.eject input c neverSent).csw.ejected = s.csw.ejected ++ [{ input := input, cell := c, neverSent := neverSent }] ∧
    (s.eject input c neverSent).csw.inject = s.csw.inject ∧ (s.eject input c neverSent).csw.reroutes = s.csw.reroutes :=
  Csw.relatch_parts { s.csw with ejected := s.csw.ejected ++ [{ input := input, cell := c, neverSent := neverSent }] } input

/-- A cell that was alone in the injection buffer leaves it empty. -/
theorem State.leaveInput_inject {s : State} {c : Cell} (h : s.csw.inject = [c]) : (s.leaveInput 32 c).csw.inject = [] ∧
    (s.leaveInput 32 c).csw.ejected = s.csw.ejected ∧ (s.leaveInput 32 c).csw.reroutes = s.csw.reroutes ∧ (s.leaveInput 32 c).links = s.links := by
  have hdrop : dropFirst (fun a => decide (a = c)) [c] = [] := by
    unfold dropFirst
    exact if_pos (decide_eq_true rfl)
  unfold State.leaveInput
  dsimp only
  rw [if_neg (by decide), if_pos rfl]
  refine ⟨?_, rfl, rfl, rfl⟩
  change dropFirst (fun a => decide (a = c)) s.csw.inject = []
  rw [h, hdrop]

/-- Leaving a link's pool ejects nothing and injects nothing. -/
theorem State.leaveInput_link (s : State) {n : Nat} (hn : n < 32) (c : Cell) : (s.leaveInput n c).csw.ejected = s.csw.ejected := by
  unfold State.leaveInput
  dsimp only
  rw [if_pos hn]
  rfl

theorem State.takeRate_parts (s : State) (input : Nat) (c : Cell) : (s.takeRate input c).csw.ejected = s.csw.ejected ∧
    (s.takeRate input c).csw.inject = s.csw.inject ∧ (s.takeRate input c).csw.reroutes = s.csw.reroutes ∧ (s.takeRate input c).links = s.links := by
  unfold State.takeRate
  split
  · exact ⟨rfl, rfl, rfl, rfl⟩
  · exact ⟨rfl, rfl, rfl, rfl⟩

theorem State.noteSenior_parts (s : State) (c : Cell) : (s.noteSenior c).csw.ejected = s.csw.ejected ∧ (s.noteSenior c).csw.inject = s.csw.inject ∧
    (s.noteSenior c).csw.withheld = s.csw.withheld ∧ (s.noteSenior c).kpr = s.kpr := by
  unfold State.noteSenior
  split
  · exact ⟨rfl, rfl, rfl, rfl⟩
  · exact ⟨rfl, rfl, rfl, rfl⟩

/-! ## Placement -/

/-- The cell as a link's transmit queue takes it. -/
def State.placedCell (s : State) (n : Nat) (c : Cell) (deflected : Bool) : Cell :=
  withCheck { c with
    cm := c.cm || (deflected || decide (s.markDepth ≤ (s.link n).queued c.cls.toNat)), deflected := c.deflected || deflected
    hop := BitVec.ofNat 4 (min 15 (c.hop.toNat + 1))
    echo := c.echo || (c.cls.toNat == 1 && epNode c.src.toNat == s.nodeId && (tabFind s.csw.echoes (epNode c.dest.toNat)).isSome) }

theorem State.placeCell_parts (s : State) (n : Nat) (c : Cell) (deflected : Bool) :
    (s.placeCell n c deflected).links = (s.modLink n fun y => { y with txq := y.txq ++ [s.placedCell n c deflected] }).links ∧
    (s.placeCell n c deflected).csw.inject = s.csw.inject ∧ (s.placeCell n c deflected).csw.reroutes = s.csw.reroutes := by
  have hbump (t : State) (b : Bool) (off : Nat) : (if b then t.bump off else t).links = t.links ∧ (if b then t.bump off else t).csw = t.csw := by
    cases b <;> exact ⟨rfl, rfl⟩
  have hecho (t : State) (b : Bool) (x : Tab Nat) : (if b then (t.setCsw { t.csw with echoes := x }).bump R.echoTx else t).links = t.links ∧
      (if b then (t.setCsw { t.csw with echoes := x }).bump R.echoTx else t).csw.inject = t.csw.inject ∧
      (if b then (t.setCsw { t.csw with echoes := x }).bump R.echoTx else t).csw.reroutes = t.csw.reroutes := by
    cases b <;> exact ⟨rfl, rfl, rfl⟩
  have hcount (t : State) (off v : Nat) : (t.setReg64 off v).links = t.links ∧ (t.setReg64 off v).csw = t.csw := ⟨rfl, rfl⟩
  unfold State.placeCell
  dsimp only
  rw [(hcount _ _ _).1, (hcount _ _ _).2, (hecho _ _ _).1, (hecho _ _ _).2.1, (hecho _ _ _).2.2, (hbump _ _ _).1, (hbump _ _ _).2, (hbump _ _ _).1,
    (hbump _ _ _).2]
  exact ⟨rfl, rfl, rfl⟩

theorem toNat_hop (k : Nat) : (BitVec.ofNat 4 (min 15 k)).toNat = min 15 k := by
  rw [BitVec.toNat_ofNat]
  omega

/-! ## The turn of a cell -/

/-- A cell whose header is sound, whose type has its class and which is not aged. -/
structure State.soundCell (s : State) (c : Cell) : Prop where
  check : c.hchk = headerCheck c
  cls : classOfType c.typ.toNat = some c.cls.toNat
  young : s.isAged c = false

/-- At a node without a Plate a C5 cell for this node is ejected. -/
theorem State.cellTurn_bare {s : State} {c : Cell} (h : s.soundCell c) (hbare : s.isSealed = false) (hcls : c.cls = 5) (hdest : c.dest.toNat = s.nodeId) :
    s.cellTurn Budget.fresh 32 c s = leaves { Budget.fresh with ejected := 1 } 32 c (s.eject 32 c false) := by
  unfold State.cellTurn
  rw [if_neg (by decide), if_neg (not_not.mpr h.check), if_neg (not_not.mpr h.cls), if_neg (by rw [h.young]; decide), if_pos (by rw [hbare]; rfl)]
  unfold State.bareTurn
  rw [if_neg (not_not.mpr hcls), if_pos hdest]
  exact if_neg (by decide)

/-- What a sealed node's switch asks of a cell before it resolves it. -/
structure State.entersAt (s : State) (v : PlateV) (input : Nat) (c : Cell) : Prop extends s.soundCell c where
  isSealed : s.isSealed = true
  version : s.versionOf c.epoch = some v
  dest : epReserved c.dest.toNat = false
  src : epReserved c.src.toNat = false
  enters : s.mayEnter v input c = true
  free : s.limited input c = false

theorem State.cellTurn_resolves {s : State} {v : PlateV} {input : Nat} {c : Cell} (h : s.entersAt v input c) :
    s.cellTurn Budget.fresh input c s = s.resolve Budget.fresh v input c (s.noteSenior c) := by
  have hlimit : ¬ inputLimit input ≤ (Budget.fresh.taken.filter fun n => n == input).length := by
    unfold inputLimit
    split <;> simp [Budget.fresh]
  unfold State.cellTurn
  rw [if_neg hlimit, if_neg (not_not.mpr h.check), if_neg (not_not.mpr h.cls), if_neg (by rw [h.young]; decide), if_neg (by rw [h.isSealed]; decide),
    h.version]
  dsimp only
  rw [h.dest, h.src, h.enters, h.free]
  refine (if_neg (by decide)).trans ((if_neg ?_).trans (if_neg fun hlimited => Bool.false_ne_true hlimited.1))
  rw [Bool.not_true, Bool.and_false]
  exact Bool.false_ne_true

/-- A cell for another node that has a port and a link goes into that link's transmit queue. -/
theorem State.resolve_routes {s : State} {v : PlateV} {c : Cell} {p n : Nat} {d : Bool} (hdest : epNode c.dest.toNat ≠ s.nodeId)
    (hnot : c.dest.toNat ≠ s.nodeId) (hvalid : (routeEntry v (epNode c.dest.toNat)).valid = true)
    (htakers : s.takers s Budget.fresh (routeEntry v (epNode c.dest.toNat)).preferred c ≠ [])
    (hport : s.routePort s Budget.fresh (routeEntry v (epNode c.dest.toNat)) c none = some (p, d)) (hlink : s.linkOfPort s Budget.fresh p c = some n) :
    s.resolve Budget.fresh v 32 c s = leaves { Budget.fresh with put := [n] } 32 c ((s.placeCell n c d).takeRate 32 c) := by
  have hwake : s.wakePort s Budget.fresh (routeEntry v (epNode c.dest.toNat)).preferred c = s :=
    if_neg fun h => htakers (List.isEmpty_iff.mp h)
  have hroute : s.routeTo Budget.fresh v s c none = (true, { Budget.fresh with put := [n] }, s.placeCell n c d) := by
    unfold State.routeTo
    dsimp only
    rw [hvalid, hwake, hport]
    dsimp only
    rw [hlink]
    rfl
  unfold State.resolve
  dsimp only
  rw [if_neg fun h => hnot h.2, if_neg hnot, if_neg hdest]
  rw [if_neg (by decide : ¬ 64 ≤ 32), hroute]
  exact if_pos rfl

/-- A link's C2 cell for the ERU is ejected, unless the input's backlog holds it back. -/
theorem State.resolve_deferred {s u : State} {v : PlateV} {n : Nat} {c : Cell} (htree : c.mcast = false) (hdest : c.dest.toNat = u.nodeId)
    (hcls : c.cls = 2) (heru : forEru c = true) (hhere : u.isLost (epNode c.src.toNat) = false) (hmay : u.mayEject v c = 0) :
    (s.resolve Budget.fresh v n c u).2 = if u.csw.withheld.contains n then u.withhold n
      else ((((u.owesEcho c).eject n c false).takeRate n c).leaveInput n c) := by
  have hnotGather : cellIs c 0x1A = false := by
    unfold forEru at heru
    rcases Bool.or_eq_true _ _ |>.mp heru with h | h
    · exact cellIs_ne h (by decide)
    · exact cellIs_ne h (by decide)
  have hflag : (u.owesEcho c).takeFlag n c = (c, u.owesEcho c) := by
    unfold State.takeFlag
    rw [hcls]
    exact if_neg (by rw [Bool.and_eq_true]; exact fun h => absurd h.2 (by decide))
  have heject : State.ejectTo Budget.fresh v u n c false = if u.csw.withheld.contains n then (false, Budget.fresh, u.withhold n)
      else (true, { Budget.fresh with ejected := 1 }, (u.owesEcho c).eject n c false) := by
    unfold State.ejectTo
    dsimp only
    rw [if_neg (by rw [hhere]; exact fun h => absurd h.2 (by decide)), if_neg (not_not.mpr hmay), if_neg (by decide), heru, hnotGather, hflag]
    by_cases hheld : u.csw.withheld.contains n = true
    · rw [if_pos ⟨rfl, hheld⟩, if_pos hheld]
    · rw [if_neg fun h => hheld h.2, if_neg hheld]
      exact if_neg fun h => absurd h.1 (by decide)
  unfold State.resolve
  dsimp only
  rw [if_neg (by rw [htree]; exact fun h => absurd h.1 (by decide)), if_pos hdest, heject]
  split
  · rfl
  · rfl

theorem State.owesEcho_ejected (s : State) (c : Cell) : (s.owesEcho c).csw.ejected = s.csw.ejected := by
  unfold State.owesEcho
  dsimp only
  split <;> rfl

theorem State.withhold_parts (s : State) (n : Nat) : (s.withhold n).csw.ejected = s.csw.ejected ∧ (s.withhold n).csw.inject = s.csw.inject :=
  ⟨rfl, rfl⟩

theorem epNode_of_node {s : State} {ep : Nat} (h : ep = s.nodeId) : epNode ep = s.nodeId := by
  unfold epNode
  rw [if_pos (by rw [h]; exact s.nodeId_lt), h]

/-- The one cell of the injection buffer, for this node at a node without a Plate, is ejected. -/
theorem State.choose_ejects {s : State} {c : Cell} (hrun : s.running = true) (hone : s.onlyInject) (hinject : s.csw.inject = [c]) (h : s.soundCell c)
    (hbare : s.isSealed = false) (hcls : c.cls = 5) (hdest : c.dest.toNat = s.nodeId) :
    ∃ t, exec .cellOutputChoice s = .next t ∧ t.csw.inject = [] ∧
      t.csw.ejected = s.csw.ejected ++ [{ input := 32, cell := c, neverSent := false }] ∧ t.links = s.links := by
  obtain ⟨hejected, hinject', hrerouted⟩ := s.eject_parts 32 c false
  obtain ⟨hgone, hejected', hrerouted', hlinks⟩ := State.leaveInput_inject (hinject'.trans hinject)
  have hturn := State.cellTurn_bare h hbare hcls hdest
  have hafter : ((s.eject 32 c false).leaveInput 32 c).onlyInject :=
    ⟨fun n => by rw [State.link_congr (hlinks.trans rfl)]; exact hone.1 n, (hrerouted'.trans hrerouted).trans hone.2⟩
  have hchoose := State.choose_one hone hinject (classOfType_lt h.cls) hturn (List.cons_ne_nil _ _) hafter hgone
  refine ⟨_, congrArg Host.Outcome.next ((if_pos hrun).trans hchoose), hgone, hejected'.trans hejected, hlinks.trans rfl⟩

/-- The one cell of the injection buffer, for another node, goes into the transmit queue of the link that R175 yields. -/
theorem State.choose_routes {s : State} {v : PlateV} {c : Cell} {p n : Nat} {d : Bool} (hrun : s.running = true) (hone : s.onlyInject)
    (hinject : s.csw.inject = [c]) (h : s.entersAt v 32 c) (hdest : epNode c.dest.toNat ≠ s.nodeId) (hsenior : s.senior c = false)
    (hvalid : (routeEntry v (epNode c.dest.toNat)).valid = true)
    (htakers : s.takers s Budget.fresh (routeEntry v (epNode c.dest.toNat)).preferred c ≠ [])
    (hport : s.routePort s Budget.fresh (routeEntry v (epNode c.dest.toNat)) c none = some (p, d)) (hlink : s.linkOfPort s Budget.fresh p c = some n) :
    ∃ t y, exec .cellOutputChoice s = .next t ∧ t.csw.inject = [] ∧ (t.link n).txq = (s.link n).txq ++ [y] ∧ y.dest = c.dest ∧ y.tag = c.tag ∧
      y.payload = c.payload ∧ y.hop.toNat = min 15 (c.hop.toNat + 1) ∧ (d = true → y.cm = true ∧ y.deflected = true) := by
  have hnoted : s.noteSenior c = s := by
    unfold State.noteSenior
    rw [hsenior]
    exact if_neg Bool.false_ne_true
  have hturn := State.cellTurn_resolves h
  rw [hnoted, State.resolve_routes hdest (fun hself => hdest (epNode_of_node hself)) hvalid htakers hport hlink] at hturn
  obtain ⟨hlinks, hinjectPlaced, hreroutesPlaced⟩ := s.placeCell_parts n c d
  obtain ⟨-, hinjectRate, hreroutesRate, hlinksRate⟩ := (s.placeCell n c d).takeRate_parts 32 c
  obtain ⟨hgone, -, hreroutes, hlinksLeft⟩ := State.leaveInput_inject ((hinjectRate.trans hinjectPlaced).trans hinject)
  have hall : (((s.placeCell n c d).takeRate 32 c).leaveInput 32 c).links =
      (s.modLink n fun y => { y with txq := y.txq ++ [s.placedCell n c d] }).links := (hlinksLeft.trans hlinksRate).trans hlinks
  have hafter : (((s.placeCell n c d).takeRate 32 c).leaveInput 32 c).onlyInject := by
    refine ⟨fun m => ?_, ((hreroutes.trans hreroutesRate).trans hreroutesPlaced).trans hone.2⟩
    rw [State.link_congr hall, State.link_modLink]
    split
    · exact hone.1 n
    · exact hone.1 m
  have hchoose := State.choose_one hone hinject (classOfType_lt h.cls) hturn (List.cons_ne_nil _ _) hafter hgone
  refine ⟨_, s.placedCell n c d, congrArg Host.Outcome.next ((if_pos hrun).trans hchoose), hgone, ?_, rfl, rfl, rfl, toNat_hop _, fun hd => ⟨?_, ?_⟩⟩
  · rw [State.link_congr hall, State.link_modLink, if_pos rfl]
  · unfold State.placedCell withCheck
    dsimp only
    rw [hd, Bool.true_or, Bool.or_true]
  · unfold State.placedCell withCheck
    dsimp only
    rw [hd, Bool.or_true]

/-- A link's C2 cell for the ERU that is offered again is ejected, or stays where its backlog holds it back. -/
theorem State.deferredEjection_acts {n : LinkIx} {v : PlateV} {c : Cell} {s : State} (hrun : s.running = true)
    (hfound : (s.inputCells n).find? (fun y => y.cls == 2) = some c) (h : s.entersAt v n c) (htree : c.mcast = false) (hdest : c.dest.toNat = s.nodeId)
    (heru : forEru c = true) (hhere : (s.noteSenior c).isLost (epNode c.src.toNat) = false) (hmay : (s.noteSenior c).mayEject v c = 0) :
    ∃ t, exec (.deferredEjection n) s = .next t ∧
      (s.csw.withheld.contains n.val = false → t.csw.ejected = s.csw.ejected ++ [{ input := n, cell := c, neverSent := false }]) ∧
      (s.csw.withheld.contains n.val = true → t.csw.ejected = s.csw.ejected ∧ t.csw.inject = s.csw.inject) := by
  obtain ⟨hejected, hinject, hwithheld, hkpr⟩ := s.noteSenior_parts c
  have hclass := List.find?_some hfound
  have hcls : c.cls = 2 := beq_iff_eq.mp hclass
  have hexec : exec (.deferredEjection n) s = .next (s.cellTurn Budget.fresh n c s).2 := by
    change execDeferredEjection n s = _
    unfold execDeferredEjection
    rw [hrun, if_neg (by decide), hfound]
    exact congrArg Host.Outcome.next (if_pos (by rw [heru, Bool.true_or, Bool.and_true]; exact beq_iff_eq.mpr hdest))
  rw [State.cellTurn_resolves h, State.resolve_deferred htree (hdest.trans (State.nodeId_congr hkpr).symm) hcls heru hhere hmay, hwithheld] at hexec
  refine ⟨_, hexec, fun hfree => ?_, fun hheld => ?_⟩
  · rw [if_neg (by rw [hfree]; decide), State.leaveInput_link _ n.isLt, (State.takeRate_parts _ _ _).1, (State.eject_parts _ _ _ _).1,
      State.owesEcho_ejected, hejected]
  · rw [if_pos hheld]
    obtain ⟨h1, h2⟩ := (s.noteSenior c).withhold_parts n
    exact ⟨h1.trans hejected, h2.trans hinject⟩

/-- Settles O31: one cell through the switch, from the injection buffer and from a link's pool. -/
theorem switchMovesCells : Obligations.SwitchMovesCells := by
  unfold Obligations.SwitchMovesCells
  refine ⟨fun c s hrun hinject hlinks hrerouted _ hcheck hcls hyoung => ⟨fun hbare hc5 hdest => ?_, fun v p n d hsealed hversion hdest hsrc henters hfree
    hother hsenior hvalid htakers hport hlink => ?_⟩, fun n v c s hrun hfound hcheck hcls hyoung hsealed hversion hdest hsrc henters hfree htree hhere heru
    hlost hmay => ?_, fun s hstopped => ⟨?_, fun n => ?_⟩⟩
  · exact State.choose_ejects hrun ⟨hlinks, hrerouted⟩ hinject ⟨hcheck, hcls, hyoung⟩ hbare hc5 hdest
  · exact State.choose_routes hrun ⟨hlinks, hrerouted⟩ hinject ⟨⟨hcheck, hcls, hyoung⟩, hsealed, hversion, hdest, hsrc, henters, hfree⟩ hother hsenior hvalid
      htakers hport hlink
  · exact State.deferredEjection_acts hrun hfound ⟨⟨hcheck, hcls, hyoung⟩, hsealed, hversion, hdest, hsrc, henters, hfree⟩ htree hhere heru hlost hmay
  · exact congrArg Host.Outcome.next (if_neg (by rw [hstopped]; decide))
  · exact if_pos (by rw [hstopped]; rfl)

end Sys2Proof.Machine
end

section
/-! The Prompter's registers, arrivals and counters (R258 to R261, R271, R272, R275, R277 to R280). -/

namespace Sys2Proof.Machine

/-! ## Tables -/

/-- A key that the filter drops is not found; one that it keeps is found as before. -/
theorem tabFind_filter {α : Type} (t : Tab α) (p : Nat → Bool) (k : Nat) :
    tabFind (t.filter fun e => p e.1) k = if p k then tabFind t k else none := by
  induction t with
  | nil => simp [tabFind]
  | cons e t ih =>
    obtain ⟨j, v⟩ := e
    by_cases hj : j = k
    · subst hj
      by_cases hp : p j = true <;> simp [tabFind, hp, ih]
    · by_cases hp : p j = true <;> simp [tabFind, hp, ih, hj]

/-- A map of a table's entries, key by key. -/
theorem tabFind_map {α : Type} (t : Tab α) (f : Nat → α → α) (k : Nat) :
    tabFind (t.map fun e => (e.1, f e.1 e.2)) k = (tabFind t k).map (f k) := by
  induction t with
  | nil => rfl
  | cons e t ih =>
    obtain ⟨j, v⟩ := e
    by_cases hj : j = k
    · subst hj
      simp [tabFind]
    · simp [tabFind, hj, ih]

/-! ## Keys of counter blocks and PAUSE -/

/-- A state in which a counter block has another key (R258). -/
def State.rekeyed (t : State) (b key : Nat) : State :=
  (t.setFld (R.ctrKey b) 0 16 key).setPrm { t.prm with
    counters := t.prm.counters.filter fun e => !(e.1 / 64 == b), news := t.prm.news.filter fun e => !(e.1 / 64 == b), keyed := t.prm.keyed ++ [b] }

theorem State.rekeyed_ctr (t : State) (b key c : Nat) : (t.rekeyed b key).ctr c = if c / 64 = b then 0 else t.ctr c := by
  unfold State.rekeyed State.ctr tabGet
  rw [State.setPrm_prm, tabFind_filter t.prm.counters (fun k => !(k / 64 == b))]
  by_cases hc : c / 64 = b <;> simp [hc]

theorem State.rekeyed_fld (t : State) (b key : Nat) : (t.rekeyed b key).fld (R.ctrKey b) 0 16 = key % 2 ^ 16 := by
  unfold State.rekeyed
  rw [State.setPrm_fld, State.fld_setFld_self _ _ _ _ _ (by decide)]

/-- A key write changes nothing where the key is the same, and rekeys the block, whose cues are cancelled, where it is another. -/
theorem State.ctrKeyWrite_acts {a : Source} {b : Fin 1024} {v : Word} {s u : State} (hmay : s.mayWrite a (R.ctrKey b)) (hu : u = s.taken a (R.ctrKey b) v) :
    (bits v 0 16 = u.fld (R.ctrKey b) 0 16 → exec (.ctrKeyWrite a b v) s = .next u) ∧
    (bits v 0 16 ≠ u.fld (R.ctrKey b) 0 16 → u.prm.cues = [] → exec (.ctrKeyWrite a b v) s = .next (u.rekeyed b (bits v 0 16))) := by
  have hacts : exec (.ctrKeyWrite a b v) s = .next (if bits v 0 16 = u.fld (R.ctrKey b) 0 16 then u
      else ((u.rekeyed b (bits v 0 16)).prm.cues.filter fun e => dWait e.2.desc && dWaitCtr e.2.desc / 64 == b.val).foldl
        (fun t e => t.cancelCue e.1 e.2) (u.rekeyed b (bits v 0 16))) := by
    rw [hu]
    exact congrArg Host.Outcome.next (State.fmRw_eq v _ hmay)
  rw [hacts]
  refine ⟨fun hsame => by rw [if_pos hsame], fun hother hcues => ?_⟩
  have hnone : (u.rekeyed b (bits v 0 16)).prm.cues = [] := hcues
  rw [if_neg hother, hnone]
  rfl

theorem b2n_bit (v : Word) (k : Nat) : b2n (bit v k) = bits v k 1 := by
  have hlt : bits v k 1 < 2 := Nat.mod_lt _ (by decide)
  unfold bit b2n
  generalize bits v k 1 = m at hlt
  interval_cases m <;> rfl

theorem State.setPause_fld (s : State) (b : Bool) : (s.setPause b).fld R.prmCfg 0 1 = b2n b := by
  have hset : (s.setFld R.prmCfg 0 1 (b2n b)).fld R.prmCfg 0 1 = b2n b := by
    rw [State.fld_setFld_self _ _ _ _ _ (by decide)]
    cases b <;> rfl
  unfold State.setPause
  dsimp only
  split
  · exact hset
  · split
    · exact (State.setPrm_fld _ _ _ _ _).trans hset
    · exact (State.setPrm_fld _ _ _ _ _).trans hset

/-! ## Arrival rings -/

/-- The head of a ring counts the entries that it passes (R277). -/
theorem State.arrHeadSet_owner {s : State} {a : Source} {ch : Fin 64} {x : Arr} (hx : tabFind s.prm.arrs ch = some x)
    (hmay : (s.winPresent a = true ∧ x.owner = a.val) ∨ s.srcFm a = true) (hfirst : s.foremost a (R.arr ch + 0x10)) (v : Word) :
    (s.arrHeadSet a ch v).fld (R.arr ch + 0x10) 0 16 = bits v 0 16 ∧
    tabFind (s.arrHeadSet a ch v).prm.arrs ch = some { x with consumed := consumedTo x.written x.consumed (bits v 0 16) } := by
  have hright : (s.srcFm a || (s.winPresent a && (x.owner == a.val))) = true := by
    rcases hmay with ⟨hpresent, howner⟩ | hfm
    · rw [hpresent, howner, beq_self_eq_true, Bool.and_self, Bool.or_true]
    · rw [hfm, Bool.true_or]
  have hbits : bits v 0 16 % 2 ^ 16 = bits v 0 16 := Nat.mod_mod _ _
  unfold State.arrHeadSet
  dsimp only
  rw [hx]
  dsimp only
  rw [if_pos hright, State.lastWins_eq _ hfirst]
  refine ⟨(State.fld_setFld_self _ _ _ _ _ (by decide)).trans hbits, ?_⟩
  rw [State.setFld_prm, State.setPrm_prm, tabFind_map s.prm.arrs fun k y => if k = ch.val then
    { y with consumed := consumedTo y.written y.consumed (bits v 0 16) } else y, hx, Option.map_some, if_pos rfl]

theorem State.arrHeadSet_other {s : State} {a : Source} {ch : Fin 64} {x : Arr} (hx : tabFind s.prm.arrs ch = some x) (hfm : s.srcFm a = false)
    (howner : x.owner ≠ a.val) (v : Word) : s.arrHeadSet a ch v = s.violation a 4 true (R.arr ch + 0x10) := by
  unfold State.arrHeadSet
  dsimp only
  rw [hx]
  dsimp only
  refine if_neg fun h => ?_
  rcases Bool.or_eq_true _ _ |>.mp h with h | h
  · exact absurd (hfm.symm.trans h) (by decide)
  · exact howner (beq_iff_eq.mp (Bool.and_eq_true _ _ |>.mp h).2)

/-! ## Updates of counters -/

theorem State.applyUpdate_arrs (s : State) (c : Nat) (set done : Bool) (n src : Nat) : (s.applyUpdate c set done n src).prm.arrs = s.prm.arrs := by
  have hraise (t : State) (a b c d : Nat) : (t.raiseFault a b c d).prm = t.prm := State.agree_of_allBut .prm (by simp)
  unfold State.applyUpdate
  dsimp only
  split
  · rfl
  · split
    · rfl
    · exact (congrArg Prm.arrs (hraise _ _ _ _ _)).trans rfl

theorem State.cycleFor_arrs (s : State) (c : Nat) (set done : Bool) (src : Nat) : (s.cycleFor c set done src).prm.arrs = s.prm.arrs ∧
    (s.cycleFor c set done src).prm.cues = s.prm.cues := by
  rcases s.cycleFor_cases c set done src with h | h <;> rw [h] <;> exact ⟨rfl, rfl⟩

/-- An update is applied in its cycle, unless its block got another key in that cycle or has another key (R259, R260). -/
theorem State.updateCtr_eq (s : State) (c part : Nat) (set done : Bool) (n src : Nat) : s.updateCtr c part set done n src =
    if (s.cycleFor c set done src).prm.keyed.contains (c / 64) then ((s.cycleFor c set done src).bump (R.prmCount 8), none)
    else if s.ctrDenied c part then ((s.cycleFor c set done src).bump (R.prmCount 2), none)
    else ((s.cycleFor c set done src).applyUpdate c set done n src,
      some (if set then ((s.cycleFor c set done src).newsOf c).base else s.ctr c)) := by
  obtain ⟨hcounters, -, -, hregs⟩ := s.cycleFor_keeps c set done src
  unfold State.updateCtr
  dsimp only
  rw [State.ctrDenied_congr hregs, State.ctr_congr hcounters]
  rfl

theorem State.updateCtr_arrs (s : State) (c part : Nat) (set done : Bool) (n src : Nat) : (s.updateCtr c part set done n src).1.prm.arrs = s.prm.arrs := by
  obtain ⟨hcycle, -⟩ := s.cycleFor_arrs c set done src
  rw [State.updateCtr_eq]
  split
  · exact hcycle
  · split
    · exact hcycle
    · exact (State.applyUpdate_arrs _ _ _ _ _ _).trans hcycle

theorem State.countArrival_arrs (s : State) (ch : Nat) (a : Arr) : (s.countArrival ch a).prm.arrs = s.prm.arrs := by
  unfold State.countArrival
  split
  · exact State.updateCtr_arrs _ _ _ _ _ _ _
  · rfl

/-! ## Pieces -/

/-- The cell that tells another node's ring of a piece (R280). -/
def State.pieceCell (s : State) (ep : Nat) (a : Arr) (x : Tracker) : Cell :=
  s.mkCell 0x29 ep a.pkey 0 (BitVec.ofNat 512 (s.arrEntry a x 0).toNat)

theorem State.pieceCell_is (s : State) (ep : Nat) (a : Arr) (x : Tracker) : cellIs (s.pieceCell ep a x) 0x29 = true ∧
    (s.pieceCell ep a x).dest.toNat = ep % 32768 := by
  refine ⟨?_, BitVec.toNat_ofNat ep 15⟩
  exact beq_iff_eq.mpr (by rfl)

/-- The state with an arrival channel's record. -/
def State.withArr (s : State) (ch : Nat) (b : Arr) : State := s.setPrm { s.prm with arrs := tabInsert s.prm.arrs ch b }

theorem State.withArr_counted (s : State) (ch : Nat) (a b : Arr) : tabFind ((s.withArr ch b).countArrival ch a).prm.arrs ch = some b := by
  rw [State.countArrival_arrs]
  exact tabFind_insert_self _ _ _

/-- The ring's entry of a piece, written. -/
def State.entryWritten (s : State) (a : Arr) (x : Tracker) (k : Nat) : State :=
  (s.freeTracker k).writeAt (a.base + 32 * (a.written % a.size)) (toBytes (s.arrEntry a x ((a.written / a.size + 1) % 2)) 32)

/-- A complete piece tells its ring of it, advances its channel and frees its tracker (R278 to R280). -/
theorem State.pieceEntry_acts {k : Fin 4352} {x : Tracker} {a : Arr} {s : State} (hrun : s.running = true) (hx : tabFind s.prm.trackers k = some x)
    (ha : tabFind s.prm.arrs x.chan = some a) (hready : x.ready = true) : exec (.pieceEntry k) s = .next (
      if s.trackerEp k ≠ s.nodeId then
        if s.pieceAcked (s.trackerEp k) x = false then s
        else ((((s.freeTracker k).injectCell (s.pieceCell (s.trackerEp k) a x)).bump (R.prmCount 5)).withArr x.chan
          { a with seq := (a.seq + 1) % 2 ^ 32 }).countArrival x.chan a
      else if a.size ≤ a.unread ∨ s.linesQueued x = true then s
      else (((s.entryWritten a x k).bump (R.prmCount 5)).withArr x.chan
        { a with seq := (a.seq + 1) % 2 ^ 32, written := a.written + 1 }).countArrival x.chan a) := by
  change execPieceEntry k s = _
  unfold execPieceEntry
  rw [hrun, if_neg (by decide), hx]
  dsimp only
  rw [ha]
  dsimp only
  rw [hready, if_neg (by decide)]
  split
  · cases s.pieceAcked (s.trackerEp k) x <;> rfl
  · split <;> rfl

/-- Settles O43: what each of the Prompter's rows writes, and what an update of a counter, an arming and a disarming do. -/
theorem prompterRowsAct : Obligations.PrompterRowsAct := by
  unfold Obligations.PrompterRowsAct
  refine ⟨⟨fun a b v s u hmay hu => ?_, fun a v s hmay => ?_, fun a ch x v s hx => ⟨fun hmay hfirst => ?_, fun hfm howner => ?_⟩,
    fun k x a s hrun hx ha hready => ?_⟩, fun s u c part n src set done hu hkeyed hkey => ?_, fun s c part n src set done hkey => ?_, fun s i => ?_, fun s i => ?_⟩
  · obtain ⟨hsame, hother⟩ := State.ctrKeyWrite_acts hmay hu
    refine ⟨hsame, fun hkey hcues => ⟨_, hother hkey hcues, ?_, fun c hc => ?_, fun c hc => ?_, ?_⟩⟩
    · rw [State.rekeyed_fld]
      exact Nat.mod_mod _ _
    · rw [State.rekeyed_ctr, if_pos hc]
    · rw [State.rekeyed_ctr, if_neg hc]
    · exact List.mem_append_right _ List.mem_cons_self
  · refine ⟨_, congrArg Host.Outcome.next (State.fmRw_eq v _ hmay), ?_⟩
    rw [State.setPause_fld, b2n_bit]
  · exact ⟨_, rfl, State.arrHeadSet_owner hx hmay hfirst v⟩
  · exact congrArg Host.Outcome.next (State.arrHeadSet_other hx hfm howner v)
  · refine ⟨_, State.pieceEntry_acts hrun hx ha hready, fun hremote hacked => ⟨?_, fun hquiet => ?_⟩, fun hremote hwaits => ?_,
      fun hhere hroom hlines => ?_, fun hhere hfull => ?_⟩
    · rw [if_pos hremote, if_neg (by rw [hacked]; decide), State.withArr_counted]
    · obtain ⟨hcell, hdest⟩ := s.pieceCell_is (s.trackerEp k) a x
      refine ⟨s.pieceCell (s.trackerEp k) a x, ?_, hcell, hdest⟩
      rw [if_pos hremote, if_neg (by rw [hacked]; decide), State.countArrival, hquiet]
      rfl
    · rw [if_pos hremote, if_pos hwaits]
    · rw [if_neg (not_not.mpr hhere), if_neg (by rw [hlines]; rintro (h | h) <;> [omega; exact absurd h (by decide)]), State.withArr_counted]
    · rw [if_neg (not_not.mpr hhere), if_pos hfull]
  · obtain ⟨hcounters, -⟩ := s.cycleFor_keeps c set done src
    refine ⟨(s.cycleFor c set done src).applyUpdate c set done n src, _, ?_, ?_, fun k hk => ?_, rfl⟩
    · rw [State.updateCtr_eq, ← hu, hkeyed, hkey]
      rfl
    · rw [State.ctr_applyUpdate, if_pos rfl, ← hu]
      exact toNat_capped _
    · rw [State.ctr_applyUpdate, if_neg hk]
      exact State.ctr_congr hcounters k
  · obtain ⟨hcounters, -⟩ := s.cycleFor_keeps c set done src
    obtain ⟨-, hcues⟩ := s.cycleFor_arrs c set done src
    rw [State.updateCtr_eq, hkey]
    split
    · exact ⟨rfl, hcounters, hcues⟩
    · exact ⟨rfl, hcounters, hcues⟩
  · refine ⟨_, rfl, fun k hk => ?_, ?_, _, tabFind_insert_self _ _ _, rfl, rfl, rfl, rfl, rfl⟩
    · exact tabFind_insert_ne _ _ hk
    · exact State.fld_setFld_self _ _ _ _ _ (by decide)
  · refine ⟨_, rfl, tabFind_erase_self _ _, fun e he => ?_⟩
    exact bne_iff_ne.mp (List.mem_filter.mp he).2

end Sys2Proof.Machine
end

section
/-! The channels of memory, zeroing and scrubbing (R239 to R253). -/

namespace Sys2Proof.Machine

/-! ## Channels -/

theorem State.chan_setChan (s : State) (p k : Nat) (c : Chan) : (s.setChan p c).chan k = if k = p then c else s.chan k := tabGet_set ..

theorem State.chan_congr {s t : State} (h : t.mem = s.mem) (p : Nat) : t.chan p = s.chan p := by
  unfold State.chan
  rw [h]

/-- What refills the queue leaves what the channel still has to issue. -/
theorem Chan.refill_parts (c : Chan) : c.refill.all = c.all ∧ c.refill.accepted = c.accepted ∧ c.refill.locks = c.locks := by
  refine ⟨?_, rfl, rfl⟩
  unfold Chan.refill Chan.all
  dsimp only
  rw [List.append_assoc, List.take_append_drop]

/-- The locks of a channel behind a request that it accepts (R247). -/
def Chan.locksAfter (c : Chan) (r : LineReq) : List Nat :=
  if r.kind = .lockedRead ∧ ! r.second then c.locks ++ [r.line]
  else if r.kind = .mergedWrite then c.locks.filter fun l => l != r.line
  else c.locks

theorem Chan.locksAfter_locks {c : Chan} {r : LineReq} : (r.kind = .lockedRead → r.second = false → r.line ∈ c.locksAfter r) ∧
    (r.kind = .mergedWrite → r.line ∉ c.locksAfter r) := by
  unfold Chan.locksAfter
  refine ⟨fun hkind hfirst => ?_, fun hkind => ?_⟩
  · rw [if_pos ⟨hkind, by rw [hfirst]; rfl⟩]
    exact List.mem_append_right _ List.mem_cons_self
  · rw [if_neg (by rw [hkind]; exact fun h => absurd h.1 (by decide)), if_pos hkind, List.mem_filter]
    exact fun h => absurd h.2 (by simp)

/-- A request as the channel has accepted it. -/
def State.acceptance (s : State) (p : Nat) (r : LineReq) : Accepted :=
  { id := freeId (s.chan p).accepted 256 (s.chan p).nextId, req := r, since := s.now
    addr := (s.plt.active.map fun v => v.sentAddr r.line).getD 0
    code := if r.kind = .read ∨ r.kind = .lockedRead then 0 else memoryCode r.data r.line }

/-- The channel that has accepted a request, before its queue is refilled. -/
def State.acceptedChan (s : State) (p : Nat) (r : LineReq) (rest : List LineReq) : Chan :=
  { s.chan p with queue := rest, accepted := (s.chan p).accepted ++ [s.acceptance p r], locks := (s.chan p).locksAfter r
                  nextId := ((s.acceptance p r).id + 1) % 256 }

/-- The next request that may be issued is accepted (R241, R243, R246 to R248). -/
theorem State.channelRequestAccept_acts {p : Port} {r : LineReq} {rest : List LineReq} {s : State} (hrun : s.running = true ∨ s.kpr.power = .sleeping)
    (hready : s.chanState p = 1 ∨ s.readyFalls p = true) (hroom : (s.chan p).accepted.length < 256)
    (hnext : (s.chan p).next [] (s.chan p).queue = some (r, rest)) :
    ∃ t, exec (.channelRequestAccept p) s = .next t ∧ t.mem = (s.setChan p (s.acceptedChan p r rest).refill).mem := by
  have hexec : exec (.channelRequestAccept p) s = .next (if r.kind = .heal
      then ((s.setChan p (s.acceptedChan p r rest).refill).bump (R.memCount 2)).raiseLimited 33 p 0
      else s.setChan p (s.acceptedChan p r rest).refill) := by
    change execChannelRequestAccept p s = _
    unfold execChannelRequestAccept
    dsimp only
    rw [if_neg, hnext]
    · rfl
    · rintro (h | h | h)
      · exact absurd (decide_eq_true hrun) (by simpa using h)
      · exact absurd (decide_eq_true hready) (by simpa using h)
      · omega
  refine ⟨_, hexec, ?_⟩
  split
  · exact State.agree_of_allBut .mem (by simp)
  · rfl

/-! ## Channels that fail -/

theorem State.lineDone_parts (s : State) (r : LineReq) (f : Job → Job) : (s.lineDone r f).mem = s.mem ∧ (s.lineDone r f).regs = s.regs :=
  ⟨State.forJob_mem _ _ _, State.agree_of_allBut .regs (by simp)⟩

/-- A channel that has failed. -/
def Chan.failedNow (c : Chan) : Chan := { c with failed := true, queue := [], waiting := [], accepted := [], locks := [] }

/-- A channel that fails gives up what it held, and the others are as before (R251 to R253). -/
theorem State.failChan_fails (s : State) (p : Port) : ((s.failChan p).chan p).failed = true ∧ ((s.failChan p).chan p).all = [] ∧
    ((s.failChan p).chan p).accepted = [] ∧ (s.failChan p).arrayBit R.chanFailed p = true ∧ ∀ k, k ≠ p.val → (s.failChan p).chan k = s.chan k := by
  have hdone (l : List LineReq) (f : LineReq → Job → Job) (t : State) : (l.foldl (fun t r => t.lineDone r (f r)) t).mem = t.mem :=
    foldl_keeps State.mem (f := fun t r => t.lineDone r (f r)) (fun t r => (t.lineDone_parts r (f r)).1) l t
  have hmem : (s.failChan p).mem = (s.setChan p (s.chan p).failedNow).mem := by
    have hraise (t : State) : (t.raiseFault 36 p 1 0).mem = t.mem := State.agree_of_allBut .mem (by simp)
    have hmark (t : State) : (t.setArrayBit R.chanFailed p true).mem = t.mem := State.agree_of_allBut .mem (by simp)
    unfold State.failChan
    dsimp only
    rw [hraise, hmark, hdone _ fun _ j => { j with unknown := true }, hdone _ fun r j => j.spoil 32 r.size]
    rfl
  have hbit : (s.failChan p).arrayBit R.chanFailed p = true := by
    have hblock : blockReg (R.chanFailed + 4 * (p.val / 32)) := by
      unfold blockReg R.chanFailed
      omega
    have hraise (t : State) : (t.raiseFault 36 p 1 0).reg (R.chanFailed + 4 * (p.val / 32)) = t.reg (R.chanFailed + 4 * (p.val / 32)) := by
      refine t.raiseFault_reg p 1 0 (not_farReg_of_block hblock) ?_ ?_ ?_ <;>
        simp only [R.faultLost, R.faultSeq, R.faultActive, R.chanFailed] <;> omega
    unfold State.failChan
    dsimp only
    rw [State.arrayBit_of_reg (hraise _)]
    exact State.arrayBit_setArrayBit_self _ _ _ _
  have hchan (k : Nat) : (s.failChan p).chan k = if k = p.val then (s.chan p).failedNow else s.chan k :=
    (State.chan_congr hmem k).trans (State.chan_setChan _ _ _ _)
  rw [hchan p, if_pos rfl]
  exact ⟨rfl, rfl, rfl, hbit, fun k hk => (hchan k).trans (if_neg hk)⟩

/-! ## Answers of a channel -/

/-- A line that is poisoned reads as poisoned, whatever follows. -/
theorem State.poisonLine_poisons (s : State) (p key : Nat) (check : Bool) : (s.poisonLine p key check).poisoned key = true := by
  have hraise (t : State) (code : Nat) : (t.raiseFault code p 1 0).poisoned key = t.poisoned key :=
    State.poisoned_congr (congrArg Mem.poisoned (State.agree_of_allBut .mem (by simp))) key
  have hset : (s.setPoison key true).poisoned key = true := by
    unfold State.poisoned State.setPoison
    exact List.contains_iff_mem.mpr List.mem_cons_self
  have hstart (t : State) (c : Chan) : ((t.cancelHeal p key).setChan p c).poisoned key = t.poisoned key :=
    (State.poisoned_congr (by rfl) key).trans (t.cancelHeal_poisoned p key key)
  have hregs (t : State) (a b : Nat) (v w : Word) : ((t.setReg a v).setReg b w).poisoned key = t.poisoned key := rfl
  unfold State.poisonLine
  dsimp only
  split
  · rw [hraise, hraise, hstart, hregs]
    exact hset
  · rw [hraise, hstart, hregs]
    exact hset

theorem State.readPoisoned_poisoned (s : State) (p : Nat) (r : LineReq) (key : Nat) : (s.readPoisoned p r).poisoned key = s.poisoned key := by
  have hspoil (t : State) : (t.spoilHost r).mem = t.mem := State.agree_of_allBut .mem (by simp)
  unfold State.readPoisoned
  rw [State.poisoned_congr (congrArg Mem.poisoned (State.lineDone_parts _ _ _).1), State.poisoned_congr (congrArg Mem.poisoned (hspoil _))]
  rfl

theorem State.lineDone_noJobs {s : State} (hjobs : s.xfr.jobs = []) (r : LineReq) (f : Job → Job) : s.lineDone r f = s := by
  unfold State.lineDone State.forJob State.modJob
  rw [hjobs]
  split <;> rfl

/-- A channel without the request that it has answered. -/
def Chan.answered (c : Chan) (id : Nat) : Chan := { c with accepted := c.accepted.filter fun x => x.id != id }

/-- An uncorrectable read poisons its line; a write that is answered is accepted no more (R244, R250). -/
theorem State.channelResponse_acts {p : Port} {id : Byte} {a : Accepted} (data : Line) {s : State} (hused : s.portUsed p = true)
    (hworks : (s.chan p).failed = false) (ha : ((s.chan p).accepted.find? fun x => x.id == id.toNat) = some a) (hjobs : s.xfr.jobs = [])
    (hflows : s.xfr.rflows = []) :
    (a.req.kind = .read → ((s.channelResponse p id 2 data 0 false).runTurns).poisoned a.req.line = true) ∧
    (a.req.kind = .write → (s.channelResponse p id 2 data 0 false).runTurns = s.setChan p ((s.chan p).answered id.toNat)) := by
  have hnot : ¬ ((! s.portUsed p) = true ∨ (s.chan p).failed = true) := by
    rw [hused, hworks]
    decide
  have hidle (u : State) (hxfr : u.xfr = s.xfr) : u.runTurns = u := State.runTurns_idle (by rw [hxfr]; exact hflows) (by rw [hxfr]; exact hjobs)
  refine ⟨fun hkind => ?_, fun hkind => ?_⟩
  · have hanswer : s.channelResponse p id 2 data 0 false =
        ((s.setChan p ((s.chan p).answered id.toNat)).poisonLine p a.req.line false).readPoisoned p a.req := by
      unfold State.channelResponse
      dsimp only
      rw [if_neg hnot, ha]
      dsimp only
      rw [hkind]
      rfl
    have hxfr (u : State) (hu : u.xfr = s.xfr) : (u.readPoisoned p a.req).xfr = s.xfr := by
      have hparts : ((u.unlockLine p a.req.line).spoilHost a.req).xfr = u.xfr := State.agree_of_allBut .xfr (by simp)
      unfold State.readPoisoned
      rw [State.lineDone_noJobs (by rw [hparts, hu]; exact hjobs), hparts, hu]
    have hpoison (u : State) : (u.poisonLine p a.req.line false).xfr = u.xfr := State.agree_of_allBut .xfr (by simp)
    have hstart : ((s.setChan p ((s.chan p).answered id.toNat)).poisonLine p a.req.line false).xfr = s.xfr := (hpoison _).trans rfl
    rw [hanswer, hidle _ (hxfr _ hstart), State.readPoisoned_poisoned]
    exact State.poisonLine_poisons _ _ _ _
  · have hanswer : s.channelResponse p id 2 data 0 false = (s.setChan p ((s.chan p).answered id.toNat)).lineDone a.req fun j => j := by
      unfold State.channelResponse
      dsimp only
      rw [if_neg hnot, ha]
      dsimp only
      rw [hkind]
      rfl
    rw [hanswer, State.lineDone_noJobs (by exact hjobs)]
    exact hidle _ rfl

/-- An answer under an ID that the channel did not accept fails it (R249). -/
theorem State.channelResponse_unknown {p : Port} {id : Byte} {s : State} (hused : s.portUsed p = true) (hworks : (s.chan p).failed = false)
    (hnone : ((s.chan p).accepted.find? fun x => x.id == id.toNat) = none) (st : BitVec 2) (data : Line) (code : BitVec 16) (c : Bool) :
    s.channelResponse p id st data code c = s.failChan p := by
  unfold State.channelResponse
  dsimp only
  rw [if_neg (by rw [hused, hworks]; decide), hnone]

/-! ## Zeroing and scrubbing -/

/-- The lines of some extents. -/
def inExtents (far : Bool) (base len key : Nat) : Prop := lineKey far (base * 32768) ≤ key ∧ key < lineKey far (base * 32768) + len * 32768

theorem State.zeroExtents_parts (s : State) (far : Bool) (base len : Nat) : (s.zeroExtents far base len).mem.zeroing = s.mem.zeroing ∧
    (s.zeroExtents far base len).mem.scrub = s.mem.scrub ∧
    ∀ e, e ∈ (s.zeroExtents far base len).memory ↔ e ∈ s.memory ∧ ¬ inExtents far base len (e.1 / 64) := by
  refine ⟨rfl, rfl, fun e => ?_⟩
  unfold State.zeroExtents inExtents
  dsimp only
  rw [List.mem_filter, Bool.not_eq_true', decide_eq_false_iff_not]

/-- Zeroing a region zeroes no other, and leaves nothing listed in its extents where it is not encrypted at rest (R239). -/
theorem State.zeroRegion_zeroes {s : State} {v : PlateV} {g : Region} {p : Place} (hp : tabFind v.places g.num = some p) :
    (s.zeroRegion v g).mem.zeroing = s.mem.zeroing ∧
    (g.xts = false → ∀ e, e ∈ (s.zeroRegion v g).memory ↔ e ∈ s.memory ∧ ¬ inExtents false p.nearBase p.nearLen (e.1 / 64) ∧
      ¬ inExtents true p.farBase p.farLen (e.1 / 64)) := by
  obtain ⟨hzeroing1, -, hmem1⟩ := s.zeroExtents_parts false p.nearBase p.nearLen
  obtain ⟨hzeroing2, -, hmem2⟩ := (s.zeroExtents false p.nearBase p.nearLen).zeroExtents_parts true p.farBase p.farLen
  unfold State.zeroRegion
  rw [hp]
  dsimp only
  refine ⟨?_, fun hplain e => ?_⟩
  · split
    · exact (foldl_keeps (fun t : State => t.mem.zeroing) (f := fun t i => t.writeLine v g (64 * i) 0) (fun _ _ => rfl) _ _).trans (hzeroing2.trans hzeroing1)
    · exact hzeroing2.trans hzeroing1
  · rw [if_neg (by rw [hplain]; decide), hmem2, hmem1, and_assoc]

/-- Settles O42: what each command does to a channel, and the ends of zeroing and of scrubbing. -/
theorem channelsServeRequests : Obligations.ChannelsServeRequests := by
  unfold Obligations.ChannelsServeRequests
  refine ⟨⟨fun p r rest s hrun hready hroom hnext => ?_, fun p id a data s hused hworks ha hjobs hflows => ?_,
    fun p id w c st data code s hused hworks hnone => ?_, fun p s hready => ?_, fun p s => ?_, fun p s hruns hstate => ⟨fun hdue => ?_, fun hearly => ?_⟩,
    fun p s hruns hstate => ⟨fun a ha hlate => ?_, fun hearly => ?_⟩, fun p s _ => s.failChan_fails p⟩, fun n v g p s hrun hzeroing hactive hregion hplace =>
    ⟨fun hfailed => ?_, fun hworks => ?_⟩, fun e rest s hrun hscrub => ⟨fun hfailed => ?_, fun hworks => ?_⟩⟩
  · obtain ⟨t, hexec, hmem⟩ := State.channelRequestAccept_acts hrun hready hroom hnext
    obtain ⟨hall, haccepted, hlocks⟩ := (s.acceptedChan p r rest).refill_parts
    have hchan (k : Nat) : t.chan k = if k = p.val then (s.acceptedChan p r rest).refill else s.chan k :=
      (State.chan_congr hmem k).trans (State.chan_setChan _ _ _ _)
    have hself := (hchan p).trans (if_pos rfl)
    obtain ⟨hlocked, hfreed⟩ := Chan.locksAfter_locks (c := s.chan p) (r := r)
    refine ⟨t, hexec, ?_, ?_, fun hkind hfirst => ?_, fun hkind => ?_, fun k hk => (hchan k).trans (if_neg hk)⟩
    · rw [hself, hall]
      rfl
    · rw [hself, haccepted]
      rfl
    · rw [hself, hlocks]
      exact hlocked hkind hfirst
    · rw [hself, hlocks]
      exact hfreed hkind
  · exact ⟨_, rfl, State.channelResponse_acts data hused hworks ha hjobs hflows⟩
  · exact congrArg (fun t : State => Host.Outcome.next t.runTurns) (State.channelResponse_unknown hused hworks hnone st data code c)
  · refine ⟨_, congrArg Host.Outcome.next (if_pos hready), ?_, fun k hk => ?_⟩
    · rw [State.chan_setChan, if_pos rfl]
    · rw [State.chan_setChan, if_neg hk]
  · refine ⟨_, rfl, ?_, fun k hk => ?_⟩
    · rw [State.chan_setChan, if_pos rfl]
    · rw [State.chan_setChan, if_neg hk]
  · exact if_pos ⟨hruns, hstate, hdue⟩
  · exact if_neg fun h => absurd h.2.2 (Nat.not_le.mpr hearly)
  · exact if_pos ⟨hruns, hstate, List.any_eq_true.mpr ⟨a, ha, decide_eq_true hlate⟩⟩
  · refine if_neg fun h => ?_
    obtain ⟨a, ha, hlate⟩ := List.any_eq_true.mp h.2.2
    exact absurd (of_decide_eq_true hlate) (Nat.not_lt.mpr (hearly a ha))
  · change execZeroingDone n s = _
    unfold execZeroingDone
    dsimp only
    rw [hrun, if_neg (by decide), hfailed, Bool.or_true, if_pos rfl]
  · obtain ⟨hsame, hmem⟩ := State.zeroRegion_zeroes (s := { s with mem := { s.mem with zeroing := s.mem.zeroing.filter fun r => r != n.toNat } }) hplace
    have hexec : exec (.zeroingDone n) s = .next
        (({ s with mem := { s.mem with zeroing := s.mem.zeroing.filter fun r => r != n.toNat } } : State).zeroRegion v g) := by
      change execZeroingDone n s = _
      unfold execZeroingDone
      dsimp only
      rw [hrun, if_neg (by decide), hworks, hzeroing, if_neg (by decide), hactive]
      dsimp only
      rw [hregion]
    refine ⟨_, hexec, ?_, hmem⟩
    rw [hsame]
    exact Bool.eq_false_iff.mpr fun h => absurd (List.mem_filter.mp (List.contains_iff_mem.mp h)).2 (by simp)
  · change execScrubDone s = _
    unfold execScrubDone
    rw [hrun, if_neg (by decide), hscrub]
    exact if_pos hfailed
  · have hexec : exec .scrubDone s = .next (({ s with mem := { s.mem with scrub := rest } } : State).zeroExtents e.far e.base e.len) := by
      change execScrubDone s = _
      unfold execScrubDone
      rw [hrun, if_neg (by decide), hscrub]
      exact if_neg (by rw [hworks]; decide)
    obtain ⟨-, hrest, hmem⟩ := State.zeroExtents_parts ({ s with mem := { s.mem with scrub := rest } } : State) e.far e.base e.len
    exact ⟨_, hexec, hrest, hmem⟩

end Sys2Proof.Machine
end
